-- ==== Sys2Proof/Word.lean ====
section
/-! DEFINITION. The words the part works on: bytes and 32-bit register words (R7 of the manual's conventions, R4, R26). -/

namespace Sys2Proof

/-- One byte of memory, of a frame on SPI or TW0, or of a Plosto payload. -/
abbrev Byte := BitVec 8

/-- One 32-bit register or memory word (R26). -/
abbrev Word := BitVec 32

end Sys2Proof
end

