-- ==== Sys2Proof/Terms.lean ====
section
/-! DEFINITION. The things the commands name: requesters, transports, Plosto requests, frames and their outcomes. -/

namespace Sys2Proof

/-- R27: who makes an access. A Forager channel carries its number, since shadows are kept per channel (R41). -/
inductive Req where
  | spi
  | tw0
  | plostoSpi
  | plostoTw0
  | plostoUdp
  | forager (ch : Fin 32)
  | keeper
deriving DecidableEq, Repr

/-- R27: the requester code. -/
def Req.code : Req → Nat
  | .spi => 0 | .tw0 => 1 | .plostoSpi => 2 | .plostoTw0 => 3 | .plostoUdp => 4 | .forager _ => 5 | .keeper => 6

/-- The transport a Plosto request came by (R77). A UDP request names the link, the key index (0xFF: none), the SEQ, and
the address and port the answer goes to (R86, R87). -/
inductive Via where
  | spi
  | tw0
  | udp (link : Fin 4) (key : Nat) (seq : Word) (ip : Word) (port : BitVec 16)
deriving DecidableEq, Repr

/-- R27: the requester code a transport's commands run under. -/
def Via.req : Via → Req
  | .spi => .plostoSpi | .tw0 => .plostoTw0 | .udp .. => .plostoUdp

/-- A Plosto request that passed its transport checks: transport, TAG and PAYLOAD (R77). The CMD is the row. -/
structure PlReq where
  via : Via
  tag : BitVec 16
  payload : List Byte
deriving DecidableEq, Repr

/-- R45: the status codes. -/
inductive Code where
  | done | busy | state | range | full | absent | auth | sealed | timeout | check | locked | power | aborted | unknown
deriving DecidableEq, Repr

/-- R45: the number of a status code. -/
def Code.num : Code → Nat
  | .done => 0x00 | .busy => 0x01 | .state => 0x02 | .range => 0x03 | .full => 0x04 | .absent => 0x05 | .auth => 0x06
  | .sealed => 0x07 | .timeout => 0x08 | .check => 0x09 | .locked => 0x0A | .power => 0x0B | .aborted => 0x0C
  | .unknown => 0x0D

/-- How a command of a TW0 write phase ended (R61-R63): another command follows; a repeated start; a STOP, with the PEC
byte sent before it if one was; or a byte after the command that is no command code. In place of the command, a byte that is no
command code. -/
inductive TwEnd where
  | more
  | restart
  | stop (pec : Option Byte)
  | badCode (code : Byte)
  | noCode (code : Byte)
deriving DecidableEq, Repr

/-- R68, R69: what the target of a TW1 transfer does: it acknowledges every byte, and sends data and, where asked, a PEC; or it does
not acknowledge its address with the write bit or the read bit, or the byte after `n` acknowledged ones that were written. -/
inductive TwOutcome where
  | answered (read : List Byte) (pec : Byte)
  | addrNack (rd : Bool)
  | dataNack (n : Nat)
deriving DecidableEq, Repr

/-- How a bus-clear attempt ended: SDA was seen high, or stayed low through nine clocks (R71). -/
inductive BusClear where
  | freed
  | stuck
deriving DecidableEq, Repr

/-- R271: one leg's voltage in mV at the end of the on-interval of its high-side and of its low-side switch in the last
limited period; none where that switch was not on. -/
structure LegRead where
  hi : Option Nat
  lo : Option Nat
deriving DecidableEq, Repr

/-- R271: what a trip finds: the readings of both legs, the rail in mV, whether both legs stand at their driven levels,
the differential output and v* in mV, the peak leg current in 10 mA, and the leg voltages recorded, in 0.2 V. -/
structure TripRead where
  p : LegRead
  n : LegRead
  rail : Nat
  driven : Bool
  diff : Nat
  vstar : Nat
  peak : BitVec 16
  vp : Byte
  vn : Byte
deriving DecidableEq, Repr

/-- R158: what a frame-sync guard finds: an active edge after a count of bit clocks since the last; no active edge by
SLOTS * 32 + 2; or a bit clock outside the tolerance of R152. -/
inductive FrameErr where
  | edge (bclks : Nat)
  | missing
  | rate
deriving DecidableEq, Repr

/-- A frame that passes on a TDM port's balls: whether its sync is good (R158), and the words of TDMn_RXD by slot. -/
structure TdmFrame where
  good : Bool
  words : List Word
deriving DecidableEq, Repr

/-- A grandmaster's data set as an Announce message carries it (R176): priorities, class, accuracy, variance, identity
and steps removed, with the port that sent it. -/
structure Announce where
  prio1 : Byte
  cls : Byte
  acc : Byte
  var : BitVec 16
  prio2 : Byte
  gm : BitVec 64
  steps : BitVec 16
  sender : BitVec 80
deriving DecidableEq, Repr

/-- R167: what a PHY answers to a poll: its registers 1, 4, 5, 9 and 10. -/
structure PhyAnswer where
  r1 : BitVec 16
  r4 : BitVec 16
  r5 : BitVec 16
  r9 : BitVec 16
  r10 : BitVec 16
deriving DecidableEq, Repr

/-- R295: a shift amount: SH5, or Dt[5:0]. -/
inductive ShiftBy where
  | imm (n : BitVec 5)
  | reg (y : BitVec 5)
deriving DecidableEq, Repr

/-- R305: the step of a pointer update: the unit's T (TSEL = 1), or IMM17 (TSEL = 0). -/
inductive StepBy where
  | unit
  | imm (m : BitVec 17)
deriving DecidableEq, Repr

/-- R307: a loop count: CNT10, or Dc. -/
inductive LoopBy where
  | imm (n : BitVec 10)
  | reg (x : BitVec 5)
deriving DecidableEq, Repr

/-- R303, R304: the fields of an M-format instruction other than OP: accumulator group, the data groups of x and y, the
two loads (whether made, into which group, through which pointer unit), the signs, and the loads' post-updates. -/
structure MacOps where
  aq : BitVec 1
  xs : BitVec 3
  ys : BitVec 3
  l1 : Bool
  l1d : BitVec 3
  l1u : BitVec 3
  l2 : Bool
  l2d : BitVec 3
  l2u : BitVec 3
  mm : BitVec 2
  s1 : Bool
  s2 : Bool
deriving DecidableEq, Repr

/-- R383: what the service measures of a speaker line in a window: whether the channel was in PLAY throughout and whether
it switched, the band RMS of v in mV and of i in 0.1 mA, Z in mOhm and IGND in 0.1 mA, whether the coherence and every
result of the passes were good. -/
structure LineMeas where
  play : Bool
  switched : Bool
  v : Nat
  i : Nat
  z : Nat
  ignd : Nat
  coherent : Bool
  adc : Bool
deriving DecidableEq, Repr

/-- R387: what a sweep finds: the line's measure over it, whether a microphone was valid, the band level there in 0.1 dB,
and whether another contributor joined the sink. -/
structure SweepMeas where
  line : LineMeas
  mic : Bool
  lvl : Int
  disturbed : Bool
deriving DecidableEq, Repr

/-- R404: the STATE byte of a black-box record. -/
inductive RecState where
  | writing | valid | pinned
deriving DecidableEq, Repr

/-- R404: one black-box record. `crc` is the check value stored with it; a record whose stored value is not the CRC of its
bytes fails its check. A queued record has no SEQ yet (0). -/
structure BbxRec where
  seq : Nat
  st : RecState
  sev : Nat
  swarm : Bool
  forced : Bool
  uptime : BitVec 64
  waggle : BitVec 64
  wq : Byte
  unit : Nat
  code : Nat
  src : Nat
  payload : List Byte
  crc : Word
deriving DecidableEq, Repr

/-- R394: the kinds of a boot log's entries. -/
inductive LogKind where
  | commit | attempt | confirm | reject
deriving DecidableEq, Repr

/-- R394: a boot log entry: its kind, SECVER and reason code; `order` tells which of two slots' entries is the newer. -/
structure LogEntry where
  kind : LogKind
  secver : Nat
  reason : Nat
  order : Nat
deriving DecidableEq, Repr

/-- R394: an image slot of the flash: its image and its boot log, oldest entry first. -/
structure SlotImage where
  bytes : List Byte
  log : List LogEntry
deriving DecidableEq, Repr

/-- R363, R408: a sector of the black-box mirror: its number, erase count, RETIRED, and the record places written so far
(none: a place left EMPTY). -/
structure BbxSector where
  num : Nat
  erases : Nat
  retired : Bool
  recs : List (Option BbxRec)
deriving DecidableEq, Repr

/-- R363, R416: a sector of the telemetry log: its number, erase count, RETIRED, and its frames, oldest first. -/
structure LogSector where
  num : Nat
  erases : Nat
  retired : Bool
  frames : List (List Byte)
deriving DecidableEq, Repr

/-- R350: the contents of the flash: the layout table's sector, the image slots, the library halves (R352) as the bytes
written from their start, the half that is ACTIVE (R402), the sectors of the mirror and of the log, oldest contents first,
and the number of boot log entries ever written. -/
structure FlashImage where
  hdr : List Byte
  slots : List SlotImage
  libs : List (List Byte)
  active : Option Nat
  bbx : List BbxSector
  log : List LogSector
  order : Nat
deriving DecidableEq, Repr

/-- R348: what the probe finds: no answer, no usable SFDP, a size out of range, or a flash of a manufacturer code and a size
in MB; `written` where the flash was given contents by other means since the last boot (Bentan provisions it). -/
inductive FlashProbe where
  | noAnswer
  | sfdp
  | badSize (mb : Nat)
  | found (mfr : Byte) (mb : Nat) (written : Option FlashImage)
deriving DecidableEq, Repr

/-- R405, R451: how a record's write to MRAM goes: written and read back; read back wrong; or cut off by a loss of supply
or a reset between its two phases. -/
inductive MramWrite where
  | done | badRead | cut
deriving DecidableEq, Repr

/-- R411, R413: the memories the scrub passes: an address of the address space, a word of Keeper SRAM, or one of the
Scout's model memory. -/
inductive ScrubSpace where
  | space | sram | model
deriving DecidableEq, Repr

/-- R411, R413: what the scrub finds in a word, or the end of a pass with its duration in ms. -/
inductive ScrubStep where
  | corrected (sp : ScrubSpace) (a : Nat)
  | uncorrectable (sp : ScrubSpace) (a : Nat)
  | passEnd (ms : Nat)
deriving DecidableEq, Repr

/-- R418: what SWARM_RELEASE lets go: the oldest frame that a DELAY rule holds on a link, in a direction and class, `at_` ns after the
last fabric period, or the lines of a two-wire bus. -/
inductive SwarmHold where
  | frame (n : Fin 4) (tx : Bool) (cls : Fin 34) (at_ : Nat)
  | lines (port : Fin 2)
deriving DecidableEq, Repr

/-- R426: what returns the part from Idle. -/
inductive IdleWake where
  | access | cue | wakeIn
deriving DecidableEq, Repr

/-- What one fabric period finds outside the fabric (R15): the samples that the decimation chains of microphones and inputs
deliver, as Q1.31 by source number (none: 0); the frames that passed in the period on TDM ports, oldest first (R156, R160);
network channels and granules of delay lines with an uncorrectable error (R186, R116); by carrier period the mean rails of the boosts
in 10 mV (R258) and the sensed outputs of the channels in microvolts (R259); the samples of the headset microphones at 384 kHz (R245);
the bias currents of the inputs in 0.05 mA (R250), the microphone fractions F in 1/65536 (R244), and PVIN in 0.1 V, as measured. -/
structure PeriodIn where
  samples : List (BitVec 10 × Word)
  tdm : List (Fin 16 × List TdmFrame)
  ringErrs : List (Fin 256)
  lineErrs : List (BitVec 10 × Nat)
  rails : List (Fin 4 × List (BitVec 12))
  senses : List (Fin 8 × List Int)
  mics : List (Fin 4 × List Word)
  ibias : List (Fin 8 × Byte)
  micF : List (Fin 4 × BitVec 16)
  pvin : Option (BitVec 10)
deriving DecidableEq, Repr

/-- R331: the odometer input whose level changed, or both in one sample. -/
inductive OdoEdge where
  | a | b | both
deriving DecidableEq, Repr

end Sys2Proof
end

