-- ==== Sys2Proof/Syntax.lean ====
section
/-! DEFINITION. The commands of the part: one constructor per row of the table of operations and events. The table gives
a row no operands; those here are what the row's rule says the step depends on, everything that comes from outside the
part (samples, packets, measured values, pin levels) among them. -/

namespace Sys2Proof

inductive Instr where
  /-- FABRIC_PERIOD (R15). -/
  | fabricPeriod (x : PeriodIn)
  /-- REGISTER_WRITE (R19). -/
  | registerWrite (r : Req) (a : BitVec 24) (v : Word)
  /-- READ_LO_SHADOW (R41). -/
  | readLoShadow (r : Req) (a : BitVec 24)
  /-- READ_HI_SHADOW (R41). -/
  | readHiShadow (r : Req) (a : BitVec 24)
  /-- WRITE_LO_HOLD (R42). -/
  | writeLoHold (r : Req) (a : BitVec 24) (v : Word)
  /-- WRITE_HI_COMMIT (R42). -/
  | writeHiCommit (r : Req) (a : BitVec 24) (v : Word)
  /-- EVENT_CLEAR (R39). -/
  | eventClear (r : Req) (p : Fin 77) (bits : Word) (hw : Word)
  /-- EVT_FORCE (R37). -/
  | evtForce (r : Req) (p : Fin 77) (bits : Word)
  /-- COUNTER_CLEAR (R32). -/
  | counterClear (r : Req) (a : BitVec 24) (v : Word) (hit : Bool)
  /-- SNAP_TAKE (R43). -/
  | snapTake (r : Req) (p : Fin 77) (clr : Bool)
  /-- SNAP_RELEASE (R43). -/
  | snapRelease (r : Req) (p : Fin 77)
  /-- SOFT_RESET (R35). -/
  | softReset (r : Req) (p : Fin 77)
  /-- SOFT_RESET_DONE (R35). -/
  | softResetDone (p : Fin 77)
  /-- PAGE_LOCK (R36). -/
  | pageLock (r : Req) (p : Fin 77)
  /-- BLOCK_ENABLE (R34). -/
  | blockEnable (r : Req) (p : Fin 77) (en : Bool)
  /-- DEVRST (R452). -/
  | devrst (r : Req) (v : Word)
  /-- RESET_N (R452). -/
  | resetN
  /-- POWER_ON (R450). -/
  | powerOn (twa : Fin 8)
  /-- POR_RELEASE (R450). -/
  | porRelease
  /-- BROWN_OUT (R451). -/
  | brownOut
  /-- AVBIAS_LOW (R451). -/
  | avbiasLow
  /-- RESET_AFTER_STOP (R452). -/
  | resetAfterStop
  /-- WATCHDOG_RESET (R395). -/
  | watchdogReset
  /-- DIE_LINK_LOSS (R9). -/
  | dieLinkLoss
  /-- LINK_RECOVERY (R273). -/
  | linkRecovery
  /-- POWER_FAIL (R268). -/
  | powerFail
  /-- POWER_FAIL_END (R248). -/
  | powerFailEnd
  /-- SPI_READ (R53). -/
  | spiRead (dsel : Byte) (args : List Byte)
  /-- SPI_READ_TIMEOUT (R53). -/
  | spiReadTimeout (dsel : Byte) (args : List Byte)
  /-- SPI_WRITE (R54). -/
  | spiWrite (dsel : Byte) (args : List Byte)
  /-- SPI_PLOSTO_REQ (R80). -/
  | spiPlostoReq (dsel : Byte) (frame : List Byte)
  /-- SPI_PLOSTO_RSP (R80). -/
  | spiPlostoRsp (dsel : Byte) (n : Nat)
  /-- SPI_STATUS (R52). -/
  | spiStatus (dsel : Byte)
  /-- SPI_UNKNOWN_OPCODE (R52). -/
  | spiUnknownOpcode (dsel : Byte) (op : Byte)
  /-- SPI_WAKE_MATCH (R57). -/
  | spiWakeMatch (dsel : Byte)
  /-- TW_SET_ADDR (R61). -/
  | twSetAddr (args : List Byte) (e : TwEnd)
  /-- TW_READ_WORD (R64). -/
  | twReadWord (acked : Nat)
  /-- TW_READ_BLOCK (R64). -/
  | twReadBlock (args : List Byte) (acked : Nat)
  /-- TW_WRITE_WORD (R62). -/
  | twWriteWord (args : List Byte) (e : TwEnd)
  /-- TW_WRITE_BLOCK (R62). -/
  | twWriteBlock (args : List Byte) (e : TwEnd)
  /-- TW_PLOSTO (R80). -/
  | twPlosto (frame : List Byte) (e : TwEnd) (read : Nat)
  /-- TW_STATUS (R61). -/
  | twStatus
  /-- TW_FETCH_TIMEOUT (R64). -/
  | twFetchTimeout (words : Nat)
  /-- SCL_TMO (R65). -/
  | sclTmo
  /-- PROTO (R66). -/
  | twProto (held : Nat)
  /-- TW1_GO (R68). -/
  | tw1Go (r : Req) (k : Fin 4) (v : Word)
  /-- TW1_TRANSFER (R68). -/
  | tw1Transfer
  /-- TW1_TRANSFER_DONE (R69). -/
  | tw1TransferDone (o : TwOutcome)
  /-- ARB_LOST (R70). -/
  | arbLost
  /-- TW1_ARB_RETRY (R70). -/
  | tw1ArbRetry
  /-- SCL_STUCK (R69). -/
  | sclStuck
  /-- TW1_BUSCLR (R71). -/
  | tw1Busclr (r : Req) (b : BusClear)
  /-- TW1_CLR_FAULT (R71). -/
  | tw1ClrFault (r : Req) (b : BusClear)
  /-- TW1_SDA_LOW_DETECT (R71). -/
  | tw1SdaLowDetect (b : BusClear)
  /-- BUS_CLEAR_RETRY (R71). -/
  | busClearRetry (b : BusClear)
  /-- UDP_DATAGRAM (R88). -/
  | udpFrame (n : Fin 4) (f : List Byte)
  /-- PLOSTO_UNKNOWN (R83). -/
  | plostoUnknown (cmd : Byte) (q : PlReq)
  /-- PING (R84). -/
  | ping (q : PlReq)
  /-- READ (R85). -/
  | read (q : PlReq)
  /-- WRITE (R79). -/
  | write (q : PlReq)
  /-- MODIFY (R85). -/
  | modify (q : PlReq)
  /-- EVENTS (R84). -/
  | events (q : PlReq)
  /-- KEY_SET (R91). -/
  | keySet (q : PlReq)
  /-- NONCE_RENEW (R90). -/
  | nonceRenew (q : PlReq)
  /-- XP_MAP_WRITE (R93). -/
  | xpMapWrite (r : Req) (k : Fin 8192) (v : Word)
  /-- XP_GAIN_WRITE (R94). -/
  | xpGainWrite (r : Req) (k : Fin 8192) (v : Word)
  /-- XP_DEL_WRITE (R94). -/
  | xpDelWrite (r : Req) (k : Fin 8192) (v : Word)
  /-- XP_SET (R105). -/
  | xpSet (q : PlReq)
  /-- XP_SET_SWAP (R99). -/
  | xpSetSwap (q : PlReq)
  /-- XP_REMOVE (R105). -/
  | xpRemove (q : PlReq)
  /-- XP_QUERY (R105). -/
  | xpQuery (q : PlReq)
  /-- CROSSPOINT_RAMP_END (R97). -/
  | crosspointRampEnd (k : Fin 8192)
  /-- CROSSFADE_END (R99). -/
  | crossfadeEnd (k : Fin 8192)
  /-- RELEASE_END (R101). -/
  | releaseEnd (k : Fin 8192)
  /-- TRIM_WRITE (R110). -/
  | trimWrite (r : Req) (k : Fin 1024) (v : Word)
  /-- TRIM_RAMP_END (R110). -/
  | trimRampEnd (k : Fin 1024)
  /-- DELAY_CHANGE (R116). -/
  | delayChange (r : Req) (k : Fin 1024) (v : Word)
  /-- DELAY_XFADE_END (R116). -/
  | delayXfadeEnd (k : Fin 1024)
  /-- BQ_LOAD (R112). -/
  | bqLoad (r : Req) (clr : Bool)
  /-- BQ_READ (R112). -/
  | bqRead (r : Req)
  /-- SINK_SET (R118). -/
  | sinkSet (q : PlReq)
  /-- SINK_QUERY (R118). -/
  | sinkQuery (q : PlReq)
  /-- ZLA_ENABLE (R119). -/
  | zlaEnable (r : Req) (z : Fin 16) (v : Word)
  /-- ZLA_DISABLE (R119). -/
  | zlaDisable (r : Req) (z : Fin 16) (v : Word)
  /-- ZLA_DECISION (R121). -/
  | zlaDecide (z : Fin 16)
  /-- KEEPER_TO_REFERENCE (R126). -/
  | keeperToReference
  /-- REF_FAIL (R127). -/
  | refFail
  /-- REF_RECOVERY (R127). -/
  | refRecovery
  /-- REF_START_TIMEOUT (R466). -/
  | refStartTimeout
  /-- REF_FAIL_IN_SLEEP (R148). -/
  | refFailInSleep
  /-- PLL_FAIL (R149). -/
  | pllFail (p : Fin 3)
  /-- PLL_RESTART (R149). -/
  | pllRestart (up : Fin 8)
  /-- SERVO_UPDATE (R134). -/
  | servoUpdate (errs : List Int) (dev : BitVec 16)
  /-- FABRIC_STEP_RESUME (R139). -/
  | fabricStepResume (e : Int)
  /-- HOLDOVER_EXPIRY (R135). -/
  | holdoverExpiry
  /-- CLK_MEDIA_CFG_WRITE (R140). -/
  | clkMediaCfgWrite (r : Req) (v : Word)
  /-- REF_MODE_CHANGE (R140). -/
  | refModeChange (r : Req) (v : Word)
  /-- ASRC_GROUP_LOCK (R143). -/
  | asrcGroupLock (g : Fin 16) (ratio : Word)
  /-- ASRC_QUERY (R151). -/
  | asrcQuery (q : PlReq)
  /-- TDM_START (R157). -/
  | tdmStart (r : Req) (n : Fin 16) (v : Word)
  /-- TDM_STOP (R157). -/
  | tdmStop (r : Req) (n : Fin 16) (v : Word)
  /-- TDM_STARTED (R157). -/
  | tdmStarted (n : Fin 16)
  /-- FRAME_SYNC_ERROR (R158). -/
  | frameSyncError (n : Fin 16) (e : FrameErr)
  /-- TDM_CLOCK_LOSS (R158). -/
  | tdmClockLoss (n : Fin 16)
  /-- TDM_RELOCK (R159). -/
  | tdmRelock (n : Fin 16)
  /-- DRIVE_FAULT (R161). -/
  | driveFault (n : Fin 16)
  /-- ETH_UP (R168). -/
  | ethUp (r : Req) (n : Fin 4) (v : Word)
  /-- ETH_DOWN (R168). -/
  | ethDown (r : Req) (n : Fin 4) (v : Word)
  /-- PHY_POLL (R167). -/
  | phyPoll (n : Fin 4) (a : Option PhyAnswer)
  /-- SGMII_LINK_DOWN (R167). -/
  | sgmiiLinkDown (n : Fin 4)
  /-- MDIO_GO (R167). -/
  | mdioGo (r : Req) (n : Fin 4) (v : Word)
  /-- MDIO_DONE (R167). -/
  | mdioDone (n : Fin 4) (a : Option (BitVec 16))
  /-- ETH_FRAME_DISCARD (R170). -/
  | ethFrameDiscard (n : Fin 4) (f : List Byte)
  /-- ARP_RECEIVE (R171). -/
  | arpFrame (n : Fin 4) (f : List Byte)
  /-- ARP_AGE (R171). -/
  | arpAge (n : Fin 4) (ip : Word)
  /-- ARP_RETRY (R196). -/
  | arpRetry (n : Fin 4)
  /-- ICMP_ECHO (R169). -/
  | echoFrame (n : Fin 4) (f : List Byte)
  /-- IGMP_QUERY (R172). -/
  | igmpFrame (n : Fin 4) (f : List Byte)
  /-- IGMP_REPORT_TIMER (R172). -/
  | igmpReport (n : Fin 4) (g : Word)
  /-- PTP_SYNC (R178). -/
  | ptpSync (n : Fin 4) (at_ : Nat) (f : List Byte)
  /-- PTP_ANNOUNCE (R176). -/
  | announceFrame (n : Fin 4) (f : List Byte)
  /-- ANNOUNCE_TIMEOUT (R174). -/
  | announceTimeout (n : Fin 4)
  /-- PTP_DELAY_MSG (R174). -/
  | ptpDelayMsg (n : Fin 4) (at_ : Nat) (f : List Byte)
  /-- PTP_TX_TIMER (R174). -/
  | ptpTimer (n : Fin 4) (k : Fin 3) (at_ : Nat)
  /-- PTP_SYNC_TIMEOUT (R178). -/
  | ptpSyncTimeout (n : Fin 4)
  /-- PTP_CFG_WRITE (R174). -/
  | ptpCfgWrite (r : Req) (n : Fin 4) (bmc : Bool) (v : Word)
  /-- PTP_TIME_WRITE (R176). -/
  | ptpTimeWrite (r : Req) (n : Fin 4) (v : Word)
  /-- STREAM_ENABLE (R182). -/
  | streamEnable (r : Req) (tx : Bool) (j : Fin 32) (v : Word)
  /-- STREAM_DISABLE (R181). -/
  | streamDisable (r : Req) (tx : Bool) (j : Fin 32) (v : Word)
  /-- RTP_RECEIVE (R187). -/
  | rtpReceive (n : Fin 4) (f : List Byte)
  /-- STREAM_STALL (R192). -/
  | streamStall (j : Fin 32)
  /-- STREAM_PACKET_TX (R194). -/
  | streamPacketTx (j : Fin 32)
  /-- STREAM_SET (R201). -/
  | streamSet (q : PlReq)
  /-- STREAM_CLEAR (R201). -/
  | streamClear (q : PlReq)
  /-- STREAM_QUERY (R201). -/
  | streamQuery (q : PlReq)
  /-- PDM_MODE_CHANGE (R210). -/
  | pdmGoOn
  /-- PDM_SWITCH (R210). -/
  | pdmSwitch
  /-- PDM_SETTLE_END (R210). -/
  | pdmSettleEnd
  /-- PDM_CLK_FAULT (R209). -/
  | pdmClkFault (g : Fin 4)
  /-- MIC_ABSENT (R209). -/
  | micAbsent (i : Fin 32)
  /-- MIC_SAT (R209). -/
  | micSat (i : Fin 32)
  /-- MIC_OK (R209). -/
  | micOk (i : Fin 32)
  /-- PDM_CLR_FLT (R209). -/
  | pdmClrFlt (r : Req) (v : Word)
  /-- BZ_SAMPLE (R212). -/
  | bzSample (n : Fin 2) (v : Word)
  /-- KNOCK_REARM (R212). -/
  | knockRearm (n : Fin 2)
  /-- SCOUT_FRAME (R216). -/
  | scoutFrameEnd
  /-- VAD_OFF (R215). -/
  | vadOff
  /-- SEAL_TIMEOUT (R227). -/
  | sealTimeout
  /-- SCT_CLOSE (R227). -/
  | sctClose (r : Req) (v : Word)
  /-- SCT_START (R232). -/
  | sctStart (r : Req) (v : Word)
  /-- SCT_STOP (R232). -/
  | sctStop (r : Req) (v : Word)
  /-- SCT_MIC_WRITE (R229). -/
  | sctMicWrite (r : Req) (v : Word)
  /-- SLOT_ENABLE (R223). -/
  | slotEnable (r : Req) (k : Fin 4) (v : Word)
  /-- MODEL_ECC_ERROR (R222). -/
  | modelEccError (k : Fin 4)
  /-- MODEL_LOAD_BEGIN (R222). -/
  | modelLoadBegin (q : PlReq)
  /-- MODEL_LOAD_DATA (R222). -/
  | modelLoadData (q : PlReq)
  /-- MODEL_LOAD_END (R222). -/
  | modelLoadEnd (q : PlReq)
  /-- MODEL_LOAD_ERASE (R222). -/
  | modelLoadErase (q : PlReq)
  /-- RING_READ (R228). -/
  | ringRead (q : PlReq)
  /-- AIN_ENABLE (R236). -/
  | ainEnable (r : Req) (n : Fin 8) (v : Word)
  /-- AIN_SETTLED (R236). -/
  | ainSettled (n : Fin 8)
  /-- AIN_GAIN_STEP (R235). -/
  | ainGainStep (n : Fin 8)
  /-- AIN_CLIP (R236). -/
  | ainClip (n : Fin 8)
  /-- AIN_CLIP_END (R236). -/
  | ainClipEnd (n : Fin 8)
  /-- AIN_OPEN (R236). -/
  | ainOpen (n : Fin 8) (ibias : Byte)
  /-- AIN_SHORT (R236). -/
  | ainShort (n : Fin 8) (ibias : Byte)
  /-- AIN_SHORT_RETRY (R236). -/
  | ainShortRetry (n : Fin 8)
  /-- AIN_RECOVER (R236). -/
  | ainRecover (n : Fin 8) (ibias : Byte)
  /-- AIN_DISABLE (R236). -/
  | ainDisable (r : Req) (n : Fin 8) (v : Word)
  /-- AIN_OFF (R236). -/
  | ainOff (n : Fin 8)
  /-- LO_START (R238). -/
  | loStart (r : Req) (n : Fin 8) (v : Word)
  /-- LO_START_DONE (R238). -/
  | loStartDone (n : Fin 8)
  /-- LO_STOP (R238). -/
  | loStop (r : Req) (n : Fin 8) (v : Word)
  /-- LO_STOP_DONE (R238). -/
  | loStopDone (n : Fin 8)
  /-- LO_MUTE (R238). -/
  | loMute (r : Req) (n : Fin 8) (v : Word)
  /-- LO_UNMUTE (R238). -/
  | loUnmute (r : Req) (n : Fin 8) (v : Word)
  /-- LO_MUTE_DONE (R238). -/
  | loMuteDone (n : Fin 8)
  /-- LO_SHORT (R239). -/
  | loShort (n : Fin 8)
  /-- LO_CLR (R239). -/
  | loClr (r : Req) (n : Fin 8)
  /-- HS_ENABLE (R241). -/
  | hsEnable (r : Req) (n : Fin 4) (v : Word)
  /-- HS_DISABLE (R252). -/
  | hsDisable (r : Req) (n : Fin 4) (v : Word)
  /-- JACK_DET_CHANGE (R241). -/
  | jackDetChange (n : Fin 4) (level : Bool)
  /-- HS_DEBOUNCE_END (R241). -/
  | hsDebounceEnd (n : Fin 4)
  /-- HS_CLASSIFY_END (R242). -/
  | hsClassifyEnd (n : Fin 4) (zl zr f : BitVec 16)
  /-- HS_REMOVE (R243). -/
  | hsRemove (n : Fin 4)
  /-- HS_OUT_SHORT (R241). -/
  | hsOutShort (n : Fin 4)
  /-- HS_BUTTON_EDGE (R244). -/
  | hsButtonEdge (n : Fin 4) (f : BitVec 16)
  /-- HS_BUTTON (R244). -/
  | hsButton (n : Fin 4) (f : BitVec 16)
  /-- HS_OUTMUTE (R243). -/
  | hsOutmute (r : Req) (n : Fin 4) (v : Word) (mute : Bool)
  /-- AMP_START (R267). -/
  | ampStart (r : Req) (n : Fin 8) (v : Word)
  /-- AMP_START_DONE (R267). -/
  | ampStartDone (n : Fin 8)
  /-- AMP_STOP (R267). -/
  | ampStop (r : Req) (n : Fin 8) (v : Word)
  /-- AMP_STOP_DONE (R267). -/
  | ampStopDone (n : Fin 8)
  /-- FAST_STOP_DONE (R268). -/
  | fastStopDone (n : Fin 8)
  /-- AMP_MUTE (R267). -/
  | ampMute (r : Req) (n : Fin 8) (v : Word)
  /-- AMP_UNMUTE (R267). -/
  | ampUnmute (r : Req) (n : Fin 8) (v : Word)
  /-- AMP_MUTE_DONE (R267). -/
  | ampMuteDone (n : Fin 8)
  /-- AMP_CURRENT_LIMIT (R270). -/
  | ampLimitRun (n : Fin 8)
  /-- AMP_TRIP (R271). -/
  | ampTrip (n : Fin 8) (hard : Bool) (t : TripRead)
  /-- AMP_RETRY (R272). -/
  | ampRetry (n : Fin 8)
  /-- AMP_CLR (R272). -/
  | ampClr (r : Req) (n : Fin 8) (v : Word)
  /-- AMP_CLEAR (R282). -/
  | ampClear (q : PlReq)
  /-- AMP_DC_FAULT (R274). -/
  | ampDcFault (n : Fin 8) (dc : BitVec 16)
  /-- LOOPSAT (R260). -/
  | loopsat (n : Fin 8)
  /-- SENSE_OPEN (R260). -/
  | senseOpen (n : Fin 8)
  /-- SENSE_RECOVER (R260). -/
  | senseRecover (n : Fin 8)
  /-- POWER_LIMIT_UPDATE (R275). -/
  | powerLimitUpdate (n : Fin 8) (pm : Int) (ipk : BitVec 16)
  /-- THERMAL_UPDATE (R276). -/
  | thermalUpdate (t : List (BitVec 16))
  /-- AMP_OVER_TEMP (R277). -/
  | ampOverTemp (n : Fin 8) (t : BitVec 16)
  /-- AMP_OT_RESTART (R277). -/
  | ampOtRestart (n : Fin 8) (t : BitVec 16)
  /-- BOOST_PRECHARGE_DONE (R261). -/
  | boostPrechargeDone (p : Fin 4)
  /-- BOOST_PRECHARGE_TIMEOUT (R261). -/
  | boostPrechargeTimeout (p : Fin 4) (vrail pvin : BitVec 16)
  /-- BOOST_HOLD_EXPIRE (R262). -/
  | boostHoldExpire (p : Fin 4)
  /-- BOOST_OVP (R264). -/
  | boostOvp (p : Fin 4)
  /-- BOOST_OVP_END (R264). -/
  | boostOvpEnd (p : Fin 4)
  /-- RAIL_OVP_TRIP (R264). -/
  | railOvpTrip (p : Fin 4)
  /-- RAIL_LOW (R264). -/
  | railLow (p : Fin 4) (vrail pvin : BitVec 16)
  /-- BOOST_CLR (R264). -/
  | boostClr (r : Req) (p : Fin 4)
  /-- PVIN_OUT (R265). -/
  | pvinOut (p : Fin 4) (pvin : BitVec 10)
  /-- PVIN_OK (R265). -/
  | pvinOk (p : Fin 4) (pvin : BitVec 10)
  /-- PVIN_COLLAPSE (R265). -/
  | pvinCollapse (pvin : BitVec 10)
  /-- NOP (R305). -/
  | coreNop (c : Fin 20)
  /-- ADD (R295). -/
  | coreAdd (c : Fin 20) (d x y : BitVec 5)
  /-- SUB (R295). -/
  | coreSub (c : Fin 20) (d x y : BitVec 5)
  /-- ADDS (R295). -/
  | coreAdds (c : Fin 20) (d x y : BitVec 5)
  /-- SUBS (R295). -/
  | coreSubs (c : Fin 20) (d x y : BitVec 5)
  /-- AND (R305). -/
  | coreAnd (c : Fin 20) (d x y : BitVec 5)
  /-- OR (R305). -/
  | coreOr (c : Fin 20) (d x y : BitVec 5)
  /-- XOR (R305). -/
  | coreXor (c : Fin 20) (d x y : BitVec 5)
  /-- SHL (R295). -/
  | coreShl (c : Fin 20) (d x : BitVec 5) (k : ShiftBy)
  /-- SHR (R295). -/
  | coreShr (c : Fin 20) (d x : BitVec 5) (k : ShiftBy)
  /-- SAR (R295). -/
  | coreSar (c : Fin 20) (d x : BitVec 5) (k : ShiftBy)
  /-- SHLS (R295). -/
  | coreShls (c : Fin 20) (d x : BitVec 5) (k : ShiftBy)
  /-- MIN (R305). -/
  | coreMin (c : Fin 20) (d x y : BitVec 5)
  /-- MAX (R305). -/
  | coreMax (c : Fin 20) (d x y : BitVec 5)
  /-- ABS (R295). -/
  | coreAbs (c : Fin 20) (d x : BitVec 5)
  /-- MUL (R295). -/
  | coreMul (c : Fin 20) (d x y : BitVec 5)
  /-- ADDI (R295). -/
  | coreAddi (c : Fin 20) (d x : BitVec 5) (imm : BitVec 16)
  /-- ANDI (R295). -/
  | coreAndi (c : Fin 20) (d x : BitVec 5) (imm : BitVec 16)
  /-- ORI (R295). -/
  | coreOri (c : Fin 20) (d x : BitVec 5) (imm : BitVec 16)
  /-- XORI (R295). -/
  | coreXori (c : Fin 20) (d x : BitVec 5) (imm : BitVec 16)
  /-- LUI (R295). -/
  | coreLui (c : Fin 20) (d : BitVec 5) (imm : BitVec 16)
  /-- EXP (R296). -/
  | coreExp (c : Fin 20) (d x : BitVec 5)
  /-- EXPA (R297). -/
  | coreExpa (c : Fin 20) (d : BitVec 5) (a : BitVec 3)
  /-- NORM (R296). -/
  | coreNorm (c : Fin 20) (d y x : BitVec 5)
  /-- NORMA (R297). -/
  | coreNorma (c : Fin 20) (a : BitVec 3) (d : BitVec 5)
  /-- DIVS (R298). -/
  | coreDivs (c : Fin 20) (a : BitVec 3) (x : BitVec 5)
  /-- MVA (R292). -/
  | coreMva (c : Fin 20) (d : BitVec 5) (a : BitVec 3) (part : BitVec 2) (rnd : Bool)
  /-- MVD (R293). -/
  | coreMvd (c : Fin 20) (a : BitVec 3) (x : BitVec 5) (part : BitVec 2)
  /-- ACC_CLR (R294). -/
  | coreAccClr (c : Fin 20) (a : BitVec 3)
  /-- ACC_MOV (R294). -/
  | coreAccMov (c : Fin 20) (a e : BitVec 3)
  /-- ACC_ADD (R294). -/
  | coreAccAdd (c : Fin 20) (a e : BitVec 3)
  /-- ACC_SUB (R294). -/
  | coreAccSub (c : Fin 20) (a e : BitVec 3)
  /-- ACC_NEG (R294). -/
  | coreAccNeg (c : Fin 20) (a e : BitVec 3)
  /-- ACC_SHIFT (R294). -/
  | coreAccShift (c : Fin 20) (a e : BitVec 3) (imm : BitVec 8)
  /-- LD (R299). -/
  | coreLd (c : Fin 20) (d : BitVec 5) (u : BitVec 3) (m : StepBy)
  /-- ST (R299). -/
  | coreSt (c : Fin 20) (x : BitVec 5) (u : BitVec 3) (m : StepBy)
  /-- LDG (R305). -/
  | coreLdg (c : Fin 20) (d : BitVec 5) (u : BitVec 3) (m : StepBy)
  /-- STG (R305). -/
  | coreStg (c : Fin 20) (x : BitVec 5) (u : BitVec 3) (m : StepBy)
  /-- LDX (R305). -/
  | coreLdx (c : Fin 20) (d : BitVec 5) (u : BitVec 3) (tsel : Bool) (imm : BitVec 17)
  /-- STX (R305). -/
  | coreStx (c : Fin 20) (x : BitVec 5) (u : BitVec 3) (tsel : Bool) (imm : BitVec 17)
  /-- PADV (R305). -/
  | corePadv (c : Fin 20) (u : BitVec 3) (m : StepBy)
  /-- MVC (R289). -/
  | coreMvc (c : Fin 20) (d : BitVec 5) (reg : BitVec 6)
  /-- MVCS (R289). -/
  | coreMvcs (c : Fin 20) (x : BitVec 5) (reg : BitVec 6)
  /-- B (R306). -/
  | coreB (c : Fin 20) (x y : BitVec 5) (cond : BitVec 4) (off : BitVec 12)
  /-- JMP (R305). -/
  | coreJmp (c : Fin 20) (target : BitVec 16)
  /-- CALL (R308). -/
  | coreCall (c : Fin 20) (target : BitVec 16)
  /-- RET (R308). -/
  | coreRet (c : Fin 20)
  /-- LOOP (R307). -/
  | coreLoop (c : Fin 20) (n : LoopBy) (len : BitVec 10)
  /-- WAIT (R311). -/
  | coreWait (c : Fin 20) (x : BitVec 5)
  /-- SIG_CORE (R311). -/
  | coreSigCore (c : Fin 20) (k : BitVec 5) (bits : Byte)
  /-- SIG_FORAGER (R311). -/
  | coreSigForager (c : Fin 20) (bits : Byte)
  /-- SIG_KEEPER (R311). -/
  | coreSigKeeper (c : Fin 20) (bits : Byte)
  /-- DONE (R314). -/
  | coreDone (c : Fin 20)
  /-- HALT (R305). -/
  | coreHalt (c : Fin 20)
  /-- MAC (R304). -/
  | coreMac (c : Fin 20) (m : MacOps)
  /-- MSU (R304). -/
  | coreMsu (c : Fin 20) (m : MacOps)
  /-- MPY (R304). -/
  | coreMpy (c : Fin 20) (m : MacOps)
  /-- MACX (R304). -/
  | coreMacx (c : Fin 20) (m : MacOps)
  /-- CORE_START (R321). -/
  | coreStart (r : Req) (c : Fin 20) (v : Word)
  /-- CORE_STOP (R321). -/
  | coreStop (r : Req) (c : Fin 20) (v : Word)
  /-- CORE_PAUSE (R321). -/
  | corePause (r : Req) (c : Fin 20) (v : Word)
  /-- CORE_RESUME (R320). -/
  | coreResume (r : Req) (c : Fin 20) (v : Word)
  /-- CORE_STEP (R321). -/
  | coreStep (r : Req) (c : Fin 20) (v : Word)
  /-- CORE_CLR_FLT (R322). -/
  | coreClrFlt (r : Req) (c : Fin 20) (v : Word)
  /-- CORE_WATCHDOG (R322). -/
  | coreWatchdog (c : Fin 20)
  /-- EVT_SET_HOST (R310). -/
  | evtSetHost (r : Req) (c : Fin 20) (bits : Byte)
  /-- FAB_IN_TRANSFER (R313). -/
  | fabInTransfer
  /-- FAB_IN_DONE (R313). -/
  | fabInDone (c : Fin 20)
  /-- FAB_OUT_CHECK (R314). -/
  | fabOutCheck
  /-- FRG_GO (R316). -/
  | frgGo (r : Req) (c : Fin 32) (v : Word)
  /-- MEM_DONE (R316). -/
  | memDone (c : Fin 32)
  /-- FRG_ALLOC (R319). -/
  | frgAlloc (r : Req)
  /-- FRG_FREE (R319). -/
  | frgFree (r : Req) (c : Fin 32) (v : Word)
  /-- WAG_START (R329). -/
  | wagStart (r : Req) (v : Word)
  /-- WAG_STOP (R329). -/
  | wagStop (r : Req) (v : Word)
  /-- ODO_EDGE (R331). -/
  | odoEdge (e : OdoEdge)
  /-- ODO_WINDOW (R332). -/
  | odoWindow
  /-- DEAD_RECKON_EXPIRY (R332). -/
  | deadReckonExpiry
  /-- FIX_TIMEOUT (R334). -/
  | fixTimeout
  /-- POS_FIX (R335). -/
  | posFix (q : PlReq)
  /-- WAG_VALUE_WRITE (R338). -/
  | wagValueWrite (r : Req) (v : Word)
  /-- WAGGLE_QUERY (R347). -/
  | waggleQuery (q : PlReq)
  /-- CUE_WORD_WRITE (R337). -/
  | cueWordWrite (r : Req) (k : Fin 64) (w : Fin 6) (v : Word)
  /-- CUE_COMMIT (R337). -/
  | cueCommit (r : Req) (k : Fin 64) (v : Word)
  /-- CUE_FREE (R337). -/
  | cueFree (r : Req) (k : Fin 64) (v : Word)
  /-- CUE_ARM (R337). -/
  | cueArm (r : Req) (k : Fin 64) (v : Word)
  /-- CUE_DISARM (R337). -/
  | cueDisarm (r : Req) (k : Fin 64) (v : Word)
  /-- CUE_SET (R347). -/
  | cueSet (q : PlReq)
  /-- CUE_CLEAR_FREE (R347). -/
  | cueClearFree (q : PlReq)
  /-- CUE_CLEAR_DISARM (R347). -/
  | cueClearDisarm (q : PlReq)
  /-- DEFERRED_ACTIONS (R342). -/
  | deferredActions
  /-- CLIP_START (R358). -/
  | clipStart (q : PlReq)
  /-- CLIP_PRIME (R357). -/
  | clipPrime (q : PlReq)
  /-- CLIP_STOP (R359). -/
  | clipStop (q : PlReq)
  /-- TONE_START (R361). -/
  | toneStart (q : PlReq)
  /-- CLIP_QUERY (R362). -/
  | clipQuery (q : PlReq)
  /-- CLIP_HEAD_ARRIVE (R356). -/
  | clipHeadArrive (v : Fin 64) (sound : Bool)
  /-- VOICE_REFILL_DONE (R359). -/
  | voiceRefillDone (v : Fin 64) (sound : Bool)
  /-- CLIP_END (R359). -/
  | clipEnd (v : Fin 64)
  /-- VOICE_FADE_END (R358). -/
  | voiceFadeEnd (v : Fin 64)
  /-- TONE_SEGMENT_END (R360). -/
  | toneSegmentEnd (g : Fin 64)
  /-- SECTOR_ERASE_DONE (R363). -/
  | sectorEraseDone (log : Bool) (ok : Bool)
  /-- MADC_TIMER_TRIGGER (R373). -/
  | madcTimerTrigger (n : Fin 2) (q : Fin 4)
  /-- MADC_PWM_TRIGGER (R373). -/
  | madcPwmTrigger (n : Fin 2) (q : Fin 4)
  /-- MADC_SWTRIG (R373). -/
  | madcSwtrig (r : Req) (n : Fin 2) (mask : Fin 16) (v : Word)
  /-- ADC_TRIGGER (R381). -/
  | adcTrigger (q : PlReq)
  /-- MADC_PASS_START (R372). -/
  | madcPassStart (n : Fin 2) (cyc : Fin 512) (sofar : List (BitVec 14)) (x0 x1 : BitVec 14)
  /-- MADC_PASS_DONE (R372). -/
  | madcPassDone (n : Fin 2) (codes : List (BitVec 14))
  /-- MADC_FIFO_READ (R377). -/
  | madcFifoRead (r : Req) (n : Fin 2)
  /-- MADC_FLUSH (R377). -/
  | madcFlush (r : Req) (n : Fin 2) (v : Word)
  /-- MADC_CLR_PLAUS (R378). -/
  | madcClrPlaus (r : Req) (v : Word)
  /-- MADC_REF_OK (R369). -/
  | madcRefOk (n : Fin 2)
  /-- LSV_ENABLE (R382). -/
  | lsvEnable (r : Req) (v : Word)
  /-- LSV_DISABLE (R382). -/
  | lsvDisable (r : Req) (v : Word)
  /-- LSV_WINDOW (R383). -/
  | lsvWindow (ms : List LineMeas)
  /-- LSV_LEARN (R386). -/
  | lsvLearn (r : Req) (c : Fin 8) (v : Word)
  /-- LSV_QUERY (R389). -/
  | lsvQuery (q : PlReq)
  /-- SELFTEST_START (R387). -/
  | selftestStart (q : PlReq)
  /-- SELFTEST_LEARN (R387). -/
  | selftestLearn (q : PlReq)
  /-- SELFTEST_ABORT (R387). -/
  | selftestAbort (q : PlReq)
  /-- SELFTEST_ZONE (R387). -/
  | selftestZone (m : SweepMeas)
  /-- BOOT (R395). -/
  | boot (p : FlashProbe)
  /-- IMG_BEGIN (R399). -/
  | imgBegin (q : PlReq)
  /-- IMG_DATA (R400). -/
  | imgData (erasing : Bool) (q : PlReq)
  /-- IMG_COMMIT (R401). -/
  | imgCommit (q : PlReq)
  /-- IMG_VERIFY (R401). -/
  | imgVerify (q : PlReq)
  /-- IMG_VERIFY_DONE (R401). -/
  | imgVerifyDone (sound : Bool)
  /-- IMG_REBOOT (R401). -/
  | imgReboot
  /-- IMG_SESSION_TIMEOUT (R399). -/
  | imgSessionTimeout
  /-- IMG_CONFIRM (R402). -/
  | imgConfirm (bad : Option Nat) (q : PlReq)
  /-- OTP_PROG (R391). -/
  | otpProg (r : Req) (v : Word)
  /-- OTP_PROG_DONE (R391). -/
  | otpProgDone (sound : Bool)
  /-- OTP_REVOKE (R391). -/
  | otpRevoke (r : Req) (v : Word)
  /-- BBX_RECORD_WRITE (R405). -/
  | bbxRecordWrite (w : MramWrite)
  /-- BBX_MIRROR_PASS (R408). -/
  | bbxMirrorPass (ok : Bool)
  /-- BBX_READ (R409). -/
  | bbxRead (q : PlReq)
  /-- BBX_PIN (R407). -/
  | bbxPin (q : PlReq)
  /-- BBX_UNPIN (R409). -/
  | bbxUnpin (q : PlReq)
  /-- BBX_UNPIN_ALL (R409). -/
  | bbxUnpinAll (q : PlReq)
  /-- ECC_SCRUB (R411). -/
  | eccScrub (x : ScrubStep)
  /-- SENSOR_POLL (R414). -/
  | sensorPoll (t0 t1 t2 t3 : BitVec 16)
  /-- SUPPLY_ALARM (R414). -/
  | supplyAlarm (i : Fin 9) (mv : BitVec 16)
  /-- SENSE_GAIN_CAL (R411). -/
  | senseGainCal (n : Fin 8) (d : Int)
  /-- TELEMETRY_FRAME (R416). -/
  | telemetryFrame (ts : List (BitVec 16))
  /-- TELEMETRY (R416). -/
  | telemetry (q : PlReq)
  /-- SWM_CHALLENGE (R417). -/
  | swmChallenge (q : PlReq)
  /-- SWM_RESPOND (R417). -/
  | swmRespond (q : PlReq)
  /-- SWM_SET (R420). -/
  | swmSet (q : PlReq)
  /-- SWM_STOP (R420). -/
  | swmStop (q : PlReq)
  /-- SWM_RELOCK (R417). -/
  | swmRelock (q : PlReq)
  /-- SWARM_EXPIRY (R417). -/
  | swarmExpiry
  /-- IDLE_TIMER (R430). -/
  | idleTimer
  /-- ESCALATION (R430). -/
  | escalation
  /-- PWR_REQ_GO (R431). -/
  | pwrReqGo (r : Req) (v : Word)
  /-- PWR_REQUEST (R431). -/
  | pwrRequest (q : PlReq)
  /-- PWR_TOLERANCE (R447). -/
  | pwrTolerance (q : PlReq)
  /-- PWR_QUERY (R447). -/
  | pwrQuery (q : PlReq)
  /-- ENTRY_PREPARE (R434). -/
  | entryPrepare
  /-- DRAIN_TIMEOUT (R434). -/
  | drainTimeout
  /-- ENTRY_COMMIT (R434). -/
  | entryCommit
  /-- WAKE_IN (R429). -/
  | wakeIn (level : Bool)
  /-- IDLE_EXIT (R426). -/
  | idleExit (w : IdleWake)
  /-- WAKE_SEQUENCE (R439). -/
  | wakeSequence (us : BitVec 24)
  /-- WAKE_STEP_TIMEOUT (R440). -/
  | wakeStepTimeout (k : Fin 10)
  /-- BOOST_CURRENT_LIMIT (R264). -/
  | boostCurrentLimit (p : Fin 4)
  /-- AVBIAS_IN_RANGE (R450). -/
  | avbiasInRange
  /-- CONVERTER_CALIBRATION (R370). -/
  | converterCalibration (n : Fin 2) (g : Fin 4) (z hi lo : BitVec 14)
  /-- SWARM_RELEASE (R418). -/
  | swarmRelease (h : SwarmHold)
  /-- QUALIFICATION_TIMEOUT (R176). -/
  | qualificationTimeout (n : Fin 4)
deriving DecidableEq, Repr

end Sys2Proof
end

