-- ==== Sys2Proof/Decode.lean ====
section
/-! DEFINITION. The commands that a word spells by the table's bits. spec/opcode_table.json gives no row any bits or
fields, so no word spells a command. The words of the DSP cores are decoded in Sys2Proof.Machine.CoreDecode. -/

namespace Sys2Proof

/-- None of the table's rows gives bits. -/
def decodeTableWord (_nbits _w : Nat) : Option Instr := none

end Sys2Proof
end

