-- ==== Sys2Proof/Config.lean ====
section
/-! DEFINITION. What one part, or one implementation, fixes, and the values the manual leaves open. Every constant here
is opaque: it has no body, so no statement can rest on a value of it. -/

namespace Sys2Proof.Config

/-- The 64-bit unique identifier that manufacture programs into OTP (SYS_UID, R390). -/
opaque uid : BitVec 64

/-- The OTP base of the four link addresses; link n uses base + n (ETH_n_MAC). -/
opaque macBase : BitVec 48

/-- The free words: value number `n` of those the manual leaves open one at a time (State.free counts them). -/
opaque freeWord : Nat → BitVec 32

/-- The Keeper's random source (R90, R194, R417): the n-th value drawn. -/
opaque random64 : Nat → BitVec 64

/-- R390: the SHA-256 of Varwa's firmware key, which manufacture programs into slot 0. -/
opaque varwaKey : List (BitVec 8)

/-- SHA-256 (R354, R390-R392): 32 bytes. -/
opaque sha256Bytes : List (BitVec 8) → Vector (BitVec 8) 32
/-- SHA-256 as a list of bytes. -/
def sha256 (m : List (BitVec 8)) : List (BitVec 8) := (sha256Bytes m).toList

/-- R392: whether an ECDSA P-256 signature (FIPS 186-5) fits a public key and a SHA-256 digest. -/
opaque ecdsaVerify : List (BitVec 8) → List (BitVec 8) → List (BitVec 8) → Bool

/-- R351: what a section of the booted image holds, where the manual gives no format for it: the words that DSP programs and
data put at addresses of the local memories; -/
opaque dspWords : List (BitVec 8) → List (Nat × BitVec 32)
/-- the cores that the image marks to start (R396); -/
opaque dspStarts : List (BitVec 8) → List Nat
/-- the Queen core of zone level adaptation (R119); -/
opaque dspZla : List (BitVec 8) → Option Nat
/-- the Queen core of line supervision and the DSP source of its sweep (R382, R387); -/
opaque dspLsv : List (BitVec 8) → Option (Nat × Nat)
/-- the measurement taps the image keeps for itself (R18); -/
opaque dspTaps : List (BitVec 8) → List Nat
/-- the phrase models by slot (R217, R222); -/
opaque phraseModels : List (BitVec 8) → List (Nat × List (BitVec 8))
/-- the UDP keys by index (R91). -/
opaque udpKeys : List (BitVec 8) → List (Nat × List (BitVec 8))

/-- R410: the firmware version of a Keeper firmware section; the manual does not say where the section holds it. -/
opaque firmwareVersion : List (BitVec 8) → BitVec 32

/-- HMAC-SHA-256 (R87, R417), of a key and a message: 32 bytes. -/
opaque hmacBytes : List (BitVec 8) → List (BitVec 8) → Vector (BitVec 8) 32
/-- HMAC-SHA-256 as a list of bytes. -/
def hmacSha256 (k m : List (BitVec 8)) : List (BitVec 8) := (hmacBytes k m).toList

/-- Where a report gives a computed quantity in a coarser unit and the manual does not say how it is rounded: whether
`num / den` is reported rounded up rather than down. -/
opaque roundUp : Int → Int → Bool

/-- R255: v* of carrier period `j` of the `n` of a fabric sample, by BST_n_CFG.SPREAD, from the samples past the look-ahead, newest
first, in volts: the interpolator's response is given by figures. -/
opaque ampInterp : (spread n j : Nat) → List Rat → Rat

/-- R256: what the fifth-order noise shaper adds to a leg's duty, in edge steps, from the steps of a carrier period and the last five
quantisation errors. -/
opaque shaper : Nat → List Rat → Rat

/-- R259: the reference r: the second-order model of the output filter at a corner in kHz, of v* and the model's state. -/
opaque refFilter : (fc steps : Nat) → List Rat → Rat → Rat × List Rat

/-- R259: the third-order loop filter, before its limit: the correction, from the error and the filter's state. -/
opaque loopFilter : (steps : Nat) → List Rat → Rat → Rat × List Rat

/-- R142: what the converter's filter makes of the samples `hist`, newest first, at an instant `age` / 2^28 samples before the newest;
the manual gives its passband and stop-band. -/
opaque resample : (age : Nat) → (hist : List Int) → Int

/-- R240, R245: sample `j` of the eight at 384 kHz that an ear's interpolator makes in a fabric period, from the samples of its sink,
newest first. -/
opaque earInterp : Nat → List Int → Rat

/-- R245: the coefficients b0, b1, b2, a1 and a2 of the side-tone's second-order high-pass by HS_n_ST.HPF; the manual gives its
corner. -/
opaque toneHpf : Nat → Fin 5 → Rat

/-- R95: which value in unsigned Q5.27 the conversion of a gain code, in sixteenths, takes inside the error bound that the rule
gives. -/
opaque gainQ27 : Int → Int

/-- R120, R206: a decimation filter, whose response the manual leaves to figures: its state and a sample of 48 kHz give the next state
and the sample of 16 kHz that ends there. -/
opaque down16 : Nat → Int → Nat × Int

/-- R120: the taps with which an adaptive filter starts, in units of 2^-64; the manual gives no start. -/
opaque echoStart : Nat → Int

/-- R134: the proportional and integral coefficients of the servo, in ppb per ns, of CLK_SERVO.BW. -/
opaque servoKp : Nat → Rat
@[inherit_doc servoKp] opaque servoKi : Nat → Rat

/-- R177, R179: the filtered offset of a PTP port, from the last one and a new offset; the manual gives the loop's bandwidth. -/
opaque ptpFilter : Int → Int → Int

/-- R177: the proportional and integral coefficients of a link's servo, in ppb per ns; the manual gives the bandwidth. -/
opaque ptpKp : Rat
@[inherit_doc ptpKp] opaque ptpKi : Rat

/-- R176: the clockIdentity and the variance a link announces. -/
opaque clockIdentity : Nat → BitVec 64
@[inherit_doc clockIdentity] opaque clockVariance : BitVec 16

/-- R215, R216: where the voice floor and the running mean of each band start, in units of 2^-64 dB. -/
opaque vadStart : Int
@[inherit_doc vadStart] opaque melStart : Nat → Int

/-- R216: 10 log10(E_b) of the last 400 samples of the mean stream, newest first, in units of 2^-64 dB; the manual names the 40 mel
bands and does not give their weights. -/
opaque melDb : List Int → Nat → Int

/-- R215: the energy of a 10 ms frame of 160 samples in 300 Hz-4 kHz, in units of 2^-64 dB. -/
opaque voiceDb : List Int → Int

/-- R212: the band filter of a vibration sensor with BAND: its state and a sample give the next state and its output. -/
opaque knockBand : Nat → Nat → Int → Nat × Int

/-- R360: the sine of a phase in Q1.31; the manual gives its distortion. -/
opaque sine : BitVec 32 → Int

/-- R360: the phase step of a frequency in mHz; the manual gives its error. -/
opaque phaseStep : Nat → BitVec 32

/-- R360: the amplitude at sample `t` of a tone segment of `n` samples with ramps of `r` samples; the manual gives no step. -/
opaque toneRamp : Nat → Nat → Nat → Rat

/-- R355: the bytes of an Opus clip that its first samples up to a number need. -/
opaque opusBytes : List (BitVec 8) → Nat → Nat

end Sys2Proof.Config
end

