-- ==== Sys2Proof/Machine/Bits.lean ====
section
/-! DEFINITION. Bytes and words, signed numbers, rounding and saturation, and the check values of R56 and R77. -/

namespace Sys2Proof.Machine

/-- Bit `i` of a word. -/
def bit (w : Word) (i : Nat) : Bool := w.getLsbD i

/-- R4: the four bytes of a word, least significant first. -/
def wordBytes (w : Word) : List Byte :=
  [w.setWidth 8, (w >>> 8).setWidth 8, (w >>> 16).setWidth 8, (w >>> 24).setWidth 8]

/-- R4: the `n` low bytes of a number, least significant first. -/
def leBytes : Nat → Nat → List Byte
  | 0, _ => []
  | n + 1, v => BitVec.ofNat 8 v :: leBytes n (v / 256)

/-- R4: the number that bytes spell, least significant first. -/
def leNat : List Byte → Nat
  | [] => 0
  | b :: bs => b.toNat + 256 * leNat bs

/-- The bytes of a list of words, in order. -/
def wordsBytes : List Word → List Byte
  | [] => []
  | w :: ws => wordBytes w ++ wordsBytes ws

/-- The whole words at the front of a list of bytes; a partial word at its end is dropped. -/
def toWords : List Byte → List Word
  | a :: b :: c :: d :: t => BitVec.ofNat 32 (leNat [a, b, c, d]) :: toWords t
  | _ => []

/-- `len` bytes from position `at_`, read little-endian; bytes past the end count as 0. -/
def field (p : List Byte) (at_ len : Nat) : Nat := leNat ((p.drop at_).take len)

/-- R56: one bit step of the CRC-8 with polynomial 0x07. -/
def crc8Step : Nat → Byte → Byte
  | 0, c => c
  | n + 1, c => crc8Step n (if c.getLsbD 7 then (c <<< 1) ^^^ 0x07#8 else c <<< 1)

/-- R56: the CRC-8 of the SPI and two-wire ports, continued from `c`. -/
def crc8From : Byte → List Byte → Byte
  | c, [] => c
  | c, b :: bs => crc8From (crc8Step 8 (c ^^^ b)) bs

/-- R56: the CRC-8 of a list of bytes. -/
def crc8 (bs : List Byte) : Byte := crc8From 0 bs

/-- One bit step of the reflected CRC-32. -/
def crc32Step : Nat → Word → Word
  | 0, c => c
  | n + 1, c => crc32Step n (if c.getLsbD 0 then (c >>> 1) ^^^ 0xEDB88320#32 else c >>> 1)

/-- The CRC-32 register after a list of bytes. -/
def crc32From : Word → List Byte → Word
  | c, [] => c
  | c, b :: bs => crc32From (crc32Step 8 (c ^^^ b.setWidth 32)) bs

/-- R77: the CRC-32 of Plosto frames, black-box records and flash headers. -/
def crc32 (bs : List Byte) : Word := ~~~ crc32From 0xFFFFFFFF#32 bs

/-- A number limited to the signed range of `n` bits. -/
def satS (n : Nat) (x : Int) : Int :=
  if x < -(2 ^ (n - 1)) then -(2 ^ (n - 1)) else if 2 ^ (n - 1) - 1 < x then 2 ^ (n - 1) - 1 else x

/-- `x / 2^k` rounded to the nearest integer, halves towards +infinity (R13). -/
def roundShift (x : Int) (k : Nat) : Int := (x + 2 ^ k / 2) / 2 ^ k

/-- `x / d` rounded to the nearest integer, halves towards +infinity. -/
def roundDiv (x : Int) (d : Int) : Int := (2 * x + d) / (2 * d)

/-- The two's complement word of an integer. -/
def toWord (x : Int) : Word := BitVec.ofInt 32 x

/-- The signed number in the low `n` bits of a number. -/
def signed (n : Nat) (v : Nat) : Int := (BitVec.ofNat n v).toInt

/-- A signed number as an `n`-bit field. -/
def unsigned (n : Nat) (x : Int) : Nat := (BitVec.ofInt n x).toNat

/-- A quantity `num / den` reported as a whole number: exact where it is one; otherwise one of its two neighbours, which
the manual does not say. -/
def quant (num den : Int) : Nat :=
  if num % den = 0 then (num / den).toNat
  else (num / den + (if Config.roundUp num den then 1 else 0)).toNat

/-- `quant` for signed results. -/
def quantI (num den : Int) : Int :=
  if num % den = 0 then num / den else num / den + (if Config.roundUp num den then 1 else 0)

/-- `quant` of a rational number. -/
def quantR (x : Rat) : Nat := quant x.num x.den

/-- 1 for true. -/
def b2n (b : Bool) : Nat := if b then 1 else 0

/-- The value under a key of an association list. -/
def alGet {α β : Type} [DecidableEq α] : List (α × β) → α → Option β
  | [], _ => none
  | (a, b) :: t, k => if a = k then some b else alGet t k

/-- An association list without a key. -/
def alDel {α β : Type} [DecidableEq α] : List (α × β) → α → List (α × β)
  | [], _ => []
  | (a, b) :: t, k => if a = k then alDel t k else (a, b) :: alDel t k

/-- An association list with a key's value replaced. -/
def alSet {α β : Type} [DecidableEq α] (l : List (α × β)) (k : α) (v : β) : List (α × β) := (k, v) :: alDel l k

/-- Replace the elements of a list that a test names. -/
def mapIf {α : Type} (p : α → Bool) (f : α → α) (l : List α) : List α := l.map fun x => if p x then f x else x

/-- Element `i` of a list replaced by `f` of it. -/
def modifyAt {α : Type} (f : α → α) : Nat → List α → List α
  | _, [] => []
  | 0, x :: t => f x :: t
  | n + 1, x :: t => x :: modifyAt f n t

/-- The last `n` elements of a list. -/
def lastOf {α : Type} (n : Nat) (l : List α) : List α := l.drop (l.length - n)

/-- Apply a state change for each element of a list, first element first. -/
def forEach {α σ : Type} (l : List α) (f : α → σ → σ) (s : σ) : σ := l.foldl (fun s x => f x s) s

end Sys2Proof.Machine
end

