-- ==== Sys2Proof/Machine/RegTypes.lean ====
section
/-! DEFINITION. What a register field, a register and a page are (R4, R7, R30). -/

namespace Sys2Proof.Machine

/-- A field `[hi:lo]` of the register at offset `off` of its page, entry or window (R4). -/
structure Fld where
  off : Nat
  hi : Nat
  lo : Nat
deriving DecidableEq, Repr

/-- How a register takes part in clears, snapshots and soft resets: `counter` is a 16-bit counter cleared by any write
(R32), `wide` one half of a 48- or 64-bit event or sequence counter, never cleared by a write (R44). -/
inductive RegKind where
  | plain
  | counter
  | wide
deriving DecidableEq, Repr

/-- One register, or `n1 × n2` like ones: copy `(i, j)` is at `off + i * s1 + j * s2`. `rw`, `w1c`, `w1s` are the bits of
each access type of R7 (a bit in none of them is read-only, write-only or reserved), `keep` the RWS bits. -/
structure RegDef where
  off : Nat
  n1 : Nat
  s1 : Nat
  n2 : Nat
  s2 : Nat
  rw : BitVec 32
  w1c : BitVec 32
  w1s : BitVec 32
  keep : BitVec 32
  reset : BitVec 32
  kind : RegKind
deriving DecidableEq, Repr

/-- The blocks that own a page with a common header (R30). Workers and Queens share one layout but not one type code. -/
inductive PageKind where
  | sys | pwr | clk | spi | tw | kpr | bbx | nrs | swm | wag | clip | fls | cmb | asrc | tdm | eth | pdm | sct | ain | hs
  | lo | amp | bst | madc | lsv | w | q | frg | frm
deriving DecidableEq, Repr

/-- The power domains (R10, R21). -/
inductive Dom where
  | aon | listen | keeper | core | analog | power
deriving DecidableEq, Repr

/-- A row of the page map R30: `count` pages of one kind from `base`, with their block type code, the page index of the
first, their domain (R10) and whether `PG_CTRL.EN` resets to 1. -/
structure PageRow where
  kind : PageKind
  base : Nat
  count : Nat
  typeCode : Nat
  index : Nat
  dom : Dom
  en : Bool
deriving DecidableEq, Repr

/-- What an address of the 24-bit space names (R30): a page with a header, an entry of a window, a local memory, a frame,
or nothing. Each carries what is needed to find its owner. -/
inductive Region where
  | page (row : PageRow) (inst off : Nat)
  | xp (k off : Nat)
  | sink (sk off : Nat)
  | strRx (j off : Nat)
  | strTx (j off : Nat)
  | local_ (core off : Nat)
  | frame (k off : Nat)
  | unmapped
deriving DecidableEq, Repr

end Sys2Proof.Machine
end

