-- ==== Sys2Proof/Machine/Fields.lean ====
section
/-! DEFINITION. The fields of the registers, under the manual's names: offset within the page, entry or window, and
bits [hi:lo] (R4). -/

namespace Sys2Proof.Machine.F

def PG_ID_TYPE : Fld := ⟨0x0, 31, 16⟩
def PG_ID_INST : Fld := ⟨0x0, 15, 8⟩
def PG_ID_LAYOUT : Fld := ⟨0x0, 7, 0⟩
def PG_CTRL_LOCK : Fld := ⟨0x4, 2, 2⟩
def PG_CTRL_SRST : Fld := ⟨0x4, 1, 1⟩
def PG_CTRL_EN : Fld := ⟨0x4, 0, 0⟩
def PG_STAT_FAULT : Fld := ⟨0x8, 8, 8⟩
def PG_STAT_STATE : Fld := ⟨0x8, 7, 4⟩
def PG_STAT_BUSY : Fld := ⟨0x8, 1, 1⟩
def PG_STAT_READY : Fld := ⟨0x8, 0, 0⟩
def EVT_RAW_FLT : Fld := ⟨0xC, 31, 24⟩
def EVT_RAW_NTC : Fld := ⟨0xC, 23, 0⟩
def EVT_EN_FLT_EN : Fld := ⟨0x10, 31, 24⟩
def EVT_EN_NTC_EN : Fld := ⟨0x10, 23, 0⟩
def EVT_PEND_PEND : Fld := ⟨0x14, 31, 0⟩
def EVT_FORCE_FORCE : Fld := ⟨0x18, 31, 0⟩
def REFUSE_COUNT : Fld := ⟨0x1C, 31, 16⟩
def REFUSE_CMD : Fld := ⟨0x1C, 15, 8⟩
def REFUSE_CODE : Fld := ⟨0x1C, 7, 0⟩
def REFUSE_SRC_REQ : Fld := ⟨0x28, 27, 24⟩
def REFUSE_SRC_ADDR : Fld := ⟨0x28, 23, 0⟩
def ERR_CNT_COUNT : Fld := ⟨0x20, 15, 0⟩
def SNAP_HELD : Fld := ⟨0x24, 8, 8⟩
def SNAP_RELEASE : Fld := ⟨0x24, 2, 2⟩
def SNAP_CLR : Fld := ⟨0x24, 1, 1⟩
def SNAP_TAKE : Fld := ⟨0x24, 0, 0⟩
def SYS_DEV_ID_PART : Fld := ⟨0x40, 31, 16⟩
def SYS_DEV_ID_VARIANT : Fld := ⟨0x40, 15, 12⟩
def SYS_DEV_ID_SREV : Fld := ⟨0x40, 11, 8⟩
def SYS_DEV_ID_PREV : Fld := ⟨0x40, 7, 4⟩
def SYS_UID_LO_UID : Fld := ⟨0x44, 31, 0⟩
def SYS_UID_HI_UID : Fld := ⟨0x48, 31, 0⟩
def SYS_STRAP_TWA : Fld := ⟨0x4C, 2, 0⟩
def SYS_RST_CAUSE_WAKE_OFF : Fld := ⟨0x50, 6, 6⟩
def SYS_RST_CAUSE_THERM : Fld := ⟨0x50, 5, 5⟩
def SYS_RST_CAUSE_BROWN : Fld := ⟨0x50, 4, 4⟩
def SYS_RST_CAUSE_WDT : Fld := ⟨0x50, 3, 3⟩
def SYS_RST_CAUSE_SOFT : Fld := ⟨0x50, 2, 2⟩
def SYS_RST_CAUSE_PIN : Fld := ⟨0x50, 1, 1⟩
def SYS_RST_CAUSE_POR : Fld := ⟨0x50, 0, 0⟩
def SYS_RST_CTRL_KEY : Fld := ⟨0x54, 15, 8⟩
def SYS_RST_CTRL_DEVRST : Fld := ⟨0x54, 0, 0⟩
def SYS_IRQ_CTRL_IRQ_EN : Fld := ⟨0x58, 0, 0⟩
def SYS_IRQ_PEND_PAGE : Fld := ⟨0x60, 31, 0⟩
def SYS_FLT_PEND_PAGE : Fld := ⟨0x70, 31, 0⟩
def SYS_BADADDR_WR : Fld := ⟨0x80, 31, 31⟩
def SYS_BADADDR_REASON : Fld := ⟨0x80, 30, 28⟩
def SYS_BADADDR_REQ : Fld := ⟨0x80, 27, 24⟩
def SYS_BADADDR_ADDR : Fld := ⟨0x80, 23, 0⟩
def SPI_CFG_DSEL : Fld := ⟨0x40, 15, 8⟩
def SPI_CFG_CRC : Fld := ⟨0x40, 0, 0⟩
def SPI_LAST_OP : Fld := ⟨0x44, 15, 8⟩
def SPI_LAST_CODE : Fld := ⟨0x44, 7, 0⟩
def SPI_MB_STAT_TAG : Fld := ⟨0x48, 31, 16⟩
def SPI_MB_STAT_RSP : Fld := ⟨0x48, 1, 1⟩
def SPI_MB_STAT_REQ_BUSY : Fld := ⟨0x48, 0, 0⟩
def SPI_CRC_CNT_COUNT : Fld := ⟨0x4C, 15, 0⟩
def SPI_SHORT_CNT_COUNT : Fld := ⟨0x50, 15, 0⟩
def SPI_OVR_CNT_COUNT : Fld := ⟨0x54, 15, 0⟩
def SPI_WAKE_CNT_COUNT : Fld := ⟨0x58, 15, 0⟩
def TW_CFG_STRETCH_MAX : Fld := ⟨0x40, 31, 24⟩
def TW_CFG_ARB_RETRY : Fld := ⟨0x40, 18, 16⟩
def TW_CFG_GLITCH : Fld := ⟨0x40, 13, 8⟩
def TW_CFG_PEC : Fld := ⟨0x40, 0, 0⟩
def TW_TIMING_HIGH : Fld := ⟨0x44, 25, 16⟩
def TW_TIMING_LOW : Fld := ⟨0x44, 9, 0⟩
def TW_CTRL_BUSCLR : Fld := ⟨0x48, 1, 1⟩
def TW_CTRL_CLR_FAULT : Fld := ⟨0x48, 0, 0⟩
def TW_BUS_SCL_STUCK : Fld := ⟨0x4C, 3, 3⟩
def TW_BUS_BUS_STUCK : Fld := ⟨0x4C, 2, 2⟩
def TW_BUS_SCL : Fld := ⟨0x4C, 1, 1⟩
def TW_BUS_SDA : Fld := ⟨0x4C, 0, 0⟩
def TW_PTR_ADDR : Fld := ⟨0x50, 23, 0⟩
def TW_LAST_CMD : Fld := ⟨0x54, 15, 8⟩
def TW_LAST_CODE : Fld := ⟨0x54, 7, 0⟩
def TW_PROTO_CNT_COUNT : Fld := ⟨0x58, 15, 0⟩
def TW_PEC_CNT_COUNT : Fld := ⟨0x5C, 15, 0⟩
def TW_TMO_CNT_COUNT : Fld := ⟨0x60, 15, 0⟩
def TW_ARB_CNT_COUNT : Fld := ⟨0x64, 15, 0⟩
def TW_NACK_CNT_COUNT : Fld := ⟨0x68, 15, 0⟩
def XF_CTRL_GO : Fld := ⟨0x200, 31, 31⟩
def XF_CTRL_PEC : Fld := ⟨0x200, 30, 30⟩
def XF_CTRL_TADDR : Fld := ⟨0x200, 22, 16⟩
def XF_CTRL_WLEN : Fld := ⟨0x200, 14, 8⟩
def XF_CTRL_RLEN : Fld := ⟨0x200, 6, 0⟩
def XF_STAT_SLOT : Fld := ⟨0x204, 25, 24⟩
def XF_STAT_NBYTES : Fld := ⟨0x204, 15, 8⟩
def XF_STAT_CODE : Fld := ⟨0x204, 7, 0⟩
def XP_MAP_OLD_SRC : Fld := ⟨0x0, 29, 20⟩
def XP_MAP_SINK : Fld := ⟨0x0, 19, 10⟩
def XP_MAP_SOURCE : Fld := ⟨0x0, 9, 0⟩
def XP_GAIN_STATE : Fld := ⟨0x4, 31, 29⟩
def XP_GAIN_DEL : Fld := ⟨0x4, 28, 28⟩
def XP_GAIN_CUR : Fld := ⟨0x4, 27, 16⟩
def XP_GAIN_RAMP : Fld := ⟨0x4, 15, 12⟩
def XP_GAIN_GAIN : Fld := ⟨0x4, 11, 0⟩
def SK_CTRL_DEF_RAMP : Fld := ⟨0x0, 19, 16⟩
def SK_CTRL_BQ_COUNT : Fld := ⟨0x0, 3, 0⟩
def SK_TRIM_CUR : Fld := ⟨0x4, 27, 16⟩
def SK_TRIM_RAMP : Fld := ⟨0x4, 15, 12⟩
def SK_TRIM_CODE : Fld := ⟨0x4, 11, 0⟩
def SK_LIM_EN : Fld := ⟨0x8, 31, 31⟩
def SK_LIM_THR : Fld := ⟨0x8, 25, 16⟩
def SK_LIM_REL : Fld := ⟨0x8, 15, 8⟩
def SK_LIM_ATT : Fld := ⟨0x8, 7, 0⟩
def SK_DLY_XF : Fld := ⟨0xC, 19, 16⟩
def SK_DLY_DELAY : Fld := ⟨0xC, 14, 0⟩
def SK_MET_CFG_HOLD : Fld := ⟨0x10, 15, 8⟩
def SK_MET_CFG_WIN : Fld := ⟨0x10, 7, 0⟩
def SK_MET_PEAK : Fld := ⟨0x14, 31, 16⟩
def SK_MET_RMS : Fld := ⟨0x14, 15, 0⟩
def SK_STAT_ACTIVE : Fld := ⟨0x18, 31, 31⟩
def SK_STAT_TRIM_RAMP : Fld := ⟨0x18, 30, 30⟩
def SK_STAT_XP_RAMP : Fld := ⟨0x18, 29, 29⟩
def SK_STAT_DLY_XF : Fld := ⟨0x18, 28, 28⟩
def SK_STAT_NCONTRIB : Fld := ⟨0x18, 22, 16⟩
def SK_STAT_ALLOC : Fld := ⟨0x18, 9, 0⟩
def SK_ZLA_OFFSET : Fld := ⟨0x1C, 9, 0⟩
def SK_SAT_CNT_COUNT : Fld := ⟨0x20, 15, 0⟩
def SK_CHN_CNT_COUNT : Fld := ⟨0x24, 15, 0⟩
def SK_LIM_CNT_COUNT : Fld := ⟨0x28, 15, 0⟩
def ZLA_CFG_EN : Fld := ⟨0x400, 31, 31⟩
def ZLA_CFG_HOLD : Fld := ⟨0x400, 30, 30⟩
def ZLA_CFG_MIC_MIN : Fld := ⟨0x400, 26, 24⟩
def ZLA_CFG_SLOPE : Fld := ⟨0x400, 20, 16⟩
def ZLA_CFG_WIN : Fld := ⟨0x400, 15, 8⟩
def ZLA_CFG_REPSTEP : Fld := ⟨0x400, 7, 0⟩
def ZLA_MIC_MIC3 : Fld := ⟨0x404, 31, 24⟩
def ZLA_MIC_MIC2 : Fld := ⟨0x404, 23, 16⟩
def ZLA_MIC_MIC1 : Fld := ⟨0x404, 15, 8⟩
def ZLA_MIC_MIC0 : Fld := ⟨0x404, 7, 0⟩
def ZLA_BAND_NREF : Fld := ⟨0x408, 31, 24⟩
def ZLA_BAND_HI : Fld := ⟨0x408, 23, 16⟩
def ZLA_BAND_LO : Fld := ⟨0x408, 15, 8⟩
def ZLA_BAND_HYST : Fld := ⟨0x408, 7, 0⟩
def ZLA_RATE_SIL : Fld := ⟨0x40C, 31, 24⟩
def ZLA_RATE_ERLE_MIN : Fld := ⟨0x40C, 23, 16⟩
def ZLA_RATE_UP : Fld := ⟨0x40C, 15, 8⟩
def ZLA_RATE_DN : Fld := ⟨0x40C, 7, 0⟩
def ZLA_STAT_STATE : Fld := ⟨0x410, 31, 28⟩
def ZLA_STAT_REASON : Fld := ⟨0x410, 27, 24⟩
def ZLA_STAT_LASTDEC : Fld := ⟨0x410, 23, 20⟩
def ZLA_STAT_VALID : Fld := ⟨0x410, 19, 16⟩
def ZLA_STAT_OFFSET : Fld := ⟨0x410, 9, 0⟩
def ZLA_NOISE_NOISE : Fld := ⟨0x414, 31, 16⟩
def ZLA_NOISE_ERLE : Fld := ⟨0x414, 15, 0⟩
def ZLA_DEC_COUNT : Fld := ⟨0x418, 15, 0⟩
def ZLA_TGT_TARGET : Fld := ⟨0x41C, 9, 0⟩
def CMB_XP_USED_HIGH : Fld := ⟨0x40, 29, 16⟩
def CMB_XP_USED_USED : Fld := ⟨0x40, 13, 0⟩
def CMB_ACTIVE_COUNT : Fld := ⟨0x44, 10, 0⟩
def CMB_DLY_CFG_FIRST : Fld := ⟨0x48, 12, 8⟩
def CMB_DLY_CFG_NFRM : Fld := ⟨0x48, 3, 0⟩
def CMB_DLY_STAT_FREE : Fld := ⟨0x4C, 30, 16⟩
def CMB_DLY_STAT_USED : Fld := ⟨0x4C, 14, 0⟩
def CMB_CLAMP_CNT_COUNT : Fld := ⟨0x50, 15, 0⟩
def CMB_UR_LAST_SOURCE : Fld := ⟨0x54, 9, 0⟩
def CMB_BQ_SEL_SINK : Fld := ⟨0x60, 25, 16⟩
def CMB_BQ_SEL_STAGE : Fld := ⟨0x60, 3, 0⟩
def CMB_BQ_B0_COEF : Fld := ⟨0x64, 31, 0⟩
def CMB_BQ_B1_COEF : Fld := ⟨0x68, 31, 0⟩
def CMB_BQ_B2_COEF : Fld := ⟨0x6C, 31, 0⟩
def CMB_BQ_A1_COEF : Fld := ⟨0x70, 31, 0⟩
def CMB_BQ_A2_COEF : Fld := ⟨0x74, 31, 0⟩
def CMB_BQ_CMD_READ : Fld := ⟨0x78, 2, 2⟩
def CMB_BQ_CMD_CLRSTATE : Fld := ⟨0x78, 1, 1⟩
def CMB_BQ_CMD_LOAD : Fld := ⟨0x78, 0, 0⟩
def CMB_UR_CNT_COUNT : Fld := ⟨0xC00, 15, 0⟩
def CLK_REF_CFG_MODE : Fld := ⟨0x40, 0, 0⟩
def CLK_REF_STAT_REF_OK : Fld := ⟨0x44, 31, 31⟩
def CLK_REF_STAT_ON_RC : Fld := ⟨0x44, 30, 30⟩
def CLK_REF_STAT_DEV : Fld := ⟨0x44, 15, 0⟩
def CLK_PLL_STAT_MEDIA : Fld := ⟨0x48, 2, 2⟩
def CLK_PLL_STAT_NET : Fld := ⟨0x48, 1, 1⟩
def CLK_PLL_STAT_SYS : Fld := ⟨0x48, 0, 0⟩
def CLK_MEDIA_CFG_STEP_THR : Fld := ⟨0x4C, 31, 24⟩
def CLK_MEDIA_CFG_SLEWING : Fld := ⟨0x4C, 18, 18⟩
def CLK_MEDIA_CFG_STEP : Fld := ⟨0x4C, 17, 16⟩
def CLK_MEDIA_CFG_PORT : Fld := ⟨0x4C, 11, 8⟩
def CLK_MEDIA_CFG_LINK : Fld := ⟨0x4C, 5, 4⟩
def CLK_MEDIA_CFG_SRC : Fld := ⟨0x4C, 1, 0⟩
def CLK_SERVO_SLEW : Fld := ⟨0x50, 23, 16⟩
def CLK_SERVO_BW : Fld := ⟨0x50, 7, 0⟩
def CLK_LOCK_CFG_HOLD_TIME : Fld := ⟨0x54, 27, 16⟩
def CLK_LOCK_CFG_LOCK_TIME : Fld := ⟨0x54, 7, 0⟩
def CLK_PHASE_ERR : Fld := ⟨0x58, 31, 0⟩
def CLK_FREQ_OFFSET : Fld := ⟨0x5C, 31, 0⟩
def CLK_TRIM_OFFSET : Fld := ⟨0x60, 31, 0⟩
def CLK_FAB_CNT_LO_COUNT : Fld := ⟨0x68, 31, 0⟩
def CLK_FAB_CNT_HI_COUNT : Fld := ⟨0x6C, 31, 0⟩
def CLK_UNLOCK_CNT_COUNT : Fld := ⟨0x70, 15, 0⟩
def CLK_STEP_CNT_COUNT : Fld := ⟨0x74, 15, 0⟩
def ASRC_USED_HIGH : Fld := ⟨0x40, 24, 16⟩
def ASRC_USED_USED : Fld := ⟨0x40, 8, 0⟩
def ASRC_NOASRC_CNT_COUNT : Fld := ⟨0x44, 15, 0⟩
def ASRC_GRP_RATIO_RATIO : Fld := ⟨0x100, 31, 0⟩
def ASRC_GRP_STAT_STATE : Fld := ⟨0x104, 31, 28⟩
def ASRC_GRP_STAT_REASON : Fld := ⟨0x104, 27, 26⟩
def ASRC_GRP_STAT_NCH : Fld := ⟨0x104, 15, 8⟩
def ASRC_GRP_STAT_FIRST : Fld := ⟨0x104, 7, 0⟩
def ASRC_GRP_LOSS_COUNT : Fld := ⟨0x180, 15, 0⟩
def ASRC_CH_ALLOC : Fld := ⟨0x400, 31, 31⟩
def ASRC_CH_DIR : Fld := ⟨0x400, 30, 30⟩
def ASRC_CH_PORT : Fld := ⟨0x400, 23, 20⟩
def ASRC_CH_SLOT : Fld := ⟨0x400, 19, 16⟩
def ASRC_CH_NUM : Fld := ⟨0x400, 9, 0⟩
def TDM_CFG_RATE : Fld := ⟨0x40, 31, 28⟩
def TDM_CFG_MODE : Fld := ⟨0x40, 27, 27⟩
def TDM_CFG_SLOTS : Fld := ⟨0x40, 20, 16⟩
def TDM_CFG_WIDTH : Fld := ⟨0x40, 13, 12⟩
def TDM_CFG_FSW : Fld := ⟨0x40, 9, 8⟩
def TDM_CFG_FSPOL : Fld := ⟨0x40, 5, 5⟩
def TDM_CFG_DELAY : Fld := ⟨0x40, 4, 4⟩
def TDM_CFG_EDGE : Fld := ⟨0x40, 3, 3⟩
def TDM_CFG_TXHIZ : Fld := ⟨0x40, 2, 2⟩
def TDM_SLOTMASK_TX : Fld := ⟨0x44, 31, 16⟩
def TDM_SLOTMASK_RX : Fld := ⟨0x44, 15, 0⟩
def TDM_CTRL_STOP : Fld := ⟨0x48, 1, 1⟩
def TDM_CTRL_START : Fld := ⟨0x48, 0, 0⟩
def TDM_STAT_REASON : Fld := ⟨0x4C, 31, 28⟩
def TDM_STAT_ASRC : Fld := ⟨0x4C, 16, 16⟩
def TDM_STAT_BCLKS : Fld := ⟨0x4C, 9, 0⟩
def TDM_FS_CNT_COUNT : Fld := ⟨0x50, 15, 0⟩
def TDM_SLIP_CNT_COUNT : Fld := ⟨0x54, 15, 0⟩
def TDM_LOSS_CNT_COUNT : Fld := ⟨0x58, 15, 0⟩
def TDM_SWM_CNT_COUNT : Fld := ⟨0x5C, 15, 0⟩
def ETH_CFG_IF : Fld := ⟨0x40, 31, 31⟩
def ETH_CFG_TXDLY : Fld := ⟨0x40, 30, 30⟩
def ETH_CFG_RXDLY : Fld := ⟨0x40, 29, 29⟩
def ETH_CFG_PHYAD : Fld := ⟨0x40, 28, 24⟩
def ETH_CFG_VLAN : Fld := ⟨0x40, 23, 23⟩
def ETH_CFG_PCP_MEDIA : Fld := ⟨0x40, 22, 20⟩
def ETH_CFG_PCP_PTP : Fld := ⟨0x40, 19, 17⟩
def ETH_CFG_VID : Fld := ⟨0x40, 11, 0⟩
def ETH_MAC_LO_MAC : Fld := ⟨0x44, 31, 0⟩
def ETH_MAC_HI_MAC : Fld := ⟨0x48, 31, 0⟩
def ETH_IP_ADDR : Fld := ⟨0x4C, 31, 0⟩
def ETH_MASK_ADDR : Fld := ⟨0x50, 31, 0⟩
def ETH_GW_ADDR : Fld := ⟨0x54, 31, 0⟩
def ETH_IPCFG_TTL : Fld := ⟨0x58, 31, 24⟩
def ETH_IPCFG_DSCP_PTP : Fld := ⟨0x58, 21, 16⟩
def ETH_IPCFG_DSCP_MEDIA : Fld := ⟨0x58, 13, 8⟩
def ETH_IPCFG_TXCSUM : Fld := ⟨0x58, 0, 0⟩
def ETH_CTRL_DOWN : Fld := ⟨0x5C, 1, 1⟩
def ETH_CTRL_UP : Fld := ⟨0x5C, 0, 0⟩
def ETH_LINK_LINK : Fld := ⟨0x60, 31, 31⟩
def ETH_LINK_FDX : Fld := ⟨0x60, 30, 30⟩
def ETH_LINK_SPEED : Fld := ⟨0x60, 29, 28⟩
def ETH_LINK_REASON : Fld := ⟨0x60, 27, 24⟩
def ETH_LINK_ARP : Fld := ⟨0x60, 4, 0⟩
def ETH_MDIO_GO : Fld := ⟨0x64, 31, 31⟩
def ETH_MDIO_WR : Fld := ⟨0x64, 30, 30⟩
def ETH_MDIO_ERR : Fld := ⟨0x64, 29, 29⟩
def ETH_MDIO_PHYAD : Fld := ⟨0x64, 28, 24⟩
def ETH_MDIO_REG : Fld := ⟨0x64, 20, 16⟩
def ETH_MDIO_DATA : Fld := ⟨0x64, 15, 0⟩
def ETH_PHY_LAT_TX : Fld := ⟨0x68, 31, 16⟩
def ETH_PHY_LAT_RX : Fld := ⟨0x68, 15, 0⟩
def ETH_PTP_CFG_EN : Fld := ⟨0x6C, 31, 31⟩
def ETH_PTP_CFG_PROFILE : Fld := ⟨0x6C, 30, 30⟩
def ETH_PTP_CFG_ROLE : Fld := ⟨0x6C, 29, 29⟩
def ETH_PTP_CFG_DOMAIN : Fld := ⟨0x6C, 27, 20⟩
def ETH_PTP_CFG_LOG_SYNC : Fld := ⟨0x6C, 19, 16⟩
def ETH_PTP_CFG_LOG_ANN : Fld := ⟨0x6C, 15, 12⟩
def ETH_PTP_CFG_ANN_TMO : Fld := ⟨0x6C, 11, 8⟩
def ETH_PTP_CFG_LOG_DLY : Fld := ⟨0x6C, 7, 4⟩
def ETH_PTP_BMC_PRIO1 : Fld := ⟨0x70, 31, 24⟩
def ETH_PTP_BMC_PRIO2 : Fld := ⟨0x70, 23, 16⟩
def ETH_PTP_BMC_CLASS : Fld := ⟨0x70, 15, 8⟩
def ETH_PTP_BMC_ACCURACY : Fld := ⟨0x70, 7, 0⟩
def ETH_PTP_GUARD_LOSS_TMO : Fld := ⟨0x74, 31, 16⟩
def ETH_PTP_GUARD_OUTLIER : Fld := ⟨0x74, 15, 0⟩
def ETH_PTP_STAT_PORT : Fld := ⟨0x78, 31, 28⟩
def ETH_PTP_STAT_GOOD : Fld := ⟨0x78, 27, 27⟩
def ETH_PTP_STAT_ASCAP : Fld := ⟨0x78, 26, 26⟩
def ETH_PTP_STAT_GM_CLASS : Fld := ⟨0x78, 23, 16⟩
def ETH_PTP_OFFSET_NS : Fld := ⟨0x7C, 31, 0⟩
def ETH_PTP_DELAY_NS : Fld := ⟨0x80, 31, 0⟩
def ETH_PTP_GM_LO_ID : Fld := ⟨0x84, 31, 0⟩
def ETH_PTP_GM_HI_ID : Fld := ⟨0x88, 31, 0⟩
def ETH_PTP_TIME_LO_NS : Fld := ⟨0x8C, 31, 0⟩
def ETH_PTP_TIME_HI_NS : Fld := ⟨0x90, 31, 0⟩
def ETH_RXPKT_LO_COUNT : Fld := ⟨0x94, 31, 0⟩
def ETH_RXPKT_HI_COUNT : Fld := ⟨0x98, 31, 0⟩
def ETH_TXPKT_LO_COUNT : Fld := ⟨0x9C, 31, 0⟩
def ETH_TXPKT_HI_COUNT : Fld := ⟨0xA0, 31, 0⟩
def ETH_FCS_CNT_COUNT : Fld := ⟨0xA4, 15, 0⟩
def ETH_DROP_CNT_COUNT : Fld := ⟨0xA8, 15, 0⟩
def ETH_CSUM_CNT_COUNT : Fld := ⟨0xAC, 15, 0⟩
def ETH_PTP_LOSS_CNT_COUNT : Fld := ⟨0xB0, 15, 0⟩
def ETH_CONFLICT_CNT_COUNT : Fld := ⟨0xB4, 15, 0⟩
def ETH_SWM_CNT_COUNT : Fld := ⟨0xB8, 15, 0⟩
def ETH_BUF_CFG_FIRST : Fld := ⟨0x100, 12, 8⟩
def ETH_BUF_CFG_EN : Fld := ⟨0x100, 0, 0⟩
def ETH_CH_USED_TX : Fld := ⟨0x104, 24, 16⟩
def ETH_CH_USED_RX : Fld := ⟨0x104, 8, 0⟩
def ETH_STR_USED_TX : Fld := ⟨0x108, 21, 16⟩
def ETH_STR_USED_RX : Fld := ⟨0x108, 5, 0⟩
def STR_RX_CTRL_EN : Fld := ⟨0x0, 31, 31⟩
def STR_RX_CTRL_STATE : Fld := ⟨0x0, 30, 28⟩
def STR_RX_CTRL_LINK : Fld := ⟨0x0, 25, 24⟩
def STR_RX_CTRL_FMT : Fld := ⟨0x0, 20, 20⟩
def STR_RX_CTRL_PTIME : Fld := ⟨0x0, 18, 16⟩
def STR_RX_CTRL_CONCEAL : Fld := ⟨0x0, 13, 13⟩
def STR_RX_CTRL_SSRCF : Fld := ⟨0x0, 12, 12⟩
def STR_RX_CTRL_NCH : Fld := ⟨0x0, 6, 0⟩
def STR_TX_CTRL_EN : Fld := ⟨0x0, 31, 31⟩
def STR_TX_CTRL_STATE : Fld := ⟨0x0, 30, 28⟩
def STR_TX_CTRL_LINK : Fld := ⟨0x0, 25, 24⟩
def STR_TX_CTRL_FMT : Fld := ⟨0x0, 20, 20⟩
def STR_TX_CTRL_PTIME : Fld := ⟨0x0, 18, 16⟩
def STR_TX_CTRL_NCH : Fld := ⟨0x0, 6, 0⟩
def STR_RX_CHAN_ALLOC : Fld := ⟨0x4, 25, 16⟩
def STR_RX_CHAN_FIRST : Fld := ⟨0x4, 9, 0⟩
def STR_TX_CHAN_ALLOC : Fld := ⟨0x4, 25, 16⟩
def STR_TX_CHAN_FIRST : Fld := ⟨0x4, 9, 0⟩
def STR_RX_DST_V : Fld := ⟨0x8, 31, 0⟩
def STR_RX_PORT_PT : Fld := ⟨0xC, 22, 16⟩
def STR_RX_PORT_DPORT : Fld := ⟨0xC, 15, 0⟩
def STR_RX_SRC_V : Fld := ⟨0x10, 31, 0⟩
def STR_RX_SSRC_V : Fld := ⟨0x14, 31, 0⟩
def STR_RX_TSOFF_V : Fld := ⟨0x18, 31, 0⟩
def STR_RX_TIMING_TMO : Fld := ⟨0x1C, 31, 24⟩
def STR_RX_TIMING_LINKOFF : Fld := ⟨0x1C, 9, 0⟩
def STR_RX_SSRC_SEEN_V : Fld := ⟨0x20, 31, 0⟩
def STR_RX_LEVEL_MIN : Fld := ⟨0x24, 31, 16⟩
def STR_RX_LEVEL_NOW : Fld := ⟨0x24, 15, 0⟩
def STR_RX_PKT_LO_V : Fld := ⟨0x28, 31, 0⟩
def STR_RX_PKT_HI_V : Fld := ⟨0x2C, 31, 0⟩
def STR_RX_LOST_CNT_COUNT : Fld := ⟨0x30, 15, 0⟩
def STR_RX_LATE_CNT_COUNT : Fld := ⟨0x34, 15, 0⟩
def STR_RX_EARLY_CNT_COUNT : Fld := ⟨0x38, 15, 0⟩
def STR_RX_FORMAT_CNT_COUNT : Fld := ⟨0x3C, 15, 0⟩
def STR_RX_CONC_CNT_COUNT : Fld := ⟨0x40, 15, 0⟩
def STR_RX_STALL_CNT_COUNT : Fld := ⟨0x44, 15, 0⟩
def STR_RX_SSRC_CNT_COUNT : Fld := ⟨0x48, 15, 0⟩
def STR_RX_REORD_CNT_COUNT : Fld := ⟨0x4C, 15, 0⟩
def STR_TX_DST_V : Fld := ⟨0x8, 31, 0⟩
def STR_TX_PORT_SPORT : Fld := ⟨0xC, 31, 16⟩
def STR_TX_PORT_DPORT : Fld := ⟨0xC, 15, 0⟩
def STR_TX_RTP_PT : Fld := ⟨0x10, 6, 0⟩
def STR_TX_SSRC_V : Fld := ⟨0x14, 31, 0⟩
def STR_TX_TSOFF_V : Fld := ⟨0x18, 31, 0⟩
def STR_TX_SEQ_V : Fld := ⟨0x20, 15, 0⟩
def STR_TX_HOLD_V : Fld := ⟨0x24, 31, 28⟩
def STR_TX_PKT_LO_V : Fld := ⟨0x28, 31, 0⟩
def STR_TX_PKT_HI_V : Fld := ⟨0x2C, 31, 0⟩
def STR_TX_SKIP_CNT_COUNT : Fld := ⟨0x30, 15, 0⟩
def PDM_CFG_CLK_EN : Fld := ⟨0x40, 27, 24⟩
def PDM_CFG_SETTLE : Fld := ⟨0x40, 20, 16⟩
def PDM_CFG_HPF : Fld := ⟨0x40, 9, 8⟩
def PDM_MIC_EN_EN : Fld := ⟨0x44, 31, 0⟩
def PDM_CTRL_CLR_FLT : Fld := ⟨0x48, 3, 0⟩
def PDM_STAT_PENDING : Fld := ⟨0x4C, 31, 31⟩
def PDM_STAT_FORCED : Fld := ⟨0x4C, 30, 30⟩
def PDM_STAT_CLK_FLT : Fld := ⟨0x4C, 23, 20⟩
def PDM_STAT_DEFER : Fld := ⟨0x4C, 11, 0⟩
def PDM_MIC_STAT_STAT : Fld := ⟨0x50, 31, 0⟩
def PDM_ABS_CNT_COUNT : Fld := ⟨0x58, 15, 0⟩
def PDM_SAT_CNT_COUNT : Fld := ⟨0x5C, 15, 0⟩
def PDM_DEFER_CNT_COUNT : Fld := ⟨0x60, 15, 0⟩
def PDM_FORCE_CNT_COUNT : Fld := ⟨0x64, 15, 0⟩
def SCT_CTRL_CLOSE : Fld := ⟨0x40, 2, 2⟩
def SCT_CTRL_STOP : Fld := ⟨0x40, 1, 1⟩
def SCT_CTRL_START : Fld := ⟨0x40, 0, 0⟩
def SCT_MIC_MIC3 : Fld := ⟨0x44, 31, 24⟩
def SCT_MIC_MIC2 : Fld := ⟨0x44, 23, 16⟩
def SCT_MIC_MIC1 : Fld := ⟨0x44, 15, 8⟩
def SCT_MIC_MIC0 : Fld := ⟨0x44, 7, 0⟩
def SCT_SEAL_CFG_OPEN_TIME : Fld := ⟨0x48, 7, 0⟩
def SCT_VAD_THR : Fld := ⟨0x4C, 23, 16⟩
def SCT_VAD_HANG : Fld := ⟨0x4C, 15, 8⟩
def SCT_VAD_MIN : Fld := ⟨0x4C, 7, 0⟩
def SCT_STAT_VAD : Fld := ⟨0x50, 31, 31⟩
def SCT_STAT_OPEN : Fld := ⟨0x50, 30, 30⟩
def SCT_STAT_LASTSRC : Fld := ⟨0x50, 29, 28⟩
def SCT_STAT_LASTSLOT : Fld := ⟨0x50, 27, 26⟩
def SCT_STAT_NMIC : Fld := ⟨0x50, 19, 16⟩
def SCT_STAT_REMAIN : Fld := ⟨0x50, 9, 0⟩
def SCT_RING_WP_VALUE : Fld := ⟨0x54, 15, 0⟩
def SCT_OPEN_BEGIN_VALUE : Fld := ⟨0x58, 15, 0⟩
def SCT_OPEN_LEN_VALUE : Fld := ⟨0x5C, 15, 0⟩
def SCT_MODEL_USED_BYTES : Fld := ⟨0x60, 17, 0⟩
def SCT_SLOT_CFG_EN : Fld := ⟨0x80, 31, 31⟩
def SCT_SLOT_CFG_WAKE : Fld := ⟨0x80, 30, 30⟩
def SCT_SLOT_CFG_STATE : Fld := ⟨0x80, 29, 28⟩
def SCT_SLOT_CFG_THR : Fld := ⟨0x80, 7, 0⟩
def SCT_SLOT_INFO_WINDOW : Fld := ⟨0x84, 31, 24⟩
def SCT_SLOT_INFO_SMOOTH : Fld := ⟨0x84, 23, 16⟩
def SCT_SLOT_INFO_KMAC : Fld := ⟨0x84, 15, 0⟩
def SCT_DET_ONSET_LO_COUNT : Fld := ⟨0xA0, 31, 0⟩
def SCT_DET_ONSET_HI_COUNT : Fld := ⟨0xA4, 31, 0⟩
def SCT_DET_TIME_LO_COUNT : Fld := ⟨0xA8, 31, 0⟩
def SCT_DET_TIME_HI_COUNT : Fld := ⟨0xAC, 31, 0⟩
def SCT_DET_INFO_SLOT : Fld := ⟨0xB0, 31, 30⟩
def SCT_DET_INFO_WIDENED : Fld := ⟨0xB0, 29, 29⟩
def SCT_DET_INFO_SCORE : Fld := ⟨0xB0, 23, 16⟩
def SCT_DET_INFO_GAP : Fld := ⟨0xB0, 11, 8⟩
def SCT_BZ_CFG_BZ1 : Fld := ⟨0xC0, 15, 8⟩
def SCT_BZ_CFG_BZ0 : Fld := ⟨0xC0, 7, 0⟩
def SCT_BZ_THR_BLOW : Fld := ⟨0xC4, 31, 24⟩
def SCT_BZ_THR_KNOCK : Fld := ⟨0xC4, 23, 16⟩
def SCT_BZ_THR_DEAD : Fld := ⟨0xC4, 15, 8⟩
def SCT_KP_CFG_EN : Fld := ⟨0xD0, 31, 31⟩
def SCT_KP_CFG_WAKE : Fld := ⟨0xD0, 30, 30⟩
def SCT_KP_CFG_SENS : Fld := ⟨0xD0, 29, 28⟩
def SCT_KP_CFG_COUNT : Fld := ⟨0xD0, 27, 24⟩
def SCT_KP_CFG_MAXI : Fld := ⟨0xD0, 23, 16⟩
def SCT_KP_CFG_MINI : Fld := ⟨0xD0, 15, 8⟩
def SCT_BZ_STAT_LAST : Fld := ⟨0xE0, 31, 30⟩
def SCT_BZ_STAT_PAT : Fld := ⟨0xE0, 29, 28⟩
def SCT_BZ_STAT_SENSOR : Fld := ⟨0xE0, 27, 27⟩
def SCT_BZ_STAT_PEAK : Fld := ⟨0xE0, 15, 0⟩
def SCT_DET_CNT_COUNT : Fld := ⟨0xF0, 15, 0⟩
def SCT_OPENDET_CNT_COUNT : Fld := ⟨0xF4, 15, 0⟩
def SCT_KNOCK_CNT_COUNT : Fld := ⟨0xF8, 15, 0⟩
def SCT_BLOW_CNT_COUNT : Fld := ⟨0xFC, 15, 0⟩
def SCT_SEALED_CNT_COUNT : Fld := ⟨0x100, 15, 0⟩
def SCT_GAP_CNT_COUNT : Fld := ⟨0x104, 15, 0⟩
def AIN_CFG_EN : Fld := ⟨0x40, 31, 31⟩
def AIN_CFG_MIC : Fld := ⟨0x40, 30, 30⟩
def AIN_CFG_BIAS_EN : Fld := ⟨0x40, 29, 29⟩
def AIN_CFG_BIAS : Fld := ⟨0x40, 23, 16⟩
def AIN_CFG_HPF : Fld := ⟨0x40, 9, 8⟩
def AIN_CFG_GAIN : Fld := ⟨0x40, 6, 0⟩
def AIN_STAT_STATE : Fld := ⟨0x44, 31, 28⟩
def AIN_STAT_GAIN_CUR : Fld := ⟨0x44, 22, 16⟩
def AIN_STAT_IBIAS : Fld := ⟨0x44, 7, 0⟩
def AIN_CLIP_CNT_COUNT : Fld := ⟨0x48, 15, 0⟩
def AIN_BFLT_CNT_COUNT : Fld := ⟨0x4C, 15, 0⟩
def LO_CFG_EN : Fld := ⟨0x40, 31, 31⟩
def LO_CFG_MUTE : Fld := ⟨0x40, 30, 30⟩
def LO_CFG_RANGE : Fld := ⟨0x40, 24, 24⟩
def LO_CTRL_CLR : Fld := ⟨0x44, 0, 0⟩
def LO_STAT_STATE : Fld := ⟨0x48, 31, 28⟩
def LO_STAT_REASON : Fld := ⟨0x48, 27, 24⟩
def LO_SHORT_CNT_COUNT : Fld := ⟨0x4C, 15, 0⟩
def HS_CFG_EN : Fld := ⟨0x40, 31, 31⟩
def HS_CFG_OUTMUTE : Fld := ⟨0x40, 30, 30⟩
def HS_CFG_DETPOL : Fld := ⟨0x40, 28, 28⟩
def HS_CFG_MICBIAS : Fld := ⟨0x40, 27, 24⟩
def HS_CFG_MICGAIN : Fld := ⟨0x40, 22, 16⟩
def HS_CFG_HPF : Fld := ⟨0x40, 9, 8⟩
def HS_JACK_STATE : Fld := ⟨0x44, 31, 28⟩
def HS_JACK_CLASS : Fld := ⟨0x44, 27, 24⟩
def HS_JACK_BTN : Fld := ⟨0x44, 23, 20⟩
def HS_JACK_MICF : Fld := ⟨0x44, 7, 0⟩
def HS_ZL_RIGHT : Fld := ⟨0x48, 31, 16⟩
def HS_ZL_LEFT : Fld := ⟨0x48, 15, 0⟩
def HS_ST_EN : Fld := ⟨0x4C, 31, 31⟩
def HS_ST_SRC : Fld := ⟨0x4C, 25, 24⟩
def HS_ST_HPF : Fld := ⟨0x4C, 17, 16⟩
def HS_ST_GAIN : Fld := ⟨0x4C, 5, 0⟩
def HS_STAT_OUT : Fld := ⟨0x50, 31, 28⟩
def HS_STAT_REASON : Fld := ⟨0x50, 27, 24⟩
def HS_STAT_ST_ACTIVE : Fld := ⟨0x50, 23, 23⟩
def HS_STAT_MICLIVE : Fld := ⟨0x50, 22, 22⟩
def HS_INS_CNT_COUNT : Fld := ⟨0x54, 15, 0⟩
def HS_BTN_CNT_COUNT : Fld := ⟨0x58, 15, 0⟩
def HS_ST_SAT_CNT_COUNT : Fld := ⟨0x5C, 15, 0⟩
def HS_DEB_RAMP : Fld := ⟨0xC0, 31, 24⟩
def HS_DEB_JACK : Fld := ⟨0xC0, 23, 16⟩
def HS_DEB_BTN : Fld := ⟨0xC0, 15, 8⟩
def HS_DEB_REMOVE : Fld := ⟨0xC0, 7, 0⟩
def AMP_CFG_VFS : Fld := ⟨0x40, 25, 16⟩
def AMP_CFG_DC_THR : Fld := ⟨0x40, 15, 9⟩
def AMP_CFG_DCPROT : Fld := ⟨0x40, 8, 8⟩
def AMP_CFG_FC : Fld := ⟨0x40, 7, 1⟩
def AMP_CFG_LOOP : Fld := ⟨0x40, 0, 0⟩
def AMP_CTRL_CLR : Fld := ⟨0x44, 2, 2⟩
def AMP_CTRL_MUTE : Fld := ⟨0x44, 1, 1⟩
def AMP_CTRL_EN : Fld := ⟨0x44, 0, 0⟩
def AMP_STAT_BLOCK : Fld := ⟨0x48, 31, 28⟩
def AMP_STAT_MUTE : Fld := ⟨0x48, 27, 24⟩
def AMP_STAT_LASTFLT : Fld := ⟨0x48, 23, 20⟩
def AMP_STAT_CLASS : Fld := ⟨0x48, 19, 18⟩
def AMP_STAT_RETRIES : Fld := ⟨0x48, 17, 16⟩
def AMP_STAT_LIMITING : Fld := ⟨0x48, 15, 15⟩
def AMP_PROT_PLIM_ATT : Fld := ⟨0x4C, 31, 24⟩
def AMP_PROT_TH_ATT : Fld := ⟨0x4C, 23, 16⟩
def AMP_PROT_DIE_ATT : Fld := ⟨0x4C, 15, 8⟩
def AMP_TEMP_DIE : Fld := ⟨0x50, 31, 16⟩
def AMP_TEMP_CH : Fld := ⟨0x50, 15, 0⟩
def AMP_POWER_PAVG : Fld := ⟨0x54, 31, 16⟩
def AMP_POWER_IPK : Fld := ⟨0x54, 15, 0⟩
def AMP_TRIP_IPK : Fld := ⟨0x58, 31, 16⟩
def AMP_TRIP_VP : Fld := ⟨0x58, 15, 8⟩
def AMP_TRIP_VN : Fld := ⟨0x58, 7, 0⟩
def AMP_LIMIT_EN : Fld := ⟨0x60, 31, 31⟩
def AMP_LIMIT_TAU : Fld := ⟨0x60, 23, 16⟩
def AMP_LIMIT_PLIM : Fld := ⟨0x60, 15, 0⟩
def AMP_THERM_TFOLD : Fld := ⟨0x64, 7, 0⟩
def AMP_ILIM_CNT_COUNT : Fld := ⟨0x70, 15, 0⟩
def AMP_TRIP_CNT_COUNT : Fld := ⟨0x74, 15, 0⟩
def AMP_CLIP_CNT_COUNT : Fld := ⟨0x78, 15, 0⟩
def AMP_LOOPSAT_CNT_COUNT : Fld := ⟨0x7C, 15, 0⟩
def AMP_DC_CNT_COUNT : Fld := ⟨0x80, 15, 0⟩
def AMP_OT_CNT_COUNT : Fld := ⟨0x84, 15, 0⟩
def BST_CFG_CARRIER : Fld := ⟨0x40, 24, 24⟩
def BST_CFG_SPREAD : Fld := ⟨0x40, 21, 20⟩
def BST_CFG_LOOKAHEAD : Fld := ⟨0x40, 6, 0⟩
def BST_RAIL_VMAX : Fld := ⟨0x44, 25, 16⟩
def BST_RAIL_VMIN : Fld := ⟨0x44, 9, 0⟩
def BST_TRACK_HEAD : Fld := ⟨0x48, 31, 24⟩
def BST_TRACK_HOLD : Fld := ⟨0x48, 23, 16⟩
def BST_TRACK_FALL : Fld := ⟨0x48, 15, 8⟩
def BST_TRACK_PASSM : Fld := ⟨0x48, 7, 0⟩
def BST_STAT_FLT : Fld := ⟨0x4C, 31, 28⟩
def BST_STAT_VRAIL : Fld := ⟨0x4C, 25, 16⟩
def BST_STAT_VTGT : Fld := ⟨0x4C, 9, 0⟩
def BST_PVIN_PV_OK : Fld := ⟨0x50, 31, 31⟩
def BST_PVIN_PVIN : Fld := ⟨0x50, 9, 0⟩
def BST_CTRL_CLR : Fld := ⟨0x54, 0, 0⟩
def BST_ILIM_CNT_COUNT : Fld := ⟨0x58, 15, 0⟩
def BST_OVP_CNT_COUNT : Fld := ⟨0x5C, 15, 0⟩
def BST_PVIN_CNT_COUNT : Fld := ⟨0x60, 15, 0⟩
def W_CFG_ENTRY : Fld := ⟨0x40, 31, 16⟩
def W_CFG_SVC : Fld := ⟨0x40, 15, 15⟩
def W_CFG_WDOG : Fld := ⟨0x40, 7, 0⟩
def W_CTRL_CLR_FLT : Fld := ⟨0x44, 5, 5⟩
def W_CTRL_STEP : Fld := ⟨0x44, 4, 4⟩
def W_CTRL_RESUME : Fld := ⟨0x44, 3, 3⟩
def W_CTRL_PAUSE : Fld := ⟨0x44, 2, 2⟩
def W_CTRL_STOP : Fld := ⟨0x44, 1, 1⟩
def W_CTRL_START : Fld := ⟨0x44, 0, 0⟩
def W_STAT_FLT : Fld := ⟨0x48, 31, 28⟩
def W_STAT_USER : Fld := ⟨0x48, 23, 16⟩
def W_STAT_PC : Fld := ⟨0x48, 14, 0⟩
def W_EVT_EVT : Fld := ⟨0x4C, 31, 0⟩
def W_EVT_SET_HOST : Fld := ⟨0x50, 31, 24⟩
def W_CYC_LO_COUNT : Fld := ⟨0x54, 31, 0⟩
def W_CYC_HI_COUNT : Fld := ⟨0x58, 31, 0⟩
def W_LOAD_MAX : Fld := ⟨0x5C, 31, 16⟩
def W_LOAD_LAST : Fld := ⟨0x5C, 15, 0⟩
def W_MISS_CNT_COUNT : Fld := ⟨0x60, 15, 0⟩
def W_LATE_CNT_COUNT : Fld := ⟨0x64, 15, 0⟩
def FRG_ALLOC_VALID : Fld := ⟨0x40, 31, 31⟩
def FRG_ALLOC_CHAN : Fld := ⟨0x40, 4, 0⟩
def FRG_ALLOC_REQ : Fld := ⟨0x40, 0, 0⟩
def FRG_USED_HIGH : Fld := ⟨0x44, 21, 16⟩
def FRG_USED_USED : Fld := ⟨0x44, 5, 0⟩
def FRG_CTRL_EN : Fld := ⟨0x400, 31, 31⟩
def FRG_CTRL_GO : Fld := ⟨0x400, 30, 30⟩
def FRG_CTRL_MODE : Fld := ⟨0x400, 29, 28⟩
def FRG_CTRL_ALLOC : Fld := ⟨0x400, 27, 27⟩
def FRG_CTRL_FREE : Fld := ⟨0x400, 26, 26⟩
def FRG_CTRL_CORE : Fld := ⟨0x400, 23, 19⟩
def FRG_CTRL_EVTBIT : Fld := ⟨0x400, 18, 16⟩
def FRG_SRC_V : Fld := ⟨0x404, 23, 0⟩
def FRG_DST_V : Fld := ⟨0x408, 23, 0⟩
def FRG_COUNT_ROWS : Fld := ⟨0x40C, 31, 24⟩
def FRG_COUNT_WORDS : Fld := ⟨0x40C, 16, 0⟩
def FRG_STRIDE_DSTRIDE : Fld := ⟨0x410, 31, 16⟩
def FRG_STRIDE_SSTRIDE : Fld := ⟨0x410, 15, 0⟩
def FRG_PPOFF_V : Fld := ⟨0x414, 23, 0⟩
def FRG_STAT_STATE : Fld := ⟨0x418, 31, 28⟩
def FRG_STAT_BLK : Fld := ⟨0x418, 15, 8⟩
def FRG_STAT_CODE : Fld := ⟨0x418, 7, 0⟩
def FRG_LATE_CNT_COUNT : Fld := ⟨0x41C, 15, 0⟩
def CUE_CTRL_STATE : Fld := ⟨0x1C, 31, 29⟩
def CUE_CTRL_FREE : Fld := ⟨0x1C, 28, 28⟩
def CUE_CTRL_ARM : Fld := ⟨0x1C, 27, 27⟩
def CUE_CTRL_DISARM : Fld := ⟨0x1C, 26, 26⟩
def CUE_CTRL_SIDE : Fld := ⟨0x1C, 25, 25⟩
def CUE_CTRL_WAKE : Fld := ⟨0x1C, 7, 7⟩
def CUE_CTRL_NOTIFY : Fld := ⟨0x1C, 6, 6⟩
def CUE_CTRL_MODE : Fld := ⟨0x1C, 5, 4⟩
def CUE_CTRL_DIR : Fld := ⟨0x1C, 1, 0⟩
def CUE_STAT_COUNT : Fld := ⟨0x18, 31, 16⟩
def CUE_STAT_CODE : Fld := ⟨0x18, 15, 8⟩
def WAG_CFG_INV : Fld := ⟨0x40, 2, 2⟩
def WAG_CFG_SRC : Fld := ⟨0x40, 1, 0⟩
def WAG_CTRL_STOP : Fld := ⟨0x44, 1, 1⟩
def WAG_CTRL_START : Fld := ⟨0x44, 0, 0⟩
def WAG_STAT_QUAL : Fld := ⟨0x48, 31, 28⟩
def WAG_STAT_RESUMED : Fld := ⟨0x48, 27, 27⟩
def WAG_STAT_SLEWING : Fld := ⟨0x48, 26, 26⟩
def WAG_STAT_FAILS : Fld := ⟨0x48, 7, 0⟩
def WAG_VALUE_LO_VALUE : Fld := ⟨0x4C, 31, 0⟩
def WAG_VALUE_HI_VALUE : Fld := ⟨0x50, 31, 0⟩
def WAG_SPEED_S : Fld := ⟨0x54, 31, 0⟩
def WAG_ODO_SCALE_SCALE : Fld := ⟨0x58, 31, 0⟩
def WAG_ODO_GUARD_MINW : Fld := ⟨0x5C, 31, 24⟩
def WAG_ODO_GUARD_AMAX : Fld := ⟨0x5C, 23, 16⟩
def WAG_ODO_GUARD_VMAX : Fld := ⟨0x5C, 15, 0⟩
def WAG_GUARD_T_DR : Fld := ⟨0x60, 31, 24⟩
def WAG_GUARD_T_FIX_TMO : Fld := ⟨0x60, 23, 16⟩
def WAG_GUARD_T_MAXAGE : Fld := ⟨0x60, 15, 8⟩
def WAG_GUARD_T_FAULTN : Fld := ⟨0x60, 7, 0⟩
def WAG_FIX_CFG_SLEW : Fld := ⟨0x64, 31, 16⟩
def WAG_FIX_CFG_JUMPTHR : Fld := ⟨0x64, 15, 0⟩
def WAG_PULSE_LO_COUNT : Fld := ⟨0x68, 31, 0⟩
def WAG_PULSE_HI_COUNT : Fld := ⟨0x6C, 31, 0⟩
def WAG_LAST_FVALID : Fld := ⟨0x70, 31, 31⟩
def WAG_LAST_FIRED : Fld := ⟨0x70, 25, 16⟩
def WAG_LAST_MVALID : Fld := ⟨0x70, 15, 15⟩
def WAG_LAST_MISSED : Fld := ⟨0x70, 9, 0⟩
def WAG_FIRE_LO_PERIOD : Fld := ⟨0x74, 31, 0⟩
def WAG_FIRE_HI_PERIOD : Fld := ⟨0x78, 31, 0⟩
def WAG_USED_DEFINED : Fld := ⟨0x7C, 26, 16⟩
def WAG_USED_ARMED : Fld := ⟨0x7C, 10, 0⟩
def WAG_CUE_BANK_BANK : Fld := ⟨0x80, 3, 0⟩
def WAG_QERR_CNT_COUNT : Fld := ⟨0x84, 15, 0⟩
def WAG_IMPL_CNT_COUNT : Fld := ⟨0x88, 15, 0⟩
def WAG_FIXREJ_CNT_COUNT : Fld := ⟨0x8C, 15, 0⟩
def WAG_MISS_CNT_COUNT : Fld := ⟨0x90, 15, 0⟩
def WAG_ACTF_CNT_COUNT : Fld := ⟨0x94, 15, 0⟩
def WAG_JUMP_CNT_COUNT : Fld := ⟨0x98, 15, 0⟩
def WAG_USER_CUE : Fld := ⟨0x9C, 25, 16⟩
def WAG_USER_CODE : Fld := ⟨0x9C, 15, 0⟩
def FLS_INFO_MFR : Fld := ⟨0x40, 31, 24⟩
def FLS_INFO_REASON : Fld := ⟨0x40, 15, 12⟩
def FLS_INFO_SIZE : Fld := ⟨0x40, 11, 0⟩
def FLS_CFG_FREQ : Fld := ⟨0x44, 1, 0⟩
def FLS_WEAR_RETIRED : Fld := ⟨0x48, 31, 20⟩
def FLS_WEAR_LOGSECT : Fld := ⟨0x48, 15, 0⟩
def FLS_MAXERASE_COUNT : Fld := ⟨0x4C, 16, 0⟩
def FLS_CRC_CNT_COUNT : Fld := ⟨0x50, 15, 0⟩
def CLIP_CFG_FRAME : Fld := ⟨0x40, 12, 8⟩
def CLIP_CFG_RING : Fld := ⟨0x40, 0, 0⟩
def CLIP_LIB_VALID : Fld := ⟨0x44, 31, 31⟩
def CLIP_LIB_HALF : Fld := ⟨0x44, 30, 30⟩
def CLIP_LIB_NCLIP : Fld := ⟨0x44, 12, 0⟩
def CLIP_UR_CNT_COUNT : Fld := ⟨0x48, 15, 0⟩
def CLIP_BUSY_CNT_COUNT : Fld := ⟨0x4C, 15, 0⟩
def CLIP_CHK_CNT_COUNT : Fld := ⟨0x50, 15, 0⟩
def CLIP_LATE_CNT_COUNT : Fld := ⟨0x54, 15, 0⟩
def CLIP_V_CFG_NOTIFY : Fld := ⟨0x100, 4, 4⟩
def CLIP_V_CFG_POLICY : Fld := ⟨0x100, 1, 0⟩
def CLIP_V_STAT_STATE : Fld := ⟨0x104, 31, 29⟩
def CLIP_V_STAT_QUEUED : Fld := ⟨0x104, 28, 28⟩
def CLIP_V_STAT_LEFT : Fld := ⟨0x104, 27, 20⟩
def CLIP_V_STAT_CODE : Fld := ⟨0x104, 19, 12⟩
def CLIP_V_STAT_CLIP : Fld := ⟨0x104, 11, 0⟩
def TONE_STAT_RUN : Fld := ⟨0x400, 31, 31⟩
def TONE_STAT_SEG : Fld := ⟨0x400, 18, 16⟩
def TONE_STAT_LEFT : Fld := ⟨0x400, 15, 8⟩
def TONE_STAT_PATTERN : Fld := ⟨0x400, 7, 0⟩
def MADC_CFG_CAL : Fld := ⟨0x40, 0, 0⟩
def MADC_REF_REF_OK : Fld := ⟨0x44, 31, 31⟩
def MADC_REF_VEXT : Fld := ⟨0x44, 27, 16⟩
def MADC_REF_SETTLE : Fld := ⟨0x44, 15, 8⟩
def MADC_REF_SEL : Fld := ⟨0x44, 1, 0⟩
def MADC_CTRL_FLUSH : Fld := ⟨0x48, 9, 9⟩
def MADC_CTRL_CLR_PLAUS : Fld := ⟨0x48, 8, 8⟩
def MADC_CTRL_SWTRIG : Fld := ⟨0x48, 3, 0⟩
def MADC_STAT_ACT : Fld := ⟨0x4C, 31, 31⟩
def MADC_STAT_ASEQ : Fld := ⟨0x4C, 29, 28⟩
def MADC_STAT_SUSP : Fld := ⟨0x4C, 27, 27⟩
def MADC_STAT_BUSY : Fld := ⟨0x4C, 23, 20⟩
def MADC_STAT_HELD : Fld := ⟨0x4C, 19, 16⟩
def MADC_STAT_LEVEL : Fld := ⟨0x4C, 8, 0⟩
def MADC_FIFO_WORD : Fld := ⟨0x50, 31, 0⟩
def MADC_RING_EN : Fld := ⟨0x54, 31, 31⟩
def MADC_RING_FRAME : Fld := ⟨0x54, 20, 16⟩
def MADC_RING_OFFSET : Fld := ⟨0x54, 13, 8⟩
def MADC_RING_LEN : Fld := ⟨0x54, 1, 0⟩
def MADC_RING_WP_WRAP : Fld := ⟨0x58, 31, 16⟩
def MADC_RING_WP_INDEX : Fld := ⟨0x58, 12, 0⟩
def MADC_XCHK_LIMIT : Fld := ⟨0x5C, 31, 24⟩
def MADC_XCHK_WIN : Fld := ⟨0x5C, 23, 16⟩
def MADC_XCHK_SMP : Fld := ⟨0x5C, 14, 8⟩
def MADC_XCHK_SRC : Fld := ⟨0x5C, 1, 0⟩
def MADC_XCHK_STAT_LEAKY : Fld := ⟨0x60, 31, 24⟩
def MADC_XCHK_VAL_VAL1 : Fld := ⟨0x64, 29, 16⟩
def MADC_XCHK_VAL_VAL0 : Fld := ⟨0x64, 13, 0⟩
def MADC_DROP_CNT_COUNT : Fld := ⟨0x68, 15, 0⟩
def MADC_RESTART_CNT_COUNT : Fld := ⟨0x6C, 15, 0⟩
def MADC_OVR_CNT_COUNT : Fld := ⟨0x70, 15, 0⟩
def MADC_XCHK_DIS_CNT_COUNT : Fld := ⟨0x74, 15, 0⟩
def MADC_XCHK_SKIP_CNT_COUNT : Fld := ⟨0x78, 15, 0⟩
def MADC_NS_CNT_COUNT : Fld := ⟨0x7C, 15, 0⟩
def MADC_SEQ_CFG_EN : Fld := ⟨0x100, 31, 31⟩
def MADC_SEQ_CFG_POLICY : Fld := ⟨0x100, 27, 26⟩
def MADC_SEQ_CFG_XCHK : Fld := ⟨0x100, 25, 25⟩
def MADC_SEQ_CFG_TSF : Fld := ⟨0x100, 24, 24⟩
def MADC_SEQ_CFG_DEST : Fld := ⟨0x100, 23, 22⟩
def MADC_SEQ_CFG_LEN : Fld := ⟨0x100, 5, 0⟩
def MADC_SEQ_TRIG_TRIG : Fld := ⟨0x104, 31, 30⟩
def MADC_SEQ_TRIG_ARG : Fld := ⟨0x104, 29, 0⟩
def MADC_SEQ_TS_LO_TS : Fld := ⟨0x108, 31, 0⟩
def MADC_SEQ_TS_HI_TS : Fld := ⟨0x10C, 31, 0⟩
def LSV_CFG_EN : Fld := ⟨0x40, 31, 31⟩
def LSV_CFG_WIN : Fld := ⟨0x40, 27, 24⟩
def LSV_CFG_CONFIRM : Fld := ⟨0x40, 23, 20⟩
def LSV_CFG_VMIN : Fld := ⟨0x40, 19, 12⟩
def LSV_CFG_ACTOL : Fld := ⟨0x40, 11, 8⟩
def LSV_THR_TOL : Fld := ⟨0x44, 31, 24⟩
def LSV_THR_OPEN_F : Fld := ⟨0x44, 23, 16⟩
def LSV_THR_ILEAK : Fld := ⟨0x44, 15, 0⟩
def LSV_INFO_CORE : Fld := ⟨0x48, 20, 16⟩
def LSV_INFO_SWSRC : Fld := ⟨0x48, 9, 0⟩
def LSV_ST_STAT_STATE : Fld := ⟨0x4C, 31, 28⟩
def LSV_ST_STAT_LEARN : Fld := ⟨0x4C, 27, 27⟩
def LSV_ST_STAT_ZONE : Fld := ⟨0x4C, 26, 24⟩
def LSV_ST_STAT_DONE : Fld := ⟨0x4C, 15, 8⟩
def LSV_ST_STAT_FAIL : Fld := ⟨0x4C, 7, 0⟩
def LSV_REF_EN : Fld := ⟨0x80, 31, 31⟩
def LSV_REF_LEARN : Fld := ⟨0x80, 30, 30⟩
def LSV_REF_NSPK : Fld := ⟨0x80, 27, 24⟩
def LSV_REF_ZREF : Fld := ⟨0x80, 15, 0⟩
def LSV_STAT_VERDICT : Fld := ⟨0x84, 31, 28⟩
def LSV_STAT_FREEZE : Fld := ⟨0x84, 27, 24⟩
def LSV_STAT_FLAGS : Fld := ⟨0x84, 23, 20⟩
def LSV_STAT_PEND : Fld := ⟨0x84, 19, 16⟩
def LSV_STAT_LEARNING : Fld := ⟨0x84, 15, 15⟩
def LSV_STAT_NLOST : Fld := ⟨0x84, 3, 0⟩
def LSV_MEAS_Z : Fld := ⟨0x88, 31, 16⟩
def LSV_MEAS_IGND : Fld := ⟨0x88, 15, 0⟩
def LSV_CHG_CNT_COUNT : Fld := ⟨0x8C, 15, 0⟩
def LSV_ST_RES_RESULT : Fld := ⟨0x100, 31, 28⟩
def LSV_ST_RES_EVERD : Fld := ⟨0x100, 27, 24⟩
def LSV_ST_RES_Z : Fld := ⟨0x100, 15, 0⟩
def LSV_ST_AC_AREF : Fld := ⟨0x104, 31, 16⟩
def LSV_ST_AC_AG : Fld := ⟨0x104, 15, 0⟩
def KPR_BOOT_TRIAL : Fld := ⟨0x40, 31, 31⟩
def KPR_BOOT_FALLBACK : Fld := ⟨0x40, 30, 30⟩
def KPR_BOOT_ATTEMPT : Fld := ⟨0x40, 29, 28⟩
def KPR_BOOT_KEYSLOT : Fld := ⟨0x40, 26, 25⟩
def KPR_BOOT_SLOT : Fld := ⟨0x40, 24, 24⟩
def KPR_BOOT_SECVER : Fld := ⟨0x40, 23, 16⟩
def KPR_BOOT_SCRIPT : Fld := ⟨0x40, 15, 8⟩
def KPR_BOOT_NOIMG : Fld := ⟨0x40, 7, 4⟩
def KPR_SLOT_STATE : Fld := ⟨0x44, 31, 28⟩
def KPR_SLOT_ATTEMPTS : Fld := ⟨0x44, 27, 24⟩
def KPR_SLOT_SECVER : Fld := ⟨0x44, 23, 16⟩
def KPR_SLOT_CODE : Fld := ⟨0x44, 7, 0⟩
def KPR_LIB_STATE : Fld := ⟨0x4C, 31, 28⟩
def KPR_LIB_NCLIP : Fld := ⟨0x4C, 12, 0⟩
def KPR_FUSE_COUNT : Fld := ⟨0x54, 6, 0⟩
def KPR_IMG_STAT_STATE : Fld := ⟨0x58, 31, 28⟩
def KPR_IMG_STAT_TARGET : Fld := ⟨0x58, 27, 27⟩
def KPR_IMG_STAT_DEST : Fld := ⟨0x58, 26, 26⟩
def KPR_IMG_STAT_REQ : Fld := ⟨0x58, 23, 20⟩
def KPR_IMG_STAT_KEY : Fld := ⟨0x58, 15, 8⟩
def KPR_IMG_STAT_CODE : Fld := ⟨0x58, 7, 0⟩
def KPR_IMG_BYTES_BYTES : Fld := ⟨0x5C, 27, 0⟩
def KPR_UDP_CFG_EN : Fld := ⟨0x60, 31, 31⟩
def KPR_UDP_CFG_RDOPEN : Fld := ⟨0x60, 30, 30⟩
def KPR_UDP_CFG_LINKS : Fld := ⟨0x60, 3, 0⟩
def KPR_KEYS_PRESENT : Fld := ⟨0x64, 3, 0⟩
def KPR_UPTIME_LO_MS : Fld := ⟨0x68, 31, 0⟩
def KPR_UPTIME_HI_MS : Fld := ⟨0x6C, 31, 0⟩
def KPR_OTP_DATA_HASH : Fld := ⟨0x70, 31, 0⟩
def KPR_OTP_CTRL_KEY : Fld := ⟨0x90, 31, 24⟩
def KPR_OTP_CTRL_BUSY : Fld := ⟨0x90, 16, 16⟩
def KPR_OTP_CTRL_OP : Fld := ⟨0x90, 9, 8⟩
def KPR_OTP_CTRL_SLOT : Fld := ⟨0x90, 1, 0⟩
def KPR_OTP_STAT_PROG : Fld := ⟨0x94, 7, 4⟩
def KPR_OTP_STAT_REVOKED : Fld := ⟨0x94, 3, 0⟩
def BBX_CFG_AUTOPIN : Fld := ⟨0x40, 31, 31⟩
def BBX_CFG_NOTIFY : Fld := ⟨0x40, 10, 8⟩
def BBX_CFG_MIRROR : Fld := ⟨0x40, 0, 0⟩
def BBX_HEAD_LO_SEQ : Fld := ⟨0x44, 31, 0⟩
def BBX_HEAD_HI_SEQ : Fld := ⟨0x48, 31, 0⟩
def BBX_MIR_LO_SEQ : Fld := ⟨0x4C, 31, 0⟩
def BBX_MIR_HI_SEQ : Fld := ⟨0x50, 31, 0⟩
def BBX_STAT_PINNED : Fld := ⟨0x54, 24, 16⟩
def BBX_STAT_QUEUE : Fld := ⟨0x54, 6, 0⟩
def BBX_TORN_CNT_COUNT : Fld := ⟨0x58, 15, 0⟩
def BBX_CRC_CNT_COUNT : Fld := ⟨0x5C, 15, 0⟩
def BBX_DROP_CNT_COUNT : Fld := ⟨0x60, 15, 0⟩
def BBX_MIRFAIL_CNT_COUNT : Fld := ⟨0x64, 15, 0⟩
def NRS_STAT_LATE : Fld := ⟨0x40, 31, 31⟩
def NRS_STAT_PASS_MS : Fld := ⟨0x40, 15, 0⟩
def NRS_PASS_LO_COUNT : Fld := ⟨0x44, 31, 0⟩
def NRS_PASS_HI_COUNT : Fld := ⟨0x48, 31, 0⟩
def NRS_CE_CNT_COUNT : Fld := ⟨0x4C, 15, 0⟩
def NRS_UE_CNT_COUNT : Fld := ⟨0x50, 15, 0⟩
def NRS_UE_ADDR_VALID : Fld := ⟨0x54, 31, 31⟩
def NRS_UE_ADDR_SPACE : Fld := ⟨0x54, 27, 24⟩
def NRS_UE_ADDR_ADDR : Fld := ⟨0x54, 23, 0⟩
def NRS_TEMP_MAX : Fld := ⟨0x58, 31, 16⟩
def NRS_TEMP_NOW : Fld := ⟨0x58, 15, 0⟩
def NRS_TLM_CFG_EN : Fld := ⟨0x5C, 31, 31⟩
def NRS_TLM_CFG_UDP : Fld := ⟨0x5C, 30, 30⟩
def NRS_TLM_CFG_LINK : Fld := ⟨0x5C, 29, 28⟩
def NRS_TLM_CFG_PERIOD : Fld := ⟨0x5C, 7, 0⟩
def NRS_TLM_DST_ADDR : Fld := ⟨0x60, 31, 0⟩
def NRS_TLM_PORT_SPORT : Fld := ⟨0x64, 31, 16⟩
def NRS_TLM_PORT_DPORT : Fld := ⟨0x64, 15, 0⟩
def NRS_TLM_SEQ_LO_SEQ : Fld := ⟨0x68, 31, 0⟩
def NRS_TLM_SEQ_HI_SEQ : Fld := ⟨0x6C, 31, 0⟩
def SWM_STAT_UNLOCKED : Fld := ⟨0x40, 31, 31⟩
def SWM_STAT_LOCKOUT : Fld := ⟨0x40, 30, 30⟩
def SWM_STAT_REQ : Fld := ⟨0x40, 27, 24⟩
def SWM_STAT_KEY : Fld := ⟨0x40, 23, 16⟩
def SWM_STAT_ENABLED : Fld := ⟨0x40, 15, 8⟩
def SWM_STAT_REMAIN : Fld := ⟨0x40, 7, 0⟩
def SWM_CFG_UNLOCK_TIME : Fld := ⟨0x44, 7, 0⟩
def SWM_TOTAL_LO_COUNT : Fld := ⟨0x48, 31, 0⟩
def SWM_TOTAL_HI_COUNT : Fld := ⟨0x4C, 31, 0⟩
def SWM_RULE_TGT_EN : Fld := ⟨0x100, 31, 31⟩
def SWM_RULE_TGT_CLASS : Fld := ⟨0x100, 30, 28⟩
def SWM_RULE_TGT_INST : Fld := ⟨0x100, 27, 24⟩
def SWM_RULE_TGT_DIR : Fld := ⟨0x100, 23, 23⟩
def SWM_RULE_TGT_SEL : Fld := ⟨0x100, 21, 20⟩
def SWM_RULE_TGT_SELARG : Fld := ⟨0x100, 15, 0⟩
def SWM_RULE_ACT_ACTION : Fld := ⟨0x104, 31, 28⟩
def SWM_RULE_ACT_MODE : Fld := ⟨0x104, 24, 24⟩
def SWM_RULE_ACT_PROB : Fld := ⟨0x104, 15, 0⟩
def SWM_RULE_PARAM_PARAM : Fld := ⟨0x108, 31, 0⟩
def SWM_RULE_PAT_PAT : Fld := ⟨0x10C, 31, 0⟩
def SWM_RULE_CNT_LO_COUNT : Fld := ⟨0x110, 31, 0⟩
def SWM_RULE_CNT_HI_COUNT : Fld := ⟨0x114, 31, 0⟩
def SWM_RULE_LIMIT_LIMIT : Fld := ⟨0x118, 15, 0⟩
def PWR_CFG_AUTO_MAX : Fld := ⟨0x40, 31, 28⟩
def PWR_CFG_NEEDSRC : Fld := ⟨0x40, 24, 24⟩
def PWR_CFG_ESCALATE : Fld := ⟨0x40, 23, 16⟩
def PWR_CFG_IDLE_TMR : Fld := ⟨0x40, 15, 0⟩
def PWR_TOL_TOL : Fld := ⟨0x44, 23, 0⟩
def PWR_RET_FRAMES : Fld := ⟨0x48, 30, 0⟩
def PWR_WAKE_EN_CUE : Fld := ⟨0x4C, 4, 4⟩
def PWR_WAKE_EN_KNOCK : Fld := ⟨0x4C, 3, 3⟩
def PWR_WAKE_EN_SCOUT : Fld := ⟨0x4C, 2, 2⟩
def PWR_WAKE_EN_SPI : Fld := ⟨0x4C, 1, 1⟩
def PWR_WAKE_EN_WAKEIN : Fld := ⟨0x4C, 0, 0⟩
def PWR_REQ_GO : Fld := ⟨0x50, 31, 31⟩
def PWR_REQ_FORCE : Fld := ⟨0x50, 8, 8⟩
def PWR_REQ_TARGET : Fld := ⟨0x50, 2, 0⟩
def PWR_STAT_LAST_FROM : Fld := ⟨0x54, 31, 28⟩
def PWR_STAT_LAST_SRC : Fld := ⟨0x54, 27, 24⟩
def PWR_STAT_LAST_KIND : Fld := ⟨0x54, 23, 20⟩
def PWR_STAT_DEGRADED : Fld := ⟨0x54, 19, 19⟩
def PWR_STAT_LOCKED_OUT : Fld := ⟨0x54, 18, 18⟩
def PWR_STAT_CONSEC : Fld := ⟨0x54, 17, 16⟩
def PWR_DOM_DOM : Fld := ⟨0x58, 11, 0⟩
def PWR_BIAS_BIAS : Fld := ⟨0x5C, 11, 0⟩
def PWR_AUTO_FROM : Fld := ⟨0x60, 31, 28⟩
def PWR_AUTO_SRC : Fld := ⟨0x60, 27, 24⟩
def PWR_WAKE_CNT_LO_COUNT : Fld := ⟨0x64, 31, 0⟩
def PWR_WAKE_CNT_HI_COUNT : Fld := ⟨0x68, 31, 0⟩
def PWR_RFS_CNT_COUNT : Fld := ⟨0x6C, 15, 0⟩
def PWR_RFS_HEAD_WRAPPED : Fld := ⟨0x70, 8, 8⟩
def PWR_RFS_HEAD_NEXT : Fld := ⟨0x70, 3, 0⟩
def PWR_WFAIL_CNT_COUNT : Fld := ⟨0x74, 15, 0⟩
def PWR_WFAIL_FROM : Fld := ⟨0x78, 15, 12⟩
def PWR_WFAIL_CLASS : Fld := ⟨0x78, 9, 8⟩
def PWR_WFAIL_STEP : Fld := ⟨0x78, 7, 0⟩
def PWR_WTIME_US : Fld := ⟨0x7C, 23, 0⟩
def PWR_RFS_WHO_TYPE : Fld := ⟨0x100, 31, 16⟩
def PWR_RFS_WHO_INST : Fld := ⟨0x100, 15, 8⟩
def PWR_RFS_WHO_UNIT : Fld := ⟨0x100, 7, 0⟩
def PWR_RFS_WHY_TARGET : Fld := ⟨0x104, 31, 28⟩
def PWR_RFS_WHY_REQ : Fld := ⟨0x104, 27, 24⟩
def PWR_RFS_WHY_REASON : Fld := ⟨0x104, 23, 16⟩
def PWR_RFS_WHY_TIME : Fld := ⟨0x104, 15, 0⟩
def XF_BUF_DATA : Fld := ⟨0x240, 31, 0⟩
def MADC_SEQ_E_SMP : Fld := ⟨0x200, 21, 16⟩
def MADC_SEQ_E_GAIN : Fld := ⟨0x200, 13, 12⟩
def MADC_SEQ_E_ALIGN : Fld := ⟨0x200, 9, 9⟩
def MADC_SEQ_E_FMT : Fld := ⟨0x200, 8, 8⟩
def MADC_SEQ_E_CH : Fld := ⟨0x200, 5, 0⟩
def MADC_RES_WORD : Fld := ⟨0x400, 31, 0⟩

end Sys2Proof.Machine.F
end

