-- ==== Sys2Proof/Machine/RegTable.lean ====
section
/-! DEFINITION. The registers of every page as the chapters' field tables give them: offset, repetition, the bits
each access type of R7 covers, the reset value, and whether the register is a counter (R32, R43, R44). -/

namespace Sys2Proof.Machine.RegTable

/-- Registers of the hdr page or window. -/
def hdrRegs : List RegDef := [
  ⟨0, 1, 4, 1, 0x4, 0, 0, 0, 0, 0x1, .plain⟩, -- PG_ID
  ⟨0x4, 1, 4, 1, 0x4, 0x1, 0, 0x6, 0, 0, .plain⟩, -- PG_CTRL
  ⟨0x8, 1, 4, 1, 0x4, 0, 0, 0, 0, 0, .plain⟩, -- PG_STAT
  ⟨0xC, 1, 4, 1, 0x4, 0, 0xFFFFFFFF, 0, 0, 0, .plain⟩, -- EVT_RAW
  ⟨0x10, 1, 4, 1, 0x4, 0xFFFFFFFF, 0, 0, 0, 0xFF000000, .plain⟩, -- EVT_EN
  ⟨0x14, 1, 4, 1, 0x4, 0, 0, 0, 0, 0, .plain⟩, -- EVT_PEND
  ⟨0x18, 1, 4, 1, 0x4, 0, 0, 0xFFFFFFFF, 0, 0, .plain⟩, -- EVT_FORCE
  ⟨0x1C, 1, 4, 1, 0x4, 0, 0, 0, 0, 0, .plain⟩, -- REFUSE
  ⟨0x28, 1, 4, 1, 0x4, 0, 0, 0, 0, 0, .plain⟩, -- REFUSE_SRC
  ⟨0x20, 1, 4, 1, 0x4, 0, 0, 0, 0, 0, .counter⟩, -- ERR_CNT
  ⟨0x24, 1, 4, 1, 0x4, 0, 0, 0, 0, 0, .plain⟩ -- SNAP
]

/-- Registers of the sys page or window. -/
def sysRegs : List RegDef := [
  ⟨0x40, 1, 4, 1, 0x4, 0, 0, 0, 0, 0x85121110, .plain⟩, -- SYS_DEV_ID
  ⟨0x44, 1, 4, 1, 0x4, 0, 0, 0, 0, 0, .plain⟩, -- SYS_UID_LO
  ⟨0x48, 1, 4, 1, 0x4, 0, 0, 0, 0, 0, .plain⟩, -- SYS_UID_HI
  ⟨0x4C, 1, 4, 1, 0x4, 0, 0, 0, 0, 0, .plain⟩, -- SYS_STRAP
  ⟨0x50, 1, 4, 1, 0x4, 0, 0x7F, 0, 0, 0, .plain⟩, -- SYS_RST_CAUSE
  ⟨0x54, 1, 4, 1, 0x4, 0, 0, 0, 0, 0, .plain⟩, -- SYS_RST_CTRL
  ⟨0x58, 1, 4, 1, 0x4, 0x1, 0, 0, 0, 0x1, .plain⟩, -- SYS_IRQ_CTRL
  ⟨0x60, 3, 4, 1, 0x4, 0, 0, 0, 0, 0, .plain⟩, -- SYS_IRQ_PEND
  ⟨0x70, 3, 4, 1, 0x4, 0, 0, 0, 0, 0, .plain⟩, -- SYS_FLT_PEND
  ⟨0x80, 1, 4, 1, 0x4, 0, 0, 0, 0, 0, .plain⟩ -- SYS_BADADDR
]

/-- Registers of the spi page or window. -/
def spiRegs : List RegDef := [
  ⟨0x40, 1, 4, 1, 0x4, 0xFF01, 0, 0, 0xFF00, 0xA000, .plain⟩, -- SPI_CFG
  ⟨0x44, 1, 4, 1, 0x4, 0, 0, 0, 0, 0, .plain⟩, -- SPI_LAST
  ⟨0x48, 1, 4, 1, 0x4, 0, 0, 0, 0, 0, .plain⟩, -- SPI_MB_STAT
  ⟨0x4C, 1, 4, 1, 0x4, 0, 0, 0, 0, 0, .counter⟩, -- SPI_CRC_CNT
  ⟨0x50, 1, 4, 1, 0x4, 0, 0, 0, 0, 0, .counter⟩, -- SPI_SHORT_CNT
  ⟨0x54, 1, 4, 1, 0x4, 0, 0, 0, 0, 0, .counter⟩, -- SPI_OVR_CNT
  ⟨0x58, 1, 4, 1, 0x4, 0, 0, 0, 0, 0, .counter⟩ -- SPI_WAKE_CNT
]

/-- Registers of the tw page or window. -/
def twRegs : List RegDef := [
  ⟨0x40, 1, 4, 1, 0x4, 0xFF073F01, 0, 0, 0, 0x19030500, .plain⟩, -- TW_CFG
  ⟨0x44, 1, 4, 1, 0x4, 0x3FF03FF, 0, 0, 0, 0x780082, .plain⟩, -- TW_TIMING
  ⟨0x48, 1, 4, 1, 0x4, 0, 0, 0x3, 0, 0, .plain⟩, -- TW_CTRL
  ⟨0x4C, 1, 4, 1, 0x4, 0, 0, 0, 0, 0, .plain⟩, -- TW_BUS
  ⟨0x50, 1, 4, 1, 0x4, 0, 0, 0, 0, 0, .plain⟩, -- TW_PTR
  ⟨0x54, 1, 4, 1, 0x4, 0, 0, 0, 0, 0, .plain⟩, -- TW_LAST
  ⟨0x58, 1, 4, 1, 0x4, 0, 0, 0, 0, 0, .counter⟩, -- TW_PROTO_CNT
  ⟨0x5C, 1, 4, 1, 0x4, 0, 0, 0, 0, 0, .counter⟩, -- TW_PEC_CNT
  ⟨0x60, 1, 4, 1, 0x4, 0, 0, 0, 0, 0, .counter⟩, -- TW_TMO_CNT
  ⟨0x64, 1, 4, 1, 0x4, 0, 0, 0, 0, 0, .counter⟩, -- TW_ARB_CNT
  ⟨0x68, 1, 4, 1, 0x4, 0, 0, 0, 0, 0, .counter⟩, -- TW_NACK_CNT
  ⟨0x200, 4, 128, 1, 0x4, 0x407F7F7F, 0, 0x80000000, 0, 0, .plain⟩, -- XF_CTRL
  ⟨0x204, 4, 128, 1, 0x4, 0, 0, 0, 0, 0, .plain⟩, -- XF_STAT
  ⟨0x240, 16, 4, 4, 0x80, 0xFFFFFFFF, 0, 0, 0, 0, .plain⟩ -- XF_BUF
]

/-- Registers of the sk page or window. -/
def skRegs : List RegDef := [
  ⟨0, 1, 4, 1, 0x4, 0xF000F, 0, 0, 0, 0x40000, .plain⟩, -- SK_CTRL
  ⟨0x4, 1, 4, 1, 0x4, 0xFFFF, 0, 0, 0, 0x9610961, .plain⟩, -- SK_TRIM
  ⟨0x8, 1, 4, 1, 0x4, 0x83FFFFFF, 0, 0, 0, 0xA02, .plain⟩, -- SK_LIM
  ⟨0xC, 1, 4, 1, 0x4, 0xF7FFF, 0, 0, 0, 0x30000, .plain⟩, -- SK_DLY
  ⟨0x10, 1, 4, 1, 0x4, 0xFFFF, 0, 0, 0, 0xF1E, .plain⟩, -- SK_MET_CFG
  ⟨0x14, 1, 4, 1, 0x4, 0, 0, 0, 0, 0xFA24FA24, .plain⟩, -- SK_MET
  ⟨0x18, 1, 4, 1, 0x4, 0, 0, 0, 0, 0, .plain⟩, -- SK_STAT
  ⟨0x1C, 1, 4, 1, 0x4, 0, 0, 0, 0, 0, .plain⟩, -- SK_ZLA
  ⟨0x20, 1, 4, 1, 0x4, 0, 0, 0, 0, 0, .counter⟩, -- SK_SAT_CNT
  ⟨0x24, 1, 4, 1, 0x4, 0, 0, 0, 0, 0, .counter⟩, -- SK_CHN_CNT
  ⟨0x28, 1, 4, 1, 0x4, 0, 0, 0, 0, 0, .counter⟩ -- SK_LIM_CNT
]

/-- Registers of the cmb page or window. -/
def cmbRegs : List RegDef := [
  ⟨0x400, 16, 32, 1, 0x4, 0xC71FFFFF, 0, 0, 0, 0x1081406, .plain⟩, -- ZLA_CFG
  ⟨0x404, 16, 32, 1, 0x4, 0xBFBFBFBF, 0, 0, 0, 0, .plain⟩, -- ZLA_MIC
  ⟨0x408, 16, 32, 1, 0x4, 0xFFFFFFFF, 0, 0, 0, 0x78100805, .plain⟩, -- ZLA_BAND
  ⟨0x40C, 16, 32, 1, 0x4, 0xFFFFFFFF, 0, 0, 0, 0x78141405, .plain⟩, -- ZLA_RATE
  ⟨0x410, 16, 32, 1, 0x4, 0, 0, 0, 0, 0, .plain⟩, -- ZLA_STAT
  ⟨0x414, 16, 32, 1, 0x4, 0, 0, 0, 0, 0xFA240000, .plain⟩, -- ZLA_NOISE
  ⟨0x418, 16, 32, 1, 0x4, 0, 0, 0, 0, 0, .counter⟩, -- ZLA_DEC
  ⟨0x41C, 16, 32, 1, 0x4, 0, 0, 0, 0, 0, .plain⟩, -- ZLA_TGT
  ⟨0x40, 1, 4, 1, 0x4, 0x3FFF0000, 0, 0, 0, 0, .plain⟩, -- CMB_XP_USED
  ⟨0x44, 1, 4, 1, 0x4, 0, 0, 0, 0, 0, .plain⟩, -- CMB_ACTIVE
  ⟨0x48, 1, 4, 1, 0x4, 0x1F0F, 0, 0, 0, 0, .plain⟩, -- CMB_DLY_CFG
  ⟨0x4C, 1, 4, 1, 0x4, 0, 0, 0, 0, 0, .plain⟩, -- CMB_DLY_STAT
  ⟨0x50, 1, 4, 1, 0x4, 0, 0, 0, 0, 0, .counter⟩, -- CMB_CLAMP_CNT
  ⟨0x54, 1, 4, 1, 0x4, 0, 0, 0, 0, 0, .plain⟩, -- CMB_UR_LAST
  ⟨0x60, 1, 4, 1, 0x4, 0x3FF000F, 0, 0, 0, 0, .plain⟩, -- CMB_BQ_SEL
  ⟨0x64, 1, 4, 1, 0x4, 0xFFFFFFFF, 0, 0, 0, 0x20000000, .plain⟩, -- CMB_BQ_B0
  ⟨0x68, 1, 4, 1, 0x4, 0xFFFFFFFF, 0, 0, 0, 0, .plain⟩, -- CMB_BQ_B1
  ⟨0x6C, 1, 4, 1, 0x4, 0xFFFFFFFF, 0, 0, 0, 0, .plain⟩, -- CMB_BQ_B2
  ⟨0x70, 1, 4, 1, 0x4, 0xFFFFFFFF, 0, 0, 0, 0, .plain⟩, -- CMB_BQ_A1
  ⟨0x74, 1, 4, 1, 0x4, 0xFFFFFFFF, 0, 0, 0, 0, .plain⟩, -- CMB_BQ_A2
  ⟨0x78, 1, 4, 1, 0x4, 0, 0, 0x7, 0, 0, .plain⟩, -- CMB_BQ_CMD
  ⟨0xC00, 256, 4, 1, 0x4, 0, 0, 0, 0, 0, .counter⟩ -- CMB_UR_CNT
]

/-- Registers of the clk page or window. -/
def clkRegs : List RegDef := [
  ⟨0x40, 1, 4, 1, 0x4, 0x1, 0, 0, 0x1, 0, .plain⟩, -- CLK_REF_CFG
  ⟨0x44, 1, 4, 1, 0x4, 0, 0, 0, 0, 0x40008000, .plain⟩, -- CLK_REF_STAT
  ⟨0x48, 1, 4, 1, 0x4, 0, 0, 0, 0, 0, .plain⟩, -- CLK_PLL_STAT
  ⟨0x4C, 1, 4, 1, 0x4, 0xFF070F33, 0, 0, 0, 0x64040000, .plain⟩, -- CLK_MEDIA_CFG
  ⟨0x50, 1, 4, 1, 0x4, 0xFF00FF, 0, 0, 0, 0x14000A, .plain⟩, -- CLK_SERVO
  ⟨0x54, 1, 4, 1, 0x4, 0xFFF00FF, 0, 0, 0, 0x3C0004, .plain⟩, -- CLK_LOCK_CFG
  ⟨0x58, 1, 4, 1, 0x4, 0, 0, 0, 0, 0, .plain⟩, -- CLK_PHASE
  ⟨0x5C, 1, 4, 1, 0x4, 0, 0, 0, 0, 0, .plain⟩, -- CLK_FREQ
  ⟨0x60, 1, 4, 1, 0x4, 0xFFFFFFFF, 0, 0, 0, 0, .plain⟩, -- CLK_TRIM
  ⟨0x68, 1, 4, 1, 0x4, 0, 0, 0, 0, 0, .wide⟩, -- CLK_FAB_CNT_LO
  ⟨0x6C, 1, 4, 1, 0x4, 0, 0, 0, 0, 0, .wide⟩, -- CLK_FAB_CNT_HI
  ⟨0x70, 1, 4, 1, 0x4, 0, 0, 0, 0, 0, .counter⟩, -- CLK_UNLOCK_CNT
  ⟨0x74, 1, 4, 1, 0x4, 0, 0, 0, 0, 0, .counter⟩ -- CLK_STEP_CNT
]

/-- Registers of the asrc page or window. -/
def asrcRegs : List RegDef := [
  ⟨0x40, 1, 4, 1, 0x4, 0x1FF0000, 0, 0, 0, 0, .plain⟩, -- ASRC_USED
  ⟨0x44, 1, 4, 1, 0x4, 0, 0, 0, 0, 0, .counter⟩, -- ASRC_NOASRC_CNT
  ⟨0x100, 16, 8, 1, 0x4, 0, 0, 0, 0, 0, .plain⟩, -- ASRC_GRP_RATIO
  ⟨0x104, 16, 8, 1, 0x4, 0, 0, 0, 0, 0, .plain⟩, -- ASRC_GRP_STAT
  ⟨0x180, 16, 4, 1, 0x4, 0, 0, 0, 0, 0, .counter⟩, -- ASRC_GRP_LOSS
  ⟨0x400, 256, 4, 1, 0x4, 0, 0, 0, 0, 0, .plain⟩ -- ASRC_CH
]

/-- Registers of the tdm page or window. -/
def tdmRegs : List RegDef := [
  ⟨0x40, 1, 4, 1, 0x4, 0xF81F333C, 0, 0, 0, 0x80021230, .plain⟩, -- TDM_CFG
  ⟨0x44, 1, 4, 1, 0x4, 0xFFFFFFFF, 0, 0, 0, 0, .plain⟩, -- TDM_SLOTMASK
  ⟨0x48, 1, 4, 1, 0x4, 0, 0, 0x3, 0, 0, .plain⟩, -- TDM_CTRL
  ⟨0x4C, 1, 4, 1, 0x4, 0, 0, 0, 0, 0, .plain⟩, -- TDM_STAT
  ⟨0x50, 1, 4, 1, 0x4, 0, 0, 0, 0, 0, .counter⟩, -- TDM_FS_CNT
  ⟨0x54, 1, 4, 1, 0x4, 0, 0, 0, 0, 0, .counter⟩, -- TDM_SLIP_CNT
  ⟨0x58, 1, 4, 1, 0x4, 0, 0, 0, 0, 0, .counter⟩, -- TDM_LOSS_CNT
  ⟨0x5C, 1, 4, 1, 0x4, 0, 0, 0, 0, 0, .counter⟩ -- TDM_SWM_CNT
]

/-- Registers of the eth page or window. -/
def ethRegs : List RegDef := [
  ⟨0x40, 1, 4, 1, 0x4, 0xFFFE0FFF, 0, 0, 0, 0x605C0001, .plain⟩, -- ETH_CFG
  ⟨0x44, 1, 4, 1, 0x4, 0xFFFFFFFF, 0, 0, 0, 0, .plain⟩, -- ETH_MAC_LO
  ⟨0x48, 1, 4, 1, 0x4, 0xFFFFFFFF, 0, 0, 0, 0, .plain⟩, -- ETH_MAC_HI
  ⟨0x4C, 1, 4, 1, 0x4, 0xFFFFFFFF, 0, 0, 0, 0, .plain⟩, -- ETH_IP
  ⟨0x50, 1, 4, 1, 0x4, 0xFFFFFFFF, 0, 0, 0, 0, .plain⟩, -- ETH_MASK
  ⟨0x54, 1, 4, 1, 0x4, 0xFFFFFFFF, 0, 0, 0, 0, .plain⟩, -- ETH_GW
  ⟨0x58, 1, 4, 1, 0x4, 0xFF3F3F01, 0, 0, 0, 0x102E2201, .plain⟩, -- ETH_IPCFG
  ⟨0x5C, 1, 4, 1, 0x4, 0, 0, 0x3, 0, 0, .plain⟩, -- ETH_CTRL
  ⟨0x60, 1, 4, 1, 0x4, 0, 0, 0, 0, 0, .plain⟩, -- ETH_LINK
  ⟨0x64, 1, 4, 1, 0x4, 0x5F1FFFFF, 0, 0x80000000, 0, 0, .plain⟩, -- ETH_MDIO
  ⟨0x68, 1, 4, 1, 0x4, 0xFFFFFFFF, 0, 0, 0, 0, .plain⟩, -- ETH_PHY_LAT
  ⟨0x6C, 1, 4, 1, 0x4, 0xEFFFFFF0, 0, 0, 0, 0xD1300, .plain⟩, -- ETH_PTP_CFG
  ⟨0x70, 1, 4, 1, 0x4, 0xFFFFFFFF, 0, 0, 0, 0xF8F8F8FE, .plain⟩, -- ETH_PTP_BMC
  ⟨0x74, 1, 4, 1, 0x4, 0xFFFFFFFF, 0, 0, 0, 0xBB80064, .plain⟩, -- ETH_PTP_GUARD
  ⟨0x78, 1, 4, 1, 0x4, 0, 0, 0, 0, 0x30000000, .plain⟩, -- ETH_PTP_STAT
  ⟨0x7C, 1, 4, 1, 0x4, 0, 0, 0, 0, 0, .plain⟩, -- ETH_PTP_OFFSET
  ⟨0x80, 1, 4, 1, 0x4, 0, 0, 0, 0, 0, .plain⟩, -- ETH_PTP_DELAY
  ⟨0x84, 1, 4, 1, 0x4, 0, 0, 0, 0, 0, .plain⟩, -- ETH_PTP_GM_LO
  ⟨0x88, 1, 4, 1, 0x4, 0, 0, 0, 0, 0, .plain⟩, -- ETH_PTP_GM_HI
  ⟨0x8C, 1, 4, 1, 0x4, 0xFFFFFFFF, 0, 0, 0, 0, .plain⟩, -- ETH_PTP_TIME_LO
  ⟨0x90, 1, 4, 1, 0x4, 0xFFFFFFFF, 0, 0, 0, 0, .plain⟩, -- ETH_PTP_TIME_HI
  ⟨0x94, 1, 4, 1, 0x4, 0, 0, 0, 0, 0, .wide⟩, -- ETH_RXPKT_LO
  ⟨0x98, 1, 4, 1, 0x4, 0, 0, 0, 0, 0, .wide⟩, -- ETH_RXPKT_HI
  ⟨0x9C, 1, 4, 1, 0x4, 0, 0, 0, 0, 0, .wide⟩, -- ETH_TXPKT_LO
  ⟨0xA0, 1, 4, 1, 0x4, 0, 0, 0, 0, 0, .wide⟩, -- ETH_TXPKT_HI
  ⟨0xA4, 1, 4, 1, 0x4, 0, 0, 0, 0, 0, .counter⟩, -- ETH_FCS_CNT
  ⟨0xA8, 1, 4, 1, 0x4, 0, 0, 0, 0, 0, .counter⟩, -- ETH_DROP_CNT
  ⟨0xAC, 1, 4, 1, 0x4, 0, 0, 0, 0, 0, .counter⟩, -- ETH_CSUM_CNT
  ⟨0xB0, 1, 4, 1, 0x4, 0, 0, 0, 0, 0, .counter⟩, -- ETH_PTP_LOSS_CNT
  ⟨0xB4, 1, 4, 1, 0x4, 0, 0, 0, 0, 0, .counter⟩, -- ETH_CONFLICT_CNT
  ⟨0xB8, 1, 4, 1, 0x4, 0, 0, 0, 0, 0, .counter⟩, -- ETH_SWM_CNT
  ⟨0x100, 1, 4, 1, 0x4, 0x1F01, 0, 0, 0, 0, .plain⟩, -- ETH_BUF_CFG
  ⟨0x104, 1, 4, 1, 0x4, 0, 0, 0, 0, 0, .plain⟩, -- ETH_CH_USED
  ⟨0x108, 1, 4, 1, 0x4, 0, 0, 0, 0, 0, .plain⟩ -- ETH_STR_USED
]

/-- Registers of the strRx page or window. -/
def strRxRegs : List RegDef := [
  ⟨0, 1, 4, 1, 0x4, 0x8317307F, 0, 0, 0, 0x132001, .plain⟩, -- STR_RX_CTRL
  ⟨0x4, 1, 4, 1, 0x4, 0x3FF, 0, 0, 0, 0x3FF03FF, .plain⟩, -- STR_RX_CHAN
  ⟨0x8, 1, 4, 1, 0x4, 0xFFFFFFFF, 0, 0, 0, 0, .plain⟩, -- STR_RX_DST
  ⟨0xC, 1, 4, 1, 0x4, 0x7FFFFF, 0, 0, 0, 0x60138C, .plain⟩, -- STR_RX_PORT
  ⟨0x10, 1, 4, 1, 0x4, 0xFFFFFFFF, 0, 0, 0, 0, .plain⟩, -- STR_RX_SRC
  ⟨0x14, 1, 4, 1, 0x4, 0xFFFFFFFF, 0, 0, 0, 0, .plain⟩, -- STR_RX_SSRC
  ⟨0x18, 1, 4, 1, 0x4, 0xFFFFFFFF, 0, 0, 0, 0, .plain⟩, -- STR_RX_TSOFF
  ⟨0x1C, 1, 4, 1, 0x4, 0xFF0003FF, 0, 0, 0, 0xA000030, .plain⟩, -- STR_RX_TIMING
  ⟨0x20, 1, 4, 1, 0x4, 0, 0, 0, 0, 0, .plain⟩, -- STR_RX_SSRC_SEEN
  ⟨0x24, 1, 4, 1, 0x4, 0, 0, 0, 0, 0, .plain⟩, -- STR_RX_LEVEL
  ⟨0x28, 1, 4, 1, 0x4, 0, 0, 0, 0, 0, .wide⟩, -- STR_RX_PKT_LO
  ⟨0x2C, 1, 4, 1, 0x4, 0, 0, 0, 0, 0, .wide⟩, -- STR_RX_PKT_HI
  ⟨0x30, 1, 4, 1, 0x4, 0, 0, 0, 0, 0, .counter⟩, -- STR_RX_LOST_CNT
  ⟨0x34, 1, 4, 1, 0x4, 0, 0, 0, 0, 0, .counter⟩, -- STR_RX_LATE_CNT
  ⟨0x38, 1, 4, 1, 0x4, 0, 0, 0, 0, 0, .counter⟩, -- STR_RX_EARLY_CNT
  ⟨0x3C, 1, 4, 1, 0x4, 0, 0, 0, 0, 0, .counter⟩, -- STR_RX_FORMAT_CNT
  ⟨0x40, 1, 4, 1, 0x4, 0, 0, 0, 0, 0, .counter⟩, -- STR_RX_CONC_CNT
  ⟨0x44, 1, 4, 1, 0x4, 0, 0, 0, 0, 0, .counter⟩, -- STR_RX_STALL_CNT
  ⟨0x48, 1, 4, 1, 0x4, 0, 0, 0, 0, 0, .counter⟩, -- STR_RX_SSRC_CNT
  ⟨0x4C, 1, 4, 1, 0x4, 0, 0, 0, 0, 0, .counter⟩ -- STR_RX_REORD_CNT
]

/-- Registers of the strTx page or window. -/
def strTxRegs : List RegDef := [
  ⟨0, 1, 4, 1, 0x4, 0x8317007F, 0, 0, 0, 0x130001, .plain⟩, -- STR_TX_CTRL
  ⟨0x4, 1, 4, 1, 0x4, 0x3FF, 0, 0, 0, 0x3FF03FF, .plain⟩, -- STR_TX_CHAN
  ⟨0x8, 1, 4, 1, 0x4, 0xFFFFFFFF, 0, 0, 0, 0, .plain⟩, -- STR_TX_DST
  ⟨0xC, 1, 4, 1, 0x4, 0xFFFFFFFF, 0, 0, 0, 0x138C138C, .plain⟩, -- STR_TX_PORT
  ⟨0x10, 1, 4, 1, 0x4, 0x7F, 0, 0, 0, 0x60, .plain⟩, -- STR_TX_RTP
  ⟨0x14, 1, 4, 1, 0x4, 0xFFFFFFFF, 0, 0, 0, 0, .plain⟩, -- STR_TX_SSRC
  ⟨0x18, 1, 4, 1, 0x4, 0xFFFFFFFF, 0, 0, 0, 0, .plain⟩, -- STR_TX_TSOFF
  ⟨0x20, 1, 4, 1, 0x4, 0, 0, 0, 0, 0, .plain⟩, -- STR_TX_SEQ
  ⟨0x24, 1, 4, 1, 0x4, 0, 0, 0, 0, 0, .plain⟩, -- STR_TX_HOLD
  ⟨0x28, 1, 4, 1, 0x4, 0, 0, 0, 0, 0, .wide⟩, -- STR_TX_PKT_LO
  ⟨0x2C, 1, 4, 1, 0x4, 0, 0, 0, 0, 0, .wide⟩, -- STR_TX_PKT_HI
  ⟨0x30, 1, 4, 1, 0x4, 0, 0, 0, 0, 0, .counter⟩ -- STR_TX_SKIP_CNT
]

/-- Registers of the pdm page or window. -/
def pdmRegs : List RegDef := [
  ⟨0x40, 1, 4, 1, 0x4, 0xF1F0300, 0, 0, 0, 0xA0100, .plain⟩, -- PDM_CFG
  ⟨0x44, 1, 4, 1, 0x4, 0xFFFFFFFF, 0, 0, 0, 0, .plain⟩, -- PDM_MIC_EN
  ⟨0x48, 1, 4, 1, 0x4, 0, 0, 0xF, 0, 0, .plain⟩, -- PDM_CTRL
  ⟨0x4C, 1, 4, 1, 0x4, 0, 0, 0, 0, 0, .plain⟩, -- PDM_STAT
  ⟨0x50, 2, 4, 1, 0x4, 0, 0, 0, 0, 0, .plain⟩, -- PDM_MIC_STAT
  ⟨0x58, 1, 4, 1, 0x4, 0, 0, 0, 0, 0, .counter⟩, -- PDM_ABS_CNT
  ⟨0x5C, 1, 4, 1, 0x4, 0, 0, 0, 0, 0, .counter⟩, -- PDM_SAT_CNT
  ⟨0x60, 1, 4, 1, 0x4, 0, 0, 0, 0, 0, .counter⟩, -- PDM_DEFER_CNT
  ⟨0x64, 1, 4, 1, 0x4, 0, 0, 0, 0, 0, .counter⟩ -- PDM_FORCE_CNT
]

/-- Registers of the sct page or window. -/
def sctRegs : List RegDef := [
  ⟨0x40, 1, 4, 1, 0x4, 0, 0, 0x7, 0, 0, .plain⟩, -- SCT_CTRL
  ⟨0x44, 1, 4, 1, 0x4, 0x9F9F9F9F, 0, 0, 0, 0, .plain⟩, -- SCT_MIC
  ⟨0x48, 1, 4, 1, 0x4, 0xFF, 0, 0, 0, 0xA, .plain⟩, -- SCT_SEAL_CFG
  ⟨0x4C, 1, 4, 1, 0x4, 0xFFFFFF, 0, 0, 0, 0x181E0A, .plain⟩, -- SCT_VAD
  ⟨0x50, 1, 4, 1, 0x4, 0, 0, 0, 0, 0, .plain⟩, -- SCT_STAT
  ⟨0x54, 1, 4, 1, 0x4, 0, 0, 0, 0, 0, .plain⟩, -- SCT_RING_WP
  ⟨0x58, 1, 4, 1, 0x4, 0, 0, 0, 0, 0, .plain⟩, -- SCT_OPEN_BEGIN
  ⟨0x5C, 1, 4, 1, 0x4, 0, 0, 0, 0, 0, .plain⟩, -- SCT_OPEN_LEN
  ⟨0x60, 1, 4, 1, 0x4, 0, 0, 0, 0, 0, .plain⟩, -- SCT_MODEL_USED
  ⟨0x80, 4, 8, 1, 0x4, 0xC00000FF, 0, 0, 0, 0, .plain⟩, -- SCT_SLOT_CFG
  ⟨0x84, 4, 8, 1, 0x4, 0, 0, 0, 0, 0, .plain⟩, -- SCT_SLOT_INFO
  ⟨0xA0, 1, 4, 1, 0x4, 0, 0, 0, 0, 0, .plain⟩, -- SCT_DET_ONSET_LO
  ⟨0xA4, 1, 4, 1, 0x4, 0, 0, 0, 0, 0, .plain⟩, -- SCT_DET_ONSET_HI
  ⟨0xA8, 1, 4, 1, 0x4, 0, 0, 0, 0, 0, .plain⟩, -- SCT_DET_TIME_LO
  ⟨0xAC, 1, 4, 1, 0x4, 0, 0, 0, 0, 0, .plain⟩, -- SCT_DET_TIME_HI
  ⟨0xB0, 1, 4, 1, 0x4, 0, 0, 0, 0, 0, .plain⟩, -- SCT_DET_INFO
  ⟨0xC0, 1, 4, 1, 0x4, 0xB3B3, 0, 0, 0, 0, .plain⟩, -- SCT_BZ_CFG
  ⟨0xC4, 1, 4, 1, 0x4, 0xFFFFFF00, 0, 0, 0, 0xC300500, .plain⟩, -- SCT_BZ_THR
  ⟨0xD0, 4, 4, 1, 0x4, 0xFFFFFF00, 0, 0, 0, 0x33500A00, .plain⟩, -- SCT_KP_CFG
  ⟨0xE0, 1, 4, 1, 0x4, 0, 0, 0, 0, 0, .plain⟩, -- SCT_BZ_STAT
  ⟨0xF0, 1, 4, 1, 0x4, 0, 0, 0, 0, 0, .counter⟩, -- SCT_DET_CNT
  ⟨0xF4, 1, 4, 1, 0x4, 0, 0, 0, 0, 0, .counter⟩, -- SCT_OPENDET_CNT
  ⟨0xF8, 1, 4, 1, 0x4, 0, 0, 0, 0, 0, .counter⟩, -- SCT_KNOCK_CNT
  ⟨0xFC, 1, 4, 1, 0x4, 0, 0, 0, 0, 0, .counter⟩, -- SCT_BLOW_CNT
  ⟨0x100, 1, 4, 1, 0x4, 0, 0, 0, 0, 0, .counter⟩, -- SCT_SEALED_CNT
  ⟨0x104, 1, 4, 1, 0x4, 0, 0, 0, 0, 0, .counter⟩ -- SCT_GAP_CNT
]

/-- Registers of the ain page or window. -/
def ainRegs : List RegDef := [
  ⟨0x40, 8, 16, 1, 0x4, 0xE0FF037F, 0, 0, 0, 0x1E0100, .plain⟩, -- AIN_CFG
  ⟨0x44, 8, 16, 1, 0x4, 0, 0, 0, 0, 0, .plain⟩, -- AIN_STAT
  ⟨0x48, 8, 16, 1, 0x4, 0, 0, 0, 0, 0, .counter⟩, -- AIN_CLIP_CNT
  ⟨0x4C, 8, 16, 1, 0x4, 0, 0, 0, 0, 0, .counter⟩ -- AIN_BFLT_CNT
]

/-- Registers of the lo page or window. -/
def loRegs : List RegDef := [
  ⟨0x40, 8, 16, 1, 0x4, 0xC1000000, 0, 0, 0, 0, .plain⟩, -- LO_CFG
  ⟨0x44, 8, 16, 1, 0x4, 0, 0, 0x1, 0, 0, .plain⟩, -- LO_CTRL
  ⟨0x48, 8, 16, 1, 0x4, 0, 0, 0, 0, 0, .plain⟩, -- LO_STAT
  ⟨0x4C, 8, 16, 1, 0x4, 0, 0, 0, 0, 0, .counter⟩ -- LO_SHORT_CNT
]

/-- Registers of the hs page or window. -/
def hsRegs : List RegDef := [
  ⟨0x40, 4, 32, 1, 0x4, 0xDF7F0300, 0, 0, 0, 0x5180100, .plain⟩, -- HS_CFG
  ⟨0x44, 4, 32, 1, 0x4, 0, 0, 0, 0, 0, .plain⟩, -- HS_JACK
  ⟨0x48, 4, 32, 1, 0x4, 0, 0, 0, 0, 0, .plain⟩, -- HS_ZL
  ⟨0x4C, 4, 32, 1, 0x4, 0x8303003F, 0, 0, 0, 0x20000, .plain⟩, -- HS_ST
  ⟨0x50, 4, 32, 1, 0x4, 0, 0, 0, 0, 0, .plain⟩, -- HS_STAT
  ⟨0x54, 4, 32, 1, 0x4, 0, 0, 0, 0, 0, .counter⟩, -- HS_INS_CNT
  ⟨0x58, 4, 32, 1, 0x4, 0, 0, 0, 0, 0, .counter⟩, -- HS_BTN_CNT
  ⟨0x5C, 4, 32, 1, 0x4, 0, 0, 0, 0, 0, .counter⟩, -- HS_ST_SAT_CNT
  ⟨0xC0, 1, 4, 1, 0x4, 0xFFFFFFFF, 0, 0, 0, 0x14141E02, .plain⟩ -- HS_DEB
]

/-- Registers of the amp page or window. -/
def ampRegs : List RegDef := [
  ⟨0x40, 1, 4, 1, 0x4, 0x3FFFFFF, 0, 0, 0, 0x11B2979, .plain⟩, -- AMP_CFG
  ⟨0x44, 1, 4, 1, 0x4, 0x3, 0, 0x4, 0, 0, .plain⟩, -- AMP_CTRL
  ⟨0x48, 1, 4, 1, 0x4, 0, 0, 0, 0, 0, .plain⟩, -- AMP_STAT
  ⟨0x4C, 1, 4, 1, 0x4, 0, 0, 0, 0, 0, .plain⟩, -- AMP_PROT
  ⟨0x50, 1, 4, 1, 0x4, 0, 0, 0, 0, 0, .plain⟩, -- AMP_TEMP
  ⟨0x54, 1, 4, 1, 0x4, 0, 0, 0, 0, 0, .plain⟩, -- AMP_POWER
  ⟨0x58, 1, 4, 1, 0x4, 0, 0, 0, 0, 0, .plain⟩, -- AMP_TRIP
  ⟨0x60, 1, 4, 1, 0x4, 0x80FFFFFF, 0, 0, 0, 0x500FA, .plain⟩, -- AMP_LIMIT
  ⟨0x64, 1, 4, 1, 0x4, 0xFF, 0, 0, 0, 0x87, .plain⟩, -- AMP_THERM
  ⟨0x70, 1, 4, 1, 0x4, 0, 0, 0, 0, 0, .counter⟩, -- AMP_ILIM_CNT
  ⟨0x74, 1, 4, 1, 0x4, 0, 0, 0, 0, 0, .counter⟩, -- AMP_TRIP_CNT
  ⟨0x78, 1, 4, 1, 0x4, 0, 0, 0, 0, 0, .counter⟩, -- AMP_CLIP_CNT
  ⟨0x7C, 1, 4, 1, 0x4, 0, 0, 0, 0, 0, .counter⟩, -- AMP_LOOPSAT_CNT
  ⟨0x80, 1, 4, 1, 0x4, 0, 0, 0, 0, 0, .counter⟩, -- AMP_DC_CNT
  ⟨0x84, 1, 4, 1, 0x4, 0, 0, 0, 0, 0, .counter⟩ -- AMP_OT_CNT
]

/-- Registers of the bst page or window. -/
def bstRegs : List RegDef := [
  ⟨0x40, 1, 4, 1, 0x4, 0x130007F, 0, 0, 0, 0x48, .plain⟩, -- BST_CFG
  ⟨0x44, 1, 4, 1, 0x4, 0x3FF03FF, 0, 0, 0, 0x1900064, .plain⟩, -- BST_RAIL
  ⟨0x48, 1, 4, 1, 0x4, 0xFFFFFFFF, 0, 0, 0, 0x1432140A, .plain⟩, -- BST_TRACK
  ⟨0x4C, 1, 4, 1, 0x4, 0, 0, 0, 0, 0, .plain⟩, -- BST_STAT
  ⟨0x50, 1, 4, 1, 0x4, 0, 0, 0, 0, 0, .plain⟩, -- BST_PVIN
  ⟨0x54, 1, 4, 1, 0x4, 0, 0, 0x1, 0, 0, .plain⟩, -- BST_CTRL
  ⟨0x58, 1, 4, 1, 0x4, 0, 0, 0, 0, 0, .counter⟩, -- BST_ILIM_CNT
  ⟨0x5C, 1, 4, 1, 0x4, 0, 0, 0, 0, 0, .counter⟩, -- BST_OVP_CNT
  ⟨0x60, 1, 4, 1, 0x4, 0, 0, 0, 0, 0, .counter⟩ -- BST_PVIN_CNT
]

/-- Registers of the w page or window. -/
def wRegs : List RegDef := [
  ⟨0x40, 1, 4, 1, 0x4, 0xFFFF00FF, 0, 0, 0, 0, .plain⟩, -- W_CFG
  ⟨0x44, 1, 4, 1, 0x4, 0, 0, 0x3F, 0, 0, .plain⟩, -- W_CTRL
  ⟨0x48, 1, 4, 1, 0x4, 0, 0, 0, 0, 0, .plain⟩, -- W_STAT
  ⟨0x4C, 1, 4, 1, 0x4, 0, 0, 0, 0, 0, .plain⟩, -- W_EVT
  ⟨0x50, 1, 4, 1, 0x4, 0, 0, 0xFF000000, 0, 0, .plain⟩, -- W_EVT_SET
  ⟨0x54, 1, 4, 1, 0x4, 0, 0, 0, 0, 0, .wide⟩, -- W_CYC_LO
  ⟨0x58, 1, 4, 1, 0x4, 0, 0, 0, 0, 0, .wide⟩, -- W_CYC_HI
  ⟨0x5C, 1, 4, 1, 0x4, 0xFFFF0000, 0, 0, 0, 0, .plain⟩, -- W_LOAD
  ⟨0x60, 1, 4, 1, 0x4, 0, 0, 0, 0, 0, .counter⟩, -- W_MISS_CNT
  ⟨0x64, 1, 4, 1, 0x4, 0, 0, 0, 0, 0, .counter⟩ -- W_LATE_CNT
]

/-- Registers of the frg page or window. -/
def frgRegs : List RegDef := [
  ⟨0x40, 1, 4, 1, 0x4, 0, 0, 0, 0, 0, .plain⟩, -- FRG_ALLOC
  ⟨0x44, 1, 4, 1, 0x4, 0x3F0000, 0, 0, 0, 0, .plain⟩, -- FRG_USED
  ⟨0x400, 32, 32, 1, 0x4, 0xB0FF0000, 0, 0x44000000, 0, 0xF80000, .plain⟩, -- FRG_CTRL
  ⟨0x404, 32, 32, 1, 0x4, 0xFFFFFF, 0, 0, 0, 0, .plain⟩, -- FRG_SRC
  ⟨0x408, 32, 32, 1, 0x4, 0xFFFFFF, 0, 0, 0, 0, .plain⟩, -- FRG_DST
  ⟨0x40C, 32, 32, 1, 0x4, 0xFF01FFFF, 0, 0, 0, 0x1000001, .plain⟩, -- FRG_COUNT
  ⟨0x410, 32, 32, 1, 0x4, 0xFFFFFFFF, 0, 0, 0, 0x80, .plain⟩, -- FRG_STRIDE
  ⟨0x414, 32, 32, 1, 0x4, 0xFFFFFF, 0, 0, 0, 0, .plain⟩, -- FRG_PPOFF
  ⟨0x418, 32, 32, 1, 0x4, 0, 0, 0, 0, 0, .plain⟩, -- FRG_STAT
  ⟨0x41C, 32, 32, 1, 0x4, 0, 0, 0, 0, 0, .counter⟩ -- FRG_LATE_CNT
]

/-- Registers of the wag page or window. -/
def wagRegs : List RegDef := [
  ⟨0x40, 1, 4, 1, 0x4, 0x7, 0, 0, 0, 0, .plain⟩, -- WAG_CFG
  ⟨0x44, 1, 4, 1, 0x4, 0, 0, 0x3, 0, 0, .plain⟩, -- WAG_CTRL
  ⟨0x48, 1, 4, 1, 0x4, 0, 0x8000000, 0, 0, 0, .plain⟩, -- WAG_STAT
  ⟨0x4C, 1, 4, 1, 0x4, 0xFFFFFFFF, 0, 0, 0, 0, .plain⟩, -- WAG_VALUE_LO
  ⟨0x50, 1, 4, 1, 0x4, 0xFFFFFFFF, 0, 0, 0, 0, .plain⟩, -- WAG_VALUE_HI
  ⟨0x54, 1, 4, 1, 0x4, 0, 0, 0, 0, 0, .plain⟩, -- WAG_SPEED
  ⟨0x58, 1, 4, 1, 0x4, 0xFFFFFFFF, 0, 0, 0, 0x10000, .plain⟩, -- WAG_ODO_SCALE
  ⟨0x5C, 1, 4, 1, 0x4, 0xFFFFFFFF, 0, 0, 0, 0x51E1194, .plain⟩, -- WAG_ODO_GUARD
  ⟨0x60, 1, 4, 1, 0x4, 0xFFFFFFFF, 0, 0, 0, 0x5143232, .plain⟩, -- WAG_GUARD_T
  ⟨0x64, 1, 4, 1, 0x4, 0xFFFFFFFF, 0, 0, 0, 0x3E803E8, .plain⟩, -- WAG_FIX_CFG
  ⟨0x68, 1, 4, 1, 0x4, 0, 0, 0, 0, 0, .wide⟩, -- WAG_PULSE_LO
  ⟨0x6C, 1, 4, 1, 0x4, 0, 0, 0, 0, 0, .wide⟩, -- WAG_PULSE_HI
  ⟨0x70, 1, 4, 1, 0x4, 0, 0, 0, 0, 0, .plain⟩, -- WAG_LAST
  ⟨0x74, 1, 4, 1, 0x4, 0, 0, 0, 0, 0, .plain⟩, -- WAG_FIRE_LO
  ⟨0x78, 1, 4, 1, 0x4, 0, 0, 0, 0, 0, .plain⟩, -- WAG_FIRE_HI
  ⟨0x7C, 1, 4, 1, 0x4, 0, 0, 0, 0, 0, .plain⟩, -- WAG_USED
  ⟨0x80, 1, 4, 1, 0x4, 0xF, 0, 0, 0, 0, .plain⟩, -- WAG_CUE_BANK
  ⟨0x84, 1, 4, 1, 0x4, 0, 0, 0, 0, 0, .counter⟩, -- WAG_QERR_CNT
  ⟨0x88, 1, 4, 1, 0x4, 0, 0, 0, 0, 0, .counter⟩, -- WAG_IMPL_CNT
  ⟨0x8C, 1, 4, 1, 0x4, 0, 0, 0, 0, 0, .counter⟩, -- WAG_FIXREJ_CNT
  ⟨0x90, 1, 4, 1, 0x4, 0, 0, 0, 0, 0, .counter⟩, -- WAG_MISS_CNT
  ⟨0x94, 1, 4, 1, 0x4, 0, 0, 0, 0, 0, .counter⟩, -- WAG_ACTF_CNT
  ⟨0x98, 1, 4, 1, 0x4, 0, 0, 0, 0, 0, .counter⟩, -- WAG_JUMP_CNT
  ⟨0x9C, 1, 4, 1, 0x4, 0, 0, 0, 0, 0, .plain⟩ -- WAG_USER
]

/-- Registers of the fls page or window. -/
def flsRegs : List RegDef := [
  ⟨0x40, 1, 4, 1, 0x4, 0, 0, 0, 0, 0, .plain⟩, -- FLS_INFO
  ⟨0x44, 1, 4, 1, 0x4, 0x3, 0, 0, 0x3, 0, .plain⟩, -- FLS_CFG
  ⟨0x48, 1, 4, 1, 0x4, 0, 0, 0, 0, 0, .plain⟩, -- FLS_WEAR
  ⟨0x4C, 1, 4, 1, 0x4, 0, 0, 0, 0, 0, .plain⟩, -- FLS_MAXERASE
  ⟨0x50, 1, 4, 1, 0x4, 0, 0, 0, 0, 0, .counter⟩ -- FLS_CRC_CNT
]

/-- Registers of the clip page or window. -/
def clipRegs : List RegDef := [
  ⟨0x40, 1, 4, 1, 0x4, 0x1F01, 0, 0, 0, 0x1, .plain⟩, -- CLIP_CFG
  ⟨0x44, 1, 4, 1, 0x4, 0, 0, 0, 0, 0, .plain⟩, -- CLIP_LIB
  ⟨0x48, 1, 4, 1, 0x4, 0, 0, 0, 0, 0, .counter⟩, -- CLIP_UR_CNT
  ⟨0x4C, 1, 4, 1, 0x4, 0, 0, 0, 0, 0, .counter⟩, -- CLIP_BUSY_CNT
  ⟨0x50, 1, 4, 1, 0x4, 0, 0, 0, 0, 0, .counter⟩, -- CLIP_CHK_CNT
  ⟨0x54, 1, 4, 1, 0x4, 0, 0, 0, 0, 0, .counter⟩, -- CLIP_LATE_CNT
  ⟨0x100, 64, 8, 1, 0x4, 0x13, 0, 0, 0, 0, .plain⟩, -- CLIP_V_CFG
  ⟨0x104, 64, 8, 1, 0x4, 0, 0, 0, 0, 0, .plain⟩, -- CLIP_V_STAT
  ⟨0x400, 64, 4, 1, 0x4, 0, 0, 0, 0, 0, .plain⟩ -- TONE_STAT
]

/-- Registers of the madc page or window. -/
def madcRegs : List RegDef := [
  ⟨0x40, 1, 4, 1, 0x4, 0x1, 0, 0, 0, 0x1, .plain⟩, -- MADC_CFG
  ⟨0x44, 1, 4, 1, 0x4, 0xFFFFF03, 0, 0, 0, 0x9C41400, .plain⟩, -- MADC_REF
  ⟨0x48, 1, 4, 1, 0x4, 0, 0, 0x30F, 0, 0, .plain⟩, -- MADC_CTRL
  ⟨0x4C, 1, 4, 1, 0x4, 0, 0, 0, 0, 0, .plain⟩, -- MADC_STAT
  ⟨0x50, 1, 4, 1, 0x4, 0, 0, 0, 0, 0xC0000000, .plain⟩, -- MADC_FIFO
  ⟨0x54, 1, 4, 1, 0x4, 0x801F3F03, 0, 0, 0, 0, .plain⟩, -- MADC_RING
  ⟨0x58, 1, 4, 1, 0x4, 0, 0, 0, 0, 0, .plain⟩, -- MADC_RING_WP
  ⟨0x5C, 1, 4, 1, 0x4, 0xFFFF7F03, 0, 0, 0, 0x8101000, .plain⟩, -- MADC_XCHK
  ⟨0x60, 1, 4, 1, 0x4, 0, 0, 0, 0, 0, .plain⟩, -- MADC_XCHK_STAT
  ⟨0x64, 1, 4, 1, 0x4, 0, 0, 0, 0, 0, .plain⟩, -- MADC_XCHK_VAL
  ⟨0x68, 1, 4, 1, 0x4, 0, 0, 0, 0, 0, .counter⟩, -- MADC_DROP_CNT
  ⟨0x6C, 1, 4, 1, 0x4, 0, 0, 0, 0, 0, .counter⟩, -- MADC_RESTART_CNT
  ⟨0x70, 1, 4, 1, 0x4, 0, 0, 0, 0, 0, .counter⟩, -- MADC_OVR_CNT
  ⟨0x74, 1, 4, 1, 0x4, 0, 0, 0, 0, 0, .counter⟩, -- MADC_XCHK_DIS_CNT
  ⟨0x78, 1, 4, 1, 0x4, 0, 0, 0, 0, 0, .counter⟩, -- MADC_XCHK_SKIP_CNT
  ⟨0x7C, 1, 4, 1, 0x4, 0, 0, 0, 0, 0, .counter⟩, -- MADC_NS_CNT
  ⟨0x100, 4, 16, 1, 0x4, 0x8FC0003F, 0, 0, 0, 0x1, .plain⟩, -- MADC_SEQ_CFG
  ⟨0x104, 4, 16, 1, 0x4, 0xFFFFFFFF, 0, 0, 0, 0, .plain⟩, -- MADC_SEQ_TRIG
  ⟨0x108, 4, 16, 1, 0x4, 0, 0, 0, 0, 0, .plain⟩, -- MADC_SEQ_TS_LO
  ⟨0x10C, 4, 16, 1, 0x4, 0, 0, 0, 0, 0, .plain⟩, -- MADC_SEQ_TS_HI
  ⟨0x200, 128, 4, 1, 0x4, 0x3F333F, 0, 0, 0, 0x10020, .plain⟩, -- MADC_SEQ_E
  ⟨0x400, 128, 4, 1, 0x4, 0, 0, 0, 0, 0, .plain⟩ -- MADC_RES
]

/-- Registers of the lsv page or window. -/
def lsvRegs : List RegDef := [
  ⟨0x40, 1, 4, 1, 0x4, 0x8FFFFF00, 0, 0, 0, 0x231E600, .plain⟩, -- LSV_CFG
  ⟨0x44, 1, 4, 1, 0x4, 0xFFFFFFFF, 0, 0, 0, 0xF040064, .plain⟩, -- LSV_THR
  ⟨0x48, 1, 4, 1, 0x4, 0, 0, 0, 0, 0x1F0000, .plain⟩, -- LSV_INFO
  ⟨0x4C, 1, 4, 1, 0x4, 0, 0, 0, 0, 0, .plain⟩, -- LSV_ST_STAT
  ⟨0x80, 8, 16, 1, 0x4, 0x8F00FFFF, 0, 0x40000000, 0, 0x1000000, .plain⟩, -- LSV_REF
  ⟨0x84, 8, 16, 1, 0x4, 0, 0, 0, 0, 0, .plain⟩, -- LSV_STAT
  ⟨0x88, 8, 16, 1, 0x4, 0, 0, 0, 0, 0, .plain⟩, -- LSV_MEAS
  ⟨0x8C, 8, 16, 1, 0x4, 0, 0, 0, 0, 0, .counter⟩, -- LSV_CHG_CNT
  ⟨0x100, 8, 8, 1, 0x4, 0, 0, 0, 0, 0, .plain⟩, -- LSV_ST_RES
  ⟨0x104, 8, 8, 1, 0x4, 0xFFFF0000, 0, 0, 0, 0, .plain⟩ -- LSV_ST_AC
]

/-- Registers of the kpr page or window. -/
def kprRegs : List RegDef := [
  ⟨0x40, 1, 4, 1, 0x4, 0, 0x40000000, 0, 0, 0, .plain⟩, -- KPR_BOOT
  ⟨0x44, 2, 4, 1, 0x4, 0, 0, 0, 0, 0, .plain⟩, -- KPR_SLOT
  ⟨0x4C, 2, 4, 1, 0x4, 0, 0, 0, 0, 0, .plain⟩, -- KPR_LIB
  ⟨0x54, 1, 4, 1, 0x4, 0, 0, 0, 0, 0, .plain⟩, -- KPR_FUSE
  ⟨0x58, 1, 4, 1, 0x4, 0, 0, 0, 0, 0xFF00, .plain⟩, -- KPR_IMG_STAT
  ⟨0x5C, 1, 4, 1, 0x4, 0, 0, 0, 0, 0, .plain⟩, -- KPR_IMG_BYTES
  ⟨0x60, 1, 4, 1, 0x4, 0xC000000F, 0, 0, 0, 0, .plain⟩, -- KPR_UDP_CFG
  ⟨0x64, 1, 4, 1, 0x4, 0, 0, 0, 0, 0, .plain⟩, -- KPR_KEYS
  ⟨0x68, 1, 4, 1, 0x4, 0, 0, 0, 0, 0, .wide⟩, -- KPR_UPTIME_LO
  ⟨0x6C, 1, 4, 1, 0x4, 0, 0, 0, 0, 0, .wide⟩, -- KPR_UPTIME_HI
  ⟨0x70, 8, 4, 1, 0x4, 0xFFFFFFFF, 0, 0, 0, 0, .plain⟩, -- KPR_OTP_DATA
  ⟨0x90, 1, 4, 1, 0x4, 0, 0, 0, 0, 0, .plain⟩, -- KPR_OTP_CTRL
  ⟨0x94, 1, 4, 1, 0x4, 0, 0, 0, 0, 0, .plain⟩ -- KPR_OTP_STAT
]

/-- Registers of the bbx page or window. -/
def bbxRegs : List RegDef := [
  ⟨0x40, 1, 4, 1, 0x4, 0x80000701, 0, 0, 0, 0x80000301, .plain⟩, -- BBX_CFG
  ⟨0x44, 1, 4, 1, 0x4, 0, 0, 0, 0, 0, .wide⟩, -- BBX_HEAD_LO
  ⟨0x48, 1, 4, 1, 0x4, 0, 0, 0, 0, 0, .wide⟩, -- BBX_HEAD_HI
  ⟨0x4C, 1, 4, 1, 0x4, 0, 0, 0, 0, 0, .wide⟩, -- BBX_MIR_LO
  ⟨0x50, 1, 4, 1, 0x4, 0, 0, 0, 0, 0, .wide⟩, -- BBX_MIR_HI
  ⟨0x54, 1, 4, 1, 0x4, 0, 0, 0, 0, 0, .plain⟩, -- BBX_STAT
  ⟨0x58, 1, 4, 1, 0x4, 0, 0, 0, 0, 0, .counter⟩, -- BBX_TORN_CNT
  ⟨0x5C, 1, 4, 1, 0x4, 0, 0, 0, 0, 0, .counter⟩, -- BBX_CRC_CNT
  ⟨0x60, 1, 4, 1, 0x4, 0, 0, 0, 0, 0, .counter⟩, -- BBX_DROP_CNT
  ⟨0x64, 1, 4, 1, 0x4, 0, 0, 0, 0, 0, .counter⟩ -- BBX_MIRFAIL_CNT
]

/-- Registers of the nrs page or window. -/
def nrsRegs : List RegDef := [
  ⟨0x40, 1, 4, 1, 0x4, 0, 0, 0, 0, 0, .plain⟩, -- NRS_STAT
  ⟨0x44, 1, 4, 1, 0x4, 0, 0, 0, 0, 0, .wide⟩, -- NRS_PASS_LO
  ⟨0x48, 1, 4, 1, 0x4, 0, 0, 0, 0, 0, .wide⟩, -- NRS_PASS_HI
  ⟨0x4C, 1, 4, 1, 0x4, 0, 0, 0, 0, 0, .counter⟩, -- NRS_CE_CNT
  ⟨0x50, 1, 4, 1, 0x4, 0, 0, 0, 0, 0, .counter⟩, -- NRS_UE_CNT
  ⟨0x54, 1, 4, 1, 0x4, 0, 0, 0, 0, 0, .plain⟩, -- NRS_UE_ADDR
  ⟨0x58, 1, 4, 1, 0x4, 0xFFFF0000, 0, 0, 0, 0, .plain⟩, -- NRS_TEMP
  ⟨0x5C, 1, 4, 1, 0x4, 0xF00000FF, 0, 0, 0, 0x8000000A, .plain⟩, -- NRS_TLM_CFG
  ⟨0x60, 1, 4, 1, 0x4, 0xFFFFFFFF, 0, 0, 0, 0, .plain⟩, -- NRS_TLM_DST
  ⟨0x64, 1, 4, 1, 0x4, 0xFFFFFFFF, 0, 0, 0, 0xA35EA35E, .plain⟩, -- NRS_TLM_PORT
  ⟨0x68, 1, 4, 1, 0x4, 0, 0, 0, 0, 0, .wide⟩, -- NRS_TLM_SEQ_LO
  ⟨0x6C, 1, 4, 1, 0x4, 0, 0, 0, 0, 0, .wide⟩ -- NRS_TLM_SEQ_HI
]

/-- Registers of the swm page or window. -/
def swmRegs : List RegDef := [
  ⟨0x40, 1, 4, 1, 0x4, 0, 0, 0, 0, 0, .plain⟩, -- SWM_STAT
  ⟨0x44, 1, 4, 1, 0x4, 0xFF, 0, 0, 0, 0x1E, .plain⟩, -- SWM_CFG
  ⟨0x48, 1, 4, 1, 0x4, 0, 0, 0, 0, 0, .wide⟩, -- SWM_TOTAL_LO
  ⟨0x4C, 1, 4, 1, 0x4, 0, 0, 0, 0, 0, .wide⟩, -- SWM_TOTAL_HI
  ⟨0x100, 8, 32, 1, 0x4, 0xFFB0FFFF, 0, 0, 0, 0, .plain⟩, -- SWM_RULE_TGT
  ⟨0x104, 8, 32, 1, 0x4, 0xF100FFFF, 0, 0, 0, 0, .plain⟩, -- SWM_RULE_ACT
  ⟨0x108, 8, 32, 1, 0x4, 0xFFFFFFFF, 0, 0, 0, 0, .plain⟩, -- SWM_RULE_PARAM
  ⟨0x10C, 8, 32, 1, 0x4, 0xFFFFFFFF, 0, 0, 0, 0, .plain⟩, -- SWM_RULE_PAT
  ⟨0x110, 8, 32, 1, 0x4, 0, 0, 0, 0, 0, .wide⟩, -- SWM_RULE_CNT_LO
  ⟨0x114, 8, 32, 1, 0x4, 0, 0, 0, 0, 0, .wide⟩, -- SWM_RULE_CNT_HI
  ⟨0x118, 8, 32, 1, 0x4, 0xFFFF, 0, 0, 0, 0, .plain⟩ -- SWM_RULE_LIMIT
]

/-- Registers of the pwr page or window. -/
def pwrRegs : List RegDef := [
  ⟨0x40, 1, 4, 1, 0x4, 0xF1FFFFFF, 0, 0, 0, 0x21000000, .plain⟩, -- PWR_CFG
  ⟨0x44, 1, 4, 1, 0x4, 0xFFFFFF, 0, 0, 0, 0, .plain⟩, -- PWR_TOL
  ⟨0x48, 1, 4, 1, 0x4, 0x7FFFFFFF, 0, 0, 0, 0, .plain⟩, -- PWR_RET
  ⟨0x4C, 1, 4, 1, 0x4, 0x1E, 0, 0, 0, 0x1F, .plain⟩, -- PWR_WAKE_EN
  ⟨0x50, 1, 4, 1, 0x4, 0x107, 0, 0x80000000, 0, 0x2, .plain⟩, -- PWR_REQ
  ⟨0x54, 1, 4, 1, 0x4, 0, 0xC0000, 0, 0, 0, .plain⟩, -- PWR_STAT
  ⟨0x58, 1, 4, 1, 0x4, 0, 0, 0, 0, 0xAAA, .plain⟩, -- PWR_DOM
  ⟨0x5C, 1, 4, 1, 0x4, 0, 0, 0, 0, 0, .plain⟩, -- PWR_BIAS
  ⟨0x60, 1, 4, 1, 0x4, 0, 0, 0, 0, 0, .plain⟩, -- PWR_AUTO
  ⟨0x64, 1, 4, 1, 0x4, 0, 0, 0, 0, 0, .wide⟩, -- PWR_WAKE_CNT_LO
  ⟨0x68, 1, 4, 1, 0x4, 0, 0, 0, 0, 0, .wide⟩, -- PWR_WAKE_CNT_HI
  ⟨0x6C, 1, 4, 1, 0x4, 0, 0, 0, 0, 0, .counter⟩, -- PWR_RFS_CNT
  ⟨0x70, 1, 4, 1, 0x4, 0, 0, 0, 0, 0, .plain⟩, -- PWR_RFS_HEAD
  ⟨0x74, 1, 4, 1, 0x4, 0, 0, 0, 0, 0, .counter⟩, -- PWR_WFAIL_CNT
  ⟨0x78, 1, 4, 1, 0x4, 0, 0, 0, 0, 0, .plain⟩, -- PWR_WFAIL
  ⟨0x7C, 1, 4, 1, 0x4, 0, 0, 0, 0, 0, .plain⟩, -- PWR_WTIME
  ⟨0x100, 16, 8, 1, 0x4, 0, 0, 0, 0, 0, .plain⟩, -- PWR_RFS_WHO
  ⟨0x104, 16, 8, 1, 0x4, 0, 0, 0, 0, 0, .plain⟩ -- PWR_RFS_WHY
]

end Sys2Proof.Machine.RegTable
end

