-- ==== Sys2Proof/Machine/RegMap.lean ====
section
/-! DEFINITION. The page map R30, where an address leads, the reset value of every register, and the fields of a word. -/

namespace Sys2Proof.Machine

/-- R4: bits `[hi:lo]` of a word, as a number. -/
def getField (w : Word) (hi lo : Nat) : Nat := (w.toNat >>> lo) % 2 ^ (hi + 1 - lo)

/-- The mask of bits `[hi:lo]`. -/
def fieldMask (hi lo : Nat) : Word := BitVec.ofNat 32 ((2 ^ (hi + 1 - lo) - 1) <<< lo)

/-- `w` with bits `[hi:lo]` replaced by the low bits of `v`. -/
def setField (w : Word) (hi lo v : Nat) : Word :=
  (w &&& ~~~ fieldMask hi lo) ||| (BitVec.ofNat 32 (v <<< lo) &&& fieldMask hi lo)

/-- R30: the pages with a common header, each with the domain that powers it. R10 gives AMP and BST the domains CORE and POWER and R38
does not say which their events follow: here the pages follow CORE, so their EVT_RAW is kept through Sleep (DESIGN CHOICE, log
entry 76). -/
def pageRows : List PageRow := [
  ⟨.sys, 0x000000, 1, 0x0001, 0, .aon, true⟩, ⟨.pwr, 0x001000, 1, 0x0002, 1, .aon, true⟩,
  ⟨.clk, 0x002000, 1, 0x0003, 2, .keeper, true⟩, ⟨.spi, 0x003000, 1, 0x0004, 3, .keeper, true⟩,
  ⟨.tw, 0x004000, 2, 0x0005, 4, .keeper, true⟩, ⟨.kpr, 0x006000, 1, 0x0006, 6, .keeper, true⟩,
  ⟨.bbx, 0x007000, 1, 0x0007, 7, .keeper, true⟩, ⟨.nrs, 0x008000, 1, 0x0008, 8, .keeper, true⟩,
  ⟨.swm, 0x009000, 1, 0x0009, 9, .keeper, false⟩, ⟨.wag, 0x00A000, 1, 0x000A, 10, .keeper, false⟩,
  ⟨.clip, 0x00B000, 1, 0x000B, 11, .core, false⟩, ⟨.fls, 0x00C000, 1, 0x000C, 12, .keeper, true⟩,
  ⟨.cmb, 0x010000, 1, 0x0010, 13, .core, false⟩, ⟨.asrc, 0x040000, 1, 0x0011, 14, .core, false⟩,
  ⟨.tdm, 0x041000, 16, 0x0012, 15, .core, false⟩, ⟨.eth, 0x051000, 4, 0x0013, 31, .core, false⟩,
  ⟨.pdm, 0x057000, 1, 0x0014, 35, .listen, false⟩, ⟨.sct, 0x058000, 1, 0x0015, 36, .listen, false⟩,
  ⟨.ain, 0x059000, 1, 0x0016, 37, .analog, false⟩, ⟨.hs, 0x05A000, 1, 0x0017, 38, .analog, false⟩,
  ⟨.lo, 0x05B000, 1, 0x0018, 39, .analog, false⟩, ⟨.amp, 0x05C000, 8, 0x0020, 40, .core, false⟩,
  ⟨.bst, 0x064000, 4, 0x0021, 48, .core, false⟩, ⟨.madc, 0x068000, 2, 0x0022, 52, .analog, false⟩,
  ⟨.lsv, 0x06A000, 1, 0x0023, 54, .core, false⟩, ⟨.w, 0x070000, 16, 0x0030, 55, .core, false⟩,
  ⟨.q, 0x080000, 4, 0x0031, 71, .core, false⟩, ⟨.frg, 0x084000, 1, 0x0032, 75, .core, false⟩,
  ⟨.frm, 0x085000, 1, 0x0033, 76, .core, false⟩]

/-- The row of the page that holds address `a`. -/
def pageRowAt : List PageRow → Nat → Option PageRow
  | [], _ => none
  | r :: rs, a => if r.base ≤ a ∧ a < r.base + 0x1000 * r.count then some r else pageRowAt rs a

/-- R30: where an address leads. -/
def regionOf (a : Nat) : Region :=
  if 0x800000 ≤ a then (if a < 0x1000000 then .frame ((a - 0x800000) / 0x40000) ((a - 0x800000) % 0x40000) else .unmapped)
  else if 0x600000 ≤ a then .local_ (16 + (a - 0x600000) / 0x80000) ((a - 0x600000) % 0x80000)
  else if 0x400000 ≤ a then .local_ ((a - 0x400000) / 0x20000) ((a - 0x400000) % 0x20000)
  else if 0x020000 ≤ a ∧ a < 0x030000 then .xp ((a - 0x020000) / 8) (a % 8)
  else if 0x030000 ≤ a ∧ a < 0x040000 then .sink ((a - 0x030000) / 64) (a % 64)
  else if 0x055000 ≤ a ∧ a < 0x056000 then .strRx ((a - 0x055000) / 128) (a % 128)
  else if 0x056000 ≤ a ∧ a < 0x057000 then .strTx ((a - 0x056000) / 128) (a % 128)
  else match pageRowAt pageRows a with
    | some r => .page r ((a - r.base) / 0x1000) ((a - r.base) % 0x1000)
    | none => .unmapped

/-- The block registers of a page kind, without its header. -/
def blockRegs : PageKind → List RegDef
  | .sys => RegTable.sysRegs | .pwr => RegTable.pwrRegs | .clk => RegTable.clkRegs | .spi => RegTable.spiRegs
  | .tw => RegTable.twRegs | .kpr => RegTable.kprRegs | .bbx => RegTable.bbxRegs | .nrs => RegTable.nrsRegs
  | .swm => RegTable.swmRegs | .wag => RegTable.wagRegs | .clip => RegTable.clipRegs | .fls => RegTable.flsRegs
  | .cmb => RegTable.cmbRegs | .asrc => RegTable.asrcRegs | .tdm => RegTable.tdmRegs | .eth => RegTable.ethRegs
  | .pdm => RegTable.pdmRegs | .sct => RegTable.sctRegs | .ain => RegTable.ainRegs | .hs => RegTable.hsRegs
  | .lo => RegTable.loRegs | .amp => RegTable.ampRegs | .bst => RegTable.bstRegs | .madc => RegTable.madcRegs
  | .lsv => RegTable.lsvRegs | .w => RegTable.wRegs | .q => RegTable.wRegs | .frg => RegTable.frgRegs | .frm => []

/-- Whether offset `off` is one of the copies of `d`. -/
def RegDef.covers (d : RegDef) (off : Nat) : Bool :=
  decide (d.off ≤ off) &&
    (let e := off - d.off
     if d.n2 ≤ 1 then e % d.s1 == 0 && decide (e / d.s1 < d.n1)
     else decide (e / d.s2 < d.n2) && (e % d.s2) % d.s1 == 0 && decide ((e % d.s2) / d.s1 < d.n1))

/-- The register at offset `off` of a list of registers. -/
def regIn : List RegDef → Nat → Option RegDef
  | [], _ => none
  | d :: ds, off => if d.covers off then some d else regIn ds off

/-- R75 and the chapters' "only" remarks: registers that one instance of a kind has and the other lacks. -/
def presentOn (k : PageKind) (inst off : Nat) : Bool :=
  match k with
  | .tw => if inst == 0 then !(off == 0x044 || off == 0x048 || off == 0x064 || decide (0x200 ≤ off))
           else !(off == 0x050 || off == 0x058)
  | .eth => inst == 0 || decide (off < 0x100)
  | .madc => inst == 0 || !(decide (0x05C ≤ off ∧ off ≤ 0x064) || off == 0x074 || off == 0x078)
  | _ => true

/-- The register at an address, if the address names one that the register file holds. -/
def regAt (a : Nat) : Option RegDef :=
  match regionOf a with
  | .page r inst off =>
    if off < 0x40 then regIn RegTable.hdrRegs off
    else if presentOn r.kind inst off then regIn (blockRegs r.kind) off else none
  | .sink _ off => regIn RegTable.skRegs off
  | .strRx _ off => regIn RegTable.strRxRegs off
  | .strTx _ off => regIn RegTable.strTxRegs off
  | _ => none

/-- The bits of a present register that this instance does not have (R75: a field marked for the other instance). -/
def absentBits (a : Nat) : Word :=
  if a = 0x004040 then 0xFF070000 else 0

/-- The value a register takes at device reset: its table's value, with what depends on the instance, on OTP (R390) or on
the page map (R30) added. -/
def regReset (a : Nat) : Word :=
  match regionOf a with
  | .page r inst off =>
    if off = 0x000 then BitVec.ofNat 32 (r.typeCode * 0x10000 + inst * 0x100 + 1)
    else if off = 0x004 then (if r.en && (r.kind != .tw || inst == 0) then 1 else 0)
    else match regAt a with
      | none => 0
      | some d =>
        match r.kind with
        | .eth =>
          if off = 0x040 then d.reset ||| BitVec.ofNat 32 (inst * 0x1000000)
          else if off = 0x044 then (Config.macBase + BitVec.ofNat 48 inst).setWidth 32
          else if off = 0x048 then ((Config.macBase + BitVec.ofNat 48 inst) >>> 32).setWidth 32
          else d.reset
        | .hs => if off < 0x0C0 ∧ (off - 0x40) % 0x20 = 0x0C then d.reset ||| BitVec.ofNat 32 ((off - 0x40) / 0x20 * 0x1000000)
                 else d.reset
        | .sys => if off = 0x044 then Config.uid.setWidth 32 else if off = 0x048 then (Config.uid >>> 32).setWidth 32
                  else d.reset
        | _ => d.reset &&& ~~~ absentBits a
  | _ => match regAt a with
    | none => 0
    | some d => d.reset

/-- The base address of the header page that owns an address (R30): the page itself, or the owner of its window. -/
def ownerBase (a : Nat) : Option Nat :=
  match regionOf a with
  | .page r inst _ => some (r.base + 0x1000 * inst)
  | .xp _ _ => some 0x010000
  | .sink _ _ => some 0x010000
  | .strRx _ _ => some 0x051000
  | .strTx _ _ => some 0x051000
  | .local_ c _ => some (if c < 16 then 0x070000 + 0x1000 * c else 0x080000 + 0x1000 * (c - 16))
  | .frame _ _ => some 0x085000
  | .unmapped => none

/-- The page base of a page index 0-76 (R30). -/
def pageOfIndex (i : Nat) : Nat :=
  if i ≤ 12 then i * 0x1000
  else if i = 13 then 0x010000
  else if i ≤ 34 then 0x040000 + (i - 14) * 0x1000
  else if i ≤ 54 then 0x057000 + (i - 35) * 0x1000
  else if i ≤ 70 then 0x070000 + (i - 55) * 0x1000
  else 0x080000 + (i - 71) * 0x1000

/-- The power domain of an address (R10): a page's own, its owner's for a window, and LISTEN for FRM31. -/
def domOf (a : Nat) : Option Dom :=
  match regionOf a with
  | .page r _ _ => some r.dom
  | .frame k _ => some (if k = 31 then .listen else .core)
  | .unmapped => none
  | _ => some .core

end Sys2Proof.Machine
end

