-- ==== Sys2Proof/Machine/CoreTypes.lean ====
section
/-! DEFINITION. The Worker and Queen cores and the Forager beside their pages, and a core's instructions as the decoder
gives them (R285-R305). -/

namespace Sys2Proof.Machine

/-- An active loop (R307): the first and the last instruction of its body, and its remaining count. -/
structure CoreLoop where
  first : Int
  last : Int
  count : Nat
deriving DecidableEq, Repr

/-- What a core holds beside its page. `d`, `a`, `p`, `h`, `z`, `t` are the register files of R288 (a Worker uses the
first 16 data registers and 4 accumulators); an accumulator is the signed number it holds. `pc` is a number so that a
branch below 0 or past bit 14 is still seen as outside program memory. `cycHi` is the captured CYC_HI (R289). `mask` is
the mask of the WAIT the core is in. `done`: DONE was executed in time in the present block; `owes`: its FAB_IN
transfers of the block have still to complete. `busy` counts the block boundaries passed with the core never in WAITING
(R322). `loaded` and `summed` are the data registers and accumulators the last instruction wrote late (R302). -/
structure CoreHid where
  d : List Word
  a : List Int
  p : List Nat
  h : List Nat
  z : List Nat
  t : List Int
  sr : Word
  scale : Int
  purev : Byte
  pc : Int
  calls : List Int
  loops : List CoreLoop
  cycHi : Option Word
  mask : Word
  done : Bool
  owes : Bool
  busy : Nat
  loaded : List Nat
  summed : List Nat
deriving DecidableEq, Repr

/-- R321: all registers are 0 after a device reset. -/
def CoreHid.reset : CoreHid :=
  { d := List.replicate 32 0, a := List.replicate 8 0, p := List.replicate 8 0, h := List.replicate 8 0,
    z := List.replicate 8 0, t := List.replicate 8 0, sr := 0, scale := 0, purev := 0, pc := 0, calls := [], loops := [],
    cycHi := none, mask := 0, done := false, owes := false, busy := 0, loaded := [], summed := [] }

/-- The block exchange between fabric and cores (R312-R314): the outputs of the DSP sinks in the periods of the present
block, newest first, and in those of the last block, oldest first; the blocks the DSP sources present now and in the next
block, by source; whether the copies at the boundary and the check of the present block have still to be made, and whether
the check has been made; and of each Forager channel, who started its transfer, how often the seal had closed then, and the command
code of the start (0xFF: a direct write). -/
structure Dsp where
  cur : List (List (Nat × Int))
  last : List (List (Nat × Int))
  out : List (Nat × List Int)
  next : List (Nat × List Int)
  inDue : Bool
  outDue : Bool
  checked : Bool
  starter : List (Nat × Req × Nat × Nat)
deriving DecidableEq, Repr

/-- The exchange after reset. -/
def Dsp.reset : Dsp :=
  { cur := [], last := [], out := [], next := [], inDue := false, outDue := false, checked := false, starter := [] }

/-- A core's instructions with the fields that each uses (R303-R305). -/
inductive CoreInstr where
  | nop
  | add (d x y : BitVec 5)
  | sub (d x y : BitVec 5)
  | adds (d x y : BitVec 5)
  | subs (d x y : BitVec 5)
  | and (d x y : BitVec 5)
  | or (d x y : BitVec 5)
  | xor (d x y : BitVec 5)
  | shl (d x : BitVec 5) (k : ShiftBy)
  | shr (d x : BitVec 5) (k : ShiftBy)
  | sar (d x : BitVec 5) (k : ShiftBy)
  | shls (d x : BitVec 5) (k : ShiftBy)
  | min (d x y : BitVec 5)
  | max (d x y : BitVec 5)
  | abs (d x : BitVec 5)
  | mul (d x y : BitVec 5)
  | addi (d x : BitVec 5) (imm : BitVec 16)
  | andi (d x : BitVec 5) (imm : BitVec 16)
  | ori (d x : BitVec 5) (imm : BitVec 16)
  | xori (d x : BitVec 5) (imm : BitVec 16)
  | lui (d : BitVec 5) (imm : BitVec 16)
  | exp (d x : BitVec 5)
  | expa (d : BitVec 5) (a : BitVec 3)
  | norm (d y x : BitVec 5)
  | norma (a : BitVec 3) (d : BitVec 5)
  | divs (a : BitVec 3) (x : BitVec 5)
  | mva (d : BitVec 5) (a : BitVec 3) (part : BitVec 2) (rnd : Bool)
  | mvd (a : BitVec 3) (x : BitVec 5) (part : BitVec 2)
  | accClr (a : BitVec 3)
  | accMov (a b : BitVec 3)
  | accAdd (a b : BitVec 3)
  | accSub (a b : BitVec 3)
  | accNeg (a b : BitVec 3)
  | accShift (a b : BitVec 3) (imm : BitVec 8)
  | ld (d : BitVec 5) (u : BitVec 3) (m : StepBy)
  | st (x : BitVec 5) (u : BitVec 3) (m : StepBy)
  | ldg (d : BitVec 5) (u : BitVec 3) (m : StepBy)
  | stg (x : BitVec 5) (u : BitVec 3) (m : StepBy)
  | ldx (d : BitVec 5) (u : BitVec 3) (tsel : Bool) (imm : BitVec 17)
  | stx (x : BitVec 5) (u : BitVec 3) (tsel : Bool) (imm : BitVec 17)
  | padv (u : BitVec 3) (m : StepBy)
  | mvc (d : BitVec 5) (reg : BitVec 6)
  | mvcs (x : BitVec 5) (reg : BitVec 6)
  | b (x y : BitVec 5) (cond : BitVec 4) (off : BitVec 12)
  | jmp (target : BitVec 16)
  | call (target : BitVec 16)
  | ret
  | loop (n : LoopBy) (len : BitVec 10)
  | wait (x : BitVec 5)
  | sigCore (k : BitVec 5) (bits : Byte)
  | sigForager (bits : Byte)
  | sigKeeper (bits : Byte)
  | done
  | halt
  | mac (m : MacOps)
  | msu (m : MacOps)
  | mpy (m : MacOps)
  | macx (m : MacOps)
deriving DecidableEq, Repr

end Sys2Proof.Machine
end

