-- ==== Sys2Proof/Machine/StateTypes.lean ====
section
/-! DEFINITION. The parts of the state beside the registers of the address space: each record is one unit of the part
as its chapter describes it. Registers a chapter numbers are held in the register file, not here. -/

namespace Sys2Proof.Machine

/-- A requester and the page it speaks to: what R41's shadows and R42's holding registers are kept by. -/
structure HoldKey where
  req : Req
  page : Nat
deriving DecidableEq, Repr

/-- The power states (R426). -/
inductive PwrMode where
  | run | idle | sleep | deep | off
deriving DecidableEq, Repr

/-- R80: a mailbox: the request waiting or executing (its CMD, TAG and PAYLOAD) and the response frame held. -/
structure Mailbox where
  req : Option (Nat × BitVec 16 × List Byte)
  rsp : Option (List Byte)
deriving DecidableEq, Repr

/-- R91: a UDP key with the highest SEQ accepted under it and the stored response (R88). -/
structure UdpKey where
  idx : Nat
  key : List Byte
  seq : Option Word
  stored : List Byte
deriving DecidableEq, Repr

/-- A UDP request accepted and not yet executed (R80, R88). -/
structure UdpReq where
  link : Fin 4
  key : Nat
  seq : Word
  ip : Word
  port : BitVec 16
  cmd : Nat
  tag : BitVec 16
  payload : List Byte
deriving DecidableEq, Repr

/-- R79, R81: a Plosto request that has arrived in full: its command code, its transport, TAG and PAYLOAD. -/
abbrev Arrival := Nat × PlReq

/-- R61: a complete command of a TW0 write phase that has not been applied yet. -/
inductive TwCmd where
  | setAddr (a : Nat)
  | write (words : List Word)
  | plosto (frame : List Byte)
  | aborted (op : Nat)
deriving DecidableEq, Repr

/-- The SPI port: what it sent in the last frame after the device-select byte (empty: high impedance), its mailbox, and
whether a soft reset waits for the end of the frame that asked for it (R74). -/
structure SpiPort where
  miso : List Byte
  mb : Mailbox
  srstNext : Bool
deriving DecidableEq, Repr

/-- TW0: the commands of the write phase under way and its bytes so far (R62, R63), what it sent in the last read phase,
whether it withheld an acknowledge, and its mailbox. -/
structure Tw0Port where
  held : List TwCmd
  bytes : List Byte
  out : List Byte
  nack : Bool
  mb : Mailbox
deriving DecidableEq, Repr

/-- TW1: the levels of its lines, the slots queued in order, the slot on the bus with the retries it has left and whether
it waits for the bus after a lost arbitration (R68, R70), the bus-clear attempts made, whether CLR_FAULT asked for it, and
whether a bus-clear must run before the next transfer (R69, R71); the bytes that the last transfer sent (R68), and who queued each slot,
with its command code (0xFF: a write; R47). -/
structure Tw1Port where
  sda : Bool
  scl : Bool
  queue : List Nat
  active : Option Nat
  retries : Nat
  waiting : Bool
  clears : Nat
  clrFault : Bool
  dirty : Bool
  sent : List Byte
  by_ : List (Nat × Req × Nat)
deriving DecidableEq, Repr

/-- Plosto over UDP: keys, session nonce, a nonce that takes its place once NONCE_RENEW has been answered (R90), the requests queued,
and by link the uptimes in ms of the failing answers sent in the last second (R89). -/
structure UdpPort where
  keys : List UdpKey
  nonce : BitVec 64
  renew : Option (BitVec 64)
  queue : List UdpReq
  rate : List (Nat × List Nat)
deriving DecidableEq, Repr

/-- The host ports (chapter 03), and the Plosto requests of all transports that wait, in order of arrival (R81). -/
structure Ports where
  spi : SpiPort
  tw0 : Tw0Port
  tw1 : Tw1Port
  udp : UdpPort
  order : List Arrival
deriving DecidableEq, Repr

/-! ### The Comb -/

/-- A gain on its way (R97, R98): linear in decibels from `start` in steps of `inc` (1/65,536 code), or linear in
amplitude from `start` to `goal` (Q5.27); step `i` of `n`. -/
inductive Slope where
  | db (start inc : Int) (n i : Nat)
  | amp (start goal n i : Nat)
deriving DecidableEq, Repr

/-- A gain: its present linear value in Q5.27, its present code in 1/65,536 where it lies on the scale of codes, its target
code, and its way there. -/
structure Gain where
  lin : Nat
  code : Option Int
  target : Nat
  slope : Option Slope
deriving DecidableEq, Repr

/-- The states of a crosspoint entry that is not FREE (XP_k_GAIN.STATE). -/
inductive XpSt where
  | steady | ramp | xfade | release
deriving DecidableEq, Repr

/-- A crosspoint entry that is not FREE (R92), with the lane fading out in XFADE (R99). -/
structure XpEntry where
  src : Nat
  sink : Nat
  st : XpSt
  rampIdx : Nat
  g : Gain
  old : Option (Nat × Gain)
deriving DecidableEq, Repr

/-- One biquad stage (R111): coefficients b0, b1, b2, a1, a2 in Q3.29 and state x1, x2, y1, y2. -/
structure Biquad where
  coef : List Word
  x1 : Int
  x2 : Int
  y1 : Int
  y2 : Int
deriving DecidableEq, Repr

/-- R116: one read position of a delay line: its delay and the weight it had when the running crossfade began. -/
structure DlyTap where
  delay : Nat
  weight : Rat
deriving DecidableEq, Repr

/-- R116: a delay crossfade: the positions fading out, and its step `i` of `n`. -/
structure DlyFade where
  olds : List DlyTap
  n : Nat
  i : Nat
deriving DecidableEq, Repr

/-- R93, R94: an accepted change of a crosspoint entry, with its ramp index and step count (0: at once). -/
inductive XpChange where
  | create (src sink c r n : Nat)
  | regain (c r n : Nat)
  | resource (src c r n : Nat)
  | release (r n : Nat)
deriving DecidableEq, Repr

/-- R15 step 3: an accepted change that takes effect in the next fabric period: of a crosspoint entry (R93), of a trim to a code in
`n` steps (R110), of a delay with a crossfade of `n` steps (R116), of a biquad stage, whose state `clr` clears (R112). -/
inductive CombDue where
  | xp (k : Nat) (ch : XpChange)
  | trim (k c n : Nat)
  | delay (k d n : Nat)
  | biquad (k j : Nat) (coef : List Word) (clr : Bool)
deriving DecidableEq, Repr

/-- What a sink holds beside its window entry: trim gain, ZLA gain, biquads, the limiter's gain g in units of 2^-64, the samples of its delay line
newest first, the read delay with its crossfade, how many periods its delay stage has been fed zeros, and its meter's
window (sum of squares, samples, peak) with the age of the held peak. -/
structure SinkHid where
  trim : Gain
  zla : Gain
  bqs : List Biquad
  lim : Int
  line : List Int
  delay : Nat
  fade : Option DlyFade
  quiet : Nat
  sq : Nat
  cnt : Nat
  peak : Nat
  heldPeak : Nat
  heldAge : Nat
deriving DecidableEq, Repr

/-- R120: what the ZLA service holds of a microphone of a zone: the taps of its adaptive filter in units of 2^-64, the state of its
decimation to 16 kHz, the samples of the present 32 ms block, newest first, with the energy of the echo estimate over it, and, of
the present window, the energies of the microphone and of the residual, and whether the microphone has been invalid. -/
structure ZlaMic where
  taps : List Int
  down : Nat
  blk : List Int
  est : Nat
  pm : Nat
  pe : Nat
  lost : Bool
deriving DecidableEq, Repr

/-- R120: what a window has measured: of each microphone the energies P_mic and P_e, if it was valid, of `n` samples, and whether
the reference was above SIL in a block of it. -/
structure ZlaWindow where
  mics : List (Option (Nat × Nat))
  n : Nat
  heard : Bool
deriving DecidableEq, Repr

/-- What zone level adaptation holds of a zone: the offset A and A_rep in 0.05 dB (R121, R123), the source and tap of
each crosspoint it made (R119), the reference at 16 kHz, newest first, with the state of its decimation, the microphones of
ZLA_z_MIC that are in use (R120), the fabric periods of the present window, whether the reference was above SIL in it, and a window
that has ended and is not decided yet (R121). -/
structure Zone where
  a : Int
  aRep : Int
  taps : List (Nat × Nat)
  ref : List Int
  refDown : Nat
  mics : List (Option ZlaMic)
  age : Nat
  heard : Bool
  due : Option ZlaWindow
deriving DecidableEq, Repr

/-- A zone that is not enabled. -/
def Zone.reset : Zone := { a := 0, aRep := 0, taps := [], ref := [], refDown := 0, mics := [], age := 0, heard := false, due := none }

/-- The Comb beside its page and sink window: the entries not FREE by rising index, the sinks that differ from reset, the
zones, the samples the sources present, the outputs of the last mix, which are the sinks' outputs of the next period (R11), and
the changes accepted since the last period, oldest first (R15 step 3). -/
structure Comb where
  xps : List (Nat × XpEntry)
  sinks : List (Nat × SinkHid)
  zones : List Zone
  src : List (Nat × Int)
  outs : List (Nat × Int)
  due : List CombDue
deriving DecidableEq, Repr

/-- A gain that stands at a code whose linear value is known: mute, or 0.0 dB (code 2,401). -/
def Gain.unity : Gain := { lin := 0x8000000, code := some (2401 * 65536), target := 2401, slope := none }

/-- R111: a biquad stage after reset: b0 = 1.0. -/
def Biquad.reset : Biquad := { coef := [0x20000000, 0, 0, 0, 0], x1 := 0, x2 := 0, y1 := 0, y2 := 0 }

/-- A sink after reset; its delay stage has been fed zeros for longer than any delay. -/
def SinkHid.reset : SinkHid :=
  { trim := Gain.unity, zla := Gain.unity, bqs := List.replicate 8 Biquad.reset, lim := 2 ^ 64, line := [], delay := 0,
    fade := none, quiet := 24032, sq := 0, cnt := 0, peak := 0, heldPeak := 0, heldAge := 0 }

/-- The Comb after reset. -/
def Comb.reset : Comb :=
  { xps := [], sinks := [], zones := List.replicate 16 Zone.reset, src := [], outs := [], due := [] }

/-! ### The analogue blocks -/

/-- What a speaker channel does when its stop ends (R267, R268, R274, R277, R265). -/
inductive AmpAfter where
  | off
  | retry
  | latched
  | blocked
deriving DecidableEq, Repr

/-- A quantity that moves linearly: its present value, where it goes, and the fabric periods left. -/
structure Fader where
  cur : Rat
  goal : Rat
  left : Nat
deriving DecidableEq, Repr

/-- A fader at rest. -/
def Fader.at (v : Rat) : Fader := ⟨v, v, 0⟩

/-- What the modulator and the sense loop of a speaker channel hold (R256-R260): the rail of the last carrier period in 10 mV, the
state of the reference's filter and of the loop filter, the correction c in volts, the runs of fabric samples with c at its limit,
with the sense below 2 % and with the sense in agreement, whether the run at the limit has been reported, the last five
quantisation errors of each leg, newest first, the index m of the last carrier period, and the duties of OUTP and OUTN of the
carrier periods of the last fabric sample, in edge steps. -/
structure AmpLoop where
  vr : Rat
  ref : List Rat
  flt : List Rat
  corr : Rat
  satRun : Nat
  lowRun : Nat
  agreeRun : Nat
  told : Bool
  errP : List Rat
  errN : List Rat
  m : Rat
  edges : List (Nat × Nat)
deriving DecidableEq, Repr

/-- A loop that is open. -/
def AmpLoop.reset : AmpLoop :=
  { vr := 0, ref := [], flt := [], corr := 0, satRun := 0, lowRun := 0, agreeRun := 0, told := false, errP := [], errN := [], m := 0,
    edges := [] }

/-- What a speaker channel holds beside its page: whether the stop under way is a fast stop and what follows it; whether
the next entry to PLAY raises RECOVER (R283); whether a blocked start is a retry still to be counted, and a retry whose
time has come but whose link is lost (R272, R273); the uptime of each retry of the last 60 s; an open sense line (R260);
pavg in watts and the attenuations of R275 and R276 in 0.001 dB; the samples of its look-ahead, newest first, as v*
in volts (R255, R262); the fabric periods of the start under way, the common mode in 1/960 of its ramp and the signal gain (R267);
the samples past the look-ahead in volts, newest first; the modulator and the loop; and the fabric periods since the last limited
period, up to 100 ms (R270). -/
structure AmpHid where
  fast : Bool
  after : AmpAfter
  recover : Bool
  counting : Bool
  due : Bool
  retries : List Nat
  senseOpen : Bool
  pavg : Rat
  pAtt : Nat
  thAtt : Nat
  ahead : List Rat
  age : Nat
  cm : Nat
  gain : Fader
  line : List Rat
  loop : AmpLoop
  calm : Nat
deriving DecidableEq, Repr

/-- What a boost holds beside its page: its rail target in volts, the fabric samples since the need last reached it and whether it
falls (R262), the rail in 10 mV, and whether an excursion above 41.5 V is under way (R264). -/
structure BstHid where
  tgt : Rat
  held : Nat
  falling : Bool
  rail : Rat
  ovp : Bool
deriving DecidableEq, Repr

/-- What a line output holds beside its page (R238): the common mode in 1/1,920 of its ramp, the signal gain, whether the stop
under way is that of R248, the samples of its sink on their way to the balls, newest first, and the sample at the balls. -/
structure LoHid where
  cm : Nat
  gain : Fader
  fast : Bool
  line : List Int
  out : Rat
deriving DecidableEq, Repr

/-- What a headset holds beside its page: the ears' signal gain; the samples of both sinks on their way to the balls, newest
first; the side-tone's gain, the microphone and high-pass it uses, and the state of the high-pass (R245, R246); the samples at the
ears in the last period, at 384 kHz; the microphone's present gain in 0.5 dB, the fabric periods since its last step, and the sign
of its last sample (R240). -/
structure HsHid where
  ear : Fader
  lineL : List Int
  lineR : List Int
  st : Fader
  stSrc : Nat
  stHpf : Nat
  hp : List Rat
  outs : List (Int × Int)
  mic : Nat
  micAge : Nat
  micNeg : Bool
deriving DecidableEq, Repr

/-- Ramps whose end is no command of its own: they end after a number of fabric periods (R238, R243, R248, R267). -/
inductive Ramp where
  | loUnmute (n : Nat)
  | ampUnmute (n : Nat)
  | earUp (n : Nat)
  | earMute (n : Nat)
  | earOff (n : Nat)
  | hsGone (n : Nat)
  | ainBias (n : Nat)
  | boostOff (p : Nat)
deriving DecidableEq, Repr

/-- The analogue blocks, the speaker channels and the boosts beside their pages: the die attenuation of R276, whether the
die-to-die link is lost (R9), the inputs whose bias regulator runs and those that are stopping (R236), the bias of each input in
volts (R234), whether AVBIAS is in range (R450), the level of HSn_DET, the ramps running
with the fabric periods left of each, and the fades of AIN0-AIN7, HS0-HS3 in 1/240 of full (R236, R243, R244). -/
structure Analog where
  amps : List AmpHid
  bsts : List BstHid
  los : List LoHid
  hss : List HsHid
  bias : List Fader
  dieAtt : Nat
  linkLost : Bool
  biasOn : List Nat
  ainStop : List Nat
  avbias : Bool
  det : List Bool
  ramps : List (Ramp × Nat)
  fades : List Nat
deriving DecidableEq, Repr

/-- A speaker channel after reset. -/
def AmpHid.reset : AmpHid :=
  { fast := false, after := .off, recover := false, counting := false, due := false, retries := [], senseOpen := false,
    pavg := 0, pAtt := 0, thAtt := 0, ahead := [], age := 0, cm := 0, gain := Fader.at 0, line := [], loop := AmpLoop.reset,
    calm := 4800 }

/-- A boost after reset; its target starts at VMIN's reset value of 10 V (R262, BST_n_RAIL). -/
def BstHid.reset : BstHid := { tgt := 10, held := 0, falling := false, rail := 0, ovp := false }

/-- A line output after reset. -/
def LoHid.reset : LoHid := { cm := 0, gain := Fader.at 0, fast := false, line := [], out := 0 }

/-- Headset `n` after reset: HS_n_ST.SRC is n and HPF is 2; HS_n_CFG.MICGAIN is 0x18. -/
def HsHid.reset (n : Nat) : HsHid :=
  { ear := Fader.at 0, lineL := [], lineR := [], st := Fader.at 0, stSrc := n, stHpf := 2, hp := [], outs := [], mic := 24, micAge := 0,
    micNeg := false }

/-- The analogue blocks after reset. -/
def Analog.reset : Analog :=
  { amps := List.replicate 8 AmpHid.reset, bsts := List.replicate 4 BstHid.reset, los := List.replicate 8 LoHid.reset,
    hss := (List.range 4).map HsHid.reset, bias := List.replicate 8 (Fader.at 0), dieAtt := 0, linkLost := false,
    biasOn := [], ainStop := [], avbias := true, det := [true, true, true, true], ramps := [],
    fades := List.replicate 12 0 }

/-- R434: an entry in progress: its target, its kind (R445: 0 requested, 1 automatic, 2 forced, 3 escalated), the state
it started from, whether its preparation waits only for the outputs to stop, and the wake source that met it (R435);
of a request, its requester, command code (0xFF: a write) and address (R433). -/
structure Entry where
  target : PwrMode
  kind : Nat
  from_ : PwrMode
  prepared : Bool
  source : Option Nat
  req : Req
  cmd : Nat
  addr : Nat
deriving DecidableEq, Repr

/-- Reset, power and pins (chapters 16 and 17): whether the part is held in reset, whether the Keeper's Plosto service
runs, whether it is in RECOVERY, the power state and an entry in progress, the straps and the pin levels, the fabric
periods of the present millisecond, and a device reset that waits for the outputs to stop (R452). `waking` is the source
of a wake in progress, `retried` the step it is retrying, `clockFail` the step of class CLOCK that failed (R440, R441);
`fails` the consecutive failed wakes, `lockout` and `lowSeen` the lock-out and the low half of the toggle that ends it
(R443), `lastFail` the step of the last failed wake; `aonRecs` the records kept in AON until the Keeper runs (R421);
`offWake` the source of the wake from Off that the present boot ends, the kind of the entry to Off, and the exit latency in
us (R427); `muting` the pages whose soft reset waits for the mute sequence of its outputs (R35); `opening` the fabric periods until the pages of
R74 and R450 are served. -/
structure Sys where
  held : Bool
  service : Bool
  recovery : Bool
  mode : PwrMode
  entry : Option Entry
  twa : Nat
  pwrFailN : Bool
  wakeIn : Bool
  uptimeSub : Nat
  resetPending : Option Nat
  waking : Option Nat
  retried : Option Nat
  clockFail : Nat
  fails : Nat
  lockout : Bool
  lowSeen : Bool
  lastFail : Nat
  aonRecs : List BbxRec
  offWake : Option (Nat × Nat × Nat)
  muting : List Nat
  opening : Nat
deriving DecidableEq, Repr

end Sys2Proof.Machine
end

