-- ==== Sys2Proof/Machine/UnitTypes.lean ====
section
/-! DEFINITION. The parts of the state beside the registers, continued: clocks and the converter pool, TDM ports, the
network links and streams. -/

namespace Sys2Proof.Machine

/-- Why the fabric clock is stopped: the reference failed (R127, R466), a PLL failed (R149), or the oscillator mode is
being changed (R140). -/
inductive Halt where
  | ref | pll | mode
deriving DecidableEq, Repr

/-- Chapter 05 beside the CLK page. `st` is the state of R135, shown while the page is enabled; `down` the PLLs that failed
(0 system, 1 network, 2 media); `sel` the steering source in effect (SRC, LINK, PORT; R140). `seen`: the source has been
present since ACQUIRE was entered; `acq`: its first update has been made (R138); `owed`: a step is wanted and the rule
forbids it so far. `good` counts the successive updates within 100 ns. `integ`, `hold` and `freq` are the servo's integral,
the frequency when acquisition began and the present offset in ppb (R134); `hist` the offsets of the last 10 s, newest
first (R136). `step` is 0, 1 while a step waits for the end of the block, 2 in its pause (R139); `fresh`: CLK_FAB_CNT
already holds the number of the period that comes next. -/
structure Clk where
  st : Nat
  halt : Option Halt
  down : List Nat
  sel : Nat × Nat × Nat
  seen : Bool
  acq : Bool
  owed : Bool
  good : Nat
  integ : Rat
  hold : Rat
  freq : Rat
  hist : List Rat
  step : Nat
  fresh : Bool
deriving DecidableEq, Repr

/-- The clocks after reset: FREE, at nominal frequency. -/
def Clk.reset : Clk :=
  { st := 2, halt := none, down := [], sel := (0, 0, 0), seen := false, acq := false, owed := false, good := 0, integ := 0,
    hold := 0, freq := 0, hist := [], step := 0, fresh := false }

/-- R142, R143: what a rate group holds beside its registers: its fade in 1/240 of full, whether it comes from LOST, and how far behind
the newest received word its receive channels read, in 2^-28 samples of the port. -/
structure Grp where
  fade : Nat
  fromLost : Bool
  age : Nat
deriving DecidableEq, Repr

/-- A rate group that does not run. -/
def Grp.reset : Grp := { fade := 0, fromLost := false, age := 0 }

/-- What a TDM port holds beside its page: the misplaced or missing frames in succession and whether one has been missing since the
last good frame (R158, R159); the received frames not presented yet, oldest first, and the one presented last (R156, R160); the
sinks' outputs that its next frame carries (R23); the frames sent in the last fabric period, by slot (none: TDMn_TXD at high
impedance, R155); and, by slot, the words and the sinks' outputs that its converter channels hold, newest first (R142). -/
structure TdmHid where
  bad : Nat
  gone : Bool
  frames : List (List Int)
  last : List Int
  next : List Int
  sent : List (List (Option Word))
  rx : List (List Int)
  tx : List (List Int)
deriving DecidableEq, Repr

/-- A TDM port whose balls float. -/
def TdmHid.reset : TdmHid := { bad := 0, gone := false, frames := [], last := [], next := [], sent := [], rx := [], tx := [] }

/-! ### Network -/

/-- R171: an entry of a link's ARP cache. -/
structure ArpEntry where
  ip : Word
  mac : BitVec 48
deriving DecidableEq, Repr

/-- R174-R179: what a PTP port holds beside its registers: the masters heard with the Announce messages of each, the
master followed, successive accepted Syncs within 1 us, the offsets of successive rejected Syncs, newest first, the filtered
offset, and whether no Sync has come since UNCALIBRATED was entered; the servo's integral and the rate of the hardware clock against
nominal, in ppb, and the fraction of a ns beside the clock (R177); a Sync that waits for its Follow_Up (number, receive time,
correction) and the time from master to part of the last one; the delay request that waits for its response (number, send time), and
a peer response that waits for its Follow_Up (number, the peer's receive time, ours, correction); the requests that stayed without
one in succession; and the numbers of the next Sync, Announce and delay request. -/
structure Ptp where
  heard : List (Announce × Nat)
  parent : Option Announce
  near : Nat
  outliers : List Int
  filt : Int
  fresh : Bool
  integ : Rat
  rate : Rat
  sub : Rat
  sync : Option (BitVec 16 × BitVec 64 × Int)
  ms : Option Int
  req : Option (BitVec 16 × BitVec 64)
  resp : Option (BitVec 16 × BitVec 64 × BitVec 64 × Int)
  lost : Nat
  seqSync : BitVec 16
  seqAnn : BitVec 16
  seqDly : BitVec 16
deriving DecidableEq, Repr

/-- R173: what the IPv4 header of a frame sent says. It carries no options, and DF is set (R169). -/
structure IpOut where
  src : Word
  dst : Word
  ttl : Nat
  dscp : Nat
deriving DecidableEq, Repr

/-- The UDP header of a frame sent: its ports, and whether it carries a checksum (ETH_n_IPCFG.TXCSUM). -/
structure UdpOut where
  sport : BitVec 16
  dport : BitVec 16
  sum : Bool
deriving DecidableEq, Repr

/-- R174: a PTP message sent: its type, domain, number, time, correction in ns and interval; the port whose request it answers; the
data set of an Announce. -/
structure PtpOut where
  type : Nat
  dom : Nat
  seq : BitVec 16
  ts : BitVec 64
  corr : Int
  log : Int
  req : BitVec 80
  ann : Option Announce
deriving DecidableEq, Repr

/-- What a frame sent carries past its headers. An IGMP report names the sources of an INCLUDE filter, or none for EXCLUDE (R172). -/
inductive SentBody where
  | arp (reply : Bool) (ip : Word) (mac : BitVec 48)
  | echo (data : List Byte)
  | igmp (v2 leave : Bool) (group : Word) (sources : List Word)
  | ptp (m : PtpOut)
  | rtp (pt : Nat) (seq : BitVec 16) (ts ssrc : Word) (payload : List Byte)
  | udp (bytes : List Byte)
deriving DecidableEq, Repr

/-- A frame that a link sends from its own address: the destination's, the tag's PCP and VID, the headers of IPv4 and UDP, and what it
carries; its class for Swarm (0-31 a stream entry, 32 PTP, 33 other), its rank in the order of R195 (the lower goes first), and
the number that chooses the payload byte Swarm has inverted, if it has (R197). -/
structure Sent where
  mac : BitVec 48
  tag : Option (Nat × Nat)
  ip : Option IpOut
  udp : Option UdpOut
  body : SentBody
  cls : Nat
  rank : Nat
  spoilt : Option Word
deriving DecidableEq, Repr

/-- What a link holds beside its page: polls without an answer in succession (R167), its ARP cache and the addresses it
has asked for (R171, R196), the frames that wait for one of them, by next hop (R171), the uptime of its last gratuitous request after a
conflict, the groups whose second unsolicited report is due, the uptime at which IGMP version 2 compatibility ends (R172), its PTP port,
and the frames sent since the last fabric period began, in the order of R195. -/
structure Link where
  polls : Nat
  arp : List ArpEntry
  asked : List Word
  waiting : List (Word × Sent)
  garp : Option Nat
  reports : List Word
  v2 : Option Nat
  ptp : Ptp
  sent : List Sent
deriving DecidableEq, Repr

/-- R187-R192: what a receive stream holds beside its entry: a disable that has not taken effect (R181), its fade-out as
the periods left, the presentation periods of the instants in its rings, the packets received that are not past, with the period of
the first instant and every instant with its channels (R191), and the instants that conceal, how far a concealment has run, the step of the
crossfade after it (0: none), whether an instant has been presented since it started, whether the last packet was late, the presentation period of the last
instant of the newest packet, a new SSRC with its packets in succession (R190), and the fill levels of the last second
with their periods. -/
structure RxHid where
  off : Bool
  fading : Option Nat
  held : List Nat
  pkts : List (Nat × List (List Int))
  base : List (List Int)
  gap : Nat
  xfade : Nat
  started : Bool
  late : Bool
  newest : Option Nat
  cand : Option (Word × Nat)
  levels : List (Nat × Int)
deriving DecidableEq, Repr

/-- R194: what a transmit stream holds beside its entry: a disable that waits for the packet's end, whether its first
whole packet period has begun, the next sequence number, and the instants of the present packet, oldest first. -/
structure TxHid where
  off : Bool
  live : Bool
  seq : BitVec 16
  buf : List (List Int)
deriving DecidableEq, Repr

/-- Chapter 07 beside its registers. -/
structure Net where
  links : List Link
  rx : List RxHid
  tx : List TxHid
deriving DecidableEq, Repr

/-- A PTP port that has heard nothing. -/
def Ptp.reset : Ptp :=
  { heard := [], parent := none, near := 0, outliers := [], filt := 0, fresh := true, integ := 0, rate := 0, sub := 0, sync := none,
    ms := none, req := none, resp := none, lost := 0, seqSync := 0, seqAnn := 0, seqDly := 0 }

/-- A link after reset. -/
def Link.reset : Link :=
  { polls := 0, arp := [], asked := [], waiting := [], garp := none, reports := [], v2 := none, ptp := Ptp.reset, sent := [] }

/-- A receive stream that is OFF. -/
def RxHid.reset : RxHid :=
  { off := false, fading := none, held := [], pkts := [], base := [], gap := 0, xfade := 0, started := false, late := false,
    newest := none, cand := none, levels := [] }

/-- A transmit stream that is OFF. -/
def TxHid.reset : TxHid := { off := false, live := false, seq := 0, buf := [] }

/-- The network after reset. -/
def Net.reset : Net :=
  { links := List.replicate 4 Link.reset, rx := List.replicate 32 RxHid.reset, tx := List.replicate 32 TxHid.reset }

/-! ### Microphones and the Scout -/

/-- What a change of the microphone clock does (R210): nothing is under way; it waits for the end of voice; the current block of 32
samples completes; the next block fades out; it has faded out; the microphones settle. -/
inductive PdmPhase where
  | steady | deferred | closing | fading | faded | switching
deriving DecidableEq, Repr

/-- Chapter 08's front end beside the PDM page: whether its mode is full, the mode asked for, a request held until the
settling ends, the phase of the change, the clock groups that settle after a cleared fault, and the fade of the
microphones' output in 1/48 of full. -/
structure Pdm where
  full : Bool
  want : Option Bool
  next : Option Bool
  phase : PdmPhase
  settling : List Nat
  fade : Nat
deriving DecidableEq, Repr

/-- The front end after reset: full mode. -/
def Pdm.reset : Pdm := { full := true, want := none, next := none, phase := .steady, settling := [], fade := 48 }

/-- R222: a model slot: its model's image (empty: none), an image being loaded with the bytes written so far, its last frame
scores, newest first, and the frames left before it may detect again (R219). -/
structure Slot where
  model : List Byte
  load : Option (List (Option Byte))
  scores : List Nat
  holdoff : Nat
deriving DecidableEq, Repr

/-- R212: a vibration sensor's knock detector: the state of its band filter, its envelope as a fraction of full scale and its last
level and floor in dBFS, in units of 2^-64, whether it is armed, and the samples since its last event. -/
structure Knock where
  filt : Nat
  env : Int
  lvl : Int
  floor : Int
  armed : Bool
  age : Nat
deriving DecidableEq, Repr

/-- R212: a knock detector when its sensor is enabled: the floor starts at -90 dBFS. -/
def Knock.reset : Knock := { filt := 0, env := 0, lvl := -90 * 2 ^ 64, floor := -90 * 2 ^ 64, armed := true, age := 0 }

/-- R213: a pattern's matcher: the knocks counted in the present sequence and the period of the last. -/
structure Pattern where
  count : Nat
  last : Nat
deriving DecidableEq, Repr

/-- The Scout beside the SCT page: the slots; the states of the decimation to 16 kHz of its microphones (R206); the last 400 samples
of their mean stream, newest first, each with whether it lies in the gap of a mode change (R214, R220), and the samples since the
last frame; the last 300 feature frames, newest first (none: a gap frame); the frames presented to the models since voice began,
oldest first; the running means M_b and the voice floor in units of 2^-64 dB (R215, R216); the voiced frames in succession and the
frames since the last; the knock detectors and matchers; the periods left of the present 100 ms of open time; and how often the seal
has closed. -/
structure Sct where
  slots : List Slot
  down : List Nat
  mean : List (Int × Bool)
  fresh : Nat
  frames : List (Option (List Int))
  run : List (List Int)
  mel : List Int
  floor : Int
  voiced : Nat
  since : Nat
  bz : List Knock
  kp : List Pattern
  tick : Nat
  closes : Nat
deriving DecidableEq, Repr

/-- A slot that holds nothing. -/
def Slot.reset : Slot := { model := [], load := none, scores := [], holdoff := 0 }

/-- The Scout after reset; the floors and means start where the manual leaves them open. -/
def Sct.reset : Sct :=
  { slots := List.replicate 4 Slot.reset, down := List.replicate 4 0, mean := [], fresh := 0, frames := [], run := [], mel := (List.range 40).map Config.melStart,
    floor := Config.vadStart, voiced := 0, since := 0, bz := List.replicate 2 Knock.reset,
    kp := List.replicate 4 ⟨0, 0⟩, tick := 0, closes := 0 }

end Sys2Proof.Machine
end

