-- ==== Sys2Proof/Machine/ServiceTypes.lean ====
section
/-! DEFINITION. The parts of the state beside the registers, continued: the Waggle value with its cues, the clip players
and tone generators. -/

namespace Sys2Proof.Machine

/-! ### Waggle -/

/-- R336, R337: a cue table entry. `ctrl` is the RW fields of CUE_CTRL; `st` its STATE (0: FREE); `side` the side an EITHER
cue was recorded on, if it has been. -/
structure Cue where
  thr : BitVec 64
  late : Word
  hyst : Word
  act : Word
  arg : Word
  count : Nat
  code : Nat
  ctrl : Word
  st : Nat
  side : Option Bool
deriving DecidableEq, Repr

/-- A FREE entry: every word 0. -/
def Cue.free : Cue :=
  { thr := 0, late := 0, hyst := 0, act := 0, arg := 0, count := 0, code := 0, ctrl := 0, st := 0, side := none }

/-- R337: the words a requester holds for an entry, by word number 0-5. -/
structure CueHold where
  k : Nat
  words : List (Nat × Word)
deriving DecidableEq, Repr

/-- R335: a fix that has been accepted and takes effect in the next period: the speed it sets, its position and period, the
value aimed at, and whether it is a jump. -/
structure FixNext where
  spd : Rat
  pos : Int
  at_ : Nat
  target : Rat
  jump : Bool
deriving DecidableEq, Repr

/-- R342, R343, R344: an action deferred to the first period in Run. -/
structure Deferred where
  cue : Nat
  act : Word
  arg : Word
deriving DecidableEq, Repr

/-- Chapter 12 beside the WAG page: whether the value runs and its internal value; a START or STOP and a written value that
take effect at step 2 of the next period; whether a jump of PTP time is due; the speed S, the v of the last accepted
window and of the last window, the last four accepted and the windows of the recovery under way (R332); the period of the
first rejected window of the run; the accepted levels of ODO_A and ODO_B, the signed pulses of the present window and its
scale, whether it has been judged, the advance being spread and the parts of it made; the correction still to be made, the
last accepted fix, the period that counts for its time-outs, a fix to be applied (R334, R335); the cue table by rising
index, held words and banks by requester, and deferred actions. -/
structure Wag where
  run : Bool
  v : Rat
  ctl : Option Bool
  setv : Option (BitVec 64)
  stepped : Bool
  spd : Rat
  vPrev : Rat
  vLast : Rat
  acc : List Rat
  good : List Rat
  failK : Nat
  a : Bool
  b : Bool
  n : Int
  scale : Nat
  judged : Bool
  adv : Rat
  part : Nat
  corr : Rat
  fix : Option (Int × Nat)
  fixK : Option Nat
  next : Option FixNext
  cues : List (Nat × Cue)
  holds : List (Req × CueHold)
  banks : List (Req × Nat)
  deferred : List Deferred
deriving DecidableEq, Repr

/-- Waggle after reset: STOPPED, no cue defined; the odometer lines low (log entry 44). -/
def Wag.reset : Wag :=
  { run := false, v := 0, ctl := none, setv := none, stepped := false, spd := 0, vPrev := 0, vLast := 0, acc := [], good := [],
    failK := 0, a := false, b := false, n := 0, scale := 0x10000, judged := false, adv := 0, part := 480, corr := 0,
    fix := none, fixK := none, next := none, cues := [], holds := [], banks := [], deferred := [] }

/-! ### Clips and tones -/

/-- R358: a start that waits: the clip, its REPEAT, whether its head has arrived and the page of the head found bad. -/
structure ClipNext where
  clip : Nat
  rep : Nat
  head : Bool
  bad : Option Nat
deriving DecidableEq, Repr

/-- What a head is read for: the voice's own clip, the clip that follows a fade, or a queued one. -/
inductive HeadFor where
  | own | after | queue
deriving DecidableEq, Repr

/-- A linear fade to 0: the level it starts from, its length and its step. -/
structure Fade where
  from_ : Rat
  n : Nat
  i : Nat
deriving DecidableEq, Repr

/-- R356-R359: a player voice. `st` is CLIP_V_v_STAT.STATE and `code` its CODE; `go`: PRIMING will play; `pos` the fabric
samples presented of the clip; `got` the bytes of it read so far in playing order; `bad` the data page found bad; `held`
the sample that a fade holds, `last` the last one presented; `dry`: the ring has run empty; `fresh`: a start has been
applied in this period. -/
structure Voice where
  st : Nat
  clip : Nat
  rep : Nat
  go : Bool
  pos : Nat
  got : Nat
  bad : Option Nat
  fade : Option Fade
  held : Option Int
  last : Int
  dry : Bool
  fresh : Bool
  after : Option ClipNext
  queue : Option ClipNext
  code : Nat
deriving DecidableEq, Repr

/-- A voice that is IDLE. -/
def Voice.idle : Voice :=
  { st := 0, clip := 0, rep := 0, go := false, pos := 0, got := 0, bad := none, fade := none, held := none, last := 0,
    dry := false, fresh := false, after := none, queue := none, code := 0 }

/-- R360: a segment of a tone pattern, as its 16 bytes give it. -/
structure ToneSeg where
  f1 : Nat
  f2 : Nat
  level : Nat
  dur : Nat
  silent : Bool
  ramp : Nat
deriving DecidableEq, Repr

/-- R360: a tone pattern: its segments and REPEAT. -/
structure TonePat where
  segs : List ToneSeg
  rep : Nat
deriving DecidableEq, Repr

/-- R360, R361: a tone generator: whether it runs, its pattern, segment and the repeats left, the samples of the segment
that have passed, its two phases, a fade under way and the pattern with its REPEAT that follows the fade. -/
structure Tone where
  run : Bool
  pat : Nat
  seg : Nat
  left : Nat
  t : Nat
  ph1 : Word
  ph2 : Word
  fade : Option Fade
  next : Option (Nat × Nat)
deriving DecidableEq, Repr

/-- A generator that is not running. -/
def Tone.idle : Tone :=
  { run := false, pat := 0, seg := 0, left := 0, t := 0, ph1 := 0, ph2 := 0, fade := none, next := none }

/-- R81: a host command accepted that takes effect at step 3 of the next period. -/
inductive ClipOp where
  | start (v clip rep : Nat) (prime : Bool)
  | stop (v n : Nat)
  | tone (g pat rep : Nat)
deriving DecidableEq, Repr

/-- Chapter 13's players beside the CLIP page: voices and generators, the head reads under way in order (R356), and the
commands that wait for step 3. -/
structure Clips where
  voices : List Voice
  tones : List Tone
  heads : List (Nat × HeadFor)
  staged : List ClipOp
deriving DecidableEq, Repr

/-- The players after reset. -/
def Clips.reset : Clips :=
  { voices := List.replicate 64 Voice.idle, tones := List.replicate 64 Tone.idle, heads := [], staged := [] }

/-! ### Measurement -/

/-- R372: a pass: its sequence, the entry sampled next, whether the trigger found REF_OK = 0 (R369), and whether it stops
at the next entry boundary (R374, R379). -/
structure Pass where
  seq : Nat
  entry : Nat
  ns : Bool
  ending : Bool
deriving DecidableEq, Repr

/-- A converter beside its page: the pass that samples and the one suspended (R375), the sequences that wait for the
converter and the triggers held (R374), each with whether it found REF_OK = 0; the FIFO, oldest word first; and for each
gain the corrections of R370: offset, and gain at full scale, in LSB. -/
structure Madc where
  active : Option Pass
  susp : Option Pass
  waiting : List (Nat × Bool)
  held : List (Nat × Bool)
  fifo : List Word
  cal : List (Int × Int)
deriving DecidableEq, Repr

/-- A converter after reset. -/
def Madc.reset : Madc :=
  { active := none, susp := none, waiting := [], held := [], fifo := [], cal := [(0, 0), (0, 0), (0, 0), (0, 0)] }

/-- R385, R386: a supervised channel: the flag set that stands, if any; that of the last valid window and how often it has
come in succession; how many windows that judge IGND alone have differed from it in LEAK; and the Z in mOhm of the windows
a learning has taken. -/
structure Line where
  held : Option Nat
  flags : Nat
  run : Nat
  leakRun : Nat
  learned : List Nat
deriving DecidableEq, Repr

/-- R387: a self-test under way: whether it learns, its level, the zones still to come, and the zone under test with the
contributors its sink had with the sweep. -/
structure SelfTest where
  learn : Bool
  level : Nat
  todo : List Nat
  zone : Option (Nat × Nat)
deriving DecidableEq, Repr

/-- Line supervision beside its page: its channels, the crosspoints it made (R382) as source and sink, and the self-test. -/
structure Lsv where
  lines : List Line
  taps : List (Nat × Nat)
  test : Option SelfTest
deriving DecidableEq, Repr

/-- Line supervision after reset. -/
def Lsv.reset : Lsv := { lines := List.replicate 8 ⟨none, 0, 0, 0, []⟩, taps := [], test := none }

/-! ### The image and the flash -/

/-- What the running Bentan image defines that other blocks look up: the Queen core of zone level adaptation (R119), the
measurement taps it keeps for itself (R18), and its tone patterns (R360). -/
structure Image where
  zlaCore : Option Nat
  taps : List Nat
  tones : List TonePat
deriving DecidableEq, Repr

/-- An image that defines nothing. -/
def Image.empty : Image := { zlaCore := none, taps := [], tones := [] }

/-- A flash that holds nothing. -/
def blankFlash : FlashImage :=
  { hdr := [], slots := [⟨[], []⟩, ⟨[], []⟩], libs := [[], []], active := none, bbx := [], log := [], order := 0 }

/-! ### The Keeper -/

/-- R390: the OTP: fuses blown, the four key hashes, and the PROG and REVOKED bits. -/
structure Otp where
  fuses : Nat
  keys : List (List Byte)
  prog : Nat
  revoked : Nat
deriving DecidableEq, Repr

/-- R390: the OTP as manufacture leaves it: Varwa's key in slot 0. -/
def Otp.made : Otp :=
  { fuses := 0, keys := [Config.varwaKey, [], [], []], prog := 1, revoked := 0 }

/-- R399: an update session: its requester's code and UDP key (0xFF: none), its target, destination and SIZE, and the
bytes written. -/
structure Session where
  req : Req
  key : Nat
  target : Nat
  dest : Nat
  size : Nat
  data : List Byte
deriving DecidableEq, Repr

/-- R401: a verification under way: whether it ends a session (OP 0), its target and destination, REBOOT, the bytes the
session wrote, and who asked for it. -/
structure Verify where
  ends : Bool
  target : Nat
  dest : Nat
  reboot : Bool
  data : List Byte
  req : Req
deriving DecidableEq, Repr

/-- R404-R408: the black-box ring: its records by index, the next index and the next SEQ; whether a mirror pass is due. -/
structure Mram where
  ring : List (Nat × BbxRec)
  next : Nat
  seq : Nat
  mirDue : Bool
deriving DecidableEq, Repr

/-- An empty ring. -/
def Mram.empty : Mram := { ring := [], next := 0, seq := 1, mirDue := false }

/-- Chapter 15 beside its pages: the update session and verification, whether a device reset follows IMG_DONE (R401), the
owner slot being programmed with its hash (R391), the newest telemetry frame, the uptime of the last one logged and the frames that wait for the flash (R349), whether
HOT may not be raised again (R414), and the gain corrections of the speaker channels' sense in 0.0001 dB (R411). -/
structure Keeper where
  session : Option Session
  verify : Option Verify
  rebootDue : Bool
  otpOp : Option (Nat × List Byte)
  tlm : List Byte
  tlmAt : Option Nat
  logDue : List (List Byte)
  hot : Bool
  gains : List Int
deriving DecidableEq, Repr

/-- The Keeper after reset. -/
def Keeper.reset : Keeper :=
  { session := none, verify := none, rebootDue := false, otpOp := none, tlm := [], tlmAt := none, logDue := [], hot := false, gains := List.replicate 8 0 }

/-! ### Swarm -/

/-- R197: a frame that Swarm holds, on its way in (as the interface brings it, with its FCS) or out. -/
inductive HeldFrame where
  | rx (f : List Byte)
  | tx (f : Sent)
deriving DecidableEq, Repr

/-- R197: a frame held on a link, with its class (0-31 a stream entry, 32 PTP, 33 other); `delayed`: by a rule of its own,
rather than behind such a frame; `reorder`: until the next frame of its class. -/
structure SwmHeld where
  link : Nat
  tx : Bool
  cls : Nat
  delayed : Bool
  reorder : Bool
  frame : HeldFrame
deriving DecidableEq, Repr

/-- R417-R419 beside the SWM page: the challenge open with its key, the wrong responses, the uptime at which the unlock
time ends, each rule's place in its pattern, the frames held, oldest first, and the lines pulled (port, SDA, SCL). -/
structure Swarm where
  challenge : Option (Nat × BitVec 64)
  wrong : Nat
  until_ : Nat
  pos : List Nat
  held : List SwmHeld
  pulls : List (Nat × Bool × Bool)
deriving DecidableEq, Repr

/-- Swarm after reset. -/
def Swarm.reset : Swarm :=
  { challenge := none, wrong := 0, until_ := 0, pos := List.replicate 8 0, held := [], pulls := [] }

end Sys2Proof.Machine
end

