-- ==== Sys2Proof/Machine/State.lean ====
section
/-! DEFINITION. The state of the part, and the state right after reset. -/

namespace Sys2Proof.Machine

/-- No command of this block stops with a fault: what the manual calls a fault of a unit is state of that unit and an
event (R37), and an access that cannot be performed is recorded and answered (R26-R29). -/
inductive Fault
deriving DecidableEq, Repr

/-- Why a command has no outcome. -/
inductive Refusal where
  /-- Raised by the arm of a command that has no meaning in the model yet; safe, since nothing is claimed of it. -/
  | notModelled (mnemonic : String)
deriving DecidableEq, Repr

/-- The state of the part. `pending` is the queue of commands waiting, first in, first out. `regs` is the register file,
in canonical form: addresses rising, no entry equal to the register's reset value. `mem` is the bytes of the local
memories and frames, in the canonical form of `Memory.wf`; `bad` the addresses of the words that hold an uncorrectable
error (R413). `free` counts the free values drawn. `rdata` and `rcode` are
the word and status the last register access answered. -/
structure State where
  pending : List Instr
  regs : List (Nat × Word)
  snaps : List (Nat × List (Nat × Word))
  shadows : List (HoldKey × Nat × Word)
  holds : List (HoldKey × Nat × Word)
  mem : List Host.Cell
  free : Nat
  rdata : Word
  rcode : Code
  sys : Sys
  ports : Ports
  comb : Comb
  an : Analog
  clk : Clk
  grps : List Grp
  tdms : List TdmHid
  net : Net
  pdm : Pdm
  sct : Sct
  cores : List CoreHid
  dsp : Dsp
  bad : List Nat
  wag : Wag
  clip : Clips
  madc : List Madc
  lsv : Lsv
  flash : FlashImage
  img : Image
  bbxQueue : List BbxRec
  otp : Otp
  mram : Mram
  kpr : Keeper
  swarm : Swarm
deriving DecidableEq, Repr

/-- The machine right after a power-on reset: every register at its table's reset value (none is listed), POR recorded
as the cause (SYS_RST_CAUSE), the Keeper not yet booted (R395). -/
def State.reset : State where
  pending := []
  regs := [(0x050, 1)]
  snaps := []
  shadows := []
  holds := []
  mem := []
  free := 0
  rdata := 0
  rcode := .done
  sys := { held := false, service := false, recovery := false, mode := .run, entry := none, twa := 0, pwrFailN := true, wakeIn := false,
           uptimeSub := 0, resetPending := none, waking := none, retried := none, clockFail := 0, fails := 0,
           lockout := false, lowSeen := false, lastFail := 0, aonRecs := [], offWake := none,
           muting := [], opening := 96 }
  ports := {
    spi := { miso := [], mb := ⟨none, none⟩, srstNext := false }
    tw0 := { held := [], bytes := [], out := [], nack := false, mb := ⟨none, none⟩ }
    tw1 := { sda := true, scl := true, queue := [], active := none, retries := 0, waiting := false, clears := 0,
             clrFault := false, dirty := false, sent := [], by_ := [] }
    udp := { keys := [], nonce := 0, renew := none, queue := [], rate := [] }
    order := [] }
  comb := Comb.reset
  an := Analog.reset
  clk := Clk.reset
  grps := List.replicate 16 Grp.reset
  tdms := List.replicate 16 TdmHid.reset
  net := Net.reset
  pdm := Pdm.reset
  sct := Sct.reset
  cores := List.replicate 20 CoreHid.reset
  dsp := Dsp.reset
  bad := []
  wag := Wag.reset
  clip := Clips.reset
  madc := [Madc.reset, Madc.reset]
  lsv := Lsv.reset
  flash := blankFlash
  img := Image.empty
  bbxQueue := []
  otp := Otp.made
  mram := Mram.empty
  kpr := Keeper.reset
  swarm := Swarm.reset

end Sys2Proof.Machine
end

