-- ==== Sys2Proof/Machine/Ops.lean ====
section
/-! DEFINITION. The named operations on the state: registers and their fields, events and counters, the memories, the
black-box queue, refusals and accesses that are not performed. -/

namespace Sys2Proof.Machine

/-! ### The register file -/

/-- The listed value of an address. -/
def look : List (Nat × Word) → Nat → Option Word
  | [], _ => none
  | (b, w) :: t, a => if b = a then some w else look t a

/-- The list with address `a` set to `w`, or not listed; the addresses stay rising. -/
def place : List (Nat × Word) → Nat → Option Word → List (Nat × Word)
  | [], a, w => match w with
    | none => []
    | some x => [(a, x)]
  | (b, y) :: t, a, w =>
    if a < b then (match w with
      | none => (b, y) :: t
      | some x => (a, x) :: (b, y) :: t)
    else if a = b then (match w with
      | none => t
      | some x => (b, x) :: t)
    else (b, y) :: place t a w

/-- The stored value of the register at an address: the listed one, or the reset value. -/
def State.rd (s : State) (a : Nat) : Word := (look s.regs a).getD (regReset a)

/-- Store a register; a register at its reset value is not listed. -/
def State.wr (s : State) (a : Nat) (w : Word) : State :=
  { s with regs := place s.regs a (if w = regReset a then none else some w) }

/-- The value of a field of the page, entry or unit at `base` (R4). -/
def State.getF (s : State) (base : Nat) (f : Fld) : Nat := getField (s.rd (base + f.off)) f.hi f.lo

/-- Set a field of the page, entry or unit at `base`. -/
def State.setF (s : State) (base : Nat) (f : Fld) (v : Nat) : State :=
  s.wr (base + f.off) (setField (s.rd (base + f.off)) f.hi f.lo v)

/-- Whether a one-bit field is set. -/
def State.isSet (s : State) (base : Nat) (f : Fld) : Bool := s.getF base f != 0

/-- A field as a signed number. -/
def State.getS (s : State) (base : Nat) (f : Fld) : Int := signed (f.hi + 1 - f.lo) (s.getF base f)

/-- Set a field to a signed number. -/
def State.setS (s : State) (base : Nat) (f : Fld) (x : Int) : State := s.setF base f (unsigned (f.hi + 1 - f.lo) x)

/-- R32: a 16-bit counter counts once more, saturating at 0xFFFF. -/
def State.count (s : State) (a : Nat) : State :=
  s.wr a (if (s.rd a).toNat < 0xFFFF then s.rd a + 1 else s.rd a)

/-- Count `n` times. -/
def State.countN (s : State) (a n : Nat) : State := s.wr a (BitVec.ofNat 32 (min 0xFFFF ((s.rd a).toNat + n)))

/-- R41: the 64-bit quantity whose low half is at `lo`. -/
def State.get64 (s : State) (lo : Nat) : BitVec 64 := (s.rd (lo + 4)).append (s.rd lo)

/-- Set both halves of a 64-bit quantity. -/
def State.set64 (s : State) (lo : Nat) (v : BitVec 64) : State :=
  (s.wr lo (v.setWidth 32)).wr (lo + 4) ((v >>> 32).setWidth 32)

/-- A 64-bit counter counts once more. -/
def State.inc64 (s : State) (lo : Nat) : State := s.set64 lo (s.get64 lo + 1)

/-! ### Pages -/

/-- The page bases (R30). -/
def P.sys : Nat := 0x000000
@[inherit_doc P.sys] def P.pwr : Nat := 0x001000
@[inherit_doc P.sys] def P.clk : Nat := 0x002000
@[inherit_doc P.sys] def P.spi : Nat := 0x003000
@[inherit_doc P.sys] def P.tw (n : Nat) : Nat := 0x004000 + 0x1000 * n
@[inherit_doc P.sys] def P.kpr : Nat := 0x006000
@[inherit_doc P.sys] def P.bbx : Nat := 0x007000
@[inherit_doc P.sys] def P.nrs : Nat := 0x008000
@[inherit_doc P.sys] def P.swm : Nat := 0x009000
@[inherit_doc P.sys] def P.wag : Nat := 0x00A000
@[inherit_doc P.sys] def P.clip : Nat := 0x00B000
@[inherit_doc P.sys] def P.fls : Nat := 0x00C000
@[inherit_doc P.sys] def P.cmb : Nat := 0x010000
@[inherit_doc P.sys] def P.sink (s : Nat) : Nat := 0x030000 + 64 * s
@[inherit_doc P.sys] def P.asrc : Nat := 0x040000
@[inherit_doc P.sys] def P.tdm (n : Nat) : Nat := 0x041000 + 0x1000 * n
@[inherit_doc P.sys] def P.eth (n : Nat) : Nat := 0x051000 + 0x1000 * n
@[inherit_doc P.sys] def P.rx (j : Nat) : Nat := 0x055000 + 128 * j
@[inherit_doc P.sys] def P.tx (j : Nat) : Nat := 0x056000 + 128 * j
@[inherit_doc P.sys] def P.pdm : Nat := 0x057000
@[inherit_doc P.sys] def P.sct : Nat := 0x058000
@[inherit_doc P.sys] def P.ain : Nat := 0x059000
@[inherit_doc P.sys] def P.hs : Nat := 0x05A000
@[inherit_doc P.sys] def P.lo : Nat := 0x05B000
@[inherit_doc P.sys] def P.amp (n : Nat) : Nat := 0x05C000 + 0x1000 * n
@[inherit_doc P.sys] def P.bst (n : Nat) : Nat := 0x064000 + 0x1000 * n
@[inherit_doc P.sys] def P.madc (n : Nat) : Nat := 0x068000 + 0x1000 * n
@[inherit_doc P.sys] def P.lsv : Nat := 0x06A000
@[inherit_doc P.sys] def P.core (c : Nat) : Nat := if c < 16 then 0x070000 + 0x1000 * c else 0x080000 + 0x1000 * (c - 16)
@[inherit_doc P.sys] def P.frg : Nat := 0x084000
@[inherit_doc P.sys] def P.frm : Nat := 0x085000

/-- PG_STAT.STATE of a page (R33). -/
def State.st (s : State) (page : Nat) : Nat := s.getF page F.PG_STAT_STATE

/-- Set PG_STAT.STATE of a page. -/
def State.setSt (s : State) (page v : Nat) : State := s.setF page F.PG_STAT_STATE v

/-- PG_CTRL.EN of a page (R34). -/
def State.en (s : State) (page : Nat) : Bool := s.isSet page F.PG_CTRL_EN

/-- An event's condition sets its bit of EVT_RAW (R37). -/
def State.raise (s : State) (page b : Nat) : State := s.wr (page + 0x00C) (s.rd (page + 0x00C) ||| 1#32 <<< b)

/-- ERR_CNT of a page counts. -/
def State.err (s : State) (page : Nat) : State := s.count (page + 0x020)

/-- A 16-bit counter of a unit at `base`, named by its COUNT field, counts. -/
def State.bump (s : State) (base : Nat) (f : Fld) : State := s.count (base + f.off)

/-! ### Units -/

/-- Change the SPI port. -/
def State.onSpi (s : State) (f : SpiPort → SpiPort) : State := { s with ports := { s.ports with spi := f s.ports.spi } }
/-- Change TW0. -/
def State.onTw0 (s : State) (f : Tw0Port → Tw0Port) : State := { s with ports := { s.ports with tw0 := f s.ports.tw0 } }
/-- Change TW1. -/
def State.onTw1 (s : State) (f : Tw1Port → Tw1Port) : State := { s with ports := { s.ports with tw1 := f s.ports.tw1 } }
/-- Change UDP Plosto. -/
def State.onUdp (s : State) (f : UdpPort → UdpPort) : State := { s with ports := { s.ports with udp := f s.ports.udp } }
/-- Change the Comb. -/
def State.onComb (s : State) (f : Comb → Comb) : State := { s with comb := f s.comb }
/-- Change the analogue blocks. -/
def State.onAn (s : State) (f : Analog → Analog) : State := { s with an := f s.an }
/-- Change what speaker channel `n` holds beside its page. -/
def State.onAmp (s : State) (n : Nat) (f : AmpHid → AmpHid) : State := s.onAn fun a => { a with amps := modifyAt f n a.amps }
/-- Change what boost `p` holds beside its page. -/
def State.onBst (s : State) (p : Nat) (f : BstHid → BstHid) : State := s.onAn fun a => { a with bsts := modifyAt f p a.bsts }
/-- What speaker channel `n` holds beside its page. -/
def State.amp (s : State) (n : Nat) : AmpHid := s.an.amps.getD n AmpHid.reset
/-- What boost `p` holds beside its page. -/
def State.bst (s : State) (p : Nat) : BstHid := s.an.bsts.getD p BstHid.reset
/-- Change what line output `n` holds beside its page. -/
def State.onLo (s : State) (n : Nat) (f : LoHid → LoHid) : State := s.onAn fun a => { a with los := modifyAt f n a.los }
/-- Change what headset `n` holds beside its page. -/
def State.onHs (s : State) (n : Nat) (f : HsHid → HsHid) : State := s.onAn fun a => { a with hss := modifyAt f n a.hss }
/-- What line output `n` holds beside its page. -/
def State.loh (s : State) (n : Nat) : LoHid := s.an.los.getD n LoHid.reset
/-- What headset `n` holds beside its page. -/
def State.hsh (s : State) (n : Nat) : HsHid := s.an.hss.getD n (HsHid.reset n)
/-- Change the clocks. -/
def State.onClk (s : State) (f : Clk → Clk) : State := { s with clk := f s.clk }
/-- R106: the fabric clock is stopped, so the CMB is STOPPED. -/
def State.stopped (s : State) : Bool := s.clk.halt.isSome
/-- Change rate group `g`. -/
def State.onGrp (s : State) (g : Nat) (f : Grp → Grp) : State := { s with grps := modifyAt f g s.grps }
/-- Change what TDM port `n` holds. -/
def State.onTdm (s : State) (n : Nat) (f : TdmHid → TdmHid) : State := { s with tdms := modifyAt f n s.tdms }
/-- What rate group `g` and TDM port `n` hold. -/
def State.grp (s : State) (g : Nat) : Grp := s.grps.getD g Grp.reset
@[inherit_doc State.grp] def State.tdm (s : State) (n : Nat) : TdmHid := s.tdms.getD n TdmHid.reset
/-- Change the network. -/
def State.onNet (s : State) (f : Net → Net) : State := { s with net := f s.net }
/-- Change what link `n` holds beside its page. -/
def State.onLink (s : State) (n : Nat) (f : Link → Link) : State := s.onNet fun t => { t with links := modifyAt f n t.links }
/-- What link `n` holds beside its page. -/
def State.link (s : State) (n : Nat) : Link := s.net.links.getD n Link.reset
/-- Change what receive stream `j` holds beside its entry. -/
def State.onRx (s : State) (j : Nat) (f : RxHid → RxHid) : State := s.onNet fun t => { t with rx := modifyAt f j t.rx }
/-- What receive stream `j` holds beside its entry. -/
def State.rx (s : State) (j : Nat) : RxHid := s.net.rx.getD j RxHid.reset
/-- R191, R193: a receive stream that fades in at its next instant received. -/
def RxHid.afresh (x : RxHid) : RxHid := { x with base := [], gap := 0, xfade := 0, started := false }
/-- Change what transmit stream `j` holds beside its entry. -/
def State.onTx (s : State) (j : Nat) (f : TxHid → TxHid) : State := s.onNet fun t => { t with tx := modifyAt f j t.tx }
/-- What transmit stream `j` holds beside its entry. -/
def State.tx (s : State) (j : Nat) : TxHid := s.net.tx.getD j TxHid.reset
/-- Change the microphone front end. -/
def State.onPdm (s : State) (f : Pdm → Pdm) : State := { s with pdm := f s.pdm }
/-- Change the Scout. -/
def State.onSct (s : State) (f : Sct → Sct) : State := { s with sct := f s.sct }
/-- Change a slot of the Scout. -/
def State.onSlot (s : State) (k : Nat) (f : Slot → Slot) : State := s.onSct fun x => { x with slots := modifyAt f k x.slots }
/-- What slot `k` holds. -/
def State.slot (s : State) (k : Nat) : Slot := s.sct.slots.getD k Slot.reset
/-- Change what core `c` holds beside its page: 0-15 are the Workers, 16-19 the Queens. -/
def State.onCore (s : State) (c : Nat) (f : CoreHid → CoreHid) : State := { s with cores := modifyAt f c s.cores }
/-- What core `c` holds beside its page. -/
def State.core (s : State) (c : Nat) : CoreHid := s.cores.getD c CoreHid.reset
/-- Change the block exchange. -/
def State.onDsp (s : State) (f : Dsp → Dsp) : State := { s with dsp := f s.dsp }
/-- Change Waggle. -/
def State.onWag (s : State) (f : Wag → Wag) : State := { s with wag := f s.wag }
/-- Change the clip players. -/
def State.onClip (s : State) (f : Clips → Clips) : State := { s with clip := f s.clip }
/-- Change a voice. -/
def State.onVoice (s : State) (v : Nat) (f : Voice → Voice) : State := s.onClip fun c => { c with voices := modifyAt f v c.voices }
/-- A voice. -/
def State.voice (s : State) (v : Nat) : Voice := s.clip.voices.getD v Voice.idle
/-- Change a tone generator. -/
def State.onTone (s : State) (g : Nat) (f : Tone → Tone) : State := s.onClip fun c => { c with tones := modifyAt f g c.tones }
/-- A tone generator. -/
def State.tone (s : State) (g : Nat) : Tone := s.clip.tones.getD g Tone.idle
/-- Change what converter `n` holds beside its page. -/
def State.onMadc (s : State) (n : Nat) (f : Madc → Madc) : State := { s with madc := modifyAt f n s.madc }
/-- What converter `n` holds beside its page. -/
def State.conv (s : State) (n : Nat) : Madc := s.madc.getD n Madc.reset
/-- Change line supervision. -/
def State.onLsv (s : State) (f : Lsv → Lsv) : State := { s with lsv := f s.lsv }
/-- Change the black-box ring. -/
def State.onMram (s : State) (f : Mram → Mram) : State := { s with mram := f s.mram }
/-- Change the Keeper. -/
def State.onKpr (s : State) (f : Keeper → Keeper) : State := { s with kpr := f s.kpr }
/-- Change Swarm. -/
def State.onSwm (s : State) (f : Swarm → Swarm) : State := { s with swarm := f s.swarm }
/-- Change reset, power and pins. -/
def State.onSys (s : State) (f : Sys → Sys) : State := { s with sys := f s.sys }

/-! ### Power domains -/

/-- The two bits of a domain in PWR_DOM: 0 off, 1 retention, 2 on (R21, PWR_DOM). -/
def Dom.lo : Dom → Nat
  | .aon => 0 | .listen => 2 | .keeper => 4 | .core => 6 | .analog => 8 | .power => 10

/-- Whether a domain is powered and its registers can be reached: on, or on with gated clocks (PWR_DOM). -/
def State.domOn (s : State) (d : Dom) : Bool := decide (2 ≤ getField (s.rd 0x001058) (d.lo + 1) d.lo)

/-- Set a domain's condition. -/
def State.setDom (s : State) (d : Dom) (v : Nat) : State := s.wr 0x001058 (setField (s.rd 0x001058) (d.lo + 1) d.lo v)

/-! ### Memory -/

/-- The byte at an address; a byte nothing has written reads 0 (log entry 3). -/
def byteAt : List Host.Cell → Nat → Byte
  | [], _ => 0
  | (b, v) :: t, a => if b = a then v else byteAt t a

/-- The cells with one byte stored; the addresses stay rising and no cell holds 0. -/
def putByte : List Host.Cell → Nat → Byte → List Host.Cell
  | [], a, v => if v = 0 then [] else [(a, v)]
  | (b, y) :: t, a, v =>
    if a < b then (if v = 0 then (b, y) :: t else (a, v) :: (b, y) :: t)
    else if a = b then (if v = 0 then t else (b, v) :: t)
    else (b, y) :: putByte t a v

/-- Store bytes at rising addresses. -/
def putBytes : List Host.Cell → Nat → List Byte → List Host.Cell
  | m, _, [] => m
  | m, a, v :: vs => putBytes (putByte m a v) (a + 1) vs

/-- The word at an address, little-endian (R4). -/
def wordAt (m : List Host.Cell) (a : Nat) : Word :=
  BitVec.ofNat 32 (leNat [byteAt m a, byteAt m (a + 1), byteAt m (a + 2), byteAt m (a + 3)])

/-- Memory is in canonical form: addresses strictly rising from `lo`, no listed byte equal to what an unlisted one reads. -/
def Memory.wfFrom : Nat → List Host.Cell → Bool
  | _, [] => true
  | lo, (a, v) :: t => decide (lo ≤ a) && v != 0 && Memory.wfFrom (a + 1) t

/-- The canonical form of a memory. -/
def Memory.wf (m : List Host.Cell) : Bool := Memory.wfFrom 0 m

/-- Store a word; a word written whole holds no error. -/
def State.storeWord (s : State) (a : Nat) (w : Word) : State :=
  { s with mem := putBytes s.mem a (wordBytes w), bad := s.bad.filter fun b => b != a }

/-- Every byte of `[lo, hi)` set to 0. -/
def State.zeroMem (s : State) (lo hi : Nat) : State :=
  { s with mem := s.mem.filter fun c => decide (c.1 < lo ∨ hi ≤ c.1), bad := s.bad.filter fun b => decide (b < lo ∨ hi ≤ b) }

/-! ### Free values -/

/-- The next free value: a word nothing in the model determines. -/
def State.draw (s : State) : Word × State := (Config.freeWord s.free, { s with free := s.free + 1 })

/-! ### The black box -/

/-- R404: the WQ byte: WAG_CFG.SRC, WAG_STAT.QUAL and whether WAG runs. -/
def wqByte (s : State) : Byte :=
  BitVec.ofNat 8 (s.getF P.wag F.WAG_CFG_SRC + 16 * (s.getF P.wag F.WAG_STAT_QUAL % 4) +
    (if s.st P.wag = 3 then 128 else 0))

/-- R417: whether Swarm is unlocked. -/
def State.swarmOn (s : State) : Bool := s.isSet P.swm F.SWM_STAT_UNLOCKED

/-- A record for a cause arising now (R404). -/
def mkRec (s : State) (code sev src unit : Nat) (payload : List Byte) (forced : Bool) : BbxRec :=
  { seq := 0, st := .valid, sev := sev, swarm := s.swarmOn, forced := forced, uptime := s.get64 0x006068,
    waggle := s.get64 0x00A04C, wq := wqByte s, unit := unit, code := code, src := src, payload := payload, crc := 0 }

/-- R406: the queue with the newest record of lower severity replaced; `none` when there is none. -/
def replaceLower (r : BbxRec) : List BbxRec → Option (List BbxRec)
  | [] => none
  | x :: t => match replaceLower r t with
    | some t' => some (x :: t')
    | none => if x.sev < r.sev then some (r :: t) else none

/-- R406: queue a record; a full queue of 64 gives up its newest record of lower severity, or drops the new one. -/
def State.queueRec (s : State) (r : BbxRec) : State :=
  if s.bbxQueue.length < 64 then { s with bbxQueue := s.bbxQueue ++ [r] }
  else
    let s := (s.bump P.bbx F.BBX_DROP_CNT_COUNT).err P.bbx
    match replaceLower r s.bbxQueue with
    | some q => { s with bbxQueue := q }
    | none => s

/-- A cause queues a black-box record: code and severity of R410, block type code, unit and payload (R404). -/
def State.log (s : State) (code sev src unit : Nat) (payload : List Byte) : State :=
  s.queueRec (mkRec s code sev src unit payload false)

/-! ### Refusals and accesses not performed -/

/-- R47: a refused command is recorded in REFUSE and REFUSE_SRC of a page. -/
def State.refuse (s : State) (page cmd : Nat) (r : Req) (a : Nat) (c : Code) : State :=
  let n := getField (s.rd (page + 0x01C)) 31 16
  (s.wr (page + 0x01C) (BitVec.ofNat 32 ((if n < 0xFFFF then n + 1 else n) * 0x10000 + cmd % 256 * 0x100 + c.num))).wr
    (page + 0x028) (BitVec.ofNat 32 (r.code * 0x1000000 + a % 0x1000000))

/-- Why an access is not performed (SYS_BADADDR.REASON). -/
inductive BadReason where
  | unmapped | power | sealed | misaligned
deriving DecidableEq, Repr

/-- SYS_BADADDR.REASON of a reason. -/
def BadReason.num : BadReason → Nat
  | .unmapped => 0 | .power => 1 | .sealed => 2 | .misaligned => 3

/-- The status of an access not performed (R28, R29, R53). -/
def BadReason.code : BadReason → Code
  | .unmapped => .range | .power => .power | .sealed => .sealed | .misaligned => .range

/-- R26, R28, R29, R225: an access that is not performed is recorded. -/
def State.badAccess (s : State) (wr : Bool) (why : BadReason) (r : Req) (a : Nat) : State :=
  let s := s.wr 0x000080 (BitVec.ofNat 32 (b2n wr * 0x80000000 + why.num * 0x10000000 + r.code * 0x1000000 + a % 0x1000000))
  let s := (s.err P.sys).raise P.sys 0
  if why = .sealed then (s.bump P.sct F.SCT_SEALED_CNT_COUNT).err P.sct else s

/-- R287: the bytes of a core's local memory that exist: program memory, then data memory. -/
def localSize (c : Nat) : Nat := if c < 16 then 0x20000 else 0x80000

/-! ### The Propolis seal -/

/-- R214: the microphones SCT_MIC names, in order. -/
def scoutMics (s : State) : List Nat :=
  (List.range 4).filterMap fun i =>
    let b := getField (s.rd 0x058044) (8 * i + 7) (8 * i)
    if 128 ≤ b then some (b % 32) else none

/-- R224: the ring length in samples. -/
def ringLen (s : State) : Nat := if (scoutMics s).length ≤ 2 then 65536 else 32768

/-- R226: a sample position of a ring lies in the open region. -/
def inRegion (s : State) (i : Nat) : Bool :=
  let l := ringLen s
  decide ((i + l - s.getF P.sct F.SCT_OPEN_BEGIN_VALUE % l) % l < s.getF P.sct F.SCT_OPEN_LEN_VALUE)

/-- R226: whether the low and the high sample of the word at an offset of FRM31 can be read. -/
def openHalves (s : State) (off : Nat) : Bool × Bool :=
  let l := ringLen s
  let m := off / (2 * l)
  let i := off % (2 * l) / 2
  if s.isSet P.sct F.SCT_STAT_OPEN && decide (m < (scoutMics s).length) then (inRegion s i, inRegion s (i + 1)) else (false, false)

/-- Whether a read is not performed, and why (R26, R28, R29, R226). -/
def accessBad (s : State) (a : Nat) : Option BadReason :=
  if a % 4 ≠ 0 then some .misaligned
  else match domOf a with
    | none => some .unmapped
    | some d =>
      if !s.domOn d then some .power
      else match regionOf a with
        | .frame k off => if k = 31 ∧ openHalves s off = (false, false) then some .sealed else none
        | .local_ c off => if localSize c ≤ off then some .unmapped else none
        | _ => none

/-- Whether a write is not performed, and why: FRM31 is never written through the address space (R224). -/
def writeBad (s : State) (a : Nat) : Option BadReason :=
  match accessBad s a, regionOf a with
  | none, .frame k _ => if k = 31 then some .sealed else none
  | w, _ => w

/-- R36: whether a write to an address is refused with LOCKED: its owner's page is locked, and it is not a clear of
EVT_RAW or a write of ERR_CNT, EVT_FORCE or SNAP. -/
def lockedOut (s : State) (a : Nat) : Bool :=
  match ownerBase a with
  | none => false
  | some p => s.isSet p F.PG_CTRL_LOCK &&
      !(a == p + 0x00C || a == p + 0x020 || a == p + 0x018 || a == p + 0x024)

/-- R35: whether the owner of an address is in soft reset. -/
def resetting (s : State) (a : Nat) : Bool :=
  match ownerBase a with
  | none => false
  | some p => s.isSet p F.PG_CTRL_SRST


/-! ### Wake sources -/

/-- R426: the bit of PWR_WAKE_EN that enables a source, and whether the source wakes from a power state. -/
def wakeEnabled (s : State) (b : Nat) (m : PwrMode) : Bool :=
  bit (s.rd 0x00104C) b && (m == .sleep || (m == .deep && b ≤ 1))

/-- R426, R435, R443: a wake source, coded as PWR_STAT.LAST_SRC codes it, with the bit of PWR_WAKE_EN that enables it: it
meets an entry in progress, or starts a wake. `always`: a Scout detection meets a preparation whatever its target. -/
def State.wakeBy (s : State) (src b : Nat) (always : Bool) : State :=
  if s.sys.lockout then s
  else match s.sys.entry with
    | some e =>
      if e.source.isNone ∧ (wakeEnabled s b e.target ∨ always) then
        s.onSys fun y => { y with entry := some { e with source := some src } }
      else s
    | none => if s.sys.waking.isNone ∧ wakeEnabled s b s.sys.mode then s.onSys fun y => { y with waking := some src } else s

end Sys2Proof.Machine
end

