-- ==== Sys2Proof/Machine/Outputs.lean ====
section
/-! DEFINITION. The Smoker: how the line outputs, headset ears and speaker channels start, stop, mute and unmute, and how
the boosts follow their channels (R238, R243, R247-R249, R261-R278). -/

namespace Sys2Proof.Machine

/-! ### Causes of a mute -/

/-- REASON and MUTE bit 0: the host. -/
def muteHost : Nat := 0
/-- REASON and MUTE bit 1: Idle. -/
def muteIdle : Nat := 1
/-- REASON and MUTE bit 2: PWRFAIL_N. -/
def mutePwr : Nat := 2
/-- REASON bit 3: the page is disabled; on HS, no plug. -/
def muteOff : Nat := 3

/-- A four-bit set of causes with one added. -/
def addCause (m b : Nat) : Nat := m ||| 2 ^ b

/-- A four-bit set of causes with one removed. -/
def dropCause (m b : Nat) : Nat := if m / 2 ^ b % 2 = 1 then m - 2 ^ b else m

/-! ### Linear ramps -/

/-- A linear ramp to a value over `n` fabric periods, from the present one. -/
def Fader.to (f : Fader) (v : Rat) (n : Nat) : Fader := if n = 0 then Fader.at v else { f with goal := v, left := n }

/-- One fabric period of a ramp. -/
def Fader.step (f : Fader) : Fader :=
  if f.left ≤ 1 then Fader.at f.goal else { f with cur := f.cur + (f.goal - f.cur) / (f.left : Rat), left := f.left - 1 }

/-- R238, R247, R267, R278: the fall of a signal gain in a stop: 240 periods (5 ms) from full gain, less from a lower one. -/
def Fader.stop (f : Fader) : Fader := f.to 0 (240 * f.cur).ceil.toNat

/-! ### Analogue inputs -/

/-- The base of input `n`. -/
def ainBase (n : Nat) : Nat := P.ain + 0x10 * n

/-- AIN_n_STAT.STATE: 0 OFF, 1 SETTLING, 2 OK, 3 CLIP, 4 OPEN, 5 SHORT. -/
def ainSt (s : State) (n : Nat) : Nat := s.getF (ainBase n) F.AIN_STAT_STATE

/-- Set AIN_n_STAT.STATE. -/
def setAin (s : State) (n v : Nat) : State := s.setF (ainBase n) F.AIN_STAT_STATE v

/-- Start a ramp that ends after `n` fabric periods. -/
def State.startRamp (s : State) (k : Ramp) (n : Nat) : State := s.onAn fun a => { a with ramps := alSet a.ramps k n }

/-- Abandon a ramp. -/
def State.stopRamp (s : State) (k : Ramp) : State := s.onAn fun a => { a with ramps := alDel a.ramps k }

/-- 48 fabric periods last 1 ms (R5). -/
def periods (ms : Nat) : Nat := 48 * ms

/-- R234: the bias of input `n` goes to a voltage over `ms`. -/
def biasTo (s : State) (n : Nat) (v : Rat) (ms : Nat) : State :=
  s.onAn fun a => { a with bias := modifyAt (fun f => f.to v (periods ms)) n a.bias }

/-- R234: the voltage AIN_n_CFG.BIAS asks for. -/
def biasVolts (s : State) (n : Nat) : Rat := 2 + (s.getF (ainBase n) F.AIN_CFG_BIAS : Rat) / 10

/-- R234, R250: the bias regulator of input `n` starts its 10 ms ramp, while AVBIAS is in range, or is switched off: no bias, no
current. -/
def ainBias (s : State) (n : Nat) (on : Bool) : State :=
  let s := s.stopRamp (.ainBias n)
  if on && s.an.avbias then
    biasTo (s.onAn fun a => { a with biasOn := n :: a.biasOn.filter (· != n) }) n (biasVolts s n) 10
  else
    (biasTo (s.onAn fun a => { a with biasOn := a.biasOn.filter (· != n) }) n 0 0).setF (ainBase n) F.AIN_STAT_IBIAS 0

/-- R236, R247, R248: input `n` stops: the source fades out over 5 ms and then the bias ramps down over 10 ms; at a power failure the
bias ramps down at once, over 8 ms. The end is AIN_OFF. In SHORT there is nothing to ramp: a retry is abandoned, and the input is
OFF. -/
def ainStopping (s : State) (n : Nat) : State :=
  if ainSt s n = 0 then s
  else if ainSt s n = 5 then setAin (ainBias s n false) n 0
  else
    let s := (s.stopRamp (.ainBias n)).onAn fun a => { a with ainStop := n :: a.ainStop.filter (· != n) }
    if s.sys.pwrFailN ∧ s.sys.resetPending = none then s.startRamp (.ainBias n) (periods 5) else biasTo s n 0 8

/-- Whether input `n` is enabled and not stopping. -/
def ainLive (s : State) (n : Nat) : Bool := ainSt s n != 0 && !s.an.ainStop.contains n

/-! ### Line outputs -/

/-- The base of line output `n`. -/
def loBase (n : Nat) : Nat := P.lo + 0x10 * n

/-- LO_n_STAT.STATE. -/
def loSt (s : State) (n : Nat) : Nat := s.getF (loBase n) F.LO_STAT_STATE

/-- Set LO_n_STAT.STATE. -/
def setLo (s : State) (n v : Nat) : State := s.setF (loBase n) F.LO_STAT_STATE v

/-- The causes of line output `n`'s mute. -/
def loReason (s : State) (n : Nat) : Nat := s.getF (loBase n) F.LO_STAT_REASON

/-- R251: PG_STAT.FAULT is 1 while any channel is in FAULT. -/
def loFault (s : State) : State := s.setF P.lo F.PG_STAT_FAULT (b2n ((List.range 8).any fun n => loSt s n == 6))

/-- R238: a cause mutes line output `n`: the signal ramps to mute over 5 ms. -/
def loMute (s : State) (n b : Nat) : State :=
  let s := s.setF (loBase n) F.LO_STAT_REASON (addCause (loReason s n) b)
  let going := (alGet s.an.ramps (.loUnmute n)).isSome
  let s := s.stopRamp (.loUnmute n)
  if loSt s n = 2 ∨ (going ∧ loSt s n = 4) then setLo (s.onLo n fun h => { h with gain := h.gain.to 0 (periods 5) }) n 3
  else s.onLo n fun h => { h with gain := if loSt s n = 1 then h.gain.to 0 (periods 5) else h.gain }

/-- R238: a cause of line output `n`'s mute ends; when the last has ended the signal ramps back over 5 ms. -/
def loUnmute (s : State) (n b : Nat) : State :=
  let had := loReason s n
  let s := s.setF (loBase n) F.LO_STAT_REASON (dropCause had b)
  if had ≠ 0 ∧ loReason s n = 0 ∧ (loSt s n = 3 ∨ loSt s n = 4) then
    (s.onLo n fun h => { h with gain := h.gain.to 1 (periods 5) }).startRamp (.loUnmute n) (periods 5)
  else s

/-- R238, R247, R452, R466: line output `n` starts from 0 V, unless PWRFAIL_N is low or the fabric clock is stopped: it then starts
when that has ended. -/
def loBegin (s : State) (n : Nat) : State :=
  if s.sys.pwrFailN then
    (if s.stopped then s else (setLo s n 1).onLo n fun h => { h with cm := 0, gain := Fader.at 0, fast := false })
  else s.setF (loBase n) F.LO_STAT_REASON (addCause (loReason s n) mutePwr)

/-- R238: the stage of line output `n` is on. -/
def loOn (s : State) (n : Nat) : Bool := decide (1 ≤ loSt s n ∧ loSt s n ≤ 4)

/-- R238, R247: line output `n` stops: the signal ramps to mute, then the common mode to 0 V. -/
def loStop (s : State) (n : Nat) : State :=
  if loOn s n then setLo ((s.stopRamp (.loUnmute n)).onLo n fun h => { h with gain := h.gain.stop }) n 5 else s

/-- R34, R238: the page of line output `n` is disabled: it stops, muted by DISABLE. -/
def loDisable (s : State) (n : Nat) : State :=
  if loOn s n then loStop (s.setF (loBase n) F.LO_STAT_REASON (addCause (loReason s n) muteOff)) n else s

/-- R239: the stage of line output `n` is off, at once. -/
def loDark (s : State) (n : Nat) : State := (s.stopRamp (.loUnmute n)).onLo n fun h => { h with cm := 0, gain := Fader.at 0 }

/-! ### Headsets -/

/-- The base of headset `n`. -/
def hsBase (n : Nat) : Nat := P.hs + 0x20 * n

/-- HS_n_JACK.STATE. -/
def hsSt (s : State) (n : Nat) : Nat := s.getF (hsBase n) F.HS_JACK_STATE

/-- Set HS_n_JACK.STATE. -/
def setHs (s : State) (n v : Nat) : State := s.setF (hsBase n) F.HS_JACK_STATE v

/-- HS_n_STAT.OUT. -/
def earSt (s : State) (n : Nat) : Nat := s.getF (hsBase n) F.HS_STAT_OUT

/-- Set HS_n_STAT.OUT. -/
def setEar (s : State) (n v : Nat) : State := s.setF (hsBase n) F.HS_STAT_OUT v

/-- The causes of headset `n`'s mute. -/
def hsReason (s : State) (n : Nat) : Nat := s.getF (hsBase n) F.HS_STAT_REASON

/-- R252: PG_STAT.FAULT is 1 while any headset is in FAULT. -/
def hsFault (s : State) : State := s.setF P.hs F.PG_STAT_FAULT (b2n ((List.range 4).any fun n => hsSt s n == 5))

/-- R246: whether side-tone into headset `n` sounds: enabled, its ears sounding, and the microphone of SRC live (READY,
class HEADSET, no button). -/
def stSounds (s : State) (n : Nat) : Bool :=
  let src := s.getF (hsBase n) F.HS_ST_SRC
  s.isSet (hsBase n) F.HS_ST_EN && hsSt s n == 4 && (earSt s n == 2 || earSt s n == 3) && hsSt s src == 4 &&
    s.getF (hsBase src) F.HS_JACK_CLASS == 2 && s.isSet (hsBase src) F.HS_STAT_MICLIVE

/-- R246: the side-tone of every headset follows its conditions. -/
def sideTones (s : State) : State :=
  forEach (List.range 4) (fun n s => s.setF (hsBase n) F.HS_STAT_ST_ACTIVE (b2n (stSounds s n))) s

/-- R243: the ears of headset `n` ramp from mute over `ms`, in READY with no cause of a mute. -/
def earsUp (s : State) (n ms : Nat) : State :=
  if hsSt s n = 4 ∧ hsReason s n = 0 ∧ !s.stopped then
    let s := (setEar (s.stopRamp (.earMute n)) n 2).startRamp (.earUp n) (periods ms)
    sideTones (s.onHs n fun h => { h with ear := h.ear.to 1 (periods ms) })
  else s

/-- R243, R248, R249: a cause mutes headset `n`'s ears over `ms`. -/
def earsMute (s : State) (n b ms : Nat) : State :=
  let s := s.setF (hsBase n) F.HS_STAT_REASON (addCause (hsReason s n) b)
  let s := s.stopRamp (.earUp n)
  sideTones (if earSt s n = 2 ∨ earSt s n = 3 then
    ((setEar s n 4).startRamp (.earMute n) (periods ms)).onHs n fun h => { h with ear := h.ear.to 0 (periods ms) } else s)

/-- R243, R249: a cause of headset `n`'s mute ends. -/
def earsUnmute (s : State) (n b ms : Nat) : State :=
  let had := hsReason s n
  let s := s.setF (hsBase n) F.HS_STAT_REASON (dropCause had b)
  if had ≠ 0 ∧ hsReason s n = 0 then earsUp s n ms else s

/-- R240, R241: whether HSn_DET shows a plug, by HS_n_CFG.DETPOL. -/
def plugged (s : State) (n : Nat) : Bool := s.an.det.getD n true == s.isSet (hsBase n) F.HS_CFG_DETPOL

/-- R241: headset `n` leaves OFF, or is looked at afresh: EMPTY or DEBOUNCE, as HSn_DET shows; the ears are held at 0 V. -/
def hsBegin (s : State) (n : Nat) : State :=
  let s := ((s.stopRamp (.earMute n)).stopRamp (.earOff n)).onHs n fun h => { h with ear := Fader.at 0 }
  let s := hsFault (setHs s n (if plugged s n then 2 else 1))
  setEar (s.setF (hsBase n) F.HS_STAT_REASON (addCause (hsReason s n) muteOff)) n 1

/-- R243, R252: the microphone, its bias and its buttons stop. -/
def micOff (s : State) (n : Nat) : State :=
  (s.setF (hsBase n) F.HS_STAT_MICLIVE 0).setF (hsBase n) F.HS_JACK_BTN 0

/-- R252: EN = 0: the ears ramp to mute, the bias turns off, the headset enters OFF. -/
def hsStop (s : State) (n : Nat) : State :=
  let sounding := earSt s n == 2 || earSt s n == 3 || earSt s n == 4
  let s := (micOff s n).setF (hsBase n) F.HS_JACK_CLASS 0
  let s := setHs (s.stopRamp (.earUp n)) n 0
  let s := if sounding then
      ((setEar s n 4).startRamp (.earOff n) (periods 5)).onHs n fun h => { h with ear := h.ear.to 0 (periods 5) }
    else setEar s n 0
  sideTones (hsFault s)

/-! ### Speaker channels and boosts -/

/-- R266: whether a channel's bridge is on: RAMP_UP, PLAY, MUTING or MUTED. -/
def ampOn (s : State) (n : Nat) : Bool := decide (3 ≤ s.st (P.amp n) ∧ s.st (P.amp n) ≤ 6)

/-- R266: whether a channel's bridge is on or in a stop. -/
def ampLive (s : State) (n : Nat) : Bool := ampOn s n || s.st (P.amp n) == 7

/-- Whether a boost has its rail: PASS or BOOST. -/
def railUp (s : State) (p : Nat) : Bool := s.st (P.bst p) == 4 || s.st (P.bst p) == 5

/-- A channel counts as OFF while its page is disabled and while it is OFF. -/
def ampOff (s : State) (n : Nat) : Bool := decide (s.st (P.amp n) ≤ 2)

/-- R263, R284: both channels of a pair are OFF. -/
def pairOff (s : State) (p : Nat) : Bool := ampOff s (2 * p) && ampOff s (2 * p + 1)

/-- R264-R266, R273: why a channel cannot start, as AMP_n_STAT.BLOCK codes it: PVIN, BOOST or CLOCK; 0 if it can. The
lowest code is shown where several hold (log entry 20). -/
def ampCause (s : State) (n : Nat) : Nat :=
  let b := P.bst (n / 2)
  if !s.isSet b F.BST_PVIN_PV_OK then 1
  else if s.st b = 7 then 2
  else if s.stopped then 3
  else 0

/-- R272: the retries of the last 60 s. -/
def retriesNow (s : State) (n : Nat) : List Nat :=
  (s.amp n).retries.filter fun t => decide ((s.get64 0x006068).toNat < t + 60000)

/-- R272: AMP_n_STAT.RETRIES follows the window. -/
def setRetries (s : State) (n : Nat) (l : List Nat) : State :=
  (s.onAmp n fun a => { a with retries := l }).setF (P.amp n) F.AMP_STAT_RETRIES (min 3 l.length)

/-- R261: the boost of a pair starts from OFF. -/
def boostBegin (s : State) (p : Nat) : State := if s.st (P.bst p) = 2 then s.setSt (P.bst p) 3 else s

/-- The boost of a pair is off, unless it is in FAULT. -/
def boostOff (s : State) (p : Nat) : State := if 3 ≤ s.st (P.bst p) ∧ s.st (P.bst p) ≤ 6 then s.setSt (P.bst p) 2 else s

/-- R261: the boost of a pair stops when both channels are OFF. -/
def boostEnd (s : State) (p : Nat) : State :=
  if pairOff s p then boostOff s p else s

/-- R267-R271: the gates of channel `n` are off: no signal, no common mode, the loop open. -/
def ampDark (s : State) (n : Nat) : State :=
  (s.stopRamp (.ampUnmute n)).onAmp n fun a =>
    { a with age := 0, cm := 0, gain := Fader.at 0, loop := AmpLoop.reset, senseOpen := false }

/-- The causes of a channel's mute. -/
def ampMutes (s : State) (n : Nat) : Nat := s.getF (P.amp n) F.AMP_STAT_MUTE

/-- A channel enters BLOCKED with its cause, and BLOCKED is raised. -/
def ampBlock (s : State) (n cause : Nat) : State :=
  ((s.setSt (P.amp n) 9).setF (P.amp n) F.AMP_STAT_BLOCK cause).raise (P.amp n) 7

/-- R266, R267, R272, R275, R452: a channel starts: it waits for PWRFAIL_N (OFF), or for its cause (BLOCKED), or enters
RAMP_UP with pavg 0 and its boost starts. A retry counts when it starts. A start that the host asks for while the die-to-die link
is lost goes ahead: R9 and R273 name the loss and the restarts of channels that were started, and no refusal or cause for this one
(DESIGN CHOICE, log entry 76). -/
def ampBegin (s : State) (n : Nat) : State :=
  let s := ampDark s n
  if !s.sys.pwrFailN then
    boostEnd ((s.setSt (P.amp n) 2).setF (P.amp n) F.AMP_STAT_MUTE (addCause (ampMutes s n) mutePwr)) (n / 2)
  else if ampCause s n ≠ 0 then ampBlock s n (ampCause s n)
  else
    let s := if (s.amp n).counting then setRetries s n ((s.get64 0x006068).toNat :: retriesNow s n) else s
    let s := s.onAmp n fun a => { a with counting := false, due := false, fast := false, after := .off, pavg := 0 }
    boostBegin (((s.setSt (P.amp n) 3).setF (P.amp n) F.AMP_STAT_BLOCK 0).setF (P.amp n) F.AMP_POWER_PAVG 0) (n / 2)

/-- A channel is OFF, or its page shows that it is disabled (R34); its boost may stop; AMP_n_CTRL.CLR and a mute by DISABLE have
ended. -/
def ampToOff (s : State) (n : Nat) : State :=
  let s := (ampDark s n).onAmp n fun a => { a with fast := false, after := .off, recover := false, counting := false, due := false }
  let s := s.setF (P.amp n) F.AMP_STAT_MUTE (dropCause (ampMutes s n) muteOff)
  boostEnd (((s.setSt (P.amp n) (if s.en (P.amp n) then 2 else 0)).setF (P.amp n) F.AMP_STAT_BLOCK 0).setF (P.amp n) F.AMP_CTRL_CLR 0) (n / 2)

/-- R267: the stop of a channel: RAMP_DOWN from a bridge that is on; RETRY and BLOCKED enter OFF at once, and the retry
window is kept (R272); a stop under way ends in OFF. LATCHED stays. -/
def ampStop (s : State) (n : Nat) : State :=
  if ampOn s n then ((s.stopRamp (.ampUnmute n)).onAmp n fun a => { a with gain := a.gain.stop }).setSt (P.amp n) 7
  else if s.st (P.amp n) = 8 ∨ s.st (P.amp n) = 9 then ampToOff s n
  else s

/-- R34, R266: the page of channel `n` is disabled: it stops, muted by DISABLE. -/
def ampDisable (s : State) (n : Nat) : State :=
  ampStop (if ampLive s n then s.setF (P.amp n) F.AMP_STAT_MUTE (addCause (ampMutes s n) muteOff) else s) n

/-- R268: a fast stop, and what follows it. -/
def ampFast (s : State) (n : Nat) (k : AmpAfter) : State :=
  (((s.stopRamp (.ampUnmute n)).setSt (P.amp n) 7).setF (P.amp n) F.AMP_STAT_BLOCK 0).onAmp n fun a =>
    { a with fast := true, after := k, gain := a.gain.to 0 (periods 1) }

/-- R267: a cause mutes a channel: its signal gain falls over 5 ms. -/
def ampMute (s : State) (n b : Nat) : State :=
  let s := s.setF (P.amp n) F.AMP_STAT_MUTE (addCause (ampMutes s n) b)
  let going := (alGet s.an.ramps (.ampUnmute n)).isSome
  let s := s.stopRamp (.ampUnmute n)
  if s.st (P.amp n) = 4 ∨ (going ∧ s.st (P.amp n) = 6) then
    (s.onAmp n fun a => { a with gain := a.gain.to 0 (periods 5) }).setSt (P.amp n) 5
  else if s.st (P.amp n) = 3 then s.onAmp n fun a => { a with gain := a.gain.to 0 (periods 5) }
  else s

/-- R267: a cause of a channel's mute ends; when the last has ended the gain ramps to 1 over 5 ms, then PLAY. -/
def ampUnmute (s : State) (n b : Nat) : State :=
  let had := ampMutes s n
  let s := s.setF (P.amp n) F.AMP_STAT_MUTE (dropCause had b)
  if had ≠ 0 ∧ ampMutes s n = 0 ∧ (s.st (P.amp n) = 5 ∨ s.st (P.amp n) = 6) then
    (s.onAmp n fun a => { a with gain := a.gain.to 1 (periods 5) }).startRamp (.ampUnmute n) (periods 5)
  else s

/-- R269: in Idle a channel that switches reports MUTED with reason IDLE; the idle pattern carries no signal. -/
def ampIdle (s : State) (n : Nat) : State :=
  let s := s.setF (P.amp n) F.AMP_STAT_MUTE (addCause (ampMutes s n) muteIdle)
  let s := s.stopRamp (.ampUnmute n)
  let s := s.onAmp n fun a => { a with gain := Fader.at 0 }
  if s.st (P.amp n) = 4 ∨ s.st (P.amp n) = 5 then (s.setSt (P.amp n) 6).raise (P.amp n) 1 else s

/-- R267, R283: PLAY is entered; RECOVER is raised if the start came from RETRY, BLOCKED or a clear from LATCHED. -/
def ampPlay (s : State) (n : Nat) : State :=
  let s := s.setSt (P.amp n) 4
  if (s.amp n).recover then (s.onAmp n fun a => { a with recover := false }).raise (P.amp n) 8 else s

/-- R265, R266, R273: a channel waiting in BLOCKED starts when its cause has ended; BLOCK shows the cause that stands. -/
def ampUnblock (s : State) (n : Nat) : State :=
  if s.st (P.amp n) ≠ 9 then s
  else if ampCause s n = 0 then ampBegin (s.onAmp n fun a => { a with recover := true }) n
  else s.setF (P.amp n) F.AMP_STAT_BLOCK (ampCause s n)

/-! ### All outputs -/

/-- The outputs started in Idle entry mute with reason IDLE (R238, R249, R269). -/
def State.idleMuteAll (s : State) : State :=
  let s := forEach (List.range 8) (fun n s => loMute s n muteIdle) s
  let s := forEach (List.range 4) (fun n s => earsMute s n muteIdle 5) s
  forEach (List.range 8) (fun n s => ampIdle s n) s

/-- R238, R249, R269: on the return from Idle the outputs unmute over 5 ms. -/
def State.idleUnmuteAll (s : State) : State :=
  let s := forEach (List.range 8) (fun n s => loUnmute s n muteIdle) s
  let s := forEach (List.range 4) (fun n s => earsUnmute s n muteIdle 5) s
  forEach (List.range 8) (fun n s => ampUnmute s n muteIdle) s

/-- R268, R278: the fast stop of channel `n` with mute reason PWRFAIL; whatever stop was under way, it ends in OFF. A channel in
BLOCKED is OFF; a retry waits in RETRY, and LATCHED stays (R272, R278; log entry 77). -/
def ampFastPwr (s : State) (n : Nat) : State :=
  let s := s.setF (P.amp n) F.AMP_STAT_MUTE (addCause (ampMutes s n) mutePwr)
  if ampLive s n then (if (s.amp n).fast then s.onAmp n fun a => { a with after := .off } else ampFast s n .off)
  else if s.st (P.amp n) = 9 then ampToOff s n
  else s

/-- R248: a line output's fast stop, with REASON PWRFAIL: the signal is mute at 1 ms, the common mode at 0 V at 9 ms. -/
def loFastPwr (s : State) (n : Nat) : State :=
  let s := loStop (s.setF (loBase n) F.LO_STAT_REASON (addCause (loReason s n) mutePwr)) n
  s.onLo n fun h => { h with gain := h.gain.to 0 (min h.gain.left (periods 1)), fast := true }

/-- R248: the ears mute over 1 ms; the charge pump is off at 9 ms. -/
def earsFastPwr (s : State) (n : Nat) : State :=
  let on := decide (1 ≤ earSt s n)
  let s := earsMute s n mutePwr 1
  if on then s.startRamp (.earOff n) (periods 9) else s

/-- R248, R268, R452: the fast stop of every output and input; the boosts are off at 5 ms. -/
def outputsFast (s : State) : State :=
  let s := forEach (List.range 8) (fun n s => ampFastPwr s n) s
  let s := forEach (List.range 8) (fun n s => loFastPwr s n) s
  let s := forEach (List.range 4) (fun n s => earsFastPwr s n) s
  let s := forEach (List.range 8) (fun n s => ainStopping s n) s
  forEach (List.range 4) (fun p s => s.startRamp (.boostOff p) (periods 5)) s

/-- R452: a device reset of the second kind is asked for, by its bit of SYS_RST_CAUSE: the outputs make their fast stops, and
it begins when the last is off. One already asked for stands. -/
def State.resetAsk (s : State) (cause : Nat) : State :=
  if s.sys.resetPending.isSome then s
  else outputsFast (s.onSys fun y => { y with resetPending := some cause })

/-- A ramp has ended. -/
def State.rampEnd (s : State) (k : Ramp) : State :=
  match k with
  | .loUnmute n => if loReason s n = 0 ∧ (loSt s n = 3 ∨ loSt s n = 4) then setLo s n 2 else s
  | .ampUnmute n => if ampMutes s n = 0 ∧ (s.st (P.amp n) = 5 ∨ s.st (P.amp n) = 6) then ampPlay s n else s
  | .earUp n => if earSt s n = 2 then setEar s n 3 else s
  | .earMute n => if earSt s n = 4 then setEar s n 1 else s
  | .earOff n => setEar s n 0
  | .hsGone n => if hsSt s n = 1 ∧ plugged s n then setHs s n 2 else s
  | .ainBias n => biasTo s n 0 10
  | .boostOff p => if s.sys.pwrFailN ∧ s.sys.resetPending = none then s else boostOff s p

/-- R238, R247, R248: one fabric period of a line output's ramps: in a start the common mode rises over 40 ms and the signal then
over 5 ms; in a stop the signal falls, and then the common mode, over 40 ms or, at a power failure, over 8 ms. -/
def LoHid.tick (h : LoHid) (st : Nat) (muted : Bool) : LoHid :=
  let h := { h with gain := h.gain.step }
  if st = 1 then
    (if h.cm < 1920 then { h with cm := h.cm + 1 }
     else if !muted && h.gain.goal == 0 then { h with gain := h.gain.to 1 240 } else h)
  else if st = 5 && h.gain.cur == 0 then { h with cm := h.cm - (if h.fast then 5 else 1) }
  else h

/-- R267, R268, R278: one fabric period of a channel's ramps: in a start, once the boost has its rail, the common mode rises over
20 ms, and from 22 ms the signal over 5 ms; in a stop the signal falls, and then the common mode, over 20 ms or, in a fast stop,
over 4 ms. -/
def AmpHid.tick (h : AmpHid) (st : Nat) (rail muted : Bool) : AmpHid :=
  let h := { h with gain := h.gain.step, calm := min 4800 (h.calm + 1) }
  if st = 3 && rail then
    let t := h.age + 1
    { h with age := t, cm := min 960 t, gain := if t == 1056 && !muted then h.gain.to 1 240 else h.gain }
  else if st = 7 && h.gain.cur == 0 then { h with cm := h.cm - (if h.fast then 5 else 1) }
  else h

/-- R5: one fabric period passes for every ramp; those that reach 0 end. -/
def State.rampTick (s : State) : State :=
  let done := s.an.ramps.filter fun r => decide (r.2 ≤ 1)
  let s := s.onAn fun a => { a with ramps := (a.ramps.filter fun r => decide (1 < r.2)).map fun r => (r.1, r.2 - 1) }
  let s := forEach (List.range 8) (fun n s => s.onLo n fun h => h.tick (loSt s n) (loReason s n != 0)) s
  let s := forEach (List.range 8) (fun n s => s.onAmp n fun h => h.tick (s.st (P.amp n)) (railUp s (n / 2)) (ampMutes s n != 0)) s
  let s := forEach (List.range 4) (fun n s => s.onHs n fun h => { h with ear := h.ear.step }) s
  let s := s.onAn fun a => { a with bias := a.bias.map Fader.step }
  forEach done (fun r s => s.rampEnd r.1) s

end Sys2Proof.Machine
end

