-- ==== Sys2Proof/Machine/Wake.lean ====
section
/-! DEFINITION. The return from Idle (R426, R439) and the condition a power state gives each domain (R21). -/

namespace Sys2Proof.Machine

/-- R21: the condition of a domain in a power state, as PWR_DOM codes it: 0 off, 1 retention, 2 on, 3 on with gated
clocks. -/
def domIn (m : PwrMode) (d : Dom) : Nat :=
  match m, d with
  | .run, _ => 2
  | .idle, .core => 3
  | .idle, _ => 2
  | .sleep, .aon => 2 | .sleep, .listen => 2 | .sleep, .keeper => 2 | .sleep, .core => 1 | .sleep, _ => 0
  | .deep, .aon => 2 | .deep, .keeper => 1 | .deep, .core => 1 | .deep, _ => 0
  | .off, .aon => 2 | .off, _ => 0

/-- The six domains. -/
def allDoms : List Dom := [.aon, .listen, .keeper, .core, .analog, .power]

/-- R21: put every domain in the condition of a power state. -/
def State.setDoms (s : State) (m : PwrMode) : State := forEach allDoms (fun d s => s.setDom d (domIn m d)) s

/-- R445: the code of a power state. -/
def PwrMode.code : PwrMode → Nat
  | .run => 0 | .idle => 1 | .sleep => 2 | .deep => 3 | .off => 4

/-- R433: a wake from a state entered automatically or by escalation is recorded and counted. -/
def State.autoWake (s : State) (m : PwrMode) (src : Nat) : State :=
  if s.getF P.pwr F.PWR_STAT_LAST_KIND = 1 ∨ s.getF P.pwr F.PWR_STAT_LAST_KIND = 3 then
    ((s.setF P.pwr F.PWR_AUTO_FROM m.code).setF P.pwr F.PWR_AUTO_SRC src).inc64 0x001064
  else s

/-- R106: CMB's state as the fabric clock and Idle set it: 2 RUNNING, 3 PAUSED, 4 STOPPED; shown while enabled. -/
def cmbShow (s : State) : State :=
  if s.en P.cmb then s.setSt P.cmb (if s.stopped then 4 else if s.sys.mode = .idle then 3 else 2) else s

/-- R426, R439: the return from Idle to Run, with its source as PWR_STAT.LAST_SRC codes it. The outputs unmute (R238,
R249, R269); the receive streams fade in (R193). -/
def State.idleExit (s : State) (src : Nat) : State :=
  let s := { s with sys := { s.sys with mode := .run } }
  let s := (s.setDoms .run).setSt P.pwr (if s.sys.entry.isSome then 4 else 2)
  let s := (s.setF P.pwr F.PWR_STAT_LAST_FROM 1).setF P.pwr F.PWR_STAT_LAST_SRC src
  let s := s.onNet fun t => { t with rx := t.rx.map RxHid.afresh }
  (cmbShow (s.autoWake .idle src)).idleUnmuteAll

/-- R426: a domain that Idle gates or mutes; an access to it returns the part to Run first. -/
def needsRun : Dom → Bool
  | .core => true | .analog => true | .power => true | _ => false

/-- R53, R82, R426: in Idle, an access to an address in CORE, ANALOG or POWER returns the part to Run. -/
def State.wakeFor (s : State) (a : Nat) : State :=
  match domOf a with
  | some d => if a % 4 = 0 ∧ s.sys.mode = .idle ∧ needsRun d then s.idleExit 6 else s
  | none => s

end Sys2Proof.Machine
end

