-- ==== Sys2Proof/Machine/Access.lean ====
section
/-! DEFINITION. How a write of a register is served: not performed, refused, or done (R26-R29, R32, R35, R36, R46,
R47), and what the page header's registers do (R30-R44). -/

namespace Sys2Proof.Machine

/-- What a write does, once it is known to be performed: its outcome (DONE or the first check of R46 it fails), and the
state after it. -/
abbrev Act := State → Code × State

/-- A write that is refused and changes nothing. -/
def no (c : Code) : Act := fun s => (c, s)

/-- A write that is done. -/
def yes (f : State → State) : Act := fun s => (.done, f s)

/-- R33, R46: refuse with a code unless a condition holds. -/
def need (p : State → Bool) (c : Code) (k : Act) : Act := fun s => if p s then k s else (c, s)

/-- R426: whether an access of a requester can reach the part: it is not held in reset and is in Run or Idle, and a port
that is disabled (R74, R34), or whose page is not served yet (R74, R82), serves nothing. -/
def reaches (s : State) (r : Req) : Bool :=
  !s.sys.held && (s.sys.mode == .run || s.sys.mode == .idle) &&
    (match r with
     | .spi => s.en P.spi && s.sys.opening == 0
     | .tw0 => s.en (P.tw 0) && s.sys.opening == 0
     | _ => true)

/-- R434: while an entry to Sleep, Deep sleep, Off or Idle is under way, a direct write to a page of a domain that the
target turns off or places in retention is refused with BUSY. -/
def entryBusy (s : State) (a : Nat) : Bool :=
  match s.sys.entry, domOf a with
  | some e, some d => decide (domIn e.target d < 2)
  | _, _ => false

/-- R32: the value a plain store leaves: RW bits as written, W1C bits cleared, a counter set to 0, the rest as it was. -/
def RegDef.store (d : RegDef) (old v : Word) : Word :=
  match d.kind with
  | .counter => 0
  | .wide => old
  | .plain => ((old &&& ~~~ d.rw) ||| (v &&& d.rw)) &&& ~~~ (v &&& d.w1c)

/-- R8, R19: a write to a register without behaviour of its own. -/
def State.store (s : State) (a : Nat) (v : Word) : State :=
  match regAt a with
  | none => s
  | some d => s.wr a (d.store (s.rd a) v &&& ~~~ absentBits a)

/-- The write of a register without behaviour of its own. -/
def plain (a : Nat) (v : Word) : Act := yes fun s => s.store a v

/-- R47: the page that records a refusal of an access to an address; KPR where no page owns it. -/
def refusePage (a : Nat) : Nat := (ownerBase a).getD P.kpr

/-- R93: the address a refusal records: that of the entry for a crosspoint. -/
def refuseAddr (a : Nat) : Nat :=
  match regionOf a with
  | .xp _ off => a - off
  | _ => a

/-- R47: record a refusal on the page that owns an address. -/
def State.refuseAt (s : State) (r : Req) (cmd a : Nat) (c : Code) : State := s.refuse (refusePage a) cmd r (refuseAddr a) c

/-- R46: the order of the checks. -/
def checkRank : Code → Nat
  | .power => 0 | .unknown => 1 | .auth => 2 | .locked => 3 | .range => 4 | .sealed => 5 | .absent => 6 | .state => 7 | .full => 8
  | .busy => 9 | _ => 10

/-- R36, R46: what a locked page answers where another check gives `c`: LOCKED, unless that check comes before it. -/
def lockCode (c : Code) : Code := if checkRank c < checkRank .locked then c else .locked

/-- R93: a refused commit discards the map word its requester holds for the entry. -/
def State.dropCommit (s : State) (r : Req) (a : Nat) : State :=
  match regionOf a, alGet s.holds ⟨r, P.cmb⟩ with
  | .xp _ off, some (b, _) => if off = 4 ∧ b + 4 = a then { s with holds := alDel s.holds ⟨r, P.cmb⟩ } else s
  | _, _ => s

/-- R47, R54: a word not performed is recorded on the page that owns it, where one does. -/
def State.refuseOwned (s : State) (r : Req) (cmd a : Nat) (c : Code) : State :=
  if (ownerBase a).isSome then s.refuseAt r cmd a c else s

/-- R26-R29, R35, R36, R46, R434: serve a write of a word at an address: `cmd` is 0xFF for a direct write. -/
def serve (r : Req) (cmd a : Nat) (act : Act) (s : State) : Code × State :=
  let s := s.wakeFor a
  let refused := fun c (s : State) => (c, (s.dropCommit r a).refuseAt r cmd a c)
  match writeBad s a with
  | some why =>
    let c := if lockedOut s a then lockCode why.code else why.code
    (c, ((s.dropCommit r a).badAccess true why r a).refuseOwned r cmd a c)
  | none =>
    let o := act s
    if lockedOut s a then refused (lockCode o.1) s
    else if o.1 ≠ .done then (o.1, o.2.refuseAt r cmd a o.1)
    else if resetting s a || entryBusy s a then refused .busy s
    else o

/-- R82, R396: the address is served: every one once the Keeper's service runs; until then SYS, PWR, SPI and TW0, and what the
Keeper itself reaches. -/
def opened (s : State) (r : Req) (a : Nat) : Bool :=
  s.sys.service || r == .keeper || decide (a < 0x2000 ∨ (0x3000 ≤ a ∧ a < 0x5000))

/-- A direct write by a requester: served if it reaches the part, and its outcome kept in `rcode`. -/
def hostWrite (r : Req) (a : Nat) (act : Act) (s : State) : State :=
  if reaches s r && opened s r a then
    let o := serve r 0xFF a act s
    { o.2 with rcode := o.1 }
  else s

/-! ### The header -/

/-- R37: a forced event sets its bit as its condition would; a forced fault is recorded in the black box as forced. -/
def State.force (s : State) (page idx : Nat) (bits : Word) : State :=
  let s := s.wr (page + 0x00C) (s.rd (page + 0x00C) ||| bits)
  let src := getField (s.rd page) 31 16
  forEach (List.range 8) (fun i s =>
    if bit bits (24 + i) then s.queueRec (mkRec s 0x0009 2 src 0 (leBytes 2 idx ++ [BitVec.ofNat 8 (24 + i)]) true) else s) s

/-- R43: the offsets of the header that a snapshot covers. -/
def snapHdr (off : Nat) : Bool := off == 0x01C || off == 0x020 || off == 0x028

/-- R43: whether a register takes part in its page's snapshot: REFUSE, REFUSE_SRC, ERR_CNT and every counter. -/
def snapCovers (a : Nat) : Bool :=
  match regAt a with
  | none => false
  | some d =>
    (match regionOf a with
     | .page _ _ off => if off < 0x40 then snapHdr off else d.kind != .plain
     | _ => d.kind != .plain)

/-- R346: under which number a snapshot of the WAG page keeps CUE_STAT of cue `k`. -/
def cueSnapAt (k : Nat) : Nat := 0x1000000 + k

/-- R43: the listed registers of a page, with its windows, that a snapshot copies; for WAG, the counts of its cues too. -/
def State.snapCopy (s : State) (page : Nat) : List (Nat × Word) :=
  (s.regs.filter fun e => ownerBase e.1 == some page && snapCovers e.1) ++
    (if page = P.wag then s.wag.cues.map fun e => (cueSnapAt e.1, BitVec.ofNat 32 e.2.count) else [])

/-- R44: whether SNAP.CLR clears a register. -/
def snapClears (a : Nat) : Bool :=
  match regAt a with
  | none => false
  | some d => d.kind == .counter

/-- R44: ERR_CNT, REFUSE.COUNT and the 16-bit counters of a page cleared. -/
def State.snapClear (s : State) (page : Nat) : State :=
  let s := if page = P.wag then s.onWag fun w => { w with cues := w.cues.map fun e => (e.1, { e.2 with count := 0 }) } else s
  let s := forEach (s.snapCopy page) (fun e s => if snapClears e.1 then s.wr e.1 0 else s) s
  s.wr (page + 0x01C) (s.rd (page + 0x01C) &&& 0xFFFF#32)

/-- R43, R44: SNAP.TAKE, with CLR if `clr`. The copy and the clear are of one instant. -/
def State.snapTake (s : State) (page : Nat) (clr : Bool) : State :=
  let c := s.snapCopy page
  let s := if clr then s.snapClear page else s
  { s with snaps := alSet s.snaps page c }

/-- R43: the hold of a page's snapshot ends. -/
def State.snapRelease (s : State) (page : Nat) : State := { s with snaps := alDel s.snaps page }

/-- A write of SNAP: TAKE, with CLR; and RELEASE. CLR without TAKE has no effect (R44). R43 does not say what one write of TAKE and
RELEASE does: here the snapshot is taken, counters are cleared with CLR, and it is then released (DESIGN CHOICE, log entry 76). -/
def snapWrite (page : Nat) (v : Word) : Act := yes fun s =>
  let s := if bit v 0 then s.snapTake page (bit v 1) else s
  if bit v 2 then s.snapRelease page else s

/-- R36: LOCK is set and stays set until the next device reset. -/
def State.lockPage (s : State) (page : Nat) : State := s.setF page F.PG_CTRL_LOCK 1

/-- The page index of an address in a page with a header (R30). -/
def pageIndexOf (a : Nat) : Nat :=
  match regionOf a with
  | .page r inst _ => r.index + inst
  | _ => 0

/-- A write of a header register other than PG_CTRL. -/
def headerWrite (page off : Nat) (v : Word) : Act :=
  if off = 0x018 then yes fun s => s.force page (pageIndexOf page) v
  else if off = 0x024 then snapWrite page v
  else plain (page + off) v

/-! ### 64-bit quantities -/

/-- The offsets of the _LO registers of each page kind (R41). -/
def loOffs : PageKind → List Nat
  | .sys => [0x044]
  | .pwr => [0x064]
  | .clk => [0x068]
  | .kpr => [0x068]
  | .bbx => [0x044, 0x04C]
  | .nrs => [0x044, 0x068]
  | .swm => 0x048 :: (List.range 8).map fun i => 0x110 + 32 * i
  | .wag => [0x04C, 0x068, 0x074]
  | .eth => [0x044, 0x084, 0x08C, 0x094, 0x09C]
  | .sct => [0x0A0, 0x0A8]
  | .madc => (List.range 4).map fun q => 0x108 + 16 * q
  | .w => [0x054]
  | .q => [0x054]
  | _ => []

/-- R41: whether an address is a _LO register. -/
def isLo (a : Nat) : Bool :=
  match regionOf a with
  | .page r inst off => presentOn r.kind inst off && (loOffs r.kind).contains off
  | .strRx _ off => off == 40
  | .strTx _ off => off == 40
  | _ => false

/-- R41: whether an address is a _HI register. -/
def isHi (a : Nat) : Bool := decide (4 ≤ a) && isLo (a - 4)

/-- R41, R42: the key under which a requester's shadow and held value of a page are kept. -/
def holdKey (r : Req) (a : Nat) : HoldKey := ⟨r, (ownerBase a).getD 0⟩

/-- R42: the quantity a write of the _HI register at `a` commits: with the held low half, or with the live one. Where the low half
held is of another pair, R42 does not say what is written: here the live low half, and the hold is emptied (DESIGN CHOICE, log
entry 76). -/
def pairValue (s : State) (r : Req) (a : Nat) (v : Word) : BitVec 64 :=
  match alGet s.holds (holdKey r a) with
  | some (b, w) => if b = a - 4 then v.append w else v.append (s.rd (a - 4))
  | none => v.append (s.rd (a - 4))

/-- R42: the holding register of a requester and page is emptied. -/
def State.dropHold (s : State) (r : Req) (a : Nat) : State := { s with holds := alDel s.holds (holdKey r a) }

/-- R426: the device is out of reset and in Run or Idle. -/
def awake (s : State) : Bool := !s.sys.held && (s.sys.mode == .run || s.sys.mode == .idle)

end Sys2Proof.Machine
end

