-- ==== Sys2Proof/Machine/AnalogIo.lean ====
section
/-! DEFINITION. The analogue inputs, line outputs and headsets (chapter 09): what a write of their registers does, and the
events of R233-R249. -/

namespace Sys2Proof.Machine

/-! ### Analogue inputs -/

/-- R236: input `n` enters SETTLING, its bias ramping up if used. -/
def ainBegin (s : State) (n : Nat) : State := ainBias (setAin s n 1) n (s.isSet (ainBase n) F.AIN_CFG_BIAS_EN)

/-- R234-R236, R248: a write of AIN_n_CFG. -/
def ainCfgWrite (n : Nat) (v : Word) : Act := fun s =>
  let a := ainBase n + 0x40
  let on := bit v 31
  let was := s.isSet (ainBase n) F.AIN_CFG_EN
  if 96 < getField v 6 0 ∨ 80 < getField v 23 16 ∨ (bit v 29 ∧ !bit v 30) then (.range, s)
  else if was ∧ (bit v 30 ≠ bit (s.rd a) 30 ∨ bit v 29 ≠ bit (s.rd a) 29) then (.state, s)
  else if on ∧ !was ∧ !s.en P.ain then (.state, s)
  else
    let moved := decide (getField v 23 16 ≠ s.getF (ainBase n) F.AIN_CFG_BIAS)
    let s := s.store a v
    let s := if moved && s.an.biasOn.contains n && ainLive s n && ainSt s n != 1 then biasTo s n (biasVolts s n) 10 else s
    if on ∧ ainSt s n = 0 ∧ s.sys.pwrFailN then (.done, ainBegin s n)
    else if !on ∧ was then (.done, ainStopping s n)
    else (.done, s)

/-- AIN_ENABLE: AIN_n_CFG is written with EN = 1. -/
def execAinEnable (r : Req) (n : Fin 8) (v : Word) (s : State) : Host.Outcome State Fault Refusal :=
  .next (hostWrite r (ainBase n + 0x40) (ainCfgWrite n (setField v 31 31 1)) s)

/-- AIN_DISABLE: AIN_n_CFG is written with EN = 0. -/
def execAinDisable (r : Req) (n : Fin 8) (v : Word) (s : State) : Host.Outcome State Fault Refusal :=
  .next (hostWrite r (ainBase n + 0x40) (ainCfgWrite n (setField v 31 31 0)) s)

/-- AIN_SETTLED (R236): SETTLING ends in OK; a gain written meanwhile applies in full (R235), a bias with its 10 ms ramp (R247). -/
def execAinSettled (n : Fin 8) (s : State) : Host.Outcome State Fault Refusal :=
  if ainLive s n ∧ ainSt s n = 1 then
    let s := if s.an.biasOn.contains n.val then biasTo s n (biasVolts s n) 10 else s
    .next ((setAin s n 2).setF (ainBase n) F.AIN_STAT_GAIN_CUR (s.getF (ainBase n) F.AIN_CFG_GAIN))
  else .next s

/-- AIN_GAIN_STEP (R235): the present gain moves one step towards AIN_n_CFG.GAIN. -/
def execAinGainStep (n : Fin 8) (s : State) : Host.Outcome State Fault Refusal :=
  let cur := s.getF (ainBase n) F.AIN_STAT_GAIN_CUR
  let goal := s.getF (ainBase n) F.AIN_CFG_GAIN
  if 2 ≤ ainSt s n then
    .next (s.setF (ainBase n) F.AIN_STAT_GAIN_CUR (if cur < goal then cur + 1 else if goal < cur then cur - 1 else cur))
  else .next s

/-- R236: an entry to CLIP, OPEN or SHORT is counted in ERR_CNT and the input's counter, and its notice is raised. -/
def ainEnter (s : State) (n st evt : Nat) (cnt : Fld) : State :=
  (((setAin s n st).err P.ain).bump (ainBase n) cnt).raise P.ain evt

/-- AIN_CLIP (R236): a sample reaches converter full scale. -/
def execAinClip (n : Fin 8) (s : State) : Host.Outcome State Fault Refusal :=
  if ainLive s n ∧ ainSt s n = 2 then .next (ainEnter s n 3 0 F.AIN_CLIP_CNT_COUNT) else .next s

/-- AIN_CLIP_END (R236): 100 ms have passed since the last full-scale sample. -/
def execAinClipEnd (n : Fin 8) (s : State) : Host.Outcome State Fault Refusal :=
  if ainSt s n = 3 then .next (setAin s n 2) else .next s

/-- AIN_OPEN (R236): with MIC and BIAS_EN, the bias current, in 0.05 mA units, has been below 0.10 mA for 50 ms, a re-application in
SHORT included. -/
def execAinOpen (n : Fin 8) (ibias : Byte) (s : State) : Host.Outcome State Fault Refusal :=
  if ainLive s n ∧ (ainSt s n = 2 ∨ ainSt s n = 3 ∨ (ainSt s n = 5 ∧ s.an.biasOn.contains n.val)) ∧
      s.isSet (ainBase n) F.AIN_CFG_MIC ∧ s.isSet (ainBase n) F.AIN_CFG_BIAS_EN ∧ ibias.toNat < 2 then
    let s := s.setF (ainBase n) F.AIN_STAT_IBIAS ibias.toNat
    .next ((ainEnter s n 4 1 F.AIN_BFLT_CNT_COUNT).log 0x0040 2 0x0016 0 [BitVec.ofNat 8 n, ibias])
  else .next s

/-- AIN_SHORT (R236): the bias current has been at its limit for 5 ms; the bias is switched off. A retry that fails is not
counted again. -/
def execAinShort (n : Fin 8) (ibias : Byte) (s : State) : Host.Outcome State Fault Refusal :=
  if ainLive s n ∧ s.an.biasOn.contains n.val then
    let s := ainBias s n false
    if ainSt s n = 5 then .next s
    else .next ((ainEnter s n 5 2 F.AIN_BFLT_CNT_COUNT).log 0x0041 2 0x0016 0 [BitVec.ofNat 8 n, ibias])
  else .next s

/-- AIN_SHORT_RETRY (R236): every 1 s in SHORT the bias is applied again. -/
def execAinShortRetry (n : Fin 8) (s : State) : Host.Outcome State Fault Refusal :=
  if ainLive s n ∧ ainSt s n = 5 then .next (ainBias s n true) else .next s

/-- AIN_RECOVER (R236): the bias current has been within 0.10-8.0 mA for 50 ms, in OPEN or on a re-application in SHORT. -/
def execAinRecover (n : Fin 8) (ibias : Byte) (s : State) : Host.Outcome State Fault Refusal :=
  if ainLive s n ∧ (ainSt s n = 4 ∨ ainSt s n = 5) ∧ s.an.biasOn.contains n.val ∧ 2 ≤ ibias.toNat ∧ ibias.toNat ≤ 160 then
    .next (((setAin s n 2).setF (ainBase n) F.AIN_STAT_IBIAS ibias.toNat).raise P.ain 3)
  else .next s

/-- AIN_OFF (R236): the bias ramp has ended. An input enabled again meanwhile then passes SETTLING. -/
def execAinOff (n : Fin 8) (s : State) : Host.Outcome State Fault Refusal :=
  if s.an.ainStop.contains n.val then
    let s := (ainBias s n false).onAn fun a => { a with ainStop := a.ainStop.filter (· != n.val) }
    let s := setAin s n 0
    if s.isSet (ainBase n) F.AIN_CFG_EN ∧ s.en P.ain ∧ s.sys.pwrFailN ∧ s.domOn .analog ∧ s.sys.entry = none ∧
        s.sys.resetPending = none then .next (ainBegin s n)
    else .next s
  else .next s

/-- The registers of the AIN page. -/
def ainWrite (off : Nat) (v : Word) : Act :=
  if 0x40 ≤ off ∧ off < 0xC0 ∧ off % 0x10 = 0 then ainCfgWrite ((off - 0x40) / 0x10) v else plain (P.ain + off) v

/-! ### Line outputs -/

/-- R237, R238, R247, R248: a write of LO_n_CFG. While PWRFAIL_N is low it is stored, and takes effect after it. -/
def loCfgWrite (n : Nat) (v : Word) : Act := fun s =>
  let a := loBase n + 0x40
  let on := bit v 31
  let was := s.isSet (loBase n) F.LO_CFG_EN
  let wasMute := s.isSet (loBase n) F.LO_CFG_MUTE
  if was ∧ bit v 24 ≠ bit (s.rd a) 24 then (.state, s)
  else if on ∧ !was ∧ !s.en P.lo then (.state, s)
  else
    let s := s.store a v
    if !s.sys.pwrFailN then (.done, s) else
    let s := if bit v 30 ∧ !wasMute then loMute s n muteHost else if !bit v 30 ∧ wasMute then loUnmute s n muteHost else s
    if on ∧ !was ∧ loSt s n = 0 then (.done, loBegin s n)
    else if !on ∧ was then (.done, loStop s n)
    else (.done, s)

/-- LO_START: LO_n_CFG is written with EN = 1. -/
def execLoStart (r : Req) (n : Fin 8) (v : Word) (s : State) : Host.Outcome State Fault Refusal :=
  .next (hostWrite r (loBase n + 0x40) (loCfgWrite n (setField v 31 31 1)) s)

/-- LO_STOP: LO_n_CFG is written with EN = 0. -/
def execLoStop (r : Req) (n : Fin 8) (v : Word) (s : State) : Host.Outcome State Fault Refusal :=
  .next (hostWrite r (loBase n + 0x40) (loCfgWrite n (setField v 31 31 0)) s)

/-- LO_MUTE: LO_n_CFG is written with MUTE = 1. -/
def execLoMute (r : Req) (n : Fin 8) (v : Word) (s : State) : Host.Outcome State Fault Refusal :=
  .next (hostWrite r (loBase n + 0x40) (loCfgWrite n (setField v 30 30 1)) s)

/-- LO_UNMUTE: LO_n_CFG is written with MUTE = 0. -/
def execLoUnmute (r : Req) (n : Fin 8) (v : Word) (s : State) : Host.Outcome State Fault Refusal :=
  .next (hostWrite r (loBase n + 0x40) (loCfgWrite n (setField v 30 30 0)) s)

/-- LO_START_DONE (R238): at 45 ms the output enters PLAY, or MUTED, and raises STARTED. -/
def execLoStartDone (n : Fin 8) (s : State) : Host.Outcome State Fault Refusal :=
  if loSt s n = 1 then
    let s := (s.setF (loBase n) F.LO_CTRL_CLR 0).raise P.lo 0
    let s := s.onLo n fun h => { h with cm := 1920 }
    if loReason s n = 0 then .next ((setLo s n 2).onLo n fun h => { h with gain := Fader.at 1 })
    else .next (((setLo s n 4).onLo n fun h => { h with gain := Fader.at 0 }).raise P.lo 1)
  else .next s

/-- LO_STOP_DONE (R238, R247): the common mode is at 0 V; a start asked for meanwhile then begins. -/
def execLoStopDone (n : Fin 8) (s : State) : Host.Outcome State Fault Refusal :=
  if loSt s n = 5 then
    let s := (setLo (loDark s n) n 0).setF (loBase n) F.LO_CTRL_CLR 0
    let s := s.setF (loBase n) F.LO_STAT_REASON (dropCause (loReason s n) muteOff)
    if s.isSet (loBase n) F.LO_CFG_EN ∧ s.en P.lo ∧ !s.isSet P.lo F.PG_CTRL_SRST ∧ s.sys.pwrFailN ∧ s.domOn .analog ∧
        s.sys.entry = none ∧ s.sys.resetPending = none then
      .next (loBegin s n)
    else .next s
  else .next s

/-- LO_MUTE_DONE (R238): a mute ramp ends. -/
def execLoMuteDone (n : Fin 8) (s : State) : Host.Outcome State Fault Refusal :=
  if loSt s n = 3 ∧ loReason s n ≠ 0 then .next (((setLo s n 4).onLo n fun h => { h with gain := Fader.at 0 }).raise P.lo 1)
  else .next s

/-- LO_SHORT (R239): a leg has been at its current limit for 1 ms: the stage turns off; a start that CLR began has ended. -/
def execLoShort (n : Fin 8) (s : State) : Host.Outcome State Fault Refusal :=
  if 1 ≤ loSt s n ∧ loSt s n ≤ 5 then
    let s := loFault ((setLo (loDark s n) n 6).setF (loBase n) F.LO_CTRL_CLR 0)
    .next ((((s.raise P.lo 24).bump (loBase n) F.LO_SHORT_CNT_COUNT).err P.lo).log 0x0042 3 0x0018 0 [BitVec.ofNat 8 n])
  else .next s

/-- R34, R239, R247: a write of LO_n_CTRL. CLR leaves FAULT: for the start sequence with EN = 1, which a disabled page refuses, for
OFF otherwise; it reads 1 until the sequence has ended. -/
def loCtrlWrite (n : Nat) (v : Word) : Act := fun s =>
  if !bit v 0 then (.done, s)
  else if loSt s n ≠ 6 ∨ (s.isSet (loBase n) F.LO_CFG_EN ∧ !s.en P.lo) then (.state, s)
  else
    let s := loFault (setLo s n 0)
    if s.isSet (loBase n) F.LO_CFG_EN then (.done, loBegin (s.setF (loBase n) F.LO_CTRL_CLR 1) n) else (.done, s)

/-- LO_CLR: LO_n_CTRL.CLR is written. -/
def execLoClr (r : Req) (n : Fin 8) (s : State) : Host.Outcome State Fault Refusal :=
  .next (hostWrite r (loBase n + 0x44) (loCtrlWrite n 1) s)

/-- The registers of the LO page. -/
def loWrite (off : Nat) (v : Word) : Act :=
  if 0x40 ≤ off ∧ off < 0xC0 ∧ off % 0x10 = 0 then loCfgWrite ((off - 0x40) / 0x10) v
  else if 0x40 ≤ off ∧ off < 0xC0 ∧ off % 0x10 = 4 then loCtrlWrite ((off - 0x40) / 0x10) v
  else plain (P.lo + off) v

/-! ### Headsets -/

/-- R240-R243, R247, R252: a write of HS_n_CFG. While PWRFAIL_N is low it is stored, and takes effect after it. -/
def hsCfgWrite (n : Nat) (v : Word) : Act := fun s =>
  let a := hsBase n + 0x40
  let on := bit v 31
  let was := s.isSet (hsBase n) F.HS_CFG_EN
  let wasMute := s.isSet (hsBase n) F.HS_CFG_OUTMUTE
  if 8 < getField v 27 24 ∨ 72 < getField v 22 16 then (.range, s)
  else if was ∧ bit v 28 ≠ bit (s.rd a) 28 then (.state, s)
  else if on ∧ !was ∧ !s.en P.hs then (.state, s)
  else
    let s := s.store a v
    if !s.sys.pwrFailN then (.done, s) else
    let s := if bit v 30 ∧ !wasMute then earsMute s n muteHost 5
      else if !bit v 30 ∧ wasMute then earsUnmute s n muteHost 5 else s
    if on ∧ !was then (.done, hsBegin s n)
    else if !on ∧ was then (.done, hsStop s n)
    else (.done, s)

/-- HS_ENABLE: HS_n_CFG is written with EN = 1. -/
def execHsEnable (r : Req) (n : Fin 4) (v : Word) (s : State) : Host.Outcome State Fault Refusal :=
  .next (hostWrite r (hsBase n + 0x40) (hsCfgWrite n (setField v 31 31 1)) s)

/-- HS_DISABLE: HS_n_CFG is written with EN = 0. -/
def execHsDisable (r : Req) (n : Fin 4) (v : Word) (s : State) : Host.Outcome State Fault Refusal :=
  .next (hostWrite r (hsBase n + 0x40) (hsCfgWrite n (setField v 31 31 0)) s)

/-- HS_OUTMUTE (R243): HS_n_CFG is written with OUTMUTE as `mute`. -/
def execHsOutmute (r : Req) (n : Fin 4) (v : Word) (mute : Bool) (s : State) : Host.Outcome State Fault Refusal :=
  .next (hostWrite r (hsBase n + 0x40) (hsCfgWrite n (setField v 30 30 (b2n mute))) s)

/-- R249: the headsets' stage has its supply. -/
def hsPowered (s : State) : Bool := s.domOn .analog

/-- JACK_DET_CHANGE (R241, R243): HSn_DET changes. A plug seen in EMPTY is debounced, once the steps of a removal have ended; a
change in DEBOUNCE restarts the time. -/
def execJackDetChange (n : Fin 4) (level : Bool) (s : State) : Host.Outcome State Fault Refusal :=
  let s := s.onAn fun a => { a with det := modifyAt (fun _ => level) n a.det }
  if hsPowered s ∧ hsSt s n = 1 ∧ plugged s n ∧ (alGet s.an.ramps (.hsGone n)).isNone then .next (setHs s n 2) else .next s

/-- HS_DEBOUNCE_END (R241): the plug has shown without change for the debounce time. -/
def execHsDebounceEnd (n : Fin 4) (s : State) : Host.Outcome State Fault Refusal :=
  if hsPowered s ∧ hsSt s n = 2 ∧ plugged s n then .next (setHs s n 3) else .next s

/-- R241: entry to FAULT: the stage is off, the microphone too; OUT_SHORT is raised and a record is written. -/
def hsEnterFault (s : State) (n : Nat) : State :=
  let s := (((micOff s n).stopRamp (.earUp n)).stopRamp (.earMute n)).stopRamp (.earOff n)
  let s := hsFault (setEar (setHs (s.onHs n fun h => { h with ear := Fader.at 0 }) n 5) n 0)
  (sideTones ((s.raise P.hs 24).err P.hs)).log 0x0043 3 0x0017 0 [BitVec.ofNat 8 n]

/-- R242: the class of a plug, from the lower ear impedance in ohms and F in 1/65536: 1 HEADPHONE, 2 HEADSET, 3 LINE,
4 SHORT. -/
def plugClass (z f : Nat) : Nat :=
  if z < 8 then 4 else if 1000 < z then 3 else if 35 * 65536 ≤ 1000 * f ∧ 100 * f ≤ 95 * 65536 then 2 else 1

/-- R244: the button a fraction F, in 1/65536, reads as. -/
def buttonOf (f : Nat) : Option Nat :=
  if 1000 * f < 35 * 65536 then some 0 else if 100 * f < 11 * 65536 then some 1 else if 100 * f < 24 * 65536 then some 2
  else if 100 * f < 43 * 65536 then some 3 else none

/-- HS_CLASSIFY_END (R242, R243): after 30 ms the plug is classed from the ear impedances (0xFFFF: above 65,534 ohms) and
F in 1/65536. Entry to READY raises INSERT and ramps the ears in. -/
def execHsClassifyEnd (n : Fin 4) (zl zr f : BitVec 16) (s : State) : Host.Outcome State Fault Refusal :=
  if hsPowered s ∧ hsSt s n = 3 then
    let c := plugClass (min zl.toNat zr.toNat) f.toNat
    let s := (s.setF (hsBase n) F.HS_ZL_LEFT zl.toNat).setF (hsBase n) F.HS_ZL_RIGHT zr.toNat
    let s := (s.setF (hsBase n) F.HS_JACK_CLASS c).setF (hsBase n) F.HS_JACK_MICF (f.toNat / 256)
    if c = 4 then .next (hsEnterFault s n)
    else
      let s := ((setHs s n 4).raise P.hs 0).bump (hsBase n) F.HS_INS_CNT_COUNT
      let s := s.setF (hsBase n) F.HS_STAT_MICLIVE (b2n (c == 2 && (buttonOf f.toNat).isNone))
      let s := s.onHs n fun h => { h with mic := s.getF (hsBase n) F.HS_CFG_MICGAIN, micAge := 0 }
      .next (sideTones (earsUnmute s n muteOff (s.getF P.hs F.HS_DEB_RAMP)))
  else .next s

/-- HS_REMOVE (R241, R243): the plug has been absent for REMOVE ms; the steps of its removal take 1 ms. -/
def execHsRemove (n : Fin 4) (s : State) : Host.Outcome State Fault Refusal :=
  if hsPowered s ∧ 2 ≤ hsSt s n ∧ hsSt s n ≤ 5 ∧ !plugged s n then
    let shown := decide (4 ≤ hsSt s n)
    let s := (micOff s n).setF (hsBase n) F.HS_JACK_CLASS 0
    let s := hsFault (setHs (earsMute s n muteOff 1) n 1)
    let s := if shown then s.startRamp (.hsGone n) (periods 1) else s
    let s := if earSt s n = 0 then setEar s n 1 else s
    .next (sideTones (if shown then s.raise P.hs 1 else s))
  else .next s

/-- HS_OUT_SHORT (R241, R247): an ear has been at its current limit for 1 ms in READY, or in a ramp. FAULT is left by EN = 0: a
headset whose EN is 0 already is then OFF. -/
def execHsOutShort (n : Fin 4) (s : State) : Host.Outcome State Fault Refusal :=
  if hsPowered s ∧ (hsSt s n = 4 ∨ 2 ≤ earSt s n) then
    let s := hsEnterFault s n
    .next (if s.isSet (hsBase n) F.HS_CFG_EN then s else hsFault (setHs s n 0))
  else .next s

/-- HS_BUTTON_EDGE (R244): F, in 1/65536, leaves the no-button band: the microphone and its side-tone fade at once. -/
def execHsButtonEdge (n : Fin 4) (f : BitVec 16) (s : State) : Host.Outcome State Fault Refusal :=
  if hsPowered s ∧ hsSt s n = 4 ∧ s.getF (hsBase n) F.HS_JACK_CLASS = 2 then
    let s := s.setF (hsBase n) F.HS_JACK_MICF (f.toNat / 256)
    if (buttonOf f.toNat).isSome then .next (sideTones (s.setF (hsBase n) F.HS_STAT_MICLIVE 0)) else .next s
  else .next s

/-- HS_BUTTON (R244): a reading of F has held for BTN ms. -/
def execHsButton (n : Fin 4) (f : BitVec 16) (s : State) : Host.Outcome State Fault Refusal :=
  if hsPowered s ∧ hsSt s n = 4 ∧ s.getF (hsBase n) F.HS_JACK_CLASS = 2 ∧ plugged s n then
    let held := s.getF (hsBase n) F.HS_JACK_BTN
    let s := s.setF (hsBase n) F.HS_JACK_MICF (f.toNat / 256)
    match buttonOf f.toNat with
    | some b =>
      if held = 2 ^ b then .next s
      else
        let s := (s.setF (hsBase n) F.HS_JACK_BTN (2 ^ b)).setF (hsBase n) F.HS_STAT_MICLIVE 0
        .next (sideTones ((s.raise P.hs 2).bump (hsBase n) F.HS_BTN_CNT_COUNT))
    | none =>
      let s := (s.setF (hsBase n) F.HS_JACK_BTN 0).setF (hsBase n) F.HS_STAT_MICLIVE 1
      .next (sideTones (if held = 0 then s else s.raise P.hs 2))
  else .next s

/-- R245: a write of HS_n_ST. -/
def hsStWrite (n : Nat) (v : Word) : Act := fun s =>
  if 60 < getField v 5 0 then (.range, s) else (.done, sideTones (s.store (hsBase n + 0x4C) v))

/-- A write of HS_DEB. -/
def hsDebWrite (v : Word) : Act := fun s =>
  let ok (hi lo a b : Nat) : Bool := decide (a ≤ getField v hi lo ∧ getField v hi lo ≤ b)
  if ok 31 24 1 100 && ok 23 16 2 100 && ok 15 8 5 100 && ok 7 0 1 20 then (.done, s.store (P.hs + 0xC0) v) else (.range, s)

/-- R245: a saturated side-tone sample into headset `n`. -/
def stSaturate (s : State) (n : Nat) : State :=
  let first := s.getF (hsBase n) F.HS_ST_SAT_CNT_COUNT == 0
  let s := (s.bump (hsBase n) F.HS_ST_SAT_CNT_COUNT).err P.hs
  if first then s.raise P.hs 3 else s

/-- The registers of the HS page. -/
def hsWrite (off : Nat) (v : Word) : Act :=
  if 0x40 ≤ off ∧ off < 0xC0 then
    (if off % 0x20 = 0 then hsCfgWrite ((off - 0x40) / 0x20) v
     else if off % 0x20 = 0x0C then hsStWrite ((off - 0x40) / 0x20) v
     else plain (P.hs + off) v)
  else if off = 0xC0 then hsDebWrite v
  else plain (P.hs + off) v

end Sys2Proof.Machine
end

