-- ==== Sys2Proof/Machine/NetOps.lean ====
section
/-! DEFINITION. How Swarm picks the units it acts on (R418, R419), and how a link sends a frame past it (R197). -/

namespace Sys2Proof.Machine

/-! ### Rules -/

/-- The base of Swarm rule `r`, for the fields of SWM_RULE_r. -/
def ruleBase (r : Nat) : Nat := P.swm + 32 * r

/-- A rule is enabled. -/
def ruleOn (s : State) (r : Nat) : Bool := s.isSet (ruleBase r) F.SWM_RULE_TGT_EN

/-- R418: whether a rule injects into its next unit: with its probability, or by the next bit of its pattern. -/
def ruleDraw (s : State) (r : Nat) : Bool × State :=
  if s.isSet (ruleBase r) F.SWM_RULE_ACT_MODE then
    (bit (s.rd (ruleBase r + 0x10C)) (s.swarm.pos.getD r 0 % 32), s.onSwm fun w => { w with pos := modifyAt (· + 1) r w.pos })
  else
    let d := s.draw
    (decide (d.1.toNat % 65536 < s.getF (ruleBase r) F.SWM_RULE_ACT_PROB), d.2)

/-- R418, R419: rule `r` has injected: its counter, SWM_TOTAL and the port's counter, where there is one, count; a rule that
reaches its LIMIT disables itself. -/
def ruleInject (s : State) (r : Nat) (cnt : Option Nat) : State :=
  let s := (s.inc64 (ruleBase r + 0x110)).inc64 (P.swm + 0x48)
  let s := match cnt with
    | some a => s.count a
    | none => s
  let lim := s.getF (ruleBase r) F.SWM_RULE_LIMIT_LIMIT
  if lim ≠ 0 ∧ lim ≤ (s.get64 (ruleBase r + 0x110)).toNat then (s.setF (ruleBase r) F.SWM_RULE_TGT_EN 0).raise P.swm 2 else s

/-- R418: Swarm meets a unit that the rules of `sel` select: only the lowest enabled one of them acts; answers it if it
injects. -/
def swmUnit (s : State) (sel : Nat → Bool) (cnt : Option Nat) : Option Nat × State :=
  match (List.range 8).find? fun r => ruleOn s r && sel r with
  | none => (none, s)
  | some r =>
    let d := ruleDraw s r
    if d.1 then (some r, ruleInject d.2 r cnt) else (none, d.2)

/-- R418: rule `r` selects a frame of a class (0-31 a stream entry, 32 PTP, 33 other) on link `n` in a direction. -/
def ruleLink (s : State) (n : Nat) (tx : Bool) (cls r : Nat) : Bool :=
  let b := ruleBase r
  s.getF b F.SWM_RULE_TGT_CLASS == 0 && s.getF b F.SWM_RULE_TGT_INST == n && s.isSet b F.SWM_RULE_TGT_DIR == tx &&
    (if cls < 32 then s.getF b F.SWM_RULE_TGT_SEL == 0 && s.getF b F.SWM_RULE_TGT_SELARG % 32 == cls
     else s.getF b F.SWM_RULE_TGT_SEL == cls - 31)

/-- R418: rule `r` selects the words of slot `i` of TDM port `n` in a direction. -/
def ruleTdm (s : State) (n : Nat) (tx : Bool) (i r : Nat) : Bool :=
  let b := ruleBase r
  s.getF b F.SWM_RULE_TGT_CLASS == 1 && s.getF b F.SWM_RULE_TGT_INST == n && s.isSet b F.SWM_RULE_TGT_DIR == tx &&
    s.getF b F.SWM_RULE_TGT_SELARG / 2 ^ i % 2 == 1

/-- R418: rule `r` selects the bytes of two-wire port `n`'s bus. -/
def ruleTw (s : State) (n r : Nat) : Bool :=
  s.getF (ruleBase r) F.SWM_RULE_TGT_CLASS == 2 && s.getF (ruleBase r) F.SWM_RULE_TGT_INST == n

/-! ### Frames -/

/-- The network PLL runs, so the links work: Run or Idle, outside DEGRADED (R127, R146). -/
def netOn (s : State) : Bool :=
  !s.sys.held && (s.sys.mode == .run || s.sys.mode == .idle) && !s.stopped

/-- A link is in LINKUP. -/
def linkUp (s : State) (n : Nat) : Bool := s.st (P.eth n) == 4

/-- The frames held on a link in a direction and class. -/
def heldOf (s : State) (n : Nat) (tx : Bool) (cls : Nat) : List SwmHeld :=
  s.swarm.held.filter fun h => h.link == n && h.tx == tx && h.cls == cls

/-- Frames are held no longer. -/
def unhold (s : State) (l : List SwmHeld) : State := s.onSwm fun w => { w with held := w.held.filter fun h => !l.contains h }

/-- A frame is held. -/
def hold (s : State) (h : SwmHeld) : State := s.onSwm fun w => { w with held := w.held ++ [h] }

/-- R197: a frame goes on its way: behind a delayed frame of its class if there is one; it lets go those that waited for the
next frame of the class. -/
def passFrame (go : HeldFrame → State → State) (n : Nat) (tx : Bool) (cls : Nat) (f : HeldFrame) (s : State) : State :=
  let here := heldOf s n tx cls
  if here.any (·.delayed) then hold s ⟨n, tx, cls, false, false, f⟩
  else forEach (here.filter (·.reorder)) (fun h s => go h.frame s) (go f (unhold s (here.filter (·.reorder))))

/-- R197, R418: a frame meets Swarm. -/
def swarmFrame (go : HeldFrame → State → State) (spoil : Word → HeldFrame → HeldFrame) (n : Nat) (tx : Bool) (cls : Nat)
    (f : HeldFrame) (s : State) : State :=
  let o := swmUnit s (ruleLink s n tx cls) (some (P.eth n + 0xB8))
  match o.1 with
  | none => passFrame go n tx cls f o.2
  | some r =>
    match s.getF (ruleBase r) F.SWM_RULE_ACT_ACTION with
    | 0 => o.2
    | 1 => passFrame go n tx cls (spoil o.2.draw.1 f) o.2.draw.2
    | 2 => hold o.2 ⟨n, tx, cls, false, true, f⟩
    | 3 => hold o.2 ⟨n, tx, cls, true, false, f⟩
    | _ => passFrame go n tx cls f o.2

/-- R197: the delay of the oldest frame held by a DELAY rule ends: it goes on, and those queued behind it, up to the next
delayed one. -/
def releaseFrame (go : HeldFrame → State → State) (n : Nat) (tx : Bool) (cls : Nat) (s : State) : State :=
  match (heldOf s n tx cls).dropWhile fun h => !h.delayed with
  | [] => s
  | h :: t =>
    let l := h :: t.takeWhile fun x => !x.delayed
    forEach l (fun h s => go h.frame s) (unhold s l)

/-- R195: a frame among those of a period, behind those that go before it or at its rank. -/
def insertSent (f : Sent) : List Sent → List Sent
  | [] => [f]
  | x :: t => if x.rank ≤ f.rank then x :: insertSent f t else f :: x :: t

/-- A frame leaves a link that is up (ETH_n_TXPKT). -/
def emit (n : Nat) (f : HeldFrame) (s : State) : State :=
  match f with
  | .tx f => if linkUp s n then (s.onLink n fun l => { l with sent := insertSent f l.sent }).inc64 (P.eth n + 0x9C) else s
  | .rx _ => s

/-- R197: a frame of the part with one payload byte inverted. -/
def spoilTx (w : Word) : HeldFrame → HeldFrame
  | .tx f => .tx { f with spoilt := some w }
  | .rx f => .rx f

/-- R197: a link sends a frame, past Swarm. -/
def sendFrame (s : State) (n : Nat) (f : Sent) : State := swarmFrame (emit n) spoilTx n true f.cls (.tx f) s

/-- A link sends frames, in order. -/
def sendFrames (s : State) (n : Nat) (fs : List Sent) : State := forEach fs (fun f s => sendFrame s n f) s

/-! ### Two-wire buses -/

/-- R418: `k` bytes pass on a two-wire port's bus: an injection pulls the lines it selects. -/
def twBytes (s : State) (port : Nat) : Nat → State
  | 0 => s
  | k + 1 =>
    let o := swmUnit s (ruleTw s port) none
    twBytes (match o.1 with
      | none => o.2
      | some r =>
        let a := s.getF (ruleBase r) F.SWM_RULE_TGT_SELARG
        o.2.onSwm fun w => { w with pulls := w.pulls.filter (fun x => x.1 != port) ++ [(port, a % 2 == 1, a / 2 % 2 == 1)] }) port k

end Sys2Proof.Machine
end

