-- ==== Sys2Proof/Machine/NetSend.lean ====
section
/-! DEFINITION. What a link sends: addresses and next hops (R171), the marking of frames (R173), and the groups it reports (R172). -/

namespace Sys2Proof.Machine

/-! ### Addresses -/

/-- The address of a link. -/
def linkIp (s : State) (n : Nat) : Word := s.rd (P.eth n + 0x4C)

/-- R171: the MAC address of a link. -/
def linkMac (s : State) (n : Nat) : BitVec 48 := (s.get64 (P.eth n + 0x44)).setWidth 48

/-- Whether an IPv4 address is multicast. -/
def isMulticast (a : Word) : Bool := getField a 31 28 == 14

/-- Whether an address is in 224.0.0.0/24. -/
def isLocalGroup (a : Word) : Bool := getField a 31 8 == 0xE00000

/-- R194: the MAC address that a multicast address is mapped to (RFC 1112: 01-00-5E and its low 23 bits). -/
def groupMac (a : Word) : BitVec 48 := BitVec.ofNat 48 (0x01005E000000 + a.toNat % 0x800000)

/-- R171: the next hop to a destination: itself on the link's subnet, or the gateway; none where GW is 0. -/
def nextHop (s : State) (n : Nat) (d : Word) : Option Word :=
  let m := s.rd (P.eth n + 0x50)
  if d &&& m = linkIp s n &&& m then some d
  else if s.rd (P.eth n + 0x54) = 0 then none else some (s.rd (P.eth n + 0x54))

/-- R171: the MAC address that the cache of a link holds for an address. -/
def arpGet (s : State) (n : Nat) (ip : Word) : Option (BitVec 48) := ((s.link n).arp.find? fun e => e.ip == ip).map (·.mac)

/-- R171, R194: the MAC address a destination is reached by: mapped from a group, or its next hop's from the cache. -/
def macOf (s : State) (n : Nat) (d : Word) : Option (BitVec 48) :=
  if isMulticast d then some (groupMac d) else (nextHop s n d).bind (arpGet s n)

/-- R171: whether a unicast destination is resolved on a link. -/
def resolved (s : State) (n : Nat) (d : Word) : Bool := ((nextHop s n d).bind (arpGet s n)).isSome

/-! ### Frames and their marking -/

/-- R173: the tag of a frame with a priority. -/
def tagOf (s : State) (n pcp : Nat) : Option (Nat × Nat) :=
  if s.isSet (P.eth n) F.ETH_CFG_VLAN then some (pcp, s.getF (P.eth n) F.ETH_CFG_VID) else none

/-- R173, R195: a frame of neither PTP nor a stream, past no IPv4 header. -/
def otherFrame (s : State) (n : Nat) (mac : BitVec 48) (b : SentBody) : Sent :=
  { mac := mac, tag := tagOf s n 0, ip := none, udp := none, body := b, cls := 33, rank := 1000, spoilt := none }

/-- R169, R173: a frame past an IPv4 header. -/
def overIp (s : State) (n : Nat) (dst : Word) (dscp : Nat) (f : Sent) : Sent :=
  { f with ip := some ⟨linkIp s n, dst, s.getF (P.eth n) F.ETH_IPCFG_TTL, dscp⟩ }

/-- R169: a frame past an IPv4 and a UDP header. -/
def overUdp (s : State) (n : Nat) (dst : Word) (dscp : Nat) (sport dport : BitVec 16) (f : Sent) : Sent :=
  { overIp s n dst dscp f with udp := some ⟨sport, dport, s.isSet (P.eth n) F.ETH_IPCFG_TXCSUM⟩ }

/-- R171: an ARP request, broadcast. -/
def arpRequest (s : State) (n : Nat) (ip : Word) : Sent := otherFrame s n 0xFFFFFFFFFFFF (.arp false ip 0)

/-- R171: a gratuitous ARP request: for the link's own address. -/
def arpGratuitous (s : State) (n : Nat) : Sent := arpRequest s n (linkIp s n)

/-- R171: a frame waits until its next hop is resolved, which is asked for; 16 wait at most (log entry 80). -/
def awaitHop (s : State) (n : Nat) (h : Word) (f : Sent) : State :=
  if linkUp s n && netOn s then
    let l := s.link n
    let s := if l.waiting.length < 16 then s.onLink n fun l => { l with waiting := l.waiting ++ [(h, f)] } else s
    if l.asked.contains h then s else sendFrame (s.onLink n fun l => { l with asked := l.asked ++ [h] }) n (arpRequest s n h)
  else s

/-- R171: an IPv4 frame goes to its destination, once that is resolved; one without a next hop is not sent. -/
def sendIp (s : State) (n : Nat) (d : Word) (f : Sent) : State :=
  match macOf s n d with
  | some m => sendFrame s n { f with mac := m }
  | none =>
    match nextHop s n d with
    | some h => awaitHop s n h f
    | none => s

/-- A UDP datagram of the Keeper: a Plosto answer (R86) or telemetry (R416). The table of R173 does not name telemetry: it is marked
as Plosto is (DESIGN CHOICE, log entry 80). -/
def sendUdp (s : State) (n : Nat) (d : Word) (sport dport : BitVec 16) (b : List Byte) : State :=
  sendIp s n d (overUdp s n d 0 sport dport (otherFrame s n 0 (.udp b)))

/-! ### Groups -/

/-- R172, R181: receive stream `j` makes link `n` a member of its group, from its enable until its channels are freed. -/
def rxJoins (s : State) (n j : Nat) : Bool :=
  s.getF (P.rx j) F.STR_RX_CHAN_ALLOC != 0x3FF && s.getF (P.rx j) F.STR_RX_CTRL_LINK == n && isMulticast (s.rd (P.rx j + 8))

/-- R174: the PTP port of a link runs with a profile. -/
def ptpOn (s : State) (n profile : Nat) : Bool :=
  s.isSet (P.eth n) F.ETH_PTP_CFG_EN && s.getF (P.eth n) F.ETH_PTP_CFG_PROFILE == profile

/-- R172: the filter that the filters of several streams make together (0: any source): no sources for EXCLUDE, or those of INCLUDE. -/
def mergeFilters (l : List Word) : List Word := if l.contains 0 then [] else l.dedup

/-- R172: the groups of a link, with the sources of their filters. -/
def groupsOf (s : State) (n : Nat) : List (Word × List Word) :=
  let es := ((List.range 32).filter (rxJoins s n)).map (fun j => (s.rd (P.rx j + 8), s.rd (P.rx j + 0x10))) ++
    (if ptpOn s n 0 then [(0xE0000181#32, 0)] else [])
  ((es.map (·.1)).dedup).map fun g => (g, mergeFilters ((es.filter fun e => e.1 == g).map (·.2)))

/-- R172: the link is in version 2 compatibility (RFC 3376 7.2.1). -/
def igmpV2 (s : State) (n : Nat) : Bool :=
  match (s.link n).v2 with
  | some t => decide ((s.get64 0x006068).toNat < t)
  | none => false

/-- R172, R173: an IGMP message: TTL 1. Version 3 reports and leaves go to 224.0.0.22, version 2 reports to their group and leaves to
224.0.0.2 (RFC 3376, RFC 2236). -/
def igmpFrame (s : State) (n : Nat) (leave : Bool) (g : Word) (sources : List Word) : Sent :=
  let v2 := igmpV2 s n
  let dst := if !v2 then 0xE0000016#32 else if leave then 0xE0000002#32 else g
  { otherFrame s n (groupMac dst) (.igmp v2 leave g (if v2 then [] else sources)) with ip := some ⟨linkIp s n, dst, 1, 0⟩ }

/-- R172: reports for a list of groups, in LINKUP only. -/
def reportGroups (s : State) (n : Nat) (gs : List (Word × List Word)) : State :=
  if linkUp s n then sendFrames s n (gs.map fun g => igmpFrame s n false g.1 g.2) else s

/-- R172: a join or a change: a report now and one 1 s later. -/
def joinGroup (s : State) (n : Nat) (g : Word × List Word) : State :=
  (reportGroups s n [g]).onLink n fun l => { l with reports := l.reports.filter (· != g.1) ++ [g.1] }

/-- R172: a leave: the last stream that used a group is gone. -/
def leaveGroup (s : State) (n : Nat) (g : Word) : State :=
  let s := s.onLink n fun l => { l with reports := l.reports.filter (· != g) }
  if linkUp s n then sendFrame s n (igmpFrame s n true g []) else s

/-- R172: what a change of the groups of a link makes it send; in version 2 compatibility the filters are the table's alone. -/
def regroup (n : Nat) (f : State → State) (s : State) : State :=
  let was := groupsOf s n
  let s := f s
  let now := groupsOf s n
  let new := now.filter fun g => !was.contains g && !(igmpV2 s n && was.any fun w => w.1 == g.1)
  let gone := was.filter fun g => !now.any fun w => w.1 == g.1
  forEach gone (fun g s => leaveGroup s n g.1) (forEach new (fun g s => joinGroup s n g) s)

/-! ### Streams held by their link -/

/-- R196: why transmit stream `j` is held: 1 LINK, 2 ARP, 3 CLOCK; 0 if it is not. -/
def txHold (s : State) (j : Nat) : Nat :=
  let n := s.getF (P.tx j) F.STR_TX_CTRL_LINK
  if !linkUp s n then 1 else if (macOf s n (s.rd (P.tx j + 8))).isNone then 2 else if s.stopped then 3 else 0

/-- R196: transmit stream `j` is in RUN. -/
def txRun (s : State) (j : Nat) : State := (s.setF (P.tx j) F.STR_TX_HOLD_V 0).setF (P.tx j) F.STR_TX_CTRL_STATE 2

/-- R196: transmit stream `j` enters HOLD as its conditions say, which raises TX_HOLD. One in HOLD stays there until its next packet
period begins. -/
def txSettle (s : State) (j : Nat) : State :=
  if s.isSet (P.tx j) F.STR_TX_CTRL_EN then
    let h := txHold s j
    let was := s.getF (P.tx j) F.STR_TX_CTRL_STATE
    if h ≠ 0 then
      let s := (s.setF (P.tx j) F.STR_TX_HOLD_V h).setF (P.tx j) F.STR_TX_CTRL_STATE 1
      if was ≠ 1 then s.raise (P.eth 0) 12 else s
    else if was = 1 then s else txRun s j
  else s

/-- R168, R196: the transmit streams of a link follow it. -/
def txFollow (s : State) (n : Nat) : State :=
  forEach (List.range 32) (fun j s => if s.getF (P.tx j) F.STR_TX_CTRL_LINK = n then txSettle s j else s) s

end Sys2Proof.Machine
end

