-- ==== Sys2Proof/Machine/Plosto.lean ====
section
/-! DEFINITION. Plosto: frames and their checks (R77, R78), how a command is answered (R79-R83), and the answer's way back
through a mailbox or a datagram (R80, R86-R88). -/

namespace Sys2Proof.Machine

/-- R77: a response frame. -/
def rspFrame (cmd : Nat) (tag : BitVec 16) (c : Code) (payload : List Byte) : List Byte :=
  let b := [0x01#8, BitVec.ofNat 8 cmd] ++ leBytes 2 tag.toNat ++ leBytes 2 payload.length ++
    [0x01#8, BitVec.ofNat 8 c.num] ++ payload
  b ++ wordBytes (crc32 b)

/-- R78: how a request frame fares: answered CHECK, answered UNKNOWN, or accepted with its CMD, TAG and PAYLOAD. -/
inductive FrameIn where
  | check (cmd : Nat) (tag : BitVec 16)
  | badVer (cmd : Nat) (tag : BitVec 16)
  | good (cmd : Nat) (tag : BitVec 16) (payload : List Byte)
deriving DecidableEq, Repr

/-- R77, R78: the transport checks of a request frame. -/
def frameCheck (f : List Byte) : FrameIn :=
  let cmd := field f 1 1
  let tag := BitVec.ofNat 16 (field f 2 2)
  let len := field f 4 2
  if 244 < len ∨ f.length ≠ 12 + len ∨ field f 6 1 % 2 = 1 ∨
      BitVec.ofNat 32 (field f (8 + len) 4) ≠ crc32 (f.take (8 + len)) then .check cmd tag
  else if field f 0 1 ≠ 1 then .badVer cmd tag
  else .good cmd tag ((f.drop 8).take len)

/-- R87: the key under an index. -/
def keyOf (s : State) (i : Nat) : Option UdpKey := s.ports.udp.keys.find? fun k => k.idx == i

/-- R87: a datagram of the part: the tag is absent when KEY = 0xFF. -/
def udpAnswer (s : State) (key : Nat) (seq : Word) (frame : List Byte) : List Byte :=
  let b := [0x01#8, BitVec.ofNat 8 key, 0#8, 0#8] ++
    (if key = 0xFF then leBytes 8 0 else leBytes 8 s.ports.udp.nonce.toNat) ++ wordBytes seq ++ frame
  match keyOf s key with
  | some k => b ++ (Config.hmacSha256 k.key b).take 16
  | none => b

/-- R80: a response placed in SPI's mailbox; one unread is replaced, which counts as an overflow. -/
def State.putSpiRsp (s : State) (f : List Byte) : State :=
  let s := if s.ports.spi.mb.rsp.isSome then (s.bump P.spi F.SPI_OVR_CNT_COUNT).raise P.spi 1 else s
  (s.onSpi fun p => { p with mb := { p.mb with rsp := some f } }).raise P.spi 0

/-- R80: a response placed in TW0's mailbox, which has no overflow counter and no event of its own. -/
def State.putTwRsp (s : State) (f : List Byte) : State := s.onTw0 fun p => { p with mb := { p.mb with rsp := some f } }

/-- R89: the uptimes of the failing answers sent on a link in the last second. -/
def failsNow (s : State) (n : Nat) : List Nat :=
  ((alGet s.ports.udp.rate n).getD []).filter fun t => decide ((s.get64 0x006068).toNat < t + 1000)

/-- R89: a failing answer may be sent on a link: fewer than ten have been in the last second. -/
def failMay (s : State) (n : Nat) : Bool := decide ((failsNow s n).length < 10)

/-- R88: the response to the SEQ accepted last under a key is stored. -/
def storeRsp (s : State) (key : Nat) (seq : Word) (b : List Byte) : State :=
  s.onUdp fun u => { u with keys := mapIf (fun k => k.idx == key && k.seq == some seq) (fun k => { k with stored := b }) u.keys }

/-- R89: a datagram of the part whose frame's STATUS is AUTH or CHECK. -/
def failing (b : List Byte) : Bool := field b 23 1 == Code.auth.num || field b 23 1 == Code.check.num

/-- R86, R89: an answer goes out on a link; an AUTH or CHECK answer beyond ten a second is dropped and counted. -/
def udpOut (s : State) (link : Nat) (ip : Word) (port : BitVec 16) (b : List Byte) : State :=
  if failing b && !failMay s link then s.err P.kpr
  else
    let s := if failing b then s.onUdp fun u =>
        { u with rate := alSet u.rate link ((s.get64 0x006068).toNat :: failsNow s link) } else s
    sendUdp s link ip 41820 port b

/-- R86, R88: an answer over UDP, stored under its key. -/
def State.putUdpRsp (s : State) (link key : Nat) (seq ip : Word) (port : BitVec 16) (f : List Byte) : State :=
  let b := udpAnswer s key seq f
  udpOut (storeRsp s key seq b) link ip port b

/-- R80: the response goes back on the transport of its request. -/
def State.deliver (s : State) (v : Via) (f : List Byte) : State :=
  match v with
  | .spi => s.putSpiRsp f
  | .tw0 => s.putTwRsp f
  | .udp link key seq ip port => s.putUdpRsp link key seq ip port f

/-- Change the requests that wait, in order of arrival. -/
def State.onOrder (s : State) (f : List Arrival → List Arrival) : State := { s with ports := { s.ports with order := f s.ports.order } }

/-- R81: a request has arrived in full. -/
def State.arrive (s : State) (cmd : Nat) (q : PlReq) : State := s.onOrder fun l => l ++ [(cmd, q)]

/-- R81: the request that the Keeper executes next. -/
def nextReq (s : State) (cmd : Nat) (q : PlReq) : Bool := s.ports.order.head? == some (cmd, q)

/-- R80: the place that held the request is free again. -/
def State.freeReq (s : State) (v : Via) : State :=
  let s := s.onOrder fun l => l.filter fun e => e.2.via != v
  match v with
  | .spi => s.onSpi fun p => { p with mb := { p.mb with req := none } }
  | .tw0 => s.onTw0 fun p => { p with mb := { p.mb with req := none } }
  | .udp link key seq ip port => s.onUdp fun u => { u with queue := u.queue.filter fun e =>
      !(e.link == link && e.key == key && e.seq == seq && e.ip == ip && e.port == port) }

/-- What a Plosto command answers: its status, payload, the page and address that record a refusal (R47), and the state
after it. -/
structure PlAns where
  code : Code
  payload : List Byte
  page : Nat
  addr : Nat
  st : State

/-- DONE, with a payload. -/
def ok (s : State) (payload : List Byte) : PlAns := ⟨.done, payload, P.kpr, 0, s⟩

/-- A refusal recorded on a page. -/
def nak (s : State) (page : Nat) (c : Code) : PlAns := ⟨c, [], page, 0, s⟩

/-- A refusal recorded on a page with the address it names. -/
def nakAt (s : State) (page addr : Nat) (c : Code) : PlAns := ⟨c, [], page, addr, s⟩

/-- R83: the command codes that are assigned. -/
def assigned (cmd : Nat) : Bool :=
  decide ((1 ≤ cmd ∧ cmd ≤ 7) ∨ (0x10 ≤ cmd ∧ cmd ≤ 0x14) ∨ cmd = 0x18 ∨ (0x20 ≤ cmd ∧ cmd ≤ 0x22) ∨ cmd = 0x28 ∨ cmd = 0x29 ∨
    (0x30 ≤ cmd ∧ cmd ≤ 0x33) ∨ (0x38 ≤ cmd ∧ cmd ≤ 0x3B) ∨ (0x40 ≤ cmd ∧ cmd ≤ 0x42) ∨ cmd = 0x48 ∨
    (0x50 ≤ cmd ∧ cmd ≤ 0x52) ∨ (0x60 ≤ cmd ∧ cmd ≤ 0x66) ∨ (0x68 ≤ cmd ∧ cmd ≤ 0x6A))

/-- R398: the commands that RECOVERY serves. -/
def inRecovery (cmd : Nat) : Bool :=
  cmd == 0x01 || cmd == 0x02 || cmd == 0x03 || cmd == 0x04 || cmd == 0x05 || cmd == 0x60 || cmd == 0x62 || cmd == 0x63 ||
    cmd == 0x64

/-- R47, R79-R81, R434: a command is executed and answered. A refusal is recorded; while an entry is under way every
command that fails no earlier check is refused with BUSY. Requests are executed one by one, in the order of their arrival (R81): one
that has not arrived, or is not the next, is not executed. A request that no running Plosto service can serve is gone with the reset
that ended the service. -/
def runPlosto (cmd : Nat) (q : PlReq) (body : State → PlAns) (s : State) : State :=
  if !s.sys.service || !reaches s .keeper then s.freeReq q.via
  else if !nextReq s cmd q then s
  else
    let a := if s.sys.recovery && assigned cmd && !inRecovery cmd then nak s P.kpr .state else body s
    let a := if a.code = .done ∧ s.sys.entry.isSome then { a with code := .busy, payload := [], st := s } else a
    let t := if a.code = .done then a.st else a.st.refuse a.page cmd q.via.req a.addr a.code
    (t.freeReq q.via).deliver q.via (rspFrame cmd q.tag a.code a.payload)

/-- R46: the checks a command on a page meets before its own: POWER, LOCKED for a command that
changes the page, after UNKNOWN and AUTH of its own, and, if
nothing else refuses it, BUSY while the page is in soft reset (R35). In Idle, the part returns to Run first (R82). -/
def onPage (page : Nat) (changes : Bool) (body : State → PlAns) (s : State) : PlAns :=
  let s := s.wakeFor page
  match accessBad s page with
  | some why => nak s page why.code
  | none =>
    let a := body s
    if changes && s.isSet page F.PG_CTRL_LOCK then nak s page (lockCode a.code)
    else
      if a.code = .done ∧ s.isSet page F.PG_CTRL_SRST then nak s page .busy else a

end Sys2Proof.Machine
end

