-- ==== Sys2Proof/Machine/Bbx.lean ====
section
/-! DEFINITION. The black box: the MRAM ring and its records (R404-R407), the mirror in the flash with the wear of its
sectors (R363, R408), and the black-box commands (R409). -/

namespace Sys2Proof.Machine

/-! ### Records -/

/-- R404: the number of a STATE byte. -/
def recStNum : RecState → Nat
  | .writing => 0x5A | .valid => 0xA5 | .pinned => 0xC3

/-- R404: bytes 7-59 of a record. -/
def recBody (r : BbxRec) : List Byte :=
  BitVec.ofNat 8 (r.sev + 64 * b2n r.swarm + 128 * b2n r.forced) :: leBytes 6 r.uptime.toNat ++ leBytes 8 r.waggle.toNat ++
    [r.wq, BitVec.ofNat 8 r.unit] ++ leBytes 2 r.code ++ leBytes 2 r.src ++ (r.payload ++ List.replicate 32 0).take 32

/-- R404: the CRC of a record. -/
def recCrc (r : BbxRec) : Word := crc32 (leBytes 6 r.seq ++ recBody r)

/-- R404: the 64 bytes of a record. -/
def recBytes (r : BbxRec) : List Byte :=
  leBytes 6 r.seq ++ [BitVec.ofNat 8 (recStNum r.st)] ++ recBody r ++ wordBytes r.crc

/-- R405: a record's CRC is right. -/
def recSound (r : BbxRec) : Bool := r.crc == recCrc r

/-! ### The ring -/

/-- R404: the records the ring can be read for: VALID and PINNED ones. -/
def ringRecs (s : State) : List BbxRec := (s.mram.ring.map (·.2)).filter fun r => r.st != .writing

/-- R406: the next index that is not PINNED, from `i` on, within `n` steps. -/
def freeIndex (ring : List (Nat × BbxRec)) : Nat → Nat → Nat
  | 0, i => i % 4096
  | n + 1, i => match alGet ring (i % 4096) with
    | some r => if r.st = .pinned then freeIndex ring n (i + 1) else i % 4096
    | none => i % 4096

/-- A record at an index of the ring; the entries keep rising indices. -/
def putRec : List (Nat × BbxRec) → Nat → BbxRec → List (Nat × BbxRec)
  | [], i, r => [(i, r)]
  | (j, x) :: t, i, r => if i < j then (i, r) :: (j, x) :: t else if i = j then (i, r) :: t else (j, x) :: putRec t i r

/-- A record at its place by rising SEQ. -/
def putSeq (r : BbxRec) : List BbxRec → List BbxRec
  | [] => [r]
  | x :: t => if r.seq ≤ x.seq then r :: x :: t else x :: putSeq r t

/-- R407: the pinned records. -/
def pinnedRecs (s : State) : List BbxRec := (ringRecs s).filter fun r => r.st == .pinned

/-- The lowest SEQ of a list of records; 0 of none. -/
def lowestSeq : List BbxRec → Nat
  | [] => 0
  | r :: t => t.foldl (fun m x => min m x.seq) r.seq

/-- Give the record with a SEQ a STATE. -/
def setRecSt (s : State) (q : Nat) (st : RecState) : State :=
  s.onMram fun m => { m with ring := m.ring.map fun e => if e.2.seq = q ∧ e.2.st ≠ .writing then (e.1, { e.2 with st := st }) else e }

/-- R407: at most 256 records stay pinned: the oldest is unpinned; answers its SEQ, or 0. -/
def pinLimit (s : State) : Nat × State :=
  let l := pinnedRecs s
  if 256 < l.length then (lowestSeq l, setRecSt s (lowestSeq l) .valid) else (0, s)

/-- R405-R407: the record at the front of the queue is written, with its SEQ; it becomes VALID, or PINNED with AUTOPIN. -/
def writeRec (s : State) (r : BbxRec) : State :=
  let i := freeIndex s.mram.ring 4096 s.mram.next
  let st := if s.isSet P.bbx F.BBX_CFG_AUTOPIN ∧ r.sev = 4 then RecState.pinned else .valid
  let r := { r with seq := s.mram.seq, st := st }
  let r := { r with crc := recCrc r }
  let s := s.onMram fun m => { m with ring := putRec m.ring i r, next := (i + 1) % 4096, seq := m.seq + 1 }
  let s := (pinLimit (s.set64 (P.bbx + 0x44) (BitVec.ofNat 64 r.seq))).2
  if s.getF P.bbx F.BBX_CFG_NOTIFY ≤ r.sev then s.raise P.bbx 0 else s

/-- R405: a record left WRITING at the next index. -/
def tornRec (s : State) (r : BbxRec) : State :=
  let i := freeIndex s.mram.ring 4096 s.mram.next
  s.onMram fun m => { m with ring := putRec m.ring i { r with seq := m.seq, st := .writing }, next := (i + 1) % 4096 }

/-- R421: the Keeper's firmware runs: out of reset, booted, in Run, Idle or Sleep. -/
def keeperRuns (s : State) : Bool :=
  !s.sys.held && s.sys.service && (s.sys.mode == .run || s.sys.mode == .idle || s.sys.mode == .sleep)

/-- BBX_RECORD_WRITE (R405, R451): the oldest queued record is written, read back wrong and to be written again at the next
index, or cut off. -/
def execBbxRecordWrite (w : MramWrite) (s : State) : Host.Outcome State Fault Refusal :=
  if keeperRuns s then
    match s.bbxQueue with
    | [] => .next s
    | r :: t =>
      match w with
      | .done => .next (writeRec { s with bbxQueue := t } r)
      | .badRead => .next ((tornRec s r).raise P.bbx 24)
      | .cut => .next (tornRec s r)
  else .next s

/-- Every queued record is written. -/
def flushRecs (s : State) : State := s.bbxQueue.foldl (fun s r => writeRec s r) { s with bbxQueue := [] }

/-- R405: the scan of the ring at boot. -/
def bbxScan (s : State) : State :=
  let torn := s.mram.ring.filter fun e => e.2.st == .writing
  let bad := s.mram.ring.filter fun e => e.2.st != .writing && !recSound e.2
  let good := s.mram.ring.filter fun e => e.2.st != .writing && recSound e.2
  let n := torn.length + bad.length
  let s := ((s.countN (P.bbx + 0x58) torn.length).countN (P.bbx + 0x5C) bad.length).countN (P.bbx + 0x20) n
  match good.foldl (fun (b : Option (Nat × BbxRec)) e => match b with
      | none => some e
      | some x => if x.2.seq < e.2.seq then some e else some x) none with
  | none => s.onMram fun m => { m with ring := [], next := 0, mirDue := true }
  | some e => (s.onMram fun m => { m with ring := good, next := (e.1 + 1) % 4096, seq := e.2.seq + 1, mirDue := true }).set64
      (P.bbx + 0x44) (BitVec.ofNat 64 e.2.seq)

/-! ### Sectors -/

/-- R350: the flash's BBX or LOG region by the layout table, as (base, count); both 0 where the table is not usable. -/
def regionOfType (hdr : List Byte) (ty : Nat) : Nat × Nat :=
  match ((List.range 7).map fun i => (hdr.drop (8 + 8 * i)).take 8).find? fun e => field e 0 1 == ty with
  | some e => (field e 2 3, field e 5 3)
  | none => (0, 0)

/-- R363: the usable sectors. -/
def bbxUsable (s : State) : List BbxSector := s.flash.bbx.filter fun x => !x.retired
@[inherit_doc bbxUsable] def logUsable (s : State) : List LogSector := s.flash.log.filter fun x => !x.retired

/-- R363, R364: what FLS_WEAR and FLS_MAXERASE report of the sectors. -/
def flsWear (s : State) : State :=
  let gone := (s.flash.bbx.filter (·.retired)).length + (s.flash.log.filter (·.retired)).length
  let s := (s.setF P.fls F.FLS_WEAR_RETIRED gone).setF P.fls F.FLS_WEAR_LOGSECT (logUsable s).length
  s.setF P.fls F.FLS_MAXERASE_COUNT (((bbxUsable s).map (·.erases) ++ (logUsable s).map (·.erases)).foldl max 0)

/-- R363: the sector of a lowest number. -/
def lowestLog : List LogSector → Option LogSector
  | [] => none
  | x :: t => some (t.foldl (fun m y => if y.num < m.num then y else m) x)

/-- R363: a sector has been retired: its record, and the WORN fault where too few are left. -/
def retired (s : State) (num erases : Nat) : State :=
  let s := ((flsWear s).raise P.fls 0).err P.fls
  let s := s.log 0x00A1 2 0x000C 0 (leBytes 2 num ++ leBytes 4 erases)
  if (logUsable s).length < 16 ∨ (bbxUsable s).length < 8 then s.raise P.fls 25 else s

/-- R363: a BBX sector is retired; the lowest-numbered usable LOG sector takes its place, to be erased before use. -/
def retireBbx (s : State) (num : Nat) : State :=
  let e := ((s.flash.bbx.find? fun x => x.num == num).map (·.erases)).getD 0
  let f := { s.flash with bbx := mapIf (fun x => x.num == num) (fun x => { x with retired := true }) s.flash.bbx }
  let f := match lowestLog (f.log.filter fun x => !x.retired) with
    | some l => { f with bbx := ⟨l.num, l.erases, false, List.replicate 1020 none⟩ :: f.bbx, log := f.log.filter fun x => x.num != l.num }
    | none => f
  retired { s with flash := f } num e

/-- R363: a LOG sector is retired. -/
def retireLog (s : State) (num : Nat) : State :=
  let e := ((s.flash.log.find? fun x => x.num == num).map (·.erases)).getD 0
  retired { s with flash := { s.flash with log := mapIf (fun x => x.num == num) (fun x => { x with retired := true }) s.flash.log } } num e

/-- R363: the erase count at which a sector is retired. -/
def eraseLimit : Nat := 100000

/-- R363, R408: the oldest used BBX sector is erased, when no erased one is left ahead. -/
def eraseBbx (s : State) (ok : Bool) : State :=
  if (bbxUsable s).any fun x => x.recs.isEmpty then s
  else match bbxUsable s with
    | [] => s
    | x :: _ =>
      let y := { x with erases := x.erases + 1, recs := [] }
      let s := flsWear { s with flash := { s.flash with bbx := (s.flash.bbx.filter fun z => z.num != x.num) ++ [y] } }
      if !ok ∨ eraseLimit ≤ y.erases then retireBbx s y.num else s

/-- R363, R416: the oldest used LOG sector is erased, when no erased one is left ahead. -/
def eraseLog (s : State) (ok : Bool) : State :=
  if (logUsable s).any fun x => x.frames.isEmpty then s
  else match logUsable s with
    | [] => s
    | x :: _ =>
      let y := { x with erases := x.erases + 1, frames := [] }
      let s := flsWear { s with flash := { s.flash with log := (s.flash.log.filter fun z => z.num != x.num) ++ [y] } }
      if !ok ∨ eraseLimit ≤ y.erases then retireLog s y.num else s

/-- R364: the FLS page is READY. -/
def flsReady (s : State) : Bool := s.st P.fls == 3

/-! ### The mirror -/

/-- R408: the records that wait for the mirror, by rising SEQ. -/
def mirWaiting (s : State) : List BbxRec :=
  ((ringRecs s).filter fun r => decide ((s.get64 (P.bbx + 0x4C)).toNat < r.seq)).foldl (fun l r => putSeq r l) []

/-- R408: mirroring runs: enabled, the flash READY, at least 8 sectors usable (R363). -/
def mirrors (s : State) : Bool :=
  s.isSet P.bbx F.BBX_CFG_MIRROR && flsReady s && decide (8 ≤ (bbxUsable s).length)

/-- R408: places padded with EMPTY ones to whole pages of four. -/
def padPage (l : List (Option BbxRec)) : List (Option BbxRec) := l ++ List.replicate ((4 - l.length % 4) % 4) none

/-- R408: a record copied to the sector in use: the last usable one that holds any and is not full, or the next erased one;
none where no place is left. -/
def mirPut (r : BbxRec) (l : List BbxSector) : Option (List BbxSector) :=
  let open_ := (l.filter fun x => !x.retired && !x.recs.isEmpty).getLast?
  let next : Option Nat := (l.find? fun (y : BbxSector) => !y.retired && y.recs.isEmpty).map (·.num)
  let pick := match open_ with
    | some x => if x.recs.length < 1020 then some x.num else next
    | none => next
  pick.map fun k => mapIf (fun x => x.num == k) (fun x => { x with recs := x.recs ++ [some r] }) l

/-- R408: records copied in order, with the SEQ of the last one copied. -/
def mirCopy : List BbxRec → List BbxSector × Nat → List BbxSector × Nat
  | [], o => o
  | r :: t, o => match mirPut r o.1 with
    | some l => mirCopy t (l, r.seq)
    | none => o

/-- R408: a mirror pass. -/
def mirrorPass (s : State) : State :=
  let o := mirCopy (mirWaiting s) (s.flash.bbx, (s.get64 (P.bbx + 0x4C)).toNat)
  let f := { s.flash with bbx := o.1.map fun x => { x with recs := padPage x.recs } }
  (({ s with flash := f }.set64 (P.bbx + 0x4C) (BitVec.ofNat 64 o.2)).onMram fun m => { m with mirDue := false }).raise P.bbx 1

/-- R363, R408: a mirror write fails: its sector is retired. -/
def mirrorFail (s : State) : State :=
  let s := s.bump P.bbx F.BBX_MIRFAIL_CNT_COUNT
  match (bbxUsable s).filter fun x => !x.recs.isEmpty with
  | [] => match bbxUsable s with
    | [] => s
    | x :: _ => retireBbx s x.num
  | x :: t => retireBbx s ((x :: t).getLast?.getD x).num

/-- R349: mirror writes of a fall of PWRFAIL_N wait: the flash serves nothing before them. -/
def pfMirror (s : State) : Bool := !s.sys.pwrFailN && s.mram.mirDue && mirrors s && mirWaiting s != []

/-! ### Commands -/

/-- R408: the records of the mirror. -/
def mirrorRecs (s : State) : List BbxRec :=
  if flsReady s then (s.flash.bbx.flatMap fun x => x.recs.filterMap id) else []

/-- R409: up to `n` sound records of a list in order, with how many unsound ones were passed over. -/
def takeSound : Nat → List BbxRec → List BbxRec × Nat
  | 0, _ => ([], 0)
  | _ + 1, [] => ([], 0)
  | n + 1, r :: t =>
    if recSound r then let o := takeSound n t; (r :: o.1, o.2)
    else let o := takeSound (n + 1) t; (o.1, o.2 + 1)

/-- R409: BBX_READ. -/
def bbxReadBody (q : PlReq) (s : State) : PlAns :=
  let p := q.payload
  let mode := field p 0 1
  let cnt := field p 2 1
  if p.length ≠ 12 ∨ 2 < mode ∨ 1 < field p 1 1 ∨ cnt < 1 ∨ 3 < cnt ∨ field p 3 1 ≠ 0 ∨ field p 10 2 ≠ 0 then nak s P.bbx .range
  else
    let all := (if field p 1 1 = 0 then ringRecs s else mirrorRecs s).foldl (fun l r => putSeq r l) []
    let l := if mode = 1 then all.reverse else
      all.filter fun r => decide (field p 4 8 ≤ r.seq) && (mode == 0 || r.st == .pinned)
    let o := takeSound cnt l
    let s := (s.countN (P.bbx + 0x5C) o.2).countN (P.bbx + 0x20) o.2
    let got := if mode = 1 then o.1.reverse else o.1
    if got = [] then nak s P.bbx .absent
    else
      let last := got.foldl (fun m r => max m r.seq) 0
      ok s ([BitVec.ofNat 8 got.length, 0, 0, 0] ++ leBytes 8 (last + 1) ++ got.flatMap recBytes)

/-- BBX_READ (R409). -/
def execBbxRead (q : PlReq) (s : State) : Host.Outcome State Fault Refusal :=
  .next (runPlosto 0x60 q (onPage P.bbx false (bbxReadBody q)) s)

/-- R409: BBX_PIN: OP 0 pins, 1 unpins, 2 unpins all. -/
def bbxPinBody (q : PlReq) (s : State) : PlAns :=
  let p := q.payload
  let op := field p 0 1
  let seq := field p 4 8
  let answer (s : State) (gone : Nat) : PlAns := ok s (leBytes 2 (pinnedRecs s).length ++ [0, 0] ++ leBytes 8 gone)
  if p.length ≠ 12 ∨ 2 < op ∨ field p 1 3 ≠ 0 ∨ field p 10 2 ≠ 0 then nak s P.bbx .range
  else if op = 2 then
    answer (s.onMram fun m => { m with ring := m.ring.map fun e => if e.2.st = .pinned then (e.1, { e.2 with st := .valid }) else e }) 0
  else match (ringRecs s).find? fun r => r.seq == seq with
    | none => nak s P.bbx .absent
    | some _ =>
      if op = 1 then answer (setRecSt s seq .valid) 0
      else
        let o := pinLimit (setRecSt s seq .pinned)
        answer o.2 o.1

/-- BBX_PIN (R407, R409). -/
def execBbxPin (q : PlReq) (s : State) : Host.Outcome State Fault Refusal :=
  .next (runPlosto 0x61 q (onPage P.bbx true (bbxPinBody q)) s)

/-- BBX_UNPIN (R409). -/
def execBbxUnpin (q : PlReq) (s : State) : Host.Outcome State Fault Refusal :=
  .next (runPlosto 0x61 q (onPage P.bbx true (bbxPinBody q)) s)

/-- BBX_UNPIN_ALL (R409). -/
def execBbxUnpinAll (q : PlReq) (s : State) : Host.Outcome State Fault Refusal :=
  .next (runPlosto 0x61 q (onPage P.bbx true (bbxPinBody q)) s)

/-- The registers of the BBX page. -/
def bbxWrite (off : Nat) (v : Word) : Act :=
  if off = 0x40 ∧ 4 < getField v 10 8 then no .range else plain (P.bbx + off) v

end Sys2Proof.Machine
end

