-- ==== Sys2Proof/Machine/CoreDecode.lean ====
section
/-! DEFINITION. The encoding of a core's instructions (R303-R305), and the encoder. -/

namespace Sys2Proof.Machine

/-- Bits `[lo + n - 1 : lo]` of an instruction word. -/
def fld (w : Word) (lo n : Nat) : BitVec n := (w >>> lo).setWidth n

/-- R303: the shift amount of format A. -/
def decShift (w : Word) : ShiftBy := if w.getLsbD 10 then .imm (fld w 0 5) else .reg (fld w 11 5)

/-- R303, R305: the step of format L. -/
def decStep (w : Word) : StepBy := if w.getLsbD 17 then .unit else .imm (fld w 0 17)

/-- R303, R304: the fields of format M. -/
def decMac (w : Word) : MacOps :=
  { aq := fld w 27 1, xs := fld w 24 3, ys := fld w 21 3, l1 := w.getLsbD 20, l1d := fld w 17 3, l1u := fld w 14 3,
    l2 := w.getLsbD 13, l2d := fld w 10 3, l2u := fld w 7 3, mm := fld w 5 2, s1 := w.getLsbD 4, s2 := w.getLsbD 3 }

/-- R303, R305: the instruction a word spells; none for a reserved opcode, FN or TGT. Reserved fields are ignored. -/
def decodeCore (w : Word) : Option CoreInstr :=
  let d : BitVec 5 := fld w 21 5
  let x : BitVec 5 := fld w 16 5
  let y : BitVec 5 := fld w 11 5
  let imm : BitVec 16 := fld w 0 16
  let a : BitVec 3 := fld w 18 3
  let e : BitVec 3 := fld w 15 3
  let op : BitVec 6 := fld w 26 6
  if w.getLsbD 31 && w.getLsbD 30 then
    match (fld w 28 2 : BitVec 2).toNat with
    | 0 => some (.mac (decMac w))
    | 1 => some (.msu (decMac w))
    | 2 => some (.mpy (decMac w))
    | _ => some (.macx (decMac w))
  else match op.toNat with
    | 0x00 => some .nop
    | 0x01 => some (.add d x y)
    | 0x02 => some (.sub d x y)
    | 0x03 => some (.adds d x y)
    | 0x04 => some (.subs d x y)
    | 0x05 => some (.and d x y)
    | 0x06 => some (.or d x y)
    | 0x07 => some (.xor d x y)
    | 0x08 => some (.shl d x (decShift w))
    | 0x09 => some (.shr d x (decShift w))
    | 0x0A => some (.sar d x (decShift w))
    | 0x0B => some (.shls d x (decShift w))
    | 0x0C => some (.min d x y)
    | 0x0D => some (.max d x y)
    | 0x0E => some (.abs d x)
    | 0x0F => some (.mul d x y)
    | 0x10 => some (.addi d x imm)
    | 0x11 => some (.andi d x imm)
    | 0x12 => some (.ori d x imm)
    | 0x13 => some (.xori d x imm)
    | 0x14 => some (.lui d imm)
    | 0x16 => some (.exp d x)
    | 0x17 => some (.expa d a)
    | 0x18 => some (.norm d y x)
    | 0x19 => some (.norma a d)
    | 0x1A => some (.divs a d)
    | 0x1B => some (.mva d a (fld w 13 2) (w.getLsbD 12))
    | 0x1C => some (.mvd a d (fld w 13 2))
    | 0x1D => match (fld w 8 4 : BitVec 4).toNat with
      | 0 => some (.accClr a)
      | 1 => some (.accMov a e)
      | 2 => some (.accAdd a e)
      | 3 => some (.accSub a e)
      | 4 => some (.accNeg a e)
      | 5 => some (.accShift a e (fld w 0 8))
      | _ => none
    | 0x1E => some (.ld d (fld w 18 3) (decStep w))
    | 0x1F => some (.st d (fld w 18 3) (decStep w))
    | 0x20 => some (.ldg d (fld w 18 3) (decStep w))
    | 0x21 => some (.stg d (fld w 18 3) (decStep w))
    | 0x22 => some (.ldx d (fld w 18 3) (w.getLsbD 17) (fld w 0 17))
    | 0x23 => some (.stx d (fld w 18 3) (w.getLsbD 17) (fld w 0 17))
    | 0x24 => some (.padv (fld w 18 3) (decStep w))
    | 0x25 => some (.mvc d (fld w 15 6))
    | 0x26 => some (.mvcs d (fld w 15 6))
    | 0x27 => some (.b d x (fld w 12 4) (fld w 0 12))
    | 0x28 => some (.jmp imm)
    | 0x29 => some (.call imm)
    | 0x2A => some .ret
    | 0x2B => some (.loop (if w.getLsbD 20 then .imm (fld w 10 10) else .reg d) (fld w 0 10))
    | 0x2C => some (.wait x)
    | 0x2D => match (fld w 24 2 : BitVec 2).toNat with
      | 0 => some (.sigCore (fld w 19 5) (fld w 0 8))
      | 1 => some (.sigForager (fld w 0 8))
      | 2 => some (.sigKeeper (fld w 0 8))
      | _ => none
    | 0x2E => some .done
    | 0x2F => some .halt
    | _ => none

/-- A field placed at bit `lo`. -/
def put {n : Nat} (lo : Nat) (v : BitVec n) : Word := v.setWidth 32 <<< lo

/-- A one-bit field placed at bit `lo`. -/
def putB (lo : Nat) (v : Bool) : Word := put lo (BitVec.ofBool v)

/-- An opcode in bits 31:26. -/
def opc (n : Nat) : Word := put 26 (BitVec.ofNat 6 n)

/-- Format A with three registers. -/
def encA (n : Nat) (d x y : BitVec 5) : Word := opc n ||| put 21 d ||| put 16 x ||| put 11 y

/-- Format A with a shift amount. -/
def encShift (n : Nat) (d x : BitVec 5) : ShiftBy → Word
  | .imm k => encA n d x 0 ||| putB 10 true ||| put 0 k
  | .reg y => encA n d x y

/-- Format I. -/
def encI (n : Nat) (d x : BitVec 5) (imm : BitVec 16) : Word := opc n ||| put 21 d ||| put 16 x ||| put 0 imm

/-- Format X. -/
def encX (n : Nat) (d : BitVec 5) (a e : BitVec 3) : Word := opc n ||| put 21 d ||| put 18 a ||| put 15 e

/-- Format X of ACC. -/
def encAcc (fn : Nat) (a e : BitVec 3) (imm : BitVec 8) : Word := encX 0x1D 0 a e ||| put 8 (BitVec.ofNat 4 fn) ||| put 0 imm

/-- Format L. -/
def encL (n : Nat) (d : BitVec 5) (u : BitVec 3) (tsel : Bool) (imm : BitVec 17) : Word :=
  opc n ||| put 21 d ||| put 18 u ||| putB 17 tsel ||| put 0 imm

/-- Format L with a step. -/
def encStep (n : Nat) (d : BitVec 5) (u : BitVec 3) : StepBy → Word
  | .unit => encL n d u true 0
  | .imm m => encL n d u false m

/-- Format S. -/
def encS (n tgt : Nat) (k : BitVec 5) (bits : Byte) : Word := opc n ||| put 24 (BitVec.ofNat 2 tgt) ||| put 19 k ||| put 0 bits

/-- Format M. -/
def encM (op : Nat) (m : MacOps) : Word :=
  put 30 3#2 ||| put 28 (BitVec.ofNat 2 op) ||| put 27 m.aq ||| put 24 m.xs ||| put 21 m.ys ||| putB 20 m.l1 ||| put 17 m.l1d |||
    put 14 m.l1u ||| putB 13 m.l2 ||| put 10 m.l2d ||| put 7 m.l2u ||| put 5 m.mm ||| putB 4 m.s1 ||| putB 3 m.s2

/-- R303, R305: the word of an instruction, its reserved fields 0. -/
def encodeCore : CoreInstr → Word
  | .nop => opc 0x00
  | .add d x y => encA 0x01 d x y
  | .sub d x y => encA 0x02 d x y
  | .adds d x y => encA 0x03 d x y
  | .subs d x y => encA 0x04 d x y
  | .and d x y => encA 0x05 d x y
  | .or d x y => encA 0x06 d x y
  | .xor d x y => encA 0x07 d x y
  | .shl d x k => encShift 0x08 d x k
  | .shr d x k => encShift 0x09 d x k
  | .sar d x k => encShift 0x0A d x k
  | .shls d x k => encShift 0x0B d x k
  | .min d x y => encA 0x0C d x y
  | .max d x y => encA 0x0D d x y
  | .abs d x => encA 0x0E d x 0
  | .mul d x y => encA 0x0F d x y
  | .addi d x i => encI 0x10 d x i
  | .andi d x i => encI 0x11 d x i
  | .ori d x i => encI 0x12 d x i
  | .xori d x i => encI 0x13 d x i
  | .lui d i => encI 0x14 d 0 i
  | .exp d x => encA 0x16 d x 0
  | .expa d a => encX 0x17 d a 0
  | .norm d y x => encA 0x18 d x y
  | .norma a d => encX 0x19 d a 0
  | .divs a x => encX 0x1A x a 0
  | .mva d a p r => encX 0x1B d a 0 ||| put 13 p ||| putB 12 r
  | .mvd a x p => encX 0x1C x a 0 ||| put 13 p
  | .accClr a => encAcc 0 a 0 0
  | .accMov a e => encAcc 1 a e 0
  | .accAdd a e => encAcc 2 a e 0
  | .accSub a e => encAcc 3 a e 0
  | .accNeg a e => encAcc 4 a e 0
  | .accShift a e i => encAcc 5 a e i
  | .ld d u m => encStep 0x1E d u m
  | .st x u m => encStep 0x1F x u m
  | .ldg d u m => encStep 0x20 d u m
  | .stg x u m => encStep 0x21 x u m
  | .ldx d u ts i => encL 0x22 d u ts i
  | .stx x u ts i => encL 0x23 x u ts i
  | .padv u m => encStep 0x24 0 u m
  | .mvc d n => opc 0x25 ||| put 21 d ||| put 15 n
  | .mvcs x n => opc 0x26 ||| put 21 x ||| put 15 n
  | .b x y c o => opc 0x27 ||| put 21 x ||| put 16 y ||| put 12 c ||| put 0 o
  | .jmp t => encI 0x28 0 0 t
  | .call t => encI 0x29 0 0 t
  | .ret => opc 0x2A
  | .loop n len => match n with
    | .imm k => opc 0x2B ||| putB 20 true ||| put 10 k ||| put 0 len
    | .reg x => opc 0x2B ||| put 21 x ||| put 0 len
  | .wait x => encA 0x2C 0 x 0
  | .sigCore k v => encS 0x2D 0 k v
  | .sigForager v => encS 0x2D 1 0 v
  | .sigKeeper v => encS 0x2D 2 0 v
  | .done => opc 0x2E
  | .halt => opc 0x2F
  | .mac m => encM 0 m
  | .msu m => encM 1 m
  | .mpy m => encM 2 m
  | .macx m => encM 3 m

end Sys2Proof.Machine
end

