-- ==== Sys2Proof/Machine/CoreOps.lean ====
section
/-! DEFINITION. What the instructions of a core are made of: its resources (R285, R286), its register files and flags (R288,
R289), the datapath (R290-R298), the address generators (R299-R301), its events (R310) and its faults (R322). -/

namespace Sys2Proof.Machine

/-! ### Resources -/

/-- R285: cores 16-19 are the Queens Q0-Q3. -/
def isQueen (c : Nat) : Bool := decide (16 ≤ c)

/-- R285: the accumulator width W. -/
def accW (c : Nat) : Nat := if isQueen c then 80 else 72

/-- R285: the group size g. -/
def grpSize (c : Nat) : Nat := if isQueen c then 4 else 2

/-- R285: the instructions of program memory. -/
def pmWords (c : Nat) : Nat := if isQueen c then 32768 else 8192

/-- R285: the words of data memory. -/
def dmWords (c : Nat) : Nat := if isQueen c then 98304 else 24576

/-- R286: the byte address of a core's program memory. -/
def pmBase (c : Nat) : Nat := if isQueen c then 0x600000 + (c - 16) * 0x80000 else 0x400000 + c * 0x20000

/-- R286: the byte address of data word `a`. -/
def dmByte (c a : Nat) : Nat := pmBase c + 4 * pmWords c + 4 * a

/-- R320: a core's state. -/
def coreSt (s : State) (c : Nat) : Nat := s.st (P.core c)

/-- R31: the unit that a report about a core names: its number within its block type. -/
def coreUnit (c : Nat) : Nat := if isQueen c then c - 16 else c

/-- R325: the block type of a core's page. -/
def coreType (c : Nat) : Nat := if isQueen c then 0x0031 else 0x0030

/-! ### Registers -/

/-- A data register. -/
def CoreHid.dr (k : CoreHid) (i : Nat) : Word := k.d.getD i 0
/-- An accumulator. -/
def CoreHid.ac (k : CoreHid) (i : Nat) : Int := k.a.getD i 0
/-- Write a data register. -/
def CoreHid.setD (k : CoreHid) (i : Nat) (w : Word) : CoreHid := { k with d := modifyAt (fun _ => w) i k.d }
/-- Write an accumulator of `w` bits; a number outside them wraps (R291). -/
def CoreHid.setA (k : CoreHid) (w i : Nat) (x : Int) : CoreHid := { k with a := modifyAt (fun _ => (BitVec.ofInt w x).toInt) i k.a }
/-- Set a sticky flag of SR (R289). -/
def CoreHid.flag (k : CoreHid) (i : Nat) : CoreHid := { k with sr := k.sr ||| 1#32 <<< i }
/-- R291: whether a number lies outside the range of `w` bits. -/
def outside (w : Nat) (x : Int) : Bool := (BitVec.ofInt w x).toInt != x
/-- R291: write the exact result of an accumulating operation: it wraps, and OV is set if it lay outside. -/
def CoreHid.accumulate (k : CoreHid) (w i : Nat) (x : Int) : CoreHid :=
  let k := if outside w x then k.flag i else k
  k.setA w i x

/-- R289: the remaining count of the innermost active loop; 0 with none. -/
def CoreHid.lcnt (k : CoreHid) : Nat := match k.loops with
  | [] => 0
  | l :: _ => l.count

/-- R289: SCALE as stored: limited to -4..+4. -/
def scaleOf (v : Int) : Int := if v < -4 then -4 else if 4 < v then 4 else v

/-- R312: the number of the present processing block. -/
def blkOf (s : State) : Nat := (s.get64 (P.clk + 0x68)).toNat / 32

/-! ### Events and faults -/

/-- R307: the loops and the PC after the instruction at `at_` has been passed: at the last instruction of the innermost
active loop the count is decremented and the body starts again, until it runs out. -/
def loopsAfter (at_ : Int) : List CoreLoop → List CoreLoop × Int
  | [] => ([], at_ + 1)
  | l :: t =>
    if l.last = at_ then
      (if 2 ≤ l.count then ({ l with count := l.count - 1 } :: t, l.first) else loopsAfter at_ t)
    else (l :: t, at_ + 1)

/-- The core has passed `n` instructions from its PC on. -/
def CoreHid.advance (n : Nat) (k : CoreHid) : CoreHid :=
  let r := loopsAfter (k.pc + n - 1) k.loops
  { k with loops := r.1, pc := r.2 }

/-- R310, R311: events are set in a core's EVT; a BLOCK lost is counted; a core whose WAIT is met continues. -/
def evtSet (s : State) (c : Nat) (bits : Word) : State :=
  let p := P.core c
  let old := s.rd (p + 0x4C)
  let s := s.wr (p + 0x4C) (old ||| bits)
  let s := if bit bits 0 ∧ bit old 0 then ((s.bump p F.W_MISS_CNT_COUNT).raise p 2).err p else s
  if coreSt s c = 4 ∧ s.rd (p + 0x4C) &&& (s.core c).mask ≠ 0 then
    (s.onCore c (CoreHid.advance 1)).setSt p 3
  else s

/-- R322: a fault stops the core at the faulting instruction. -/
def coreFault (s : State) (c code : Nat) : State :=
  let p := P.core c
  let pc := (s.core c).pc
  let s := ((s.setF p F.W_STAT_FLT code).setF p F.PG_STAT_FAULT 1).setSt p 7
  let s := (s.raise p 24).err p
  s.log 0x0080 3 (coreType c) (coreUnit c) (BitVec.ofNat 8 code :: leBytes 2 (unsigned 16 pc))

/-! ### Legality -/

/-- R309: the data registers an instruction names. -/
def CoreInstr.dRegs (g : Nat) : CoreInstr → List (BitVec 5)
  | .nop => []
  | .add d x y => [d, x, y] | .sub d x y => [d, x, y] | .adds d x y => [d, x, y] | .subs d x y => [d, x, y]
  | .and d x y => [d, x, y] | .or d x y => [d, x, y] | .xor d x y => [d, x, y]
  | .shl d x k => d :: x :: shiftRegs k | .shr d x k => d :: x :: shiftRegs k | .sar d x k => d :: x :: shiftRegs k
  | .shls d x k => d :: x :: shiftRegs k
  | .min d x y => [d, x, y] | .max d x y => [d, x, y] | .abs d x => [d, x] | .mul d x y => [d, x, y]
  | .addi d x _ => [d, x] | .andi d x _ => [d, x] | .ori d x _ => [d, x] | .xori d x _ => [d, x] | .lui d _ => [d]
  | .exp d x => [d, x] | .expa d _ => [d] | .norm d y x => [d, y, x] | .norma _ d => [d] | .divs _ x => [x]
  | .mva d _ _ _ => [d] | .mvd _ x _ => [x]
  | .accClr _ => [] | .accMov _ _ => [] | .accAdd _ _ => [] | .accSub _ _ => [] | .accNeg _ _ => [] | .accShift _ _ _ => []
  | .ld d _ _ => [d] | .st x _ _ => [x]
  | .ldg d _ _ => groupOf g d | .stg x _ _ => groupOf g x
  | .ldx d _ _ _ => [d] | .stx x _ _ _ => [x] | .padv _ _ => []
  | .mvc d _ => [d] | .mvcs x _ => [x] | .b x y _ _ => [x, y]
  | .jmp _ => [] | .call _ => [] | .ret => []
  | .loop n _ => (match n with
    | .imm _ => []
    | .reg x => [x])
  | .wait x => [x]
  | .sigCore _ _ => [] | .sigForager _ => [] | .sigKeeper _ => [] | .done => [] | .halt => []
  | .mac m => macRegs m | .msu m => macRegs m | .mpy m => macRegs m | .macx m => macRegs m
where
  /-- The register of a shift amount. -/
  shiftRegs : ShiftBy → List (BitVec 5)
    | .imm _ => []
    | .reg y => [y]
  /-- The registers from one on that a group access uses. -/
  groupOf (g : Nat) (d : BitVec 5) : List (BitVec 5) := (List.range g).map fun i => d + BitVec.ofNat 5 i
  /-- The operand groups of a multiply lie within every core's register file. -/
  macRegs (_ : MacOps) : List (BitVec 5) := []

/-- R309: the accumulators an instruction names. -/
def CoreInstr.aRegs : CoreInstr → List (BitVec 3)
  | .expa _ a => [a] | .norma a _ => [a] | .divs a _ => [a] | .mva _ a _ _ => [a] | .mvd a _ _ => [a]
  | .accClr a => [a] | .accMov a e => [a, e] | .accAdd a e => [a, e] | .accSub a e => [a, e] | .accNeg a e => [a, e]
  | .accShift a e _ => [a, e]
  | _ => []

/-- R309: the other conditions that make an instruction illegal on a core. -/
def CoreInstr.barred (c : Nat) : CoreInstr → Bool
  | .divs _ _ => !isQueen c
  | .ldg d _ _ => decide (d.toNat % grpSize c ≠ 0)
  | .stg x _ _ => decide (x.toNat % grpSize c ≠ 0)
  | .ldx _ _ tsel _ => tsel
  | .stx _ _ tsel _ => tsel
  | .b _ _ cond _ => decide (8 ≤ cond.toNat ∧ cond.toNat ≠ 15)
  | .loop _ len => len == 0
  | .sigCore k _ => decide (20 ≤ k.toNat)
  | .mac m => m.mm == 3 | .msu m => m.mm == 3 | .mpy m => m.mm == 3 | .macx m => m.mm == 3
  | _ => false

/-- R309: whether an instruction is legal on core `c`. -/
def CoreInstr.legal (c : Nat) (i : CoreInstr) : Bool :=
  !i.barred c && (isQueen c || ((i.dRegs (grpSize c)).all fun d => decide (d.toNat < 16)) && i.aRegs.all fun a => decide (a.toNat < 4))

/-! ### Address generators -/

/-- R299: the data word address of word `j` of an access at offset `p` from the home of unit `u`. -/
def agAddr (k : CoreHid) (u : Nat) (p j : Int) : Nat :=
  let z : Int := k.z.getD u 0
  let h : Int := k.h.getD u 0
  if z = 0 then ((h + p + j) % 131072).toNat else (h + (p + j) % z).toNat

/-- R300: the low `n` bits of `x` in reverse order. -/
def revBits (n x : Nat) : Nat := (List.range n).foldl (fun a i => 2 * a + x / 2 ^ i % 2) 0

/-- R300: `k` with Zu = 2^k, for k from 1 to 16. -/
def pow2Of (z : Nat) : Option Nat := (List.range' 1 16).find? fun k => 2 ^ k == z

/-- R299, R300: unit `u` after an update by `m`. -/
def agStep (k : CoreHid) (u : Nat) (m : Int) : CoreHid :=
  let z := k.z.getD u 0
  let p : Int := k.p.getD u 0
  let q : Int := if z = 0 then (p + m) % 131072 else (p % z + m) % z
  let set (k : CoreHid) (v : Nat) : CoreHid := { k with p := modifyAt (fun _ => v) u k.p }
  if k.purev.getLsbD u then
    match pow2Of z with
    | some n => set k (revBits n ((revBits n (p % z).toNat + revBits n (m % z).toNat) % z))
    | none => if z = 1 then set k q.toNat else (set k q.toNat).flag 18
  else set k q.toNat

/-- R305: the step a load or store names. -/
def stepBy (k : CoreHid) (u : Nat) : StepBy → Int
  | .unit => k.t.getD u 0
  | .imm m => m.toInt

/-- R299, R322: the words at data word addresses, or the fault of the first that cannot be read. -/
def dmRead (s : State) (c : Nat) : List Nat → Except Nat (List Word)
  | [] => .ok []
  | a :: t =>
    if dmWords c ≤ a then .error 3
    else if s.bad.contains (dmByte c a) then .error 5
    else match dmRead s c t with
      | .ok ws => .ok (wordAt s.mem (dmByte c a) :: ws)
      | .error e => .error e

/-- Store words at data word addresses. -/
def dmWrite (s : State) (c : Nat) (l : List (Nat × Word)) : State := forEach l (fun e s => s.storeWord (dmByte c e.1) e.2) s

/-! ### The datapath -/

/-- R295: a signed number limited to 32 bits, with DS. -/
def CoreHid.setSat (k : CoreHid) (d : Nat) (x : Int) : CoreHid :=
  let k := if satS 32 x = x then k else k.flag 16
  k.setD d (toWord (satS 32 x))

/-- R295: a shift amount. -/
def shiftAmt (k : CoreHid) : ShiftBy → Nat
  | .imm n => n.toNat
  | .reg y => (k.dr y.toNat).toNat % 64

/-- R296: the redundant sign bits of a number of `w` bits. -/
def rsb (w : Nat) (x : Int) : Nat :=
  ((List.range (w - 1)).filter fun n => decide (-(2 ^ n : Int) ≤ x ∧ x < 2 ^ n)).length

/-- R292: MVA's scaled form: the value and whether it saturates. -/
def mvaScaled (k : CoreHid) (a : Int) (rnd : Bool) : Int × Bool :=
  let sh := (31 - k.scale).toNat
  let y := (a + (if rnd then 2 ^ (sh - 1) else 0)) / 2 ^ sh
  (satS 32 y, satS 32 y != y)

/-- R293: an accumulator of width `w` with a part written. -/
def mvdPart (w : Nat) (a : Int) (x : Word) (part : Nat) : Int :=
  if part = 0 then x.toInt * 2 ^ 31
  else if part = 1 then a / 2 ^ 32 * 2 ^ 32 + x.toNat
  else if part = 2 then x.toInt * 2 ^ 32 + a % 2 ^ 32
  else signed (w - 64) x.toNat * 2 ^ 64 + a % 2 ^ 64

/-- R298: one step of the division: the accumulator, and whether DV is set. -/
def divStep (a d : Int) : Int × Bool :=
  let r := a / 2 ^ 32
  let q := a % 2 ^ 32
  let up := decide (0 ≤ r) == decide (0 ≤ d)
  let r' := if up then 2 * r - d else 2 * r + d
  (r' * 2 ^ 32 + q * 2 % 2 ^ 32 + (if up then 1 else 0), decide (d = 0 ∨ d.natAbs < r'.natAbs))

/-- R290, R304: an operand as the MM field reads it: `x` is signed with MM 0, `y` with MM 0 and 1. -/
def mulOperand (isSigned : Bool) (w : Word) : Int := if isSigned then w.toInt else w.toNat

/-- R290, R304: the product of word `i` of group XS with word `j` of group YS. -/
def macProduct (k : CoreHid) (g : Nat) (m : MacOps) (i j : Nat) : Int :=
  mulOperand (m.mm == 0) (k.dr (g * m.xs.toNat + i)) * mulOperand (m.mm.toNat ≤ 1) (k.dr (g * m.ys.toNat + j))

end Sys2Proof.Machine
end

