-- ==== Sys2Proof/Machine/Forager.lean ====
section
/-! DEFINITION. The Forager and the block exchange (R312-R319, R326). -/

namespace Sys2Proof.Machine

/-! ### Descriptors -/

/-- The descriptor of channel `c`; fields of it are named from the page's base plus `32 * c`. -/
def frgBase (c : Nat) : Nat := P.frg + 32 * c

/-- FRG_c_STAT.STATE: 0 FREE, 1 IDLE, 2 BUSY, 3 ARMED. -/
def frgSt (s : State) (c : Nat) : Nat := s.getF (frgBase c) F.FRG_STAT_STATE

/-- Set FRG_c_STAT.STATE; GO reads 1 while BUSY. -/
def setFrg (s : State) (c v : Nat) : State :=
  (s.setF (frgBase c) F.FRG_STAT_STATE v).setF (frgBase c) F.FRG_CTRL_GO (b2n (v == 2))

/-- R326: whether the Forager runs. -/
def frgOn (s : State) : Bool := s.st P.frg == 2 && s.domOn .core

/-- R311: the core a channel names; 31 is none. -/
def frgCore (s : State) (c : Nat) : Option Nat :=
  let k := s.getF (frgBase c) F.FRG_CTRL_CORE
  if k < 20 then some k else none

/-- A channel's mode: 0 MEM, 1 FAB_IN, 2 FAB_OUT. -/
def frgMode (s : State) (c : Nat) : Nat := s.getF (frgBase c) F.FRG_CTRL_MODE

/-- The channels enabled in a FAB mode, in ascending order; none while an entry is under way (R434). -/
def fabChans (s : State) (mode : Nat) : List Nat :=
  (List.range 32).filter fun c => s.isSet (frgBase c) F.FRG_CTRL_EN && frgMode s c == mode

/-- The rows of a transfer as a descriptor word gives them: the address and the words of each. FAB channels move 32 words
per channel, in either half of their buffer. -/
def frgRows (s : State) (c : Nat) (base : Fld) (stride : Fld) : List (Nat × Nat) :=
  let b := frgBase c
  (List.range (s.getF b F.FRG_COUNT_ROWS)).map fun r => (s.getF b base + r * s.getF b stride, s.getF b F.FRG_COUNT_WORDS)

/-- FAB: bits 8:0 of COUNT. -/
def frgNch (s : State) (c : Nat) : Nat := s.getF (frgBase c) F.FRG_COUNT_WORDS % 512

/-- FAB: the base of channel `i`'s samples in half `h` (R312). -/
def fabAddr (s : State) (c : Nat) (base : Fld) (i h : Nat) : Nat :=
  let b := frgBase c
  s.getF b base + i * s.getF b F.FRG_STRIDE_SSTRIDE + h * s.getF b F.FRG_PPOFF_V

/-- FAB: the rows of both halves. -/
def fabRows (s : State) (c : Nat) (base : Fld) : List (Nat × Nat) :=
  (List.range (frgNch s c)).flatMap fun i => [(fabAddr s c base i 0, 32), (fabAddr s c base i 1, 32)]

/-- R317: a row lies in local memory and frames, at a multiple of 4. -/
def rowOk (r : Nat × Nat) : Bool := decide (0x400000 ≤ r.1 ∧ r.1 + 4 * r.2 ≤ 0x1000000 ∧ r.1 % 4 = 0)

/-- R317: a row reaches into FRM31. -/
def rowInRing (r : Nat × Nat) : Bool := decide (0xFC0000 < r.1 + 4 * r.2)

/-- Whether a row reaches into the program memory of core `k`. -/
def rowInPm (k : Nat) (r : Nat × Nat) : Bool := decide (r.1 < pmBase k + 4 * pmWords k ∧ pmBase k < r.1 + 4 * r.2)

/-- R287: a core whose program memory may be written. -/
def pmOpen (s : State) (k : Nat) : Bool := coreSt s k == 2 || coreSt s k == 6

/-- R36: a row of a destination reaches into a memory whose page is locked. -/
def rowLocked (s : State) (r : Nat × Nat) : Bool := (List.range r.2).any fun i => lockedOut s (r.1 + 4 * i)

/-- R36, R317: the destination rows are in no locked page's memory, else LOCKED; outside FRM31, else RANGE; and outside the program
memory of every core that is not STOPPED or HALTED, else STATE. -/
def destCheck (s : State) (rows : List (Nat × Nat)) : Code :=
  if rows.any (rowLocked s) then .locked
  else if rows.any rowInRing then .range
  else if (List.range 20).any fun k => !pmOpen s k && rows.any (rowInPm k) then .state
  else .done

/-- R317: the checks on starting a MEM transfer. -/
def memCheck (s : State) (c : Nat) : Code :=
  let b := frgBase c
  let w := s.getF b F.FRG_COUNT_WORDS
  let src := frgRows s c F.FRG_SRC_V F.FRG_STRIDE_SSTRIDE
  let dst := frgRows s c F.FRG_DST_V F.FRG_STRIDE_DSTRIDE
  if w ≤ 65536 ∧ dst.any (rowLocked s) then .locked
  else if w = 0 ∨ 65536 < w ∨ s.getF b F.FRG_COUNT_ROWS = 0 ∨ !src.all rowOk ∨ !dst.all rowOk then .range
  else destCheck s dst

/-- The DSP sources a FAB_OUT channel fills, as indices from 0x2C0. -/
def fabFirst (s : State) (c : Nat) (f : Fld) : Nat := s.getF (frgBase c) f % 256

/-- R317: the checks on enabling a FAB channel, in mode `m`. -/
def fabCheck (s : State) (c m : Nat) : Code :=
  let n := frgNch s c
  let first := fabFirst s c (if m = 1 then F.FRG_SRC_V else F.FRG_DST_V)
  let rows := fabRows s c (if m = 1 then F.FRG_DST_V else F.FRG_SRC_V)
  if m = 1 ∧ rows.any (rowLocked s) then .locked
  else if n = 0 ∨ 256 < first + n ∨ s.getF (frgBase c) F.FRG_STRIDE_SSTRIDE < 128 ∨ !rows.all rowOk then .range
  else if m = 1 then destCheck s rows
  else if (fabChans s 2).any fun e => e != c &&
      decide (fabFirst s e F.FRG_DST_V < first + n ∧ first < fabFirst s e F.FRG_DST_V + frgNch s e) then .state
  else .done

/-! ### Reading and copying -/

/-- What a Forager channel read: the address, the word, whether it held an uncorrectable error, and whether it was sealed. -/
structure FrgWord where
  a : Nat
  w : Word
  bad : Bool
  shut : Bool
deriving DecidableEq, Repr

/-- R226: a word of FRM31 with the samples outside the open region as 0; `shut` when none lies inside. -/
def ringWord (s : State) (a : Nat) : FrgWord :=
  let o := openHalves s (a - 0xFC0000)
  let w := wordAt s.mem a
  ⟨a, (if o.1 then w &&& 0xFFFF#32 else 0) ||| (if o.2 then w &&& 0xFFFF0000#32 else 0), false, !o.1 && !o.2⟩

/-- R318: a word as a channel reads it; with `still` false the seal has closed since the transfer began. -/
def frgRead (s : State) (still : Bool) (a : Nat) : FrgWord :=
  if 0xFC0000 ≤ a then (if still then ringWord s a else ⟨a, 0, false, true⟩)
  else if s.bad.contains a then ⟨a, 0, true, false⟩
  else ⟨a, wordAt s.mem a, false, false⟩

/-- R318: the outcome of a transfer from what it read: SEALED, CHECK or DONE. -/
def frgOutcome (ws : List FrgWord) : Code :=
  if ws.any (·.shut) then .sealed else if ws.any (·.bad) then .check else .done

/-- R36: a channel's write of a word: one of a memory whose page is locked is ignored. -/
def frgStore (s : State) (a : Nat) (w : Word) : State := if lockedOut s a then s else s.storeWord a w

/-- R316: one burst of up to 64 bytes: read, then written; with what was read. -/
def burst (still : Bool) (src dst n : Nat) (o : State × List FrgWord) : State × List FrgWord :=
  let ws := (List.range n).map fun i => frgRead o.1 still (src + 4 * i)
  (forEach (ws.mapIdx fun i w => (i, w)) (fun e s => frgStore s (dst + 4 * e.1) e.2.w) o.1, o.2 ++ ws)

/-- R316: the bursts of a transfer, as source, destination and words. -/
def bursts (s : State) (c : Nat) : List (Nat × Nat × Nat) :=
  ((frgRows s c F.FRG_SRC_V F.FRG_STRIDE_SSTRIDE).zip (frgRows s c F.FRG_DST_V F.FRG_STRIDE_DSTRIDE)).flatMap fun r =>
    (List.range ((r.1.2 + 15) / 16)).map fun i => (r.1.1 + 64 * i, r.2.1 + 64 * i, min 16 (r.1.2 - 16 * i))

/-- Copy bursts; what they read is kept. -/
def copyBursts (s : State) (still : Bool) (l : List (Nat × Nat × Nat)) : State × List FrgWord :=
  l.foldl (fun o b => burst still b.1 b.2.1 b.2.2 o) (s, [])

/-- R225: every refused access to the ring is recorded and counted. -/
def frgSealed (s : State) (c : Fin 32) (ws : List FrgWord) : State :=
  forEach (ws.filter (·.shut)) (fun w s => s.badAccess false .sealed (.forager c) w.a) s

/-- R225, R318: the records of what a transfer read: the refused accesses to the ring, an uncorrectable error. -/
def frgNote (s : State) (c : Fin 32) (ws : List FrgWord) (o : Code) : State :=
  let s := frgSealed s c ws
  let s := if o = .check then s.raise P.frg 24 else s
  if o = .sealed ∨ o = .check then s.err P.frg else s

/-- R36, R47: the words of a destination that locked pages refused, each recorded on its page. -/
def frgLocked (s : State) (r : Req) (as : List Nat) : State :=
  forEach (as.filter fun a => lockedOut s a) (fun a s => s.refuseAt r 0xFF a .locked) s

/-- The addresses a list of bursts writes. -/
def burstDests (l : List (Nat × Nat × Nat)) : List Nat := l.flatMap fun b => (List.range b.2.2).map fun i => b.2.1 + 4 * i

/-! ### MEM transfers -/

/-- R311, R316: who started the transfer of a channel, how often the seal had closed then, and the command code of the start (0xFF: a
direct write). -/
def frgStarter (s : State) (c : Nat) : Req × Nat × Nat := (alGet s.dsp.starter c).getD (.keeper, 0, 0xFF)

/-- R46, R316, R317: start a MEM transfer: its outcome, and the state with the channel BUSY. -/
def frgStart (r : Req) (c : Nat) : Act := fun s =>
  let k := memCheck s c
  if k = .locked ∨ k = .range then (k, s)
  else if frgSt s c = 0 ∨ frgMode s c ≠ 0 ∨ !frgOn s then (.state, s)
  else if k ≠ .done then (k, s)
  else if frgSt s c = 2 ∨ s.sys.entry.isSome then (.busy, s)
  else (.done, (setFrg s c 2).onDsp fun d => { d with starter := alSet d.starter c (r, s.sct.closes, 0xFF) })

/-- R47: the starts that a Plosto command made carry its code. -/
def frgStamp (cmd : Nat) (r : Req) (s : State) : State :=
  s.onDsp fun d => { d with starter := d.starter.map fun e => if e.2.1 = r ∧ e.2.2.2 = 0xFF then (e.1, r, e.2.2.1, cmd) else e }

/-- R311, R341: a start by a core or a cue; a refusal names the channel. R47 gives REFUSE.CMD for Plosto commands and direct writes,
of which this is neither: here CMD is 0 and the requester the channel (DESIGN CHOICE, log entry 76). -/
def frgSignal (s : State) (c : Fin 32) : State :=
  let o := frgStart (.forager c) c s
  if o.1 = .done then o.2 else o.2.refuse P.frg 0 (.forager c) (frgBase c + 0x400) o.1

/-- The end of a transfer: IDLE with its code; an outcome other than DONE is recorded (R47). -/
def frgEnd (s : State) (c : Fin 32) (o : Code) : State :=
  let b := frgStarter s c
  let cmd := if b.1 = .forager c then 0 else b.2.2
  let s := (setFrg s c 1).setF (frgBase c) F.FRG_STAT_CODE o.num
  if o = .done then s else s.refuse P.frg cmd b.1 (frgBase c + 0x400) o

/-- R318: a transfer aborted after a number of bursts that the manual does not say; the burst in flight leaves its
destination undefined. -/
def frgAbort (s : State) (c : Fin 32) : State :=
  if frgSt s c = 2 then
    let bs := bursts s c
    let still := (frgStarter s c).2.1 == s.sct.closes
    let n := s.draw
    let k := n.1.toNat % (bs.length + 1)
    let o := copyBursts n.2 still (bs.take k)
    let s := match bs[k]? with
      | some b => forEach (List.range b.2.2) (fun i s => let w := s.draw; frgStore w.2 (b.2.1 + 4 * i) w.1) o.1
      | none => o.1
    (frgEnd (frgLocked (frgSealed s c o.2) (.forager c) (burstDests (bs.take k))) c .aborted).raise P.frg 2
  else s

/-- R34, R318: every transfer is aborted. -/
def frgAbortAll (s : State) : State := forEach (List.finRange 32) (fun c s => frgAbort s c) s

/-- R36, R318: the outcome of a transfer: LOCKED where a locked page refused a word, else that of what it read. -/
def frgCode (s : State) (dests : List Nat) (ws : List FrgWord) : Code :=
  if dests.any (lockedOut s) then .locked else frgOutcome ws

/-- MEM_DONE (R316, R318): the transfer of channel `c` completes. -/
def execMemDone (c : Fin 32) (s : State) : Host.Outcome State Fault Refusal :=
  if frgSt s c = 2 ∧ frgOn s then
    let bs := bursts s c
    let o := copyBursts s ((frgStarter s c).2.1 == s.sct.closes) bs
    let code := frgCode s (burstDests bs) o.2
    let s := frgEnd (frgLocked (frgNote o.1 c o.2 code) (.forager c) (burstDests bs)) c code
    let s := s.raise P.frg 0
    .next (match frgCore s c with
      | some k => evtSet s k (1#32 <<< (1 + s.getF (frgBase c) F.FRG_CTRL_EVTBIT))
      | none => s)
  else .next s

/-! ### Register writes -/

/-- R319: FRG_USED after a change: USED counts the channels that are not FREE, HIGH the most of them. -/
def frgUsed (s : State) : State :=
  let n := ((List.range 32).filter fun c => s.isSet (frgBase c) F.FRG_CTRL_ALLOC).length
  (s.setF P.frg F.FRG_USED_USED n).setF P.frg F.FRG_USED_HIGH (max n (s.getF P.frg F.FRG_USED_HIGH))

/-- R319: REQ takes the lowest-numbered free channel. -/
def frgAlloc : Act := fun s =>
  if !frgOn s then (.state, s)
  else match (List.range 32).find? fun c => !s.isSet (frgBase c) F.FRG_CTRL_ALLOC with
    | none => (.full, s)
    | some c =>
      let s := setFrg (s.setF (frgBase c) F.FRG_CTRL_ALLOC 1) c 1
      (.done, frgUsed ((s.setF P.frg F.FRG_ALLOC_VALID 1).setF P.frg F.FRG_ALLOC_CHAN c))

/-- R319: a channel is freed. -/
def frgFree (s : State) (c : Nat) : State := frgUsed (setFrg (s.setF (frgBase c) F.FRG_CTRL_ALLOC 0) c 0)

/-- R317: the state a channel rests in: ARMED in an enabled FAB mode, else IDLE. -/
def frgRest (s : State) (c : Nat) : State :=
  setFrg s c (if s.isSet (frgBase c) F.FRG_CTRL_EN ∧ frgMode s c ≠ 0 then 3 else 1)

/-- A write of FRG_c_CTRL (R316, R317, R319). -/
def frgCtrlWrite (r : Req) (c : Nat) (v : Word) : Act := fun s =>
  let b := frgBase c
  let m := getField v 29 28
  let core := getField v 23 19
  let held := s.isSet b F.FRG_CTRL_EN || frgSt s c == 2
  if m = 3 ∨ (20 ≤ core ∧ core ≤ 30) ∨ getField v 18 16 = 7 then (.range, s)
  else
    let t := s.wr (b + 0x400) ((s.rd (b + 0x400) &&& 0x48000000#32) ||| (v &&& 0xB0FF0000#32))
    let arm : Code := if bit v 31 ∧ m ≠ 0 ∧ !held then fabCheck t c m else .done
    if arm = .range ∨ arm = .locked then (arm, s)
    else if bit v 30 then
      (if m = frgMode s c ∨ !held then
        (let o := frgStart r c t
         if o.1 = .done ∧ bit v 26 then (.state, s) else if o.1 = .done then o else (o.1, s))
       else (.state, s))
    else if frgSt s c = 0 ∨ (held ∧ m ≠ frgMode s c) ∨ (held ∧ bit v 26) ∨ arm ≠ .done ∨ (bit v 31 ∧ !frgOn s) then (.state, s)
    else if bit v 26 then (.done, frgFree (t.setF b F.FRG_CTRL_EN 0) c)
    else (.done, if frgSt s c = 2 then t else frgRest t c)

/-- The registers of the FRG page. -/
def frgWrite (r : Req) (off : Nat) (v : Word) : Act :=
  if off = 0x40 then (if bit v 0 then frgAlloc else yes id)
  else if off = 0x44 then yes fun s => s.setF P.frg F.FRG_USED_HIGH (s.getF P.frg F.FRG_USED_USED)
  else if off < 0x400 ∨ 0x800 ≤ off then plain (P.frg + off) v
  else
    let c := (off - 0x400) / 32
    let k := (off - 0x400) % 32
    if k = 0 then frgCtrlWrite r c v
    else if k ≤ 0x14 then
      need (fun s => frgSt s c == 1 && !s.isSet (frgBase c) F.FRG_CTRL_EN) .state (plain (P.frg + off) v)
    else plain (P.frg + off) v

/-- FRG_GO (R316): a write of FRG_c_CTRL with GO = 1. -/
def execFrgGo (r : Req) (c : Fin 32) (v : Word) (s : State) : Host.Outcome State Fault Refusal :=
  .next (hostWrite r (frgBase c + 0x400) (frgCtrlWrite r c (setField v 30 30 1)) s)

/-- FRG_ALLOC (R319): a write of FRG_ALLOC with REQ = 1. -/
def execFrgAlloc (r : Req) (s : State) : Host.Outcome State Fault Refusal :=
  .next (hostWrite r (P.frg + 0x40) frgAlloc s)

/-- FRG_FREE (R319): a write of FRG_c_CTRL with FREE = 1. -/
def execFrgFree (r : Req) (c : Fin 32) (v : Word) (s : State) : Host.Outcome State Fault Refusal :=
  .next (hostWrite r (frgBase c + 0x400) (frgCtrlWrite r c (setField (setField v 30 30 0) 26 26 1)) s)

/-! ### FAB transfers -/

/-- A channel's requester code, by its number. -/
def chanReq (c : Nat) : Req := .forager ⟨c % 32, Nat.mod_lt _ (by decide)⟩

/-- R313: a FAB_IN channel copies the last block of its sinks into half `h` of its buffer. -/
def fabInOne (s : State) (c b : Nat) : State :=
  let first := fabFirst s c F.FRG_SRC_V
  let cells := (List.range (frgNch s c)).flatMap fun i => (List.range 32).map fun j =>
    (fabAddr s c F.FRG_DST_V i (b % 2) + 4 * j, (alGet (s.dsp.last.getD j []) (0x2C0 + first + i)).getD 0)
  let s := forEach cells (fun e s => frgStore s e.1 (toWord e.2)) s
  let s := frgLocked s (chanReq c) (cells.map (·.1))
  let s := (s.setF (frgBase c) F.FRG_STAT_BLK (b % 256)).setF (frgBase c) F.FRG_STAT_CODE 0
  match frgCore s c with
  | some k => s.onCore k fun x => { x with owes := true }
  | none => s

/-- FAB_IN_TRANSFER (R313): at the start of a processing block, the enabled FAB_IN channels copy, in ascending order. -/
def execFabInTransfer (s : State) : Host.Outcome State Fault Refusal :=
  if s.dsp.inDue ∧ frgOn s ∧ s.sys.mode = .run then
    let b := blkOf s
    let t := s.onDsp fun d => { d with inDue := false }
    .next (if s.sys.entry.isSome then t else forEach (fabChans s 1) (fun c s => fabInOne s c b) t)
  else .next s

/-- FAB_IN_DONE (R310, R313): every FAB_IN transfer that names the core is complete. -/
def execFabInDone (c : Fin 20) (s : State) : Host.Outcome State Fault Refusal :=
  if (s.core c).owes then .next (evtSet (s.onCore c fun k => { k with owes := false }) c 1) else .next s

/-- R14: a DSP source presents zeros for a block in which a copy was due. -/
def dspUnderrun (s : State) (j : Nat) : State :=
  let s := (s.count (P.cmb + 0xC00 + 4 * j)).setF P.cmb F.CMB_UR_LAST_SOURCE (0x2C0 + j)
  (s.raise P.cmb 2).err P.cmb

/-- R314: the check of one FAB_OUT channel in block `b`. -/
def fabOutOne (s : State) (c : Fin 32) (b : Nat) : State :=
  let first := fabFirst s c F.FRG_DST_V
  let n := frgNch s c
  let inTime := match frgCore s c with
    | some k => (s.core k).done
    | none => false
  if inTime then
    let blocks := (List.range n).map fun i =>
      let a := fabAddr s c F.FRG_SRC_V i (b % 2)
      (List.range 32).map fun j => frgRead s true (a + 4 * j)
    let code := frgOutcome blocks.flatten
    let s := (s.setF (frgBase c) F.FRG_STAT_BLK (b % 256)).setF (frgBase c) F.FRG_STAT_CODE code.num
    let s := s.onDsp fun d => { d with next := d.next ++ blocks.mapIdx fun i l => (0x2C0 + first + i, l.map fun w => w.w.toInt) }
    let s := frgNote s c blocks.flatten code
    if code = .done then s else s.refuse P.frg 0xFF (.forager c) (frgBase c + 0x400) code
  else
    let s := forEach (List.range n) (fun i s => dspUnderrun s (first + i)) s
    ((s.bump (frgBase c) F.FRG_LATE_CNT_COUNT).raise P.frg 1).err P.frg

/-- R314, R325: a core without DONE in time in a block in which a FAB_OUT channel names it. -/
def coreLate (s : State) (k : Nat) : State :=
  ((s.bump (P.core k) F.W_LATE_CNT_COUNT).raise (P.core k) 3).err (P.core k)

/-- FAB_OUT_CHECK (R314): at the start of the last period of a block, the enabled FAB_OUT channels are checked. -/
def execFabOutCheck (s : State) : Host.Outcome State Fault Refusal :=
  if s.dsp.outDue ∧ frgOn s ∧ s.sys.mode = .run then
    let b := blkOf s
    let cs := fabChans s 2
    let late := (List.range 20).filter fun k => !(s.core k).done && cs.any fun c => frgCore s c == some k
    let t := s.onDsp fun d => { d with outDue := false, checked := true }
    let t := forEach ((List.finRange 32).filter fun c => cs.contains c.val) (fun c s => fabOutOne s c b) t
    .next (forEach late (fun k s => coreLate s k) t)
  else .next s

/-! ### The fabric's side -/

/-- R315, W_n_LOAD: LAST takes the cycles since the block boundary, which the model leaves free; MAX follows. -/
def loadTake (s : State) (c : Nat) : State :=
  let w := s.draw
  let n := w.1.toNat % 65536
  let s := w.2.setF (P.core c) F.W_LOAD_LAST n
  s.setF (P.core c) F.W_LOAD_MAX (max n (s.getF (P.core c) F.W_LOAD_MAX))

/-- R310, R314, R322: a core at a block boundary: a block without DONE ends, the watchdog counts, and a core that no
enabled FAB_IN channel names gets BLOCK. -/
def coreBoundary (s : State) (c : Nat) : State :=
  let running := coreSt s c == 3
  let s := if (running ∨ coreSt s c = 4) ∧ !(s.core c).done then loadTake s c else s
  let s := s.onCore c fun k => { k with done := false, busy := if running then k.busy + 1 else 0 }
  if coreSt s c = 0 ∨ (fabChans s 1).any fun ch => frgCore s ch == some c then s else evtSet s c 1

/-- R313, R314: a processing block begins: the blocks that were copied in time become the sources' block. -/
def dspBoundary (s : State) : State :=
  let s := s.onDsp fun d => { d with last := d.cur.reverse, cur := [], out := d.next, next := [], inDue := true,
                                     outDue := false, checked := s.sys.entry.isSome }
  forEach (List.range 20) (fun c s => coreBoundary s c) s

/-- R15 step 1: what the DSP sources present in period `k`. -/
def dspPresent (s : State) (k : Nat) : List (Nat × Int) :=
  s.dsp.out.map fun e => (e.1, e.2.getD (k % 32) 0)

/-- R312: the outputs of the DSP sinks in this period are kept for the block. -/
def dspRecord (s : State) : State :=
  s.onDsp fun d => { d with cur := (s.comb.outs.filter fun e => decide (0x2C0 ≤ e.1 ∧ e.1 < 0x3C0)) :: d.cur }

end Sys2Proof.Machine
end

