-- ==== Sys2Proof/Machine/Cores.lean ====
section
/-! DEFINITION. What each instruction of a core does (R292-R311), how a core issues it (R302, R307-R309, R322), and the
commands of the core pages (R320-R325). -/

namespace Sys2Proof.Machine

/-- How an instruction ends: it is passed; `n` instructions are passed; control goes to a target, from a branch, jump or
return (`jump`) or a call; the core waits for events of a mask; it halts; or it faults with a code of R322. -/
inductive CoreEnd where
  | pass
  | skip (n : Nat)
  | jump (t : Int)
  | call (t : Int)
  | hold (mask : Word)
  | halt
  | fault (code : Nat)
deriving DecidableEq, Repr

/-- What an instruction does on a core: the state with its results written, and how it ends. -/
abbrev CoreAct := Nat → State → State × CoreEnd

/-- An instruction that works on the core's registers alone. -/
def onRegs (f : CoreHid → CoreHid) : CoreAct := fun c s => (s.onCore c f, .pass)

/-- An instruction that writes a data register. -/
def toD (d : BitVec 5) (f : CoreHid → Word) : CoreAct := onRegs fun k => k.setD d.toNat (f k)

/-- The data register a 5-bit number names. -/
def CoreHid.r (k : CoreHid) (x : BitVec 5) : Word := k.dr x.toNat

/-! ### Data (R295, R296) -/

/-- NOP. -/
def opNop : CoreAct := onRegs id
/-- R295: ADD. -/
def opAdd (d x y : BitVec 5) : CoreAct := toD d fun k => k.r x + k.r y
/-- R295: SUB. -/
def opSub (d x y : BitVec 5) : CoreAct := toD d fun k => k.r x - k.r y
/-- R295: ADDS. -/
def opAdds (d x y : BitVec 5) : CoreAct := onRegs fun k => k.setSat d.toNat ((k.r x).toInt + (k.r y).toInt)
/-- R295: SUBS. -/
def opSubs (d x y : BitVec 5) : CoreAct := onRegs fun k => k.setSat d.toNat ((k.r x).toInt - (k.r y).toInt)
/-- R305: AND. -/
def opAnd (d x y : BitVec 5) : CoreAct := toD d fun k => k.r x &&& k.r y
/-- R305: OR. -/
def opOr (d x y : BitVec 5) : CoreAct := toD d fun k => k.r x ||| k.r y
/-- R305: XOR. -/
def opXor (d x y : BitVec 5) : CoreAct := toD d fun k => k.r x ^^^ k.r y
/-- R295: SHL; an amount of 32 or more gives 0. -/
def opShl (d x : BitVec 5) (n : ShiftBy) : CoreAct := toD d fun k => k.r x <<< shiftAmt k n
/-- R295: SHR. -/
def opShr (d x : BitVec 5) (n : ShiftBy) : CoreAct := toD d fun k => k.r x >>> shiftAmt k n
/-- R295: SAR; an amount of 32 or more gives the sign in every bit. -/
def opSar (d x : BitVec 5) (n : ShiftBy) : CoreAct := toD d fun k => (k.r x).sshiftRight (shiftAmt k n)
/-- R295: SHLS. -/
def opShls (d x : BitVec 5) (n : ShiftBy) : CoreAct := onRegs fun k => k.setSat d.toNat ((k.r x).toInt * 2 ^ shiftAmt k n)
/-- R305: MIN, signed. -/
def opMin (d x y : BitVec 5) : CoreAct := toD d fun k => if (k.r x).toInt ≤ (k.r y).toInt then k.r x else k.r y
/-- R305: MAX, signed. -/
def opMax (d x y : BitVec 5) : CoreAct := toD d fun k => if (k.r x).toInt ≤ (k.r y).toInt then k.r y else k.r x
/-- R295: ABS; the most negative number saturates. -/
def opAbs (d x : BitVec 5) : CoreAct := onRegs fun k => k.setSat d.toNat (k.r x).toInt.natAbs
/-- R295: MUL. -/
def opMul (d x y : BitVec 5) : CoreAct := toD d fun k => k.r x * k.r y
/-- R295: ADDI. -/
def opAddi (d x : BitVec 5) (imm : BitVec 16) : CoreAct := toD d fun k => k.r x + imm.signExtend 32
/-- R295: ANDI. -/
def opAndi (d x : BitVec 5) (imm : BitVec 16) : CoreAct := toD d fun k => k.r x &&& imm.setWidth 32
/-- R295: ORI. -/
def opOri (d x : BitVec 5) (imm : BitVec 16) : CoreAct := toD d fun k => k.r x ||| imm.setWidth 32
/-- R295: XORI. -/
def opXori (d x : BitVec 5) (imm : BitVec 16) : CoreAct := toD d fun k => k.r x ^^^ imm.setWidth 32
/-- R295: LUI. -/
def opLui (d : BitVec 5) (imm : BitVec 16) : CoreAct := toD d fun _ => imm.setWidth 32 <<< 16
/-- R296: EXP. -/
def opExp (d x : BitVec 5) : CoreAct := toD d fun k => BitVec.ofNat 32 (rsb 32 (k.r x).toInt)
/-- R296: NORM; the count stands where Dd and Dt are the same register (log entry 40). -/
def opNorm (d y x : BitVec 5) : CoreAct := onRegs fun k =>
  let n := rsb 32 (k.r x).toInt
  (k.setD d.toNat (k.r x <<< n)).setD y.toNat (BitVec.ofNat 32 n)

/-! ### Accumulators (R292-R294, R297, R298) -/

/-- R297: the shift that places a value as a normalised Q1.31. -/
def normShift (c : Nat) (x : Int) : Int := (rsb (accW c) x : Int) - (accW c - 63)

/-- R297: an accumulator after NORMA; 0 and -1 are unchanged, as the table of R297 says (log entry 41). -/
def normed (c : Nat) (x : Int) : Int :=
  let e := normShift c x
  if x = 0 ∨ x = -1 then x else if 0 ≤ e then x * 2 ^ e.toNat else x / 2 ^ (-e).toNat

/-- R297: EXPA. -/
def opExpa (d : BitVec 5) (a : BitVec 3) : CoreAct := fun c s => toD d (fun k => toWord (normShift c (k.ac a.toNat))) c s
/-- R297: NORMA. -/
def opNorma (a : BitVec 3) (d : BitVec 5) : CoreAct := fun c s =>
  (s.onCore c fun k =>
    let x := k.ac a.toNat
    (k.setD d.toNat (toWord (normShift c x))).setA (accW c) a.toNat (normed c x), .pass)
/-- R298: DIVS. -/
def opDivs (a : BitVec 3) (x : BitVec 5) : CoreAct := fun c s =>
  (s.onCore c fun k =>
    let r := divStep (k.ac a.toNat) (k.r x).toInt
    let k := if r.2 then k.flag 17 else k
    k.setA (accW c) a.toNat r.1, .pass)
/-- R292: MVA. -/
def opMva (d : BitVec 5) (a : BitVec 3) (part : BitVec 2) (rnd : Bool) : CoreAct := onRegs fun k =>
  let x := k.ac a.toNat
  if part = 0 then
    let r := mvaScaled k x rnd
    let k := if r.2 then k.flag (8 + a.toNat) else k
    k.setD d.toNat (toWord r.1)
  else k.setD d.toNat (toWord (x / 2 ^ (32 * (part.toNat - 1))))
/-- R293: MVD. -/
def opMvd (a : BitVec 3) (x : BitVec 5) (part : BitVec 2) : CoreAct := fun c s =>
  (s.onCore c fun k => k.setA (accW c) a.toNat (mvdPart (accW c) (k.ac a.toNat) (k.r x) part.toNat), .pass)
/-- R294: CLR. -/
def opAccClr (a : BitVec 3) : CoreAct := fun c s => (s.onCore c fun k => k.setA (accW c) a.toNat 0, .pass)
/-- R294: MOV. -/
def opAccMov (a e : BitVec 3) : CoreAct := fun c s => (s.onCore c fun k => k.setA (accW c) a.toNat (k.ac e.toNat), .pass)
/-- R294: ADD. -/
def opAccAdd (a e : BitVec 3) : CoreAct := fun c s =>
  (s.onCore c fun k => k.accumulate (accW c) a.toNat (k.ac a.toNat + k.ac e.toNat), .pass)
/-- R294: SUB. -/
def opAccSub (a e : BitVec 3) : CoreAct := fun c s =>
  (s.onCore c fun k => k.accumulate (accW c) a.toNat (k.ac a.toNat - k.ac e.toNat), .pass)
/-- R294: NEG. -/
def opAccNeg (a e : BitVec 3) : CoreAct := fun c s =>
  (s.onCore c fun k => k.accumulate (accW c) a.toNat (-k.ac e.toNat), .pass)
/-- R294: SHIFT by -79..+79; the manual gives no result for other amounts, whose value and OV are free (log entry 42). -/
def opAccShift (a e : BitVec 3) (imm : BitVec 8) : CoreAct := fun c s =>
  let n := imm.toInt
  if -79 ≤ n ∧ n ≤ 79 then
    (s.onCore c fun k =>
      let x := k.ac e.toNat
      if 0 ≤ n then k.accumulate (accW c) a.toNat (x * 2 ^ n.toNat) else k.setA (accW c) a.toNat (x / 2 ^ (-n).toNat), .pass)
  else
    let u := s.draw
    let v := u.2.draw
    let w := v.2.draw
    (w.2.onCore c fun k =>
      let k := if w.1.getLsbD 31 then k.flag a.toNat else k
      k.setA (accW c) a.toNat (u.1.toNat + 2 ^ 32 * v.1.toNat + 2 ^ 64 * (w.1.toNat % 2 ^ 16)), .pass)

/-! ### Memory (R299, R305) -/

/-- R299: the addresses of the `n` words from word `j` on of an access of unit `u`. -/
def agAddrs (k : CoreHid) (u n : Nat) (j : Int) : List Nat :=
  (List.range n).map fun i => agAddr k u (k.p.getD u 0) (j + i)

/-- Load the words at a list of addresses into the data registers from `d` on, then change the core. -/
def load (d : Nat) (addrs : CoreHid → List Nat) (post : CoreHid → CoreHid) : CoreAct := fun c s =>
  match dmRead s c (addrs (s.core c)) with
  | .error e => (s, .fault e)
  | .ok ws => (s.onCore c fun k => post (forEach (ws.mapIdx fun i w => (i, w)) (fun e k => k.setD (d + e.1) e.2) k), .pass)

/-- R299: a store faults before it writes anything when one of its addresses lies beyond data memory (log entry 43). -/
def store (x : Nat) (addrs : CoreHid → List Nat) (post : CoreHid → CoreHid) : CoreAct := fun c s =>
  let k := s.core c
  let l := addrs k
  if l.any fun a => decide (dmWords c ≤ a) then (s, .fault 3)
  else ((dmWrite s c (l.mapIdx fun i a => (a, k.dr (x + i)))).onCore c post, .pass)

/-- R305: LD. -/
def opLd (d : BitVec 5) (u : BitVec 3) (m : StepBy) : CoreAct :=
  load d.toNat (fun k => agAddrs k u.toNat 1 0) fun k => agStep k u.toNat (stepBy k u.toNat m)
/-- R305: ST. -/
def opSt (x : BitVec 5) (u : BitVec 3) (m : StepBy) : CoreAct :=
  store x.toNat (fun k => agAddrs k u.toNat 1 0) fun k => agStep k u.toNat (stepBy k u.toNat m)
/-- R305: LDG. -/
def opLdg (d : BitVec 5) (u : BitVec 3) (m : StepBy) : CoreAct := fun c s =>
  load d.toNat (fun k => agAddrs k u.toNat (grpSize c) 0) (fun k => agStep k u.toNat (stepBy k u.toNat m)) c s
/-- R305: STG. -/
def opStg (x : BitVec 5) (u : BitVec 3) (m : StepBy) : CoreAct := fun c s =>
  store x.toNat (fun k => agAddrs k u.toNat (grpSize c) 0) (fun k => agStep k u.toNat (stepBy k u.toNat m)) c s
/-- R305: LDX. -/
def opLdx (d : BitVec 5) (u : BitVec 3) (imm : BitVec 17) : CoreAct :=
  load d.toNat (fun k => agAddrs k u.toNat 1 imm.toInt) id
/-- R305: STX. -/
def opStx (x : BitVec 5) (u : BitVec 3) (imm : BitVec 17) : CoreAct :=
  store x.toNat (fun k => agAddrs k u.toNat 1 imm.toInt) id
/-- R305: PADV. -/
def opPadv (u : BitVec 3) (m : StepBy) : CoreAct := onRegs fun k => agStep k u.toNat (stepBy k u.toNat m)

/-! ### Multiplies (R290, R291, R304) -/

/-- R304: accumulator `i` of the group after the multiply `op`: 0 MAC, 1 MSU, 2 MPY, 3 MACX. -/
def macOne (op c g : Nat) (m : MacOps) (old : CoreHid) (i : Nat) (k : CoreHid) : CoreHid :=
  let n := g * m.aq.toNat + i
  let a := old.ac n
  let p := macProduct old g m i (if op = 3 then Nat.xor i 1 else i)
  k.accumulate (accW c) n (if op = 1 then a - p else if op = 2 then p else a + p)

/-- R302: one of the two loads: the words read and the core with the pointer unit updated. -/
def macLoad (s : State) (c g : Nat) (on : Bool) (u : BitVec 3) (byG : Bool) (k : CoreHid) : Except Nat (List Word × CoreHid) :=
  if on then
    match dmRead s c (agAddrs k u.toNat g 0) with
    | .ok ws => .ok (ws, agStep k u.toNat (if byG then g else k.t.getD u.toNat 0))
    | .error e => .error e
  else .ok ([], k)

/-- R302: write a loaded group. -/
def macWrite (g : Nat) (d : BitVec 3) (ws : List Word) (k : CoreHid) : CoreHid :=
  forEach (ws.mapIdx fun i w => (i, w)) (fun e k => k.setD (g * d.toNat + e.1) e.2) k

/-- R302, R304: an M-format instruction: the multiplies with the operands as they stood, load 1, load 2, and both
destinations written, load 2 last. -/
def opMacs (op : Nat) (m : MacOps) : CoreAct := fun c s =>
  let g := grpSize c
  let old := s.core c
  let k := forEach (List.range g) (fun i k => macOne op c g m old i k) old
  match macLoad s c g m.l1 m.l1u m.s1 k with
  | .error e => (s, .fault e)
  | .ok r1 => match macLoad s c g m.l2 m.l2u m.s2 r1.2 with
    | .error e => (s, .fault e)
    | .ok r2 => (s.onCore c fun _ => macWrite g m.l2d r2.1 (macWrite g m.l1d r1.1 r2.2), .pass)

/-! ### Control registers (R289) -/

/-- R289: the value MVC reads from control register `n`. -/
def ctlRead (s : State) (c n : Nat) : Word :=
  let k := s.core c
  let p := P.core c
  if n = 0x00 then k.sr
  else if n = 0x01 then BitVec.ofNat 32 (unsigned 4 k.scale)
  else if n = 0x02 then k.purev.setWidth 32
  else if n = 0x03 then BitVec.ofNat 32 k.lcnt
  else if n = 0x04 then BitVec.ofNat 32 (blkOf s)
  else if n = 0x05 then s.rd (p + 0x54)
  else if n = 0x06 then k.cycHi.getD (s.rd (p + 0x58))
  else if n = 0x07 then s.rd (p + 0x4C)
  else if n = 0x08 then BitVec.ofNat 32 ((if isQueen c then 0x100 else 0) + c)
  else if n < 0x20 then 0
  else
    let u := n % 8
    if n < 0x28 then BitVec.ofNat 32 (k.p.getD u 0)
    else if n < 0x30 then BitVec.ofNat 32 (k.h.getD u 0)
    else if n < 0x38 then BitVec.ofNat 32 (k.z.getD u 0)
    else toWord (k.t.getD u 0)

/-- R288, R301: a pointer unit's register written: file 0 P, 1 H, 2 Z, 3 T. -/
def CoreHid.setPu (k : CoreHid) (file u : Nat) (v : Word) : CoreHid :=
  let n := v.toNat % 2 ^ 17
  if file = 0 then { k with p := modifyAt (fun _ => n) u k.p }
  else if file = 1 then { k with h := modifyAt (fun _ => n) u k.h }
  else if file = 2 then { k with z := modifyAt (fun _ => n) u k.z }
  else { k with t := modifyAt (fun _ => signed 18 v.toNat) u k.t }

/-- R289, R305: MVC; a read of CYC_LO captures CYC_HI, and one of CYC_HI empties the capture. -/
def opMvc (d : BitVec 5) (reg : BitVec 6) : CoreAct := fun c s =>
  let w := ctlRead s c reg.toNat
  let hi := s.rd (P.core c + 0x58)
  (s.onCore c fun k =>
    let k := k.setD d.toNat w
    if reg = 0x05#6 then { k with cycHi := some hi } else if reg = 0x06#6 then { k with cycHi := none } else k, .pass)

/-- R289, R305: MVCS. -/
def opMvcs (x : BitVec 5) (reg : BitVec 6) : CoreAct := fun c s =>
  let v := (s.core c).r x
  let n := reg.toNat
  if n = 0x07 then (s.wr (P.core c + 0x4C) (s.rd (P.core c + 0x4C) &&& ~~~ v), .pass)
  else onRegs (fun k =>
    if n = 0x00 then { k with sr := k.sr &&& ~~~ v }
    else if n = 0x01 then { k with scale := scaleOf (signed 4 v.toNat) }
    else if n = 0x02 then { k with purev := v.setWidth 8 }
    else if n < 0x20 then k
    else k.setPu ((n - 0x20) / 8) (n % 8) v) c s

/-! ### Control flow (R305-R308) -/

/-- R306: a branch condition on Ds and Dt. -/
def condHolds (cond : BitVec 4) (x y : Word) : Bool :=
  match cond.toNat with
  | 0 => x == y
  | 1 => x != y
  | 2 => decide (x.toInt < y.toInt)
  | 3 => decide (y.toInt ≤ x.toInt)
  | 4 => decide (x.toNat < y.toNat)
  | 5 => decide (y.toNat ≤ x.toNat)
  | 6 => x &&& y != 0
  | 7 => x &&& y == 0
  | _ => true

/-- R305, R306: B. -/
def opB (x y : BitVec 5) (cond : BitVec 4) (off : BitVec 12) : CoreAct := fun c s =>
  let k := s.core c
  (s, if condHolds cond (k.r x) (k.r y) then .jump (k.pc + 1 + off.toInt) else .pass)
/-- R305: JMP. -/
def opJmp (target : BitVec 16) : CoreAct := fun _ s => (s, .jump target.toNat)
/-- R305, R308: CALL. -/
def opCall (target : BitVec 16) : CoreAct := fun c s =>
  let k := s.core c
  if 8 ≤ k.calls.length then (s, .fault 6)
  else (s.onCore c fun k => { k with calls := (k.pc + 1) :: k.calls }, .call target.toNat)
/-- R305, R308: RET. -/
def opRet : CoreAct := fun c s =>
  match (s.core c).calls with
  | [] => (s, .fault 6)
  | t :: _ => (s.onCore c fun k => { k with calls := k.calls.tail }, .jump t)
/-- R307, R308: LOOP; a count of 0 skips the body. -/
def opLoop (n : LoopBy) (len : BitVec 10) : CoreAct := fun c s =>
  let k := s.core c
  let count := match n with
    | .imm v => v.toNat
    | .reg x => (k.r x).toNat
  if count = 0 then (s, .skip (len.toNat + 1))
  else if 4 ≤ k.loops.length then (s, .fault 6)
  else (s.onCore c fun k => { k with loops := ⟨k.pc + 1, k.pc + len.toNat, count⟩ :: k.loops }, .call (k.pc + 1))

/-! ### Signals (R311, R314) -/

/-- R311: WAIT. -/
def opWait (x : BitVec 5) : CoreAct := fun c s =>
  let m := (s.core c).r x
  (s, if s.rd (P.core c + 0x4C) &&& m ≠ 0 then .pass else .hold m)
/-- R311: SIG with TGT 0. -/
def opSigCore (k : BitVec 5) (bits : Byte) : CoreAct := fun _ s => (evtSet s k.toNat (bits.setWidth 32 <<< 8), .pass)
/-- R311: SIG with TGT 1. -/
def opSigForager (bits : Byte) : CoreAct := fun _ s =>
  (frgSignal s ⟨bits.toNat % 32, Nat.mod_lt _ (by decide)⟩, .pass)
/-- R311: SIG with TGT 2. -/
def opSigKeeper (bits : Byte) : CoreAct := fun c s =>
  ((s.setF (P.core c) F.W_STAT_USER bits.toNat).raise (P.core c) 1, .pass)
/-- R311, R314: DONE; one after the check of the block is late and is discarded. -/
def opDone : CoreAct := fun c s =>
  if s.dsp.checked ∨ (s.core c).done then (s, .pass)
  else ((loadTake s c).onCore c fun k => { k with done := true }, .pass)
/-- R305: HALT. -/
def opHalt : CoreAct := fun _ s => (s, .halt)

/-- What each instruction does. -/
def CoreInstr.act : CoreInstr → CoreAct
  | .nop => opNop
  | .add d x y => opAdd d x y | .sub d x y => opSub d x y | .adds d x y => opAdds d x y | .subs d x y => opSubs d x y
  | .and d x y => opAnd d x y | .or d x y => opOr d x y | .xor d x y => opXor d x y
  | .shl d x n => opShl d x n | .shr d x n => opShr d x n | .sar d x n => opSar d x n | .shls d x n => opShls d x n
  | .min d x y => opMin d x y | .max d x y => opMax d x y | .abs d x => opAbs d x | .mul d x y => opMul d x y
  | .addi d x i => opAddi d x i | .andi d x i => opAndi d x i | .ori d x i => opOri d x i | .xori d x i => opXori d x i
  | .lui d i => opLui d i
  | .exp d x => opExp d x | .expa d a => opExpa d a | .norm d y x => opNorm d y x | .norma a d => opNorma a d
  | .divs a x => opDivs a x | .mva d a p r => opMva d a p r | .mvd a x p => opMvd a x p
  | .accClr a => opAccClr a | .accMov a e => opAccMov a e | .accAdd a e => opAccAdd a e | .accSub a e => opAccSub a e
  | .accNeg a e => opAccNeg a e | .accShift a e i => opAccShift a e i
  | .ld d u m => opLd d u m | .st x u m => opSt x u m | .ldg d u m => opLdg d u m | .stg x u m => opStg x u m
  | .ldx d u _ i => opLdx d u i | .stx x u _ i => opStx x u i | .padv u m => opPadv u m
  | .mvc d n => opMvc d n | .mvcs x n => opMvcs x n
  | .b x y q o => opB x y q o | .jmp t => opJmp t | .call t => opCall t | .ret => opRet | .loop n l => opLoop n l
  | .wait x => opWait x | .sigCore k v => opSigCore k v | .sigForager v => opSigForager v | .sigKeeper v => opSigKeeper v
  | .done => opDone | .halt => opHalt
  | .mac m => opMacs 0 m | .msu m => opMacs 1 m | .mpy m => opMacs 2 m | .macx m => opMacs 3 m

/-! ### Issue -/

/-- R302: the data registers an instruction reads. -/
def CoreInstr.srcs (g : Nat) (i : CoreInstr) : List Nat :=
  match i with
  | .mac m => groups m | .msu m => groups m | .mpy m => groups m | .macx m => groups m
  | .st .. => all | .stg .. => all | .stx .. => all | .mvcs .. => all | .b .. => all | .loop .. => all | .wait .. => all
  | .divs .. => all | .mvd .. => all
  | .norm _ _ x => [x.toNat]
  | _ => (all.drop 1)
where
  /-- The registers named, as numbers. -/
  all : List Nat := (i.dRegs g).map (·.toNat)
  /-- The words of the two operand groups. -/
  groups (m : MacOps) : List Nat := (List.range g).flatMap fun j => [g * m.xs.toNat + j, g * m.ys.toNat + j]

/-- R302: the data registers an instruction loads. -/
def CoreInstr.loads (g : Nat) (i : CoreInstr) : List Nat :=
  match i with
  | .ld d _ _ => [d.toNat]
  | .ldx d _ _ _ => [d.toNat]
  | .ldg .. => (i.dRegs g).map (·.toNat)
  | .mac m => macs m | .msu m => macs m | .mpy m => macs m | .macx m => macs m
  | _ => []
where
  /-- The groups an M-format instruction loads. -/
  macs (m : MacOps) : List Nat := (List.range g).flatMap fun j =>
    (if m.l1 then [g * m.l1d.toNat + j] else []) ++ (if m.l2 then [g * m.l2d.toNat + j] else [])

/-- R302: the accumulators an instruction writes late. -/
def CoreInstr.sums (g : Nat) (i : CoreInstr) : List Nat :=
  match i with
  | .norma a _ => [a.toNat]
  | .divs a _ => [a.toNat]
  | .mvd a _ _ => [a.toNat]
  | .accClr a => [a.toNat] | .accMov a _ => [a.toNat] | .accAdd a _ => [a.toNat] | .accSub a _ => [a.toNat]
  | .accNeg a _ => [a.toNat] | .accShift a _ _ => [a.toNat]
  | .mac m => macs m | .msu m => macs m | .mpy m => macs m | .macx m => macs m
  | _ => []
where
  /-- The accumulator group of an M-format instruction. -/
  macs (m : MacOps) : List Nat := (List.range g).map fun j => g * m.aq.toNat + j

/-- R302: the accumulator that MVA or EXPA reads. -/
def CoreInstr.taken : CoreInstr → List Nat
  | .mva _ a _ _ => [a.toNat]
  | .expa _ a => [a.toNat]
  | _ => []

/-- R302: the cycles of an instruction: one, those of the interlocks, and two for a transfer of control. -/
def coreCycles (k : CoreHid) (g : Nat) (i : CoreInstr) (e : CoreEnd) : Nat :=
  1 + (if (i.srcs g).any k.loaded.contains then 1 else 0) + (if i.taken.any k.summed.contains then 1 else 0) +
    (match i, e with
     | .loop .., _ => 0
     | _, .jump _ => 2
     | _, .call _ => 2
     | _, _ => 0)

/-- R307: the loops a transfer to a target leaves active. -/
def loopsFor (t : Int) (l : List CoreLoop) : List CoreLoop := l.dropWhile fun x => decide (t < x.first ∨ x.last < t)

/-- R302, R307, R311, R322: the end of an instruction. -/
def coreEnd (s0 : State) (c : Nat) (r : State × CoreEnd) : State :=
  match r.2 with
  | .pass => r.1.onCore c (CoreHid.advance 1)
  | .skip n => r.1.onCore c (CoreHid.advance n)
  | .jump t => r.1.onCore c fun k => { k with loops := loopsFor t k.loops, pc := t }
  | .call t => r.1.onCore c fun k => { k with pc := t }
  | .hold m => (r.1.onCore c fun k => { k with mask := m, busy := 0 }).setSt (P.core c) 4
  | .halt => (r.1.setSt (P.core c) 6).raise (P.core c) 0
  | .fault code => coreFault s0 c code

/-- R302, R309: core `c` executes a legal instruction. -/
def coreExec (c : Nat) (i : CoreInstr) (s : State) : State :=
  let g := grpSize c
  let r := i.act c s
  match r.2 with
  | .fault code => coreFault s c code
  | _ =>
    let n := coreCycles (s.core c) g i r.2
    let t := (coreEnd s c r).onCore c fun k => { k with loaded := i.loads g, summed := i.sums g }
    t.set64 (P.core c + 0x54) (t.get64 (P.core c + 0x54) + BitVec.ofNat 64 n)

/-- R308, R309, R322: core `c` comes to an instruction: `none` when its word spells none. -/
def coreAt (c : Nat) (i : Option CoreInstr) (s : State) : State :=
  let pc := (s.core c).pc
  if pc < 0 ∨ pmWords c ≤ pc then coreFault s c 2
  else if s.bad.contains (pmBase c + 4 * pc.toNat) then coreFault s c 4
  else match i with
    | none => coreFault s c 1
    | some i => if i.legal c then coreExec c i s else coreFault s c 1

/-- Whether core `c` issues instructions: it is RUNNING and its clock runs. -/
def coreLive (s : State) (c : Nat) : Bool := coreSt s c == 3 && s.sys.mode == .run && !s.sys.held

/-- A core that is RUNNING issues an instruction; in any other state it issues none. -/
def coreIssue (c : Fin 20) (i : CoreInstr) (s : State) : State := if coreLive s c then coreAt c (some i) s else s

/-! ### The core's page -/

/-- The word at the core's PC. -/
def coreWord (s : State) (c : Nat) : Word := wordAt s.mem (pmBase c + 4 * (s.core c).pc.toNat)

/-- R321: STEP executes the instruction at the PC and re-enters PAUSED. -/
def coreStep (s : State) (c : Nat) : State :=
  let s := coreAt c (decodeCore (coreWord s c)) (s.setSt (P.core c) 3)
  if coreSt s c = 3 ∨ coreSt s c = 4 then s.setSt (P.core c) 5 else s

/-- R321: START. -/
def coreStart (s : State) (c : Nat) : State :=
  let p := P.core c
  let e := s.getF p F.W_CFG_ENTRY
  let s := s.onCore c fun k => { k with pc := e, calls := [], loops := [], sr := 0, busy := 0, loaded := [], summed := [] }
  (s.wr (p + 0x4C) 0).setSt p 3

/-- R317: the program memory of core `c` is the destination of a BUSY transfer. -/
def pmBusy (s : State) (c : Nat) : Bool :=
  (List.range 32).any fun ch => frgSt s ch == 2 && (frgRows s ch F.FRG_DST_V F.FRG_STRIDE_DSTRIDE).any (rowInPm c)

/-- R320: whether a core's state accepts control bit `b`: 0 START, 1 STOP, 2 PAUSE, 3 RESUME, 4 STEP, 5 CLR_FLT. -/
def ctlAccepts (st b : Nat) : Bool :=
  match b with
  | 0 => st == 2 || st == 6
  | 1 => st == 3 || st == 4 || st == 5 || st == 6
  | 2 => st == 3 || st == 4
  | 3 => st == 5
  | 4 => st == 5
  | _ => st == 7

/-- R321, R322: the action of a control bit. -/
def coreCtl (s : State) (c b : Nat) : State :=
  let p := P.core c
  match b with
  | 0 => coreStart s c
  | 1 => s.setSt p 2
  | 2 => s.setSt p 5
  | 3 => s.setSt p 3
  | 4 => coreStep s c
  | _ => ((s.setF p F.W_STAT_FLT 0).setF p F.PG_STAT_FAULT 0).setSt p 2

/-- R323: whether a requester is the host: a port or a Plosto command. -/
def isHost : Req → Bool
  | .keeper => false
  | .forager _ => false
  | _ => true

/-- A write of W_n_CTRL (R320, R323). -/
def coreCtrlWrite (r : Req) (c : Nat) (v : Word) : Act := fun s =>
  match (List.range 6).filter fun b => bit v b with
  | [] => (.done, s)
  | [b] =>
    if isHost r ∧ s.isSet (P.core c) F.W_CFG_SVC then (.state, s)
    else if !ctlAccepts (coreSt s c) b then (.state, s)
    else if b = 0 ∧ pmBusy s c then (.busy, s)
    else (.done, coreCtl s c b)
  | _ => (.range, s)

/-- R320: a write of the debug window is accepted in STOPPED, PAUSED and HALTED. -/
def debugWritable (st : Nat) : Bool := st == 2 || st == 5 || st == 6

/-- R320: a read of the debug window is accepted in those states and in FAULT. -/
def debugReadable (st : Nat) : Bool := debugWritable st || st == 7

/-- The debug window's register at an offset written. -/
def debugSet (c off : Nat) (v : Word) (k : CoreHid) : CoreHid :=
  if off < 0x180 then
    (let i := (off - 0x100) / 4
     if isQueen c ∨ i < 16 then k.setD i v else k)
  else if off < 0x200 then
    (let a := (off - 0x180) / 16
     let x := k.ac a
     let w := accW c
     if !isQueen c ∧ 4 ≤ a then k
     else match (off - 0x180) % 16 with
       | 0 => k.setA w a (x / 2 ^ 32 * 2 ^ 32 + v.toNat)
       | 4 => k.setA w a (x / 2 ^ 64 * 2 ^ 64 + v.toNat * 2 ^ 32 + x % 2 ^ 32)
       | 8 => k.setA w a (signed (w - 64) v.toNat * 2 ^ 64 + x % 2 ^ 64)
       | _ => k)
  else if off < 0x280 then k.setPu ((off - 0x200) / 32) ((off - 0x200) / 4 % 8) v
  else if off = 0x280 then { k with sr := k.sr &&& ~~~ v }
  else if off = 0x284 then { k with scale := scaleOf (signed 4 v.toNat) }
  else if off = 0x288 then { k with purev := v.setWidth 8 }
  else if off = 0x28C then { k with pc := ((v.toNat % 2 ^ 15 : Nat) : Int) }
  else k

/-- The debug window's register at an offset. -/
def debugGet (s : State) (c off : Nat) : Word :=
  let k := s.core c
  if off < 0x180 then
    (let i := (off - 0x100) / 4
     if isQueen c ∨ i < 16 then k.dr i else 0)
  else if off < 0x200 then
    (let a := (off - 0x180) / 16
     if !isQueen c ∧ 4 ≤ a then 0
     else match (off - 0x180) % 16 with
       | 0 => toWord (k.ac a)
       | 4 => toWord (k.ac a / 2 ^ 32)
       | 8 => toWord (k.ac a / 2 ^ 64)
       | _ => 0)
  else if off < 0x260 then ctlRead s c (0x20 + (off - 0x200) / 4)
  else if off < 0x280 then BitVec.ofNat 32 (unsigned 18 (k.t.getD ((off - 0x260) / 4) 0))
  else if off = 0x280 then k.sr
  else if off = 0x284 then BitVec.ofNat 32 (unsigned 4 k.scale)
  else if off = 0x288 then k.purev.setWidth 32
  else if off = 0x28C then BitVec.ofNat 32 (unsigned 15 k.pc)
  else 0

/-- The registers of a core's page. -/
def coreWrite (r : Req) (c off : Nat) (v : Word) : Act :=
  let p := P.core c
  if off = 0x40 then (if pmWords c ≤ getField v 31 16 then no .range else plain (p + off) v)
  else if off = 0x44 then coreCtrlWrite r c v
  else if off = 0x50 then yes fun s => if s.st p = 0 then s else evtSet s c (v &&& 0xFF000000#32)
  else if off = 0x5C then yes fun s => s.setF p F.W_LOAD_MAX (s.getF p F.W_LOAD_LAST)
  else if 0x100 ≤ off ∧ off < 0x290 then
    need (fun s => debugWritable (coreSt s c)) .state (yes fun s => s.onCore c (debugSet c off v))
  else plain (p + off) v

/-- R287, R323: a write of a core's local memory from outside, at an offset of it. -/
def localWrite (r : Req) (c off : Nat) (v : Word) : Act := fun s =>
  if isHost r ∧ s.isSet (P.core c) F.W_CFG_SVC then (.state, s)
  else if off < 4 * pmWords c ∧ !pmOpen s c then (.state, s)
  else (.done, s.storeWord (pmBase c + off) v)

/-- R34: a core whose page is disabled stops. -/
def coreDisable (s : State) (c : Nat) : State := s.setSt (P.core c) 0

/-- R35: a core after a soft reset of its page; its memories and its cycle count are kept. -/
def coreClear (s : State) (c : Nat) : State := s.onCore c fun _ => CoreHid.reset

/-- R324: a core when its domain loses power. -/
def coreLost (s : State) (c : Nat) : State :=
  let lo := pmBase c
  (s.zeroMem lo (lo + localSize c)).onCore c fun _ => CoreHid.reset

/-- A write of W_n_CTRL with one of its bits set. -/
def coreCtlRow (r : Req) (c : Fin 20) (b : Nat) (v : Word) (s : State) : State :=
  hostWrite r (P.core c + 0x44) (coreCtrlWrite r c (v ||| 1#32 <<< b)) s

/-- CORE_START (R321): a write of W_n_CTRL with START = 1. -/
def execCoreStart (r : Req) (c : Fin 20) (v : Word) (s : State) : Host.Outcome State Fault Refusal :=
  .next (coreCtlRow r c 0 v s)

/-- CORE_STOP (R321): a write of W_n_CTRL with STOP = 1. -/
def execCoreStop (r : Req) (c : Fin 20) (v : Word) (s : State) : Host.Outcome State Fault Refusal :=
  .next (coreCtlRow r c 1 v s)

/-- CORE_PAUSE (R321): a write of W_n_CTRL with PAUSE = 1. -/
def execCorePause (r : Req) (c : Fin 20) (v : Word) (s : State) : Host.Outcome State Fault Refusal :=
  .next (coreCtlRow r c 2 v s)

/-- CORE_RESUME (R320): a write of W_n_CTRL with RESUME = 1. -/
def execCoreResume (r : Req) (c : Fin 20) (v : Word) (s : State) : Host.Outcome State Fault Refusal :=
  .next (coreCtlRow r c 3 v s)

/-- CORE_STEP (R321): a write of W_n_CTRL with STEP = 1. -/
def execCoreStep (r : Req) (c : Fin 20) (v : Word) (s : State) : Host.Outcome State Fault Refusal :=
  .next (coreCtlRow r c 4 v s)

/-- CORE_CLR_FLT (R322): a write of W_n_CTRL with CLR_FLT = 1. -/
def execCoreClrFlt (r : Req) (c : Fin 20) (v : Word) (s : State) : Host.Outcome State Fault Refusal :=
  .next (coreCtlRow r c 5 v s)

/-- CORE_WATCHDOG (R322): WDOG block boundaries have passed with the core never in WAITING. -/
def execCoreWatchdog (c : Fin 20) (s : State) : Host.Outcome State Fault Refusal :=
  let w := s.getF (P.core c) F.W_CFG_WDOG
  if coreLive s c ∧ w ≠ 0 ∧ w ≤ (s.core c).busy then .next (coreFault s c 7) else .next s

/-- EVT_SET_HOST (R310): a write of W_n_EVT_SET. -/
def execEvtSetHost (r : Req) (c : Fin 20) (bits : Byte) (s : State) : Host.Outcome State Fault Refusal :=
  .next (hostWrite r (P.core c + 0x50) (coreWrite r c 0x50 (bits.setWidth 32 <<< 24)) s)

/-! ### The instructions as commands -/

/-- NOP (R305): core `c` issues it. -/
def execCoreNop (c : Fin 20) (s : State) : Host.Outcome State Fault Refusal :=
  .next (coreIssue c .nop s)

/-- ADD (R295): core `c` issues it. -/
def execCoreAdd (c : Fin 20) (d x y : BitVec 5) (s : State) : Host.Outcome State Fault Refusal :=
  .next (coreIssue c (.add d x y) s)

/-- SUB (R295): core `c` issues it. -/
def execCoreSub (c : Fin 20) (d x y : BitVec 5) (s : State) : Host.Outcome State Fault Refusal :=
  .next (coreIssue c (.sub d x y) s)

/-- ADDS (R295): core `c` issues it. -/
def execCoreAdds (c : Fin 20) (d x y : BitVec 5) (s : State) : Host.Outcome State Fault Refusal :=
  .next (coreIssue c (.adds d x y) s)

/-- SUBS (R295): core `c` issues it. -/
def execCoreSubs (c : Fin 20) (d x y : BitVec 5) (s : State) : Host.Outcome State Fault Refusal :=
  .next (coreIssue c (.subs d x y) s)

/-- AND (R305): core `c` issues it. -/
def execCoreAnd (c : Fin 20) (d x y : BitVec 5) (s : State) : Host.Outcome State Fault Refusal :=
  .next (coreIssue c (.and d x y) s)

/-- OR (R305): core `c` issues it. -/
def execCoreOr (c : Fin 20) (d x y : BitVec 5) (s : State) : Host.Outcome State Fault Refusal :=
  .next (coreIssue c (.or d x y) s)

/-- XOR (R305): core `c` issues it. -/
def execCoreXor (c : Fin 20) (d x y : BitVec 5) (s : State) : Host.Outcome State Fault Refusal :=
  .next (coreIssue c (.xor d x y) s)

/-- SHL (R295): core `c` issues it. -/
def execCoreShl (c : Fin 20) (d x : BitVec 5) (k : ShiftBy) (s : State) : Host.Outcome State Fault Refusal :=
  .next (coreIssue c (.shl d x k) s)

/-- SHR (R295): core `c` issues it. -/
def execCoreShr (c : Fin 20) (d x : BitVec 5) (k : ShiftBy) (s : State) : Host.Outcome State Fault Refusal :=
  .next (coreIssue c (.shr d x k) s)

/-- SAR (R295): core `c` issues it. -/
def execCoreSar (c : Fin 20) (d x : BitVec 5) (k : ShiftBy) (s : State) : Host.Outcome State Fault Refusal :=
  .next (coreIssue c (.sar d x k) s)

/-- SHLS (R295): core `c` issues it. -/
def execCoreShls (c : Fin 20) (d x : BitVec 5) (k : ShiftBy) (s : State) : Host.Outcome State Fault Refusal :=
  .next (coreIssue c (.shls d x k) s)

/-- MIN (R305): core `c` issues it. -/
def execCoreMin (c : Fin 20) (d x y : BitVec 5) (s : State) : Host.Outcome State Fault Refusal :=
  .next (coreIssue c (.min d x y) s)

/-- MAX (R305): core `c` issues it. -/
def execCoreMax (c : Fin 20) (d x y : BitVec 5) (s : State) : Host.Outcome State Fault Refusal :=
  .next (coreIssue c (.max d x y) s)

/-- ABS (R295): core `c` issues it. -/
def execCoreAbs (c : Fin 20) (d x : BitVec 5) (s : State) : Host.Outcome State Fault Refusal :=
  .next (coreIssue c (.abs d x) s)

/-- MUL (R295): core `c` issues it. -/
def execCoreMul (c : Fin 20) (d x y : BitVec 5) (s : State) : Host.Outcome State Fault Refusal :=
  .next (coreIssue c (.mul d x y) s)

/-- ADDI (R295): core `c` issues it. -/
def execCoreAddi (c : Fin 20) (d x : BitVec 5) (imm : BitVec 16) (s : State) : Host.Outcome State Fault Refusal :=
  .next (coreIssue c (.addi d x imm) s)

/-- ANDI (R295): core `c` issues it. -/
def execCoreAndi (c : Fin 20) (d x : BitVec 5) (imm : BitVec 16) (s : State) : Host.Outcome State Fault Refusal :=
  .next (coreIssue c (.andi d x imm) s)

/-- ORI (R295): core `c` issues it. -/
def execCoreOri (c : Fin 20) (d x : BitVec 5) (imm : BitVec 16) (s : State) : Host.Outcome State Fault Refusal :=
  .next (coreIssue c (.ori d x imm) s)

/-- XORI (R295): core `c` issues it. -/
def execCoreXori (c : Fin 20) (d x : BitVec 5) (imm : BitVec 16) (s : State) : Host.Outcome State Fault Refusal :=
  .next (coreIssue c (.xori d x imm) s)

/-- LUI (R295): core `c` issues it. -/
def execCoreLui (c : Fin 20) (d : BitVec 5) (imm : BitVec 16) (s : State) : Host.Outcome State Fault Refusal :=
  .next (coreIssue c (.lui d imm) s)

/-- EXP (R296): core `c` issues it. -/
def execCoreExp (c : Fin 20) (d x : BitVec 5) (s : State) : Host.Outcome State Fault Refusal :=
  .next (coreIssue c (.exp d x) s)

/-- EXPA (R297): core `c` issues it. -/
def execCoreExpa (c : Fin 20) (d : BitVec 5) (a : BitVec 3) (s : State) : Host.Outcome State Fault Refusal :=
  .next (coreIssue c (.expa d a) s)

/-- NORM (R296): core `c` issues it. -/
def execCoreNorm (c : Fin 20) (d y x : BitVec 5) (s : State) : Host.Outcome State Fault Refusal :=
  .next (coreIssue c (.norm d y x) s)

/-- NORMA (R297): core `c` issues it. -/
def execCoreNorma (c : Fin 20) (a : BitVec 3) (d : BitVec 5) (s : State) : Host.Outcome State Fault Refusal :=
  .next (coreIssue c (.norma a d) s)

/-- DIVS (R298): core `c` issues it. -/
def execCoreDivs (c : Fin 20) (a : BitVec 3) (x : BitVec 5) (s : State) : Host.Outcome State Fault Refusal :=
  .next (coreIssue c (.divs a x) s)

/-- MVA (R292): core `c` issues it. -/
def execCoreMva (c : Fin 20) (d : BitVec 5) (a : BitVec 3) (part : BitVec 2) (rnd : Bool) (s : State) : Host.Outcome State Fault Refusal :=
  .next (coreIssue c (.mva d a part rnd) s)

/-- MVD (R293): core `c` issues it. -/
def execCoreMvd (c : Fin 20) (a : BitVec 3) (x : BitVec 5) (part : BitVec 2) (s : State) : Host.Outcome State Fault Refusal :=
  .next (coreIssue c (.mvd a x part) s)

/-- ACC_CLR (R294): core `c` issues it. -/
def execCoreAccClr (c : Fin 20) (a : BitVec 3) (s : State) : Host.Outcome State Fault Refusal :=
  .next (coreIssue c (.accClr a) s)

/-- ACC_MOV (R294): core `c` issues it. -/
def execCoreAccMov (c : Fin 20) (a e : BitVec 3) (s : State) : Host.Outcome State Fault Refusal :=
  .next (coreIssue c (.accMov a e) s)

/-- ACC_ADD (R294): core `c` issues it. -/
def execCoreAccAdd (c : Fin 20) (a e : BitVec 3) (s : State) : Host.Outcome State Fault Refusal :=
  .next (coreIssue c (.accAdd a e) s)

/-- ACC_SUB (R294): core `c` issues it. -/
def execCoreAccSub (c : Fin 20) (a e : BitVec 3) (s : State) : Host.Outcome State Fault Refusal :=
  .next (coreIssue c (.accSub a e) s)

/-- ACC_NEG (R294): core `c` issues it. -/
def execCoreAccNeg (c : Fin 20) (a e : BitVec 3) (s : State) : Host.Outcome State Fault Refusal :=
  .next (coreIssue c (.accNeg a e) s)

/-- ACC_SHIFT (R294): core `c` issues it. -/
def execCoreAccShift (c : Fin 20) (a e : BitVec 3) (imm : BitVec 8) (s : State) : Host.Outcome State Fault Refusal :=
  .next (coreIssue c (.accShift a e imm) s)

/-- LD (R299): core `c` issues it. -/
def execCoreLd (c : Fin 20) (d : BitVec 5) (u : BitVec 3) (m : StepBy) (s : State) : Host.Outcome State Fault Refusal :=
  .next (coreIssue c (.ld d u m) s)

/-- ST (R299): core `c` issues it. -/
def execCoreSt (c : Fin 20) (x : BitVec 5) (u : BitVec 3) (m : StepBy) (s : State) : Host.Outcome State Fault Refusal :=
  .next (coreIssue c (.st x u m) s)

/-- LDG (R305): core `c` issues it. -/
def execCoreLdg (c : Fin 20) (d : BitVec 5) (u : BitVec 3) (m : StepBy) (s : State) : Host.Outcome State Fault Refusal :=
  .next (coreIssue c (.ldg d u m) s)

/-- STG (R305): core `c` issues it. -/
def execCoreStg (c : Fin 20) (x : BitVec 5) (u : BitVec 3) (m : StepBy) (s : State) : Host.Outcome State Fault Refusal :=
  .next (coreIssue c (.stg x u m) s)

/-- LDX (R305): core `c` issues it. -/
def execCoreLdx (c : Fin 20) (d : BitVec 5) (u : BitVec 3) (tsel : Bool) (imm : BitVec 17) (s : State) : Host.Outcome State Fault Refusal :=
  .next (coreIssue c (.ldx d u tsel imm) s)

/-- STX (R305): core `c` issues it. -/
def execCoreStx (c : Fin 20) (x : BitVec 5) (u : BitVec 3) (tsel : Bool) (imm : BitVec 17) (s : State) : Host.Outcome State Fault Refusal :=
  .next (coreIssue c (.stx x u tsel imm) s)

/-- PADV (R305): core `c` issues it. -/
def execCorePadv (c : Fin 20) (u : BitVec 3) (m : StepBy) (s : State) : Host.Outcome State Fault Refusal :=
  .next (coreIssue c (.padv u m) s)

/-- MVC (R289): core `c` issues it. -/
def execCoreMvc (c : Fin 20) (d : BitVec 5) (reg : BitVec 6) (s : State) : Host.Outcome State Fault Refusal :=
  .next (coreIssue c (.mvc d reg) s)

/-- MVCS (R289): core `c` issues it. -/
def execCoreMvcs (c : Fin 20) (x : BitVec 5) (reg : BitVec 6) (s : State) : Host.Outcome State Fault Refusal :=
  .next (coreIssue c (.mvcs x reg) s)

/-- B (R306): core `c` issues it. -/
def execCoreB (c : Fin 20) (x y : BitVec 5) (cond : BitVec 4) (off : BitVec 12) (s : State) : Host.Outcome State Fault Refusal :=
  .next (coreIssue c (.b x y cond off) s)

/-- JMP (R305): core `c` issues it. -/
def execCoreJmp (c : Fin 20) (target : BitVec 16) (s : State) : Host.Outcome State Fault Refusal :=
  .next (coreIssue c (.jmp target) s)

/-- CALL (R308): core `c` issues it. -/
def execCoreCall (c : Fin 20) (target : BitVec 16) (s : State) : Host.Outcome State Fault Refusal :=
  .next (coreIssue c (.call target) s)

/-- RET (R308): core `c` issues it. -/
def execCoreRet (c : Fin 20) (s : State) : Host.Outcome State Fault Refusal :=
  .next (coreIssue c .ret s)

/-- LOOP (R307): core `c` issues it. -/
def execCoreLoop (c : Fin 20) (n : LoopBy) (len : BitVec 10) (s : State) : Host.Outcome State Fault Refusal :=
  .next (coreIssue c (.loop n len) s)

/-- WAIT (R311): core `c` issues it. -/
def execCoreWait (c : Fin 20) (x : BitVec 5) (s : State) : Host.Outcome State Fault Refusal :=
  .next (coreIssue c (.wait x) s)

/-- SIG_CORE (R311): core `c` issues it. -/
def execCoreSigCore (c : Fin 20) (k : BitVec 5) (bits : Byte) (s : State) : Host.Outcome State Fault Refusal :=
  .next (coreIssue c (.sigCore k bits) s)

/-- SIG_FORAGER (R311): core `c` issues it. -/
def execCoreSigForager (c : Fin 20) (bits : Byte) (s : State) : Host.Outcome State Fault Refusal :=
  .next (coreIssue c (.sigForager bits) s)

/-- SIG_KEEPER (R311): core `c` issues it. -/
def execCoreSigKeeper (c : Fin 20) (bits : Byte) (s : State) : Host.Outcome State Fault Refusal :=
  .next (coreIssue c (.sigKeeper bits) s)

/-- DONE (R314): core `c` issues it. -/
def execCoreDone (c : Fin 20) (s : State) : Host.Outcome State Fault Refusal :=
  .next (coreIssue c .done s)

/-- HALT (R305): core `c` issues it. -/
def execCoreHalt (c : Fin 20) (s : State) : Host.Outcome State Fault Refusal :=
  .next (coreIssue c .halt s)

/-- MAC (R304): core `c` issues it. -/
def execCoreMac (c : Fin 20) (m : MacOps) (s : State) : Host.Outcome State Fault Refusal :=
  .next (coreIssue c (.mac m) s)

/-- MSU (R304): core `c` issues it. -/
def execCoreMsu (c : Fin 20) (m : MacOps) (s : State) : Host.Outcome State Fault Refusal :=
  .next (coreIssue c (.msu m) s)

/-- MPY (R304): core `c` issues it. -/
def execCoreMpy (c : Fin 20) (m : MacOps) (s : State) : Host.Outcome State Fault Refusal :=
  .next (coreIssue c (.mpy m) s)

/-- MACX (R304): core `c` issues it. -/
def execCoreMacx (c : Fin 20) (m : MacOps) (s : State) : Host.Outcome State Fault Refusal :=
  .next (coreIssue c (.macx m) s)

end Sys2Proof.Machine
end

