-- ==== Sys2Proof/Machine/Reals.lean ====
section
/-! DEFINITION. Real arithmetic of rules that the manual writes without a number format (R95, R97, R114, R117, R238, R267, R275): numbers in units
of 2^-64, to which every result is rounded (log entry 73). -/

namespace Sys2Proof.Machine

/-- A real number in units of 2^-64. -/
abbrev Fix := Int

/-- The number 1. -/
def Fix.one : Fix := 2 ^ 64

/-- A product. -/
def Fix.mul (a b : Fix) : Fix := roundShift (a * b) 64

/-- A quotient of whole numbers. -/
def Fix.div (a b : Int) : Fix := roundDiv (a * 2 ^ 64) b

/-- The nearest whole number, halves upwards. -/
def Fix.round (a : Fix) : Int := roundShift a 64

/-- 10^(2^j/6400) in units of 2^-160. -/
def tenPowers : List Nat :=
  [0x10017952CB43BBC033C263EA090C4CA1E89B86470,
   0x1002F2C858D6CEC5E3D29BF965498496588754538,
   0x1005E61BC7BA1F504F77D1E2B02C1DDB97633BBBA,
   0x100BCE644E2FF15706BE2A6F95E4EB14025082E50,
   0x1017A57ECCA4B6BF410348872C58F6F6ED30F42E9,
   0x102F6DF015A0F0B27CB72F59FABC234AE59D95C58,
   0x105F687901262C24DAFCAB7820E16C1C0E8C7B824,
   0x10C109DD49629FA78AF1BC401B3F40700D3B25184,
   0x118B2CB8936491A64888C1CEDC250B6339C2A186C,
   0x133C79A1BD3624D07B41CFE4B29345EC87A790C68,
   0x17208573FB105E4ECC5EC440841B910254541B5B6,
   0x216DC1C79AD6C744557D4152E46AD33D1519BA565,
   0x45D7B040C93CD5F3E410894BCE987DD0617834A81,
   0x130DFABC72A5F49DBB64E7C03904BB264ECA80E1B4,
   0x16B13FB65BCE1CEFAB195C41ACACCD55B58B970DA34,
   0x202F1AC81CDA313510E3E6F9896ACD2E0D572748F13D6,
   0x40BCF5CDF7E66B4BFE14C815486B87677C07AF5237AE15790]

/-- The product of the powers that the bits of `m` name, in units of 2^-160. -/
def tenProduct : List Nat → Nat → Nat → Nat
  | [], _, p => p
  | c :: t, m, p => tenProduct t (m / 2) (if m % 2 = 1 then (p * c) >>> 160 else p)

/-- 10^(n/6400), for -65,536 <= n < 65,536: a gain of n/16 gain codes (R95). -/
def pow10 (n : Int) : Fix := ((tenProduct tenPowers (n + 65536).toNat 0x3F4531BD628F545764E5779F0B599368 + 2 ^ 95) >>> 96 : Nat)

/-- The first `k` bits of the logarithm to base 2 of a mantissa in [1, 2), in units of 2^-100; `acc` holds those found. -/
def log2Bits : Nat → Nat → Nat → Nat
  | 0, _, acc => acc
  | k + 1, m, acc =>
    let q := (m * m) >>> 100
    if 2 ^ 101 ≤ q then log2Bits k (q >>> 1) (2 * acc + 1) else log2Bits k q (2 * acc)

/-- The logarithm to base 10 of `a / b`, both above 0. -/
def log10 (a b : Nat) : Fix :=
  let e : Int := (Nat.log2 a : Int) - Nat.log2 b
  let m := if 0 ≤ e then (a <<< 100) / (b <<< e.toNat) else (a <<< (100 + (-e).toNat)) / b
  let low := decide (m < 2 ^ 100)
  let e := if low then e - 1 else e
  let m := if low then m <<< 1 else m
  roundShift ((e * 2 ^ 80 + log2Bits 80 m 0) * 0x4D104D427DE7FBCC47C4ACD60) 116

/-- The first `k` terms of the series of exp(-x) after term `n` of value `t`, in units of 2^-128. -/
def expTerms : Nat → Nat → Int → Int → Int
  | 0, _, _, _ => 0
  | k + 1, n, x, t => let u := -(t * x) / (2 ^ 128 * (n + 1)); u + expTerms k (n + 1) x u

/-- exp(-a/b), for 0 <= a <= b. -/
def expNeg (a b : Nat) : Fix := roundShift (2 ^ 128 + expTerms 40 0 ((a * 2 ^ 128) / b) (2 ^ 128)) 64

/-- The first `k` terms of the series of cos(x) after term `n` of value `t`, from x^2, in units of 2^-128. -/
def cosTerms : Nat → Nat → Int → Int → Int
  | 0, _, _, _ => 0
  | k + 1, n, xx, t => let u := -(t * xx) / (2 ^ 128 * ((n + 1) * (n + 2))); u + cosTerms k (n + 2) xx u

/-- The raised cosine (1 - cos(pi a / b)) / 2, for 0 <= a <= b. -/
def raised (a b : Nat) : Fix :=
  let x : Int := (a * 0x3243F6A8885A308D313198A2E03707344) / b
  roundShift (2 ^ 128 - (2 ^ 128 + cosTerms 24 0 (x * x / 2 ^ 128) (2 ^ 128))) 65

end Sys2Proof.Machine
end

