-- ==== Sys2Proof/Machine/Gains.lean ====
section
/-! DEFINITION. Gain codes and ramps (R95-R98). -/

namespace Sys2Proof.Machine

/-- R95: the highest gain code, +24.0 dB; codes above it are clamped to it. -/
def maxCode : Nat := 2881

/-- R95: a code after the clamp. -/
def clampCode (c : Nat) : Nat := min c maxCode

/-- R96: the step count of a ramp index other than 15. -/
def rampN (r : Nat) : Nat :=
  [0, 48, 96, 240, 480, 960, 2400, 4800, 9600, 24000, 48000, 96000, 240000, 480000, 960000].getD r 0

/-- R95: the bounds, in Q5.27, of a gain `g` converted with an error below 0.001 dB (a factor of 1.000115), or, where Q5.27 has no
value so near, its two neighbours. -/
def gainAround (g : Fix) : Int × Int :=
  let lo := -((-(g * 9998849)) / (2 ^ 37 * 10000000))
  let hi := (g * 10001151) / (2 ^ 37 * 10000000)
  if lo ≤ hi then (lo, hi) else (g / 2 ^ 37, g / 2 ^ 37 + 1)

/-- R95: the bounds of the linear gain of a code in sixteenths, 10^(dB/20). -/
def gainBounds (c16 : Int) : Int × Int := gainAround (pow10 (c16 - 2401 * 16))

/-- R95: the linear gain of a code in sixteenths: 0.0 dB is exact; the conversion's error is open inside its bound (log entry 23). -/
def linOf16 (c16 : Int) : Nat :=
  if c16 = 2401 * 16 then 0x8000000
  else
    let b := gainBounds c16
    (max b.1 (min b.2 (Config.gainQ27 c16))).toNat

/-- R95: the linear gain of a code; 0 is mute. -/
def linOf (c : Nat) : Nat := if c = 0 then 0 else linOf16 (16 * c)

/-- R97: the linear gain of a fractional code, to the nearest sixteenth. -/
def linOfFrac (c : Int) : Nat := linOf16 (roundShift c 12)

/-- A gain that stands at a code. -/
def Gain.at_ (c : Nat) : Gain :=
  { lin := linOf c, code := if c = 0 then none else some (c * 65536), target := c, slope := none }

/-- R97: the fractional code, in 1/65,536, of a linear gain above 0 in Q5.27: 2401 + 20 log10(g) / 0.05, to the nearest. -/
def codeOfGain (lin : Nat) : Int := 2401 * 65536 + Fix.round (26214400 * log10 lin 0x8000000)

/-- R97: the fractional code at which a ramp starts: the present code where it lies on the grid of codes, else that of the present
linear gain. -/
def Gain.frac (g : Gain) : Int :=
  match g.code with
  | some c => if c % 65536 = 0 then c else codeOfGain g.lin
  | none => codeOfGain g.lin

/-- XP_k_GAIN.CUR: the present gain code, rounded to the nearest code. -/
def Gain.cur (g : Gain) : Nat := if g.lin = 0 then 0 else (roundShift (g.code.getD (codeOfGain g.lin)) 16).toNat

/-- R96: a change with ramp index 0: the new gain stands from the next mix on. -/
def Gain.jump (g : Gain) (c : Nat) : Gain := { g with target := c, slope := some (.amp g.lin (linOf c) 1 0) }

/-- R97, R98: a new way to a code in `n` samples, from the present gain: in amplitude where it starts or ends at mute or
starts below code 1, in decibels otherwise; in the next mix with `n` = 0. -/
def Gain.begin (g : Gain) (c n : Nat) : Gain :=
  if n = 0 then g.jump c
  else if c = 0 ∨ g.lin = 0 ∨ g.lin < linOf 1 then { g with target := c, slope := some (.amp g.lin (linOf c) n 0) }
  else { g with target := c, slope := some (.db g.frac (roundDiv ((c : Int) * 65536 - g.frac) n) n 0) }

/-- R99: a way in amplitude to a code. -/
def Gain.fade (g : Gain) (c n : Nat) : Gain :=
  if n = 0 then g.jump c else { g with target := c, slope := some (.amp g.lin (linOf c) n 0) }

/-- One sample on a gain's way; the last lands exactly on the target. -/
def Gain.step (g : Gain) : Gain :=
  match g.slope with
  | none => g
  | some (.db start inc n i) =>
    if n ≤ i + 1 then { Gain.at_ g.target with slope := some (.db start inc n n) }
    else
      let c := start + (i + 1) * inc
      { g with lin := linOfFrac c, code := some c, slope := some (.db start inc n (i + 1)) }
  | some (.amp start goal n i) =>
    if n ≤ i + 1 then { Gain.at_ g.target with slope := some (.amp start goal n n) }
    else
      let l := quant ((start : Int) * n + ((goal : Int) - start) * (i + 1)) n
      { g with lin := l, code := none, slope := some (.amp start goal n (i + 1)) }

/-- Whether a gain is still on its way. -/
def Gain.moving (g : Gain) : Bool :=
  match g.slope with
  | none => false
  | some (.db _ _ n i) => decide (i < n)
  | some (.amp _ _ n i) => decide (i < n)

/-- A gain that has arrived. -/
def Gain.rest (g : Gain) : Gain := { g with slope := none }

/-- A gain put at its target (R106, R436). -/
def Gain.settle (g : Gain) : Gain := Gain.at_ g.target

end Sys2Proof.Machine
end

