-- ==== Sys2Proof/Machine/Clips.lean ====
section
/-! DEFINITION. The clip library, the player voices and the tone generators (R352-R362, R365). -/

namespace Sys2Proof.Machine

/-! ### The library -/

/-- R351: the bytes of the library half that CLIP_LIB names. -/
def libBytes (s : State) : List Byte := s.flash.libs.getD (s.getF P.clip F.CLIP_LIB_HALF) []

/-- Whether a library matches the booted image (CLIP_LIB.VALID); without one the page is in NOLIB. -/
def libValid (s : State) : Bool := s.isSet P.clip F.CLIP_LIB_VALID

/-- R352: where the CRC table and the data pages of a library begin, by its number of clips and of pages. -/
def libCrcAt (nclip : Nat) : Nat := 64 + 32 * nclip
@[inherit_doc libCrcAt] def libDataAt (nclip npage : Nat) : Nat := (libCrcAt nclip + 4 * npage + 4095) / 4096 * 4096

/-- R353: the directory entry of a clip, as bytes. -/
def dirEntry (s : State) (c : Nat) : List Byte := ((libBytes s).drop (64 + 32 * c)).take 32

/-- A directory entry's fields. -/
structure Clip where
  off : Nat
  size : Nat
  fmt : Nat
  rate : Nat
  loops : Bool
  n : Nat
  ls : Nat
  le : Nat
deriving DecidableEq, Repr

/-- R353, R355: clip `c` of the library. An Opus clip loops as a whole; a clip without LOOP repeats whole (R359). -/
def clipOf (s : State) (c : Nat) : Clip :=
  let e := dirEntry s c
  let lp := field e 10 2 % 2 == 1
  let part := lp && field e 8 1 != 3
  { off := field e 0 4, size := field e 4 4, fmt := field e 8 1, rate := field e 9 1, loops := lp, n := field e 12 4,
    ls := if part then field e 16 4 else 0, le := if part then field e 20 4 else field e 12 4 }

/-- R362: whether the library holds clip `c`. -/
def clipThere (s : State) (c : Nat) : Bool :=
  decide (c < s.getF P.clip F.CLIP_LIB_NCLIP) && field (dirEntry s c) 8 1 != 0xFF

/-- R352: data page `p` of the library. -/
def libPage (s : State) (p : Nat) : List Byte :=
  let b := libBytes s
  (b.drop (libDataAt (field b 6 2) (field b 24 4) + 4096 * p)).take 4096

/-- R354: whether a data page matches its CRC. -/
def pageGood (s : State) (p : Nat) : Bool :=
  let b := libBytes s
  BitVec.ofNat 32 (field b (libCrcAt (field b 6 2) + 4 * p) 4) == crc32 (libPage s p)

/-- The byte of the library's data at an offset. -/
def libByte (s : State) (o : Nat) : Byte := (libPage s (o / 4096)).getD (o % 4096) 0

/-! ### Sample data -/

/-- TDM_n_CFG.RATE: the sampling rates of codes 0-8. -/
def clipRate (c : Nat) : Nat := [8000, 11025, 12000, 16000, 22050, 24000, 32000, 44100, 48000].getD c 48000

/-- R359: the samples that a clip with `rep` repeats plays; none when it is endless. -/
def playLen (c : Clip) (rep : Nat) : Option Nat := if rep = 255 then none else some (c.n + rep * (c.le - c.ls))

/-- R359: the sample of the clip played as number `i`. -/
def playAt (c : Clip) (rep i : Nat) : Nat :=
  if i < c.le then i
  else
    let span := max 1 (c.le - c.ls)
    let u := i - c.le
    if rep = 255 ∨ u < rep * span then c.ls + u % span else c.le + (u - rep * span)

/-- R355: the first and last byte, in the clip's data, of sample `a`. -/
def clipBytes (s : State) (c : Clip) (a : Nat) : Nat × Nat :=
  if c.fmt = 0 then (2 * a, 2 * a + 1)
  else if c.fmt = 1 then (3 * a, 3 * a + 2)
  else if c.fmt = 2 then (a / 505 * 256, a / 505 * 256 + 255)
  else
    let e := Config.opusBytes ((List.range c.size).map fun i => libByte s (c.off + i)) (a + 1)
    (e - 1, e - 1)

/-- The data pages that sample `a` of a clip lies in. -/
def samplePages (s : State) (c : Clip) (a : Nat) : List Nat :=
  let b := clipBytes s c a
  [(c.off + b.1) / 4096, (c.off + b.2) / 4096]

/-- The bytes, in playing order, that the first `i + 1` samples played need. -/
def needed (s : State) (c : Clip) (i : Nat) : Nat :=
  if c.fmt = 0 then 2 * (i + 1) else if c.fmt = 1 then 3 * (i + 1) else if c.fmt = 2 then (i / 505 + 1) * 256
  else i / max 1 c.n * c.size + (clipBytes s c (i % max 1 c.n)).2 + 1

/-- How many samples the first `b` bytes hold; for Opus the count of bytes stands for it. -/
def heldBy (c : Clip) (b : Nat) : Nat :=
  if c.fmt = 0 then b / 2 else if c.fmt = 1 then b / 3 else if c.fmt = 2 then b / 256 * 505 else b

/-- The data pages that the bytes from `b` to `b + n` in playing order lie in, in order. -/
def spanPages (c : Clip) (rep b n : Nat) : List Nat :=
  if c.fmt = 3 then [(c.off + b % max 1 c.size) / 4096, (c.off + (b + n - 1) % max 1 c.size) / 4096]
  else
    let last := match playLen c rep with
      | some m => min m (heldBy c (b + n) + 1)
      | none => heldBy c (b + n) + 1
    ((List.range' (heldBy c b) (last - heldBy c b)).flatMap fun i =>
      let a := playAt c rep i
      if c.fmt = 2 then [(c.off + a / 505 * 256) / 4096]
      else
        let w := c.fmt + 2
        [(c.off + w * a) / 4096, (c.off + w * a + w - 1) / 4096]).dedup

/-- The IMA ADPCM step sizes (PRESUMED: the standard's table, log entry 46). -/
def imaSteps : List Nat :=
  [7, 8, 9, 10, 11, 12, 13, 14, 16, 17, 19, 21, 23, 25, 28, 31, 34, 37, 41, 45, 50, 55, 60, 66, 73, 80, 88, 97, 107, 118] ++
  [130, 143, 157, 173, 190, 209, 230, 253, 279, 307, 337, 371, 408, 449, 494, 544, 598, 658, 724, 796, 876, 963, 1060] ++
  [1166, 1282, 1411, 1552, 1707, 1878, 2066, 2272, 2499, 2749, 3024, 3327, 3660, 4026, 4428, 4871, 5358, 5894, 6484, 7132] ++
  [7845, 8630, 9493, 10442, 11487, 12635, 13899, 15289, 16818, 18500, 20350, 22385, 24623, 27086, 29794, 32767]

/-- One IMA ADPCM code: the next predictor and step index (PRESUMED, log entry 46). -/
def imaCode (p : Int × Nat) (c : Nat) : Int × Nat :=
  let st : Nat := imaSteps.getD p.2 7
  let d : Nat := st / 8 + (if c / 4 % 2 = 1 then st else 0) + (if c / 2 % 2 = 1 then st / 2 else 0) + (if c % 2 = 1 then st / 4 else 0)
  let k := c % 8
  (satS 16 (if 8 ≤ c then p.1 - d else p.1 + d), if k < 4 then p.2 - 1 else min 88 (p.2 + 2 * (k - 3)))

/-- R355: sample `j` (0-504) of an ADPCM block. -/
def imaSample (blk : List Byte) (j : Nat) : Int :=
  ((List.range j).foldl (fun p i =>
    let b := (blk.getD (4 + i / 2) 0).toNat
    imaCode p (if i % 2 = 0 then b % 16 else b / 16)) (signed 16 (field blk 0 2), min 88 (field blk 2 1))).1

/-- R13, R355: the fabric sample of sample `a` of a clip, where the format gives it. -/
def clipSample (s : State) (c : Clip) (a : Nat) : Option Int :=
  let b := clipBytes s c a
  let bytes := (List.range (b.2 + 1 - b.1)).map fun i => libByte s (c.off + b.1 + i)
  if c.fmt = 0 then some (signed 16 (leNat bytes) * 0x10000)
  else if c.fmt = 1 then some (signed 24 (leNat bytes) * 0x100)
  else if c.fmt = 2 then some (imaSample bytes (a % 505) * 0x10000)
  else none

/-! ### Voices -/

/-- A page counter and ERR_CNT count, with a notice. -/
def clipNote (s : State) (f : Fld) (ev : Nat) (errs : Bool) : State :=
  let s := (s.bump P.clip f).raise P.clip ev
  if errs then s.err P.clip else s

/-- R356: a start without a resident head. -/
def clipLate (s : State) : State := clipNote s F.CLIP_LATE_CNT_COUNT 3 false

/-- R356: a head read is asked for; one asked for the same use before is no longer wanted. -/
def headAsk (s : State) (v : Nat) (w : HeadFor) : State :=
  s.onClip fun c => { c with heads := c.heads.filter (fun h => h != (v, w)) ++ [(v, w)] }

/-- The head reads of a voice are no longer wanted, but those for `keep`. -/
def headDrop (s : State) (v : Nat) (keep : HeadFor → Bool) : State :=
  s.onClip fun c => { c with heads := c.heads.filter fun h => h.1 != v || keep h.2 }

/-- R356: a clip's head: its first 2 KB, or all of it. -/
def headLen (c : Clip) : Nat := min 2048 c.size

/-- The first page of a clip's head that fails its check. -/
def headBad (s : State) (c : Clip) (sound : Bool) : Option Nat :=
  (spanPages c 0 0 (headLen c)).find? fun p => !sound || !pageGood s p

/-- A voice plays from the head it holds. -/
def voicePlay (s : State) (v clip rep : Nat) : State :=
  s.onVoice v fun x => { x with st := 3, clip := clip, rep := rep, go := false, pos := 0, got := headLen (clipOf s clip), fade := none,
                                held := none, dry := false }

/-- A voice reads a head; `go`: to play it. -/
def voicePrime (s : State) (v clip rep : Nat) (go : Bool) : State :=
  s.onVoice v fun x => { x with st := 1, clip := clip, rep := rep, go := go, pos := 0, got := 0, bad := none, fade := none,
                                held := none, dry := false }

/-- A voice is IDLE; what its last playback left in CODE stands. -/
def voiceIdle (s : State) (v : Nat) : State :=
  headDrop (s.onVoice v fun x => { Voice.idle with code := x.code, last := x.last, fresh := x.fresh }) v fun _ => false

/-- R358: the clip that waits begins: at once when its head has arrived, and otherwise when it does. `late`: a start whose
head is late counts only now. -/
def voiceNext (s : State) (v : Nat) (n : ClipNext) (w : HeadFor) (late : Bool) : State :=
  if n.head then voicePlay (s.onVoice v fun x => { x with bad := n.bad }) v n.clip n.rep
  else
    let s := voicePrime s v n.clip n.rep true
    let s := s.onClip fun c => { c with heads := c.heads.map fun h => if h = (v, w) then (v, .own) else h }
    if late then clipLate s else s

/-- The gain a voice's fade has reached. -/
def fadeLevel (f : Option Fade) : Rat :=
  match f with
  | some x => x.from_ * (x.n - x.i) / x.n
  | none => 1

/-- R359: a voice fades to 0 over `n` samples, from the level it has reached. -/
def voiceFade (s : State) (v n : Nat) : State := s.onVoice v fun x => { x with st := 4, fade := some ⟨fadeLevel x.fade, n, 0⟩ }

/-- R358, R359: the fade of a voice has ended. -/
def voiceFaded (s : State) (v : Nat) : State :=
  let x := s.voice v
  match x.after, x.queue with
  | some n, _ => voiceNext (s.onVoice v fun x => { x with after := none }) v n .after false
  | none, some n => voiceNext (s.onVoice v fun x => { x with queue := none }) v n .queue true
  | none, none => voiceIdle s v

/-- Whether a voice's fade has ended. -/
def fadeDue (x : Voice) : Bool :=
  x.st == 4 && (match x.fade with
    | some f => decide (f.n ≤ f.i)
    | none => true)

/-- Whether a voice's clip has reached its end (R359). -/
def clipDue (s : State) (x : Voice) : Bool :=
  (x.st == 3 || x.st == 4) && x.held.isNone &&
    (let c := clipOf s x.clip
     c.n == 0 || (match playLen c x.rep with
       | some m => decide (m ≤ x.pos * clipRate c.rate / 48000)
       | none => false))

/-- R358, R359: a voice's clip has reached its end: the source returns to 0, a queued clip begins, and a fade under way
runs out on 0. -/
def clipEnded (s : State) (v : Nat) : State :=
  let s := s.onVoice v fun x => { x with code := 0 }
  let s := if s.isSet (P.clip + 8 * v) F.CLIP_V_CFG_NOTIFY then s.raise P.clip 0 else s
  let x := s.voice v
  if x.after.isSome then s.onVoice v fun x => { x with held := some 0 }
  else match x.queue with
    | some n => voiceNext (s.onVoice v fun x => { x with queue := none, fade := none }) v n .queue true
    | none => voiceIdle s v

/-- R359: a page whose CRC fails: the voice holds its last sample and fades it to 0 over 1 ms. -/
def voiceCheck (s : State) (v p : Nat) : State :=
  let x := s.voice v
  let s := clipNote s F.CLIP_CHK_CNT_COUNT 24 true
  let s := s.log 0x00A0 3 0x000B v (leBytes 2 x.clip ++ leBytes 4 p)
  s.onVoice v fun x => { x with code := Code.check.num, held := some x.last, st := 4, fade := some ⟨1, 48, 0⟩ }

/-- R359: the ring of a voice has run empty: one underrun, and the voice holds. -/
def voiceDry (s : State) (v : Nat) : State :=
  if (s.voice v).dry then s
  else clipNote (s.onVoice v fun x => { x with dry := true }) F.CLIP_UR_CNT_COUNT 1 true

/-- R355, R359: the sample a voice presents from its clip or its held sample, before its fade. What the resampler makes of
a clip below 48 kHz, and the Opus decoder, the manual does not give. -/
def voiceRaw (s : State) (v : Nat) : State × Int :=
  let x := s.voice v
  match x.held with
  | some y => (s, y)
  | none =>
    let c := clipOf s x.clip
    let t := x.pos * clipRate c.rate
    let a := playAt c x.rep (t / 48000)
    match x.bad.filter fun p => (samplePages s c a).contains p with
    | some p => (voiceCheck s v p, x.last)
    | none =>
      if x.got < needed s c (t / 48000) then (voiceDry s v, 0)
      else
        let s := s.onVoice v fun y => { y with pos := y.pos + 1, dry := false }
        match (if c.rate = 8 then clipSample s c a else none) with
        | some y => (s, y)
        | none => (s.draw.2, s.draw.1.toInt)

/-- A sample times a level, rounded as the manual leaves open. -/
def levelled (y : Int) (g : Rat) : Int := quantI (y * g.num) g.den

/-- What a voice that is PLAYING or STOPPING presents: its sample, one step further in a fade. -/
def voiceOut (s : State) (v : Nat) : State × Int :=
  let o := voiceRaw s v
  let x := o.1.voice v
  match x.fade with
  | some f =>
    let f := { f with i := min f.n (f.i + 1) }
    let y := levelled o.2 (fadeLevel (some f))
    (o.1.onVoice v fun x => { x with fade := some f, last := y }, y)
  | none => (o.1.onVoice v fun x => { x with last := o.2 }, o.2)

/-- What voice `v` presents in a period, after what is due has happened (R356-R359). -/
def voicePeriod (s : State) (v : Nat) : State × Int :=
  let s := s.onVoice v fun x => { x with fresh := false }
  let s := if fadeDue (s.voice v) then voiceFaded s v else s
  let s := if clipDue s (s.voice v) then clipEnded s v else s
  if (s.voice v).st = 3 ∨ (s.voice v).st = 4 then voiceOut s v
  else (s.onVoice v fun x => { x with last := 0 }, 0)

/-! ### Tones -/

/-- A pattern of the image. -/
def tonePat (s : State) (p : Nat) : Option TonePat := s.img.tones[p]?

/-- R361: a generator starts a pattern, with the repeats it plays. -/
def toneBegin (s : State) (g p rep : Nat) : State :=
  s.onTone g fun _ => { Tone.idle with run := true, pat := p, left := rep }

/-- The segment a generator plays. -/
def toneSeg (s : State) (g : Nat) : Option ToneSeg :=
  match tonePat s (s.tone g).pat with
  | some p => p.segs[(s.tone g).seg]?
  | none => none

/-- Whether a generator's segment has ended (R360). -/
def segDue (s : State) (g : Nat) : Bool :=
  (s.tone g).run && (match toneSeg s g with
    | some x => decide (48 * x.dur ≤ (s.tone g).t)
    | none => true)

/-- R360, R361: a generator stops, or starts the pattern that follows its fade. -/
def toneOver (s : State) (g : Nat) : State :=
  match (s.tone g).next with
  | some (p, r) => toneBegin s g p r
  | none => s.onTone g fun _ => Tone.idle

/-- R360: a segment has ended: the next one, the pattern again, or the end. -/
def segEnded (s : State) (g : Nat) : State :=
  let x := s.tone g
  let n := match tonePat s x.pat with
    | some p => p.segs.length
    | none => 0
  if x.seg + 1 < n then s.onTone g fun y => { y with seg := y.seg + 1, t := 0 }
  else if x.left = 0 ∨ n = 0 then toneOver s g
  else s.onTone g fun y => { y with seg := 0, t := 0, left := if y.left = 255 then 255 else y.left - 1 }

/-- Whether a generator's fade has ended. -/
def toneFaded (x : Tone) : Bool :=
  x.run && (match x.fade with
    | some f => decide (f.n ≤ f.i)
    | none => false)

/-- R360: the sample of the present segment, and whether it saturated. -/
def toneSample (x : Tone) (g : ToneSeg) : Int × Bool :=
  if g.silent then (0, false)
  else
    let one (f : Nat) (ph : Word) : Rat := if f = 0 then 0 else (Config.sine ph * linOf g.level : Int) / (2 ^ 27 : Int)
    let amp : Rat := if g.ramp = 0 then 1 else Config.toneRamp x.t (48 * g.ramp) (48 * g.dur)
    let y := (one g.f1 x.ph1 + one g.f2 x.ph2) * amp
    let z := quantI y.num y.den
    (satS 32 z, satS 32 z != z)

/-- What generator `g` presents in a period (R360, R361). -/
def tonePeriod (s : State) (g : Nat) : State × Int :=
  let s := if toneFaded (s.tone g) then toneOver s g else s
  let s := if segDue s g then segEnded s g else s
  let x := s.tone g
  match x.run, toneSeg s g with
  | true, some e =>
    let y := toneSample x e
    let s := if y.2 then s.err P.clip else s
    let s := s.onTone g fun x => { x with t := x.t + 1, ph1 := x.ph1 + Config.phaseStep e.f1,
                                          ph2 := if e.f2 = 0 then x.ph2 else x.ph2 + Config.phaseStep e.f2 }
    (match x.fade with
     | some f =>
       let f := { f with i := f.i + 1 }
       (s.onTone g fun x => { x with fade := some f }, levelled y.1 (fadeLevel (some f)))
     | none => (s, y.1))
  | _, _ => (s, 0)

/-- What the voices and generators present, as sources 0x240-0x2BF. -/
def clipPresent (s : State) : State × List (Nat × Int) :=
  let o := (List.range 64).foldl (fun (o : State × List (Nat × Int)) v =>
    let r := voicePeriod o.1 v
    (r.1, o.2 ++ [(0x240 + v, r.2)])) (s, [])
  let o := (List.range 64).foldl (fun (o : State × List (Nat × Int)) g =>
    let r := tonePeriod o.1 g
    (r.1, o.2 ++ [(0x280 + g, r.2)])) o
  if s.en P.clip then o else (o.1, [])

/-! ### Starts and stops -/

/-- CLIP_V_v_CFG.POLICY: 0 RESTART, 1 QUEUE1, 2 IGNORE. -/
def policy (s : State) (v : Nat) : Nat := s.getF (P.clip + 8 * v) F.CLIP_V_CFG_POLICY

/-- R356-R358: a start, or a prime, of a voice takes effect. -/
def startNow (s : State) (v clip rep : Nat) (prime : Bool) : State :=
  let x := s.voice v
  let on := x.st == 3 || x.st == 4
  let s := s.onVoice v fun y => { y with code := 0, fresh := y.fresh || !prime }
  let own (s : State) : State := headAsk (clipLate (voicePrime s v clip rep true)) v .own
  if prime then (if on || x.fresh then s else headAsk (voicePrime s v clip rep false) v .own)
  else if on || x.fresh then
    (match policy s v with
     | 1 =>
       if x.queue.isNone then headAsk (s.onVoice v fun y => { y with queue := some ⟨clip, rep, false, none⟩ }) v .queue else s
     | 0 =>
       if on then
         clipLate (headAsk ((voiceFade s v 48).onVoice v fun y => { y with after := some ⟨clip, rep, false, none⟩ }) v .after)
       else own s
     | _ => s)
  else if x.st = 2 ∧ x.clip = clip then voicePlay s v clip rep
  else if x.st = 1 ∧ x.clip = clip then clipLate (s.onVoice v fun y => { y with go := true, rep := rep })
  else own s

/-- R359, R362: a stop of a voice takes effect, over `n` samples; a queued start is discarded. -/
def stopNow (s : State) (v n : Nat) : State :=
  let on := (s.voice v).st == 3 || (s.voice v).st == 4
  let s := headDrop (s.onVoice v fun y => { y with queue := none, after := none }) v fun _ => false
  if on ∧ n ≠ 0 then voiceFade s v n else voiceIdle (s.onVoice v fun y => { y with fresh := false }) v

/-- R361: a start or stop of a generator takes effect; from a running one the present pattern fades over 1 ms. -/
def toneNow (s : State) (g p rep : Nat) : State :=
  if (s.tone g).run then
    s.onTone g fun x => { x with fade := some ⟨fadeLevel x.fade, 48, 0⟩, next := if p = 0xFF then none else some (p, rep) }
  else if p = 0xFF then s
  else toneBegin s g p rep

/-- R81: a host command takes effect at step 3. -/
def ClipOp.apply (o : ClipOp) (s : State) : State :=
  match o with
  | .start v clip rep prime => startNow s v clip rep prime
  | .stop v n => stopNow s v n
  | .tone g p rep => toneNow s g p rep

/-- R15: step 3: the commands accepted take effect in their order. -/
def clipApply (s : State) : State :=
  forEach s.clip.staged (fun o s => o.apply s) (s.onClip fun c => { c with staged := [] })

/-- R358: how a start finds a voice: busy, with a start queued, and playing or stopping; the commands accepted before it
count as done. -/
def voiceSeen (s : State) (v : Nat) : Bool × Bool × Bool :=
  let x := s.voice v
  let on := x.st == 3 || x.st == 4
  s.clip.staged.foldl (fun p o =>
    match o with
    | .start w c _ prime =>
      if w != v || prime then p
      else (true, p.2.1 || (p.1 && policy s v == 1), p.2.2 || (x.st == 2 && x.clip == c))
    | .stop w n => if w != v then p else (p.2.2 && n != 0, false, p.2.2 && n != 0)
    | .tone .. => p) (on, x.queue.isSome, on)

/-- R358, R362: the checks of a start, in the order of R46. -/
def startCheck (s : State) (v clip : Nat) (prime busy queued : Bool) : Code :=
  if !libValid s then .state
  else if !clipThere s clip then .absent
  else if !s.en P.clip || (prime && busy) then .state
  else if busy && !prime && (policy s v == 2 || (policy s v == 1 && queued)) then .busy
  else .done

/-- R358, R362: what a refused start leaves: CODE, and a drop under the voice's policy. -/
def startRefused (s : State) (v : Nat) (c : Code) : State :=
  let s := s.onVoice v fun x => { x with code := c.num }
  if c = .busy then clipNote s F.CLIP_BUSY_CNT_COUNT 2 false else s

/-- R358, R362: CLIP_START. -/
def clipStartBody (q : PlReq) (s : State) : PlAns :=
  let p := q.payload
  let v := field p 0 1
  if p.length ≠ 8 ∨ 64 ≤ v ∨ 2 ≤ field p 1 1 ∨ field p 5 3 ≠ 0 then nak s P.clip .range
  else
    let prime := field p 1 1 == 1
    let w := voiceSeen s v
    let c := startCheck s v (field p 2 2) prime w.1 w.2.1
    if c = .done then
      ok (s.onClip fun x => { x with staged := x.staged ++ [.start v (field p 2 2) (field p 4 1) prime] })
        [BitVec.ofNat 8 (s.voice v).st, 0, 0, 0]
    else nak (startRefused s v c) P.clip c

/-- CLIP_START (R358): FLAGS.PRIME clear. -/
def execClipStart (q : PlReq) (s : State) : Host.Outcome State Fault Refusal :=
  .next (runPlosto 0x38 q (onPage P.clip true (clipStartBody q)) s)

/-- CLIP_PRIME (R357): CLIP_START with FLAGS.PRIME set. -/
def execClipPrime (q : PlReq) (s : State) : Host.Outcome State Fault Refusal :=
  .next (runPlosto 0x38 q (onPage P.clip true (clipStartBody q)) s)

/-- R359, R362: CLIP_STOP. -/
def clipStopBody (q : PlReq) (s : State) : PlAns :=
  let p := q.payload
  let v := field p 0 1
  let r := field p 1 1
  if p.length ≠ 4 ∨ (64 ≤ v ∧ v ≠ 0xFF) ∨ 16 ≤ r ∨ field p 2 2 ≠ 0 then nak s P.clip .range
  else
    let n := rampN (if r = 15 then 4 else r)
    ok (s.onClip fun x => { x with staged := x.staged ++ (if v = 0xFF then List.range 64 else [v]).map (ClipOp.stop · n) }) []

/-- CLIP_STOP (R359). -/
def execClipStop (q : PlReq) (s : State) : Host.Outcome State Fault Refusal :=
  .next (runPlosto 0x39 q (onPage P.clip true (clipStopBody q)) s)

/-- R361: the checks of TONE_START. -/
def toneCheck (s : State) (p : Nat) : Code :=
  if p ≠ 0xFF ∧ (tonePat s p).isNone then .absent else if !s.en P.clip then .state else .done

/-- R361, R362: TONE_START. -/
def toneStartBody (q : PlReq) (s : State) : PlAns :=
  let p := q.payload
  let g := field p 0 1
  let n := field p 1 1
  if p.length ≠ 4 ∨ 64 ≤ g ∨ 2 ≤ field p 3 1 then nak s P.clip .range
  else
    let c := toneCheck s n
    let rep := if field p 3 1 = 1 then ((tonePat s n).map (·.rep)).getD 0 else field p 2 1
    if c = .done then ok (s.onClip fun x => { x with staged := x.staged ++ [.tone g n rep] }) []
    else nak s P.clip c

/-- TONE_START (R361). -/
def execToneStart (q : PlReq) (s : State) : Host.Outcome State Fault Refusal :=
  .next (runPlosto 0x3A q (onPage P.clip true (toneStartBody q)) s)

/-! ### Reports -/

/-- R359: the passes a voice has left. -/
def passesLeft (s : State) (x : Voice) : Nat :=
  if x.st ≠ 3 ∧ x.st ≠ 4 then 0
  else if x.rep = 255 then 255
  else
    let c := clipOf s x.clip
    let i := x.pos * clipRate c.rate / 48000
    if i < c.le then x.rep else x.rep - ((i - c.le) / max 1 (c.le - c.ls) + 1)

/-- CLIP_V_v_STAT. -/
def voiceWord (s : State) (v : Nat) : Word :=
  let x := s.voice v
  BitVec.ofNat 32 (x.st * 2 ^ 29 + b2n x.queue.isSome * 2 ^ 28 + passesLeft s x * 2 ^ 20 + x.code * 2 ^ 12 + x.clip % 4096)

/-- TONE_g_STAT. -/
def toneWord (s : State) (g : Nat) : Word :=
  let x := s.tone g
  if x.run then BitVec.ofNat 32 (0x80000000 + x.seg * 2 ^ 16 + x.left * 2 ^ 8 + x.pat) else 0

/-- The registers of the CLIP page that show the players. -/
def clipView (s : State) (off : Nat) : Option Word :=
  if 0x100 ≤ off ∧ off < 0x300 ∧ off % 8 = 4 then some (voiceWord s ((off - 0x104) / 8))
  else if 0x400 ≤ off ∧ off < 0x500 then some (toneWord s ((off - 0x400) / 4))
  else none

/-- A mask of 64 bits. -/
def mask64 (p : Nat → Bool) : Nat := (List.range 64).foldl (fun m i => m + b2n (p i) * 2 ^ i) 0

/-- R362: CLIP_QUERY. -/
def clipQueryBody (q : PlReq) (s : State) : PlAns :=
  let p := q.payload
  let m := field p 0 1
  let i := field p 2 2
  if p.length ≠ 4 ∨ field p 1 1 ≠ 0 then nak s P.clip .range
  else if m = 0 ∧ i < 64 then ok s (wordBytes (s.rd (P.clip + 0x100 + 8 * i)) ++ wordBytes (voiceWord s i))
  else if m = 1 ∧ i < 4096 then
    (if !libValid s then nak s P.clip .state
     else if !clipThere s i then nak s P.clip .absent
     else ok s (dirEntry s i))
  else if m = 2 ∧ i < 64 then ok s (wordBytes (toneWord s i))
  else if m = 3 then
    ok s (wordBytes (s.rd (P.clip + 0x44)) ++ leBytes 8 (mask64 fun v => (s.voice v).st != 0) ++
      leBytes 8 (mask64 fun g => (s.tone g).run))
  else nak s P.clip .range

/-- CLIP_QUERY (R362). -/
def execClipQuery (q : PlReq) (s : State) : Host.Outcome State Fault Refusal :=
  .next (runPlosto 0x3B q (onPage P.clip false (clipQueryBody q)) s)

/-! ### Flash reads for the players -/

/-- R356, R357: a head has arrived: for a PRIMING voice, which is then PRIMED or plays; for a clip that follows a fade; or
for a queued one. -/
def headArrived (s : State) (v : Nat) (w : HeadFor) (sound : Bool) : State :=
  let x := s.voice v
  let s := s.onClip fun c => { c with heads := c.heads.erase (v, w) }
  match w, x.after, x.queue with
  | .own, _, _ =>
    if x.st = 1 then
      let s := s.onVoice v fun y => { y with bad := headBad s (clipOf s y.clip) sound }
      if x.go then voicePlay s v x.clip x.rep else s.onVoice v fun y => { y with st := 2 }
    else s
  | .after, some n, _ => s.onVoice v fun y => { y with after := some { n with head := true, bad := headBad s (clipOf s n.clip) sound } }
  | .queue, _, some n => s.onVoice v fun y => { y with queue := some { n with head := true, bad := headBad s (clipOf s n.clip) sound } }
  | _, _, _ => s

/-- CLIP_HEAD_ARRIVE (R349, R356): the head being read for voice `v` arrives; heads are read one at a time, in order. `sound`:
the flash returned the bytes it stores. -/
def execClipHeadArrive (v : Fin 64) (sound : Bool) (s : State) : Host.Outcome State Fault Refusal :=
  match s.clip.heads with
  | (u, w) :: _ => if u = v.val ∧ s.domOn .core ∧ !pfMirror s then .next (headArrived s v w sound) else .next s
  | [] => .next s

/-- CLIP_CFG.RING: the bytes of a voice's ring. -/
def ringBytes (s : State) : Nat := if s.isSet P.clip F.CLIP_CFG_RING then 4096 else 2048

/-- The address of a voice's ring. -/
def ringAt (s : State) (v : Nat) : Nat := 0x800000 + s.getF P.clip F.CLIP_CFG_FRAME * 0x40000 + 4096 * v

/-- R359: a refill of 1 KB of voice `v`'s clip has been read: its bytes lie in the ring (log entry 47), and the pages they
come from have been checked. -/
def refill (s : State) (v : Nat) (sound : Bool) : State :=
  let x := s.voice v
  let c := clipOf s x.clip
  let total := match playLen c x.rep with
    | some m => if m = 0 then 0 else needed s c (m - 1)
    | none => x.got + 1024
  let n := min 1024 (total - x.got)
  let bad := (spanPages c x.rep x.got n).find? fun p => !sound || !pageGood s p
  let bytes := (List.range n).map fun i => libByte s (c.off + (x.got + i) % max 1 c.size)
  let s := { s with mem := (List.range n).foldl (fun m i => putByte m (ringAt s v + (x.got + i) % ringBytes s) (bytes.getD i 0)) s.mem }
  s.onVoice v fun y => { y with got := y.got + n, bad := y.bad.or bad }

/-- R359: a voice that is PLAYING or STOPPING has room in its ring for a refill. -/
def refillRoom (s : State) (v : Nat) : Bool :=
  let x := s.voice v
  let c := clipOf s x.clip
  let used := needed s c (x.pos * clipRate c.rate / 48000)
  (x.st == 3 || x.st == 4) && x.held.isNone && s.domOn .core && decide (x.got + 1024 ≤ used + ringBytes s)

/-- VOICE_REFILL_DONE (R349, R359): a ring refill of a voice with room for it is complete. `sound`: the flash returned the bytes it
stores. -/
def execVoiceRefillDone (v : Fin 64) (sound : Bool) (s : State) : Host.Outcome State Fault Refusal :=
  if refillRoom s v ∧ !pfMirror s then .next (refill s v sound) else .next s

/-- R359: bytes of a voice's clip are still to be read. -/
def refillLeft (s : State) (v : Nat) : Bool :=
  let x := s.voice v
  let c := clipOf s x.clip
  match playLen c x.rep with
  | some m => decide (m ≠ 0 ∧ x.got < needed s c (m - 1))
  | none => true

/-- R349: a read for a voice waits, of a head or a refill; a program or erase in progress is suspended until it has been served. -/
def voiceReads (s : State) : Bool :=
  s.domOn .core && (s.clip.heads != [] || (List.range 64).any fun v => refillRoom s v && refillLeft s v)

/-- R349: the turn of programs and erases other than those of a fall of PWRFAIL_N: nothing waits before them, and none is suspended. -/
def writeTurn (s : State) : Bool := !pfMirror s && !voiceReads s

/-- CLIP_END (R359): a voice whose clip has reached its end. -/
def execClipEnd (v : Fin 64) (s : State) : Host.Outcome State Fault Refusal :=
  if clipDue s (s.voice v) then .next (clipEnded s v) else .next s

/-- VOICE_FADE_END (R358): a voice whose fade has ended. -/
def execVoiceFadeEnd (v : Fin 64) (s : State) : Host.Outcome State Fault Refusal :=
  if fadeDue (s.voice v) then .next (voiceFaded s v) else .next s

/-- TONE_SEGMENT_END (R360): a generator whose segment has ended. -/
def execToneSegmentEnd (g : Fin 64) (s : State) : Host.Outcome State Fault Refusal :=
  if segDue s g then .next (segEnded s g) else .next s

/-! ### The page -/

/-- R365: RUNNING, or NOLIB; shown while the page is enabled. -/
def clipShow (s : State) : State := if s.en P.clip then s.setSt P.clip (if libValid s then 2 else 3) else s

/-- R359, R365: a write of CLIP_CFG. A ring that becomes shorter makes a voice lose the data that no longer fits: it counts
an underrun and reads the lost data again. -/
def clipCfgWrite (v : Word) : Act := fun s =>
  if getField v 12 8 = 31 then (.range, s)
  else if getField v 12 8 ≠ s.getF P.clip F.CLIP_CFG_FRAME ∧ s.clip.voices.any (fun x => x.st != 0) then (.state, s)
  else
    let s := s.store (P.clip + 0x40) v
    (.done, forEach (List.range 64) (fun v s =>
      let x := s.voice v
      let c := clipOf s x.clip
      let i := x.pos * clipRate c.rate / 48000
      let used := if i = 0 then 0 else needed s c (i - 1)
      if (x.st = 3 ∨ x.st = 4) ∧ x.held.isNone ∧ used + ringBytes s < x.got then
        voiceDry (s.onVoice v fun y => { y with got := used }) v
      else s) s)

/-- Writes of the CLIP page. -/
def clipWrite (off : Nat) (v : Word) : Act :=
  if off = 0x40 then clipCfgWrite v
  else if 0x100 ≤ off ∧ off < 0x300 ∧ off % 8 = 0 then
    (if getField v 1 0 = 3 then no .range else plain (P.clip + off) v)
  else plain (P.clip + off) v

/-- R365: the voices lose their clips and heads. -/
def clipLose (s : State) : State := s.onClip fun c => { c with voices := List.replicate 64 Voice.idle, heads := [], staged := [] }

end Sys2Proof.Machine
end

