-- ==== Sys2Proof/Machine/Comb.lean ====
section
/-! DEFINITION. The Comb (chapter 04): the crosspoint table, sinks, biquads and delays, their registers and commands. -/

namespace Sys2Proof.Machine

/-! ### Reading the table -/

/-- The entry at an index; none is FREE. -/
def xpAt (s : State) (k : Nat) : Option XpEntry := alGet s.comb.xps k

/-- Entries in index order with one replaced or freed. -/
def putXp : List (Nat × XpEntry) → Nat → Option XpEntry → List (Nat × XpEntry)
  | [], k, e => match e with
    | none => []
    | some x => [(k, x)]
  | (j, y) :: t, k, e =>
    if k < j then (match e with
      | none => (j, y) :: t
      | some x => (k, x) :: (j, y) :: t)
    else if k = j then (match e with
      | none => t
      | some x => (k, x) :: t)
    else (j, y) :: putXp t k e

/-- Replace or free the entry at an index. -/
def setXp (s : State) (k : Nat) (e : Option XpEntry) : State := s.onComb fun c => { c with xps := putXp c.xps k e }

/-- What a sink holds beside its window entry. -/
def Comb.sink (c : Comb) (k : Nat) : SinkHid := (alGet c.sinks k).getD SinkHid.reset

/-- Change what a sink holds. -/
def Comb.onSink (c : Comb) (k : Nat) (f : SinkHid → SinkHid) : Comb := { c with sinks := alSet c.sinks k (f (c.sink k)) }

/-- What a sink holds beside its window entry. -/
def sinkHid (s : State) (k : Nat) : SinkHid := s.comb.sink k

/-- Change what a sink holds. -/
def onSink (s : State) (k : Nat) (f : SinkHid → SinkHid) : State := s.onComb fun c => c.onSink k f

/-! ### Changes, and the period in which they take effect (R15 step 3, R93, R109, R112) -/

/-- R94, R98, R100, R101: an entry after a change; none is FREE. -/
def XpChange.on (ch : XpChange) (e : Option XpEntry) : Option XpEntry :=
  match ch, e with
  | .create src sink c r n, _ =>
    some { src := src, sink := sink, st := if n = 0 then .steady else .ramp, rampIdx := r, g := (Gain.at_ 0).begin c n, old := none }
  | _, none => none
  | .regain c r n, some e =>
    if e.st = .xfade then some { e with rampIdx := r, g := e.g.begin c n }
    else some { e with st := if n = 0 then .steady else .ramp, rampIdx := r, g := e.g.begin c n, old := none }
  | .resource src c r n, some e =>
    if n = 0 then some { e with src := src, st := .steady, rampIdx := r, g := e.g.jump c, old := none }
    else some { e with src := src, st := .xfade, rampIdx := r, g := (Gain.at_ 0).fade c n, old := some (e.src, e.g.fade 0 n) }
  | .release r n, some e =>
    if n = 0 then none
    else some { e with st := .release, rampIdx := r, g := e.g.fade 0 n, old := e.old.map fun o => (o.1, o.2.fade 0 n) }

/-- R116: the weights with which the read positions in use make the present output. -/
def presentTaps (h : SinkHid) : List DlyTap :=
  match h.fade with
  | none => [⟨h.delay, 1⟩]
  | some f => ⟨h.delay, (f.i : Rat) / f.n⟩ :: f.olds.map fun t => { t with weight := t.weight * (1 - (f.i : Rat) / f.n) }

/-- R116: a change of DELAY: the positions in use fade out and the new one fades in; the line keeps what the new delay and
the fade need. -/
def SinkHid.delayTo (h : SinkHid) (d n : Nat) : SinkHid :=
  if n = 0 then { h with delay := d, fade := none, line := h.line.take d }
  else { h with delay := d, fade := some ⟨presentTaps h, n, 0⟩ }

/-- R112: stage `j` takes five coefficients; its state is kept unless `clr`. -/
def SinkHid.bqTo (h : SinkHid) (j : Nat) (coef : List Word) (clr : Bool) : SinkHid :=
  { h with bqs := modifyAt (fun b =>
      if clr then { coef := coef, x1 := 0, x2 := 0, y1 := 0, y2 := 0 } else { b with coef := coef }) j h.bqs }

/-- One change takes effect. -/
def Comb.take (c : Comb) (d : CombDue) : Comb :=
  match d with
  | .xp k ch => { c with xps := putXp c.xps k (ch.on (alGet c.xps k)) }
  | .trim k g n => c.onSink k fun h => { h with trim := h.trim.begin g n }
  | .delay k d n => c.onSink k fun h => h.delayTo d n
  | .biquad k j coef clr => c.onSink k fun h => h.bqTo j coef clr

/-- The Comb with the changes accepted so far in effect. -/
def Comb.plan (c : Comb) : Comb := { c.due.foldl Comb.take c with due := [] }

/-- The table and sinks that the checks of a command see: those of the changes accepted before it, in effect or not. -/
def planned (s : State) : Comb := s.comb.plan

/-- R15 step 3: a change is accepted; it takes effect in the next period. -/
def State.accept (s : State) (d : CombDue) : State := s.onComb fun c => { c with due := c.due ++ [d] }

/-- Whether a change of entry `k` waits for step 3. -/
def xpWaits (c : Comb) (k : Nat) : Bool := c.due.any fun d => match d with
  | .xp j _ => j == k
  | _ => false

/-- R15 step 3: the changes accepted since the last period take effect. -/
def combTake (s : State) : State :=
  if s.comb.due = [] then s
  else
    let s := s.onComb Comb.plan
    (s.setF P.cmb F.CMB_XP_USED_HIGH (max (s.getF P.cmb F.CMB_XP_USED_HIGH) s.comb.xps.length)).setF P.cmb F.CMB_BQ_CMD_LOAD 0

/-- The entry at an index, as the changes accepted so far leave it. -/
def xpSeen (s : State) (k : Nat) : Option XpEntry := alGet (planned s).xps k

/-- The index of the entry that joins a source to a sink. -/
def findXp (s : State) (src sink : Nat) : Option Nat :=
  ((planned s).xps.find? fun e => e.2.src == src && e.2.sink == sink).map (·.1)

/-- R104: the indexes of a sink's contributors, ascending. -/
def contribs (s : State) (sink : Nat) : List Nat := ((planned s).xps.filter fun e => e.2.sink == sink).map (·.1)

/-- R105: the lowest FREE index, from `k` on. -/
def freeFrom : List (Nat × XpEntry) → Nat → Nat
  | [], k => k
  | (j, _) :: t, k => if j = k then freeFrom t (k + 1) else k

/-- The lowest FREE index of the table, if one of the 8,192 is FREE. -/
def freeXp (s : State) : Option Nat :=
  let k := freeFrom (planned s).xps 0
  if k < 8192 then some k else none

/-- R16, R18: a reserved source number. -/
def badSource (n : Nat) : Bool := decide (0x400 ≤ n ∨ (0x22E ≤ n ∧ n ≤ 0x23F))

/-- R17, R18: a reserved sink number. -/
def badSink (n : Nat) : Bool := decide (0x400 ≤ n ∨ (0x218 ≤ n ∧ n ≤ 0x2BF))

/-- R92: XP_k_MAP. -/
def xpMapWord (s : State) (k : Nat) : Word :=
  match xpAt s k with
  | none => 0
  | some e => BitVec.ofNat 32 ((match e.st, e.old with
      | .xfade, some o => o.1 * 2 ^ 20
      | _, _ => 0) + e.sink * 2 ^ 10 + e.src)

/-- XP_k_GAIN.STATE of a state. -/
def XpSt.num : XpSt → Nat
  | .steady => 1 | .ramp => 2 | .xfade => 3 | .release => 4

/-- R92: XP_k_GAIN. -/
def xpGainWord (s : State) (k : Nat) : Word :=
  match xpAt s k with
  | none => 0
  | some e => BitVec.ofNat 32 (e.st.num * 2 ^ 29 + e.g.cur * 2 ^ 16 + e.rampIdx * 2 ^ 12 + e.g.target)

/-! ### Changes to the table -/

/-- R96: a ramp index with 15 resolved from the sink's DEF_RAMP. -/
def rampIndex (s : State) (sink r : Nat) : Nat := if r = 15 then s.getF (P.sink sink) F.SK_CTRL_DEF_RAMP else r

/-- R96, R106: the step count of a change: 0 while the CMB is STOPPED. -/
def stepsOf (s : State) (r : Nat) : Nat := if s.stopped then 0 else rampN r

/-- The state an entry takes when its gain is on its way or has arrived. -/
def restSt (g : Gain) : XpSt := if g.moving then .ramp else .steady

/-- R94, R98: a new entry ramps from mute to its gain. -/
def xpCreate (s : State) (k src sink c r : Nat) : State :=
  let r := rampIndex s sink r
  s.accept (.xp k (.create src sink c r (stepsOf s r)))

/-- R100: a gain change of an entry of a sink. -/
def xpRegain (s : State) (k sink c r : Nat) : State :=
  let r := rampIndex s sink r
  s.accept (.xp k (.regain c r (stepsOf s r)))

/-- R99, R100: a source change: a crossfade within the entry; in XFADE the outgoing lane is cut. -/
def xpResource (s : State) (k sink src c r : Nat) : State :=
  let r := rampIndex s sink r
  s.accept (.xp k (.resource src c r (stepsOf s r)))

/-- R101: an entry of a sink is removed: RELEASE, or FREE at once with ramp index 0. -/
def xpRelease (s : State) (k sink r : Nat) : State :=
  let r := rampIndex s sink r
  s.accept (.xp k (.release r (stepsOf s r)))

/-- R95: a clamp is counted and raised. -/
def clampNote (s : State) (c : Nat) : State :=
  if maxCode < c then (s.bump P.cmb F.CMB_CLAMP_CNT_COUNT).raise P.cmb 0 else s

/-- R94: the outcome of a commit to entry `k` of a gain word, with the map word held if there is one. -/
def xpCommit (k : Nat) (map : Option Word) (v : Word) : Act := fun s =>
  let c := clampCode (getField v 11 0)
  let r := getField v 15 12
  match xpSeen s k, map with
  | none, m =>
    if bit v 28 then (.state, s)
    else match m with
      | none => (.state, s)
      | some m =>
        let src := getField m 9 0
        let sink := getField m 19 10
        if badSource src || badSink sink then (.range, s)
        else if (findXp s src sink).isSome then (.state, s)
        else if 64 ≤ (contribs s sink).length then (.full, s)
        else (.done, xpCreate (clampNote s (getField v 11 0)) k src sink c r)
  | some e, m =>
    if bit v 28 then (.done, xpRelease s k e.sink r)
    else match m with
      | none => (.done, xpRegain (clampNote s (getField v 11 0)) k e.sink c r)
      | some m =>
        let src := getField m 9 0
        let sink := getField m 19 10
        if badSource src || badSink sink then (.range, s)
        else if sink ≠ e.sink then (.state, s)
        else if src ≠ e.src then
          (if (findXp s src sink).isSome then (.state, s)
           else (.done, xpResource (clampNote s (getField v 11 0)) k e.sink src c r))
        else (.done, xpRegain (clampNote s (getField v 11 0)) k e.sink c r)

/-- R93: a write of XP_k_MAP is held for the requester. -/
def xpMapWrite (r : Req) (k : Nat) (v : Word) : Act := yes fun s =>
  { s with holds := alSet s.holds ⟨r, P.cmb⟩ (0x020000 + 8 * k, v) }

/-- R93: the map word held by a requester for entry `k`. -/
def heldMap (s : State) (r : Req) (k : Nat) : Option Word :=
  match alGet s.holds ⟨r, P.cmb⟩ with
  | some (a, v) => if a = 0x020000 + 8 * k then some v else none
  | none => none

/-- R93: a write of XP_k_GAIN commits; a held map word is used up, by a refusal too. -/
def xpGainWrite (r : Req) (k : Nat) (v : Word) : Act := fun s =>
  let m := heldMap s r k
  xpCommit k m v (if m.isSome then { s with holds := alDel s.holds ⟨r, P.cmb⟩ } else s)

/-- The crosspoint window. -/
def xpWrite (r : Req) (k off : Nat) (v : Word) : Act := if off = 0 then xpMapWrite r k v else xpGainWrite r k v

/-- XP_MAP_WRITE (R93). -/
def execXpMapWrite (r : Req) (k : Fin 8192) (v : Word) (s : State) : Host.Outcome State Fault Refusal :=
  .next (hostWrite r (0x020000 + 8 * k) (xpMapWrite r k v) s)

/-- XP_GAIN_WRITE (R94): a write of XP_k_GAIN with DEL = 0. -/
def execXpGainWrite (r : Req) (k : Fin 8192) (v : Word) (s : State) : Host.Outcome State Fault Refusal :=
  .next (hostWrite r (0x020004 + 8 * k) (xpGainWrite r k (setField v 28 28 0)) s)

/-- XP_DEL_WRITE (R94, R101): a write of XP_k_GAIN with DEL = 1. -/
def execXpDelWrite (r : Req) (k : Fin 8192) (v : Word) (s : State) : Host.Outcome State Fault Refusal :=
  .next (hostWrite r (0x020004 + 8 * k) (xpGainWrite r k (setField v 28 28 1)) s)

/-! ### Ends of ramps -/

/-- What becomes of an entry whose ramps have arrived (R97, R99, R101); none is FREE. -/
def XpEntry.arrive (e : XpEntry) : Option XpEntry :=
  match e.st with
  | .steady => some (if e.g.moving then e else { e with g := e.g.rest })
  | .ramp => if e.g.moving then some e else some { e with st := .steady, g := e.g.rest }
  | .release =>
    if e.g.moving || (match e.old with
      | some o => o.2.moving
      | none => false) then some e else none
  | .xfade =>
    match e.old with
    | some o =>
      if o.2.moving then some e
      else if e.g.moving then some { e with st := .ramp, old := none }
      else some { e with st := .steady, g := e.g.rest, old := none }
    | none => some { e with st := restSt e.g }

/-- The end of a ramp of entry `k`, if it is in the state given and has arrived; an entry that an accepted change will take on its
way again has not. -/
def xpArrive (s : State) (k : Nat) (st : XpSt) : State :=
  match xpAt s k with
  | some e => if e.st = st ∧ !xpWaits s.comb k ∧ e.arrive ≠ some e then setXp s k e.arrive else s
  | none => s

/-- CROSSPOINT_RAMP_END (R97). -/
def execCrosspointRampEnd (k : Fin 8192) (s : State) : Host.Outcome State Fault Refusal := .next (xpArrive s k .ramp)

/-- CROSSFADE_END (R99). -/
def execCrossfadeEnd (k : Fin 8192) (s : State) : Host.Outcome State Fault Refusal := .next (xpArrive s k .xfade)

/-- RELEASE_END (R101). -/
def execReleaseEnd (k : Fin 8192) (s : State) : Host.Outcome State Fault Refusal := .next (xpArrive s k .release)

/-! ### Sinks -/

/-- SK_TRIM.CUR follows the trim's gain. -/
def trimCur (s : State) (k : Nat) : State := s.setF (P.sink k) F.SK_TRIM_CUR (sinkHid s k).trim.cur

/-- R110: a trim change. -/
def trimSet (s : State) (k : Nat) (v : Word) : State :=
  let c := clampCode (getField v 11 0)
  let r := rampIndex s k (getField v 15 12)
  let s := clampNote s (getField v 11 0)
  let s := (s.setF (P.sink k) F.SK_TRIM_RAMP r).setF (P.sink k) F.SK_TRIM_CODE c
  s.accept (.trim k c (stepsOf s r))

/-- R115: the granules a delay holds. -/
def granules (d : Nat) : Nat := (d + 31) / 32

/-- R116: the granules a sink holds: those of the largest delay that a read position in use needs. -/
def heldGranules (h : SinkHid) : Nat :=
  granules (match h.fade with
    | some f => f.olds.foldl (fun m t => max m t.delay) h.delay
    | none => h.delay)

/-- CMB_DLY_STAT.USED: the granules held by all sinks. -/
def Comb.used (c : Comb) : Nat := c.sinks.foldl (fun n e => n + heldGranules e.2) 0

/-- R115: the granules of the assigned frames: 2,048 in each. -/
def allGranules (s : State) : Nat := 2048 * s.getF P.cmb F.CMB_DLY_CFG_NFRM

/-- R115, R116: a write of SK_DLY. -/
def sinkDlyWrite (k : Nat) (v : Word) : Act := fun s =>
  let d := getField v 14 0
  let xf := getField v 19 16
  if 24000 < d ∨ xf = 0 ∨ xf = 15 then (.range, s)
  else
    let c := planned s
    let h := c.sink k
    if d = h.delay then (.done, s.store (P.sink k + 0x0C) v)
    else
      let h' := h.delayTo d (stepsOf s xf)
      if allGranules s < c.used - heldGranules h + heldGranules h' ∧ heldGranules h < heldGranules h' then (.full, s)
      else (.done, (s.store (P.sink k + 0x0C) v).accept (.delay k d (stepsOf s xf)))

/-- R111: a write of SK_CTRL: stages brought into use start with cleared state. -/
def sinkCtrlWrite (k : Nat) (v : Word) : Act := fun s =>
  let n := getField v 3 0
  if 8 < n ∨ getField v 19 16 = 15 then (.range, s)
  else
    let was := s.getF (P.sink k) F.SK_CTRL_BQ_COUNT
    let clear (i : Nat) (b : Biquad) : Biquad := if i < n ∧ i < was then b else { b with x1 := 0, x2 := 0, y1 := 0, y2 := 0 }
    let s := s.store (P.sink k) v
    (.done, if n = was then s else onSink s k fun h => { h with bqs := h.bqs.mapIdx clear })

/-- R114: a write of SK_LIM. -/
def sinkLimWrite (k : Nat) (v : Word) : Act := fun s =>
  let rel := getField v 15 8
  if 400 < getField v 25 16 ∨ rel = 0 ∨ 200 < rel ∨ 200 < getField v 7 0 then (.range, s)
  else (.done, s.store (P.sink k + 0x08) v)

/-- R117: a write of SK_MET_CFG. -/
def sinkMetWrite (k : Nat) (v : Word) : Act := fun s =>
  if 100 < getField v 15 8 then (.range, s) else (.done, s.store (P.sink k + 0x10) v)

/-- The sink chain window (R109). -/
def sinkWrite (k off : Nat) (v : Word) : Act :=
  if off = 0x00 then sinkCtrlWrite k v else if off = 0x04 then yes fun s => trimSet s k v
  else if off = 0x08 then sinkLimWrite k v else if off = 0x0C then sinkDlyWrite k v
  else if off = 0x10 then sinkMetWrite k v else plain (P.sink k + off) v

/-- TRIM_WRITE (R110): a write of SK_TRIM. -/
def execTrimWrite (r : Req) (k : Fin 1024) (v : Word) (s : State) : Host.Outcome State Fault Refusal :=
  .next (hostWrite r (P.sink k + 0x04) (yes fun s => trimSet s k v) s)

/-- The trim of sink `k` has arrived. -/
def trimArrive (s : State) (k : Nat) : State :=
  let h := sinkHid s k
  if h.trim.slope.isSome ∧ !h.trim.moving then trimCur (onSink s k fun h => { h with trim := h.trim.rest }) k else s

/-- TRIM_RAMP_END (R110). -/
def execTrimRampEnd (k : Fin 1024) (s : State) : Host.Outcome State Fault Refusal := .next (trimArrive s k)

/-- DELAY_CHANGE (R116): a write of SK_DLY. -/
def execDelayChange (r : Req) (k : Fin 1024) (v : Word) (s : State) : Host.Outcome State Fault Refusal :=
  .next (hostWrite r (P.sink k + 0x0C) (sinkDlyWrite k v) s)

/-- R116: a delay crossfade that has run its steps ends; what the new delay does not need is freed. -/
def delayArrive (s : State) (k : Nat) : State :=
  match (sinkHid s k).fade with
  | none => s
  | some f => if f.n ≤ f.i then onSink s k fun h => { h with fade := none, line := h.line.take h.delay } else s

/-- DELAY_XFADE_END (R116). -/
def execDelayXfadeEnd (k : Fin 1024) (s : State) : Host.Outcome State Fault Refusal := .next (delayArrive s k)

/-! ### Biquads -/

/-- R112: stage `j` of sink `k` takes five coefficients in the next period; its state is kept unless `clr`. -/
def bqSet (s : State) (k j : Nat) (coef : List Word) (clr : Bool) : State := s.accept (.biquad k j coef clr)

/-- The staging registers CMB_BQ_B0 to CMB_BQ_A2. -/
def bqStaged (s : State) : List Word := (List.range 5).map fun i => s.rd (P.cmb + 0x64 + 4 * i)

/-- R112: a write of CMB_BQ_CMD. LOAD takes the staging registers as they stand at the write, and reads 1 until they are applied;
READ is done at once. -/
def bqCmdWrite (v : Word) : Act := fun s =>
  let k := s.getF P.cmb F.CMB_BQ_SEL_SINK
  let j := s.getF P.cmb F.CMB_BQ_SEL_STAGE
  if (bit v 0 ∨ bit v 2) ∧ 8 ≤ j then (.range, s)
  else
    let s := if bit v 0 then (bqSet s k j (bqStaged s) (bit v 1)).setF P.cmb F.CMB_BQ_CMD_LOAD 1 else s
    let c := ((sinkHid s k).bqs.getD j Biquad.reset).coef
    (.done, if bit v 2 then forEach (List.range 5) (fun i s => s.wr (P.cmb + 0x64 + 4 * i) (c.getD i 0)) s else s)

/-- BQ_LOAD (R112): CMB_BQ_CMD is written with LOAD, and CLRSTATE as `clr`. -/
def execBqLoad (r : Req) (clr : Bool) (s : State) : Host.Outcome State Fault Refusal :=
  .next (hostWrite r (P.cmb + 0x78) (bqCmdWrite (if clr then 3 else 1)) s)

/-- BQ_READ (R112): CMB_BQ_CMD is written with READ. -/
def execBqRead (r : Req) (s : State) : Host.Outcome State Fault Refusal :=
  .next (hostWrite r (P.cmb + 0x78) (bqCmdWrite 4) s)

/-! ### Activity and derived registers -/

/-- R107: whether a sink is active. -/
def sinkActive (s : State) (k : Nat) : Bool :=
  let h := sinkHid s k
  s.comb.xps.any (fun e => e.2.sink == k && (e.2.st != .steady || e.2.g.lin != 0)) || h.trim.moving || h.fade.isSome ||
    decide (h.quiet < h.delay + 32)

/-- The sinks that can be active: those with an entry or with state of their own. -/
def liveSinks (s : State) : List Nat := (s.comb.xps.map (·.2.sink) ++ s.comb.sinks.map (·.1)).dedup

/-- CMB_ACTIVE.COUNT: the active sinks (R107). -/
def activeCount (s : State) : Nat := ((liveSinks s).filter (sinkActive s)).length

/-- SK_STAT. -/
def skStatWord (s : State) (k : Nat) : Word :=
  let h := sinkHid s k
  let xr := s.comb.xps.any fun e => e.2.sink == k && e.2.st != .steady
  BitVec.ofNat 32 (b2n (sinkActive s k) * 2 ^ 31 + b2n h.trim.moving * 2 ^ 30 + b2n xr * 2 ^ 29 + b2n h.fade.isSome * 2 ^ 28 +
    (s.comb.xps.filter fun e => e.2.sink == k).length * 2 ^ 16 + heldGranules h)

/-- SK_ZLA: the present ZLA gain in 0.05 dB. -/
def skZlaWord (s : State) (k : Nat) : Word :=
  BitVec.ofNat 32 (unsigned 10 ((sinkHid s k).zla.cur - 2401))

/-- The registers of the CMB page and of the Comb's windows whose value follows from what the Comb holds. -/
def combView (s : State) (a : Nat) : Option Word :=
  match regionOf a with
  | .xp k off => some (if off = 0 then xpMapWord s k else xpGainWord s k)
  | .sink k off => if off = 0x18 then some (skStatWord s k) else if off = 0x1C then some (skZlaWord s k) else none
  | .page _ _ off =>
    if off = 0x40 then some (setField (s.rd a) 13 0 s.comb.xps.length)
    else if off = 0x44 then some (BitVec.ofNat 32 (activeCount s))
    else if off = 0x4C then some (BitVec.ofNat 32 ((allGranules s - s.comb.used) * 2 ^ 16 + s.comb.used))
    else if 0x400 ≤ off ∧ off < 0x600 ∧ off % 0x20 = 0x10 then
      some (setField (s.rd a) 9 0 (getField (skZlaWord s (0x200 + (off - 0x400) / 0x20)) 9 0))
    else none
  | _ => none

/-- R115: a write of CMB_DLY_CFG. -/
def dlyCfgWrite (v : Word) : Act := fun s =>
  let n := getField v 3 0
  if 8 < n ∨ (0 < n ∧ 31 < getField v 12 8 + n) then (.range, s)
  else if (planned s).used ≠ 0 then (.state, s)
  else (.done, s.store (P.cmb + 0x48) v)

/-! ### Commands -/

/-- R105: the RFLAGS byte of XP_SET. -/
def rflags (clamped created : Bool) : Byte := BitVec.ofNat 8 (b2n clamped + 2 * b2n created)

/-- R105: the answer of XP_SET. -/
def xpSetOk (s : State) (k sink code : Nat) (created : Bool) : PlAns :=
  ok s (leBytes 2 k ++ [rflags (decide (maxCode < code)) created, BitVec.ofNat 8 (contribs s sink).length])

/-- R105: XP_SET without SWAP: a gain change, or a new entry at the lowest FREE index. -/
def xpSetPlain (q : PlReq) (s : State) : PlAns :=
  let src := field q.payload 0 2
  let sink := field q.payload 2 2
  let code := field q.payload 4 2
  let r := field q.payload 6 1
  if q.payload.length ≠ 10 ∨ badSource src ∨ badSink sink ∨ 4096 ≤ code ∨ 16 ≤ r ∨ 2 ≤ field q.payload 7 1 then
    nak s P.cmb .range
  else match findXp s src sink with
    | some k => xpSetOk (xpRegain (clampNote s code) k sink (clampCode code) r) k sink code false
    | none =>
      if 64 ≤ (contribs s sink).length then nak s P.cmb .full
      else match freeXp s with
        | some k => xpSetOk (xpCreate (clampNote s code) k src sink (clampCode code) r) k sink code true
        | none => nak s P.cmb .full

/-- R105: XP_SET with SWAP: the entry joining OLD_SOURCE to SINK changes its source. -/
def xpSetSwapped (q : PlReq) (s : State) : PlAns :=
  let src := field q.payload 0 2
  let sink := field q.payload 2 2
  let code := field q.payload 4 2
  let r := field q.payload 6 1
  let old := field q.payload 8 2
  if q.payload.length ≠ 10 ∨ badSource src ∨ badSink sink ∨ badSource old ∨ 4096 ≤ code ∨ 16 ≤ r ∨ 2 ≤ field q.payload 7 1 then
    nak s P.cmb .range
  else match findXp s old sink with
    | none => nak s P.cmb .absent
    | some k =>
      if (findXp s src sink).isSome then nak s P.cmb .state
      else xpSetOk (xpResource (clampNote s code) k sink src (clampCode code) r) k sink code false

/-- R105: XP_SET, by its SWAP flag. -/
def xpSetBody (q : PlReq) (s : State) : PlAns :=
  if field q.payload 7 1 % 2 = 1 then xpSetSwapped q s else xpSetPlain q s

/-- XP_SET (R105). -/
def execXpSet (q : PlReq) (s : State) : Host.Outcome State Fault Refusal :=
  .next (runPlosto 0x10 q (onPage P.cmb true (xpSetBody q)) s)

/-- XP_SET_SWAP (R99, R105). -/
def execXpSetSwap (q : PlReq) (s : State) : Host.Outcome State Fault Refusal :=
  .next (runPlosto 0x10 q (onPage P.cmb true (xpSetBody q)) s)

/-- R101, R105: remove entries by index. -/
def releaseAll (s : State) (ks : List Nat) (r : Nat) : State :=
  forEach ks (fun k s => match xpSeen s k with
    | some e => xpRelease s k e.sink r
    | none => s) s

/-- R105: XP_REMOVE. -/
def xpRemoveBody (q : PlReq) (s : State) : PlAns :=
  let src := field q.payload 0 2
  let sink := field q.payload 2 2
  let r := field q.payload 4 1
  if q.payload.length ≠ 8 ∨ (src ≠ 0xFFFF ∧ badSource src) ∨ badSink sink ∨ 16 ≤ r ∨ field q.payload 5 3 ≠ 0 then nak s P.cmb .range
  else
    let ks := if src = 0xFFFF then contribs s sink else (findXp s src sink).toList
    if ks = [] then nak s P.cmb .absent else ok (releaseAll s ks r) (leBytes 2 ks.length)

/-- XP_REMOVE (R105). -/
def execXpRemove (q : PlReq) (s : State) : Host.Outcome State Fault Refusal :=
  .next (runPlosto 0x11 q (onPage P.cmb true (xpRemoveBody q)) s)

/-- R105: one entry as XP_QUERY answers it. -/
def xpEntryBytes (s : State) (k : Nat) : List Byte :=
  leBytes 2 k ++ [0, 0] ++ wordBytes (xpMapWord s k) ++ wordBytes (xpGainWord s k)

/-- R105: XP_QUERY. -/
def xpQueryBody (q : PlReq) (s : State) : PlAns :=
  let mode := field q.payload 0 1
  let k := field q.payload 2 2
  let src := field q.payload 4 2
  let sink := field q.payload 6 2
  if q.payload.length ≠ 8 ∨ 2 < mode ∨ field q.payload 1 1 ≠ 0 then nak s P.cmb .range
  else if mode = 0 then (if 8192 ≤ k then nak s P.cmb .range else ok s (xpEntryBytes s k))
  else if badSink sink ∨ (mode = 1 ∧ badSource src) then nak s P.cmb .range
  else if mode = 1 then (match (s.comb.xps.find? fun e => e.2.src == src && e.2.sink == sink).map (·.1) with
    | some k => ok s (xpEntryBytes s k)
    | none => nak s P.cmb .absent)
  else
    let ks := (s.comb.xps.filter fun e => e.2.sink == sink).map (·.1)
    ok s ([BitVec.ofNat 8 ks.length, 0] ++ ks.flatMap (leBytes 2))

/-- XP_QUERY (R105). -/
def execXpQuery (q : PlReq) (s : State) : Host.Outcome State Fault Refusal :=
  .next (runPlosto 0x12 q (onPage P.cmb false (xpQueryBody q)) s)

end Sys2Proof.Machine
end

