-- ==== Sys2Proof/Machine/Madc.lean ====
section
/-! DEFINITION. The measurement converters: triggers, passes, results, the cross-check and calibration (R366-R381). -/

namespace Sys2Proof.Machine

/-- The base of sequence `q` of converter `n`. -/
def seqBase (n q : Nat) : Nat := P.madc n + 16 * q

/-- MADC_n_SEQ_s_CFG.EN, and the page enabled and powered. -/
def seqOn (s : State) (n q : Nat) : Bool := s.isSet (seqBase n q) F.MADC_SEQ_CFG_EN && s.en (P.madc n) && s.domOn .analog

/-- MADC_n_SEQ_s_CFG.DEST: 0 registers only, 1 FIFO, 2 RING. -/
def seqDest (s : State) (n q : Nat) : Nat := s.getF (seqBase n q) F.MADC_SEQ_CFG_DEST

/-- MADC_n_REF.REF_OK. -/
def refOk (s : State) (n : Nat) : Bool := s.isSet (P.madc n) F.MADC_REF_REF_OK

/-- R372: a sequence is busy: it waits, samples or is suspended. -/
def seqBusy (s : State) (n q : Nat) : Bool :=
  let m := s.conv n
  (m.active.map (·.seq)) == some q || (m.susp.map (·.seq)) == some q || m.waiting.any fun w => w.1 == q

/-- R379: PG_STAT.STATE: SETTLING, CONVERTING or READY; shown while the page is enabled. -/
def madcShow (s : State) (n : Nat) : State :=
  if s.en (P.madc n) then
    s.setSt (P.madc n) (if !refOk s n then 4 else if (List.range 4).any (seqBusy s n) then 3 else 2)
  else s

/-- MADC_n_STAT. -/
def madcStatWord (s : State) (n : Nat) : Word :=
  let m := s.conv n
  let mask (p : Nat → Bool) : Nat := (List.range 4).foldl (fun a q => a + b2n (p q) * 2 ^ q) 0
  BitVec.ofNat 32 (b2n m.active.isSome * 2 ^ 31 + ((m.active.map (·.seq)).getD 0) * 2 ^ 28 + b2n m.susp.isSome * 2 ^ 27 +
    mask (seqBusy s n) * 2 ^ 20 + mask (fun q => m.held.any fun h => h.1 == q) * 2 ^ 16 + m.fifo.length)

/-! ### Triggers -/

/-- R374: a trigger is dropped. -/
def trigDrop (s : State) (n : Nat) : State := ((s.bump (P.madc n) F.MADC_DROP_CNT_COUNT).raise (P.madc n) 1).err (P.madc n)

/-- R369, R374, R379: a trigger reaches sequence `q` of converter `n`, which has EN = 1; whether it was taken. -/
def trigger (s : State) (n q : Nat) : Bool × State :=
  let t := (q, !refOk s n)
  if s.sys.mode = .idle ∧ seqDest s n q = 2 then (false, trigDrop s n)
  else if !seqBusy s n q then (true, madcShow (s.onMadc n fun m => { m with waiting := m.waiting ++ [t] }) n)
  else match s.getF (seqBase n q) F.MADC_SEQ_CFG_POLICY with
    | 1 =>
      if (s.conv n).held.any (fun h => h.1 == q) then (false, trigDrop s n)
      else (true, s.onMadc n fun m => { m with held := m.held ++ [t] })
    | 2 =>
      let s := s.bump (P.madc n) F.MADC_RESTART_CNT_COUNT
      (true, s.onMadc n fun m => { m with
        active := m.active.map fun p => if p.seq = q then { p with ending := true } else p
        susp := m.susp.filter fun p => p.seq != q
        waiting := m.waiting.filter (fun w => w.1 != q) ++ [t] })
    | _ => (false, trigDrop s n)

/-- MADC_TIMER_TRIGGER (R373): PERIOD clocks of a TIMER sequence have passed. -/
def execMadcTimerTrigger (n : Fin 2) (q : Fin 4) (s : State) : Host.Outcome State Fault Refusal :=
  if seqOn s n q ∧ s.getF (seqBase n q) F.MADC_SEQ_TRIG_TRIG = 1 then .next (trigger s n q).2 else .next s

/-- MADC_PWM_TRIGGER (R373): the selected carrier event of the channel that a PWM sequence names, which switches. -/
def execMadcPwmTrigger (n : Fin 2) (q : Fin 4) (s : State) : Host.Outcome State Fault Refusal :=
  if seqOn s n q ∧ s.getF (seqBase n q) F.MADC_SEQ_TRIG_TRIG = 2 ∧
      ampLive s (getField (s.rd (seqBase n q + 0x104)) 26 24) then .next (trigger s n q).2
  else .next s

/-- Software triggers of the sequences a mask names (R373). -/
def trigMask (s : State) (n mask : Nat) : Nat × State :=
  (List.range 4).foldl (fun (o : Nat × State) q =>
    if mask / 2 ^ q % 2 = 1 then
      let r := trigger o.2 n q
      (o.1 + b2n r.1 * 2 ^ q, r.2)
    else o) (0, s)

/-- Whether every sequence that a mask names has EN = 1. -/
def maskOn (s : State) (n mask : Nat) : Bool := (List.range 4).all fun q => mask / 2 ^ q % 2 == 0 || seqOn s n q

/-- R341, R373: the cue trigger of a sequence. -/
def cueTrigger (n q : Nat) : Act := fun s => if seqOn s n q then (.done, (trigger s n q).2) else (.state, s)

/-- R381: ADC_TRIGGER. -/
def adcTriggerBody (q : PlReq) (s : State) : PlAns :=
  let n := field q.payload 0 1
  let m := field q.payload 1 1
  if q.payload.length ≠ 4 ∨ 2 ≤ n ∨ 16 ≤ m ∨ field q.payload 2 2 ≠ 0 then nak s (P.madc (n % 2)) .range
  else if !maskOn s n m then nak s (P.madc n) .state
  else
    let r := trigMask s n m
    ok r.2 [BitVec.ofNat 8 r.1, 0, 0, 0]

/-- ADC_TRIGGER (R381). -/
def execAdcTrigger (q : PlReq) (s : State) : Host.Outcome State Fault Refusal :=
  .next (runPlosto 0x40 q (onPage (P.madc (field q.payload 0 1 % 2)) true (adcTriggerBody q)) s)

/-! ### Results -/

/-- R377: a word for the FIFO; one that finds it full is discarded. -/
def fifoPush (s : State) (n : Nat) (w : Word) : State :=
  if (s.conv n).fifo.length < 256 then s.onMadc n fun m => { m with fifo := m.fifo ++ [w] }
  else ((s.bump (P.madc n) F.MADC_OVR_CNT_COUNT).raise (P.madc n) 2).err (P.madc n)

/-- R377: the words of a ring. -/
def ringWords (s : State) (n : Nat) : Nat := 2 ^ (10 + s.getF (P.madc n) F.MADC_RING_LEN)

/-- R377: a word for the ring, which never stops for being full. -/
def ringPush (s : State) (n : Nat) (w : Word) : State :=
  let p := P.madc n
  let i := s.getF p F.MADC_RING_WP_INDEX
  let s := s.storeWord (0x800000 + s.getF p F.MADC_RING_FRAME * 0x40000 + s.getF p F.MADC_RING_OFFSET * 0x1000 + 4 * i) w
  if i + 1 < ringWords s n then s.setF p F.MADC_RING_WP_INDEX (i + 1)
  else (s.setF p F.MADC_RING_WP_INDEX 0).setF p F.MADC_RING_WP_WRAP (s.getF p F.MADC_RING_WP_WRAP + 1)

/-- R377: a word goes where DEST sends it. -/
def sendWord (s : State) (n q : Nat) (w : Word) : State :=
  match seqDest s n q with
  | 1 => fifoPush s n w
  | 2 => if s.isSet (P.madc n) F.MADC_RING_EN then ringPush s n w else s
  | _ => s

/-- R370: a 14-bit code corrected for offset and gain. -/
def corrected (c : Int × Int) (code : Int) : Int :=
  let y := code + c.1 + quantI ((code - 8192) * c.2) 8192
  if y < 0 then 0 else if 16383 < y then 16383 else y

/-- R376: VALUE of a code, by format and alignment. -/
def valueOf (code : Nat) (fmt align : Bool) : Nat :=
  let v : Int := if fmt then (code : Int) - 8192 else code
  unsigned 16 (if align then v * 4 else v)

/-- R377: a timestamp's two words. -/
def stampWords (s : State) (n q : Nat) : List Word :=
  let t := (s.get64 (seqBase n q + 0x108)).toNat
  [BitVec.ofNat 32 (0x40000000 + t % 2 ^ 30), BitVec.ofNat 32 (0x80000000 + t / 2 ^ 30 % 2 ^ 30)]

/-- R369, R376-R378: the result of an entry, from its code. -/
def putResult (n : Nat) (p : Pass) (e : Nat) (code : BitVec 14) (s : State) : State :=
  let a := P.madc n + 128 * p.seq + 4 * e
  let g := s.getF a F.MADC_SEQ_E_GAIN
  let c := if s.isSet (P.madc n) F.MADC_CFG_CAL then (corrected ((s.conv n).cal.getD g (0, 0)) code.toNat).toNat else code.toNat
  let v := valueOf c (s.isSet a F.MADC_SEQ_E_FMT) (s.isSet a F.MADC_SEQ_E_ALIGN)
  let w := BitVec.ofNat 32 (p.seq * 2 ^ 28 + e * 2 ^ 23 + b2n p.ns * 2 ^ 22 + b2n (s.isSet (P.madc 0) F.PG_STAT_FAULT) * 2 ^ 21 +
    b2n (e == 0) * 2 ^ 20 + v)
  let s := if e = 0 ∧ s.isSet (seqBase n p.seq) F.MADC_SEQ_CFG_TSF then forEach (stampWords s n p.seq) (fun w s => sendWord s n p.seq w) s
           else s
  let s := if p.ns then s.bump (P.madc n) F.MADC_NS_CNT_COUNT else s
  sendWord (s.wr (a + 0x400) w) n p.seq w

/-- The results of a pass's next entries. -/
def putResults (n : Nat) (p : Pass) : Nat → List (BitVec 14) → State → State
  | _, [], s => s
  | e, c :: cs, s => putResults n p (e + 1) cs (putResult n p e c s)

/-- R378: channel 47 converted by both converters and compared: their calibrated codes. -/
def crossCheck (c0 c1 : BitVec 14) (ns : Bool) (s : State) : State :=
  let p := P.madc 0
  let s := (s.setF p F.MADC_XCHK_VAL_VAL0 c0.toNat).setF p F.MADC_XCHK_VAL_VAL1 c1.toNat
  let d := if c0.toNat ≤ c1.toNat then c1.toNat - c0.toNat else c0.toNat - c1.toNat
  let leaky := s.getF p F.MADC_XCHK_STAT_LEAKY
  if ns ∨ s.getF (P.madc 0) F.MADC_REF_SEL ≠ s.getF (P.madc 1) F.MADC_REF_SEL then s.bump p F.MADC_XCHK_SKIP_CNT_COUNT
  else if d ≤ s.getF p F.MADC_XCHK_WIN then s.setF p F.MADC_XCHK_STAT_LEAKY (leaky - 1)
  else
    let s := ((s.bump p F.MADC_XCHK_DIS_CNT_COUNT).raise p 4).err p
    let s := s.setF p F.MADC_XCHK_STAT_LEAKY (min 255 (leaky + 1))
    if s.getF p F.MADC_XCHK_LIMIT ≤ leaky + 1 ∧ !s.isSet p F.PG_STAT_FAULT then
      ((s.setF p F.PG_STAT_FAULT 1).raise p 24).log 0x0071 3 0x0022 0 (leBytes 2 c0.toNat ++ leBytes 2 c1.toNat)
    else s

/-- The sequence that begins next among those waiting: the lowest number (R375). -/
def nextSeq (l : List (Nat × Bool)) : Option (Nat × Bool) :=
  l.foldl (fun o w => match o with
    | none => some w
    | some b => if w.1 < b.1 then some w else some b) none

/-- R372, R377, R378: sequence `w` begins its pass in media-clock cycle `cyc` of the present period. -/
def passBegin (s : State) (n : Nat) (w : Nat × Bool) (cyc : Nat) (x0 x1 : BitVec 14) : State :=
  let s := s.onMadc n fun m => { m with active := some ⟨w.1, 0, w.2, false⟩, waiting := m.waiting.filter fun y => y.1 != w.1 }
  let s := s.set64 (seqBase n w.1 + 0x108) (BitVec.ofNat 64 ((s.get64 (P.clk + 0x68)).toNat * 512 + cyc))
  if s.isSet (seqBase n w.1) F.MADC_SEQ_CFG_XCHK then crossCheck x0 x1 (w.2 || !refOk s (1 - n)) s else s

/-- MADC_PASS_START (R372, R375, R378): the converter is free and the lowest sequence waiting begins, in media-clock cycle
`cyc`; or SEQ0 suspends the pass of another sequence, whose entries converted so far gave the codes in `sofar`. `x0` and
`x1` are what the two converters read of channel 47 if the pass begins with a cross-check. -/
def execMadcPassStart (n : Fin 2) (cyc : Fin 512) (sofar : List (BitVec 14)) (x0 x1 : BitVec 14) (s : State) :
    Host.Outcome State Fault Refusal :=
  match (s.conv n).active, (s.conv n).susp, nextSeq (s.conv n).waiting with
  | none, none, some w => .next (madcShow (passBegin s n w cyc x0 x1) n)
  | some p, none, some (0, ns) =>
    if p.seq = 0 then .next s
    else
      let l := sofar.take (s.getF (seqBase n p.seq) F.MADC_SEQ_CFG_LEN - 1 - p.entry)
      let s := putResults n p p.entry l s
      let s := s.onMadc n fun m => { m with susp := if p.ending then none else some { p with entry := p.entry + l.length } }
      .next (madcShow (passBegin s n (0, ns) cyc x0 x1) n)
  | _, _, _ => .next s

/-- The pass that samples has ended: a suspended one resumes, and a trigger held for the sequence is taken (R374, R375). -/
def passOver (s : State) (n : Nat) (q : Nat) : State :=
  madcShow (s.onMadc n fun m => { m with
    active := m.susp
    susp := none
    waiting := m.waiting ++ m.held.filter fun h => h.1 == q
    held := m.held.filter fun h => h.1 != q }) n

/-- MADC_PASS_DONE (R372): the last results of the pass that samples, as converter codes, one for each entry left; or, of a
pass that stops at an entry boundary, those of the entries it completed. -/
def execMadcPassDone (n : Fin 2) (codes : List (BitVec 14)) (s : State) : Host.Outcome State Fault Refusal :=
  match (s.conv n).active with
  | none => .next s
  | some p =>
    let left := s.getF (seqBase n p.seq) F.MADC_SEQ_CFG_LEN - p.entry
    if p.ending then .next (passOver (putResults n p p.entry (codes.take left) s) n p.seq)
    else if codes.length = left then
      .next (passOver ((putResults n p p.entry codes s).raise (P.madc n) 0) n p.seq)
    else .next s

/-- R370: one correction step towards an error, at most 1 LSB. -/
def unitStep (x : Int) : Int := if 0 < x then -1 else if x < 0 then 1 else 0

/-- CONVERTER_CALIBRATION (R370): in idle clocks of converter `n` with CAL = 1, channels 32, 33 and 34 converted at gain `g`
gave codes `z`, `hi` and `lo`; offset and gain corrections move by at most 1 LSB towards removing what is left of their
error. -/
def execConverterCalibration (n : Fin 2) (g : Fin 4) (z hi lo : BitVec 14) (s : State) : Host.Outcome State Fault Refusal :=
  if s.isSet (P.madc n) F.MADC_CFG_CAL ∧ s.en (P.madc n) ∧ s.domOn .analog ∧ !(List.range 4).any (seqBusy s n) then
    let c := (s.conv n).cal.getD g (0, 0)
    let off := unitStep (corrected c z.toNat - 8192)
    let gain := unitStep (corrected c hi.toNat - corrected c lo.toNat - 14746)
    .next (s.onMadc n fun m => { m with cal := modifyAt (fun c => (c.1 + off, c.2 + gain)) g m.cal })
  else .next s

/-- MADC_REF_OK (R369): SETTLE after a change of the reference, or the return of ANALOG. -/
def execMadcRefOk (n : Fin 2) (s : State) : Host.Outcome State Fault Refusal :=
  if !refOk s n ∧ s.domOn .analog ∧ !s.sys.held then
    .next (madcShow ((s.setF (P.madc n) F.MADC_REF_REF_OK 1).raise (P.madc n) 3) n)
  else .next s

/-! ### Reads and writes -/

/-- R377: a read of MADC_n_FIFO removes the oldest word. -/
def fifoPop (s : State) (n : Nat) : Word × State :=
  match (s.conv n).fifo with
  | [] => (0xC0000000, s)
  | w :: t => (w, s.onMadc n fun m => { m with fifo := t })

/-- R369: a write of MADC_n_REF. -/
def madcRefWrite (n : Nat) (v : Word) : Act := fun s =>
  let sel := getField v 1 0
  let vext := getField v 27 16
  if vext < 2000 ∨ 2750 < vext ∨ getField v 15 8 = 0 ∨ sel = 3 then (.range, s)
  else if sel = s.getF (P.madc n) F.MADC_REF_SEL then (.done, s.store (P.madc n + 0x44) v)
  else if (List.range 4).any (seqBusy s n) then (.state, s)
  else (.done, madcShow ((s.store (P.madc n + 0x44) v).setF (P.madc n) F.MADC_REF_REF_OK 0) n)

/-- R373, R377, R378: a write of MADC_n_CTRL. -/
def madcCtrlWrite (n : Nat) (v : Word) : Act := fun s =>
  let m := getField v 3 0
  if !maskOn s n m then (.state, s)
  else
    let s := if bit v 9 then s.onMadc n fun m => { m with fifo := [] } else s
    let s := if bit v 8 ∧ n = 0 then (s.setF (P.madc 0) F.MADC_XCHK_STAT_LEAKY 0).setF (P.madc 0) F.PG_STAT_FAULT 0 else s
    (.done, (trigMask s n m).2)

/-- R382: while the service is enabled, SEQ3 and the ring are its own. -/
def lsvOwns (s : State) (q : Nat) : Bool := q == 3 && s.isSet P.lsv F.LSV_CFG_EN

/-- R377, R382: a write of MADC_n_RING. -/
def madcRingWrite (n : Nat) (v : Word) : Act := fun s =>
  if getField v 20 16 = 31 ∨ 0x40000 < getField v 13 8 * 0x1000 + 4 * 2 ^ (10 + getField v 1 0) then (.range, s)
  else if s.isSet P.lsv F.LSV_CFG_EN then (.state, s)
  else if (List.range 4).any (fun q => s.isSet (seqBase n q) F.MADC_SEQ_CFG_EN && seqDest s n q == 2) then (.state, s)
  else
    let was := s.isSet (P.madc n) F.MADC_RING_EN
    let s := s.store (P.madc n + 0x54) v
    (.done, if bit v 31 && !was then s.wr (P.madc n + 0x58) 0 else s)

/-- R378: a write of MADC_XCHK. -/
def xchkWrite (v : Word) : Act := fun s =>
  let smp := getField v 14 8
  if getField v 31 24 = 0 ∨ getField v 23 16 = 0 ∨ smp < 8 ∨ 64 < smp ∨ getField v 1 0 = 3 then (.range, s)
  else (.done, s.store (P.madc 0 + 0x5C) v)

/-- R379: sequence `q` stops: its pass at the next entry boundary; what waits and is held for it is discarded. -/
def seqStop (s : State) (n q : Nat) : State :=
  madcShow (s.onMadc n fun m => { m with
    active := m.active.map fun p => if p.seq = q then { p with ending := true } else p
    susp := m.susp.filter fun p => p.seq != q
    waiting := m.waiting.filter fun w => w.1 != q
    held := m.held.filter fun w => w.1 != q }) n

/-- R371, R379, R382: a write of MADC_n_SEQ_s_CFG. -/
def seqCfgWrite (n q : Nat) (v : Word) : Act := fun s =>
  let a := seqBase n q + 0x100
  let was := s.isSet (seqBase n q) F.MADC_SEQ_CFG_EN
  let len := getField v 5 0
  if getField v 27 26 = 3 ∨ getField v 23 22 = 3 ∨ len = 0 ∨ 32 < len then (.range, s)
  else if lsvOwns s q then (.state, s)
  else if was ∧ (v ^^^ s.rd a) &&& 0x0FC0003F#32 ≠ 0 then (.state, s)
  else if bit v 31 ∧ !was ∧ (!s.en (P.madc n) ∨ (getField v 23 22 = 2 ∧ !s.isSet (P.madc n) F.MADC_RING_EN)) then (.state, s)
  else
    let s := s.store a v
    (.done, if was && !bit v 31 then seqStop s n q else s)

/-- R371, R373: a write of MADC_n_SEQ_s_TRIG; bits that the trigger does not use read 0. -/
def seqTrigWrite (n q : Nat) (v : Word) : Act := fun s =>
  let t := getField v 31 30
  if t = 3 ∨ (t = 1 ∧ getField v 23 0 < 40) then (.range, s)
  else if lsvOwns s q ∨ s.isSet (seqBase n q) F.MADC_SEQ_CFG_EN then (.state, s)
  else (.done, s.store (seqBase n q + 0x104) (if t = 1 then v &&& 0xC0FFFFFF#32 else if t = 2 then v &&& 0xC71F0FFF#32 else v))

/-- R367: the least sampling time of a channel, in clocks; none for a reserved one. -/
def chanMin (c : Nat) : Option Nat :=
  if c < 8 then some 2 else if c < 16 then some 4 else if c < 22 then some 16 else if c < 26 then some 3
  else if c < 31 then some 8 else if c = 31 then none else if c < 35 then some 8 else if c = 47 then some 8 else none

/-- R366, R371: a write of MADC_n_SEQ_s_E_e. -/
def seqEntryWrite (n q e : Nat) (v : Word) : Act := fun s =>
  let smp := getField v 21 16 + 1
  match chanMin (getField v 5 0) with
  | none => (.range, s)
  | some m =>
    if smp < m ∨ (getField v 13 12 ≠ 0 ∧ smp < 4) then (.range, s)
    else if lsvOwns s q ∨ s.isSet (seqBase n q) F.MADC_SEQ_CFG_EN then (.state, s)
    else (.done, s.store (P.madc n + 0x200 + 128 * q + 4 * e) v)

/-- Writes of a MADC page. -/
def madcWrite (n off : Nat) (v : Word) : Act :=
  if off = 0x44 then madcRefWrite n v
  else if off = 0x48 then madcCtrlWrite n v
  else if off = 0x54 then madcRingWrite n v
  else if off = 0x5C ∧ n = 0 then xchkWrite v
  else if 0x100 ≤ off ∧ off < 0x140 ∧ off % 16 = 0 then seqCfgWrite n ((off - 0x100) / 16) v
  else if 0x100 ≤ off ∧ off < 0x140 ∧ off % 16 = 4 then seqTrigWrite n ((off - 0x100) / 16) v
  else if 0x200 ≤ off ∧ off < 0x400 then seqEntryWrite n ((off - 0x200) / 128) ((off - 0x200) % 128 / 4) v
  else plain (P.madc n + off) v

/-- MADC_SWTRIG (R373): a write of MADC_n_CTRL with the sequences of a mask. -/
def execMadcSwtrig (r : Req) (n : Fin 2) (mask : Fin 16) (v : Word) (s : State) : Host.Outcome State Fault Refusal :=
  .next (hostWrite r (P.madc n + 0x48) (madcWrite n 0x48 (setField v 3 0 mask)) s)

/-- MADC_FLUSH (R377): a write of MADC_n_CTRL with FLUSH set. -/
def execMadcFlush (r : Req) (n : Fin 2) (v : Word) (s : State) : Host.Outcome State Fault Refusal :=
  .next (hostWrite r (P.madc n + 0x48) (madcWrite n 0x48 (setField v 9 9 1)) s)

/-- MADC_CLR_PLAUS (R378): a write of MADC_0_CTRL with CLR_PLAUS set. -/
def execMadcClrPlaus (r : Req) (v : Word) (s : State) : Host.Outcome State Fault Refusal :=
  .next (hostWrite r (P.madc 0 + 0x48) (madcWrite 0 0x48 (setField v 8 8 1)) s)

/-- R34: a disabled converter serves no trigger: passes, what waits and what is held end. -/
def madcIdle (s : State) (n : Nat) : State := s.onMadc n fun m => { m with active := none, susp := none, waiting := [], held := [] }

/-- R379: results, FIFO, held triggers and passes are lost with the domain. -/
def madcLose (s : State) (n : Nat) : State :=
  let s := s.onMadc n fun m => { Madc.reset with cal := m.cal }
  forEach (List.range 128) (fun i s => s.wr (P.madc n + 0x400 + 4 * i) 0) (s.setF (P.madc n) F.MADC_REF_REF_OK 0)

end Sys2Proof.Machine
end

