-- ==== Sys2Proof/Machine/WagOps.lean ====
section
/-! DEFINITION. What other blocks need of Waggle: its quality, and PTP time as a source (R330, R333). -/

namespace Sys2Proof.Machine

/-- WAG_CFG.SRC: 0 ODO, 1 FIX, 2 PTP. -/
def wagSrc (s : State) : Nat := s.getF P.wag F.WAG_CFG_SRC

/-- WAG_STAT.QUAL: 0 NONE, 1 OK, 2 DEAD_RECKON, 3 LOST. -/
def wagQual (s : State) : Nat := s.getF P.wag F.WAG_STAT_QUAL

/-- R330: the quality changes. -/
def setQual (s : State) (q : Nat) : State :=
  let old := wagQual s
  let s := s.setF P.wag F.WAG_STAT_QUAL q
  if q = old then s
  else if q = 2 then s.raise P.wag 4
  else if q = 3 then
    (s.raise P.wag 24).log 0x0090 3 0x000A 0 [BitVec.ofNat 8 (wagSrc s), BitVec.ofNat 8 (s.getF P.wag F.WAG_STAT_FAILS)]
  else if q = 1 ∧ 2 ≤ old then s.raise P.wag 5
  else s

/-- R333: the quality that the state of CLK gives a value taken from PTP. -/
def ptpQual (s : State) : Nat :=
  if s.clk.st = 7 then 3 else if s.clk.st = 2 then 0 else if s.clk.st = 4 then 1 else 2

/-- R333: with SRC = PTP the quality follows CLK. -/
def wagFollow (s : State) : State := if s.wag.run ∧ wagSrc s = 2 then setQual s (ptpQual s) else s

end Sys2Proof.Machine
end

