-- ==== Sys2Proof/Machine/Waggle.lean ====
section
/-! DEFINITION. The Waggle value: its sources, guards, fixes and jumps (R327-R335, R338, R345). -/

namespace Sys2Proof.Machine

/-! ### The value -/

/-- R327: the internal value changes; WAG_VALUE shows its integer part, rounded towards minus infinity. -/
def setV (s : State) (v : Rat) : State := (s.onWag fun w => { w with v := v }).set64 (P.wag + 0x4C) (BitVec.ofInt 64 v.floor)

/-- R334, R335: the speed changes; WAG_SPEED shows it, and 0 for PTP. -/
def setSpeed (s : State) (x : Rat) : State :=
  let s := s.onWag fun w => { w with spd := x }
  s.setS P.wag F.WAG_SPEED_S (if wagSrc s = 2 then 0 else quantI x.num x.den)

/-- R335: the correction still to be made; WAG_STAT.SLEWING shows whether there is one. -/
def setCorr (s : State) (x : Rat) : State :=
  (s.onWag fun w => { w with corr := x }).setF P.wag F.WAG_STAT_SLEWING (b2n (x != 0))

/-- R338: a jump of the value. -/
def jumpTo (s : State) (v : Rat) : State :=
  let before := s.get64 (P.wag + 0x4C)
  let s := setCorr (setV s v) 0
  let s := (s.bump P.wag F.WAG_JUMP_CNT_COUNT).raise P.wag 3
  s.log 0x0092 1 0x000A 0 (leBytes 8 before.toNat ++ leBytes 8 (s.get64 (P.wag + 0x4C)).toNat)

/-- The signed number that a 64-bit value spells, as an internal value. -/
def valueRat (v : BitVec 64) : Rat := v.toInt

/-- R332, R334: dead reckoning has run out: LOST, speed 0, the value held. -/
def wagLost (s : State) : State := (setCorr (setSpeed (setQual s 3) 0) 0).onWag fun w => { w with adv := 0 }

/-- R329: the page's state: STOPPED or RUNNING; shown while it is enabled. -/
def wagShow (s : State) : State := if s.en P.wag then s.setSt P.wag (if s.wag.run then 3 else 2) else s.setSt P.wag 0

/-- Guards and fixes as at a START. -/
def guardReset (s : State) : State :=
  let s := s.onWag fun w => { w with vPrev := 0, vLast := 0, acc := [], good := [], failK := 0, n := 0, scale := s.getF P.wag F.WAG_ODO_SCALE_SCALE,
                                     judged := false, adv := 0, part := 480, fix := none, fixK := none, next := none }
  (setCorr (setSpeed s 0) 0).setF P.wag F.WAG_STAT_FAILS 0

/-- R329, R338: step 2: a START, a STOP and a written value take effect. -/
def wagControl (s : State) : State :=
  let s := match s.wag.ctl with
    | some true =>
      let s := guardReset (s.onWag fun w => { w with run := true, ctl := none, stepped := wagSrc s == 2 })
      wagShow ((s.setF P.wag F.WAG_CTRL_START 0).setF P.wag F.WAG_STAT_QUAL (if wagSrc s = 0 then 1 else 0))
    | some false =>
      let s := s.onWag fun w => { w with run := false, ctl := none }
      wagShow (((setCorr s 0).setF P.wag F.WAG_CTRL_STOP 0).setF P.wag F.WAG_STAT_QUAL 0)
    | none => s
  match s.wag.setv with
  | none => s
  | some v =>
    let s := s.onWag fun w => { w with setv := none }
    if s.wag.run then jumpTo s (valueRat v) else setV s (valueRat v)

/-! ### ODO -/

/-- ODO_EDGE (R331): an accepted change of level of ODO_A, of ODO_B, or of both in one sample. Pulses count in Run, Idle and
Sleep while the reference is correct (R148, R345). -/
def execOdoEdge (e : OdoEdge) (s : State) : Host.Outcome State Fault Refusal :=
  let g := s.wag
  let alive := !s.sys.held && (s.sys.mode == .run || s.sys.mode == .idle || s.sys.mode == .sleep) && s.clk.halt != some .ref
  let level := s.onWag fun w => { w with a := if e = .b then w.a else !w.a, b := if e = .a then w.b else !w.b }
  if !alive then .next level
  else match e with
    | .both => .next ((level.bump P.wag F.WAG_QERR_CNT_COUNT).err P.wag)
    | _ =>
      let leads := if e = .a then (!g.a) != g.b else (!g.b) == g.a
      let x : Int := if leads == s.isSet P.wag F.WAG_CFG_INV then -1 else 1
      .next (if g.run ∧ wagSrc s = 0 then level.onWag fun w => { w with n := w.n + x } else level)

/-- R332: a window is accepted: its pulses count, S is the mean of the last four accepted. -/
def windowTake (s : State) (n : Int) (v : Rat) (acc : List Rat) : State :=
  let s := s.set64 (P.wag + 0x68) (s.get64 (P.wag + 0x68) + BitVec.ofInt 64 n)
  let s := s.onWag fun w => { w with vPrev := v, acc := acc }
  (setSpeed s (acc.sum / acc.length)).setF P.wag F.WAG_STAT_FAILS 0

/-- R332: a window is rejected. -/
def windowReject (s : State) (k : Nat) : State :=
  let f := s.getF P.wag F.WAG_STAT_FAILS
  let s := if f = 0 then s.onWag fun w => { w with failK := k } else s
  ((s.bump P.wag F.WAG_IMPL_CNT_COUNT).err P.wag).setF P.wag F.WAG_STAT_FAILS (min 255 (f + 1))

/-- R332: DR seconds have passed since the first rejected window of the run. -/
def drOver (s : State) (k from_ : Nat) : Bool := decide (from_ + 48000 * s.getF P.wag F.WAG_GUARD_T_DR ≤ k)

/-- R332: the outcome of a window of `n` pulses of `sc` millimetres that ends at period `k`: the advance to be spread. -/
def windowJudge (s : State) (k : Nat) (n : Int) (sc : Rat) : State × Rat :=
  let v := n * sc * 100
  let lim : Rat := s.getF P.wag F.WAG_ODO_GUARD_AMAX / 2 + sc * 100
  let inside := decide (|v| ≤ 10 * s.getF P.wag F.WAG_ODO_GUARD_VMAX)
  if 2 ≤ wagQual s then
    let good := inside && decide (|v - s.wag.vLast| ≤ lim)
    let rec_ := if good then s.wag.good ++ [v] else []
    if 20 ≤ rec_.length then
      (setQual (windowTake (s.onWag fun w => { w with good := [] }) n v (lastOf 4 rec_)) 1, n * sc)
    else
      let s := s.onWag fun w => { w with good := rec_ }
      let s := if good then s else windowReject s k
      let s := if wagQual s = 2 ∧ drOver s k s.wag.failK then wagLost s else s
      (s, if wagQual s = 3 then 0 else s.wag.spd / 100)
  else if inside ∧ |v - s.wag.vPrev| ≤ lim then (windowTake s n v (lastOf 4 (s.wag.acc ++ [v])), n * sc)
  else
    let s := windowReject s k
    if s.getF P.wag F.WAG_GUARD_T_FAULTN ≤ s.getF P.wag F.WAG_STAT_FAILS then
      let s := setQual s 2
      let s := if drOver s k s.wag.failK then wagLost s else s
      (s, s.wag.spd / 100)
    else (s, s.wag.spd / 100)

/-- R332: the window that ends at period `k` is judged; its advance is spread over the next one. -/
def windowClose (s : State) (k : Nat) : State :=
  let g := s.wag
  let s := if g.part < 480 then setV s (g.v + g.adv * (480 - g.part) / 480) else s
  let sc : Rat := g.scale / 65536
  let o := windowJudge s k g.n sc
  o.1.onWag fun w => { w with vLast := g.n * sc * 100, n := 0, scale := s.getF P.wag F.WAG_ODO_SCALE_SCALE, adv := o.2, part := 0, judged := true }

/-- The number of the present fabric period. -/
def fabCnt (s : State) : Nat := (s.get64 (P.clk + 0x68)).toNat

/-- ODO_WINDOW (R332): the last period of a window has passed: the window is judged. -/
def execOdoWindow (s : State) : Host.Outcome State Fault Refusal :=
  if s.wag.run ∧ wagSrc s = 0 ∧ fabCnt s % 480 = 479 ∧ !s.wag.judged then .next (windowClose s (fabCnt s + 1)) else .next s

/-! ### FIX -/

/-- The periods that FIX_TMO lasts. -/
def fixTmo (s : State) : Nat := 4800 * s.getF P.wag F.WAG_GUARD_T_FIX_TMO

/-- FIX_TIMEOUT (R334): FIX_TMO has passed since the last accepted fix. -/
def execFixTimeout (s : State) : Host.Outcome State Fault Refusal :=
  match s.wag.fixK with
  | some f => if s.wag.run ∧ wagSrc s = 1 ∧ wagQual s = 1 ∧ f + fixTmo s ≤ fabCnt s then .next (setQual s 2) else .next s
  | none => .next s

/-- DEAD_RECKON_EXPIRY (R332, R334): DR seconds have passed since the first rejected window, or since the last fix. -/
def execDeadReckonExpiry (s : State) : Host.Outcome State Fault Refusal :=
  let start := if wagSrc s = 0 then some s.wag.failK else s.wag.fixK
  match start with
  | some f => if s.wag.run ∧ wagSrc s ≠ 2 ∧ wagQual s = 2 ∧ drOver s (fabCnt s) f then .next (wagLost s) else .next s
  | none => .next s

/-- R334: the time-outs at period `k`. -/
def fixTimeouts (s : State) (k : Nat) : State :=
  match s.wag.fixK with
  | none => s
  | some f =>
    let s := if wagQual s = 1 ∧ f + fixTmo s < k then setQual s 2 else s
    if wagQual s = 2 ∧ drOver s k f then wagLost s else s

/-- R335 step 6: a period's advance `d` with the correction in progress: the advance made; it never opposes S. -/
def slewed (s : State) (d : Rat) : Rat :=
  let g := s.wag
  if g.corr = 0 ∨ g.spd = 0 then d
  else
    let lim : Rat := s.getF P.wag F.WAG_FIX_CFG_SLEW / 48000
    let tot := d + max (-lim) (min lim g.corr)
    if (0 < g.spd ∧ tot < 0) ∨ (g.spd < 0 ∧ 0 < tot) then 0 else tot

/-- The advance of a period before any correction (R332, R334). -/
def plainAdvance (s : State) : Rat :=
  if wagSrc s = 1 then s.wag.spd / 48000 else if s.wag.part < 480 then s.wag.adv / 480 else 0

/-- R335: a fix accepted in the last period takes effect. -/
def fixApply (s : State) (k : Nat) : State :=
  match s.wag.next with
  | none => s
  | some f =>
    let s := s.onWag fun w => { w with next := none }
    if !s.wag.run ∨ wagSrc s = 2 then s
    else
      let s := if wagSrc s = 1 then
          setQual ((setSpeed s f.spd).onWag fun w => { w with fix := some (f.pos, f.at_), fixK := some k }) 1
        else s
      if f.jump then jumpTo s f.target else setCorr s (f.target - (s.wag.v.floor : Rat))

/-- R15 step 2: the value advances to its value for period `k` (R327-R334). -/
def wagAdvance (s : State) (k : Nat) : State :=
  let s := wagControl s
  if !s.wag.run then s
  else if wagSrc s = 2 then
    let v : Rat := ((k * 62500 / 3 : Nat) : Int)
    wagFollow (if s.wag.stepped then jumpTo (s.onWag fun w => { w with stepped := false }) v else setV s v)
  else
    let s := if wagSrc s = 1 then fixTimeouts s k
      else if k % 480 = 0 ∧ !s.wag.judged then windowClose s k else s
    let s := s.onWag fun w => { w with judged := false }
    let d := plainAdvance s
    let tot := slewed s d
    let s := if tot = d then s else setCorr s (s.wag.corr - (tot - d))
    setV (s.onWag fun w => { w with part := min 480 (w.part + 1) }) (s.wag.v + tot)

/-- The number of the next fabric period. -/
def nextPeriod (s : State) : Nat := if s.clk.fresh then fabCnt s else fabCnt s + 1

/-- R347: the answer of POS_FIX. -/
def fixAnswer (s : State) (dev : Int) (result : Nat) : PlAns := ok s (leBytes 4 (unsigned 32 (satS 32 dev)) ++ [BitVec.ofNat 8 result, 0, 0, 0])

/-- R335: a rejected fix changes nothing but its count. -/
def fixReject (s : State) (dev : Int) : PlAns :=
  fixAnswer (((s.bump P.wag F.WAG_FIXREJ_CNT_COUNT).err P.wag).raise P.wag 6) dev 2

/-- R334: the speed of the way between a fix and the last accepted one. -/
def fixSpeed (s : State) (pos : Int) (at_ : Nat) : Option Rat :=
  match s.wag.fix with
  | some (p, t) => if at_ = t then none else some ((pos - p : Int) * 48000 / ((at_ : Int) - t : Int))
  | none => none

/-- R335 step 2: whether a fix's speed is rejected; the first fix has none (log entry 49). -/
def fixTooFast (s : State) (v : Option Rat) (at_ : Nat) : Bool :=
  match v, s.wag.fix with
  | some v, some (_, t) =>
    let lim : Rat := 50 * s.getF P.wag F.WAG_ODO_GUARD_AMAX * |((at_ : Int) - t : Int)| / 48000 + 200
    decide (10 * s.getF P.wag F.WAG_ODO_GUARD_VMAX < |v|) || decide (lim < |v - s.wag.spd|)
  | _, _ => false

/-- R335: POS_FIX, judged at the period in which it takes effect, with V(P) as step 2 of that period will give it. The DEV
of a fix rejected for its speed is a value the manual does not state. -/
def posFixBody (q : PlReq) (s : State) : PlAns :=
  let p := q.payload
  let pos := signed 64 (field p 0 8)
  let at_ := field p 8 8
  let flags := field p 20 1
  let k := nextPeriod s
  if p.length ≠ 24 ∨ 4 ≤ flags ∨ field p 21 3 ≠ 0 ∨ k < at_ ∨ 480 * s.getF P.wag F.WAG_GUARD_T_MAXAGE < k - at_ then nak s P.wag .range
  else if wagSrc s = 2 ∨ !s.wag.run then nak s P.wag .state
  else
    let v := if wagSrc s = 1 then fixSpeed s pos at_ else none
    if fixTooFast s v at_ then fixReject s.draw.2 s.draw.1.toInt
    else
      let spd : Rat := if wagSrc s = 0 then s.wag.spd
        else if flags % 2 = 1 then (signed 32 (field p 16 4) : Int)
        else match v with
          | some v => (v + s.wag.spd) / 2
          | none => s.wag.spd
      let target : Rat := pos + spd * (k - at_ : Nat) / 48000
      let dev : Rat := target - ((s.wag.v + slewed s (plainAdvance s)).floor : Rat)
      let answer := quantI dev.num dev.den
      let big := decide ((10 * s.getF P.wag F.WAG_FIX_CFG_JUMPTHR : Rat) < |dev|)
      if big ∧ flags / 2 % 2 = 0 then fixReject s answer
      else
        let jump := big || spd == 0
        fixAnswer (s.onWag fun w => { w with next := some ⟨spd, pos, at_, target, jump⟩ }) answer (b2n jump)

/-- POS_FIX (R335). -/
def execPosFix (q : PlReq) (s : State) : Host.Outcome State Fault Refusal :=
  .next (runPlosto 0x32 q (onPage P.wag true (posFixBody q)) s)

/-! ### Writes -/

/-- R329: a write of WAG_CTRL. -/
def wagCtrlWrite (v : Word) : Act := fun s =>
  if bit v 0 && bit v 1 then (.range, s)
  else if bit v 0 then
    (if !s.en P.wag ∨ s.wag.run ∨ (wagSrc s = 2 ∧ s.getF P.clk F.CLK_MEDIA_CFG_SRC ≠ 1) then (.state, s)
     else (.done, (s.onWag fun w => { w with ctl := some true }).setF P.wag F.WAG_CTRL_START 1))
  else if bit v 1 then
    (if !s.wag.run then (.state, s)
     else (.done, (s.onWag fun w => { w with ctl := some false }).setF P.wag F.WAG_CTRL_STOP 1))
  else (.done, s)

/-- R329: a write of WAG_CFG. -/
def wagCfgWrite (v : Word) : Act := fun s =>
  if getField v 1 0 = 3 then (.range, s) else if s.wag.run then (.state, s) else (.done, s.store (P.wag + 0x40) v)

/-- R42, R338: the commit of WAG_VALUE: in STOPPED at once, in RUNNING at step 2 of the next period. -/
def wagValueWrite (r : Req) (v : Word) : Act := fun s =>
  if s.wag.run ∧ wagSrc s = 2 then (.state, s)
  else
    let x := pairValue s r (P.wag + 0x50) v
    let s := s.dropHold r (P.wag + 0x50)
    (.done, if s.wag.run then s.onWag fun w => { w with setv := some x } else setV s (valueRat x))

/-- Whether a word of a guard register is in range (WAG_ODO_SCALE, WAG_ODO_GUARD, WAG_GUARD_T, WAG_FIX_CFG). -/
def wagRange (off : Nat) (v : Word) : Bool :=
  let hi := getField v 31 24
  let lo := getField v 15 0
  if off = 0x58 then v != 0
  else if off = 0x5C then decide (1 ≤ hi ∧ 1 ≤ getField v 23 16 ∧ 100 ≤ lo ∧ lo ≤ 10000)
  else if off = 0x60 then decide (hi ≤ 60 ∧ 1 ≤ getField v 23 16 ∧ 1 ≤ getField v 15 8 ∧ 10 ≤ getField v 7 0)
  else if off = 0x64 then decide (1 ≤ getField v 31 16 ∧ getField v 31 16 ≤ 10000 ∧ 1 ≤ lo)
  else true

/-- R336: a write of WAG_CUE_BANK, held for each requester. -/
def bankWrite (r : Req) (v : Word) : Act := yes fun s => s.onWag fun w => { w with banks := alSet w.banks r (getField v 3 0) }

/-- R336: the bank a requester's window shows. -/
def bankOf (s : State) (r : Req) : Nat := (alGet s.wag.banks r).getD 0

/-- Writes of the WAG page below the cue window. -/
def wagPageWrite (r : Req) (off : Nat) (v : Word) : Act :=
  if off = 0x40 then wagCfgWrite v
  else if off = 0x44 then wagCtrlWrite v
  else if off = 0x50 then wagValueWrite r v
  else if off = 0x80 then bankWrite r v
  else if wagRange off v then plain (P.wag + off) v
  else no .range

/-- WAG_START (R329): a write of WAG_CTRL with START set. -/
def execWagStart (r : Req) (v : Word) (s : State) : Host.Outcome State Fault Refusal :=
  .next (hostWrite r (P.wag + 0x44) (wagCtrlWrite (setField v 0 0 1)) s)

/-- WAG_STOP (R329): a write of WAG_CTRL with STOP set. -/
def execWagStop (r : Req) (v : Word) (s : State) : Host.Outcome State Fault Refusal :=
  .next (hostWrite r (P.wag + 0x44) (wagCtrlWrite (setField v 1 1 1)) s)

/-- WAG_VALUE_WRITE (R338): WAG_VALUE_HI is written. -/
def execWagValueWrite (r : Req) (v : Word) (s : State) : Host.Outcome State Fault Refusal :=
  .next (hostWrite r (P.wag + 0x50) (wagValueWrite r v) s)

/-- R329: a write of PG_CTRL.EN: disabling acts as STOP. -/
def wagEnable (en : Bool) (s : State) : State :=
  wagShow (if !en && (s.wag.run || s.wag.ctl.isSome) then s.onWag fun w => { w with ctl := some false } else s)

/-- R345: the return from Deep sleep. -/
def wagResume (s : State) : State := (s.setF P.wag F.WAG_STAT_RESUMED 1).raise P.wag 7

end Sys2Proof.Machine
end

