-- ==== Sys2Proof/Machine/Cues.lean ====
section
/-! DEFINITION. The cue table: held words and commits, firing and expiry, actions (R336-R344, R347). -/

namespace Sys2Proof.Machine

/-! ### The table -/

/-- Entry `k`. -/
def cueAt (s : State) (k : Nat) : Cue := (alGet s.wag.cues k).getD Cue.free

/-- The table with entry `k` set; an entry that is all 0 is not listed. -/
def putCue : List (Nat × Cue) → Nat → Cue → List (Nat × Cue)
  | [], k, c => if c = Cue.free then [] else [(k, c)]
  | (j, d) :: t, k, c =>
    if k < j then (if c = Cue.free then (j, d) :: t else (k, c) :: (j, d) :: t)
    else if k = j then (if c = Cue.free then t else (j, c) :: t)
    else (j, d) :: putCue t k c

/-- Set entry `k`. -/
def setCue (s : State) (k : Nat) (c : Cue) : State := s.onWag fun w => { w with cues := putCue w.cues k c }

/-- Change entry `k`. -/
def onCue (s : State) (k : Nat) (f : Cue → Cue) : State := setCue s k (f (cueAt s k))

/-- The entries that are not FREE, and those ARMED or in WAIT_REARM. -/
def cuesDefined (s : State) : List Nat := (s.wag.cues.filter fun e => e.2.st != 0).map (·.1)
@[inherit_doc cuesDefined] def cuesLive (s : State) : List Nat := (s.wag.cues.filter fun e => e.2.st == 2 || e.2.st == 5).map (·.1)

/-- WAG_USED. -/
def wagUsedWord (s : State) : Word := BitVec.ofNat 32 ((cuesDefined s).length * 0x10000 + (cuesLive s).length)

/-- CUE_CTRL.DIR and MODE. -/
def Cue.dir (c : Cue) : Nat := getField c.ctrl 1 0
@[inherit_doc Cue.dir] def Cue.rearms (c : Cue) : Bool := getField c.ctrl 5 4 == 1

/-- R336: word `w` of entry `k`, with the count that a read shows. -/
def cueWord (s : State) (k w : Nat) (count : Nat) : Word :=
  let c := cueAt s k
  match w with
  | 0 => c.thr.setWidth 32
  | 1 => (c.thr >>> 32).setWidth 32
  | 2 => c.late
  | 3 => c.hyst
  | 4 => c.act
  | 5 => c.arg
  | 6 => BitVec.ofNat 32 (count * 0x10000 + c.code * 0x100)
  | _ => BitVec.ofNat 32 (c.st * 2 ^ 29 + (if c.dir = 2 ∧ c.side = some true then 2 ^ 25 else 0)) ||| c.ctrl

/-! ### Commits -/

/-- R341: the action fields that a commit refuses with RANGE. -/
def badAction (act arg : Word) : Bool :=
  let t := getField act 31 28
  if t = 3 then badSource (getField act 9 0) || badSink (getField act 19 10)
  else if t = 4 then badSink (getField act 9 0) || getField arg 15 12 == 15
  else if t = 6 then
    let c := getField act 4 0
    decide (20 ≤ c) || (decide (c < 16) && getField arg 7 0 == 0)
  else decide (10 ≤ t)

/-- R337: an entry with the held words written into it. -/
def withWords (c : Cue) (h : List (Nat × Word)) : Cue :=
  { c with
    thr := ((alGet h 1).getD ((c.thr >>> 32).setWidth 32)).append ((alGet h 0).getD (c.thr.setWidth 32))
    late := (alGet h 2).getD c.late
    hyst := (alGet h 3).getD c.hyst
    act := (alGet h 4).getD c.act
    arg := (alGet h 5).getD c.arg }

/-- R337: the checks of a commit of CUE_CTRL word `v` with held words `h` to entry `c`. -/
def cueJudge (c : Cue) (v : Word) (h : List (Nat × Word)) : Code :=
  if 1 < b2n (bit v 28) + b2n (bit v 27) + b2n (bit v 26) then .range
  else if bit v 28 then .done
  else
    let n := withWords c h
    let full := (alGet h 0).isSome && (alGet h 1).isSome && (alGet h 4).isSome
    if 2 ≤ getField v 5 4 ∨ getField v 1 0 = 3 ∨ badAction n.act n.arg then .range
    else if c.st = 0 ∧ !full ∧ (h ≠ [] ∨ bit v 27) then .state
    else .done

/-- R337: what an accepted commit makes of an entry. An EITHER cue that stays ARMED records its side afresh. -/
def cueCommitted (c : Cue) (v : Word) (h : List (Nat × Word)) : Cue :=
  if bit v 28 then Cue.free
  else
    let n := { withWords c h with ctrl := v &&& 0xF3#32 }
    let n := if h = [] then n else if n.st = 0 ∨ n.st = 3 ∨ n.st = 4 then { n with st := 1 } else n
    if bit v 27 ∧ n.st ≠ 2 then { n with st := 2, side := none }
    else if bit v 26 ∧ n.st ≠ 0 then { n with st := 1 }
    else if h ≠ [] ∧ n.st = 2 then { n with side := none }
    else n

/-- R337: commit. -/
def cueCommit (k : Nat) (v : Word) (h : List (Nat × Word)) : Act := fun s =>
  let c := cueJudge (cueAt s k) v h
  if c = .done then (.done, setCue s k (cueCommitted (cueAt s k) v h)) else (c, s)

/-- R337: a requester's held words of entry `k`. -/
def cueHeld (s : State) (r : Req) (k : Nat) : List (Nat × Word) :=
  match alGet s.wag.holds r with
  | some h => if h.k = k then h.words else []
  | none => []

/-- R336, R337: a write of word `w` of entry `k`: held, cleared, or a commit, which uses up the words held for the entry. -/
def cueWrite (r : Req) (k w : Nat) (v : Word) : Act :=
  if w < 6 then yes fun s => s.onWag fun g => { g with holds := alSet g.holds r ⟨k, alSet (cueHeld s r k) w v⟩ }
  else if w = 6 then yes fun s => onCue s k fun c => { c with count := 0 }
  else fun s =>
    let h := cueHeld s r k
    cueCommit k v h (if h = [] then s else s.onWag fun g => { g with holds := alDel g.holds r })

/-- The cue window: the entry a requester's write reaches depends on its bank (R336). -/
def cueWindowWrite (r : Req) (off : Nat) (v : Word) : Act := fun s =>
  cueWrite r (64 * bankOf s r + (off - 0x800) / 32) ((off - 0x800) % 32 / 4) v s

/-- Writes of the WAG page. -/
def wagWrite (r : Req) (off : Nat) (v : Word) : Act := if 0x800 ≤ off then cueWindowWrite r off v else wagPageWrite r off v

/-- The address of word `w` of window entry `k`. -/
def cueAddr (k w : Nat) : Nat := P.wag + 0x800 + 32 * k + 4 * w

/-- CUE_WORD_WRITE (R337): a write of word `w` of the entry at place `k` of the requester's window. -/
def execCueWordWrite (r : Req) (k : Fin 64) (w : Fin 6) (v : Word) (s : State) : Host.Outcome State Fault Refusal :=
  .next (hostWrite r (cueAddr k w) (cueWindowWrite r (0x800 + 32 * k + 4 * w) v) s)

/-- A write of CUE_CTRL. -/
def cueCtrlRow (r : Req) (k : Fin 64) (v : Word) (s : State) : State := hostWrite r (cueAddr k 7) (cueWindowWrite r (0x800 + 32 * k + 28) v) s

/-- CUE_COMMIT (R337): a write of CUE_CTRL. -/
def execCueCommit (r : Req) (k : Fin 64) (v : Word) (s : State) : Host.Outcome State Fault Refusal := .next (cueCtrlRow r k v s)

/-- CUE_FREE (R337): a write of CUE_CTRL with FREE set. -/
def execCueFree (r : Req) (k : Fin 64) (v : Word) (s : State) : Host.Outcome State Fault Refusal :=
  .next (cueCtrlRow r k (setField v 28 28 1) s)

/-- CUE_ARM (R337): a write of CUE_CTRL with ARM set. -/
def execCueArm (r : Req) (k : Fin 64) (v : Word) (s : State) : Host.Outcome State Fault Refusal :=
  .next (cueCtrlRow r k (setField v 27 27 1) s)

/-- CUE_DISARM (R337): a write of CUE_CTRL with DISARM set. -/
def execCueDisarm (r : Req) (k : Fin 64) (v : Word) (s : State) : Host.Outcome State Fault Refusal :=
  .next (cueCtrlRow r k (setField v 26 26 1) s)

/-! ### Commands -/

/-- R347: the lowest FREE entry. -/
def freeCue (s : State) : Option Nat := (List.range 1024).find? fun k => (cueAt s k).st == 0

/-- R347: CUE_SET. -/
def cueSetBody (q : PlReq) (s : State) : PlAns :=
  let p := q.payload
  let i := field p 0 2
  let w (n : Nat) : Word := BitVec.ofNat 32 (field p (4 + 4 * n) 4)
  let h := (List.range 6).map fun n => (n, w n)
  let k := if i = 0xFFFF then freeCue s else some i
  let c := (k.map (cueAt s)).getD Cue.free
  if p.length ≠ 32 ∨ field p 2 2 ≠ 0 ∨ (1024 ≤ i ∧ i ≠ 0xFFFF) then nak s P.wag .range
  else
    let j := cueJudge c (w 6) h
    if j ≠ .done then nak s P.wag j
    else match k with
      | none => nak s P.wag .full
      | some k =>
        let s := setCue s k (cueCommitted c (w 6) h)
        ok s (leBytes 2 k ++ [BitVec.ofNat 8 (cueAt s k).st, 0])

/-- CUE_SET (R347). -/
def execCueSet (q : PlReq) (s : State) : Host.Outcome State Fault Refusal :=
  .next (runPlosto 0x30 q (onPage P.wag true (cueSetBody q)) s)

/-- R347: CUE_CLEAR: OP 0 frees, OP 1 disarms. -/
def cueClearBody (q : PlReq) (s : State) : PlAns :=
  let i := field q.payload 0 2
  let op := field q.payload 2 1
  if q.payload.length ≠ 4 ∨ 1 < op ∨ field q.payload 3 1 ≠ 0 ∨ (1024 ≤ i ∧ i ≠ 0xFFFF) then nak s P.wag .range
  else
    let ks := (cuesDefined s).filter fun k => i == 0xFFFF || k == i
    if ks = [] then nak s P.wag .absent
    else
      ok (forEach ks (fun k s => onCue s k fun c => if op = 0 then Cue.free else { c with st := 1 }) s) (leBytes 2 ks.length)

/-- CUE_CLEAR_FREE (R347): OP 0. -/
def execCueClearFree (q : PlReq) (s : State) : Host.Outcome State Fault Refusal :=
  .next (runPlosto 0x31 q (onPage P.wag true (cueClearBody q)) s)

/-- CUE_CLEAR_DISARM (R347): OP 1. -/
def execCueClearDisarm (q : PlReq) (s : State) : Host.Outcome State Fault Refusal :=
  .next (runPlosto 0x31 q (onPage P.wag true (cueClearBody q)) s)

/-- R347: WAGGLE_QUERY. -/
def waggleQueryBody (q : PlReq) (s : State) : PlAns :=
  if q.payload ≠ [] then nak s P.wag .range
  else
    ok s (leBytes 8 (s.get64 (P.wag + 0x4C)).toNat ++ leBytes 8 (s.get64 (P.clk + 0x68)).toNat ++ wordBytes (s.rd (P.wag + 0x54)) ++
      wordBytes (s.rd (P.wag + 0x48)) ++ wordBytes (wagUsedWord s))

/-- WAGGLE_QUERY (R347). -/
def execWaggleQuery (q : PlReq) (s : State) : Host.Outcome State Fault Refusal :=
  .next (runPlosto 0x33 q (onPage P.wag false (waggleQueryBody q)) s)

/-! ### Actions -/

/-- R341: an action on a page: performed or not as the equivalent command would be, except that a LOCK does not refuse it;
recorded with requester code 0x6 where it is refused. -/
def cueOn (page : Nat) (act : Act) : Act := fun s =>
  match accessBad s page with
  | some why => (why.code, s.refuse page 0xFF .keeper 0 why.code)
  | none =>
    let o := act s
    if o.1 ≠ .done then (o.1, o.2.refuse page 0xFF .keeper 0 o.1)
    else if s.isSet page F.PG_CTRL_SRST then (.busy, s.refuse page 0xFF .keeper 0 .busy)
    else o

/-- A Plosto answer as an action's outcome. -/
def ofAns (f : State → PlAns) : Act := fun s =>
  let a := f s
  (a.code, a.st)

/-- A request that a cue makes. -/
def cueReq (payload : List Byte) : PlReq := { via := .spi, tag := 0, payload := payload }

/-- R341, R358: the CLIP action. -/
def clipAct (v clip rep : Nat) : Act := fun s =>
  let w := voiceSeen s v
  let c := startCheck s v clip false (w.1 || (s.voice v).fresh) w.2.1
  if c = .done then (.done, startNow s v clip rep false) else (c, startRefused s v c)

/-- R341, R361: the TONE action. -/
def toneAct (g p : Nat) : Act := fun s =>
  let c := toneCheck s p
  if c = .done then (.done, toneNow s g p (((tonePat s p).map (·.rep)).getD 0)) else (c, s)

/-- R341: an action other than ARM, of cue `k`. -/
def cueAction (k : Nat) (act arg : Word) : Act :=
  match getField act 31 28 with
  | 1 => cueOn P.clip (clipAct (getField act 5 0) (getField arg 11 0) (getField arg 23 16))
  | 2 => cueOn P.clip (toneAct (getField act 5 0) (getField arg 7 0))
  | 3 =>
    let src := leBytes 2 (getField act 9 0)
    let sink := leBytes 2 (getField act 19 10)
    let ramp := [BitVec.ofNat 8 (getField arg 15 12)]
    if bit arg 16 then cueOn P.cmb (ofAns (xpRemoveBody (cueReq (src ++ sink ++ ramp ++ [0, 0, 0]))))
    else cueOn P.cmb (ofAns (xpSetPlain (cueReq (src ++ sink ++ leBytes 2 (getField arg 11 0) ++ ramp ++ [0, 0, 0]))))
  | 4 => cueOn P.cmb (sinkWrite (getField act 9 0) 4 (arg &&& 0xFFFF#32))
  | 5 => cueOn (P.madc (getField act 4 4)) (cueTrigger (getField act 4 4) (getField act 1 0))
  | 6 =>
    let c := getField act 4 0
    cueOn (P.core c) (yes fun s => if s.st (P.core c) = 0 then s else evtSet s c (BitVec.ofNat 32 (getField arg 7 0 * 0x10000)))
  | 7 => cueOn P.frg (frgStart .keeper (getField act 4 0))
  | 8 => yes fun s =>
    let s := (s.wr (P.wag + 0x9C) (BitVec.ofNat 32 (k * 0x10000 + getField arg 15 0))).raise P.wag 8
    if bit arg 16 then s.log 0x0093 1 0x000A 0 (leBytes 2 k ++ leBytes 2 (getField arg 15 0)) else s
  | _ => yes fun s => s

/-- R341: the outcome of a cue's action: CODE, and a failure counted and raised. -/
def actNote (k : Nat) (o : Code × State) : State :=
  let s := onCue o.2 k fun c => { c with code := o.1.num }
  if o.1 = .done then s else ((s.bump P.wag F.WAG_ACTF_CNT_COUNT).err P.wag).raise P.wag 2

/-- R341, R342: an action takes effect; an ARM action adds its target to those armed for the next period. -/
def cueAct (k : Nat) (act arg : Word) (o : State × List (Nat × Bool)) : State × List (Nat × Bool) :=
  if getField act 31 28 = 9 then
    let t := getField act 9 0
    if (cueAt o.1 t).st = 0 then (actNote k (.absent, o.1.refuse P.wag 0xFF .keeper 0 .absent), o.2)
    else (actNote k (.done, o.1), o.2 ++ [(t, bit arg 0)])
  else (actNote k (cueAction k act arg o.1), o.2)

/-- R342: an ARM action has its effect. -/
def armTarget (e : Nat × Bool) (s : State) : State :=
  let c := cueAt s e.1
  if c.st = 0 then s
  else if e.2 then setCue s e.1 { c with st := 1 }
  else if c.st = 2 then s
  else setCue s e.1 { c with st := 2, side := none }

/-! ### Firing -/

/-- R343, R344: whether an action waits for Run: in Idle one that needs CORE, in Sleep one that needs CORE or ANALOG. -/
def mustWait (m : PwrMode) (act : Word) : Bool :=
  let t := getField act 31 28
  let core := t == 1 || t == 2 || t == 3 || t == 4 || t == 6 || t == 7
  match m with
  | .run => false
  | .idle => core
  | _ => core || t == 5

/-- R344: an action that a cue without WAKE takes in Sleep. -/
def sleepAct (act : Word) : Bool :=
  let t := getField act 31 28
  t == 0 || t == 8 || t == 9

/-- R339-R344: cue `k` fires; `m` is the power state in which it is evaluated. -/
def cueFire (m : PwrMode) (k : Nat) (o : State × List (Nat × Bool)) : State × List (Nat × Bool) :=
  let c := cueAt o.1 k
  let s := setCue o.1 k { c with st := if c.rearms then 5 else 3, count := min 0xFFFF (c.count + 1) }
  let s := (s.setF P.wag F.WAG_LAST_FVALID 1).setF P.wag F.WAG_LAST_FIRED k
  let s := s.set64 (P.wag + 0x74) (s.get64 (P.clk + 0x68))
  let s := if bit c.ctrl 6 then s.raise P.wag 0 else s
  let s := if m = .sleep ∧ bit c.ctrl 7 then s.wakeBy 5 4 false else s
  if mustWait m c.act then
    let s := if m = .idle ∧ s.sys.mode = .idle then s.idleExit 5 else s
    (s.onWag fun w => { w with deferred := w.deferred ++ [⟨k, c.act, c.arg⟩] }, o.2)
  else cueAct k c.act c.arg (s, o.2)

/-- R339, R340: cue `k` expires. -/
def cueExpire (k : Nat) (s : State) : State :=
  let c := cueAt s k
  let s := setCue s k { c with st := if c.rearms then 5 else 4, code := 0 }
  let s := ((s.bump P.wag F.WAG_MISS_CNT_COUNT).err P.wag).raise P.wag 1
  let s := (s.setF P.wag F.WAG_LAST_MVALID 1).setF P.wag F.WAG_LAST_MISSED k
  s.log 0x0091 2 0x000A 0 (leBytes 2 k ++ leBytes 8 c.thr.toNat ++ leBytes 8 (s.get64 (P.wag + 0x4C)).toNat)

/-- R328: the signed difference of the value and a threshold. -/
def cueDiff (s : State) (c : Cue) : Int := (s.get64 (P.wag + 0x4C) - c.thr).toInt

/-- R339: whether a cue has reached its threshold at difference `d`, with the side it was recorded on, and how late. -/
def cueReached (c : Cue) (d : Int) : Bool × Int :=
  if c.dir = 0 then (decide (0 ≤ d), d)
  else if c.dir = 1 then (decide (d ≤ 0), -d)
  else (decide (d = 0) || decide (0 < d) != c.side.getD (decide (0 < d)), |d|)

/-- R340: whether a waiting cue may return to ARMED. -/
def cueBack (c : Cue) (d : Int) : Bool :=
  let h : Int := c.hyst.toNat
  if c.dir = 0 then decide (d < -h) else if c.dir = 1 then decide (h < d) else decide (h < |d|)

/-- R339, R340, R344: the evaluation of cue `k`. -/
def cueEval (m : PwrMode) (k : Nat) (o : State × List (Nat × Bool)) : State × List (Nat × Bool) :=
  let c := cueAt o.1 k
  let d := cueDiff o.1 c
  if c.st = 5 then
    (if cueBack c d then (setCue o.1 k { c with st := 2, side := some (decide (0 < d)) }, o.2) else o)
  else if c.st ≠ 2 then o
  else
    let c := { c with side := some (c.side.getD (decide (0 < d))) }
    let s := setCue o.1 k c
    let r := cueReached c d
    if !r.1 ∨ (m = .sleep ∧ !bit c.ctrl 7 ∧ !sleepAct c.act) then (s, o.2)
    else if r.2 ≤ c.late.toNat then cueFire m k (s, o.2)
    else (cueExpire k s, o.2)

/-- R342: the deferred actions take effect, in the order in which their cues fired. -/
def deferredActs (s : State) : State × List (Nat × Bool) :=
  s.wag.deferred.foldl (fun o e => cueAct e.cue e.act e.arg o) (s.onWag fun w => { w with deferred := [] }, [])

/-- R15 step 4: the cues of a period (R339-R344). Actions that were deferred come first in Run. -/
def cueStep (s : State) : State :=
  let m := s.sys.mode
  let o := if m = .run then deferredActs s else (s, [])
  let o := if o.1.wag.run then (cuesLive o.1).foldl (fun o k => cueEval m k o) o else o
  forEach o.2 armTarget o.1

/-- DEFERRED_ACTIONS (R342): in Run, the actions deferred in Idle or Sleep take effect. -/
def execDeferredActions (s : State) : Host.Outcome State Fault Refusal :=
  if s.sys.mode = .run ∧ !s.sys.held then
    let o := deferredActs s
    .next (forEach o.2 armTarget o.1)
  else .next s

/-- R35, R346: a soft reset acts as STOP and frees every cue; the odometer lines keep their levels. -/
def wagClear (s : State) : State :=
  s.onWag fun w => { Wag.reset with a := w.a, b := w.b }

end Sys2Proof.Machine
end

