-- ==== Sys2Proof/Machine/Images.lean ====
section
/-! DEFINITION. Images: their layout and verification (R351, R352, R392, R393), the boot log of a slot (R394), the update
commands (R399-R403), and the owner key slots (R390, R391). -/

namespace Sys2Proof.Machine

/-! ### Bytes of an image -/

/-- `n` bytes of an image from `at_`; flash that nothing has written reads 0xFF. -/
def bytesAt (b : List Byte) (at_ n : Nat) : List Byte :=
  let l := (b.drop at_).take n
  l ++ List.replicate (n - l.length) 0xFF

/-- A number in an image, little-endian (R4). -/
def numAt (b : List Byte) (at_ n : Nat) : Nat := leNat (bytesAt b at_ n)

/-- R351: an image's LENGTH, SECVER and LIB_ID. -/
def imgLength (b : List Byte) : Nat := numAt b 8 4
@[inherit_doc imgLength] def imgSecver (b : List Byte) : Nat := numAt b 5 1
@[inherit_doc imgLength] def imgLibId (b : List Byte) : List Byte := bytesAt b 12 16

/-- R351: an image's sections: type, offset and size. -/
def imgSections (b : List Byte) : List (Nat × Nat × Nat) :=
  (List.range (numAt b 6 2)).map fun i => (numAt b (128 + 12 * i) 1, numAt b (132 + 12 * i) 4, numAt b (136 + 12 * i) 4)

/-- The bytes of a section. -/
def sectionBytes (b : List Byte) (x : Nat × Nat × Nat) : List Byte := bytesAt b x.2.1 x.2.2

/-- The bytes of the sections of a type, in order. -/
def sectionsOf (b : List Byte) (ty : Nat) : List (List Byte) :=
  ((imgSections b).filter fun x => x.1 == ty).map (sectionBytes b)

/-- R393: no section overlaps another. -/
def apart : List (Nat × Nat × Nat) → Bool
  | [] => true
  | x :: t => (t.all fun y => decide (x.2.1 + x.2.2 ≤ y.2.1 ∨ y.2.1 + y.2.2 ≤ x.2.1)) && apart t

/-- R392: the signature trailer of a body: its last 176 bytes. -/
def trailerOf (body : List Byte) : List Byte := body.drop (body.length - 176)

/-- R392: a trailer's MAGIC. -/
def trailerMagic (t : List Byte) : Bool := t.take 4 == [0x42, 0x53, 0x49, 0x47]

/-- R392: a trailer's KEYSLOT. -/
def trailerSlot (t : List Byte) : Nat := numAt t 4 1

/-- R392: a trailer's LIB_FULL. -/
def trailerFull (t : List Byte) : List Byte := bytesAt t 8 32

/-- R390, R392: a bit of PROG or REVOKED. -/
def otpBit (m k : Nat) : Bool := m / 2 ^ k % 2 == 1

/-- R392: a trailer's key is valid and its signature right for a body. -/
def signed_ (o : Otp) (body : List Byte) : Bool :=
  let t := trailerOf body
  let k := trailerSlot t
  decide (k < 4) && Config.sha256 (bytesAt t 48 64) == o.keys.getD k [] && otpBit o.prog k && !otpBit o.revoked k &&
    Config.ecdsaVerify (bytesAt t 48 64) (Config.sha256 (body.take (body.length - 64))) (bytesAt t 112 64)

/-- R392, R393: the whole image: its first LENGTH bytes. -/
def imgBody (b : List Byte) : List Byte := bytesAt b 0 (imgLength b)

/-- R393: the structure of an image. -/
def imgShape (b : List Byte) : Bool :=
  let n := imgLength b
  let xs := imgSections b
  bytesAt b 0 4 == [0x42, 0x54, 0x49, 0x4D] && numAt b 4 1 == 1 && decide (1 ≤ numAt b 6 2 ∧ numAt b 6 2 ≤ 32) &&
    decide (304 ≤ n) && trailerMagic (trailerOf (imgBody b)) &&
    (xs.all fun x => decide (x.2.1 + x.2.2 ≤ n)) && apart xs && (xs.filter fun x => x.1 == 1).length == 1 &&
    ((sectionsOf b 1).all fun f => decide (176 ≤ f.length) && trailerMagic (trailerOf f))

/-- R392, R393: the keys, signatures and security version of an image. -/
def imgAuth (o : Otp) (b : List Byte) : Bool :=
  let k := trailerSlot (trailerOf (imgBody b))
  decide (1 ≤ k ∧ k ≤ 3) && signed_ o (imgBody b) &&
    ((sectionsOf b 1).all fun f => trailerSlot (trailerOf f) == 0 && trailerFull (trailerOf f) == List.replicate 32 0 && signed_ o f) &&
    decide (imgSecver b ≤ 64 ∧ o.fuses ≤ imgSecver b)

/-! ### Library halves -/

/-- R352: a directory header's number of clips, LIB_ID and number of pages. -/
def dirClips (l : List Byte) : Nat := numAt l 6 2
@[inherit_doc dirClips] def dirId (l : List Byte) : List Byte := bytesAt l 8 16
@[inherit_doc dirClips] def dirPages (l : List Byte) : Nat := numAt l 24 4

/-- R352: where a library's CRC table ends. -/
def dirEnd (l : List Byte) : Nat := 64 + 32 * dirClips l + 4 * dirPages l

/-- R352, R401: a library half's structure and the CRC of its directory header. -/
def libSound (l : List Byte) : Bool :=
  bytesAt l 0 4 == [0x43, 0x4C, 0x50, 0x44] && numAt l 4 1 == 1 && decide (1 ≤ dirClips l ∧ dirClips l ≤ 4096) &&
    numAt l 60 4 == (crc32 (bytesAt l 0 60 ++ [0, 0, 0, 0])).toNat

/-- R401: the outcome for a library half: RANGE for its structure, CHECK for its directory's CRC. -/
def libVerify (l : List Byte) : Code :=
  if libSound l then .done
  else if bytesAt l 0 4 == [0x43, 0x4C, 0x50, 0x44] && numAt l 4 1 == 1 && decide (1 ≤ dirClips l ∧ dirClips l ≤ 4096) then .check
  else .range

/-- R354: the directory digest of a library. -/
def dirDigest (l : List Byte) : List Byte := Config.sha256 (bytesAt l 0 (dirEnd l))

/-- R392: the digest LIB_FULL of a library, to the end of its last data page. -/
def libFull (l : List Byte) : List Byte := Config.sha256 (bytesAt l 0 ((dirEnd l + 4095) / 4096 * 4096 + 4096 * dirPages l))

/-- R351: the library halves whose directory carries the image's LIB_ID. -/
def libsFor (s : State) (b : List Byte) : List Nat :=
  (List.range 2).filter fun h => let l := s.flash.libs.getD h []; libSound l && dirId l == imgLibId b

/-- R351: the half the image uses: it carries its LIB_ID, and its digest matches. -/
def libOf (s : State) (b : List Byte) : Option Nat :=
  if imgLibId b = List.replicate 16 0 then none
  else (libsFor s b).find? fun h => dirDigest (s.flash.libs.getD h []) == bytesAt b 28 32

/-- R393: an image's outcome; `full`: with LIB_FULL, as at commit and on OP VERIFY. -/
def imgVerify (s : State) (b : List Byte) (full : Bool) : Code :=
  if !imgShape b then .range
  else if !imgAuth s.otp b then .auth
  else if imgLibId b = List.replicate 16 0 then .done
  else if libsFor s b = [] then .absent
  else match libOf s b with
    | none => .check
    | some h =>
      if full ∧ libFull (s.flash.libs.getD h []) ≠ trailerFull (trailerOf (imgBody b)) then .check else .done

/-! ### Slots -/

/-- R394: the entries of a boot log since its last COMMIT, that one included. -/
def sinceCommit (l : List LogEntry) : List LogEntry :=
  let r := l.reverse
  let t := r.takeWhile fun e => e.kind != .commit
  ((r.drop t.length).take 1) ++ t.reverse

/-- R394, R422: a slot's state by its log: 0 EMPTY, 2 TRIAL, 3 CONFIRMED, 4 REJECTED. -/
def slotState (l : List LogEntry) : Nat :=
  match (l.filter fun e => e.kind != .attempt).getLast? with
  | none => 0
  | some e => match e.kind with
    | .commit => 2 | .confirm => 3 | .reject => 4 | .attempt => 0

/-- R395: the ATTEMPT entries since COMMIT. -/
def attempts (l : List LogEntry) : Nat := ((sinceCommit l).filter fun e => e.kind == .attempt).length

/-- A slot of the flash. -/
def slotOf (s : State) (k : Nat) : SlotImage := s.flash.slots.getD k ⟨[], []⟩

/-- R422: KPR_SLOT_s follows the slot's log; a slot that a session writes shows WRITING. -/
def slotShow (s : State) (k : Nat) : State :=
  let x := slotOf s k
  let b := P.kpr + 4 * k
  let writing := match s.kpr.session with
    | some e => e.target == 0 && e.dest == k
    | none => false
  let s := s.setF b F.KPR_SLOT_STATE (if writing then 1 else slotState x.log)
  let s := s.setF b F.KPR_SLOT_ATTEMPTS (min 15 (attempts x.log))
  let s := s.setF b F.KPR_SLOT_SECVER (if slotState x.log = 0 then 0 else imgSecver x.bytes)
  s.setF b F.KPR_SLOT_CODE (((x.log.filter fun e => e.kind == .reject).getLast?.map (·.reason)).getD 0)

/-- R422: KPR_LIB_h: 0 EMPTY, 1 WRITING, 2 WRITTEN, 3 ACTIVE, and the number of clips. -/
def libShow (s : State) (h : Nat) : State :=
  let l := s.flash.libs.getD h []
  let writing := match s.kpr.session with
    | some e => e.target == 1 && e.dest == h
    | none => false
  let b := P.kpr + 4 * h
  let st := if writing then 1 else if !libSound l then 0 else if s.flash.active = some h then 3 else 2
  (s.setF b F.KPR_LIB_STATE st).setF b F.KPR_LIB_NCLIP (if st < 2 then 0 else dirClips l)

/-- KPR's slot and library registers follow the flash. -/
def imgShow (s : State) : State := libShow (libShow (slotShow (slotShow s 0) 1) 0) 1

/-- Change a slot of the flash. -/
def onSlotImage (s : State) (k : Nat) (f : SlotImage → SlotImage) : State :=
  { s with flash := { s.flash with slots := modifyAt f k s.flash.slots } }

/-- R394: an entry is appended to a slot's boot log. -/
def bootLog (s : State) (k : Nat) (kind : LogKind) (reason : Nat) : State :=
  let s := { s with flash := { s.flash with order := s.flash.order + 1 } }
  imgShow (onSlotImage s k fun x => { x with log := x.log ++ [⟨kind, imgSecver x.bytes, reason, s.flash.order⟩] })

/-- Change a library half of the flash. -/
def setLib (s : State) (h : Nat) (l : List Byte) : State :=
  { s with flash := { s.flash with libs := modifyAt (fun _ => l) h s.flash.libs } }

/-! ### Sessions -/

/-- KPR_IMG_STAT.STATE and the session's fields. -/
def sessionShow (s : State) (st : Nat) : State := s.setF P.kpr F.KPR_IMG_STAT_STATE st

/-- R399: the session's requester: the transport's code and, over UDP, the key. -/
def viaOwner (v : Via) : Req × Nat :=
  match v with
  | .udp _ key _ _ _ => (v.req, key)
  | _ => (v.req, 0xFF)

/-- R47, R399: the session ends with ABORTED; its target is left EMPTY. The outcome is recorded against the IMG_BEGIN that opened it
(DEDUCED, log entry 78). -/
def sessionAbort (s : State) : State :=
  match s.kpr.session with
  | none => s
  | some e =>
    let s := (s.onKpr fun k => { k with session := none }).refuse P.kpr 0x62 e.req 0 .aborted
    imgShow (sessionShow (s.setF P.kpr F.KPR_IMG_STAT_CODE Code.aborted.num) 0)

/-- R35, R47, R401: a verification under way ends with ABORTED, recorded against its IMG_COMMIT. -/
def verifyAbort (s : State) : State :=
  match s.kpr.verify with
  | none => s
  | some v =>
    let s := (s.onKpr fun k => { k with verify := none }).refuse P.kpr 0x64 v.req 0 .aborted
    imgShow (sessionShow (s.setF P.kpr F.KPR_IMG_STAT_CODE Code.aborted.num) (if s.kpr.session.isSome then 1 else 0))

/-- R350: the bytes of a region by the layout table. -/
def regionBytes (s : State) (ty : Nat) : Nat := 0x10000 * (regionOfType s.flash.hdr ty).2

/-- R399: the largest SIZE for a target: a slot less its boot log sector. -/
def sizeMax (s : State) (target dest : Nat) : Nat :=
  if target = 0 then regionBytes s (2 + dest) - 0x10000 else regionBytes s (4 + dest)

/-- R395: whether a slot is booted: the part is not in RECOVERY. -/
def bootedSlot (s : State) : Nat := s.getF P.kpr F.KPR_BOOT_SLOT

/-- R399: where a session writes: the slot not booted, or the half not ACTIVE. -/
def sessionDest (s : State) (target : Nat) : Nat :=
  if target = 0 then 1 - bootedSlot s else if s.flash.active = some 0 then 1 else 0

/-- R399, R403: IMG_BEGIN. -/
def imgBeginBody (q : PlReq) (s : State) : PlAns :=
  let p := q.payload
  let target := field p 0 1
  let dest := sessionDest s target
  let size := field p 4 4
  if p.length ≠ 8 ∨ 1 < target ∨ field p 1 3 ≠ 0 then nak s P.kpr .range
  else if flsReady s ∧ (size < 128 ∨ sizeMax s target dest < size) then nak s P.kpr .range
  else if !s.sys.recovery ∧ s.isSet P.kpr F.KPR_BOOT_TRIAL then nak s P.kpr .state
  else if !flsReady s then nak s P.kpr .state
  else if s.kpr.session.isSome ∨ s.kpr.verify.isSome then nak s P.kpr .busy
  else
    let o := viaOwner q.via
    let s := s.onKpr fun k => { k with session := some ⟨o.1, o.2, target, dest, size, []⟩ }
    let s := if target = 0 then onSlotImage s dest fun _ => ⟨[], []⟩ else setLib s dest []
    let s := ((s.setF P.kpr F.KPR_IMG_STAT_TARGET target).setF P.kpr F.KPR_IMG_STAT_DEST dest).setF P.kpr F.KPR_IMG_STAT_REQ o.1.code
    let s := (s.setF P.kpr F.KPR_IMG_STAT_KEY o.2).setF P.kpr F.KPR_IMG_BYTES_BYTES 0
    ok (imgShow (sessionShow s 1)) [BitVec.ofNat 8 dest, 0, 0, 0]

/-- IMG_BEGIN (R399). -/
def execImgBegin (q : PlReq) (s : State) : Host.Outcome State Fault Refusal :=
  .next (runPlosto 0x62 q (onPage P.kpr true (imgBeginBody q)) s)

/-- R399, R400: IMG_DATA; `erasing`: the sector the chunk needs is still being erased. -/
def imgDataBody (erasing : Bool) (q : PlReq) (s : State) : PlAns :=
  let p := q.payload
  let off := field p 0 4
  let d := p.drop 4
  let n := s.getF P.kpr F.KPR_IMG_BYTES_BYTES
  match s.kpr.session with
  | none => if p.length < 5 ∨ 240 < p.length then nak s P.kpr .range else nak s P.kpr .state
  | some e =>
    let again := decide (off + d.length ≤ n) && (e.data.drop off).take d.length == d
    if p.length < 5 ∨ 240 < p.length ∨ (!again ∧ (off ≠ n ∨ e.size < n + d.length)) then nak s P.kpr .range
    else if viaOwner q.via ≠ (e.req, e.key) then nak s P.kpr .state
    else if again then ok s []
    else if erasing then nak s P.kpr .busy
    else
      let s := s.onKpr fun k => { k with session := some { e with data := e.data ++ d } }
      ok (s.setF P.kpr F.KPR_IMG_BYTES_BYTES (n + d.length)) []

/-- IMG_DATA (R400). -/
def execImgData (erasing : Bool) (q : PlReq) (s : State) : Host.Outcome State Fault Refusal :=
  .next (runPlosto 0x63 q (onPage P.kpr true (imgDataBody erasing q)) s)

/-- R401: verification starts. -/
def verifyStart (s : State) (v : Verify) : State :=
  sessionShow (s.onKpr fun k => { k with session := if v.ends then none else k.session, verify := some v }) 2

/-- R401, R403: IMG_COMMIT: OP 0 ends the session, OP 1 verifies in place. -/
def imgCommitBody (q : PlReq) (s : State) : PlAns :=
  let p := q.payload
  let op := field p 0 1
  let flags := field p 1 1
  if p.length ≠ 4 ∨ 1 < op ∨ 1 < flags ∨ 1 < field p 2 1 ∨ 1 < field p 3 1 then nak s P.kpr .range
  else if op = 0 then
    match s.kpr.session with
    | none => nak s P.kpr .state
    | some e =>
      if viaOwner q.via ≠ (e.req, e.key) then nak s P.kpr .state
      else if s.kpr.verify.isSome then nak s P.kpr .busy
      else if e.data.length ≠ e.size then nak s P.kpr .check
      else ok (verifyStart s ⟨true, e.target, e.dest, flags == 1, e.data, q.via.req⟩) []
  else if s.kpr.verify.isSome then nak s P.kpr .busy
  else if !flsReady s then nak s P.kpr .state
  else
    let t := field p 2 1
    let d := field p 3 1
    ok (verifyStart s ⟨false, t, d, flags == 1, if t = 0 then (slotOf s d).bytes else s.flash.libs.getD d [],
      q.via.req⟩) []

/-- IMG_COMMIT (R401). -/
def execImgCommit (q : PlReq) (s : State) : Host.Outcome State Fault Refusal :=
  .next (runPlosto 0x64 q (onPage P.kpr true (imgCommitBody q)) s)

/-- IMG_VERIFY (R401). -/
def execImgVerify (q : PlReq) (s : State) : Host.Outcome State Fault Refusal :=
  .next (runPlosto 0x64 q (onPage P.kpr true (imgCommitBody q)) s)

/-- R401: what a verification that ends a session leaves in the flash. -/
def verifyPut (s : State) (v : Verify) (c : Code) : State :=
  if v.target = 1 then (if c = .done then setLib s v.dest v.data else setLib s v.dest [])
  else
    let s := onSlotImage s v.dest fun _ => ⟨v.data, []⟩
    if c = .done then bootLog s v.dest .commit 0 else bootLog s v.dest .reject c.num

/-- IMG_VERIFY_DONE (R47, R363, R401): verification ends; `sound`: no sector of the update failed. -/
def execImgVerifyDone (sound : Bool) (s : State) : Host.Outcome State Fault Refusal :=
  match s.kpr.verify with
  | none => .next s
  | some v =>
    if keeperRuns s then
      let c := if !sound then .check else if v.target = 0 then imgVerify s v.data true else libVerify v.data
      let s := s.onKpr fun k => { k with verify := none, rebootDue := v.reboot && decide (c = .done) }
      let s := if v.ends then verifyPut s v c else s
      let s := if c = .done then s else (s.err P.kpr).refuse P.kpr 0x64 v.req 0 c
      let s := sessionShow ((s.setF P.kpr F.KPR_IMG_STAT_CODE c.num).raise P.kpr 0) (if s.kpr.session.isSome then 1 else 0)
      let sv := if v.target = 0 then imgSecver v.data else 0
      .next (imgShow (s.log 0x0003 1 0x0006 0 [BitVec.ofNat 8 v.target, BitVec.ofNat 8 v.dest, BitVec.ofNat 8 sv,
        BitVec.ofNat 8 c.num]))
    else .next s

/-- IMG_SESSION_TIMEOUT (R399): 60 s without accepted data. -/
def execImgSessionTimeout (s : State) : Host.Outcome State Fault Refusal :=
  if keeperRuns s then .next (sessionAbort s) else .next s

/-! ### Fuses and key slots -/

/-- R410: an OTP record and OTP_ERR. -/
def otpFailed (s : State) (op k : Nat) : State :=
  (s.raise P.kpr 25).log 0x0007 3 0x0006 0 [BitVec.ofNat 8 op, BitVec.ofNat 8 k]

/-- R402: fuses are blown in ascending order until the count equals a SECVER; `bad` is the fuse that fails verification. -/
def blowFuses (s : State) (secver : Nat) (bad : Option Nat) : State :=
  match bad with
  | some f =>
    if s.otp.fuses ≤ f ∧ f < secver then otpFailed { s with otp := { s.otp with fuses := f } } 3 f
    else { s with otp := { s.otp with fuses := max s.otp.fuses secver } }
  | none => { s with otp := { s.otp with fuses := max s.otp.fuses secver } }

/-- R402: IMG_CONFIRM; `bad`: the fuse that fails verification. -/
def imgConfirmBody (bad : Option Nat) (q : PlReq) (s : State) : PlAns :=
  if q.payload ≠ [] then nak s P.kpr .range
  else if !s.isSet P.kpr F.KPR_BOOT_TRIAL then nak s P.kpr .state
  else
    let k := bootedSlot s
    let sv := s.getF P.kpr F.KPR_BOOT_SECVER
    let s := bootLog s k .confirm 0
    let s := match libOf s (slotOf s k).bytes with
      | some h => { s with flash := { s.flash with active := some h } }
      | none => s
    let o := 1 - k
    let s := if slotState (slotOf s o).log ≠ 0 ∧ imgSecver (slotOf s o).bytes < sv then bootLog s o .reject Code.auth.num else s
    let s := blowFuses s sv bad
    let s := (imgShow s).setF P.kpr F.KPR_BOOT_TRIAL 0
    let n := BitVec.ofNat 8 s.otp.fuses
    ok (s.log 0x0004 1 0x0006 0 [BitVec.ofNat 8 k, BitVec.ofNat 8 sv, n]) [n, 0, 0, 0]

/-- IMG_CONFIRM (R402). -/
def execImgConfirm (bad : Option Nat) (q : PlReq) (s : State) : Host.Outcome State Fault Refusal :=
  .next (runPlosto 0x65 q (onPage P.kpr true (imgConfirmBody bad q)) s)

/-- R391: the staged hash. -/
def otpStaged (s : State) : List Byte := wordsBytes ((List.range 8).map fun i => s.rd (P.kpr + 0x70 + 4 * i))

/-- R391: a slot's REVOKED fuse is blown. -/
def otpRevoke (s : State) (k : Nat) : State :=
  if otpBit s.otp.revoked k then s else { s with otp := { s.otp with revoked := s.otp.revoked + 2 ^ k } }

/-- R391: a write of KPR_OTP_CTRL. -/
def otpCtrlWrite (r : Req) (v : Word) : Act := fun s =>
  let op := getField v 9 8
  let k := getField v 1 0
  if 3 < r.code then (.auth, s)
  else if getField v 31 24 ≠ 0x5C ∨ k = 0 ∨ op = 0 ∨ op = 3 then (.range, s)
  else if op = 1 ∧ otpBit s.otp.prog k then (.state, s)
  else if op = 2 ∧ s.getF P.kpr F.KPR_BOOT_KEYSLOT = k then (.state, s)
  else if s.isSet P.kpr F.KPR_OTP_CTRL_BUSY then (.busy, s)
  else if op = 1 then
    (.done, (s.onKpr fun x => { x with otpOp := some (k, otpStaged s) }).setF P.kpr F.KPR_OTP_CTRL_BUSY 1)
  else (.done, otpRevoke s k)

/-- OTP_PROG (R391): KPR_OTP_CTRL is written with OP = PROG. -/
def execOtpProg (r : Req) (v : Word) (s : State) : Host.Outcome State Fault Refusal :=
  .next (hostWrite r (P.kpr + 0x90) (otpCtrlWrite r (setField v 9 8 1)) s)

/-- OTP_REVOKE (R391): KPR_OTP_CTRL is written with OP = REVOKE. -/
def execOtpRevoke (r : Req) (v : Word) (s : State) : Host.Outcome State Fault Refusal :=
  .next (hostWrite r (P.kpr + 0x90) (otpCtrlWrite r (setField v 9 8 2)) s)

/-- OTP_PROG_DONE (R391): programming ends; every bit verified, or one failed. -/
def execOtpProgDone (sound : Bool) (s : State) : Host.Outcome State Fault Refusal :=
  match s.kpr.otpOp with
  | none => .next s
  | some (k, h) =>
    let s := (s.onKpr fun x => { x with otpOp := none }).setF P.kpr F.KPR_OTP_CTRL_BUSY 0
    let s := { s with otp := { s.otp with keys := modifyAt (fun _ => h) k s.otp.keys,
                                          prog := if otpBit s.otp.prog k then s.otp.prog else s.otp.prog + 2 ^ k } }
    .next (if sound then s else otpFailed (otpRevoke s k) 1 k)

/-- The registers of the KPR page. -/
def kprWrite (r : Req) (off : Nat) (v : Word) : Act :=
  if off = 0x90 then otpCtrlWrite r v else plain (P.kpr + off) v

end Sys2Proof.Machine
end

