-- ==== Sys2Proof/Machine/Pdm.lean ====
section
/-! DEFINITION. The PDM front end: clock groups, the microphone guard, and the change between full and listening mode
(R202-R210, R231). -/

namespace Sys2Proof.Machine

/-! ### Groups and microphones -/

/-- R209: whether clock group `g` is stopped by a fault. -/
def grpFault (s : State) (g : Nat) : Bool := s.getF P.pdm F.PDM_STAT_CLK_FLT / 2 ^ g % 2 == 1

/-- R203: clock group `g` serves a Scout microphone. -/
def grpScout (s : State) (g : Nat) : Bool := (scoutMics s).any fun i => i / 8 == g

/-- R203: clock group `g` runs: enabled with an enabled microphone, and in listening mode with a Scout microphone. -/
def grpRuns (s : State) (g : Nat) : Bool :=
  s.en P.pdm && s.getF P.pdm F.PDM_CFG_CLK_EN / 2 ^ g % 2 == 1 && getField (s.rd (P.pdm + 0x44)) (8 * g + 7) (8 * g) != 0 &&
    !grpFault s g && (s.pdm.full || grpScout s g)

/-- The field of microphone `i` in PDM_MIC_STAT0 or 1. -/
def micFld (i : Nat) : Fld := ⟨0x50 + 4 * (i / 16), 2 * (i % 16) + 1, 2 * (i % 16)⟩

/-- R209: a microphone's state: 0 OFF, 1 OK, 2 ABSENT, 3 SAT. -/
def micSt (s : State) (i : Nat) : Nat := s.getF P.pdm (micFld i)

/-- R203, R209: microphones whose group does not run, or that are not enabled, are OFF; one that starts is OK. -/
def micRefresh (s : State) : State :=
  forEach (List.range 32) (fun i s =>
    if grpRuns s (i / 8) && bit (s.rd (P.pdm + 0x44)) i then (if micSt s i = 0 then s.setF P.pdm (micFld i) 1 else s)
    else s.setF P.pdm (micFld i) 0) s

/-- R209: the checks of microphone `i` run: no mode change settles, nor its group. -/
def micChecked (s : State) (i : Nat) : Bool := s.pdm.phase != .switching && !s.pdm.settling.contains (i / 8)

/-- MIC_ABSENT (R209): no transition on the latched bits for 1 ms. -/
def execMicAbsent (i : Fin 32) (s : State) : Host.Outcome State Fault Refusal :=
  if (micSt s i = 1 ∨ micSt s i = 3) ∧ micChecked s i then
    .next ((((s.setF P.pdm (micFld i) 2).bump P.pdm F.PDM_ABS_CNT_COUNT).raise P.pdm 0).err P.pdm)
  else .next s

/-- MIC_SAT (R209): a ones density outside 5-95 % over 10 ms. -/
def execMicSat (i : Fin 32) (s : State) : Host.Outcome State Fault Refusal :=
  if (micSt s i = 1 ∨ micSt s i = 2) ∧ micChecked s i then
    .next ((((s.setF P.pdm (micFld i) 3).bump P.pdm F.PDM_SAT_CNT_COUNT).raise P.pdm 1).err P.pdm)
  else .next s

/-- MIC_OK (R209): 10 ms without the condition. -/
def execMicOk (i : Fin 32) (s : State) : Host.Outcome State Fault Refusal :=
  if 2 ≤ micSt s i then .next (s.setF P.pdm (micFld i) 1) else .next s

/-- PDM_CLK_FAULT (R209): the level read back differs at four edges: the group stops. -/
def execPdmClkFault (g : Fin 4) (s : State) : Host.Outcome State Fault Refusal :=
  if grpRuns s g then
    let s := s.setF P.pdm F.PDM_STAT_CLK_FLT (s.getF P.pdm F.PDM_STAT_CLK_FLT ||| 2 ^ g.val)
    let s := ((s.setF P.pdm F.PG_STAT_FAULT 1).raise P.pdm 24).err P.pdm
    .next (micRefresh (s.log 0x0030 3 0x0014 0 [BitVec.ofNat 8 g]))
  else .next s

/-- R209: a write of PDM_CTRL: the faults named are cleared; the groups restart and settle. -/
def pdmCtrlWrite (v : Word) : Act := yes fun s =>
  let gs := (List.range 4).filter fun g => bit v g && grpFault s g
  let left := (List.range 4).foldl (fun m g => m + (if grpFault s g && !gs.contains g then 2 ^ g else 0)) 0
  let s := s.setF P.pdm F.PDM_STAT_CLK_FLT left
  let s := s.setF P.pdm F.PG_STAT_FAULT (b2n (left != 0))
  micRefresh (s.onPdm fun p => { p with settling := p.settling ++ gs })

/-- PDM_CLR_FLT (R209): PDM_CTRL is written. -/
def execPdmClrFlt (r : Req) (v : Word) (s : State) : Host.Outcome State Fault Refusal :=
  .next (hostWrite r (P.pdm + 0x48) (pdmCtrlWrite v) s)

/-! ### Changing the microphone clock -/

/-- R231: PG_STAT.STATE follows the mode and the change under way, while the page is enabled. -/
def pdmShow (s : State) : State :=
  if s.en P.pdm then
    s.setSt P.pdm (match s.pdm.phase with
      | .deferred => 4
      | .switching => 5
      | _ => if s.pdm.full then 2 else 3)
  else s

/-- R210 step 4: the change proceeds; at the 2 s limit it is forced. -/
def pdmProceed (s : State) (forced : Bool) : State :=
  let s := (s.setF P.pdm F.PDM_STAT_PENDING 0).setF P.pdm F.PDM_STAT_FORCED (b2n forced)
  let s := if forced then (s.bump P.pdm F.PDM_FORCE_CNT_COUNT).raise P.pdm 3 else s
  s.onPdm fun p => { p with phase := .closing }

/-- R210: a request for full mode or listening mode. -/
def pdmRequest (s : State) (full : Bool) : State :=
  match s.pdm.phase with
  | .steady =>
    if s.pdm.full = full then s
    else
      let s := s.onPdm fun p => { p with want := some full }
      if s.isSet P.sct F.SCT_STAT_VAD then
        let s := ((s.bump P.pdm F.PDM_DEFER_CNT_COUNT).setF P.pdm F.PDM_STAT_PENDING 1).setF P.pdm F.PDM_STAT_DEFER 0
        pdmShow (s.onPdm fun p => { p with phase := .deferred })
      else pdmProceed s false
  | .deferred =>
    if s.pdm.full = full then
      pdmShow ((s.setF P.pdm F.PDM_STAT_PENDING 0).onPdm fun p => { p with phase := .steady, want := none })
    else s
  | _ => s.onPdm fun p => { p with next := some full }

/-- R210 step 3: a deferred change proceeds once the detector reports no voice, or when it has waited 2 s. -/
def pdmDefer (s : State) : State :=
  if s.pdm.phase = .deferred ∧ (!s.isSet P.sct F.SCT_STAT_VAD ∨ 2000 ≤ s.getF P.pdm F.PDM_STAT_DEFER) then
    pdmProceed s (s.isSet P.sct F.SCT_STAT_VAD)
  else s

/-- PDM_MODE_CHANGE (R210). -/
def execPdmGoOn (s : State) : Host.Outcome State Fault Refusal := .next (pdmDefer s)

/-- R210 step 5: at the end of the block that fades out, the clocks change. -/
def pdmSwitch (s : State) : State :=
  if s.pdm.phase = .faded then
    let s := s.onPdm fun p => { p with full := p.want.getD p.full, want := none, phase := .switching, fade := 0 }
    pdmShow (micRefresh s)
  else s

/-- PDM_SWITCH (R210). -/
def execPdmSwitch (s : State) : Host.Outcome State Fault Refusal := .next (pdmSwitch s)

/-- PDM_SETTLE_END (R209, R210 step 6): the microphones have settled; the page enters RUN or LISTEN and they fade in. A
request held meanwhile starts. -/
def execPdmSettleEnd (s : State) : Host.Outcome State Fault Refusal :=
  let s := s.onPdm fun p => { p with settling := [] }
  if s.pdm.phase = .switching then
    let next := s.pdm.next
    let s := (pdmShow (s.onPdm fun p => { p with phase := .steady, next := none })).raise P.pdm 2
    match next with
    | some f => .next (pdmRequest s f)
    | none => .next s
  else .next s

/-- R210: PDM_STAT.DEFER counts the ms waited, and the fade-in of the microphones' output takes a step. -/
def pdmTick (s : State) (ms : Bool) : State :=
  let s := if ms ∧ s.pdm.phase = .deferred then
    s.setF P.pdm F.PDM_STAT_DEFER (min 2000 (s.getF P.pdm F.PDM_STAT_DEFER + 1)) else s
  s.onPdm fun p => { p with fade := match p.phase with
    | .steady => min 48 (p.fade + 1)
    | .deferred => min 48 (p.fade + 1)
    | .closing => min 48 (p.fade + 1)
    | _ => p.fade }

/-- R210 steps 4 and 5: at the start of a block of 32 samples, one that completes is followed by the one that fades out, and what
has faded out switches. -/
def pdmBlock (s : State) (k : Nat) : State :=
  if k % 32 = 0 then
    match s.pdm.phase with
    | .closing => s.onPdm fun p => { p with phase := .fading }
    | .fading => pdmSwitch (s.onPdm fun p => { p with phase := .faded })
    | .faded => pdmSwitch s
    | _ => s
  else s

/-- R210 step 4: the block that fades out has ended with period `k`. -/
def pdmBlockEnd (s : State) (k : Nat) : State :=
  if k % 32 = 31 ∧ s.pdm.phase = .fading then s.onPdm fun p => { p with phase := .faded } else s

/-- R210, R220: a sample lies in the gap of a change, from the block that fades out to the end of the fade-in. -/
def inGap (s : State) : Bool :=
  match s.pdm.phase with
  | .fading => true
  | .faded => true
  | .switching => true
  | _ => decide (s.pdm.fade < 48)

/-- R209, R210: what microphone `i` presents when its chain gives `x`. The fade-out of a change is that of a block of 32
samples, `k` samples into it, on top of a fade-in that it interrupts. -/
def micSource (s : State) (i : Nat) (k : Nat) (x : Int) : Int :=
  if micSt s i = 1 ∨ micSt s i = 3 then
    match s.pdm.phase with
    | .switching => 0
    | .faded => 0
    | .fading => quantI (x * s.pdm.fade * ((32 - min 32 k : Nat) : Int)) (48 * 32)
    | _ => if s.pdm.fade = 48 then x else quantI (x * s.pdm.fade) 48
  else 0

/-! ### Writes -/

/-- R231: what a write of PDM_CFG or PDM_MIC_EN may not do in LISTEN: stop a Scout microphone. -/
def scoutKept (s : State) (off : Nat) (v : Word) : Bool :=
  (scoutMics s).all fun i =>
    if off = 0x40 then bit v (24 + i / 8) || !bit (s.rd (P.pdm + off)) (24 + i / 8) else bit v i || !bit (s.rd (P.pdm + off)) i

/-- R231: a write of PDM_CFG or PDM_MIC_EN. -/
def pdmSetup (off : Nat) (v : Word) : Act := fun s =>
  if s.st P.pdm = 4 ∨ s.st P.pdm = 5 ∨ (s.st P.pdm = 3 ∧ !scoutKept s off v) then (.state, s)
  else (.done, micRefresh (s.store (P.pdm + off) v))

/-- The registers of the PDM page. -/
def pdmWrite (off : Nat) (v : Word) : Act :=
  if off = 0x40 ∨ off = 0x44 then pdmSetup off v else if off = 0x48 then pdmCtrlWrite v else plain (P.pdm + off) v

end Sys2Proof.Machine
end

