-- ==== Sys2Proof/Machine/Scout.lean ====
section
/-! DEFINITION. The Scout: voice detector, features and phrase models (R214-R223), knocks (R211-R213), the pre-roll ring
and the Propolis seal (R224-R229). -/

namespace Sys2Proof.Machine

/-- The base of slot `k`'s registers. -/
def slotBase (k : Nat) : Nat := P.sct + 8 * k

/-- SCT_SLOT_k_CFG.STATE: 0 EMPTY, 1 LOADING, 2 READY, 3 ACTIVE. -/
def slotSt (s : State) (k : Nat) : Nat := s.getF (slotBase k) F.SCT_SLOT_CFG_STATE

/-- The Scout works: LISTENING or OPEN, with its domain on. -/
def sctOn (s : State) : Bool := !s.sys.held && s.domOn .listen && (s.st P.sct == 3 || s.st P.sct == 4)

/-! ### Model images -/

/-- R218: a layer descriptor. -/
structure Layer where
  conv : Bool
  relu : Bool
  kernel : Nat
  dil : Nat
  ins : Nat
  outs : Nat
  woff : Nat
  shift : Nat
  boff : Nat
deriving DecidableEq, Repr

/-- R218: layer `l` of an image. -/
def layerOf (img : List Byte) (l : Nat) : Layer :=
  let a := 64 + 16 * l
  { conv := field img a 1 == 1, relu := field img (a + 1) 1 == 1, kernel := field img (a + 2) 1, dil := field img (a + 3) 1
    ins := field img (a + 4) 2, outs := field img (a + 6) 2, woff := field img (a + 8) 3, shift := field img (a + 11) 1
    boff := field img (a + 12) 3 }

/-- R217: the layers of an image. -/
def layersOf (img : List Byte) : List Layer := (List.range (field img 5 1)).map (layerOf img)

/-- R218: the weights of a layer. -/
def Layer.weights (y : Layer) : Nat := y.ins * y.outs * y.kernel

/-- R218: whether the fields of layer `l` lie in their ranges and its data inside the image. -/
def layerOk (img : List Byte) (l : Nat) : Bool :=
  let y := layerOf img l
  let a := 64 + 16 * l
  decide (field img a 1 ≤ 1 ∧ field img (a + 1) 1 ≤ 1 ∧ 1 ≤ y.ins ∧ y.ins ≤ 256 ∧ 1 ≤ y.outs ∧ y.outs ≤ 256 ∧ y.shift ≤ 31 ∧
    y.boff % 4 = 0 ∧ field img (a + 15) 1 = 0 ∧ y.woff + y.weights ≤ img.length ∧ y.boff + 4 * y.outs ≤ img.length) &&
  (if y.conv then decide (1 ≤ y.kernel ∧ y.kernel ≤ 9 ∧ 1 ≤ y.dil ∧ y.dil ≤ 8) else y.kernel == 1 && y.dil == 1)

/-- R218: each layer takes the outputs of the one before; the first takes 40 and the last gives 1 without ReLU. -/
def chainOk : Nat → List Layer → Bool
  | n, [] => n == 1
  | n, [y] => y.ins == n && y.outs == 1 && !y.relu
  | n, y :: t => y.ins == n && chainOk y.outs t

/-- R217: the header's fields. -/
def headerOk (img : List Byte) : Bool :=
  decide (img.take 4 = [0x53#8, 0x43#8, 0x54#8, 0x4D#8] ∧ field img 4 1 = 1 ∧ 1 ≤ field img 5 1 ∧ field img 5 1 ≤ 8 ∧
    field img 6 1 = 40 ∧ field img 7 1 = 0 ∧ 30 ≤ field img 8 2 ∧ field img 8 2 ≤ 250 ∧ 1 ≤ field img 10 1 ∧
    1 ≤ field img 11 1 ∧ field img 11 1 ≤ 16 ∧ field img 12 4 = img.length ∧ (img.drop 32).take 28 = List.replicate 28 0#8)

/-- R217: the check value of an image, computed with its own field as 0. -/
def modelCrc (img : List Byte) : Word := crc32 (img.take 60 ++ [0, 0, 0, 0] ++ img.drop 64)

/-- R222: the checks of END on a whole image. -/
def modelCheck (img : List Byte) : Code :=
  if BitVec.ofNat 32 (field img 60 4) ≠ modelCrc img then .check
  else if headerOk img && (List.range (field img 5 1)).all (layerOk img) && chainOk 40 (layersOf img) then .done
  else .range

/-- R218, R223: the multiply-accumulates of an image per frame. -/
def modelMacs (img : List Byte) : Nat := ((layersOf img).map Layer.weights).foldl (· + ·) 0

/-- R217: the phrase window, the frames averaged, and the default threshold of an image. -/
def modelWindow (img : List Byte) : Nat := field img 8 2
@[inherit_doc modelWindow] def modelSmooth (img : List Byte) : Nat := field img 11 1
@[inherit_doc modelWindow] def modelThr (img : List Byte) : Nat := field img 10 1

/-- R218: weight `w[o][k][i]` of a layer. -/
def weightAt (img : List Byte) (y : Layer) (o k i : Nat) : Int := signed 8 (field img (y.woff + (o * y.kernel + k) * y.ins + i) 1)

/-- R218: one output of a layer at one frame; `xs` holds the inputs, the newest frame first. -/
def layerOut (img : List Byte) (y : Layer) (xs : List (List Int)) (o : Nat) : Int :=
  let bias := signed 32 (field img (y.boff + 4 * o) 4)
  let acc := (List.range y.kernel).foldl (fun (a : Int) k =>
    let x := xs.getD (k * y.dil) []
    (List.range y.ins).foldl (fun (a : Int) i => a + weightAt img y o k i * x.getD i 0) a) bias
  let v := satS 8 (roundShift acc y.shift)
  if y.relu then max v 0 else v

/-- R218: a layer over all frames: inputs and outputs newest first. -/
def layerRun (img : List Byte) (y : Layer) : List (List Int) → List (List Int)
  | [] => []
  | x :: t => (List.range y.outs).map (layerOut img y (x :: t)) :: layerRun img y t

/-- R218: the frame score of the newest of a list of feature frames (newest first): the last layer's output plus 128. -/
def frameScore (img : List Byte) (frames : List (List Int)) : Nat :=
  let ys := (layersOf img).foldl (fun xs y => layerRun img y xs) frames
  ((ys.headD []).headD 0 + 128).toNat

/-! ### Loading models -/

/-- R222: the bytes of model memory a slot uses. -/
def slotBytes (x : Slot) : Nat :=
  match x.load with
  | some l => max l.length x.model.length
  | none => x.model.length

/-- SCT_MODEL_USED. -/
def modelUsed (s : State) : State :=
  s.setF P.sct F.SCT_MODEL_USED_BYTES (min 131072 ((s.sct.slots.map slotBytes).foldl (· + ·) 0))

/-- R222: a slot takes a model. -/
def slotTake (s : State) (k : Nat) (img : List Byte) : State :=
  let b := slotBase k
  let s := s.onSlot k fun _ => { Slot.reset with model := img }
  let s := (s.setF b F.SCT_SLOT_CFG_STATE 2).setF b F.SCT_SLOT_CFG_THR (modelThr img)
  let s := (s.setF b F.SCT_SLOT_INFO_WINDOW (modelWindow img)).setF b F.SCT_SLOT_INFO_SMOOTH (modelSmooth img)
  modelUsed (s.setF b F.SCT_SLOT_INFO_KMAC ((modelMacs img + 999) / 1000))

/-- R222: a slot is EMPTY. -/
def slotEmpty (s : State) (k : Nat) : State :=
  let b := slotBase k
  let s := ((s.onSlot k fun _ => Slot.reset).setF b F.SCT_SLOT_CFG_STATE 0).setF b F.SCT_SLOT_CFG_EN 0
  modelUsed (s.wr (b + 0x84) 0)

/-- The slot a MODEL_LOAD names; BEGIN with 0xFF takes the lowest EMPTY one. -/
def beginSlot (s : State) (k : Nat) : Option Nat := if k = 0xFF then (List.range 4).find? fun i => slotSt s i == 0 else some k

/-- R222: MODEL_LOAD BEGIN. -/
def modelBeginBody (q : PlReq) (s : State) : PlAns :=
  let k := field q.payload 1 1
  let size := field q.payload 4 4
  let slot := beginSlot s k
  let others := (((List.range 4).filter fun i => slot != some i).map fun i => slotBytes (s.slot i)).foldl (· + ·) 0
  if q.payload.length ≠ 8 ∨ field q.payload 2 2 ≠ 0 ∨ (4 ≤ k ∧ k ≠ 0xFF) ∨ size < 64 ∨ 131072 < size ∨ 131072 < others + size then
    nak s P.sct .range
  else match slot with
    | none => nak s P.sct .full
    | some j =>
      if slotSt s j = 3 then nak s P.sct .state
      else if (List.range 4).any fun i => i != j && slotSt s i == 1 then nak s P.sct .busy
      else
        let s := (s.onSlot j fun x => { x with load := some (List.replicate size none) }).setF (slotBase j) F.SCT_SLOT_CFG_STATE 1
        ok (modelUsed s) [BitVec.ofNat 8 j, 0, 0, 0]

/-- MODEL_LOAD_BEGIN (R222). -/
def execModelLoadBegin (q : PlReq) (s : State) : Host.Outcome State Fault Refusal :=
  .next (runPlosto 0x28 q (onPage P.sct true (modelBeginBody q)) s)

/-- Bytes written into an image being loaded. -/
def putImage (l : List (Option Byte)) (off : Nat) (bs : List Byte) : List (Option Byte) :=
  l.take off ++ bs.map some ++ l.drop (off + bs.length)

/-- R222: MODEL_LOAD DATA. -/
def modelDataBody (q : PlReq) (s : State) : PlAns :=
  let k := field q.payload 1 1
  let off := field q.payload 4 4
  let bs := q.payload.drop 8
  if q.payload.length < 9 ∨ 236 < bs.length ∨ field q.payload 2 2 ≠ 0 ∨ 4 ≤ k then nak s P.sct .range
  else match (s.slot k).load with
    | none => nak s P.sct .state
    | some l =>
      if l.length < off + bs.length then nak s P.sct .range
      else ok (s.onSlot k fun x => { x with load := some (putImage l off bs) }) []

/-- MODEL_LOAD_DATA (R222). -/
def execModelLoadData (q : PlReq) (s : State) : Host.Outcome State Fault Refusal :=
  .next (runPlosto 0x28 q (onPage P.sct true (modelDataBody q)) s)

/-- R222: MODEL_LOAD END. A failure, recorded as R47 says, leaves the slot EMPTY. -/
def modelEndBody (q : PlReq) (s : State) : PlAns :=
  let k := field q.payload 1 1
  if q.payload.length ≠ 4 ∨ field q.payload 2 2 ≠ 0 ∨ 4 ≤ k then nak s P.sct .range
  else match (s.slot k).load with
    | none => nak s P.sct .state
    | some l =>
      let c := if l.any (·.isNone) then .check else modelCheck (l.filterMap id)
      if c = .done then ok ((slotTake s k (l.filterMap id)).raise P.sct 7) [] else nak (slotEmpty s k) P.sct c

/-- MODEL_LOAD_END (R222). -/
def execModelLoadEnd (q : PlReq) (s : State) : Host.Outcome State Fault Refusal :=
  .next (runPlosto 0x28 q (onPage P.sct true (modelEndBody q)) s)

/-- R222: MODEL_LOAD ERASE. -/
def modelEraseBody (q : PlReq) (s : State) : PlAns :=
  let k := field q.payload 1 1
  if q.payload.length ≠ 4 ∨ field q.payload 2 2 ≠ 0 ∨ 4 ≤ k then nak s P.sct .range
  else if slotSt s k = 3 then nak s P.sct .state
  else ok (slotEmpty s k) []

/-- MODEL_LOAD_ERASE (R222). -/
def execModelLoadErase (q : PlReq) (s : State) : Host.Outcome State Fault Refusal :=
  .next (runPlosto 0x28 q (onPage P.sct true (modelEraseBody q)) s)

/-- MODEL_ECC_ERROR (R222): the model memory of slot `k` has an uncorrectable error. -/
def execModelEccError (k : Fin 4) (s : State) : Host.Outcome State Fault Refusal :=
  if slotSt s k ≠ 0 then
    .next ((((slotEmpty s k).raise P.sct 24).err P.sct).log 0x0034 3 0x0015 0 [BitVec.ofNat 8 k])
  else .next s

/-- R223: a write of SCT_SLOT_k_CFG. -/
def slotCfgWrite (k : Nat) (v : Word) : Act := fun s =>
  let b := slotBase k
  let was := s.isSet b F.SCT_SLOT_CFG_EN
  let img := (s.slot k).model
  let macs := (((List.range 4).filter fun i => i != k && slotSt s i == 3).map fun i => modelMacs (s.slot i).model).foldl (· + ·) 0
  if getField v 7 0 = 0 then (.range, s)
  else if bit v 31 ∧ !was ∧ slotSt s k = 2 ∧
      (ringLen s < 16000 + 160 * (modelWindow img + 8) ∨ 3500000 < macs + modelMacs img) then (.range, s)
  else if bit v 31 ∧ !was ∧ slotSt s k ≠ 2 then (.state, s)
  else
    let s := s.store (b + 0x80) v
    if bit v 31 ∧ !was then
      (.done, (s.onSlot k fun x => { x with scores := [], holdoff := 0 }).setF b F.SCT_SLOT_CFG_STATE 3)
    else if !bit v 31 ∧ was then (.done, s.setF b F.SCT_SLOT_CFG_STATE 2)
    else (.done, s)

/-- SLOT_ENABLE (R223): SCT_SLOT_k_CFG is written with EN = 1. -/
def execSlotEnable (r : Req) (k : Fin 4) (v : Word) (s : State) : Host.Outcome State Fault Refusal :=
  .next (hostWrite r (slotBase k + 0x80) (slotCfgWrite k (setField v 31 31 1)) s)

/-! ### The seal -/

/-- R227: the ring set to zero. -/
def ringClear (s : State) : State := (s.zeroMem 0xFC0000 0x1000000).wr (P.sct + 0x54) 0

/-- R227: the seal closes; the page enters LISTENING or STOPPED. -/
def sealClose (s : State) (next : Nat) : State :=
  let s := ((s.wr (P.sct + 0x58) 0).wr (P.sct + 0x5C) 0).setF P.sct F.SCT_STAT_OPEN 0
  let s := (ringClear s).setF P.sct F.SCT_STAT_REMAIN 0
  let s := s.onSct fun x => { x with closes := x.closes + 1, tick := 0 }
  (s.setSt P.sct next).raise P.sct 2

/-- R226: the seal opens on a region of `len` samples per microphone that ends where the ring stopped. -/
def sealOpen (s : State) (len : Nat) : State :=
  let l := ringLen s
  let n := min len l
  let wp := s.getF P.sct F.SCT_RING_WP_VALUE
  let s := (s.setF P.sct F.SCT_OPEN_BEGIN_VALUE ((wp + l - n) % l)).setF P.sct F.SCT_OPEN_LEN_VALUE n
  let s := (s.setF P.sct F.SCT_STAT_OPEN 1).setF P.sct F.SCT_STAT_REMAIN (10 * s.getF P.sct F.SCT_SEAL_CFG_OPEN_TIME)
  (((s.onSct fun x => { x with tick := 4800 }).setSt P.sct 4)).raise P.sct 1

/-- R227: the seal closes once OPEN_TIME has passed. -/
def sealExpire (s : State) : State :=
  if s.st P.sct = 4 ∧ s.getF P.sct F.SCT_STAT_REMAIN = 0 then sealClose s 3 else s

/-- SEAL_TIMEOUT (R227): OPEN_TIME has passed. -/
def execSealTimeout (s : State) : Host.Outcome State Fault Refusal := .next (sealExpire s)

/-- R226, R227: SCT_STAT.REMAIN counts down in steps of 100 ms; at its end the seal closes. -/
def sealTick (s : State) : State :=
  if s.st P.sct = 4 then
    if s.sct.tick ≤ 1 then
      sealExpire ((s.setF P.sct F.SCT_STAT_REMAIN (s.getF P.sct F.SCT_STAT_REMAIN - 1)).onSct fun x => { x with tick := 4800 })
    else s.onSct fun x => { x with tick := x.tick - 1 }
  else s

/-- R232: detection starts afresh. -/
def sctFresh (s : State) : State :=
  let s := s.setF P.sct F.SCT_STAT_VAD 0
  s.onSct fun x => { x with mean := [], fresh := 0, frames := [], run := [], voiced := 0, since := 0,
                            slots := x.slots.map fun y => { y with scores := [], holdoff := 0 } }

/-- R232: STOP. -/
def sctHalt (s : State) : State :=
  let s := if s.st P.sct = 4 then sealClose s 2 else s.setSt P.sct 2
  sctFresh s

/-- R227, R232: a write of SCT_CTRL. -/
def sctCtrlWrite (v : Word) : Act := fun s =>
  if (bit v 0 && bit v 1) || (bit v 0 && bit v 2) || (bit v 1 && bit v 2) then (.range, s)
  else if bit v 0 then
    (if s.st P.sct = 2 ∧ scoutMics s ≠ [] ∧ s.en P.sct then (.done, (ringClear (sctFresh s)).setSt P.sct 3) else (.state, s))
  else if bit v 1 then (if s.st P.sct = 3 ∨ s.st P.sct = 4 then (.done, sctHalt s) else (.state, s))
  else if bit v 2 then (if s.st P.sct = 4 then (.done, sealClose s 3) else (.state, s))
  else (.done, s)

/-- SCT_START (R232): SCT_CTRL is written with START = 1. -/
def execSctStart (r : Req) (v : Word) (s : State) : Host.Outcome State Fault Refusal :=
  .next (hostWrite r (P.sct + 0x40) (sctCtrlWrite (setField v 0 0 1)) s)

/-- SCT_STOP (R232): SCT_CTRL is written with STOP = 1. -/
def execSctStop (r : Req) (v : Word) (s : State) : Host.Outcome State Fault Refusal :=
  .next (hostWrite r (P.sct + 0x40) (sctCtrlWrite (setField v 1 1 1)) s)

/-- SCT_CLOSE (R227): SCT_CTRL is written with CLOSE = 1. -/
def execSctClose (r : Req) (v : Word) (s : State) : Host.Outcome State Fault Refusal :=
  .next (hostWrite r (P.sct + 0x40) (sctCtrlWrite (setField v 2 2 1)) s)

/-- The named microphones of a SCT_MIC word come first, without gaps. -/
def micsOk (v : Word) : Bool :=
  (List.range 3).all fun i => bit v (8 * i + 7) || !bit v (8 * (i + 1) + 7)

/-- R229: a write of SCT_MIC; the ring is set to zero, and the write pointer is folded at its next update (R301). -/
def sctMicWrite (v : Word) : Act := fun s =>
  if !micsOk v then (.range, s)
  else if s.st P.sct = 4 then (.state, s)
  else
    let s := (s.store (P.sct + 0x44) v).zeroMem 0xFC0000 0x1000000
    (.done, micRefresh (s.setF P.sct F.SCT_STAT_NMIC (scoutMics s).length))

/-- SCT_MIC_WRITE (R229). -/
def execSctMicWrite (r : Req) (v : Word) (s : State) : Host.Outcome State Fault Refusal :=
  .next (hostWrite r (P.sct + 0x44) (sctMicWrite v) s)

/-- R206: a 16 kHz sample in 16 bits: rounded with halves towards +infinity, and saturated. -/
def ringSample (y : Int) : BitVec 16 := BitVec.ofInt 16 (satS 16 (roundShift y 16))

/-- R224: one 16 kHz sample of each named microphone enters the ring. -/
def ringRecord (s : State) (ys : List Int) : State :=
  if s.st P.sct = 3 then
    let l := ringLen s
    let wp := s.getF P.sct F.SCT_RING_WP_VALUE % l
    let s := forEach ((scoutMics s).mapIdx fun m _ => m) (fun m s =>
      { s with mem := putBytes s.mem (0xFC0000 + m * (2 * l) + 2 * wp) (leBytes 2 (ringSample (ys.getD m 0)).toNat) }) s
    s.setF P.sct F.SCT_RING_WP_VALUE ((wp + 1) % l)
  else s

/-- R214: the mean of the 16 kHz streams of the Scout microphones that are OK, and 0 where none is. -/
def meanSample (s : State) (ys : List Int) : Int :=
  let on := ((scoutMics s).zip ys).filter fun e => micSt s e.1 == 1
  if on = [] then 0 else quantI (on.foldl (fun (a : Int) e => a + e.2) 0) on.length

/-- R206, R214, R224: period `k` of the Scout's microphones, whose chains give `x`: every third period ends a 16 kHz sample of each,
which the ring records, and one of the mean stream. A microphone that is not OK gives zeros. -/
def scoutTake (s : State) (k : Nat) (x : Nat → Int) : State :=
  let ds := (scoutMics s).mapIdx fun m i =>
    Config.down16 (s.sct.down.getD m 0) (if micSt s i = 1 then micSource s i (k % 32) (x i) else 0)
  let ys := (scoutMics s).zipWith (fun i d => if micSt s i = 1 then d.2 else 0) ds
  let s := s.onSct fun z => { z with down := ds.map (·.1) }
  if k % 3 = 0 then
    let y := meanSample s ys
    let s := ringRecord s ys
    if s.st P.sct = 3 ∨ s.st P.sct = 4 then
      s.onSct fun z => { z with mean := ((y, inGap s) :: z.mean).take 400, fresh := z.fresh + 1 }
    else s
  else s

/-- R228: RING_READ. -/
def ringReadBody (q : PlReq) (s : State) : PlAns :=
  let m := field q.payload 0 1
  let off := field q.payload 4 4
  let n := field q.payload 8 2
  let len := s.getF P.sct F.SCT_OPEN_LEN_VALUE
  let shut := s.st P.sct ≠ 4
  if q.payload.length ≠ 12 ∨ field q.payload 1 3 ≠ 0 ∨ field q.payload 10 2 ≠ 0 ∨ n < 1 ∨ 120 < n ∨
      (scoutMics s).length ≤ m ∨ (!shut ∧ len < off + n) then nak s P.sct .range
  else if shut then nak ((s.bump P.sct F.SCT_SEALED_CNT_COUNT).err P.sct) P.sct .sealed
  else
    let l := ringLen s
    let b := s.getF P.sct F.SCT_OPEN_BEGIN_VALUE
    ok s ((List.range n).flatMap fun i =>
      let a := 0xFC0000 + m * (2 * l) + 2 * ((b + off + i) % l)
      [byteAt s.mem a, byteAt s.mem (a + 1)])

/-- RING_READ (R228). -/
def execRingRead (q : PlReq) (s : State) : Host.Outcome State Fault Refusal :=
  .next (runPlosto 0x29 q (onPage P.sct false (ringReadBody q)) s)

/-! ### Voice and phrases -/

/-- A phrase detection: its slot, the sum and number of the scores averaged, and the frames of its window, gaps among them. -/
structure Detection where
  slot : Nat
  sum : Nat
  cnt : Nat
  window : Nat
  gap : Nat
deriving DecidableEq, Repr

/-- The slot's score. -/
def detScore (d : Detection) : Rat := (d.sum : Rat) / (d.cnt : Nat)

/-- R219, R220: the gap frames, at most 8, among the frames that hold the newest `w` valid ones. -/
def gapsIn : Nat → List (Option (List Int)) → Nat
  | 0, _ => 0
  | _, [] => 0
  | w + 1, some _ :: t => gapsIn w t
  | w + 1, none :: t => 1 + gapsIn (w + 1) t

/-- R216, R219: slot `k` takes a frame's score; whether it detects. -/
def slotFrame (s : State) (k : Nat) : State × Option Detection :=
  let x := s.slot k
  let img := x.model
  let scores := (frameScore img s.sct.run.reverse :: x.scores).take (modelSmooth img)
  let sum := scores.foldl (· + ·) 0
  let hit := x.holdoff == 0 && decide (s.getF (slotBase k) F.SCT_SLOT_CFG_THR * scores.length ≤ sum)
  let s := s.onSlot k fun y => { y with scores := scores, holdoff := if hit then modelWindow img else y.holdoff - 1 }
  (s, if hit then some ⟨k, sum, scores.length, modelWindow img, min 8 (gapsIn (modelWindow img) s.sct.frames)⟩ else none)

/-- The detections of a frame, lowest slot first. -/
def slotsFrame (s : State) : State × List Detection :=
  (List.range 4).foldl (fun so k =>
    if slotSt so.1 k = 3 then (let r := slotFrame so.1 k; (r.1, so.2 ++ r.2.toList)) else so) (s, [])

/-- The detection with the highest score, the lowest slot on equal scores. -/
def bestDet : List Detection → Option Detection
  | [] => none
  | d :: t => match bestDet t with
    | none => some d
    | some e => if detScore d < detScore e then some e else some d

/-- R219: the onset of a detection, in fabric periods. -/
def onsetOf (now : BitVec 64) (d : Detection) : BitVec 64 := now - BitVec.ofNat 64 (480 * (d.window + d.gap))

/-- R221: what each detection does. -/
def detected (s : State) (d : Detection) : State :=
  let now := s.get64 (P.clk + 0x68)
  let s := (s.raise P.sct 0).bump P.sct F.SCT_DET_CNT_COUNT
  let s := if d.gap = 0 then s else s.bump P.sct F.SCT_GAP_CNT_COUNT
  let s := if s.st P.sct = 4 then s.bump P.sct F.SCT_OPENDET_CNT_COUNT else s
  let s := s.log 0x0031 1 0x0015 0 ([BitVec.ofNat 8 d.slot, BitVec.ofNat 8 (quantR (detScore d)), BitVec.ofNat 8 d.gap] ++
    leBytes 8 (onsetOf now d).toNat ++ leBytes 8 now.toNat)
  if s.isSet (slotBase d.slot) F.SCT_SLOT_CFG_WAKE then s.wakeBy 3 2 true else s

/-- R219, R221, R226: the detections of a frame are reported, and open a closed seal. -/
def detectAll (s : State) (ds : List Detection) : State :=
  match bestDet ds with
  | none => s
  | some b =>
    let now := s.get64 (P.clk + 0x68)
    let s := forEach ds (fun d s => detected s d) s
    let s := (s.set64 (P.sct + 0xA0) (onsetOf now b)).set64 (P.sct + 0xA8) now
    let s := (s.setF P.sct F.SCT_DET_INFO_SLOT b.slot).setF P.sct F.SCT_DET_INFO_WIDENED (b2n (b.gap != 0))
    let s := (s.setF P.sct F.SCT_DET_INFO_SCORE (quantR (detScore b))).setF P.sct F.SCT_DET_INFO_GAP b.gap
    let s := (s.setF P.sct F.SCT_STAT_LASTSRC 1).setF P.sct F.SCT_STAT_LASTSLOT b.slot
    if s.st P.sct = 3 then sealOpen s (16000 + 160 * ds.foldl (fun m d => max m (d.window + d.gap)) 0) else s

/-- R216: a band's feature, from its energy and its running mean in units of 2^-64 dB. -/
def feature (e m : Int) : Int := satS 8 (roundShift (2 * (e - m)) 64)

/-- R215, R216: a value that a tracker with a time constant of 2 s takes at a 10 ms frame. -/
def follow2s (x v : Fix) : Fix := x + Fix.mul (Fix.one - expNeg 1 200) (v - x)

/-- R215, R216, R219-R221: a 10 ms frame of the mean stream: its features over the last 25 ms and its energy in 300 Hz-4 kHz. It is a
gap frame if a sample of its 25 ms lies in the gap of a mode change (R220). -/
def scoutFrame (s : State) : State :=
  let w := s.sct.mean.map (·.1)
  let w := w ++ List.replicate (400 - w.length) 0
  let gap := s.sct.mean.any (·.2)
  let band := Config.melDb w
  let lv := Config.voiceDb (w.take 160)
  let heard := (scoutMics s).any fun i => micSt s i == 1
  let voiced := heard && decide (s.sct.floor + s.getF P.sct F.SCT_VAD_THR * 2 ^ 63 < lv)
  let f := (List.range 40).map fun b => feature (band b) (s.sct.mel.getD b 0)
  let before := (s.sct.frames.filterMap id).take 50
  let s := s.onSct fun x => { x with
    fresh := x.fresh - 160
    frames := ((if gap then none else some f) :: x.frames).take 300
    floor := if voiced then x.floor else follow2s x.floor lv
    mel := if voiced then x.mel else x.mel.mapIdx fun b m => follow2s m (band b)
    voiced := if voiced then x.voiced + 1 else 0
    since := if voiced then 0 else x.since + 1 }
  let begins := !s.isSet P.sct F.SCT_STAT_VAD && decide (s.getF P.sct F.SCT_VAD_MIN ≤ s.sct.voiced)
  let s := if begins then
      primeSlots (((s.setF P.sct F.SCT_STAT_VAD 1).raise P.sct 5).onSct fun x => { x with run := before.reverse })
    else s
  if gap then s
  else if s.isSet P.sct F.SCT_STAT_VAD then
    let r := slotsFrame (s.onSct fun x => { x with run := x.run ++ [f] })
    detectAll r.1 r.2
  else s.onSct fun x => { x with slots := x.slots.map fun y => { y with holdoff := y.holdoff - 1 } }
where
  /-- R216: the models run over the stored frames before the onset: their last scores. -/
  primeSlots (s : State) : State :=
    forEach (List.range 4) (fun k s =>
      if slotSt s k = 3 then
        let img := (s.slot k).model
        let l := s.sct.run.reverse
        s.onSlot k fun y => { y with scores := (List.range (min (modelSmooth img) l.length)).map fun i => frameScore img (l.drop i) }
      else s) s

/-- R216: a frame is judged once its 160 samples have come. -/
def scoutSettle (s : State) : State := if sctOn s ∧ 160 ≤ s.sct.fresh then scoutFrame s else s

/-- SCOUT_FRAME (R215, R216, R219-R221): the 160 samples of a frame have come. -/
def execScoutFrameEnd (s : State) : Host.Outcome State Fault Refusal := .next (scoutSettle s)

/-- VAD_OFF (R215): HANG x 10 ms without a voiced frame. -/
def execVadOff (s : State) : Host.Outcome State Fault Refusal :=
  if s.isSet P.sct F.SCT_STAT_VAD ∧ s.getF P.sct F.SCT_VAD_HANG ≤ s.sct.since then
    .next (((s.setF P.sct F.SCT_STAT_VAD 0).raise P.sct 6).onSct fun x => { x with run := [], voiced := 0 })
  else .next s

/-! ### Knocks -/

/-- The SCT_BZ_CFG field of sensor `n`: 7 EN. -/
def bzOn (s : State) (n : Nat) : Bool := bit (s.rd (P.sct + 0xC0)) (8 * n + 7)

/-- A level in units of 2^-64 dB in 0.1 dB. -/
def tenths (lvl : Fix) : Int := quantI (10 * lvl) (2 ^ 64)

/-- SCT_BZ_STAT of an event: 1 KNOCK, 2 BLOW; SCT_STAT.LASTSRC with it. -/
def bzReport (s : State) (last n : Nat) (lvl : Fix) : State :=
  let s := s.setF P.sct F.SCT_BZ_STAT_LAST last
  let s := s.setF P.sct F.SCT_STAT_LASTSRC (if last = 1 then 2 else 3)
  (s.setF P.sct F.SCT_BZ_STAT_SENSOR n).setS P.sct F.SCT_BZ_STAT_PEAK (tenths lvl)

/-- The payload of a KNOCK or BLOW record. -/
def bzPayload (pat n : Nat) (lvl : Fix) : List Byte :=
  [BitVec.ofNat 8 pat, BitVec.ofNat 8 n] ++ leBytes 2 (unsigned 16 (tenths lvl))

/-- R213: pattern `k` takes a knock of sensor `n`; whether it is completed. -/
def kpKnock (s : State) (n k : Nat) : State × Bool :=
  let c := s.rd (P.sct + 0xD0 + 4 * k)
  let now := (s.get64 (P.clk + 0x68)).toNat
  if bit c 31 && bit c (28 + n) then
    let p := s.sct.kp.getD k ⟨0, 0⟩
    let d := now - p.last
    let fits := p.count != 0 && decide (480 * getField c 15 8 ≤ d ∧ d ≤ 480 * getField c 23 16)
    let cnt := if fits then p.count + 1 else 1
    let full := decide (getField c 27 24 ≤ cnt)
    (s.onSct fun x => { x with kp := modifyAt (fun _ => ⟨if full then 0 else cnt, now⟩) k x.kp }, full)
  else (s, false)

/-- R213, R221: the patterns a knock completes are reported; SCT_BZ_STAT shows the lowest. -/
def knock (s : State) (n : Nat) (lvl : Fix) : State :=
  let r := (List.range 4).foldl (fun (so : State × List Nat) k =>
    let o := kpKnock so.1 n k
    (o.1, if o.2 then so.2 ++ [k] else so.2)) (s, [])
  let s := forEach r.2 (fun k s =>
    let s := ((s.raise P.sct 3).bump P.sct F.SCT_KNOCK_CNT_COUNT).log 0x0032 1 0x0015 0 (bzPayload k n lvl)
    if bit (s.rd (P.sct + 0xD0 + 4 * k)) 30 then s.wakeBy 4 3 false else s) r.1
  match r.2 with
  | [] => s
  | k :: _ => bzReport (s.setF P.sct F.SCT_BZ_STAT_PAT k) 1 n lvl

/-- R212: a blow. -/
def blow (s : State) (n : Nat) (lvl : Fix) : State :=
  let s := ((s.raise P.sct 4).bump P.sct F.SCT_BLOW_CNT_COUNT).log 0x0033 2 0x0015 0 (bzPayload 0xFF n lvl)
  bzReport s 2 n lvl

/-- R212: the gain of SCT_BZ_CFG.BAND of sensor `n`. -/
def bzBand (s : State) (n : Nat) : Nat := getField (s.rd (P.sct + 0xC0)) (8 * n + 1) (8 * n)

/-- R212: the peak follower of a magnitude, in units of 2^-64: attack 1 ms, release 20 ms, at 16 kHz. -/
def peakFollow (env m : Fix) : Fix :=
  env + Fix.mul (Fix.one - (if env < m then expNeg 1 16 else expNeg 1 320)) (m - env)

/-- R212: KNOCK / 2 and BLOW / 2 of SCT_BZ_THR in units of 2^-64 dB. -/
def knockAt (s : State) : Fix := s.getF P.sct F.SCT_BZ_THR_KNOCK * 2 ^ 63
@[inherit_doc knockAt] def blowAt (s : State) : Fix := s.getF P.sct F.SCT_BZ_THR_BLOW * 2 ^ 63

/-- R212: the level of an envelope; of one of 0 the manual gives no logarithm, and it is a free value. -/
def envLevel (s : State) (env : Fix) : Fix × State :=
  if env ≤ 0 then let d := s.draw; (d.1.toInt * 2 ^ 48, d.2) else (20 * log10 env.toNat (2 ^ 64), s)

/-- R212: a sensor is armed again below the re-arm level, DEAD x 10 ms after the event. -/
def knockRearm (s : State) (n : Nat) : State :=
  let x := s.sct.bz.getD n Knock.reset
  if !x.armed ∧ x.lvl < x.floor + knockAt s - 6 * 2 ^ 64 ∧ 160 * s.getF P.sct F.SCT_BZ_THR_DEAD ≤ x.age then
    s.onSct fun z => { z with bz := modifyAt (fun y => { y with armed := true }) n z.bz }
  else s

/-- BZ_SAMPLE (R212, R213): sensor `n` gives the 16 kHz sample `v`. The detector that could be armed again before it is. -/
def execBzSample (n : Fin 2) (v : Word) (s : State) : Host.Outcome State Fault Refusal :=
  if sctOn s ∧ bzOn s n then
    let s := knockRearm s n
    let x := s.sct.bz.getD n Knock.reset
    let b := Config.knockBand (bzBand s n) x.filt v.toInt
    let env := peakFollow x.env (b.2.natAbs * 2 ^ 33)
    let l := envLevel s env
    let s := l.2
    let lvl := l.1
    let floor := if lvl < x.floor + knockAt s then x.floor + roundDiv (lvl - x.floor) 80000 else x.floor
    let blows := x.armed && decide (-(blowAt s) ≤ lvl)
    let knocks := x.armed && !blows && decide (floor + knockAt s ≤ lvl)
    let y : Knock := { filt := b.1, env := env, lvl := lvl, floor := floor, armed := x.armed && !blows && !knocks,
                       age := if blows || knocks then 0 else x.age + 1 }
    let s := s.onSct fun z => { z with bz := modifyAt (fun _ => y) n z.bz }
    .next (if blows then blow s n lvl else if knocks then knock s n lvl else s)
  else .next s

/-- KNOCK_REARM (R212): after DEAD x 10 ms, below the re-arm level. -/
def execKnockRearm (n : Fin 2) (s : State) : Host.Outcome State Fault Refusal := .next (knockRearm s n)

/-! ### Writes -/

/-- R211, R212: a write of SCT_BZ_CFG; a sensor that is enabled starts its floor afresh. -/
def bzCfgWrite (v : Word) : Act := yes fun s =>
  let fresh := (List.range 2).filter fun n => bit v (8 * n + 7) && !bzOn s n
  let s := s.store (P.sct + 0xC0) v
  s.onSct fun x => { x with bz := x.bz.mapIdx fun n y => if fresh.contains n then Knock.reset else y }

/-- R213: the ranges of SCT_KP_k_CFG. -/
def kpOk (v : Word) : Bool :=
  let mx := getField v 23 16
  let mn := getField v 15 8
  decide (2 ≤ getField v 27 24 ∧ getField v 27 24 ≤ 8 ∧ 5 ≤ mx ∧ mx ≤ 200 ∧ 5 ≤ mn ∧ mn ≤ mx) && (!bit v 31 || getField v 29 28 != 0)

/-- The registers of the SCT page. -/
def sctWrite (off : Nat) (v : Word) : Act :=
  let inside (hi lo a b : Nat) : Bool := decide (a ≤ getField v hi lo ∧ getField v hi lo ≤ b)
  if off = 0x40 then sctCtrlWrite v
  else if off = 0x44 then sctMicWrite v
  else if off = 0x48 then (if inside 7 0 1 60 then plain (P.sct + off) v else no .range)
  else if off = 0x4C then (if inside 23 16 6 60 && inside 15 8 1 100 && inside 7 0 1 50 then plain (P.sct + off) v else no .range)
  else if 0x80 ≤ off ∧ off < 0xA0 ∧ off % 8 = 0 then slotCfgWrite ((off - 0x80) / 8) v
  else if off = 0xC0 then bzCfgWrite v
  else if off = 0xC4 then (if inside 31 24 0 100 && inside 23 16 12 80 && inside 15 8 2 50 then plain (P.sct + off) v else no .range)
  else if 0xD0 ≤ off ∧ off < 0xE0 then (if kpOk v then plain (P.sct + off) v else no .range)
  else plain (P.sct + off) v

end Sys2Proof.Machine
end

