-- ==== Sys2Proof/Machine/Apply.lean ====
section
/-! DEFINITION. What the sections of the booted image put into the part (R351, R396): DSP programs and data, phrase models,
UDP keys, cues and tone patterns. -/

namespace Sys2Proof.Machine

/-- A word that an image puts into a local memory; an address that names none is passed over. -/
def imageWord (a : Nat) (w : Word) (s : State) : State :=
  match regionOf a with
  | .local_ c off => if off < localSize c ∧ a % 4 = 0 then s.storeWord a w else s
  | _ => s

/-- R324, R396: a DSP section: its words, and what it reserves for the Keeper's services (R119, R382). -/
def applyDsp (x : List Byte) (s : State) : State :=
  let s := forEach (Config.dspWords x) (fun e s => imageWord e.1 e.2 s) s
  let s := { s with img := { s.img with zlaCore := (Config.dspZla x).or s.img.zlaCore, taps := s.img.taps ++ Config.dspTaps x } }
  match Config.dspLsv x with
  | some e => (s.setF P.lsv F.LSV_INFO_CORE e.1).setF P.lsv F.LSV_INFO_SWSRC e.2
  | none => s

/-- R324, R396: the cores that the image marks start. -/
def startCores (b : List Byte) (s : State) : State :=
  forEach ((sectionsOf b 3).flatMap Config.dspStarts) (fun c s => if c < 20 ∧ s.en (P.core c) ∧ coreSt s c = 2 then coreStart s c else s) s

/-- The bytes of the slot that is booted. -/
def bootedImage (s : State) : List Byte := imgBody (slotOf s (bootedSlot s)).bytes

/-- R324, R444: on the return to Run the Keeper reloads the cores and starts those that the image marks. In RECOVERY no
image runs. -/
def reloadCores (s : State) : State :=
  if s.sys.recovery then s
  else
    let b := bootedImage s
    startCores b (forEach (sectionsOf b 3) (fun x s => forEach (Config.dspWords x) (fun e s => imageWord e.1 e.2 s) s) s)

/-- R217, R396: the phrase models of a section, into their slots. -/
def applyModels (x : List Byte) (s : State) : State :=
  forEach (Config.phraseModels x) (fun e s => if e.1 < 4 ∧ modelCheck e.2 = .done then slotTake s e.1 e.2 else s) s

/-- R91: the UDP keys of a section. -/
def applyKeys (x : List Byte) (s : State) : State :=
  forEach (Config.udpKeys x) (fun e s => s.onUdp fun u =>
    { u with keys := { idx := e.1, key := e.2, seq := none, stored := [] } :: u.keys.filter fun k => k.idx != e.1 }) s

/-- R336, R337: the 32 bytes of a cue table entry: words 0x00-0x14 with CUE_CTRL commit it. -/
def applyCue (k : Nat) (e : List Byte) (s : State) : State :=
  let w (i : Nat) : Word := BitVec.ofNat 32 (numAt e (4 * i) 4)
  (cueCommit k (w 7) ((List.range 6).map fun i => (i, w i)) s).2

/-- R336: a section of cues: entry i is cue i. -/
def applyCues (x : List Byte) (s : State) : State :=
  forEach (List.range (min 1024 (x.length / 32))) (fun k s => applyCue k (bytesAt x (32 * k) 32) s) s

/-- R360: the 16 bytes of a tone segment. -/
def toneSegOf (e : List Byte) : ToneSeg :=
  { f1 := numAt e 0 4, f2 := numAt e 4 4, level := numAt e 8 2, dur := numAt e 10 2, silent := numAt e 12 1 == 1, ramp := numAt e 13 1 }

/-- R360: the tone patterns of a section; `n` bounds their number. -/
def tonePats : Nat → List Byte → List TonePat
  | 0, _ => []
  | _, [] => []
  | n + 1, x =>
    let k := numAt x 0 1
    { segs := (List.range k).map fun i => toneSegOf (bytesAt x (4 + 16 * i) 16), rep := numAt x 1 1 } :: tonePats n (x.drop (4 + 16 * k))

/-- R396: the sections of an image after its register script, in order; then the cores start. -/
def applySections (b : List Byte) (s : State) : State :=
  let s := forEach (sectionsOf b 3) applyDsp s
  let s := forEach (sectionsOf b 4) applyModels s
  let s := forEach (sectionsOf b 5) applyKeys s
  let s := forEach (sectionsOf b 6) applyCues s
  let s := { s with img := { s.img with tones := (sectionsOf b 7).flatMap (tonePats 255) } }
  startCores b s

end Sys2Proof.Machine
end

