-- ==== Sys2Proof/Machine/Media.lean ====
section
/-! DEFINITION. The media clock's steering source, its states and the servo (R130-R140). -/

namespace Sys2Proof.Machine

/-- CLK_MEDIA_CFG as it stands: SRC, LINK and PORT. -/
def clkCfg (s : State) : Nat × Nat × Nat :=
  (s.getF P.clk F.CLK_MEDIA_CFG_SRC, s.getF P.clk F.CLK_MEDIA_CFG_LINK, s.getF P.clk F.CLK_MEDIA_CFG_PORT)

/-- R133: TDM port `n` is configured as a steering source must be: a consumer at 48 kHz. -/
def tdmFits (s : State) (n : Nat) : Bool := s.getF (P.tdm n) F.TDM_CFG_MODE == 0 && s.getF (P.tdm n) F.TDM_CFG_RATE == 8

/-- R133: TDM port `n` is a valid steering source. -/
def tdmValid (s : State) (n : Nat) : Bool := tdmFits s n && s.st (P.tdm n) == 4

/-- R135, R178: a steering source is present. -/
def srcHere (s : State) : Nat × Nat × Nat → Bool
  | (1, l, _) => s.isSet (P.eth l) F.ETH_PTP_STAT_GOOD
  | (2, _, p) => tdmValid s p
  | _ => false

/-- CLK's state, shown in PG_STAT while the page is enabled. -/
def clkShow (s : State) : State := if s.en P.clk then s.setSt P.clk s.clk.st else s

/-- R130: the media PLL runs at an offset in ppb. -/
def setFreq (s : State) (f : Rat) : State := (s.onClk fun c => { c with freq := f }).setS P.clk F.CLK_FREQ_OFFSET (quantI f.num f.den)

/-- CLK_TRIM in ppb. -/
def trimPpb (s : State) : Rat := (s.getS P.clk F.CLK_TRIM_OFFSET : Int)

/-- R136: the mean frequency of the last 10 s. -/
def meanFreq (s : State) : Rat :=
  match s.clk.hist with
  | [] => s.clk.freq
  | l => l.foldl (· + ·) 0 / (l.length : Nat)

/-- R404, R410: a record of CLK: its state and CLK_PHASE. -/
def clkLog (s : State) (code sev : Nat) : State :=
  s.log code sev 0x0003 0 (BitVec.ofNat 8 s.clk.st :: wordBytes (s.rd (P.clk + 0x058)))

/-- R135, R149: LOCKED is left: UNLOCK is raised and counted. CLK_REF_STAT.DEV is valid only in LOCKED. -/
def clkLeave (s : State) : State :=
  if s.clk.st = 4 then ((s.bump P.clk F.CLK_UNLOCK_CNT_COUNT).raise P.clk 1).setF P.clk F.CLK_REF_STAT_DEV 0x8000 else s

/-- CLK changes state; a Waggle value taken from PTP follows (R333). -/
def clkTo (s : State) (n : Nat) : State := wagFollow (clkShow ((clkLeave s).onClk fun c => { c with st := n }))

/-- R134, R135: ACQUIRE is entered: the servo starts afresh from the present frequency; CLK_PHASE reads 0 until an update. -/
def clkAcquire (s : State) : State :=
  let here := srcHere s s.clk.sel
  let s := (clkTo s 3).setF P.clk F.CLK_PHASE_ERR 0
  s.onClk fun c => { c with seen := here, acq := false, owed := false, good := 0, integ := c.freq, hold := c.freq }

/-- R130, R135: FREE is entered: nominal plus CLK_TRIM. -/
def clkFree (s : State) : State := setFreq ((clkTo s 2).setF P.clk F.CLK_PHASE_ERR 0) (trimPpb s)

/-- R135, R140: the selected source takes effect: FREE or ACQUIRE is entered. -/
def clkSelect (s : State) : State :=
  let s := s.onClk fun c => { c with sel := clkCfg s }
  if s.clk.sel.1 = 0 then clkFree s else clkAcquire s

/-- R127, R147: after a stop of the clocks the source has not been present yet: the links have been down, the ports have not
restarted. -/
def clkUnseen (s : State) : State := s.onClk fun c => { c with seen := false }

/-- R135, R136: the source is lost: the frequency is the mean of the last 10 s. -/
def clkHoldover (s : State) : State := (setFreq (clkTo s 5) (meanFreq s)).raise P.clk 2

/-- R133, R135: what the presence of the steering source does to CLK, in Run and Idle (R146, R147). -/
def clkSource (s : State) : State :=
  if s.stopped || !awake s then s
  else if srcHere s s.clk.sel then
    (if s.clk.st = 5 ∨ s.clk.st = 6 then clkAcquire s
     else if s.clk.st = 3 then s.onClk fun c => { c with seen := true } else s)
  else if s.clk.st = 4 ∨ (s.clk.st = 3 ∧ s.clk.seen) then clkHoldover s
  else s

/-- R133: SRC_INVALID is raised when a named TDM port is not valid. -/
def clkNamed (s : State) (n : Nat) : Bool := s.getF P.clk F.CLK_MEDIA_CFG_SRC == 2 && s.getF P.clk F.CLK_MEDIA_CFG_PORT == n

/-! ### The servo -/

/-- A rational number within bounds. -/
def clampR (lo hi x : Rat) : Rat := max lo (min hi x)

/-- R134: the update of the frequency by a mean error `e` in ns. -/
def servoSteer (s : State) (e : Rat) : State :=
  let bw := s.getF P.clk F.CLK_SERVO_BW
  let slew : Rat := 1000 * (s.getF P.clk F.CLK_SERVO_SLEW : Nat)
  let integ := s.clk.integ + Config.servoKi bw * e
  let f := Config.servoKp bw * e + integ
  let f := if s.isSet P.clk F.CLK_MEDIA_CFG_SLEWING then clampR (s.clk.hold - slew) (s.clk.hold + slew) f else f
  setFreq (s.onClk fun c => { c with integ := integ }) (clampR (-200000) 200000 f)

/-- R138: the rule of CLK_MEDIA_CFG.STEP allows a step now. -/
def stepAllowed (s : State) : Bool :=
  s.getF P.clk F.CLK_MEDIA_CFG_STEP == 1 || (s.getF P.clk F.CLK_MEDIA_CFG_STEP == 0 && activeCount s == 0)

/-- R135: LOCK_TIME seconds of updates, 32 ms apart, have passed since the first of `n` successive ones. -/
def lockedLong (s : State) (n : Nat) : Bool := decide (1000 * s.getF P.clk F.CLK_LOCK_CFG_LOCK_TIME ≤ 32 * (n - 1) ∧ 0 < n)

/-- R135, R138: what the error of an update does to the state; the update that leaves LOCKED is not yet one in ACQUIRE. -/
def servoState (s : State) (e : Rat) : State :=
  if s.clk.st = 4 then (if 125 < |e| then clkAcquire s else s)
  else
    let n := if |e| ≤ 100 then s.clk.good + 1 else 0
    let s := s.onClk fun c => { c with good := n }
    if lockedLong s n then (clkTo s 4).raise P.clk 0 else s

/-- R134, R135, R138: an update with the source present. -/
def servoMeasured (s : State) (e : Rat) : State :=
  let thr : Rat := 10000 * (s.getF P.clk F.CLK_MEDIA_CFG_STEP_THR : Nat)
  let owed := decide (thr < |e|) && s.clk.st == 3 && (s.clk.owed || !s.clk.acq)
  let s := s.onClk fun c => { c with acq := true, owed := owed }
  let lim : Int := 0x7FFFFFFF
  let phase (s : State) : State := s.setS P.clk F.CLK_PHASE_ERR (max (-lim) (min lim (quantI e.num e.den)))
  if owed ∧ stepAllowed s then phase (s.onClk fun c => { c with owed := false, step := 1 })
  else servoSteer (phase (servoState s e)) e

/-- The mean of a list of errors. -/
def meanErr (l : List Int) : Rat := ((l.foldl (· + ·) 0 : Int) : Rat) / (l.length : Nat)

/-- R136: the frequency of the last 32 ms joins those of the last 10 s. -/
def freqHist (s : State) : State := s.onClk fun c => { c with hist := (c.freq :: c.hist).take 312 }

/-- R134, R135, R140: every 32 ms in Run and Idle: a changed source takes effect, and with a source present the servo
measures the block-boundary errors `errs`, in ns, and corrects. -/
def servoUpdate (errs : List Int) (s : State) : State :=
  let s := freqHist s
  let s := if s.clk.sel ≠ clkCfg s then clkSelect s else s
  let s := clkSource s
  if (s.clk.st = 3 ∨ s.clk.st = 4) ∧ srcHere s s.clk.sel ∧ s.clk.step = 0 ∧ errs ≠ [] then servoMeasured s (meanErr errs)
  else s

end Sys2Proof.Machine
end

