-- ==== Sys2Proof/Machine/NetIn.lean ====
section
/-! DEFINITION. What a received frame is: its check sequence, headers and checksums, and the function of the link that takes it
(R169, R170, R184, R189). A frame is its bytes from the destination address to the FCS, as the interface brings them. The layouts are
those of the standards that R169 names (PRESUMED, log entry 81). -/

namespace Sys2Proof.Machine

/-! ### Numbers and checksums -/

/-- `n` bytes from position `i`, read big-endian, as frames carry numbers. -/
def be (l : List Byte) (i n : Nat) : Nat := leNat ((l.drop i).take n).reverse

/-- The `n` low bytes of a number, most significant first. -/
def beBytes (n v : Nat) : List Byte := (leBytes n v).reverse

/-- The sum of the 16-bit words of a list of bytes, a last byte alone taken as the upper one. -/
def sum16 : List Byte → Nat
  | a :: b :: t => a.toNat * 256 + b.toNat + sum16 t
  | [a] => a.toNat * 256
  | [] => 0

/-- An Internet checksum over bytes that hold it is right: their ones' complement sum has every bit set. -/
def sumOk (l : List Byte) : Bool := sum16 l % 65535 == 0

/-! ### Headers -/

/-- An Ethernet II frame: destination, the VID of its tag if it has one, type, and what follows its header. -/
structure EthIn where
  dst : BitVec 48
  vid : Option Nat
  etype : Nat
  data : List Byte
deriving DecidableEq, Repr

/-- R169: where the data of a frame begins: behind its tag, if it has one. -/
def ethHead (f : List Byte) : Nat := if be f 12 2 = 0x8100 then 18 else 14

/-- R169: the header of a frame. -/
def ethIn (f : List Byte) : EthIn :=
  let h := ethHead f
  ⟨BitVec.ofNat 48 (be f 0 6), if h = 18 then some (be f 14 2 % 4096) else none, be f (h - 2) 2, (f.take (f.length - 4)).drop h⟩

/-- R170: the FCS of a frame is correct. -/
def fcsOk (f : List Byte) : Bool :=
  decide (18 ≤ f.length) && leNat (f.drop (f.length - 4)) == (crc32 (f.take (f.length - 4))).toNat

/-- An IPv4 packet: protocol, addresses, and what follows its header. -/
structure IpIn where
  proto : Nat
  src : Word
  dst : Word
  data : List Byte
deriving DecidableEq, Repr

/-- R170: an address that IPv4 packets are taken for: the link's, or a group of it. Queries also come to 224.0.0.1, which every host
belongs to (RFC 3376; DEDUCED, log entry 81). -/
def destOk (s : State) (n : Nat) (d : Word) : Bool :=
  (d == linkIp s n && d != 0) || d == 0xE0000001#32 || (groupsOf s n).any fun g => g.1 == d

/-- R170: an IPv4 packet that is no fragment, has no options, whose checksum is correct and whose destination is the device. -/
def ipIn (s : State) (n : Nat) (l : List Byte) : Option IpIn :=
  let len := be l 2 2
  let dst := BitVec.ofNat 32 (be l 16 4)
  if be l 0 1 = 0x45 ∧ 20 ≤ len ∧ len ≤ l.length ∧ be l 6 2 % 0x4000 = 0 ∧ sumOk (l.take 20) ∧ destOk s n dst then
    some ⟨be l 9 1, BitVec.ofNat 32 (be l 12 4), dst, (l.take len).drop 20⟩
  else none

/-- A UDP datagram: ports, whether its checksum is wrong (one of 0 never is), and its payload. -/
structure UdpPkt where
  sport : BitVec 16
  dport : BitVec 16
  badSum : Bool
  data : List Byte
deriving DecidableEq, Repr

/-- R169: the datagram of an IPv4 packet; the checksum covers the addresses, the protocol and the length beside it (RFC 768). -/
def udpOf (p : IpIn) : Option UdpPkt :=
  let l := p.data
  let len := be l 4 2
  if 8 ≤ len ∧ len ≤ l.length then
    let pseudo := beBytes 4 p.src.toNat ++ beBytes 4 p.dst.toNat ++ [0, 17] ++ beBytes 2 len
    some ⟨BitVec.ofNat 16 (be l 0 2), BitVec.ofNat 16 (be l 2 2), be l 6 2 != 0 && !sumOk (pseudo ++ l.take len), (l.take len).drop 8⟩
  else none

/-! ### Messages -/

/-- R184, R189: a UDP datagram taken for RTP: its addresses, whether its checksum is wrong, the RTP version, payload type, timestamp
and SSRC, and the payload after CSRC list, extension and padding. -/
structure RtpPacket where
  src : Word
  dst : Word
  dport : BitVec 16
  badSum : Bool
  version : Nat
  pt : Nat
  ts : Word
  ssrc : Word
  payload : List Byte
deriving DecidableEq, Repr

/-- R169: where the payload of an RTP packet begins: behind the CSRC list and the extension. -/
def rtpHead (l : List Byte) : Nat :=
  let c := 12 + 4 * (be l 0 1 % 16)
  if be l 0 1 / 16 % 2 = 1 then c + 4 + 4 * be l (c + 2) 2 else c

/-- R169, R184: the RTP packet of a datagram (RFC 3550); one too short for a header has no version. -/
def rtpOf (p : IpIn) (u : UdpPkt) : RtpPacket :=
  let l := u.data
  let pad := if be l 0 1 / 32 % 2 = 1 then be l (l.length - 1) 1 else 0
  { src := p.src, dst := p.dst, dport := u.dport, badSum := u.badSum, version := if l.length < 12 then 0 else be l 0 1 / 64
    pt := be l 1 1 % 128, ts := BitVec.ofNat 32 (be l 4 4), ssrc := BitVec.ofNat 32 (be l 8 4)
    payload := (l.take (l.length - pad)).drop (rtpHead l) }

/-- A PTP message received (IEEE 1588-2019): its type, domain, whether a Follow_Up comes after it, its correction in ns, source port,
number, interval, time in ns, the port whose request it answers, and the data set of an Announce. -/
structure PtpMsg where
  type : Nat
  dom : Nat
  two : Bool
  corr : Int
  port : BitVec 80
  seq : BitVec 16
  log : Int
  ts : BitVec 64
  req : BitVec 80
  ann : Announce
deriving DecidableEq, Repr

/-- The least length of a PTP message that the part takes, by its type: Sync 0, Delay_Req 1, Pdelay_Req 2, Pdelay_Resp 3, Follow_Up 8,
Delay_Resp 9, Pdelay_Resp_Follow_Up 10, Announce 11. -/
def ptpSize (type : Nat) : Option Nat :=
  match type with
  | 0 => some 44 | 1 => some 44 | 2 => some 54 | 3 => some 54 | 8 => some 44 | 9 => some 54 | 10 => some 54 | 11 => some 64
  | _ => none

/-- R174: a PTP message of version 2. -/
def ptpOf (l : List Byte) : Option PtpMsg :=
  match ptpSize (be l 0 1 % 16) with
  | none => none
  | some size =>
    if be l 1 1 % 16 = 2 ∧ size ≤ be l 2 2 ∧ be l 2 2 ≤ l.length then
      let port := BitVec.ofNat 80 (be l 20 10)
      some {
        type := be l 0 1 % 16, dom := be l 4 1, two := be l 6 1 / 2 % 2 == 1, corr := signed 64 (be l 8 8) / 65536, port := port
        seq := BitVec.ofNat 16 (be l 30 2), log := signed 8 (be l 33 1)
        ts := BitVec.ofNat 64 (be l 34 6 * 1000000000 + be l 40 4), req := BitVec.ofNat 80 (be l 44 10)
        ann := { prio1 := BitVec.ofNat 8 (be l 47 1), cls := BitVec.ofNat 8 (be l 48 1), acc := BitVec.ofNat 8 (be l 49 1)
                 var := BitVec.ofNat 16 (be l 50 2), prio2 := BitVec.ofNat 8 (be l 52 1), gm := BitVec.ofNat 64 (be l 53 8)
                 steps := BitVec.ofNat 16 (be l 61 2), sender := port } }
    else none

/-- What a received frame is for a link: not for it; with a bad FCS; discarded by a later check; with a bad UDP checksum; taken
without an effect; or a message of one of its functions. -/
inductive NetIn where
  | filtered
  | fcs
  | drop
  | csum
  | ignored
  | arp (reply : Bool) (sip : Word) (smac : BitVec 48) (tip : Word)
  | echo (src : Word) (data : List Byte)
  | igmp (v2 : Bool) (group : Word) (sources : List Word)
  | igmpOther
  | ptp (m : PtpMsg)
  | plosto (ip : Word) (port : BitVec 16) (bytes : List Byte)
  | rtp (p : RtpPacket)
deriving DecidableEq, Repr

/-- RFC 826: an ARP packet for IPv4 over Ethernet. -/
def arpOf (l : List Byte) : NetIn :=
  let op := be l 6 2
  if 28 ≤ l.length ∧ be l 0 6 = 0x000108000604 ∧ (op = 1 ∨ op = 2) then
    .arp (op == 2) (BitVec.ofNat 32 (be l 14 4)) (BitVec.ofNat 48 (be l 8 6)) (BitVec.ofNat 32 (be l 24 4))
  else .drop

/-- R172: an IGMP message: a query of version 2 or 3; queries of version 1 and other messages have no effect. -/
def igmpOf (l : List Byte) : NetIn :=
  let g := BitVec.ofNat 32 (be l 4 4)
  let srcs := be l 10 2
  if l.length < 8 ∨ !sumOk l then .drop
  else if be l 0 1 ≠ 0x11 then .igmpOther
  else if l.length = 8 then (if be l 1 1 = 0 then .igmpOther else .igmp true g [])
  else if 12 + 4 * srcs ≤ l.length then .igmp false g ((List.range srcs).map fun i => BitVec.ofNat 32 (be l (12 + 4 * i) 4))
  else .igmpOther

/-- R86: the Keeper takes Plosto datagrams on a link. -/
def plostoOn (s : State) (n : Nat) : Bool :=
  s.sys.service && s.isSet P.kpr F.KPR_UDP_CFG_EN && s.getF P.kpr F.KPR_UDP_CFG_LINKS / 2 ^ n % 2 == 1

/-- A PTP message, or nothing that the port takes. -/
def ptpOrDrop (l : List Byte) : NetIn := ((ptpOf l).map NetIn.ptp).getD .drop

/-- R86, R174, R184: a UDP datagram: PTP, Plosto, or taken for RTP. -/
def udpFor (s : State) (n : Nat) (p : IpIn) (u : UdpPkt) : NetIn :=
  if (u.dport = 319 ∨ u.dport = 320) ∧ p.dst = 0xE0000181#32 ∧ ptpOn s n 0 then (if u.badSum then .csum else ptpOrDrop u.data)
  else if u.dport = 41820 ∧ p.dst = linkIp s n ∧ plostoOn s n then (if u.badSum then .csum else .plosto p.src u.sport u.data)
  else .rtp (rtpOf p u)

/-- R169: an IPv4 packet by its protocol: ICMP, of which echo requests to the link's address are taken, IGMP or UDP. -/
def ipFor (s : State) (n : Nat) (p : IpIn) : NetIn :=
  if p.proto = 1 then
    (if be p.data 0 2 = 0x0800 ∧ 8 ≤ p.data.length ∧ sumOk p.data ∧ p.dst = linkIp s n then .echo p.src (p.data.drop 4) else .drop)
  else if p.proto = 2 then igmpOf p.data
  else if p.proto = 17 then ((udpOf p).map (udpFor s n p)).getD .drop
  else .drop

/-- R170: a destination address that the MAC takes: the link's, broadcast, that of a group, or that of IEEE 802.1AS. -/
def macTaken (s : State) (n : Nat) (d : BitVec 48) : Bool :=
  d == linkMac s n || d == 0xFFFFFFFFFFFF || d == groupMac 0xE0000001#32 || (groupsOf s n).any (fun g => groupMac g.1 == d) ||
    (ptpOn s n 1 && d == 0x0180C200000E)

/-- R170: the tag of a frame, or its absence, is as ETH_n_CFG says. -/
def tagTaken (s : State) (n : Nat) (vid : Option Nat) : Bool :=
  match vid with
  | none => true
  | some v => s.isSet (P.eth n) F.ETH_CFG_VLAN && v == s.getF (P.eth n) F.ETH_CFG_VID

/-- R166, R169, R170: what a received frame is for link `n`. Pause frames are ignored. -/
def netIn (s : State) (n : Nat) (f : List Byte) : NetIn :=
  let e := ethIn f
  if !fcsOk f then .fcs
  else if !macTaken s n e.dst then .filtered
  else if 1522 < f.length ∨ !tagTaken s n e.vid then .drop
  else if e.etype = 0x0806 then arpOf e.data
  else if e.etype = 0x0800 then ((ipIn s n e.data).map (ipFor s n)).getD .drop
  else if e.etype = 0x88F7 ∧ e.dst = 0x0180C200000E ∧ ptpOn s n 1 then ptpOrDrop e.data
  else if e.etype = 0x8808 then .ignored
  else .drop

/-- The commands that bring a received frame to its function. -/
inductive RxRow where
  | discard | arp | echo | igmp | sync | announce | delay | rtp | udp
deriving DecidableEq, Repr

/-- The command that a frame comes by. -/
def NetIn.row : NetIn → RxRow
  | .arp .. => .arp
  | .echo .. => .echo
  | .igmp .. => .igmp
  | .igmpOther => .igmp
  | .ptp m => if m.type = 0 ∨ m.type = 8 then .sync else if m.type = 11 then .announce else .delay
  | .rtp _ => .rtp
  | .plosto .. => .udp
  | .filtered => .discard
  | .fcs => .discard
  | .drop => .discard
  | .csum => .discard
  | .ignored => .discard

/-! ### Swarm -/

/-- R197: the bytes of a frame that are its payload: where they begin and end. Of an RTP packet they are its samples, of another
datagram what it carries; of any other frame what follows the Ethernet header (DESIGN CHOICE, log entry 56). -/
def payloadOf (f : List Byte) : Nat × Nat :=
  let h := ethHead f
  let d := f.drop h
  let last := f.length - 4
  if be f (h - 2) 2 = 0x0800 ∧ be d 0 1 = 0x45 ∧ be d 9 1 = 17 ∧ 28 ≤ be d 2 2 ∧ be d 2 2 ≤ d.length then
    let u := (d.take (be d 2 2)).drop 28
    let r := if be u 0 1 / 64 = 2 ∧ rtpHead u < u.length then rtpHead u else 0
    (h + 28 + r, h + be d 2 2)
  else (h, last)

/-- R197: a frame with one payload byte inverted, which a number chooses, and its FCS computed again. -/
def spoilFrame (w : Word) (f : List Byte) : List Byte :=
  let p := payloadOf f
  let g := (modifyAt (fun b => ~~~ b) (p.1 + w.toNat % max 1 (p.2 - p.1)) f).take (f.length - 4)
  g ++ wordBytes (crc32 g)

end Sys2Proof.Machine
end

