-- ==== Sys2Proof/Machine/Ptp.lean ====
section
/-! DEFINITION. The PTP port of each link (R174-R179). -/

namespace Sys2Proof.Machine

/-- ETH_n_PTP_STAT.PORT. -/
def ptpSt (s : State) (n : Nat) : Nat := s.getF (P.eth n) F.ETH_PTP_STAT_PORT

/-- Change a PTP port. -/
def onPtp (s : State) (n : Nat) (f : Ptp → Ptp) : State := s.onLink n fun l => { l with ptp := f l.ptp }

/-- R176: the portIdentity of link `n`: its clockIdentity and port number 1. -/
def ownPort (n : Nat) : BitVec 80 := Config.clockIdentity n ++ 1#16

/-- R178: the guard reports the time lost. -/
def ptpLost (s : State) (n : Nat) : State :=
  if s.isSet (P.eth n) F.ETH_PTP_STAT_GOOD then
    clkSource (((s.setF (P.eth n) F.ETH_PTP_STAT_GOOD 0).raise (P.eth n) 3).bump (P.eth n) F.ETH_PTP_LOSS_CNT_COUNT)
  else s

/-- R178: in the 802.1AS profile the time also needs asCapable. -/
def ptpCapable (s : State) (n : Nat) : Bool :=
  s.getF (P.eth n) F.ETH_PTP_CFG_PROFILE == 0 || s.isSet (P.eth n) F.ETH_PTP_STAT_ASCAP

/-- R178: the guard reports the time present. -/
def ptpGood (s : State) (n : Nat) : State :=
  if (ptpSt s n = 6 ∨ ptpSt s n = 9) ∧ linkUp s n ∧ ptpCapable s n ∧ !s.isSet (P.eth n) F.ETH_PTP_STAT_GOOD then
    clkSource ((s.setF (P.eth n) F.ETH_PTP_STAT_GOOD 1).raise (P.eth n) 2)
  else s

/-- R176-R179: the port enters a state; the guard follows. UNCALIBRATED starts its count of Syncs afresh; in MASTER the
offset and the delay read 0, and the clock runs at nominal rate. -/
def ptpTo (s : State) (n st : Nat) : State :=
  let s := s.setF (P.eth n) F.ETH_PTP_STAT_PORT st
  let s := if st = 8 then onPtp s n fun p => { p with near := 0, outliers := [], fresh := true, sync := none, ms := none } else s
  let s := if st = 6 then onPtp ((s.wr (P.eth n + 0x7C) 0).wr (P.eth n + 0x80) 0) n fun p => { p with integ := 0, rate := 0 } else s
  if st = 6 ∨ st = 9 then ptpGood s n else ptpLost s n

/-- R179: the grandmaster's identity and class; a change of identity raises GM_CHANGE. -/
def setGm (s : State) (n : Nat) (id : BitVec 64) (cls : Nat) : State :=
  let was := s.get64 (P.eth n + 0x84)
  let s := (s.set64 (P.eth n + 0x84) id).setF (P.eth n) F.ETH_PTP_STAT_GM_CLASS cls
  if was ≠ id then s.raise (P.eth n) 4 else s

/-- R176: the port is MASTER: it is its own grandmaster. -/
def ptpMaster (s : State) (n : Nat) : State :=
  ptpTo (setGm (onPtp s n fun p => { p with parent := none }) n (Config.clockIdentity n) (s.getF (P.eth n) F.ETH_PTP_BMC_CLASS)) n 6

/-- The port works: enabled, its link up. -/
def ptpRuns (s : State) (n : Nat) : Bool := s.isSet (P.eth n) F.ETH_PTP_CFG_EN && linkUp s n && netOn s

/-- R174: a message that a running port takes: of its domain, and of another port. -/
def ptpFits (s : State) (n : Nat) (m : PtpMsg) : Bool :=
  ptpRuns s n && decide (m.dom = s.getF (P.eth n) F.ETH_PTP_CFG_DOMAIN) && m.port != ownPort n

/-- The numbers that compare two masters, most significant first: the lower is the better. -/
def announceKey (a : Announce) : List Nat :=
  [a.prio1.toNat, a.cls.toNat, a.acc.toNat, a.var.toNat, a.prio2.toNat, a.gm.toNat, a.steps.toNat, a.sender.toNat]

/-- Whether a list of numbers is lower than another, the first difference deciding. -/
def lexLt : List Nat → List Nat → Bool
  | x :: xs, y :: ys => decide (x < y) || (x == y && lexLt xs ys)
  | [], _ :: _ => true
  | _, [] => false

/-- R176: the data set the link announces (ETH_n_PTP_BMC). -/
def ownSet (s : State) (n : Nat) : Announce :=
  let b := P.eth n
  { prio1 := BitVec.ofNat 8 (s.getF b F.ETH_PTP_BMC_PRIO1), cls := BitVec.ofNat 8 (s.getF b F.ETH_PTP_BMC_CLASS)
    acc := BitVec.ofNat 8 (s.getF b F.ETH_PTP_BMC_ACCURACY), var := Config.clockVariance
    prio2 := BitVec.ofNat 8 (s.getF b F.ETH_PTP_BMC_PRIO2), gm := Config.clockIdentity n, steps := 0
    sender := ownPort n }

/-- The best of the masters heard at least twice. -/
def bestHeard (l : List (Announce × Nat)) : Option Announce :=
  l.foldl (fun b e => if e.2 < 2 then b else match b with
    | none => some e.1
    | some x => if lexLt (announceKey e.1) (announceKey x) then some e.1 else b) none

/-- The port follows a master: UNCALIBRATED, unless it follows that master already. -/
def ptpFollow (s : State) (n : Nat) (a : Announce) : State :=
  let same := (s.link n).ptp.parent.map (·.sender) == some a.sender
  let s := setGm (onPtp s n fun p => { p with parent := some a }) n a.gm a.cls.toNat
  if same ∧ (ptpSt s n = 8 ∨ ptpSt s n = 9) then s else ptpTo s n 8

/-- R176: the best master clock algorithm decides: with ROLE = 0 the port follows the best master; with ROLE = 1 its own
data set competes (MASTER by way of PRE_MASTER, or PASSIVE). -/
def ptpDecide (s : State) (n : Nat) : State :=
  match bestHeard (s.link n).ptp.heard with
  | none => s
  | some e =>
    if s.getF (P.eth n) F.ETH_PTP_CFG_ROLE = 0 then ptpFollow s n e
    else if lexLt (announceKey (ownSet s n)) (announceKey e) then (if ptpSt s n = 6 ∨ ptpSt s n = 5 then s else ptpTo s n 5)
    else if s.getF (P.eth n) F.ETH_PTP_BMC_CLASS < 128 then (if ptpSt s n = 7 then s else ptpTo s n 7)
    else ptpFollow s n e

/-- An Announce message replaces or joins the masters heard. -/
def hear (a : Announce) (l : List (Announce × Nat)) : List (Announce × Nat) :=
  match l.find? fun e => e.1.sender == a.sender with
  | none => l ++ [(a, 1)]
  | some e => (l.filter fun x => x.1.sender != a.sender) ++ [(a, e.2 + 1)]

/-- R174, R176: an Announce message. -/
def ptpAnnounceIn (n : Nat) (m : PtpMsg) (s : State) : State :=
  if ptpFits s n m ∧ 4 ≤ ptpSt s n then ptpDecide (onPtp s n fun p => { p with heard := hear m.ann p.heard }) n else s

/-- ANNOUNCE_TIMEOUT (R174): no Announce for ANN_TMO intervals: LISTENING, or MASTER with ROLE = 1. -/
def execAnnounceTimeout (n : Fin 4) (s : State) : Host.Outcome State Fault Refusal :=
  if ptpRuns s n ∧ (ptpSt s n = 4 ∨ 7 ≤ ptpSt s n) then
    let s := onPtp s n fun p => { p with heard := [], parent := none }
    .next (if s.getF (P.eth n) F.ETH_PTP_CFG_ROLE = 0 then ptpTo s n 4 else ptpMaster s n)
  else .next s

/-- QUALIFICATION_TIMEOUT: PRE_MASTER ends in MASTER. -/
def execQualificationTimeout (n : Fin 4) (s : State) : Host.Outcome State Fault Refusal :=
  if ptpRuns s n ∧ ptpSt s n = 5 then .next (ptpMaster s n) else .next s

/-- R175: the hardware clock of a link, `at_` ns after the last fabric period, as a received message is stamped, and as one that is
sent is. -/
def ptpClock (s : State) (n at_ : Nat) : BitVec 64 := s.get64 (P.eth n + 0x8C) + BitVec.ofNat 64 at_
@[inherit_doc ptpClock] def rxStamp (s : State) (n at_ : Nat) : BitVec 64 :=
  ptpClock s n at_ + BitVec.ofNat 64 (s.getF (P.eth n) F.ETH_PHY_LAT_RX)
@[inherit_doc ptpClock] def txStamp (s : State) (n at_ : Nat) : BitVec 64 :=
  ptpClock s n at_ + BitVec.ofNat 64 (s.getF (P.eth n) F.ETH_PHY_LAT_TX)

/-- The link's hardware clock moved by a number of ns. -/
def ptpStep (s : State) (n : Nat) (d : Int) : State := s.set64 (P.eth n + 0x8C) (s.get64 (P.eth n + 0x8C) + BitVec.ofInt 64 d)

/-- R179: the filtered offset and its report, saturating. -/
def setOffset (s : State) (n : Nat) (x : Int) : State :=
  (onPtp s n fun p => { p with filt := x }).setS (P.eth n) F.ETH_PTP_OFFSET_NS (satS 32 x)

/-- R177: the proportional-integral law: the rate of the hardware clock that an offset asks for. -/
def ptpServo (off : Int) (p : Ptp) : Ptp :=
  let integ := p.integ + Config.ptpKi * off
  { p with integ := integ, rate := -(Config.ptpKp * off + integ) }

/-- R177, R178: an accepted Sync disciplines the hardware clock; 16 in succession within 1 us lead to SLAVE; in SLAVE the
guard reports the time present. -/
def syncAccept (s : State) (n : Nat) (off : Int) : State :=
  let p := (s.link n).ptp
  let s := setOffset (onPtp s n (ptpServo off)) n (Config.ptpFilter p.filt off)
  let near := if |off| ≤ 1000 then p.near + 1 else 0
  let s := onPtp s n fun p => { p with outliers := [], fresh := false, near := near }
  if ptpSt s n = 8 ∧ 16 ≤ near then ptpTo s n 9 else ptpGood s n

/-- R177, R178: the hardware clock steps to the master's time; a Sync that was off by more is none within 1 us. -/
def syncStep (s : State) (n : Nat) (off : Int) : State :=
  setOffset (ptpStep (onPtp s n fun p => { p with outliers := [], fresh := false, near := 0 }) n (-off)) n 0

/-- R178: whether the offsets of Syncs agree with one another within a threshold. -/
def agree (thr : Int) : List Int → Bool
  | [] => true
  | x :: t => (t.all fun y => decide (|x - y| ≤ thr)) && agree thr t

/-- R178: a Sync that is an outlier is not accepted; the fourth of four that agree is, as a jump of the master's time. -/
def syncOutlier (s : State) (n : Nat) (off thr : Int) : State :=
  let l := (off :: (s.link n).ptp.outliers).take 4
  if l.length = 4 ∧ agree thr l then ptpGood ((syncStep s n off).raise (P.eth n) 7) n
  else onPtp s n fun p => { p with outliers := l }

/-- R177-R179: a Sync has been measured: `ms` is the time from the master to the part, in ns; the offset of the hardware clock is what
exceeds the path delay. -/
def syncMeasured (s : State) (n : Nat) (ms : Int) : State :=
  let s := onPtp s n fun p => { p with sync := none, ms := some ms }
  let off := ms - ((s.rd (P.eth n + 0x80)).toNat : Int)
  let p := (s.link n).ptp
  let thr : Int := 100 * (s.getF (P.eth n) F.ETH_PTP_GUARD_OUTLIER : Nat)
  if p.fresh then (if 10000 < |off| then syncStep s n off else syncAccept s n off)
  else if thr < |off - p.filt| then syncOutlier s n off thr
  else syncAccept s n off

/-- R174, R175, R177: a Sync or Follow_Up of the master followed, its interval 2^-7 to 2^4 s. A Sync of two steps is measured when its
Follow_Up comes. -/
def ptpSyncIn (n at_ : Nat) (m : PtpMsg) (s : State) : State :=
  let p := (s.link n).ptp
  if ptpFits s n m ∧ (ptpSt s n = 8 ∨ ptpSt s n = 9) ∧ p.parent.map (·.sender) = some m.port ∧ -7 ≤ m.log ∧ m.log ≤ 4 then
    if m.type = 0 then
      let t2 := rxStamp s n at_
      if m.two then onPtp s n fun p => { p with sync := some (m.seq, t2, m.corr) }
      else syncMeasured s n ((t2 - m.ts).toInt - m.corr)
    else
      match p.sync with
      | some (q, t2, c) => if q = m.seq then syncMeasured s n ((t2 - m.ts).toInt - c - m.corr) else s
      | none => s
  else s

/-- PTP_SYNC_TIMEOUT (R178): in SLAVE, no Sync accepted for LOSS_TMO. -/
def execPtpSyncTimeout (n : Fin 4) (s : State) : Host.Outcome State Fault Refusal :=
  if ptpSt s n = 9 then .next (ptpLost s n) else .next s

/-- R174: a PTP message that a link sends, in the transport of its profile: over UDP to 224.0.1.129, event messages from and to port
319 and others 320; or by layer 2, untagged (R173). Event messages go first (R195). -/
def ptpFrame (s : State) (n : Nat) (m : PtpOut) : Sent :=
  let b := P.eth n
  let event := decide (m.type < 8)
  let f := { otherFrame s n (groupMac 0xE0000181#32) (.ptp m) with cls := 32, rank := if event then 0 else 1000 }
  if s.getF b F.ETH_PTP_CFG_PROFILE = 1 then { f with mac := 0x0180C200000E, tag := none }
  else
    let port := if event then 319#16 else 320#16
    { overUdp s n 0xE0000181#32 (s.getF b F.ETH_IPCFG_DSCP_PTP) port port f with tag := tagOf s n (s.getF b F.ETH_CFG_PCP_PTP) }

/-- A PTP message of a type with a number and a time. -/
def ptpMsg (s : State) (n type : Nat) (seq : BitVec 16) (ts : BitVec 64) (log : Int) : PtpOut :=
  { type := type, dom := s.getF (P.eth n) F.ETH_PTP_CFG_DOMAIN, seq := seq, ts := ts, corr := 0, log := log, req := 0, ann := none }

/-- R174: the interval of delay and peer-delay requests. -/
def logDly (s : State) (n : Nat) : Int := signed 4 (s.getF (P.eth n) F.ETH_PTP_CFG_LOG_DLY)

/-- R179: the mean path delay, or the neighbour propagation delay; in MASTER it reads 0. -/
def setDelay (s : State) (n : Nat) (ns : Int) : State :=
  if ptpSt s n = 6 then s else s.wr (P.eth n + 0x80) (BitVec.ofNat 32 (min 0xFFFFFFFF ns.toNat))

/-- R174: asCapable; the guard follows it. -/
def setCapable (s : State) (n : Nat) (c : Bool) : State :=
  let s := s.setF (P.eth n) F.ETH_PTP_STAT_ASCAP (b2n c)
  if c then ptpGood s n else ptpLost s n

/-- R174, R179: a peer's answer is complete: `rt` is the time that both ways took; asCapable by neighborPropDelayThresh, 800 ns. -/
def peerDelay (s : State) (n : Nat) (rt : Int) : State :=
  let s := onPtp s n fun p => { p with req := none, resp := none, lost := 0 }
  setCapable (setDelay s n (rt / 2)) n (decide (rt / 2 ≤ 800))

/-- R174: a response to the request of number `q`, sent at `t`, of the mechanism of the profile: Delay_Resp gives the mean path delay
with the last Sync; Pdelay_Resp, with its Follow_Up where one comes, the neighbour's. -/
def ptpRespIn (n at_ : Nat) (m : PtpMsg) (q : BitVec 16) (t : BitVec 64) (s : State) : State :=
  let p := (s.link n).ptp
  if m.req ≠ ownPort n ∨ m.seq ≠ q then s
  else if m.type = 9 then
    match p.ms with
    | some ms =>
      if (ptpSt s n = 8 ∨ ptpSt s n = 9) ∧ p.parent.map (·.sender) = some m.port then
        setDelay (onPtp s n fun p => { p with req := none }) n ((ms + (m.ts - t).toInt - m.corr) / 2)
      else s
    | none => s
  else if m.type = 3 then
    let t4 := rxStamp s n at_
    if m.two then onPtp s n fun p => { p with resp := some (m.seq, m.ts, t4, m.corr) } else peerDelay s n ((t4 - t).toInt - m.corr)
  else
    match p.resp with
    | some (r, t2, t4, c) => if r = m.seq then peerDelay s n ((t4 - t).toInt - (m.ts - t2).toInt - c - m.corr) else s
    | none => s

/-- R174, R179: a delay message of the mechanism of the profile: end to end by default, of peers in 802.1AS. A request is answered, end
to end by a MASTER; a response completes the delay. -/
def ptpDelayIn (n at_ : Nat) (m : PtpMsg) (s : State) : State :=
  let peer := s.getF (P.eth n) F.ETH_PTP_CFG_PROFILE == 1
  let own := ptpMsg s n
  if !ptpFits s n m ∨ peer = decide (m.type = 1 ∨ m.type = 9) then s
  else if m.type = 1 then
    (if ptpSt s n = 6 then
      sendFrame s n (ptpFrame s n { own 9 m.seq (rxStamp s n at_) (logDly s n) with corr := m.corr, req := m.port })
    else s)
  else if m.type = 2 then
    sendFrames s n [ptpFrame s n { own 3 m.seq (rxStamp s n at_) 127 with corr := m.corr, req := m.port },
      ptpFrame s n { own 10 m.seq (txStamp s n at_) 127 with req := m.port }]
  else
    match (s.link n).ptp.req with
    | some (q, t) => ptpRespIn n at_ m q t s
    | none => s

/-- R174: a MASTER sends Sync with its Follow_Up. -/
def sendSync (s : State) (n at_ : Nat) : State :=
  let q := (s.link n).ptp.seqSync
  let log := signed 4 (s.getF (P.eth n) F.ETH_PTP_CFG_LOG_SYNC)
  sendFrames (onPtp s n fun p => { p with seqSync := q + 1 }) n
    [ptpFrame s n (ptpMsg s n 0 q 0 log), ptpFrame s n (ptpMsg s n 8 q (txStamp s n at_) log)]

/-- R174, R176: a MASTER sends Announce. -/
def sendAnnounce (s : State) (n at_ : Nat) : State :=
  let q := (s.link n).ptp.seqAnn
  let m := ptpMsg s n 11 q (ptpClock s n at_) (s.getF (P.eth n) F.ETH_PTP_CFG_LOG_ANN : Nat)
  sendFrame (onPtp s n fun p => { p with seqAnn := q + 1 }) n (ptpFrame s n { m with ann := some (ownSet s n) })

/-- R174: a delay or peer-delay request is sent; in the 802.1AS profile more than nine without an answer in succession end asCapable
(allowedLostResponses of IEEE 802.1AS; PRESUMED, log entry 81). -/
def sendDelayReq (s : State) (n at_ : Nat) : State :=
  let peer := s.getF (P.eth n) F.ETH_PTP_CFG_PROFILE == 1
  let p := (s.link n).ptp
  let lost := if p.req.isSome then p.lost + 1 else p.lost
  let q := p.seqDly
  let s := onPtp s n fun p => { p with seqDly := q + 1, lost := lost, req := some (q, txStamp s n at_), resp := none }
  let s := if peer ∧ 9 < lost then setCapable s n false else s
  sendFrame s n (ptpFrame s n (ptpMsg s n (if peer then 2 else 1) q 0 127))

/-- PTP_TX_TIMER (R174): an interval ends `at_` ns after the last fabric period: Sync with its follow-up (0), Announce (1), delay or
peer-delay request (2). -/
def execPtpTimer (n : Fin 4) (k : Fin 3) (at_ : Nat) (s : State) : Host.Outcome State Fault Refusal :=
  let st := ptpSt s n
  if !ptpRuns s n then .next s
  else if k = 0 then .next (if st = 6 then sendSync s n at_ else s)
  else if k = 1 then .next (if st = 6 then sendAnnounce s n at_ else s)
  else .next (if s.getF (P.eth n) F.ETH_PTP_CFG_PROFILE = 1 ∨ st = 8 ∨ st = 9 then sendDelayReq s n at_ else s)

/-- R174: a message by its type. -/
def ptpIn (n at_ : Nat) (m : PtpMsg) (s : State) : State :=
  if m.type = 0 ∨ m.type = 8 then ptpSyncIn n at_ m s
  else if m.type = 11 then ptpAnnounceIn n m s
  else ptpDelayIn n at_ m s

/-- R174: the port starts afresh: INITIALIZING, or DISABLED with EN = 0. -/
def ptpRestart (s : State) (n : Nat) : State :=
  let s := onPtp s n fun p => { Ptp.reset with sub := p.sub }
  let s := s.setF (P.eth n) F.ETH_PTP_STAT_ASCAP 0
  ptpTo s n (if s.isSet (P.eth n) F.ETH_PTP_CFG_EN then 1 else 3)

/-- R174: the ranges of a write of ETH_n_PTP_CFG. -/
def ptpCfgOk (v : Word) : Bool :=
  let four (hi lo : Nat) : Int := signed 4 (getField v hi lo)
  decide (getField v 27 20 ≤ 127 ∧ -4 ≤ four 19 16 ∧ four 19 16 ≤ 1 ∧ getField v 15 12 ≤ 4 ∧ 2 ≤ getField v 11 8 ∧
    getField v 11 8 ≤ 10 ∧ -4 ≤ four 7 4 ∧ four 7 4 ≤ 5)

/-- R172, R174: a write of ETH_n_PTP_CFG or ETH_n_PTP_BMC. -/
def ptpWrite (n off : Nat) (v : Word) : Act := fun s =>
  if off = 0x6C ∧ !ptpCfgOk v then (.range, s)
  else (.done, regroup n (fun s => ptpRestart (s.store (P.eth n + off) v) n) s)

/-- PTP_CFG_WRITE (R174): a write of ETH_n_PTP_CFG, or of ETH_n_PTP_BMC. -/
def execPtpCfgWrite (r : Req) (n : Fin 4) (bmc : Bool) (v : Word) (s : State) : Host.Outcome State Fault Refusal :=
  let off := if bmc then 0x70 else 0x6C
  .next (hostWrite r (P.eth n + off) (ptpWrite n off v) s)

/-- R42, R176: the commit of ETH_n_PTP_TIME. -/
def ptpTimeWrite (r : Req) (n : Nat) (v : Word) : Act := fun s =>
  if ptpSt s n = 6 ∨ !s.isSet (P.eth n) F.ETH_PTP_CFG_EN then
    let t := pairValue s r (P.eth n + 0x90) v
    (.done, (s.set64 (P.eth n + 0x8C) t).dropHold r (P.eth n + 0x90))
  else (.state, s)

/-- PTP_TIME_WRITE (R42, R176): ETH_n_PTP_TIME_HI is written. -/
def execPtpTimeWrite (r : Req) (n : Fin 4) (v : Word) (s : State) : Host.Outcome State Fault Refusal :=
  .next (hostWrite r (P.eth n + 0x90) (ptpTimeWrite r n v) s)

end Sys2Proof.Machine
end

