-- ==== Sys2Proof/Machine/Links.lean ====
section
/-! DEFINITION. The Ethernet links: PHY and management bus, ARP, ICMP, IGMP (R166-R173). -/

namespace Sys2Proof.Machine

/-! ### The link -/

/-- R168: a link leaves LINKUP. -/
def linkLeave (s : State) (n : Nat) : State :=
  if linkUp s n then
    let s := (s.setSt (P.eth n) 3).raise (P.eth n) 1
    let s := if s.isSet (P.eth n) F.ETH_PTP_CFG_EN then ptpTo s n 2 else s
    txFollow (s.onLink n fun l => { l with asked := [], waiting := [] }) n
  else s

/-- R168, R171, R172, R198: a link enters LINKUP. -/
def linkEnter (s : State) (n : Nat) : State :=
  let s := ((s.setSt (P.eth n) 4).raise (P.eth n) 0).setF (P.eth n) F.ETH_LINK_REASON 0
  let s := if linkIp s n = 0 then s else sendFrame s n (arpGratuitous s n)
  let s := reportGroups s n (groupsOf s n)
  let s := if s.isSet (P.eth n) F.ETH_PTP_CFG_EN then ptpTo s n 1 else s
  txFollow s n

/-- R166, R167: a link that is not brought up, with its reason: 1 NOLINK, 2 SPEED, 3 PHY. -/
def linkNot (s : State) (n why : Nat) : State := (linkLeave s n).setF (P.eth n) F.ETH_LINK_REASON why

/-- R167: the PHY reports link: bit 2 of its register 1. -/
def phyLink (p : PhyAnswer) : Bool := p.r1.getLsbD 2

/-- R167: the mode resolved by Annex 28B of IEEE 802.3: the speed code (2: 1000 Mb/s) and full duplex of the best ability that both
ends advertise: of 1000BASE-T in registers 9 and 10, of the others in registers 4 and 5; (0, false) where there is none. -/
def phyMode (p : PhyAnswer) : Nat × Bool :=
  let both := p.r4 &&& p.r5
  if p.r9.getLsbD 9 && p.r10.getLsbD 11 then (2, true)
  else if p.r9.getLsbD 8 && p.r10.getLsbD 10 then (2, false)
  else if both.getLsbD 8 then (1, true)
  else if both.getLsbD 9 || both.getLsbD 7 then (1, false)
  else if both.getLsbD 6 then (0, true)
  else (0, false)

/-- PHY_POLL (R167, R168): every 10 ms the PHY of a link that is not STOPPED is read. A port in INITIALIZING on a link
that is up begins to listen. -/
def execPhyPoll (n : Fin 4) (a : Option PhyAnswer) (s : State) : Host.Outcome State Fault Refusal :=
  if netOn s ∧ 3 ≤ s.st (P.eth n) then
    match a with
    | none =>
      let k := (s.link n).polls + 1
      let s := s.onLink n fun l => { l with polls := min 3 k }
      if k = 3 then .next (linkNot (((s.setF (P.eth n) F.ETH_LINK_LINK 0).raise (P.eth n) 24)) n 3) else .next s
    | some p =>
      let m := phyMode p
      let s := s.onLink n fun l => { l with polls := 0 }
      let s := ((s.setF (P.eth n) F.ETH_LINK_LINK (b2n (phyLink p))).setF (P.eth n) F.ETH_LINK_FDX (b2n m.2)).setF (P.eth n)
        F.ETH_LINK_SPEED m.1
      if !phyLink p then .next (linkNot s n 1)
      else if m ≠ (2, true) then .next (linkNot s n 2)
      else if linkUp s n then .next (if ptpRuns s n ∧ ptpSt s n = 1 then ptpTo s n 4 else s)
      else .next (linkEnter s n)
  else .next s

/-- SGMII_LINK_DOWN (R167): the in-band status takes the link down. -/
def execSgmiiLinkDown (n : Fin 4) (s : State) : Host.Outcome State Fault Refusal :=
  if s.isSet (P.eth n) F.ETH_CFG_IF ∧ linkUp s n then .next (linkNot (s.setF (P.eth n) F.ETH_LINK_LINK 0) n 1) else .next s

/-- R127, R198: the links are down: those that were up look for their PHY again. -/
def linksDown (s : State) : State := forEach (List.range 4) (fun n s => linkNot' s n) s
where
  /-- One link of them. -/
  linkNot' (s : State) (n : Nat) : State := if linkUp s n then linkNot (s.setF (P.eth n) F.ETH_LINK_LINK 0) n 1 else s

/-- R168: a link stops. -/
def linkStop (s : State) (n : Nat) : State :=
  let s := (linkLeave s n).setSt (P.eth n) 2
  let s := s.onLink n fun l => { l with polls := 0, arp := [], asked := [], waiting := [], reports := [], v2 := none }
  s.wr (P.eth n + 0x60) 0

/-- R168: a write of ETH_n_CTRL. -/
def ethCtrlWrite (n : Nat) (v : Word) : Act := fun s =>
  if bit v 0 ∧ bit v 1 then (.range, s)
  else if bit v 0 then
    (if s.en (P.eth n) ∧ s.st (P.eth n) = 2 then (.done, (s.setSt (P.eth n) 3).setF (P.eth n) F.ETH_LINK_REASON 1) else (.state, s))
  else if bit v 1 then (if s.st (P.eth n) ≤ 2 then (.state, s) else (.done, linkStop s n))
  else (.done, s)

/-- ETH_UP (R168): ETH_n_CTRL is written with UP = 1. -/
def execEthUp (r : Req) (n : Fin 4) (v : Word) (s : State) : Host.Outcome State Fault Refusal :=
  .next (hostWrite r (P.eth n + 0x5C) (ethCtrlWrite n (setField v 0 0 1)) s)

/-- ETH_DOWN (R168): ETH_n_CTRL is written with DOWN = 1. -/
def execEthDown (r : Req) (n : Fin 4) (v : Word) (s : State) : Host.Outcome State Fault Refusal :=
  .next (hostWrite r (P.eth n + 0x5C) (ethCtrlWrite n (setField v 1 1 1)) s)

/-- R167: a write of ETH_n_MDIO; GO starts an access and reads 1 until it is done. -/
def mdioWrite (n : Nat) (v : Word) : Act := yes fun s =>
  let s := s.store (P.eth n + 0x64) v
  if bit v 31 then s.setF (P.eth n) F.ETH_MDIO_GO 1 else s

/-- MDIO_GO (R167): ETH_n_MDIO is written with GO = 1. -/
def execMdioGo (r : Req) (n : Fin 4) (v : Word) (s : State) : Host.Outcome State Fault Refusal :=
  .next (hostWrite r (P.eth n + 0x64) (mdioWrite n (setField v 31 31 1)) s)

/-- MDIO_DONE (R167): the access ends, with the data the PHY gave; none where no PHY answered. -/
def execMdioDone (n : Fin 4) (a : Option (BitVec 16)) (s : State) : Host.Outcome State Fault Refusal :=
  let b := P.eth n
  if s.isSet b F.ETH_MDIO_GO then
    let s := (s.setF b F.ETH_MDIO_GO 0).setF b F.ETH_MDIO_ERR (b2n a.isNone)
    let s := match a with
      | some d => if s.isSet b F.ETH_MDIO_WR then s else s.setF b F.ETH_MDIO_DATA d.toNat
      | none => s
    .next (s.raise b 6)
  else .next s

/-! ### Frames -/

/-- R170, R184: a frame addressed to the device that fails a check, or that no function accepts. -/
def dropIn (n : Nat) (s : State) : State := (s.bump (P.eth n) F.ETH_DROP_CNT_COUNT).err (P.eth n)

/-- R189: a datagram whose UDP checksum is wrong. -/
def csumIn (n : Nat) (s : State) : State := (s.bump (P.eth n) F.ETH_CSUM_CNT_COUNT).err (P.eth n)

/-- R170: a frame whose FCS is wrong. -/
def fcsIn (n : Nat) (s : State) : State := (s.bump (P.eth n) F.ETH_FCS_CNT_COUNT).err (P.eth n)

/-- The ARP cache's size, reported. -/
def arpCount (s : State) (n : Nat) : State := s.setF (P.eth n) F.ETH_LINK_ARP (s.link n).arp.length

/-- R171: the frames that waited for a next hop go to it. -/
def releaseHop (s : State) (n : Nat) (ip : Word) (mac : BitVec 48) : State :=
  let due := (s.link n).waiting.filter fun e => e.1 == ip
  let s := s.onLink n fun l => { l with waiting := l.waiting.filter fun e => e.1 != ip }
  sendFrames s n (due.map fun e => { e.2 with mac := mac })

/-- R169, R171: an entry joins the cache of 16, or replaces that of its address; the oldest makes room. -/
def arpLearn (s : State) (n : Nat) (ip : Word) (mac : BitVec 48) : State :=
  let s := s.onLink n fun l => { l with
    arp := lastOf 16 ((l.arp.filter fun e => e.ip != ip) ++ [⟨ip, mac⟩])
    asked := l.asked.filter (· != ip) }
  txFollow (releaseHop (arpCount s n) n ip mac) n

/-- R171: another station claims the link's address. -/
def arpConflict (s : State) (n : Nat) : State :=
  let s := (s.raise (P.eth n) 5).bump (P.eth n) F.ETH_CONFLICT_CNT_COUNT
  let t := (s.get64 0x006068).toNat
  let may := match (s.link n).garp with
    | none => true
    | some u => decide (u + 10000 ≤ t)
  if may then sendFrame (s.onLink n fun l => { l with garp := some t }) n (arpGratuitous s n) else s

/-- R171: an ARP request or reply of a station, for a target address. -/
def arpIn (n : Nat) (reply : Bool) (sip : Word) (smac : BitVec 48) (tip : Word) (s : State) : State :=
  let mine := tip == linkIp s n
  if linkIp s n = 0 then s
  else if sip = linkIp s n then (if smac ≠ linkMac s n then arpConflict s n else s)
  else
    let known := (s.link n).arp.any (fun e => e.ip == sip) || (s.link n).asked.contains sip
    let s := if known || (mine && !reply) then arpLearn s n sip smac else s
    if mine ∧ !reply then sendFrame s n (otherFrame s n smac (.arp true sip smac)) else s

/-- ARP_AGE (R171): a cache entry is 300 s old. -/
def execArpAge (n : Fin 4) (ip : Word) (s : State) : Host.Outcome State Fault Refusal :=
  let s := s.onLink n fun l => { l with arp := l.arp.filter fun e => e.ip != ip }
  .next (txFollow (arpCount s n) n)

/-- The next hops that enabled transmit streams of a link, or frames of its other functions, wait for. -/
def arpWanted (s : State) (n : Nat) : List Word :=
  (((List.range 32).filterMap fun j =>
    if s.isSet (P.tx j) F.STR_TX_CTRL_EN && s.getF (P.tx j) F.STR_TX_CTRL_LINK == n && txHold s j == 2 then
      nextHop s n (s.rd (P.tx j + 8)) else none) ++ (s.link n).waiting.map (·.1)).dedup

/-- ARP_RETRY (R171, R196): every 1 s, a request for each unresolved destination. -/
def execArpRetry (n : Fin 4) (s : State) : Host.Outcome State Fault Refusal :=
  if linkUp s n ∧ netOn s then
    let w := arpWanted s n
    .next (sendFrames (s.onLink n fun l => { l with asked := (l.asked ++ w).dedup }) n (w.map (arpRequest s n)))
  else .next s

/-- R169: an echo request to the link's address is answered with its data. -/
def echoIn (n : Nat) (src : Word) (data : List Byte) (s : State) : State :=
  sendIp s n src (overIp s n src 0 (otherFrame s n 0 (.echo data)))

/-- R172: the report that answers a query for a group, or for some sources of it (RFC 3376 5.2): those of the sources that the filter
admits. -/
def queryAnswer (srcs : List Word) (g : Word × List Word) : List (Word × List Word) :=
  if srcs = [] then [g]
  else match (if g.2 = [] then srcs else srcs.filter fun a => g.2.contains a) with
    | [] => []
    | l => [(g.1, l)]

/-- R172: a general query (group 0), one for a group or one for sources of a group is answered. A version 2 query begins version 2
compatibility, for the Older Version Querier Present Timeout of RFC 3376: 2 x 125 s + 10 s; what was still to be reported is
cancelled. -/
def igmpIn (n : Nat) (v2 : Bool) (group : Word) (srcs : List Word) (s : State) : State :=
  let t := (s.get64 0x006068).toNat + 260000
  let s := if v2 then s.onLink n fun l => { l with v2 := some t, reports := if igmpV2 s n then l.reports else [] } else s
  reportGroups s n (((groupsOf s n).filter fun g => group == 0 || g.1 == group).flatMap (queryAnswer srcs))

/-- IGMP_REPORT_TIMER (R172): 1 s after the join or change of a group, the second report. -/
def execIgmpReport (n : Fin 4) (g : Word) (s : State) : Host.Outcome State Fault Refusal :=
  if netOn s ∧ (s.link n).reports.contains g then
    let s := s.onLink n fun l => { l with reports := l.reports.filter (· != g) }
    .next (reportGroups s n ((groupsOf s n).filter fun x => x.1 == g))
  else .next s

/-! ### Writes -/

/-- A write of a link register refused with STATE unless the link is STOPPED. -/
def stoppedWrite (n off : Nat) (v : Word) : Act :=
  need (fun s => decide (s.st (P.eth n) ≤ 2)) .state (plain (P.eth n + off) v)

/-- R42, R168: the commit of ETH_n_MAC. -/
def ethMacWrite (r : Req) (n : Nat) (v : Word) : Act := fun s =>
  if s.st (P.eth n) ≤ 2 then
    (.done, (s.set64 (P.eth n + 0x44) ((pairValue s r (P.eth n + 0x48) v) &&& 0xFFFFFFFFFFFF#64)).dropHold r (P.eth n + 0x48))
  else (.state, s)

/-- R186: a write of ETH_BUF_CFG. -/
def bufCfgWrite (v : Word) : Act := fun s =>
  let live := (List.range 32).any fun j => s.isSet (P.rx j) F.STR_RX_CTRL_EN
  let a := P.eth 0 + 0x100
  if 27 < getField v 12 8 then (.range, s)
  else if live ∧ (regAt a).map (·.store (s.rd a) v) ≠ some (s.rd a) then (.state, s)
  else (.done, s.store a v)

/-- The registers of an ETH page, without the 64-bit pairs. -/
def ethWrite (n off : Nat) (v : Word) : Act :=
  if off = 0x40 then
    (if getField v 11 0 = 0 ∨ getField v 11 0 = 4095 then no .range else stoppedWrite n off v)
  else if off = 0x4C ∨ off = 0x50 ∨ off = 0x54 then stoppedWrite n off v
  else if off = 0x58 then (if getField v 31 24 = 0 then no .range else stoppedWrite n off v)
  else if off = 0x5C then ethCtrlWrite n v
  else if off = 0x64 then mdioWrite n v
  else if off = 0x6C ∨ off = 0x70 then ptpWrite n off v
  else if off = 0x74 then
    (if getField v 31 16 < 100 ∨ 60000 < getField v 31 16 ∨ getField v 15 0 = 0 then no .range else plain (P.eth n + off) v)
  else if off = 0x100 ∧ n = 0 then bufCfgWrite v
  else plain (P.eth n + off) v

end Sys2Proof.Machine
end

