-- ==== Sys2Proof/Machine/CombMix.lean ====
section
/-! DEFINITION. The mix of a fabric period and the sink output chain (R102, R103, R108-R117). -/

namespace Sys2Proof.Machine

/-- R16, R18: the sample a source presents: monitors carry the last mix's outputs, reserved ones zeros. -/
def sourceVal (c : Comb) (n : Nat) : Int :=
  if 0x3C0 ≤ n then (if n ≤ 0x3D7 then (alGet c.outs (0x200 + (n - 0x3C0))).getD 0 else 0)
  else (alGet c.src n).getD 0

/-- R102: one product, rounded to Q17.39. -/
def product (x : Int) (lin : Nat) : Int := roundShift (x * lin) 19

/-- R102: what an entry adds to its sink's accumulator. -/
def xpAdds (c : Comb) (e : XpEntry) : Int :=
  product (sourceVal c e.src) e.g.lin + (match e.old with
    | some o => product (sourceVal c o.1) o.2.lin
    | none => 0)

/-- R102: a sink's sum in Q17.31, before saturation. -/
def mixSum (c : Comb) (k : Nat) : Int :=
  roundShift ((c.xps.filter fun e => e.2.sink == k).foldl (fun acc e => acc + xpAdds c e.2) 0) 8

/-- R97-R101: every entry takes one step on its way. -/
def xpStep (e : XpEntry) : XpEntry := { e with g := e.g.step, old := e.old.map fun o => (o.1, o.2.step) }

/-- R97, R99, R101: the entries whose ramps had arrived are STEADY, or FREE; those that a change takes on their way again stay. -/
def xpArriveAll (c : Comb) : List (Nat × XpEntry) :=
  c.xps.filterMap fun e => if xpWaits c e.1 then some e else e.2.arrive.map fun x => (e.1, x)

/-- A sample multiplied by a gain in Q5.27; the manual does not give the rounding, which 0.0 dB does not need. -/
def scaled (x : Int) (lin : Nat) : Int := if lin = 0x8000000 then x else quantI (x * lin) 0x8000000

/-- R108: saturation to Q1.31, and whether it changed the sample. -/
def sat31 (x : Int) : Int × Nat := (satS 32 x, b2n (satS 32 x != x))

/-- R111: the 72-bit sum of a stage, rounded to Q1.31. -/
def bqSum (b : Biquad) (x : Int) : Int :=
  let c (i : Nat) : Int := (b.coef.getD i 0).toInt
  roundShift (c 0 * x + c 1 * b.x1 + c 2 * b.x2 - c 3 * b.y1 - c 4 * b.y2) 29

/-- R111: a stage after a sample whose output is `y`. -/
def bqNext (b : Biquad) (x y : Int) : Biquad := { b with x2 := b.x1, x1 := x, y2 := b.y1, y1 := y }

/-- R111: the first `n` stages in turn: the stages after it, the output, and the saturations. -/
def bqChain : Nat → List Biquad → Int → List Biquad × Int × Nat
  | 0, l, x => (l, x, 0)
  | _, [], x => ([], x, 0)
  | n + 1, b :: t, x =>
    let y := sat31 (bqSum b x)
    let rest := bqChain n t y.1
    (bqNext b x y.1 :: rest.1, rest.2.1, y.2 + rest.2.2)

/-- R116: the sample a delay of `d` reads, from the line with the newest sample first. -/
def lineAt (line : List Int) (d : Nat) : Int := line.getD d 0

/-- R115, R116: stage 5: the line takes a sample, and the read positions in use make the output. -/
def delayStage (h : SinkHid) (x : Int) : SinkHid × Int :=
  let line := x :: h.line
  match h.fade with
  | none => ({ h with line := line.take h.delay }, lineAt line h.delay)
  | some f =>
    let f := { f with i := f.i + 1 }
    let h := { h with fade := some f }
    let y := (presentTaps h).foldl (fun (a : Rat) t => a + t.weight * lineAt line t.delay) 0
    let keep := f.olds.foldl (fun m t => max m t.delay) h.delay
    ({ h with line := line.take keep }, quantI y.num y.den)

/-- R116: an uncorrectable error in granule `j` of a line: the granule reads 0. -/
def dropGranule (h : SinkHid) (j : Nat) : SinkHid :=
  { h with line := h.line.mapIdx fun i x => if i / 32 = j then 0 else x }

/-- R117: the level registers' value of silence, -150.0. -/
def silence : Int := -1500

/-- R117: the samples of a measurement window. -/
def meterLen (s : State) (k : Nat) : Nat := 480 * max 1 (s.getF (P.sink k) F.SK_MET_CFG_WIN)

/-- R5, R117: the RMS level in 0.1 dBFS of `n` samples in Q1.31 with a sum of squares `sq`, to the nearest: a full-scale sine, whose
mean square is a half, reads 0. -/
def levelRms (sq n : Nat) : Int := Fix.round (100 * log10 (2 * sq) (n * 2 ^ 62))

/-- R117: the peak level of an absolute sample, in 0.1 dB of full-scale amplitude, to the nearest. -/
def levelPeak (p : Nat) : Int := Fix.round (200 * log10 p (2 ^ 31))

/-- R117: stage 6 takes a sample; at a window's end SK_MET takes its levels (log entry 24). -/
def meterStage (s : State) (k : Nat) (y : Int) : State :=
  let h := sinkHid s k
  let sq := h.sq + (y * y).toNat
  let peak := max h.peak y.natAbs
  let n := h.cnt + 1
  if n < meterLen s k then onSink s k fun h => { h with sq := sq, cnt := n, peak := peak }
  else
    let renew := decide (h.heldPeak ≤ peak ∨ 4800 * s.getF (P.sink k) F.SK_MET_CFG_HOLD < h.heldAge + n)
    let held := if renew then peak else h.heldPeak
    let s := onSink s k fun h => { h with sq := 0, cnt := 0, peak := 0, heldPeak := held,
                                          heldAge := if renew then 0 else h.heldAge + n }
    let s := s.setS (P.sink k) F.SK_MET_RMS (if sq = 0 then silence else levelRms sq n)
    s.setS (P.sink k) F.SK_MET_PEAK (if held = 0 then silence else levelPeak held)

/-- R103: mix saturations are counted; the first raises SAT. -/
def mixSaturated (s : State) (k : Nat) : State :=
  let first := s.getF (P.sink k) F.SK_SAT_CNT_COUNT == 0
  let s := (s.bump (P.sink k) F.SK_SAT_CNT_COUNT).err P.cmb
  if first then s.raise P.cmb 1 else s

/-- R114: the coefficient 1 - exp(-1 / (tau * 48000)) of a time constant of `num / den` samples; 0 is instantaneous. -/
def smoothing (num den : Nat) : Fix := if num = 0 then Fix.one else Fix.one - expNeg den num

/-- R114: the ceiling of SK_LIM, as a fraction of full scale. -/
def ceiling (lim : Word) : Fix := pow10 (-32 * (getField lim 25 16 : Int))

/-- R114: the limiter's gain after a sample of magnitude `ax`, from its gain `g`: ATT is in 2.4 samples, REL in 480. With EN = 0 it
returns to 1 at the release rate, and is there once a sample no longer differs (log entry 74). -/
def limGain (lim : Word) (g : Fix) (ax : Nat) : Fix :=
  let rel := smoothing (480 * getField lim 15 8) 1
  if bit lim 31 then
    let t := ceiling lim
    let r := if t < ax * 2 ^ 33 then Fix.div t (ax * 2 ^ 33) else Fix.one
    g + Fix.mul (if r < g then smoothing (24 * getField lim 7 0) 10 else rel) (r - g)
  else
    let g' := g + Fix.mul rel (Fix.one - g)
    if Fix.one - g' < 2 ^ 32 then Fix.one else g'

/-- R114: stage 4: the sample out, the gain, and whether the ceiling clamp changed the sample. Bypassed with EN = 0 once g is 1. -/
def limitStage (lim : Word) (g : Fix) (x : Int) : Int × Fix × Bool :=
  if !bit lim 31 ∧ g = Fix.one then (x, g, false)
  else
    let g := limGain lim g x.natAbs
    let y := x * g
    let t := ceiling lim
    if bit lim 31 ∧ t * 2 ^ 31 < (y.natAbs : Int) then (quantI (if x < 0 then -t else t) (2 ^ 33), g, true)
    else (quantI y (2 ^ 64), g, false)

/-- R102, R108: sink `k` in one period: its mix, its chain, and its output. -/
def sinkPeriod (s : State) (k : Nat) : State × Int :=
  let s := onSink s k fun h => { h with trim := h.trim.step, zla := h.zla.step }
  let h := sinkHid s k
  let m := sat31 (mixSum s.comb k)
  let s := if m.2 = 1 then mixSaturated s k else s
  let t := sat31 (scaled m.1 h.trim.lin)
  let b := bqChain (s.getF (P.sink k) F.SK_CTRL_BQ_COUNT) h.bqs t.1
  let z := if 0x200 ≤ k ∧ k < 0x210 then sat31 (scaled b.2.1 h.zla.lin) else (b.2.1, 0)
  let l := limitStage (s.rd (P.sink k + 0x08)) h.lim z.1
  let ls := sat31 l.1
  let sats := t.2 + b.2.2 + z.2 + ls.2
  let s := (s.countN (P.sink k + 0x24) sats).countN (P.cmb + 0x020) sats
  let s := if l.2.2 then s.bump (P.sink k) F.SK_LIM_CNT_COUNT else s
  let d := delayStage { h with bqs := b.1, lim := l.2.1, quiet := if ls.1 = 0 then min 24032 (h.quiet + 1) else 0 } ls.1
  let s := onSink s k fun _ => d.1
  (meterStage s k d.2, d.2)

/-- One more sink of a period's mix, its output added to those so far. -/
def sinkInto (k : Nat) (so : State × List (Nat × Int)) : State × List (Nat × Int) :=
  let r := sinkPeriod so.1 k
  (r.1, (k, r.2) :: so.2)

/-- R97, R99, R101, R110, R116: what had arrived by the last period's end is at rest before the next. -/
def combArrive (s : State) : State :=
  let s := s.onComb fun c => { c with xps := xpArriveAll c }
  forEach (s.comb.sinks.map (·.1)) (fun k s => delayArrive (trimArrive s k) k) s

/-- R11, R15 step 5: the mix of a period, which gives the sinks' outputs of the next. With CMB disabled they are 0 (R106). -/
def combMix (s : State) : State :=
  let s := s.onComb fun c => { c with xps := c.xps.map fun e => (e.1, xpStep e.2) }
  let r := (liveSinks s).foldl (fun so k => sinkInto k so) (s, [])
  let s := r.1.onComb fun c => { c with outs := if s.en P.cmb then r.2 else [] }
  forEach (s.comb.sinks.map (·.1)) (fun k s => if (sinkHid s k).trim.slope.isSome then trimCur s k else s) s

/-- R106, R436: every ramp, crossfade, release and delay crossfade completes, of the changes accepted so far too. -/
def combSettle (s : State) : State :=
  let s := (combTake s).onComb fun c => { c with
    xps := c.xps.filterMap fun e => match e.2.st with
      | .release => none
      | _ => some (e.1, { e.2 with st := .steady, g := e.2.g.settle, old := none })
    sinks := c.sinks.map fun e => (e.1, { e.2 with trim := e.2.trim.settle, fade := none, line := e.2.line.take e.2.delay })
    outs := [] }
  forEach (s.comb.sinks.map (·.1)) (fun k s => trimCur s k) s

/-- R92, R109, R111: the Comb's tables after a CMB soft reset; source samples stay what the ports present. -/
def combClear (s : State) : State :=
  s.onComb fun c => { Comb.reset with src := c.src }

end Sys2Proof.Machine
end

