-- ==== Sys2Proof/Machine/Zla.lean ====
section
/-! DEFINITION. Zone level adaptation (R113, R119-R123), and the sink commands, whose items include its registers (R118). -/

namespace Sys2Proof.Machine

/-- The base of zone `z`'s registers; their fields' offsets are those of zone 0. -/
def zBase (z : Nat) : Nat := P.cmb + 0x20 * z

/-- R119: the sources of the microphones named in a ZLA_z_MIC word. -/
def zoneMics (w : Word) : List Nat :=
  (List.range 4).filterMap fun i =>
    let b := getField w (8 * i + 7) (8 * i)
    if 128 ≤ b ∧ b % 64 ≤ 0x27 then some (0x200 + b % 64) else none

/-- The check of a ZLA_z_MIC word. -/
def micWordOk (w : Word) : Bool :=
  (List.range 4).all fun i =>
    let b := getField w (8 * i + 7) (8 * i)
    decide (b < 128 ∨ b % 64 ≤ 0x27)

/-- The check of a ZLA_z_BAND word. -/
def bandWordOk (w : Word) : Bool :=
  decide (getField w 31 24 ≤ 200 ∧ getField w 23 16 ≤ 40 ∧ getField w 15 8 ≤ 40 ∧ getField w 7 0 ≤ 50)

/-- The check of a ZLA_z_RATE word. -/
def rateWordOk (w : Word) : Bool :=
  let u := getField w 15 8
  let d := getField w 7 0
  decide (getField w 31 24 ≤ 200 ∧ getField w 23 16 ≤ 60 ∧ 1 ≤ u ∧ u ≤ 100 ∧ 1 ≤ d ∧ d ≤ 100)

/-- The check of a ZLA_z_CFG word. -/
def cfgWordOk (w : Word) : Bool :=
  let m := getField w 26 24
  let n := getField w 15 8
  let r := getField w 7 0
  decide (1 ≤ m ∧ m ≤ 4 ∧ getField w 20 16 ≤ 16 ∧ 5 ≤ n ∧ n ≤ 80 ∧ 1 ≤ r ∧ r ≤ 12)

/-- R119: a free measurement tap: no entry into it, and not the image's. -/
def freeTap (s : State) : Option Nat :=
  ((List.range 64).map (0x3C0 + ·)).find? fun k => (contribs s k).isEmpty && !s.img.taps.contains k

/-- R119: the crosspoint of a source to a free tap at 0 dB; none if there is no tap or entry. -/
def tapOne (s : State) (src : Nat) : Option (State × Nat × Nat) :=
  match freeTap s, freeXp s with
  | some t, some k => some (xpCreate s k src t 2401 0, src, t)
  | _, _ => none

/-- R119: the crosspoints of a list of sources; all or none. -/
def tapAll : List Nat → State × List (Nat × Nat) → Option (State × List (Nat × Nat))
  | [], r => some r
  | n :: t, r => match tapOne r.1 n with
    | none => none
    | some (s, e) => tapAll t (s, r.2 ++ [e])

/-- R119: the sources tapped for any zone. -/
def tapped (s : State) : List Nat := (s.comb.zones.flatMap (·.taps)).map (·.1)

/-- What zone `z` holds. -/
def zoneAt (s : State) (z : Nat) : Zone := s.comb.zones.getD z Zone.reset

/-- Change what zone `z` holds. -/
def onZone (s : State) (z : Nat) (f : Zone → Zone) : State := s.onComb fun c => { c with zones := modifyAt f z c.zones }

/-- R120: a microphone of a zone when the zone is enabled. -/
def ZlaMic.reset : ZlaMic :=
  { taps := (List.range 2048).map Config.echoStart, down := 0, blk := [], est := 0, pm := 0, pe := 0, lost := false }

/-- R120: which of MIC0-MIC3 a ZLA_z_MIC word has in use. -/
def micsUsed (w : Word) : List (Option ZlaMic) :=
  (List.range 4).map fun i => if bit w (8 * i + 7) then some ZlaMic.reset else none

/-- R119: enable zone `z` with the microphones of a word: the checks, then its taps. -/
def zoneEnable (z : Nat) (mics : Word) (s : State) : Code × State :=
  let srcs := zoneMics mics
  if srcs = [] then (.range, s)
  else if s.img.zlaCore = none ∨ s.stopped then (.state, s)
  else
    let want := (0x3C0 + z) :: (srcs.dedup.filter fun n => !(tapped s).contains n)
    match tapAll want (s, []) with
    | none => (.full, s)
    | some (t, e) => (.done, (onZone t z fun _ => { Zone.reset with taps := e, mics := micsUsed mics }).setF (zBase z) F.ZLA_STAT_STATE 1)

/-- R113: zone `z`'s gain moves in decibels to an offset in `n` samples. -/
def zoneGain (s : State) (z : Nat) (a : Int) (n : Nat) : State :=
  onSink s (0x200 + z) fun h => { h with zla := h.zla.begin (2401 + a).toNat n }

/-- R119: the sources a zone that stays enabled still needs. -/
def zoneNeeds (s : State) (z : Nat) : List Nat :=
  if s.isSet (zBase z) F.ZLA_CFG_EN then (0x3C0 + z) :: zoneMics (s.rd (zBase z + 0x404)) else []

/-- R113, R119: disable zone `z`: the entries no other zone uses are removed, those others use pass to them, and the offset
ramps to 0 dB over 1 s. -/
def zoneDisable (z : Nat) (s : State) : State :=
  let others := (List.range 16).filter (· != z)
  let used (n : Nat) : Option Nat := others.find? fun y => (zoneNeeds s y).contains n
  let s := forEach (zoneAt s z).taps (fun e s => match used e.1 with
    | some y => onZone s y fun w => { w with taps := e :: w.taps }
    | none => releaseAll s (findXp s e.1 e.2).toList 0) s
  let s := onZone s z fun _ => Zone.reset
  let s := ((s.setF (zBase z) F.ZLA_STAT_STATE 0).setF (zBase z) F.ZLA_STAT_REASON 0)
  zoneGain s z 0 48000

/-- R119, R122: a write of ZLA_z_CFG, with the microphones it is checked against. -/
def zoneCfgWrite (z : Nat) (v mics : Word) : Act := fun s =>
  let was := s.isSet (zBase z) F.ZLA_CFG_EN
  if !cfgWordOk v then (.range, s)
  else if bit v 31 ∧ !was then
    (match zoneEnable z mics s with
     | (.done, t) => (.done, t.store (zBase z + 0x400) v)
     | (c, _) => (c, s))
  else
    let s := s.store (zBase z + 0x400) v
    (.done, if !bit v 31 ∧ was then zoneDisable z s else s)

/-- The ZLA registers of zone `z`. -/
def zoneWrite (z off : Nat) (v : Word) : Act := fun s =>
  if off = 0x00 then zoneCfgWrite z v (s.rd (zBase z + 0x404)) s
  else if off = 0x04 then (if micWordOk v then plain (zBase z + 0x404) v s else (.range, s))
  else if off = 0x08 then (if bandWordOk v then plain (zBase z + 0x408) v s else (.range, s))
  else if off = 0x0C then (if rateWordOk v then plain (zBase z + 0x40C) v s else (.range, s))
  else plain (zBase z + 0x400 + off) v s

/-- ZLA_ENABLE (R119): ZLA_z_CFG is written with EN = 1. -/
def execZlaEnable (r : Req) (z : Fin 16) (v : Word) (s : State) : Host.Outcome State Fault Refusal :=
  .next (hostWrite r (zBase z + 0x400) (zoneWrite z 0 (setField v 31 31 1)) s)

/-- ZLA_DISABLE (R119): ZLA_z_CFG is written with EN = 0. -/
def execZlaDisable (r : Req) (z : Fin 16) (v : Word) (s : State) : Host.Outcome State Fault Refusal :=
  .next (hostWrite r (zBase z + 0x400) (zoneWrite z 0 (setField v 31 31 0)) s)

/-- A write of a register of the CMB page. -/
def cmbWrite (off : Nat) (v : Word) : Act :=
  if off = 0x40 then yes fun s => s.setF P.cmb F.CMB_XP_USED_HIGH s.comb.xps.length
  else if off = 0x48 then dlyCfgWrite v
  else if off = 0x78 then bqCmdWrite v
  else if 0x400 ≤ off ∧ off < 0x600 then zoneWrite ((off - 0x400) / 0x20) (off % 0x20) v
  else plain (P.cmb + off) v

/-! ### Sink commands -/

/-- R118: ITEM 0x06: the four ZLA words, checked before any is written. -/
def zlaItem (z : Nat) (d : List Byte) : Act := fun s =>
  match toWords d with
  | [cfg, mic, band, rate] =>
    if !(micWordOk mic && bandWordOk band && rateWordOk rate) then (.range, s)
    else
      let t := ((s.store (zBase z + 0x404) mic).store (zBase z + 0x408) band).store (zBase z + 0x40C) rate
      match zoneCfgWrite z cfg mic t with
      | (.done, t) => (.done, t)
      | (c, _) => (c, s)
  | _ => (.range, s)

/-- R118: one item of SINK_SET. -/
def sinkItem (k item : Nat) (d : List Byte) : Act := fun s =>
  match item, toWords d with
  | 0, [v] => sinkCtrlWrite k v s
  | 1, [v] => (.done, trimSet s k v)
  | 2, [v] => sinkLimWrite k v s
  | 3, [v] => sinkDlyWrite k v s
  | 4, [v] => sinkMetWrite k v s
  | 5, [h, b0, b1, b2, a1, a2] =>
    if 8 ≤ getField h 7 0 ∨ 2 ≤ getField h 31 8 then (.range, s)
    else (.done, bqSet s k (getField h 7 0) [b0, b1, b2, a1, a2] (bit h 8))
  | 6, _ => if 0x200 ≤ k ∧ k < 0x210 then zlaItem (k - 0x200) d s else (.range, s)
  | _, _ => (.range, s)

/-- R118: SINK_SET. -/
def sinkSetBody (q : PlReq) (s : State) : PlAns :=
  let k := field q.payload 0 2
  let item := field q.payload 2 1
  let d := q.payload.drop 4
  if q.payload.length < 4 ∨ d.length % 4 ≠ 0 ∨ 1024 ≤ k ∨ field q.payload 3 1 ≠ 0 then nak s P.cmb .range
  else match sinkItem k item d s with
    | (.done, t) => ok t [BitVec.ofNat 8 (b2n (item == 1 && decide (maxCode < getField (BitVec.ofNat 32 (field d 0 4)) 11 0))), 0, 0, 0]
    | (c, _) => nak s P.cmb c

/-- SINK_SET (R118). -/
def execSinkSet (q : PlReq) (s : State) : Host.Outcome State Fault Refusal :=
  .next (runPlosto 0x13 q (onPage P.cmb true (sinkSetBody q)) s)

/-- The word of a Comb register, as a read gives it. -/
def combWord (s : State) (a : Nat) : Word := (combView s a).getD (if (regAt a).isSome then s.rd a else 0)

/-- `n` words from an address of the Comb. -/
def combWords (s : State) (a n : Nat) : List Byte := wordsBytes ((List.range n).map fun i => combWord s (a + 4 * i))

/-- R118: SINK_QUERY. -/
def sinkQueryBody (q : PlReq) (s : State) : PlAns :=
  let k := field q.payload 0 2
  let item := field q.payload 2 1
  if q.payload.length ≠ 4 ∨ 1024 ≤ k ∨ 1 < item ∨ field q.payload 3 1 ≠ 0 then nak s P.cmb .range
  else if item = 0 then
    ok s (combWords s (P.sink k) 16 ++ (if 0x200 ≤ k ∧ k < 0x210 then combWords s (zBase (k - 0x200) + 0x400) 8 else []))
  else ok s ((sinkHid s k).bqs.flatMap fun b => wordsBytes b.coef)

/-- SINK_QUERY (R118). -/
def execSinkQuery (q : PlReq) (s : State) : Host.Outcome State Fault Refusal :=
  .next (runPlosto 0x14 q (onPage P.cmb false (sinkQueryBody q)) s)

end Sys2Proof.Machine
end

