-- ==== Sys2Proof/Machine/Lsv.lean ====
section
/-! DEFINITION. Speaker line supervision and the depot self-test (R382-R389). -/

namespace Sys2Proof.Machine

/-- The base of channel `c`, or of self-test zone `z` at 8 bytes a zone. -/
def lineBase (c : Nat) : Nat := P.lsv + 16 * c
@[inherit_doc lineBase] def stBase (z : Nat) : Nat := P.lsv + 8 * z

/-- What channel `c` holds beside its registers. -/
def lsvLine (s : State) (c : Nat) : Line := s.lsv.lines.getD c ⟨none, 0, 0, 0, []⟩

/-- Change channel `c`. -/
def onLine (s : State) (c : Nat) (f : Line → Line) : State := s.onLsv fun l => { l with lines := modifyAt f c l.lines }

/-- LSV_c_REF.EN. -/
def supervised (s : State) (c : Nat) : Bool := s.isSet (lineBase c) F.LSV_REF_EN

/-! ### Enable and disable -/

/-- R382: SEQ3 and the ring of converter `n` as the service sets them; where the ring lies the manual does not say. -/
def lsvSeq (n : Nat) (s : State) : State :=
  let d := s.draw
  let s := d.2
  let ring := 2 ^ 31 + d.1.toNat % 31 * 2 ^ 16 + d.1.toNat / 32 % 56 * 2 ^ 8 + d.1.toNat / 2 ^ 16 % 4
  let s := (s.wr (P.madc n + 0x54) (BitVec.ofNat 32 ring)).wr (P.madc n + 0x58) 0
  let pdiv := if s.isSet (P.bst (2 * n)) F.BST_CFG_CARRIER then 4 else 3
  let s := s.wr (seqBase n 3 + 0x104) (BitVec.ofNat 32 (2 * 2 ^ 30 + 4 * n * 2 ^ 24 + pdiv * 2 ^ 16))
  let s := forEach (List.range 4) (fun j s =>
    let e := P.madc n + 0x200 + 384 + 12 * j
    let put (k smp g c : Nat) (s : State) : State := s.wr (e + 4 * k) (BitVec.ofNat 32 ((smp - 1) * 2 ^ 16 + g * 2 ^ 12 + 2 ^ 8 + c))
    put 2 4 3 (8 + j) (put 1 2 0 (4 + j) (put 0 2 0 j s))) s
  s.wr (seqBase n 3 + 0x100) (BitVec.ofNat 32 (2 ^ 31 + 2 * 2 ^ 26 + 2 ^ 25 + 2 * 2 ^ 22 + 12))

/-- R382: SEQ3 of converter `n` is removed. -/
def lsvSeqOff (n : Nat) (s : State) : State :=
  let s := s.wr (seqBase n 3 + 0x100) (regReset (seqBase n 3 + 0x100))
  let s := s.wr (seqBase n 3 + 0x104) (regReset (seqBase n 3 + 0x104))
  seqStop (forEach (List.range 32) (fun e s => s.wr (P.madc n + 0x380 + 4 * e) (regReset (P.madc n + 0x380 + 4 * e))) s) n 3

/-- R388: the page's state: OFF, RUNNING or SELFTEST; shown while it is enabled. -/
def lsvShow (s : State) : State :=
  if s.en P.lsv then
    s.setSt P.lsv (if s.lsv.test.isSome then 4 else if s.isSet P.lsv F.LSV_CFG_EN then 3 else 2)
  else s

/-- R382: the service starts. -/
def lsvStart : Act := fun s =>
  if s.getF P.lsv F.LSV_INFO_CORE = 31 ∨ !s.en P.lsv ∨ s.isSet (seqBase 0 3) F.MADC_SEQ_CFG_EN ∨ s.isSet (seqBase 1 3) F.MADC_SEQ_CFG_EN then
    (.state, s)
  else match tapAll (((List.range 8).filter (supervised s)).map (0x3C0 + ·)) (s, []) with
    | none => (.full, s)
    | some (t, e) => (.done, lsvSeq 1 (lsvSeq 0 (t.onLsv fun l => { l with taps := e })))

/-- R382: the service stops: its crosspoints and SEQ3 are removed. -/
def lsvStop (s : State) : State :=
  let s := forEach s.lsv.taps (fun e s => releaseAll s (findXp s e.1 e.2).toList 0) s
  lsvSeqOff 1 (lsvSeqOff 0 (s.onLsv fun l => { l with taps := [] }))

/-- R382, R388: a write of LSV_CFG. -/
def lsvCfgWrite (v : Word) : Act := fun s =>
  let win := getField v 27 24
  let conf := getField v 23 20
  let tol := getField v 11 8
  if win = 0 ∨ 10 < win ∨ conf = 0 ∨ 10 < conf ∨ getField v 19 12 < 5 ∨ tol = 0 then (.range, s)
  else if s.lsv.test.isSome then (.state, s)
  else
    let was := s.isSet P.lsv F.LSV_CFG_EN
    if bit v 31 ∧ !was then
      let o := lsvStart s
      if o.1 = .done then (.done, lsvShow (o.2.store (P.lsv + 0x40) v)) else o
    else
      let s := if was && !bit v 31 then lsvStop s else s
      (.done, lsvShow (s.store (P.lsv + 0x40) v))

/-- R384: a write of LSV_THR. -/
def lsvThrWrite (v : Word) : Act := fun s =>
  let t := getField v 31 24
  let o := getField v 23 16
  let i := getField v 15 0
  if t < 5 ∨ 50 < t ∨ o < 2 ∨ 20 < o ∨ i < 5 ∨ 2000 < i then (.range, s)
  else if s.lsv.test.isSome then (.state, s)
  else (.done, s.store (P.lsv + 0x44) v)

/-- R385: a channel reports NONE. -/
def lineNone (s : State) (c : Nat) : State :=
  let s := onLine s c fun l => { l with held := none, run := 0, leakRun := 0 }
  ((s.setF (lineBase c) F.LSV_STAT_VERDICT 0).setF (lineBase c) F.LSV_STAT_NLOST 0).setF (lineBase c) F.LSV_STAT_PEND 0

/-- R385, R386: a write of LSV_c_REF; it ends a learning, and begins one with LEARN set. -/
def lsvRefWrite (c : Nat) (v : Word) : Act := fun s =>
  let z := getField v 15 0
  let n := getField v 27 24
  if (z ≠ 0 ∧ (z < 100 ∨ 10000 < z)) ∨ n = 0 ∨ 8 < n then (.range, s)
  else
    let s := s.store (lineBase c + 0x80) v
    let s := onLine s c fun l => { l with learned := [] }
    let s := s.setF (lineBase c) F.LSV_STAT_LEARNING (b2n (bit v 30))
    (.done, if bit v 30 || z == 0 || !bit v 31 then lineNone s c else s)

/-- Writes of the LSV page. -/
def lsvWrite (off : Nat) (v : Word) : Act :=
  if off = 0x40 then lsvCfgWrite v
  else if off = 0x44 then lsvThrWrite v
  else if 0x80 ≤ off ∧ off < 0x100 ∧ off % 16 = 0 then lsvRefWrite ((off - 0x80) / 16) v
  else plain (P.lsv + off) v

/-- LSV_ENABLE (R382): a write of LSV_CFG with EN set. -/
def execLsvEnable (r : Req) (v : Word) (s : State) : Host.Outcome State Fault Refusal :=
  .next (hostWrite r (P.lsv + 0x40) (lsvWrite 0x40 (setField v 31 31 1)) s)

/-- LSV_DISABLE (R382): a write of LSV_CFG with EN clear. -/
def execLsvDisable (r : Req) (v : Word) (s : State) : Host.Outcome State Fault Refusal :=
  .next (hostWrite r (P.lsv + 0x40) (lsvWrite 0x40 (setField v 31 31 0)) s)

/-- LSV_LEARN (R386): a write of LSV_c_REF with LEARN set. -/
def execLsvLearn (r : Req) (c : Fin 8) (v : Word) (s : State) : Host.Outcome State Fault Refusal :=
  .next (hostWrite r (lineBase c + 0x80) (lsvWrite (0x80 + 16 * c) (setField v 30 30 1)) s)

/-! ### Windows -/

/-- R384: the condition flags of a measure against ZREF: bit 0 OPEN, 1 SHORT, 2 LEAK, 3 PARTIAL. -/
def lineFlags (s : State) (c : Nat) (m : LineMeas) : Nat :=
  let zref : Rat := 10 * s.getF (lineBase c) F.LSV_REF_ZREF
  let tol : Rat := s.getF P.lsv F.LSV_THR_TOL / 100
  let n := s.getF (lineBase c) F.LSV_REF_NSPK
  let p : Rat := if n ≤ 1 then tol else min tol (1 / (2 * n - 2))
  let z : Rat := m.z
  let open_ := decide (s.getF P.lsv F.LSV_THR_OPEN_F * zref ≤ z) ||
    decide (m.i < 50 ∧ 10 * s.getF P.lsv F.LSV_CFG_VMIN ≤ m.v)
  b2n open_ + 2 * b2n (decide (z ≤ (1 - tol) * zref)) + 4 * b2n (decide (s.getF P.lsv F.LSV_THR_ILEAK ≤ m.ignd)) +
    8 * b2n (decide ((1 + p) * zref ≤ z))

/-- R384: the verdict that a flag set reports. -/
def verdictOf (f : Nat) : Nat :=
  if f % 2 = 1 then 2 else if f / 2 % 2 = 1 then 3 else if f / 4 % 2 = 1 then 4 else if f / 8 % 2 = 1 then 5 else 1

/-- R383: why a window is not valid for impedance, as FREEZE codes it; 0 when it is valid. The coherence test does not apply
to OPEN. -/
def freezeOf (s : State) (m : LineMeas) (f : Nat) : Nat :=
  if !m.play then 2 else if m.v < 10 * s.getF P.lsv F.LSV_CFG_VMIN then 1
  else if !m.coherent && f % 2 == 0 then 4 else if !m.adc then 3 else 0

/-- R384: the parallel speakers lost. -/
def lostOf (s : State) (c z : Nat) : Nat :=
  let n := s.getF (lineBase c) F.LSV_REF_NSPK
  (roundDiv (n * z - n * (10 * s.getF (lineBase c) F.LSV_REF_ZREF) : Int) (max 1 z)).toNat

/-- R385: the flag set `f` now stands; a change of the verdict is counted, raised and recorded. -/
def lineSettle (s : State) (c f z ignd : Nat) : State :=
  let s := onLine s c fun l => { l with held := some f, leakRun := 0 }
  let v := verdictOf f
  let lost := if v = 5 then lostOf s c z % 16 else 0
  let was := s.getF (lineBase c) F.LSV_STAT_VERDICT
  let s := (s.setF (lineBase c) F.LSV_STAT_NLOST lost).setF (lineBase c) F.LSV_STAT_VERDICT v
  if was = v then s
  else
    let s := (s.bump (lineBase c) F.LSV_CHG_CNT_COUNT).raise P.lsv 0
    let s := if v = 1 then s else s.err P.lsv
    s.log 0x0070 2 0x0023 c ([BitVec.ofNat 8 c, BitVec.ofNat 8 v] ++ leBytes 2 (s.getF (lineBase c) F.LSV_MEAS_Z) ++
      leBytes 2 (min 0xFFFF ignd) ++ [BitVec.ofNat 8 lost])

/-- R385: a window that is valid for impedance gives a flag set. -/
def lineJudge (s : State) (c f : Nat) (m : LineMeas) : State :=
  let l := lsvLine s c
  let run := if l.flags = f then l.run + 1 else 1
  let s := onLine s c fun l => { l with flags := f, run := run, leakRun := 0 }
  let s := s.setF (lineBase c) F.LSV_STAT_FLAGS f
  if l.held = some f then s.setF (lineBase c) F.LSV_STAT_PEND 0
  else if s.getF P.lsv F.LSV_CFG_CONFIRM ≤ run then lineSettle (s.setF (lineBase c) F.LSV_STAT_PEND 0) c f m.z m.ignd
  else s.setF (lineBase c) F.LSV_STAT_PEND (min 15 run)

/-- R384: a window that judges IGND alone sets or clears LEAK alone, after CONFIRM of them in succession (log entry 48). -/
def lineLeak (s : State) (c f : Nat) (m : LineMeas) : State :=
  let l := lsvLine s c
  match l.held with
  | none => s
  | some h =>
    if f / 4 % 2 = h / 4 % 2 then onLine s c fun l => { l with leakRun := 0 }
    else if s.getF P.lsv F.LSV_CFG_CONFIRM ≤ l.leakRun + 1 then lineSettle s c (if h / 4 % 2 = 1 then h - 4 else h + 4) m.z m.ignd
    else onLine s c fun l => { l with leakRun := l.leakRun + 1 }

/-- R386: five values that all lie within 5 % of their mean. -/
def zAgree (l : List Nat) : Bool := l.all fun z => decide (95 * l.sum ≤ 100 * l.length * z ∧ 100 * l.length * z ≤ 105 * l.sum)

/-- R386: a valid window of a learning. -/
def lineLearn (s : State) (c z : Nat) : State :=
  let l := (lsvLine s c).learned ++ [z]
  if !zAgree l then onLine s c fun x => { x with learned := [] }
  else if l.length < 5 then onLine s c fun x => { x with learned := l }
  else
    let s := onLine s c fun x => { x with learned := [] }
    ((s.setF (lineBase c) F.LSV_REF_ZREF (quant l.sum 50)).setF (lineBase c) F.LSV_STAT_LEARNING 0).raise P.lsv 1

/-- R383: the registers of the last window. -/
def lineShow (s : State) (c fr : Nat) (m : LineMeas) : State :=
  let s := if fr = 0 then s.setF (lineBase c) F.LSV_MEAS_Z (if 655000 < m.z then 0xFFFF else quant m.z 10) else s
  let s := if m.switched then s.setF (lineBase c) F.LSV_MEAS_IGND (min 0xFFFF m.ignd) else s
  let s := if fr ≠ 0 ∧ s.getF (lineBase c) F.LSV_STAT_FREEZE = 0 then s.raise P.lsv 3 else s
  s.setF (lineBase c) F.LSV_STAT_FREEZE fr

/-- R383-R386: a window of a supervised channel. -/
def lineWindow (s : State) (c : Nat) (m : LineMeas) : State :=
  let all := lineFlags s c m
  let f := if m.coherent then all else all % 2 + 4 * (all / 4 % 2)
  let fr := freezeOf s m f
  let s := lineShow s c fr m
  if s.isSet (lineBase c) F.LSV_STAT_LEARNING then (if fr = 0 then lineLearn s c m.z else s)
  else if s.getF (lineBase c) F.LSV_REF_ZREF = 0 then s
  else if fr = 0 then lineJudge s c f m
  else if m.switched then lineLeak s c f m
  else s

/-- R385: LINE_FLT is raised while a verdict is OPEN, SHORT, LEAK or PARTIAL. -/
def lineFault (s : State) : State :=
  if (List.range 8).any fun c => decide (2 ≤ s.getF (lineBase c) F.LSV_STAT_VERDICT) then s.raise P.lsv 24 else s

/-- LSV_WINDOW (R383-R386): a window ends, with the measure of each channel. In Idle the service pauses (R388). -/
def execLsvWindow (ms : List LineMeas) (s : State) : Host.Outcome State Fault Refusal :=
  if s.st P.lsv = 3 ∧ s.sys.mode = .run then
    .next (lineFault ((ms.zipIdx).foldl (fun s e => if e.2 < 8 ∧ supervised s e.2 then lineWindow s e.2 e.1 else s) s))
  else .next s

/-! ### Self-test -/

/-- R387: the result of a zone: 1 PASS, 2 ELEC, 3 ACOUSTIC, 4 NO_MIC, 5 DISTURBED, 6 SKIPPED. -/
def zoneResult (s : State) (z r : Nat) : State :=
  let s := s.setF (stBase z) F.LSV_ST_RES_RESULT r
  if r = 6 then s
  else
    let s := s.setF P.lsv F.LSV_ST_STAT_DONE (s.getF P.lsv F.LSV_ST_STAT_DONE ||| 2 ^ z)
    if r = 1 then s else s.setF P.lsv F.LSV_ST_STAT_FAIL (s.getF P.lsv F.LSV_ST_STAT_FAIL ||| 2 ^ z)

/-- R387: the self-test ends: DONE (2) or ABORTED (3). -/
def testOver (s : State) (how : Nat) : State :=
  let s := lsvShow (s.onLsv fun l => { l with test := none })
  let s := forEach (List.range 8) (fun c s =>
    if s.getF (lineBase c) F.LSV_STAT_FREEZE = 5 then s.setF (lineBase c) F.LSV_STAT_FREEZE 0 else s) s
  (s.setF P.lsv F.LSV_ST_STAT_STATE how).raise P.lsv 2

/-- R387: the crosspoint of the sweep into a zone's sink. -/
def sweepXp (s : State) (z : Nat) : Option Nat := findXp s (s.getF P.lsv F.LSV_INFO_SWSRC) (0x200 + z)

/-- R387 steps 1 and 2: the next zone that can be tested begins; those before it are SKIPPED; none left ends the test. -/
def testNext : List Nat → State → State
  | [], s => testOver (s.onLsv fun l => { l with test := l.test.map fun t => { t with todo := [], zone := none } }) 2
  | z :: t, s =>
    if s.st (P.amp z) ≠ 4 ∨ sinkActive s (0x200 + z) ∨ 64 ≤ (contribs s (0x200 + z)).length then testNext t (zoneResult s z 6)
    else match freeXp s with
      | none => testNext t (zoneResult s z 6)
      | some k =>
        let s := xpCreate s k (s.getF P.lsv F.LSV_INFO_SWSRC) (0x200 + z) 2401 0
        let s := s.setF P.lsv F.LSV_ST_STAT_ZONE z
        s.onLsv fun l => { l with test := l.test.map fun x => { x with todo := t, zone := some (z, (contribs s (0x200 + z)).length) } }

/-- R387: START or LEARN over the zones of a mask. -/
def testBegin (learn : Bool) (mask level : Nat) (s : State) : State :=
  let zs := (List.range 8).filter fun z => mask / 2 ^ z % 2 == 1
  let s := s.wr (P.lsv + 0x4C) (BitVec.ofNat 32 (2 ^ 28 + b2n learn * 2 ^ 27))
  let s := lsvShow (s.onLsv fun l => { l with test := some ⟨learn, level, zs, none⟩ })
  let s := forEach (List.range 8) (fun c s =>
    if supervised s c then
      (if s.getF (lineBase c) F.LSV_STAT_FREEZE = 0 then s.raise P.lsv 3 else s).setF (lineBase c) F.LSV_STAT_FREEZE 5
    else s) s
  testNext zs s

/-- R387: ABORT: the sweep ramps to mute over 10 ms, its crosspoint goes, and every zone not tested is SKIPPED. -/
def testAbort (s : State) : State :=
  match s.lsv.test with
  | none => s
  | some t =>
    let now := (t.zone.map (·.1)).toList
    let s := forEach now (fun z s => releaseAll s (sweepXp s z).toList 4) s
    testOver (forEach (now ++ t.todo) (fun z s => zoneResult s z 6) s) 3

/-- R387: the result of a zone's sweep and the acoustic gain in 0.1 dB. -/
def sweepResult (s : State) (z cnt level : Nat) (m : SweepMeas) : Nat × Int × Nat :=
  let f := lineFlags s z m.line
  let verd := if freezeOf s m.line f = 0 ∧ s.getF (lineBase z) F.LSV_REF_ZREF ≠ 0 then verdictOf f else 0
  let ag := m.lvl + 10 * level
  let aref := s.getS (stBase z) F.LSV_ST_AC_AREF
  let r := if m.disturbed ∨ cnt < (contribs s (0x200 + z)).length then 5
    else if verd ≠ 1 then 2 else if !m.mic then 4
    else if ag < aref - 10 * s.getF P.lsv F.LSV_CFG_ACTOL then 3 else 1
  (r, ag, verd)

/-- SELFTEST_ZONE (R387): 2.5 s of a zone have passed, and the sweep found `m`. -/
def execSelftestZone (m : SweepMeas) (s : State) : Host.Outcome State Fault Refusal :=
  match s.lsv.test with
  | none => .next s
  | some t =>
    match t.zone with
    | none => .next s
    | some (z, cnt) =>
      let r := sweepResult s z cnt t.level m
      let s := ((s.setF (stBase z) F.LSV_ST_RES_EVERD r.2.2).setF (stBase z) F.LSV_ST_RES_Z (min 0xFFFF (quant m.line.z 10))).setS
        (stBase z) F.LSV_ST_AC_AG r.2.1
      let s := if t.learn ∧ r.2.2 = 1 ∧ m.mic then s.setS (stBase z) F.LSV_ST_AC_AREF r.2.1 else s
      .next (testNext t.todo (releaseAll (zoneResult s z r.1) (sweepXp s z).toList 0))

/-- R389: SELFTEST. -/
def selftestBody (q : PlReq) (s : State) : PlAns :=
  let op := field q.payload 0 1
  let mask := field q.payload 1 1
  let level := field q.payload 2 1
  if q.payload.length ≠ 4 ∨ 2 < op ∨ (op ≠ 1 ∧ mask = 0) ∨ level < 6 ∨ 40 < level ∨ field q.payload 3 1 ≠ 0 then nak s P.lsv .range
  else if s.st P.lsv ≠ (if op = 1 then 4 else 3) then nak s P.lsv .state
  else
    let s := if op = 1 then testAbort s else testBegin (op == 2) mask level s
    ok s (wordBytes (s.rd (P.lsv + 0x4C)))

/-- SELFTEST_START (R387): OP 0. -/
def execSelftestStart (q : PlReq) (s : State) : Host.Outcome State Fault Refusal :=
  .next (runPlosto 0x42 q (onPage P.lsv true (selftestBody q)) s)

/-- SELFTEST_LEARN (R387): OP 2. -/
def execSelftestLearn (q : PlReq) (s : State) : Host.Outcome State Fault Refusal :=
  .next (runPlosto 0x42 q (onPage P.lsv true (selftestBody q)) s)

/-- SELFTEST_ABORT (R387): OP 1. -/
def execSelftestAbort (q : PlReq) (s : State) : Host.Outcome State Fault Refusal :=
  .next (runPlosto 0x42 q (onPage P.lsv true (selftestBody q)) s)

/-- R389: LSV_QUERY. -/
def lsvQueryBody (q : PlReq) (s : State) : PlAns :=
  let c := field q.payload 0 1
  if q.payload.length ≠ 4 ∨ field q.payload 1 3 ≠ 0 ∨ (8 ≤ c ∧ c ≠ 0xFF) then nak s P.lsv .range
  else if c = 0xFF then
    ok s (wordBytes (s.rd (P.lsv + 0x40)) ++ wordBytes (s.rd (P.lsv + 0x4C)) ++
      (List.range 8).map fun c => BitVec.ofNat 8 (s.getF (lineBase c) F.LSV_STAT_VERDICT))
  else ok s ((List.range 4).flatMap fun i => wordBytes (s.rd (lineBase c + 0x80 + 4 * i)))

/-- LSV_QUERY (R389). -/
def execLsvQuery (q : PlReq) (s : State) : Host.Outcome State Fault Refusal :=
  .next (runPlosto 0x41 q (onPage P.lsv false (lsvQueryBody q)) s)

end Sys2Proof.Machine
end

