-- ==== Sys2Proof/Machine/PowerStage.lean ====
section
/-! DEFINITION. The speaker channels and the boost converters (chapter 10): what a write of their registers does, the
events of R256-R278, AMP_CLEAR (R282), and what each fabric sample does to a channel and its boost. -/

namespace Sys2Proof.Machine

/-! ### Writes -/

/-- R266: a write of AMP_n_CFG: refused with STATE outside OFF. -/
def ampCfgWrite (n : Nat) (v : Word) : Act := fun s =>
  let ok (hi lo a b : Nat) : Bool := decide (a ≤ getField v hi lo ∧ getField v hi lo ≤ b)
  if !(ok 25 16 100 400 && ok 15 9 5 100 && ok 7 1 40 100) then (.range, s)
  else if !ampOff s n then (.state, s)
  else (.done, s.store (P.amp n + 0x40) v)

/-- R272: a channel leaves LATCHED: its window is emptied, and it starts if EN = 1. -/
def ampClear (s : State) (n : Nat) : State :=
  let s := (setRetries s n []).setF (P.amp n) F.PG_STAT_FAULT 0
  if s.isSet (P.amp n) F.AMP_CTRL_EN then ampBegin (s.onAmp n fun a => { a with recover := true, counting := false }) n
  else ampToOff s n

/-- R266-R268, R272, R278: a write of AMP_n_CTRL. While PWRFAIL_N is low EN and MUTE are stored, and take effect after it. -/
def ampCtrlWrite (n : Nat) (v : Word) : Act := fun s =>
  let on := bit v 0
  let was := s.isSet (P.amp n) F.AMP_CTRL_EN
  let wasMute := s.isSet (P.amp n) F.AMP_CTRL_MUTE
  if bit v 2 ∧ s.st (P.amp n) ≠ 10 then (.state, s)
  else if on ∧ !was ∧ (!s.en (P.amp n) ∨ !s.en (P.bst (n / 2))) then (.state, s)
  else
    let s := s.store (P.amp n + 0x44) v
    if !s.sys.pwrFailN ∧ !bit v 2 then (.done, s) else
    let s := if bit v 1 ∧ !wasMute then ampMute s n muteHost else if !bit v 1 ∧ wasMute then ampUnmute s n muteHost else s
    if bit v 2 then (.done, ampClear (s.setF (P.amp n) F.AMP_CTRL_CLR 1) n)
    else if on ∧ !was ∧ s.st (P.amp n) = 2 then (.done, ampBegin s n)
    else if !on ∧ was then (.done, ampStop s n)
    else (.done, s)

/-- R275: a write of AMP_n_LIMIT. -/
def ampLimitWrite (n : Nat) (v : Word) : Act := fun s =>
  let tau := getField v 23 16
  let plim := getField v 15 0
  if tau < 1 ∨ 60 < tau ∨ plim < 10 ∨ 1500 < plim then (.range, s) else (.done, s.store (P.amp n + 0x60) v)

/-- R276: a write of AMP_n_THERM. -/
def ampThermWrite (n : Nat) (v : Word) : Act := fun s =>
  if getField v 7 0 < 110 ∨ 140 < getField v 7 0 then (.range, s) else (.done, s.store (P.amp n + 0x64) v)

/-- The registers of an AMP page. -/
def ampWrite (n off : Nat) (v : Word) : Act :=
  if off = 0x40 then ampCfgWrite n v else if off = 0x44 then ampCtrlWrite n v else if off = 0x60 then ampLimitWrite n v
  else if off = 0x64 then ampThermWrite n v else plain (P.amp n + off) v

/-- R263, R284: a write of BST_n_CFG. -/
def bstCfgWrite (p : Nat) (v : Word) : Act := fun s =>
  if getField v 21 20 = 3 ∨ 96 < getField v 6 0 then (.range, s)
  else if !pairOff s p then (.state, s)
  else (.done, s.store (P.bst p + 0x40) v)

/-- R262: a write of BST_n_RAIL. -/
def bstRailWrite (p : Nat) (v : Word) : Act := fun s =>
  let hi := getField v 25 16
  let lo := getField v 9 0
  if hi < 100 ∨ 400 < hi ∨ lo < 100 ∨ 400 < lo ∨ hi < lo then (.range, s) else (.done, s.store (P.bst p + 0x44) v)

/-- R262: a write of BST_n_TRACK. -/
def bstTrackWrite (p : Nat) (v : Word) : Act := fun s =>
  let ok (hi lo a b : Nat) : Bool := decide (a ≤ getField v hi lo ∧ getField v hi lo ≤ b)
  if ok 31 24 5 50 && ok 23 16 1 255 && ok 15 8 1 255 && ok 7 0 5 50 then (.done, s.store (P.bst p + 0x48) v) else (.range, s)

/-- R264: a boost fault is cleared: the boost is OFF, and its channels with EN = 1 start again. -/
def boostClear (s : State) (p : Nat) : State :=
  let s := ((s.setSt (P.bst p) 2).setF (P.bst p) F.BST_STAT_FLT 0).setF (P.bst p) F.PG_STAT_FAULT 0
  ampUnblock (ampUnblock s (2 * p)) (2 * p + 1)

/-- R264: a write of BST_n_CTRL. -/
def bstCtrlWrite (p : Nat) (v : Word) : Act := fun s =>
  if !bit v 0 then (.done, s) else if s.st (P.bst p) ≠ 7 then (.state, s) else (.done, boostClear s p)

/-- The registers of a BST page. -/
def bstWrite (p off : Nat) (v : Word) : Act :=
  if off = 0x40 then bstCfgWrite p v else if off = 0x44 then bstRailWrite p v else if off = 0x48 then bstTrackWrite p v
  else if off = 0x54 then bstCtrlWrite p v else plain (P.bst p + off) v

/-- AMP_START: AMP_n_CTRL is written with EN = 1. -/
def execAmpStart (r : Req) (n : Fin 8) (v : Word) (s : State) : Host.Outcome State Fault Refusal :=
  .next (hostWrite r (P.amp n + 0x44) (ampCtrlWrite n (setField v 0 0 1)) s)

/-- AMP_STOP: AMP_n_CTRL is written with EN = 0. -/
def execAmpStop (r : Req) (n : Fin 8) (v : Word) (s : State) : Host.Outcome State Fault Refusal :=
  .next (hostWrite r (P.amp n + 0x44) (ampCtrlWrite n (setField v 0 0 0)) s)

/-- AMP_MUTE: AMP_n_CTRL is written with MUTE = 1. -/
def execAmpMute (r : Req) (n : Fin 8) (v : Word) (s : State) : Host.Outcome State Fault Refusal :=
  .next (hostWrite r (P.amp n + 0x44) (ampCtrlWrite n (setField v 1 1 1)) s)

/-- AMP_UNMUTE: AMP_n_CTRL is written with MUTE = 0. -/
def execAmpUnmute (r : Req) (n : Fin 8) (v : Word) (s : State) : Host.Outcome State Fault Refusal :=
  .next (hostWrite r (P.amp n + 0x44) (ampCtrlWrite n (setField v 1 1 0)) s)

/-- AMP_CLR: AMP_n_CTRL is written with CLR = 1. -/
def execAmpClr (r : Req) (n : Fin 8) (v : Word) (s : State) : Host.Outcome State Fault Refusal :=
  .next (hostWrite r (P.amp n + 0x44) (ampCtrlWrite n (setField v 2 2 1)) s)

/-- BOOST_CLR: BST_n_CTRL is written with CLR = 1. -/
def execBoostClr (r : Req) (p : Fin 4) (s : State) : Host.Outcome State Fault Refusal :=
  .next (hostWrite r (P.bst p + 0x54) (bstCtrlWrite p 1) s)

/-! ### Starts and stops -/

/-- AMP_START_DONE (R267): 27 ms after the boost had its rail. -/
def execAmpStartDone (n : Fin 8) (s : State) : Host.Outcome State Fault Refusal :=
  if s.st (P.amp n) = 3 ∧ railUp s (n / 2) then
    let s := (s.setF (P.amp n) F.AMP_CTRL_CLR 0).raise (P.amp n) 0
    let s := s.onAmp n fun a => { a with age := 1296, cm := 960, gain := Fader.at (if ampMutes s n = 0 then 1 else 0) }
    if ampMutes s n = 0 then .next (ampPlay s n) else .next ((s.setSt (P.amp n) 6).raise (P.amp n) 1)
  else .next s

/-- R34, R35, R278: the channel is to run: EN = 1, on a page that is enabled and not in soft reset. -/
def ampWanted (s : State) (n : Nat) : Bool :=
  s.isSet (P.amp n) F.AMP_CTRL_EN && s.en (P.amp n) && !s.isSet (P.amp n) F.PG_CTRL_SRST

/-- Whether a channel that has come to OFF starts again at once (R278: EN set during the stop). -/
def ampAgain (s : State) (n : Nat) : Bool :=
  ampWanted s n && s.en (P.bst (n / 2)) && s.sys.pwrFailN && s.domOn .power && s.sys.entry.isNone && s.sys.resetPending.isNone

/-- AMP_STOP_DONE (R267): the gates are off at 25 ms. -/
def execAmpStopDone (n : Fin 8) (s : State) : Host.Outcome State Fault Refusal :=
  if s.st (P.amp n) = 7 ∧ !(s.amp n).fast then
    let s := ampToOff s n
    if ampAgain s n then .next (ampBegin s n) else .next s
  else .next s

/-- FAST_STOP_DONE (R268): the gates are off at 5 ms, and what caused the fast stop takes effect. -/
def execFastStopDone (n : Fin 8) (s : State) : Host.Outcome State Fault Refusal :=
  if s.st (P.amp n) = 7 ∧ (s.amp n).fast then
    let k := (s.amp n).after
    let en := ampWanted s n
    let s := (ampDark s n).onAmp n fun a => { a with fast := false, after := .off }
    match k with
    | .latched => .next ((s.setSt (P.amp n) 10).setF (P.amp n) F.PG_STAT_FAULT 1)
    | .retry => if en then .next ((s.setSt (P.amp n) 8).raise (P.amp n) 6) else .next (ampToOff s n)
    | .blocked =>
      if !en then .next (ampToOff s n)
      else if ampCause s n = 0 then .next (ampBegin (s.onAmp n fun a => { a with recover := true }) n)
      else .next (ampBlock s n (ampCause s n))
    | .off =>
      let s := ampToOff s n
      if ampAgain s n then .next (ampBegin s n) else .next s
  else .next s

/-- AMP_MUTE_DONE (R267): a mute ramp ends. -/
def execAmpMuteDone (n : Fin 8) (s : State) : Host.Outcome State Fault Refusal :=
  if s.st (P.amp n) = 5 ∧ ampMutes s n ≠ 0 then
    .next (((s.onAmp n fun a => { a with gain := Fader.at 0 }).setSt (P.amp n) 6).raise (P.amp n) 1)
  else .next s

/-! ### Protection of a channel -/

/-- AMP_CURRENT_LIMIT (R270): a run of limited periods; the first after 100 ms (4,800 fabric periods) without one raises ILIM. -/
def execAmpLimitRun (n : Fin 8) (s : State) : Host.Outcome State Fault Refusal :=
  if ampLive s n then
    let calm := (s.amp n).calm
    let s := (s.bump (P.amp n) F.AMP_ILIM_CNT_COUNT).onAmp n fun a => { a with calm := 0 }
    .next (if 4800 ≤ calm then s.raise (P.amp n) 3 else s)
  else .next s

/-- R271: the class of a short: 0 LOAD, 1 GROUND, 2 SUPPLY, 3 UNKNOWN. -/
def tripClass (t : TripRead) : Nat :=
  let below (l : LegRead) : Bool := match l.hi with
    | some v => decide (10 * v < t.rail)
    | none => false
  let above (l : LegRead) : Bool := match l.lo with
    | some v => decide (90 * t.rail < 100 * v)
    | none => false
  if below t.p || below t.n then 1 else if above t.p || above t.n then 2
  else if t.driven && decide (10 * t.diff < t.vstar) then 0 else 3

/-- R271, R272: a trip of a channel: kind (LASTFLT), class, peak current, leg voltages. A fourth trip within the window
latches it; EN = 0, a disabled page or a soft reset cancels the retry. -/
def ampTrip (s : State) (n kind cls peak vp vn : Nat) : State :=
  let a := P.amp n
  let s := (((s.setF a F.AMP_STAT_LASTFLT kind).setF a F.AMP_STAT_CLASS cls).setF a F.AMP_STAT_BLOCK 0)
  let s := ((s.setF a F.AMP_TRIP_IPK peak).setF a F.AMP_TRIP_VP vp).setF a F.AMP_TRIP_VN vn
  let rec_ := [BitVec.ofNat 8 kind, BitVec.ofNat 8 cls] ++ leBytes 2 peak ++ [BitVec.ofNat 8 vp, BitVec.ofNat 8 vn]
  let s := ((s.bump a F.AMP_TRIP_CNT_COUNT).err a).log 0x0050 3 0x0020 n rec_
  let s := s.raise a (if kind = 3 then 28 else 24)
  let s := (ampDark s n).onAmp n fun h => { h with fast := false, after := .off, due := false, counting := false }
  let s := setRetries s n (retriesNow s n)
  if 3 ≤ (retriesNow s n).length then
    (((s.setSt a 10).setF a F.PG_STAT_FAULT 1).raise a 25).log 0x0051 4 0x0020 n rec_
  else if ampWanted s n then (s.setSt a 8).raise a 6
  else ampToOff s n

/-- AMP_TRIP (R271): 16 limited periods (`hard` false) or 12 A (`hard` true). -/
def execAmpTrip (n : Fin 8) (hard : Bool) (t : TripRead) (s : State) : Host.Outcome State Fault Refusal :=
  if ampLive s n then
    .next (ampTrip s n (if hard then 2 else 1) (tripClass t) t.peak.toNat t.vp.toNat t.vn.toNat)
  else .next s

/-- R271, R273: a trip that is no short: its peak is that of the last 100 ms and its leg voltages are what they stand at,
which are free values. -/
def ampTripOther (s : State) (n kind : Nat) : State :=
  let (w, s) := s.draw
  ampTrip s n kind 3 (s.getF (P.amp n) F.AMP_POWER_IPK) (getField w 7 0) (getField w 15 8)

/-- R272, R273: a channel in RETRY starts again: a retry of a trip counts in the window. -/
def ampRetry (s : State) (n : Nat) : State :=
  ampBegin (s.onAmp n fun a => { a with recover := true, counting := true }) n

/-- AMP_RETRY (R272, R273, R278): 500 ms after a trip. A channel tripped by the link waits for it; with PWRFAIL_N low the
retry waits. -/
def execAmpRetry (n : Fin 8) (s : State) : Host.Outcome State Fault Refusal :=
  if s.st (P.amp n) = 8 ∧ s.getF (P.amp n) F.AMP_STAT_LASTFLT ≠ 6 then
    if !s.sys.pwrFailN ∨ s.an.linkLost then .next (s.onAmp n fun a => { a with due := true })
    else .next (ampRetry s n)
  else .next s

/-- AMP_DC_FAULT (R274): DC, in 10 mV, above DC_THR for 200 ms. -/
def execAmpDcFault (n : Fin 8) (dc : BitVec 16) (s : State) : Host.Outcome State Fault Refusal :=
  let a := P.amp n
  if ampOn s n ∧ s.isSet a F.AMP_CFG_DCPROT then
    let s := (((s.setF a F.AMP_STAT_LASTFLT 5).bump a F.AMP_DC_CNT_COUNT).err a).raise a 26
    .next ((ampFast s n .latched).log 0x0052 4 0x0020 n (leBytes 2 dc.toNat))
  else .next s

/-- LOOPSAT (R260): the correction has stayed at its limit for 48 samples: the episode is counted, once. -/
def execLoopsat (n : Fin 8) (s : State) : Host.Outcome State Fault Refusal :=
  let l := (s.amp n).loop
  if ampOn s n ∧ s.isSet (P.amp n) F.AMP_CFG_LOOP ∧ 48 ≤ l.satRun ∧ !l.told then
    let s := s.onAmp n fun a => { a with loop := { a.loop with told := true } }
    .next ((s.bump (P.amp n) F.AMP_LOOPSAT_CNT_COUNT).raise (P.amp n) 5)
  else .next s

/-- SENSE_OPEN (R260): the sensed output has been below 2 % of v* for 480 samples: c is 0 until it recovers. -/
def execSenseOpen (n : Fin 8) (s : State) : Host.Outcome State Fault Refusal :=
  if ampOn s n ∧ s.isSet (P.amp n) F.AMP_CFG_LOOP ∧ 480 ≤ (s.amp n).loop.lowRun ∧ !(s.amp n).senseOpen then
    .next ((s.onAmp n fun a => { a with senseOpen := true, loop := { a.loop with corr := 0 } }).raise (P.amp n) 5)
  else .next s

/-- SENSE_RECOVER (R260): the sense has agreed with v* for 480 samples. -/
def execSenseRecover (n : Fin 8) (s : State) : Host.Outcome State Fault Refusal :=
  .next (if 480 ≤ (s.amp n).loop.agreeRun then s.onAmp n fun a => { a with senseOpen := false } else s)

/-- R276: LIMITING follows the sum of the attenuations, and is raised when it becomes 1. -/
def limiting (s : State) (n : Nat) : State :=
  let a := P.amp n
  let was := s.isSet a F.AMP_STAT_LIMITING
  let now := decide (3000 ≤ (s.amp n).pAtt + (s.amp n).thAtt + s.an.dieAtt)
  let s := s.setF a F.AMP_STAT_LIMITING (b2n now)
  let s := s.setF a F.AMP_PROT_PLIM_ATT (quant (s.amp n).pAtt 100)
  let s := s.setF a F.AMP_PROT_TH_ATT (quant (s.amp n).thAtt 100)
  let s := s.setF a F.AMP_PROT_DIE_ATT (quant s.an.dieAtt 100)
  if now && !was then s.raise a 4 else s

/-- R275: the power-limit attenuation after one update. -/
def powerAtt (en : Bool) (pavg : Rat) (plim att : Nat) : Nat :=
  if en ∧ (plim : Rat) / 10 < pavg then min (att + 3) 20000
  else if pavg < (plim : Rat) * 9 / 100 then att - 1
  else att

/-- POWER_LIMIT_UPDATE (R275): every 1 ms, from the mean of the last 48 powers in microwatts, and the highest leg current
of the last 100 ms in 10 mA. -/
def execPowerLimitUpdate (n : Fin 8) (pm : Int) (ipk : BitVec 16) (s : State) : Host.Outcome State Fault Refusal :=
  let a := P.amp n
  let old := (s.amp n).pavg
  let pavg := old + ((pm : Rat) / 1000000 - old) / (1000 * (s.getF a F.AMP_LIMIT_TAU : Rat))
  let att := powerAtt (s.isSet a F.AMP_LIMIT_EN) pavg (s.getF a F.AMP_LIMIT_PLIM) (s.amp n).pAtt
  let s := s.onAmp n fun h => { h with pavg := pavg, pAtt := att }
  let s := (s.setF a F.AMP_POWER_PAVG (quantR (pavg * 10))).setF a F.AMP_POWER_IPK ipk.toNat
  .next (limiting s n)

/-- R276: an attenuation moves towards its target: at most 0.006 dB up or 0.001 dB down in 1 ms. -/
def moveAtt (cur goal : Nat) : Nat := if cur < goal then min goal (cur + 6) else max goal (cur - 1)

/-- R276: 2 dB for each degree above a limit, 0-20 dB, from temperatures in 0.1 degree; in 0.001 dB. -/
def foldTarget (t limit : Int) : Nat := min 20000 ((t - limit) * 200).toNat

/-- R276: the target of the die attenuation, from the mean of the eight sensors. -/
def dieTarget (sum : Int) : Nat := min 20000 ((sum - 8 * 1300) * 25).toNat

/-- R277, R452: a power-die sensor at 158 degrees asks for a device reset with cause THERM (SYS_RST_CAUSE bit 5). -/
def dieReset (s : State) (t : Int) : State :=
  if 1580 ≤ t ∧ s.sys.resetPending = none then s.resetAsk 5 else s

/-- THERMAL_UPDATE (R276): every 1 ms, from the eight channel sensors in 0.1 degree. -/
def execThermalUpdate (t : List (BitVec 16)) (s : State) : Host.Outcome State Fault Refusal :=
  let temp (n : Nat) : Int := (t.getD n 0).toInt
  let sum := ((List.range 8).map temp).foldl (· + ·) 0
  let s := s.onAn fun a => { a with dieAtt := moveAtt a.dieAtt (dieTarget sum) }
  let mean := if sum % 8 = 0 then sum / 8 else sum / 8 + (if Config.roundUp sum 8 then 1 else 0)
  .next (forEach (List.range 8) (fun n s =>
    let s := s.onAmp n fun a => { a with thAtt := moveAtt a.thAtt (foldTarget (temp n) (10 * (s.getF (P.amp n) F.AMP_THERM_TFOLD : Nat))) }
    let s := (s.setS (P.amp n) F.AMP_TEMP_DIE mean).setS (P.amp n) F.AMP_TEMP_CH (temp n)
    dieReset (limiting s n) (temp n)) s)

/-- AMP_OVER_TEMP (R277): a channel's sensor, in 0.1 degree, has reached 145 degrees. -/
def execAmpOverTemp (n : Fin 8) (t : BitVec 16) (s : State) : Host.Outcome State Fault Refusal :=
  let a := P.amp n
  let s := s.setS a F.AMP_TEMP_CH t.toInt
  if ampOn s n ∧ 1450 ≤ t.toInt then
    let s := (((s.setF a F.AMP_STAT_LASTFLT 6).bump a F.AMP_OT_CNT_COUNT).err a).raise a 27
    .next (dieReset ((ampFast s n .retry).log 0x0053 3 0x0020 n (leBytes 2 t.toNat)) t.toInt)
  else .next (dieReset s t.toInt)

/-- AMP_OT_RESTART (R277): the sensor is below 125 degrees; the restart does not count as a retry. -/
def execAmpOtRestart (n : Fin 8) (t : BitVec 16) (s : State) : Host.Outcome State Fault Refusal :=
  let s := s.setS (P.amp n) F.AMP_TEMP_CH t.toInt
  if s.st (P.amp n) = 8 ∧ s.getF (P.amp n) F.AMP_STAT_LASTFLT = 6 ∧ t.toInt < 1250 ∧ s.sys.pwrFailN then
    .next (ampBegin (s.onAmp n fun a => { a with recover := true, counting := false }) n)
  else .next (dieReset s t.toInt)

/-! ### Boosts -/

/-- A channel's bridge turns off at once and it waits in BLOCKED for its cause; with EN = 0 it is OFF. -/
def ampCut (s : State) (n cause : Nat) : State :=
  let s := (ampDark s n).onAmp n fun a => { a with fast := false, after := .off }
  if ampWanted s n then ampBlock s n cause else ampToOff s n

/-- A channel whose bridge is on or stopping is cut; others stay. -/
def ampCutLive (s : State) (n cause : Nat) : State := if ampLive s n then ampCut s n cause else s

/-- R264: RAIL_FLT: the boost is in FAULT; both channels of its pair are off and BLOCKED with reason BOOST. -/
def boostFault (s : State) (p flt : Nat) (vrail pvin : BitVec 16) : State :=
  let b := P.bst p
  let s := ((s.setSt b 7).setF b F.BST_STAT_FLT flt).setF b F.PG_STAT_FAULT 1
  let s := ampUnblock (ampUnblock (ampCutLive (ampCutLive s (2 * p) 2) (2 * p + 1) 2) (2 * p)) (2 * p + 1)
  ((s.raise b 24).err b).log 0x0054 3 0x0021 p ([BitVec.ofNat 8 flt] ++ leBytes 2 vrail.toNat ++ leBytes 2 pvin.toNat)

/-- BOOST_PRECHARGE_DONE (R261): the rail is within 1.0 V of PVIN; the channels that wait in RAMP_UP begin. -/
def execBoostPrechargeDone (p : Fin 4) (s : State) : Host.Outcome State Fault Refusal :=
  if s.st (P.bst p) = 3 then .next (s.setSt (P.bst p) 4) else .next s

/-- BOOST_PRECHARGE_TIMEOUT (R261, R264), with the rail and PVIN in 0.1 V. -/
def execBoostPrechargeTimeout (p : Fin 4) (vrail pvin : BitVec 16) (s : State) : Host.Outcome State Fault Refusal :=
  if s.st (P.bst p) = 3 then .next (boostFault s p 1 vrail pvin) else .next s

/-- R262: HOLD ms, 48 fabric samples each, have passed since the need last reached the target of boost `p`. -/
def holdOver (s : State) (p : Nat) : Bool := decide (48 * s.getF (P.bst p) F.BST_TRACK_HOLD ≤ (s.bst p).held)

/-- BOOST_HOLD_EXPIRE (R262): HOLD ms have passed since the need last reached the target, which falls from the next sample. -/
def execBoostHoldExpire (p : Fin 4) (s : State) : Host.Outcome State Fault Refusal :=
  .next (if holdOver s p then s.onBst p fun b => { b with falling := true } else s)

/-- BOOST_CURRENT_LIMIT (R264): a run of current-limited cycles. -/
def execBoostCurrentLimit (p : Fin 4) (s : State) : Host.Outcome State Fault Refusal :=
  if s.st (P.bst p) = 5 then
    .next (((s.bump (P.bst p) F.BST_ILIM_CNT_COUNT).raise (P.bst p) 0).err (P.bst p))
  else .next s

/-- R264: an excursion above 41.5 V counts once. -/
def overVolt (s : State) (p : Nat) : State :=
  if (s.bst p).ovp then s
  else (((s.bump (P.bst p) F.BST_OVP_CNT_COUNT).raise (P.bst p) 1).err (P.bst p)).onBst p fun b => { b with ovp := true }

/-- BOOST_OVP (R264): the rail is above 41.5 V. -/
def execBoostOvp (p : Fin 4) (s : State) : Host.Outcome State Fault Refusal := .next (overVolt s p)

/-- BOOST_OVP_END (R264): the rail is below 40.5 V. -/
def execBoostOvpEnd (p : Fin 4) (s : State) : Host.Outcome State Fault Refusal :=
  .next (s.onBst p fun b => { b with ovp := false })

/-- RAIL_OVP_TRIP (R264, R271): the rail is above 43.0 V: both bridges of the pair trip with kind RAIL_OVP. -/
def execRailOvpTrip (p : Fin 4) (s : State) : Host.Outcome State Fault Refusal :=
  let s := overVolt s p
  let trip (n : Nat) (s : State) : State := if ampLive s n then ampTripOther s n 4 else s
  .next (trip (2 * p + 1) (trip (2 * p) s))

/-- RAIL_LOW (R264): the rail has been below PVIN - 3.0 V for 1 ms in PASS or BOOST. -/
def execRailLow (p : Fin 4) (vrail pvin : BitVec 16) (s : State) : Host.Outcome State Fault Refusal :=
  if railUp s p then .next (boostFault s p 2 vrail pvin) else .next s

/-- R265: PVIN, in 0.1 V, has left its range at boost `p`: each playing channel makes a fast stop. -/
def execPvinOut (p : Fin 4) (pvin : BitVec 10) (s : State) : Host.Outcome State Fault Refusal :=
  let b := P.bst p
  let s := ((s.setF b F.BST_PVIN_PVIN pvin.toNat).setF b F.BST_PVIN_PV_OK 0).raise b 2
  let s := s.bump b F.BST_PVIN_CNT_COUNT
  let s := if 3 ≤ s.st b ∧ s.st b ≤ 5 then s.setSt b 6 else s
  let out (n : Nat) (s : State) : State := if ampOn s n then ampFast s n .blocked else ampUnblock s n
  .next (out (2 * p + 1) (out (2 * p) s))

/-- PVIN_OK (R265): PVIN has been in range for 100 ms: the boost precharges if a channel of its pair needs it. -/
def execPvinOk (p : Fin 4) (pvin : BitVec 10) (s : State) : Host.Outcome State Fault Refusal :=
  let b := P.bst p
  let s := ((s.setF b F.BST_PVIN_PVIN pvin.toNat).setF b F.BST_PVIN_PV_OK 1).raise b 3
  let s := if s.st b = 6 then s.setSt b (if pairOff s p then 2 else 3) else s
  .next (ampUnblock (ampUnblock s (2 * p)) (2 * p + 1))

/-- PVIN_COLLAPSE (R265): PVIN is below 8 V: every bridge and boost turns off at once. -/
def execPvinCollapse (pvin : BitVec 10) (s : State) : Host.Outcome State Fault Refusal :=
  let s := forEach (List.range 4) (fun p s =>
    let b := P.bst p
    let s := (s.setF b F.BST_PVIN_PVIN pvin.toNat).setF b F.BST_PVIN_PV_OK 0
    if 3 ≤ s.st b ∧ s.st b ≤ 5 then s.setSt b 6 else s) s
  .next (forEach (List.range 8) (fun n s => ampCutLive s n 1) s)

/-- R272: the retry windows move on with time. -/
def retryTick (s : State) (n : Nat) : State :=
  if (s.amp n).retries = [] then s else setRetries s n (retriesNow s n)

/-! ### AMP_CLEAR -/

/-- The lowest number below `n` whose bit is set in `m`. -/
def lowestBit (m n : Nat) : Option Nat := (List.range n).find? fun i => m / 2 ^ i % 2 == 1

/-- R282: the page that records a refusal of AMP_CLEAR. -/
def ampClearPage (cm bm : Nat) : Nat :=
  match lowestBit cm 8, lowestBit bm 4 with
  | some n, _ => P.amp n
  | none, some p => P.bst p
  | none, none => P.amp 0

/-- R282: AMP_CLEAR. Boosts are cleared first; what is locked is refused. -/
def ampClearBody (q : PlReq) (s : State) : PlAns :=
  let cm := field q.payload 0 1
  let bm := field q.payload 1 1
  let page := ampClearPage cm bm
  let s := s.wakeFor page
  let chans := (List.range 8).filter fun n => cm / 2 ^ n % 2 == 1
  let boosts := (List.range 4).filter fun p => bm / 2 ^ p % 2 == 1
  let locked := chans.any (fun n => s.isSet (P.amp n) F.PG_CTRL_LOCK) || boosts.any (fun p => s.isSet (P.bst p) F.PG_CTRL_LOCK)
  let bc := boosts.filter fun p => s.st (P.bst p) == 7
  let cc := chans.filter fun n => s.st (P.amp n) == 10
  if locked then nak s page .locked
  else if q.payload.length ≠ 4 ∨ field q.payload 2 2 ≠ 0 ∨ 16 ≤ bm then nak s page .range
  else if bc = [] ∧ cc = [] then nak s page .state
  else
    let s := forEach bc (fun p s => boostClear s p) s
    let s := forEach cc (fun n s => ampClear s n) s
    let mask (l : List Nat) : Byte := BitVec.ofNat 8 (l.foldl (fun m i => m + 2 ^ i) 0)
    ok s [mask cc, mask bc, 0, 0]

/-- AMP_CLEAR (R282). -/
def execAmpClear (q : PlReq) (s : State) : Host.Outcome State Fault Refusal := .next (runPlosto 0x48 q (ampClearBody q) s)

end Sys2Proof.Machine
end

