-- ==== Sys2Proof/Machine/Tdm.lean ====
section
/-! DEFINITION. The TDM ports (chapter 06) and the converter pool (R141-R145, R150, R151). -/

namespace Sys2Proof.Machine

/-! ### Frames and slots -/

/-- R152: the largest number of slots at a rate. -/
def slotMax (rate : Nat) : Nat := if rate ≤ 8 then 16 else if rate ≤ 0xB then 8 else 4

/-- The number of set bits among the low `n` of a number. -/
def popCount (n m : Nat) : Nat := ((List.range n).filter fun i => m / 2 ^ i % 2 == 1).length

/-- The positions of the set bits among the low `n` of a number. -/
def setBits (n m : Nat) : List Nat := (List.range n).filter fun i => m / 2 ^ i % 2 == 1

/-- R155: the lowest slot count that holds both halves of a mask. -/
def maskTop (m : Nat) : Nat := (setBits 32 m).foldl (fun t i => max t (i % 16 + 1)) 0

/-- R155: slot `i` of a direction is active: 0 receive, 16 transmit. -/
def slotOn (s : State) (n half i : Nat) : Bool := bit (s.rd (P.tdm n + 0x44)) (half + i)

/-- R152-R155, R157: a write of TDM_n_CFG. -/
def tdmCfgWrite (n : Nat) (v : Word) : Act := fun s =>
  let rate := getField v 31 28
  let slots := getField v 20 16
  let fsw := getField v 9 8
  if 0xD < rate ∨ (bit v 27 ∧ rate ≠ 8 ∧ rate ≠ 0xB ∧ rate ≠ 0xD) ∨ slots < 1 ∨ slotMax rate < slots ∨
      slots < maskTop (s.rd (P.tdm n + 0x44)).toNat ∨ getField v 13 12 = 3 ∨ fsw = 3 ∨ (fsw = 2 ∧ slots = 1) then (.range, s)
  else if 3 ≤ s.st (P.tdm n) then (.state, s)
  else (.done, s.store (P.tdm n + 0x40) v)

/-- R155, R157: a write of TDM_n_SLOTMASK. -/
def tdmMaskWrite (n : Nat) (v : Word) : Act := fun s =>
  if s.getF (P.tdm n) F.TDM_CFG_SLOTS < maskTop v.toNat then (.range, s)
  else if 3 ≤ s.st (P.tdm n) then (.state, s)
  else (.done, s.store (P.tdm n + 0x44) v)

/-! ### The converter pool -/

/-- The base of rate group `g`'s RATIO and STAT. -/
def grpBase (g : Nat) : Nat := P.asrc + 8 * g

/-- ASRC_GRP_g_STAT.STATE: 0 IDLE, 1 ACQUIRE, 2 LOCKED, 3 LOST. -/
def grpSt (s : State) (g : Nat) : Nat := s.getF (grpBase g) F.ASRC_GRP_STAT_STATE

/-- R133, R141: port `n` is the steering source that passes no converter. -/
def tdmSteers (s : State) (n : Nat) : Bool := clkNamed s n && tdmFits s n

/-- R141: the converter channels port `n` needs. -/
def chansNeeded (s : State) (n : Nat) : Nat :=
  if s.getF (P.tdm n) F.TDM_CFG_RATE = 8 ∧ (s.isSet (P.tdm n) F.TDM_CFG_MODE ∨ tdmSteers s n) then 0
  else popCount 32 (s.rd (P.tdm n + 0x44)).toNat

/-- The address of ASRC_CH_k. -/
def chAddr (k : Nat) : Nat := P.asrc + 0x400 + 4 * k

/-- Whether converter channel `k` is allocated. -/
def chUsed (s : State) (k : Nat) : Bool := bit (s.rd (chAddr k)) 31

/-- The free channels, lowest first. -/
def freeChans (s : State) : List Nat := (List.range 256).filter fun k => !chUsed s k

/-- ASRC_USED follows the channels allocated; HIGH is its highest. -/
def asrcUsed (s : State) (used : Nat) : State :=
  (s.setF P.asrc F.ASRC_USED_USED used).setF P.asrc F.ASRC_USED_HIGH (max used (s.getF P.asrc F.ASRC_USED_HIGH))

/-- ASRC_CH_k of a slot of port `n`: position `i` of SLOTMASK, receive slots first. -/
def chWord (n i : Nat) : Word :=
  BitVec.ofNat 32 (2 ^ 31 + (i / 16) * 2 ^ 30 + n * 2 ^ 20 + i % 16 * 2 ^ 16 + (0x100 + 16 * n + i % 16))

/-- R143, R144: the channels of a port that starts are allocated, and its group begins to measure; a provider's ratio is
exact. -/
def asrcTake (s : State) (n : Nat) : State :=
  let slots := setBits 32 (s.rd (P.tdm n + 0x44)).toNat
  let chs := (freeChans s).take slots.length
  let s := forEach (slots.zip chs) (fun p s => s.wr (chAddr p.2) (chWord n p.1)) s
  let s := asrcUsed s (s.getF P.asrc F.ASRC_USED_USED + slots.length)
  let prov := s.isSet (P.tdm n) F.TDM_CFG_MODE
  let s := (s.setF (grpBase n) F.ASRC_GRP_STAT_NCH slots.length).setF (grpBase n) F.ASRC_GRP_STAT_FIRST (chs.headD 0)
  let s := s.setF (grpBase n) F.ASRC_GRP_STAT_STATE (if prov then 2 else 1)
  let s := s.onGrp n fun _ => Grp.reset
  if prov then s.setF (grpBase n) F.ASRC_GRP_RATIO_RATIO (if s.getF (P.tdm n) F.TDM_CFG_RATE = 0xB then 2 ^ 29 else 2 ^ 30) else s

/-- R144: a port's channels are freed; its group is IDLE. -/
def asrcFree (s : State) (n : Nat) : State :=
  let mine := (List.range 256).filter fun k => chUsed s k && getField (s.rd (chAddr k)) 23 20 == n
  let s := forEach mine (fun k s => s.wr (chAddr k) 0) s
  let s := asrcUsed s (s.getF P.asrc F.ASRC_USED_USED - mine.length)
  let s := (s.wr (grpBase n + 0x104) 0).setF (grpBase n) F.ASRC_GRP_RATIO_RATIO 0
  (s.onGrp n fun _ => Grp.reset).setF (P.tdm n) F.TDM_STAT_ASRC 0

/-- R143: a group is LOST, with reason 1 CLOCK or 2 RATE. -/
def asrcLost (s : State) (g why : Nat) : State :=
  if grpSt s g = 1 ∨ grpSt s g = 2 then
    let s := (s.setF (grpBase g) F.ASRC_GRP_STAT_STATE 3).setF (grpBase g) F.ASRC_GRP_STAT_REASON why
    ((s.count (P.asrc + 0x180 + 4 * g)).raise P.asrc 1).err P.asrc
  else s

/-- R143: the guard reports the clock correct again. -/
def asrcAgain (s : State) (g : Nat) : State :=
  if grpSt s g = 3 then
    ((s.setF (grpBase g) F.ASRC_GRP_STAT_STATE 1).setF (grpBase g) F.ASRC_GRP_STAT_REASON 0).onGrp g fun x => { x with fromLost := true }
  else s

/-- ASRC_GROUP_LOCK (R143): the ratio of group `g` is within 1 ppm; its channels fade in. -/
def execAsrcGroupLock (g : Fin 16) (ratio : Word) (s : State) : Host.Outcome State Fault Refusal :=
  if grpSt s g = 1 then
    let again := (s.grp g).fromLost
    let s := (s.setF (grpBase g) F.ASRC_GRP_STAT_STATE 2).wr (grpBase g + 0x100) ratio
    let s := s.onGrp g fun _ => Grp.reset
    .next (if again then s.raise P.asrc 2 else s)
  else .next s

/-- A write of an ASRC register: any write of ASRC_USED sets HIGH to USED. -/
def asrcWrite (off : Nat) (v : Word) : Act :=
  if off = 0x40 then yes fun s => s.setF P.asrc F.ASRC_USED_HIGH (s.getF P.asrc F.ASRC_USED_USED) else plain (P.asrc + off) v

/-- R151: ASRC_QUERY. -/
def asrcQueryBody (q : PlReq) (s : State) : PlAns :=
  let mode := field q.payload 0 1
  let g := field q.payload 1 1
  if q.payload.length ≠ 4 then nak s P.asrc .range
  else if mode = 0 ∧ field q.payload 1 3 = 0 then
    ok s (wordsBytes ([s.rd (P.asrc + 0x40), s.rd (P.asrc + 0x44)] ++ (List.range 16).map fun i => s.rd (grpBase i + 0x104)))
  else if mode = 1 ∧ g ≤ 15 ∧ field q.payload 2 2 = 0 then
    let mine := (List.range 256).filter fun k => chUsed s k && getField (s.rd (chAddr k)) 23 20 == g
    ok s (wordsBytes ([s.rd (grpBase g + 0x100), s.rd (grpBase g + 0x104), s.rd (P.asrc + 0x180 + 4 * g)] ++
      mine.map fun k => s.rd (chAddr k)))
  else nak s P.asrc .range

/-- ASRC_QUERY (R151). -/
def execAsrcQuery (q : PlReq) (s : State) : Host.Outcome State Fault Refusal :=
  .next (runPlosto 0x18 q (onPage P.asrc false (asrcQueryBody q)) s)

/-! ### Start, stop and loss -/

/-- TDM_n_STAT.REASON. -/
def tdmReason (s : State) (n v : Nat) : State := s.setF (P.tdm n) F.TDM_STAT_REASON v

/-- A port is RUNNING. -/
def tdmRun (s : State) (n : Nat) : State :=
  clkSource ((s.setSt (P.tdm n) 4).setF (P.tdm n) F.TDM_STAT_BCLKS (min 0x3FF (32 * s.getF (P.tdm n) F.TDM_CFG_SLOTS)))

/-- R157: a port passes STARTING; a provider goes directly to RUNNING with its first frame. -/
def tdmLaunch (s : State) (n : Nat) : State :=
  let s := (s.setSt (P.tdm n) 3).onTdm n fun _ => TdmHid.reset
  if s.isSet (P.tdm n) F.TDM_CFG_MODE then (tdmRun s n).raise (P.tdm n) 0 else s

/-- R144, R157: a port starts, or is refused for lack of channels. -/
def tdmStart (n : Nat) : Act := fun s =>
  if !s.en (P.tdm n) ∨ s.st (P.tdm n) ≠ 2 then (.state, s)
  else
    let need := chansNeeded s n
    let s0 := tdmReason s n 0
    if need = 0 then (.done, tdmLaunch s0 n)
    else if !s.en P.asrc then (.state, s)
    else if (freeChans s).length < need then
      (.state, (((tdmReason s n 1).bump P.asrc F.ASRC_NOASRC_CNT_COUNT).raise P.asrc 0).err P.asrc)
    else (.done, tdmLaunch ((asrcTake s0 n).setF (P.tdm n) F.TDM_STAT_ASRC 1) n)

/-- R133: SRC_INVALID when the named port, `was` valid before, is valid no more. -/
def srcInvalid (s : State) (n : Nat) (was : Bool) : State :=
  if was ∧ clkNamed s n ∧ !tdmValid s n then s.raise P.clk 5 else s

/-- R157, R161: a port stops: its balls are released, its channels freed, a DRIVE fault cleared. -/
def tdmHalt (s : State) (n : Nat) : State :=
  let was := tdmValid s n
  let s := (((asrcFree s n).setSt (P.tdm n) 2).setF (P.tdm n) F.PG_STAT_FAULT 0).onTdm n fun _ => TdmHid.reset
  clkSource (srcInvalid s n was)

/-- R157: STOP. -/
def tdmStop (n : Nat) : Act := fun s => if s.st (P.tdm n) ≤ 2 then (.state, s) else (.done, tdmHalt s n)

/-- R157: a write of TDM_n_CTRL. -/
def tdmCtrlWrite (n : Nat) (v : Word) : Act :=
  if bit v 0 ∧ bit v 1 then no .range else if bit v 0 then tdmStart n else if bit v 1 then tdmStop n else yes id

/-- The registers of a TDM page. -/
def tdmWrite (n off : Nat) (v : Word) : Act :=
  if off = 0x40 then tdmCfgWrite n v else if off = 0x44 then tdmMaskWrite n v else if off = 0x48 then tdmCtrlWrite n v
  else plain (P.tdm n + off) v

/-- TDM_START (R157): TDM_n_CTRL is written with START = 1. -/
def execTdmStart (r : Req) (n : Fin 16) (v : Word) (s : State) : Host.Outcome State Fault Refusal :=
  .next (hostWrite r (P.tdm n + 0x48) (tdmCtrlWrite n (setField v 0 0 1)) s)

/-- TDM_STOP (R157): TDM_n_CTRL is written with STOP = 1. -/
def execTdmStop (r : Req) (n : Fin 16) (v : Word) (s : State) : Host.Outcome State Fault Refusal :=
  .next (hostWrite r (P.tdm n + 0x48) (tdmCtrlWrite n (setField v 1 1 1)) s)

/-- R158: a good frame, or several: no misplaced or missing one is last. -/
def tdmGood (s : State) (n : Nat) : State :=
  (s.onTdm n fun h => { h with bad := 0, gone := false }).setF (P.tdm n) F.TDM_STAT_BCLKS (min 0x3FF (32 * s.getF (P.tdm n) F.TDM_CFG_SLOTS))

/-- TDM_STARTED (R157): eight good frames in succession. A group that a restart found LOST measures again (R143). -/
def execTdmStarted (n : Fin 16) (s : State) : Host.Outcome State Fault Refusal :=
  if s.st (P.tdm n) = 3 then .next ((asrcAgain (tdmRun (tdmGood s n) n) n).raise (P.tdm n) 0) else .next s

/-- R158, R159: a consumer's clock is lost, with reason 2 CLOCK or 3 RATE. -/
def tdmLose (s : State) (n why : Nat) : State :=
  if s.st (P.tdm n) = 4 ∧ !s.isSet (P.tdm n) F.TDM_CFG_MODE then
    let s := (tdmReason (s.setSt (P.tdm n) 5) n why).bump (P.tdm n) F.TDM_LOSS_CNT_COUNT
    let s := s.onTdm n fun h => { TdmHid.reset with rx := h.rx }
    clkSource (asrcLost (s.raise (P.tdm n) 1) n (why - 1))
  else s

/-- R158: the guard counts a misplaced or missing frame, with the bit clocks it counted; the first after a good frame raises FS_ERR, the
third in succession is a loss. -/
def tdmBad (s : State) (n b : Nat) (missing : Bool) : State :=
  let k := (s.tdm n).bad + 1
  let s := ((s.bump (P.tdm n) F.TDM_FS_CNT_COUNT).err (P.tdm n)).setF (P.tdm n) F.TDM_STAT_BCLKS (min 0x3FF b)
  let s := s.onTdm n fun h => { h with bad := k, gone := h.gone || missing }
  let s := if k = 1 then s.raise (P.tdm n) 3 else s
  if 3 ≤ k then tdmLose s n 2 else s

/-- FRAME_SYNC_ERROR (R158): the guard finds an edge at another count than SLOTS * 32, or none by SLOTS * 32 + 2, or a rate outside
the tolerance, which is a loss. An edge at that count is a good frame. -/
def execFrameSyncError (n : Fin 16) (e : FrameErr) (s : State) : Host.Outcome State Fault Refusal :=
  let len := 32 * s.getF (P.tdm n) F.TDM_CFG_SLOTS
  if 3 ≤ s.st (P.tdm n) ∧ s.st (P.tdm n) ≤ 5 ∧ !s.isSet (P.tdm n) F.TDM_CFG_MODE then
    match e with
    | .rate => .next (tdmLose s n 3)
    | .missing => .next (tdmBad s n (len + 2) true)
    | .edge b => .next (if b = len then tdmGood s n else tdmBad s n b (decide (len + 2 ≤ b)))
  else .next s

/-- TDM_CLOCK_LOSS (R158): no bit clock edge for four frame periods. -/
def execTdmClockLoss (n : Fin 16) (s : State) : Host.Outcome State Fault Refusal := .next (tdmLose s n 2)

/-- TDM_RELOCK (R158, R159): after a loss, eight good frames in succession. -/
def execTdmRelock (n : Fin 16) (s : State) : Host.Outcome State Fault Refusal :=
  if s.st (P.tdm n) = 5 then .next ((asrcAgain (tdmRun (tdmGood s n) n) n).raise (P.tdm n) 2) else .next s

/-- DRIVE_FAULT (R161): the level read back differs from the level driven at four frame-sync edges. -/
def execDriveFault (n : Fin 16) (s : State) : Host.Outcome State Fault Refusal :=
  if s.st (P.tdm n) = 4 ∧ s.isSet (P.tdm n) F.TDM_CFG_MODE then
    let s := ((tdmReason (s.setSt (P.tdm n) 6) n 4).setF (P.tdm n) F.PG_STAT_FAULT 1).onTdm n fun _ => TdmHid.reset
    .next ((s.raise (P.tdm n) 24).log 0x0020 3 0x0012 0 [BitVec.ofNat 8 n])
  else .next s

/-- R143: the group of a port that restarts measures again from nothing; one that is LOST waits for the guard, and a provider's ratio
stays exact. -/
def asrcRestart (s : State) (n : Nat) : State :=
  if grpSt s n = 2 ∧ !s.isSet (P.tdm n) F.TDM_CFG_MODE then
    (s.setF (grpBase n) F.ASRC_GRP_STAT_STATE 1).onGrp n fun _ => Grp.reset
  else s

/-- R127, R162: the ports that ran restart, the consumers first, so that none is taken for running still. -/
def tdmRestart (s : State) : State :=
  let ran := (List.range 16).filter fun n => s.st (P.tdm n) == 4 || s.st (P.tdm n) == 5
  let go (prov : Bool) (s : State) : State :=
    forEach (ran.filter fun n => s.isSet (P.tdm n) F.TDM_CFG_MODE == prov) (fun n s => tdmLaunch (asrcRestart s n) n) s
  go true (go false s)

/-- R139, R162: the balls of every port float: nothing is received or sent, and the converter channels hold nothing. -/
def tdmsFloat (s : State) : State := forEach (List.range 16) (fun n s => s.onTdm n fun _ => TdmHid.reset) s

end Sys2Proof.Machine
end

