-- ==== Sys2Proof/Machine/Clocks.lean ====
section
/-! DEFINITION. The reference and the PLLs, their failures and recovery (R125-R128, R149, R466), and the CLK page's
commands (R134-R140). -/

namespace Sys2Proof.Machine

/-! ### Stop and recovery of the fabric clock -/

/-- R127: a line output stops without the Smoker's ramp. -/
def loCut (s : State) (n : Nat) : State := if 1 ≤ loSt s n ∧ loSt s n ≤ 5 then setLo (s.stopRamp (.loUnmute n)) n 0 else s

/-- R127: the ears of a headset stop without a ramp. -/
def earsCut (s : State) (n : Nat) : State :=
  if 2 ≤ earSt s n then setEar ((s.stopRamp (.earUp n)).stopRamp (.earMute n)) n 1 else s

/-- R9, R127, R149, R273: the outputs stop at once; the speaker channels wait in BLOCKED with cause CLOCK. -/
def outputsCut (s : State) : State :=
  let s := forEach (List.range 8) (fun n s => loCut s n) s
  let s := forEach (List.range 4) (fun n s => earsCut s n) s
  forEach (List.range 8) (fun n s => ampCutLive s n 3) (sideTones s)

/-- R127: the outputs start again through the Smoker. -/
def outputsBack (s : State) : State :=
  let s := forEach (List.range 8) (fun n s =>
    if s.isSet (loBase n) F.LO_CFG_EN ∧ loSt s n = 0 ∧ s.en P.lo then loBegin s n else s) s
  let s := forEach (List.range 4) (fun n s => if earSt s n = 1 then earsUp s n (s.getF P.hs F.HS_DEB_RAMP) else s) s
  forEach (List.range 8) (fun n s => ampUnblock s n) s

/-- R106, R127: the fabric stops for a reason. -/
def fabricStop (s : State) (why : Halt) : State :=
  let s := s.onClk fun c => { c with halt := some why, step := 0 }
  outputsCut (linksDown (cmbShow s))

/-- R127 steps 1-4, R149: all PLLs are locked and the reference is correct: CLK returns to FREE or ACQUIRE, the ports and
the outputs restart. -/
def clkRecover (s : State) : State :=
  let s := ((s.setF P.clk F.CLK_REF_STAT_REF_OK 1).setF P.clk F.CLK_REF_STAT_ON_RC 0).wr (P.clk + 0x48) 7
  let s := s.onClk fun c => { c with halt := none, down := [] }
  outputsBack (tdmRestart (clkUnseen (clkSelect (cmbShow s))))

/-- R127, R466: the reference has failed: DEGRADED, REF_FAIL and its record. -/
def refFailed (s : State) : State :=
  let s := ((s.setF P.clk F.CLK_REF_STAT_REF_OK 0).setF P.clk F.CLK_REF_STAT_ON_RC 1).wr (P.clk + 0x48) 0
  let s := clkTo (fabricStop s .ref) 7
  clkLog ((s.raise P.clk 24).err P.clk) 0x0010 3

/-- KEEPER_TO_REFERENCE (R126): the reference has been correct for 1 ms: the Keeper leaves the RC oscillator, and the PLLs
lock. -/
def execKeeperToReference (s : State) : Host.Outcome State Fault Refusal :=
  if s.isSet P.clk F.CLK_REF_STAT_ON_RC ∧ !s.stopped ∧ !s.sys.held then
    .next (((s.setF P.clk F.CLK_REF_STAT_REF_OK 1).setF P.clk F.CLK_REF_STAT_ON_RC 0).wr (P.clk + 0x48) 7)
  else .next s

/-- REF_FAIL (R127): in Run or Idle. -/
def execRefFail (s : State) : Host.Outcome State Fault Refusal :=
  if awake s ∧ s.clk.halt ≠ some .ref then .next (refFailed s) else .next s

/-- REF_RECOVERY (R127, R140, R466): the reference has been correct for 10 ms. -/
def execRefRecovery (s : State) : Host.Outcome State Fault Refusal :=
  if awake s ∧ (s.clk.halt = some .ref ∨ s.clk.halt = some .mode) then .next (clkRecover s) else .next s

/-- REF_START_TIMEOUT (R466): 6 ms after release the reference has not been reported correct. -/
def execRefStartTimeout (s : State) : Host.Outcome State Fault Refusal :=
  if awake s ∧ !s.isSet P.clk F.CLK_REF_STAT_REF_OK ∧ s.clk.halt ≠ some .ref then .next (refFailed s) else .next s

/-- PLL_FAIL (R149): PLL `p` (0 system, 1 network, 2 media) does not lock or loses lock while the reference is correct. The
Keeper runs from the reference, or from the RC oscillator if the system PLL is the one. -/
def execPllFail (p : Fin 3) (s : State) : Host.Outcome State Fault Refusal :=
  if awake s ∧ s.clk.halt ≠ some .ref ∧ s.clk.halt ≠ some .mode then
    let first := s.clk.halt.isNone
    let s := s.wr (P.clk + 0x48) (s.rd (P.clk + 0x48) &&& ~~~ (1#32 <<< p.val))
    let s := if p = 0 then s.setF P.clk F.CLK_REF_STAT_ON_RC 1 else s
    let s := s.onClk fun c => { c with down := (p.val :: c.down).dedup }
    let s := if first then clkTo (fabricStop s .pll) 7 else s
    .next (clkLog ((s.raise P.clk 25).err P.clk) 0x0011 3)
  else .next s

/-- PLL_RESTART (R149): the failed PLLs are restarted; those in `up` (bit 0 system, 1 network, 2 media) lock. -/
def execPllRestart (up : Fin 8) (s : State) : Host.Outcome State Fault Refusal :=
  if s.clk.halt = some .pll then
    let s := s.wr (P.clk + 0x48) (s.rd (P.clk + 0x48) ||| BitVec.ofNat 32 up)
    let s := s.onClk fun c => { c with down := c.down.filter fun p => up.val / 2 ^ p % 2 == 0 }
    .next (if s.clk.down = [] ∧ s.isSet P.clk F.CLK_REF_STAT_REF_OK then clkRecover s else s)
  else .next s

/-! ### The servo's rows -/

/-- SERVO_UPDATE (R134): with the 48 block-boundary errors in ns, and the reference's deviation measured against PTP time
in 0.01 ppm, which CLK_REF_STAT.DEV reports in LOCKED with SRC = 1. -/
def execServoUpdate (errs : List Int) (dev : BitVec 16) (s : State) : Host.Outcome State Fault Refusal :=
  if awake s ∧ !s.stopped then
    let s := servoUpdate errs s
    .next (s.setF P.clk F.CLK_REF_STAT_DEV (if s.clk.st = 4 ∧ s.clk.sel.1 = 1 then dev.toNat else 0x8000))
  else .next s

/-- HOLDOVER_EXPIRY (R135, R136): HOLD_TIME has passed in HOLDOVER. -/
def execHoldoverExpiry (s : State) : Host.Outcome State Fault Refusal :=
  if s.clk.st = 5 then .next (clkLog ((clkTo s 6).raise P.clk 3) 0x0012 2) else .next s

/-! ### Writes -/

/-- R132, R133, R138, R140: a write of CLK_MEDIA_CFG; SRC, LINK and PORT take effect at the next update. -/
def mediaCfgWrite (v : Word) : Act := fun s =>
  if getField v 31 24 = 0 ∨ getField v 17 16 = 3 ∨ getField v 1 0 = 3 then (.range, s)
  else
    let was := clkCfg s
    let s := s.store (P.clk + 0x4C) v
    let now := clkCfg s
    (.done, if now.1 = 2 ∧ (was.1 ≠ 2 ∨ was.2.2 ≠ now.2.2) ∧ !tdmValid s now.2.2 then s.raise P.clk 5 else s)

/-- CLK_MEDIA_CFG_WRITE (R140). -/
def execClkMediaCfgWrite (r : Req) (v : Word) (s : State) : Host.Outcome State Fault Refusal :=
  .next (hostWrite r (P.clk + 0x4C) (mediaCfgWrite v) s)

/-- R125, R140: a write of CLK_REF_CFG: in FREE a change of MODE switches the oscillator amplifier and restarts the PLLs;
in DEGRADED it is stored. -/
def refCfgWrite (v : Word) : Act := fun s =>
  if s.clk.st ≠ 2 ∧ s.clk.st ≠ 7 then (.state, s)
  else
    let was := s.getF P.clk F.CLK_REF_CFG_MODE
    let s := s.store (P.clk + 0x40) v
    if s.clk.st = 2 ∧ !s.stopped ∧ s.getF P.clk F.CLK_REF_CFG_MODE ≠ was then
      (.done, ((fabricStop s .mode).setF P.clk F.CLK_REF_STAT_ON_RC 1).wr (P.clk + 0x48) 0)
    else (.done, s)

/-- REF_MODE_CHANGE (R140): CLK_REF_CFG is written. -/
def execRefModeChange (r : Req) (v : Word) (s : State) : Host.Outcome State Fault Refusal :=
  .next (hostWrite r (P.clk + 0x40) (refCfgWrite v) s)

/-- The registers of the CLK page. -/
def clkWrite (off : Nat) (v : Word) : Act :=
  if off = 0x40 then refCfgWrite v
  else if off = 0x4C then mediaCfgWrite v
  else if off = 0x50 then
    (if getField v 23 16 < 1 ∨ 200 < getField v 23 16 ∨ getField v 7 0 < 1 ∨ 100 < getField v 7 0 then no .range
     else plain (P.clk + off) v)
  else if off = 0x54 then
    (if getField v 27 16 < 1 ∨ 3600 < getField v 27 16 ∨ getField v 7 0 < 1 ∨ 60 < getField v 7 0 then no .range
     else plain (P.clk + off) v)
  else if off = 0x60 then
    (if v.toInt < -200000 ∨ 200000 < v.toInt then no .range
     else yes fun s =>
      let s := s.store (P.clk + off) v
      if s.clk.st = 2 ∧ !s.stopped then setFreq s (trimPpb s) else s)
  else plain (P.clk + off) v

end Sys2Proof.Machine
end

