-- ==== Sys2Proof/Machine/Events.lean ====
section
/-! DEFINITION. Pending events and the pins that follow them (R37, R38), the status byte (R51). -/

namespace Sys2Proof.Machine

/-- R38: the page contributes to the pending registers: its domain is powered. -/
def pageLive (s : State) (page : Nat) : Bool :=
  match domOf page with
  | some d => s.domOn d
  | none => false

/-- EVT_PEND of a page (R37). -/
def evtPend (s : State) (page : Nat) : Word :=
  if pageLive s page then s.rd (page + 0x00C) &&& s.rd (page + 0x010) else 0

/-- R37: the 77 pages, each with whether it has a pending event under a mask. -/
def pendWord (s : State) (mask : Word) (n : Nat) : Word :=
  (List.range 32).foldl (fun w i =>
    if 32 * n + i < 77 ∧ evtPend s (pageOfIndex (32 * n + i)) &&& mask ≠ 0 then w ||| 1#32 <<< i else w) 0

/-- SYS_IRQ_PENDn (R37). -/
def irqPend (s : State) (n : Nat) : Word := pendWord s 0x00FFFFFF n

/-- SYS_FLT_PENDn (R37). -/
def fltPend (s : State) (n : Nat) : Word := pendWord s 0xFF000000 n

/-- R37: whether any notice is pending. -/
def anyIrq (s : State) : Bool := (List.range 3).any fun n => irqPend s n != 0

/-- R37: FAULT_N is asserted. -/
def faultPin (s : State) : Bool := (List.range 3).any fun n => fltPend s n != 0

/-- R37: IRQ_N is asserted. -/
def irqPin (s : State) : Bool := s.isSet P.sys F.SYS_IRQ_CTRL_IRQ_EN && anyIrq s

/-- R51: the status byte of a port: whether its last frame or transaction failed, its mailbox. -/
def statusByte (s : State) (lastErr : Bool) (mb : Mailbox) : Byte :=
  BitVec.ofNat 8 (0x80 + 32 * b2n lastErr + 16 * b2n (faultPin s) + 8 * b2n (anyIrq s) + 4 * b2n mb.rsp.isSome +
    2 * b2n (mb.req.isNone && s.sys.service) + b2n s.sys.service)

end Sys2Proof.Machine
end

