-- ==== Sys2Proof/Machine/Stops.lean ====
section
/-! DEFINITION. The Smoker's stops and starts of every output and input at once: entry to a power state (R434), loss of
supply and device resets (R248, R268, R452), and the restarts after them (R236, R238, R249, R267, R444). -/

namespace Sys2Proof.Machine

/-- R434, R452: no output sounds or ramps any more, and every input that was stopping is off. -/
def outputsDone (s : State) : Bool :=
  ((List.range 8).all fun n => !ampLive s n) && ((List.range 8).all fun n => !(loOn s n || loSt s n == 5)) &&
    ((List.range 4).all fun n => !(earSt s n == 2 || earSt s n == 3 || earSt s n == 4)) && s.an.ainStop.isEmpty

/-- R249, R267, R434: every started output stops, the headsets mute, the inputs' biases ramp down. -/
def outputsStop (s : State) : State :=
  let s := forEach (List.range 8) (fun n s => ampStop s n) s
  let s := forEach (List.range 8) (fun n s => loStop s n) s
  let s := forEach (List.range 4) (fun n s => earsMute s n muteOff 5) s
  forEach (List.range 8) (fun n s => if ainLive s n then ainStopping s n else s) s

/-- R238, R267: the speaker channels and line outputs that are enabled and off start. -/
def startDrivers (s : State) : State :=
  let s := forEach (List.range 8) (fun n s =>
    if s.isSet (P.amp n) F.AMP_CTRL_EN ∧ s.en (P.amp n) ∧ s.en (P.bst (n / 2)) ∧ s.st (P.amp n) = 2 then ampBegin s n else s) s
  forEach (List.range 8) (fun n s =>
    if s.isSet (loBase n) F.LO_CFG_EN ∧ s.en P.lo ∧ loSt s n = 0 then loBegin s n else s) s

/-- R236: the inputs that are enabled and off pass SETTLING; not while PWRFAIL_N is low. -/
def startInputs (s : State) : State :=
  forEach (List.range 8) (fun n s =>
    if s.isSet (ainBase n) F.AIN_CFG_EN ∧ s.en P.ain ∧ ainSt s n = 0 ∧ s.sys.pwrFailN then ainBegin s n else s) s

/-- R435: an entry is abandoned: what it stopped starts again. -/
def outputsAgain (s : State) : State :=
  let s := startInputs (startDrivers s)
  forEach (List.range 4) (fun n s => if hsSt s n = 4 then earsUnmute s n muteOff (s.getF P.hs F.HS_DEB_RAMP) else s) s

/-- R249, R269: nothing is muted by Idle any more. -/
def idleCausesOver (s : State) : State :=
  let s := forEach (List.range 8) (fun n s => s.setF (P.amp n) F.AMP_STAT_MUTE (dropCause (ampMutes s n) muteIdle)) s
  let s := forEach (List.range 8) (fun n s => s.setF (loBase n) F.LO_STAT_REASON (dropCause (loReason s n) muteIdle)) s
  forEach (List.range 4) (fun n s => s.setF (hsBase n) F.HS_STAT_REASON (dropCause (hsReason s n) muteIdle)) s

/-- R249, R267, R444: on the return to Run from Sleep or Deep sleep the drivers start, the inputs settle, and the headsets
are looked at afresh. -/
def outputsWake (s : State) : State :=
  let s := startInputs (startDrivers (idleCausesOver s))
  forEach (List.range 4) (fun n s => if s.isSet (hsBase n) F.HS_CFG_EN ∧ s.en P.hs then hsBegin (micOff s n) n else s) s

/-- A set of causes as a host mute of 0 or 1 and the end of a power failure leave it. -/
def causesAfter (m : Nat) (host : Bool) : Nat :=
  dropCause (if host then addCause m muteHost else dropCause m muteHost) mutePwr

/-- R247, R248, R268, R278: PWRFAIL_N mutes nothing any more, and the host's mutes written meanwhile take effect. -/
def pwrCausesOver (s : State) : State :=
  let s := forEach (List.range 8) (fun n s =>
    s.setF (P.amp n) F.AMP_STAT_MUTE (causesAfter (ampMutes s n) (s.isSet (P.amp n) F.AMP_CTRL_MUTE))) s
  forEach (List.range 8) (fun n s =>
    s.setF (loBase n) F.LO_STAT_REASON (causesAfter (loReason s n) (s.isSet (loBase n) F.LO_CFG_MUTE))) s

/-- R247, R248: headset `n` after a power failure, by what the host has written: it stops, or starts, or its charge pump runs
again and its ears follow. -/
def hsPwrBack (s : State) (n : Nat) : State :=
  let want := s.isSet (hsBase n) F.HS_CFG_EN && s.en P.hs
  let s := s.stopRamp (.earOff n)
  let s := if want && hsSt s n ≠ 0 && earSt s n == 0 && hsSt s n ≠ 5 then setEar s n 1 else s
  let m := hsReason s n
  let s := s.setF (hsBase n) F.HS_STAT_REASON (causesAfter m (s.isSet (hsBase n) F.HS_CFG_OUTMUTE))
  if !want then (if hsSt s n ≠ 0 then hsStop s n else s)
  else if hsSt s n = 0 then hsBegin s n
  else if hsReason s n = 0 ∧ m ≠ 0 then earsUp s n (s.getF P.hs F.HS_DEB_RAMP)
  else s

/-- R247, R248, R268: PWRFAIL_N has been high for 100 ms: the outputs start again through their sequences, the inputs settle, and what
the host has written meanwhile takes effect: a channel whose EN is 0 now stays off. -/
def outputsPwrBack (s : State) : State :=
  let s := startInputs (startDrivers (pwrCausesOver s))
  let s := forEach (List.range 8) (fun n s =>
    if s.st (P.amp n) = 8 ∧ !s.isSet (P.amp n) F.AMP_CTRL_EN then ampToOff s n else s) s
  forEach (List.range 4) (fun n s => hsPwrBack s n) s

end Sys2Proof.Machine
end

