-- ==== Sys2Proof/Machine/Streams.lean ====
section
/-! DEFINITION. Network audio streams: the stream table (R180-R185), receive buffering and concealment (R186-R193),
transmit (R194-R196), and the stream commands (R201). -/

namespace Sys2Proof.Machine

/-- The bases of the entries of a direction: 0 receive, 1 transmit. -/
def strBase (dir j : Nat) : Nat := if dir = 0 then P.rx j else P.tx j

/-- R185: samples per packet of a PTIME code. -/
def ptimeLen (c : Nat) : Nat :=
  match c with
  | 0 => 6 | 1 => 12 | 2 => 16 | 3 => 48 | _ => 192

/-- R185: bytes per sample of a CTRL word: L16 or L24. -/
def sampleBytes (ctrl : Word) : Nat := if bit ctrl 20 then 3 else 2

/-- R181: whether an entry is enabled. -/
def strOn (s : State) (dir j : Nat) : Bool := bit (s.rd (strBase dir j)) 31

/-- The first channel an entry holds; 0x3FF while it holds none. -/
def strFirst (s : State) (dir j : Nat) : Nat := getField (s.rd (strBase dir j + 4)) 25 16

/-- The channels an entry holds. -/
def strChans (s : State) (dir j : Nat) : List Nat :=
  if strFirst s dir j = 0x3FF then [] else (List.range (getField (s.rd (strBase dir j)) 6 0)).map (strFirst s dir j + ·)

/-- The channels of a direction that entries other than `j` hold. -/
def chansHeld (s : State) (dir j : Nat) : List Nat :=
  ((List.range 32).filter (· != j)).flatMap (strChans s dir)

/-- R183: the lowest run of `n` contiguous free channels. -/
def freeRun (used : List Nat) (n : Nat) : Option Nat :=
  (List.range 257).find? fun a => decide (a + n ≤ 256) && (List.range n).all fun i => !used.contains (a + i)

/-- The words of an entry, offsets 0x00 to 0x1C. -/
def strWords (s : State) (dir j : Nat) : List Word := (List.range 8).map fun i => s.rd (strBase dir j + 4 * i)

/-- R182: the checks of both directions, RANGE. -/
def strRange (ws : List Word) : Bool :=
  let c := ws.getD 0 0
  let nch := getField c 6 0
  let pt := getField c 18 16
  let first := getField (ws.getD 1 0) 9 0
  decide (nch = 0 ∨ 64 < nch ∨ 5 ≤ pt ∨ 1440 < nch * ptimeLen pt * sampleBytes c ∨ (first ≠ 0x3FF ∧ 256 < first + nch))

/-- R182: the checks of a receive entry, RANGE. -/
def rxRange (s : State) (ws : List Word) : Bool :=
  let c := ws.getD 0 0
  let t := ws.getD 7 0
  let dst := ws.getD 2 0
  let off := getField t 9 0
  let tmo := getField t 31 24
  decide (off < ptimeLen (getField c 18 16) ∨ 960 < off ∨ tmo < 1 ∨ 200 < tmo) ||
    !((isMulticast dst && !isLocalGroup dst) || (dst == linkIp s (getField c 25 24) && dst != 0))

/-- R182: the checks of a transmit entry, RANGE. -/
def txRange (ws : List Word) : Bool :=
  let dst := ws.getD 2 0
  dst == 0 || dst == 0xFFFFFFFF#32 || isLocalGroup dst

/-- R182: another enabled receive entry on the same link takes the same packets. -/
def rxTwin (s : State) (j : Nat) (ws : List Word) : Bool :=
  let open_ (ctrl src : Word) : Bool := src == 0 && !bit ctrl 12
  (List.range 32).any fun i => i != j && strOn s 0 i &&
    getField (s.rd (P.rx i)) 25 24 == getField (ws.getD 0 0) 25 24 && s.rd (P.rx i + 8) == ws.getD 2 0 &&
    getField (s.rd (P.rx i + 0xC)) 15 0 == getField (ws.getD 3 0) 15 0 &&
    open_ (s.rd (P.rx i)) (s.rd (P.rx i + 0x10)) && open_ (ws.getD 0 0) (ws.getD 4 0)

/-- R182: the checks of an enabling write of entry `j` with words `ws`, in the order of R46. -/
def strCheck (s : State) (dir j : Nat) (ws : List Word) : Code :=
  let nch := getField (ws.getD 0 0) 6 0
  let first := getField (ws.getD 1 0) 9 0
  let used := chansHeld s dir j
  if strRange ws || (if dir = 0 then rxRange s ws else txRange ws) then .range
  else if linkIp s (getField (ws.getD 0 0) 25 24) = 0 ∨ (dir = 0 ∧ !s.isSet (P.eth 0) F.ETH_BUF_CFG_EN) then .state
  else if first ≠ 0x3FF ∧ (List.range nch).any (fun i => used.contains (first + i)) then .state
  else if dir = 0 ∧ rxTwin s j ws then .state
  else if 256 < used.length + nch ∨ (first = 0x3FF ∧ (freeRun used nch).isNone) then .full
  else .done

/-- ETH_CH_USED and ETH_STR_USED. -/
def strUsed (s : State) : State :=
  let ch (d : Nat) : Nat := ((List.range 32).flatMap (strChans s d)).length
  let en (d : Nat) : Nat := ((List.range 32).filter (strOn s d)).length
  let b := P.eth 0
  (((s.setF b F.ETH_CH_USED_TX (ch 1)).setF b F.ETH_CH_USED_RX (ch 0)).setF b F.ETH_STR_USED_TX (en 1)).setF b F.ETH_STR_USED_RX (en 0)

/-- R182, R183, R192, R194: entry `j`, whose words stand in the table, takes its channels. -/
def strTake (dir j : Nat) (s : State) : State :=
  let b := strBase dir j
  let nch := getField (s.rd b) 6 0
  let first := getField (s.rd (b + 4)) 9 0
  let a := if first = 0x3FF then (freeRun (chansHeld s dir j) nch).getD 0x3FF else first
  let s := (s.setF b F.STR_RX_CTRL_EN 1).setF b F.STR_RX_CHAN_ALLOC a
  if dir = 0 then
    let s := (s.onRx j fun _ => RxHid.reset).setF b F.STR_RX_CTRL_STATE 1
    strUsed ((s.wr (b + 0x20) 0).wr (b + 0x24) 0)
  else
    let d := s.draw
    let s := if s.rd (b + 0x14) = 0 then d.2.wr (b + 0x14) d.1 else s
    let q := s.draw
    let s := q.2.onTx j fun _ => { TxHid.reset with seq := q.1.setWidth 16 }
    strUsed (txSettle (s.setF b F.STR_TX_CTRL_STATE 0) j)

/-- The link of an entry. -/
def strLink (s : State) (dir j : Nat) : Nat := s.getF (strBase dir j) F.STR_RX_CTRL_LINK

/-- R172, R182: entry `j` is enabled: its link joins its group. -/
def strEnable (s : State) (dir j : Nat) : State := regroup (strLink s dir j) (strTake dir j) s

/-- R181: an entry is OFF: its channels are free. -/
def strFree (dir j : Nat) (s : State) : State :=
  let b := strBase dir j
  let s := (s.setF b F.STR_RX_CTRL_STATE 0).setF b F.STR_RX_CHAN_ALLOC 0x3FF
  if dir = 0 then strUsed (s.onRx j fun _ => RxHid.reset)
  else strUsed ((s.onTx j fun _ => TxHid.reset).setF b F.STR_TX_HOLD_V 0)

/-- R181: an entry is OFF, and its group left. -/
def strClose (s : State) (dir j : Nat) : State := regroup (strLink s dir j) (strFree dir j) s

/-- R181: an entry is disabled; it ends in the next period. -/
def strDisable (s : State) (dir j : Nat) : State :=
  let b := strBase dir j
  let s := s.setF b F.STR_RX_CTRL_EN 0
  strUsed (if dir = 0 then s.onRx j fun x => { x with off := true } else s.onTx j fun x => { x with off := true })

/-- R181, R182: a write of an entry's CTRL word. -/
def strCtrlWrite (dir j : Nat) (v : Word) : Act := fun s =>
  let b := strBase dir j
  let next := (regAt b).map (·.store (s.rd b) v)
  if strOn s dir j then
    (if bit v 31 then (if next = some (s.rd b) then (.done, s) else (.state, s)) else (.done, strDisable s dir j))
  else if bit v 31 then
    let c := strCheck s dir j (v :: (strWords s dir j).drop 1)
    if c = .done then (.done, strEnable ((strClose s dir j).store b v) dir j) else (c, s)
  else (.done, s.store b v)

/-- R32, R181: a write of a word of an entry. -/
def strWrite (dir j off : Nat) (v : Word) : Act :=
  if off = 0 then strCtrlWrite dir j v
  else if (regAt (strBase dir j + off)).map (·.kind) = some .counter then plain (strBase dir j + off) v
  else need (fun s => !strOn s dir j) .state (plain (strBase dir j + off) v)

/-- The base of the entry that a stream row names. -/
def strAddr (tx : Bool) (j : Nat) : Nat := strBase (b2n tx) j

/-- STREAM_ENABLE (R182): an entry's CTRL word is written with EN = 1. -/
def execStreamEnable (r : Req) (tx : Bool) (j : Fin 32) (v : Word) (s : State) : Host.Outcome State Fault Refusal :=
  .next (hostWrite r (strAddr tx j) (strCtrlWrite (b2n tx) j (setField v 31 31 1)) s)

/-- STREAM_DISABLE (R181): an entry's CTRL word is written with EN = 0. -/
def execStreamDisable (r : Req) (tx : Bool) (j : Fin 32) (v : Word) (s : State) : Host.Outcome State Fault Refusal :=
  .next (hostWrite r (strAddr tx j) (strCtrlWrite (b2n tx) j (setField v 31 31 0)) s)

/-! ### Receive -/

/-- R186: the address of a network channel's ring position. -/
def ringAddr (s : State) (c q : Nat) : Nat :=
  0x800000 + (s.getF (P.eth 0) F.ETH_BUF_CFG_FIRST + c / 64) * 0x40000 + c % 64 * 0x1000 + q % 1024 * 4

/-- R187: the presentation period of a packet's first instant. -/
def firstPeriod (p : Nat) (ts tsoff : Word) (linkoff : Nat) : Int :=
  let d := (ts - tsoff + BitVec.ofNat 32 linkoff - BitVec.ofNat 32 p).toInt
  if (p : Int) + d < 0 then (p : Int) + d + 2 ^ 32 else (p : Int) + d

/-- R13, R185: the samples of a payload, in network byte order, left-justified. -/
def rtpSamples (bytes : Nat) : List Byte → List Int
  | a :: b :: c :: t =>
    if bytes = 3 then (signed 24 (a.toNat * 65536 + b.toNat * 256 + c.toNat)) * 256 :: rtpSamples 3 t
    else (signed 16 (a.toNat * 256 + b.toNat)) * 65536 :: rtpSamples bytes (c :: t)
  | [a, b] => if bytes = 2 then [(signed 16 (a.toNat * 256 + b.toNat)) * 65536] else []
  | _ => []

/-- R184: receive entry `j` takes a packet that came by link `n`. -/
def rxMatch (s : State) (n : Nat) (p : RtpPacket) (j : Nat) : Bool :=
  let b := P.rx j
  strOn s 0 j && s.getF b F.STR_RX_CTRL_LINK == n && s.rd (b + 8) == p.dst &&
    s.getF b F.STR_RX_PORT_DPORT == p.dport.toNat && (s.rd (b + 0x10) == 0 || s.rd (b + 0x10) == p.src) &&
    (!s.isSet b F.STR_RX_CTRL_SSRCF || s.rd (b + 0x14) == p.ssrc)

/-- R189: a counter of an entry counts a packet that is not used. -/
def rxRefuse (s : State) (n j : Nat) (f : Fld) : State := (s.bump (P.rx j) f).err (P.eth n)

/-- R190: the SSRC of a packet: accepted or not, and the state after it. -/
def rxSsrc (s : State) (j : Nat) (p : RtpPacket) : Bool × State :=
  let b := P.rx j
  if s.isSet b F.STR_RX_CTRL_SSRCF ∨ ((s.rx j).newest.isSome ∧ s.rd (b + 0x20) = p.ssrc) then
    (true, s.onRx j fun x => { x with cand := none })
  else if (s.rx j).newest.isNone then (true, s)
  else
    let k := match (s.rx j).cand with
      | some (c, k) => if c = p.ssrc then k + 1 else 1
      | none => 1
    if 4 ≤ k then
      (true, (((s.onRx j fun x => { x with cand := none }).wr (b + 0x20) p.ssrc).bump b F.STR_RX_SSRC_CNT_COUNT).raise (P.eth 0) 11)
    else (false, s.onRx j fun x => { x with cand := some (p.ssrc, k) })

/-- R187: one instant is stored in its channels' rings. -/
def storeInstant (s : State) (chans : List Nat) (q : Nat) (xs : List Int) : State :=
  forEach (chans.zip xs) (fun e s => s.storeWord (ringAddr s e.1 q) (toWord e.2)) s

/-- A list cut into pieces of `n`, at most `k` of them. -/
def chunks {α : Type} (n : Nat) : Nat → List α → List (List α)
  | 0, _ => []
  | k + 1, l => if l.isEmpty then [] else l.take n :: chunks n k (l.drop n)

/-- R188: the fill levels of the last second and LEVEL. -/
def rxLevel (s : State) (j p : Nat) (lv : Int) : State :=
  let l := (p, lv) :: (s.rx j).levels.filter fun e => decide (p < e.1 + 48000)
  let s := s.onRx j fun x => { x with levels := l }
  (s.setS (P.rx j) F.STR_RX_LEVEL_NOW lv).setS (P.rx j) F.STR_RX_LEVEL_MIN (l.foldl (fun m e => min m e.2) lv)

/-- R188: a packet with late instants is counted; the first after a good one raises STR_LATE. -/
def rxLate (s : State) (j : Nat) : State :=
  let first := !(s.rx j).late
  let s := (s.bump (P.rx j) F.STR_RX_LATE_CNT_COUNT).onRx j fun x => { x with late := true }
  if first then s.raise (P.eth 0) 10 else s

/-- R187, R188, R190, R192: a packet of stream `j` is accepted: instants with their periods. -/
def rxAccept (s : State) (j p : Nat) (q0 : Int) (pk : RtpPacket) (inst : List (List Int)) : State :=
  let b := P.rx j
  let n : Int := inst.length
  let late := decide (q0 ≤ p)
  let qs := (inst.mapIdx fun i x => (q0 + i, x)).filter fun e => decide ((p : Int) < e.1)
  let top := (q0 + n - 1).toNat
  let reord := match (s.rx j).newest with
    | some t => decide (top < t)
    | none => false
  let s := if s.sys.mode = .idle then s else
    forEach qs (fun e s => storeInstant s (strChans s 0 j) e.1.toNat e.2) s
  let s := s.onRx j fun x => { x with
    held := if s.sys.mode = .idle then x.held else x.held ++ ((qs.map fun e => e.1.toNat).filter fun q => !x.held.contains q)
    pkts := if s.sys.mode = .idle then x.pkts else alSet x.pkts q0.toNat inst
    newest := some (max top (x.newest.getD 0))
    late := if late then x.late else false }
  let s := if late then rxLate s j else s
  let s := if reord then s.bump b F.STR_RX_REORD_CNT_COUNT else s
  let s := rxLevel ((s.inc64 (b + 0x28)).wr (b + 0x20) pk.ssrc) j p (q0 + n - 1 - p)
  if s.getF b F.STR_RX_CTRL_STATE = 2 then s else (s.setF b F.STR_RX_CTRL_STATE 2).raise (P.eth 0) 8

/-- R188: what becomes of a valid packet: late, early or accepted. -/
def rxTimed (s : State) (j : Nat) (pk : RtpPacket) : State :=
  let b := P.rx j
  let p := (s.get64 (P.clk + 0x68)).toNat
  let len := ptimeLen (s.getF b F.STR_RX_CTRL_PTIME)
  let q0 := firstPeriod p pk.ts (s.rd (b + 0x18)) (s.getF b F.STR_RX_TIMING_LINKOFF)
  let top := q0 + len - 1
  if top ≤ p then rxLate s j
  else if (p : Int) + 1023 < top then s.bump b F.STR_RX_EARLY_CNT_COUNT
  else rxAccept s j p q0 pk (chunks (s.getF b F.STR_RX_CTRL_NCH) len (rtpSamples (sampleBytes (s.rd b)) pk.payload))

/-- R189, R190: a packet that entry `j` matches. ERR_CNT does not count one discarded for its SSRC (R199). -/
def rxPacket (s : State) (n j : Nat) (pk : RtpPacket) : State :=
  let b := P.rx j
  let size := s.getF b F.STR_RX_CTRL_NCH * ptimeLen (s.getF b F.STR_RX_CTRL_PTIME) * sampleBytes (s.rd b)
  if pk.version ≠ 2 ∨ pk.pt ≠ s.getF b F.STR_RX_PORT_PT ∨ pk.payload.length ≠ size then
    rxRefuse s n j F.STR_RX_FORMAT_CNT_COUNT
  else
    let o := rxSsrc s j pk
    if o.1 then rxTimed o.2 j pk else o.2.bump b F.STR_RX_FORMAT_CNT_COUNT

/-- R184-R190: a datagram whose UDP checksum is wrong is counted; another packet goes to the lowest entry that matches it; one that none
matches is dropped. -/
def rtpIn (n : Nat) (p : RtpPacket) (s : State) : State :=
  if p.badSum then csumIn n s
  else match (List.range 32).find? (rxMatch s n p) with
    | some j => rxPacket s n j p
    | none => dropIn n s

/-- STREAM_STALL (R192): no packet accepted for TMO x 10 ms. -/
def execStreamStall (j : Fin 32) (s : State) : Host.Outcome State Fault Refusal :=
  if strOn s 0 j ∧ s.getF (P.rx j) F.STR_RX_CTRL_STATE = 2 then
    let s := ((s.setF (P.rx j) F.STR_RX_CTRL_STATE 3).bump (P.rx j) F.STR_RX_STALL_CNT_COUNT).raise (P.eth 0) 9
    .next (s.onRx j fun x => { RxHid.reset with off := x.off, newest := x.newest, cand := x.cand, levels := x.levels })
  else .next s

/-! ### Presentation -/

/-- R191: the concealment value of channel `i` at step `k` of a concealment. -/
def concealAt (base : List (List Int)) (k i : Nat) : Rat :=
  if base = [] then 0
  else (((base.getD ((k - 1) % base.length) []).getD i 0 : Int) : Rat) * max 0 (1 - (k : Rat) / 192)

/-- R191: stream `j` presents a received instant: crossfaded from the concealment for 48 instants after it. -/
def rxPlay (s : State) (j : Nat) (xs : List Int) : State × List Int :=
  let x := s.rx j
  let fade := s.isSet (P.rx j) F.STR_RX_CTRL_CONCEAL
  let begins := (x.gap ≠ 0 || !x.started) && x.xfade == 0
  let m := if !fade then 0 else if begins then 1 else if x.xfade ≠ 0 then x.xfade + 1 else 0
  let k := x.gap + 1
  let out := if m = 0 then xs else xs.mapIdx fun i (v : Int) =>
    let y : Rat := (v : Rat) * m / 48 + concealAt x.base k i * (1 - (m : Rat) / 48)
    quantI y.num y.den
  (s.onRx j fun x => { x with
    started := true, xfade := if 48 ≤ m then 0 else m,
    gap := if m = 0 ∨ 48 ≤ m then 0 else k }, out)

/-- R191: the last packet received before period `p`: that whose first instant comes last before it. -/
def pktBefore (l : List (Nat × List (List Int))) (p : Nat) : List (List Int) :=
  ((l.foldl (fun (m : Option (Nat × List (List Int))) e =>
    if e.1 < p ∧ (m.map (·.1)).getD 0 ≤ e.1 then some e else m) none).map (·.2)).getD []

/-- R191: an instant of stream `j` is missing in period `p`. -/
def rxMiss (s : State) (j p nch : Nat) : State × List Int :=
  let b := P.rx j
  let x := s.rx j
  if !x.started then (s, List.replicate nch 0)
  else
    let fresh := x.gap == 0 || x.xfade != 0
    let base := if fresh then pktBefore x.pkts p else x.base
    let k := if fresh then 1 else x.gap + 1
    let s := if fresh then s.bump b F.STR_RX_CONC_CNT_COUNT else s
    let s := if (k - 1) % ptimeLen (s.getF b F.STR_RX_CTRL_PTIME) = 0 then s.bump b F.STR_RX_LOST_CNT_COUNT else s
    let s := s.onRx j fun x => { x with gap := k, xfade := 0, base := base }
    (s, if s.isSet b F.STR_RX_CTRL_CONCEAL then (List.range nch).map fun i =>
      (let y := concealAt base k i; quantI y.num y.den) else List.replicate nch 0)

/-- R186, R191, R192: what the channels of stream `j` present in period `p`; channels in `ecc` meet an uncorrectable error. -/
def rxPeriod (s : State) (j p : Nat) (ecc : List Nat) : State × List (Nat × Int) :=
  let chans := strChans s 0 j
  if s.getF (P.rx j) F.STR_RX_CTRL_STATE ≠ 2 then (s, chans.map fun c => (c, 0))
  else
    let r := if (s.rx j).held.contains p then
        rxPlay s j (chans.map fun c => if ecc.contains c then 0 else (wordAt s.mem (ringAddr s c p)).toInt)
      else rxMiss s j p chans.length
    let s := r.1.onRx j fun x => { x with
      held := x.held.filter fun q => decide (p < q)
      pkts := x.pkts.filter fun e => decide (p ≤ e.1 + 1024) }
    let bad := chans.any fun c => ecc.contains c
    let ys := match (s.rx j).fading with
      | some k => r.2.map fun v => quantI (v * k) 48
      | none => r.2
    (if bad then s.raise (P.eth 0) 25 else s, chans.zip ys)

/-- R18, R183, R192: the samples of the network sources in period `p`; channels outside every stream are absent. -/
def rxPresent (s : State) (p : Nat) (ecc : List Nat) : State × List (Nat × Int) :=
  (List.range 32).foldl (fun so j =>
    if strFirst so.1 0 j = 0x3FF then so else
      let r := rxPeriod so.1 j p ecc
      (r.1, so.2 ++ r.2)) (s, [])

/-- R181: step 3 of R15: disables written before this period take effect; a fade-out of 1 ms goes on, and its end frees
the channels. -/
def strApply (s : State) : State :=
  let s := forEach (List.range 32) (fun j s =>
    match (s.rx j).fading with
    | some k => if k ≤ 1 then strClose s 0 j else s.onRx j fun x => { x with fading := some (k - 1) }
    | none => if (s.rx j).off then s.onRx j fun x => { x with fading := some 48, off := false } else s) s
  forEach (List.range 32) (fun j s => if (s.tx j).off ∧ (s.tx j).buf = [] then strClose s 1 j else s) s

/-- R193: at a step of the fabric count every receive ring is cleared, and each stream fades in at its next packet. -/
def rxRecentre (s : State) : State :=
  s.onNet fun t => { t with rx := t.rx.map fun x => { x.afresh with held := [], pkts := [] } }

/-! ### Transmit -/

/-- R196: a packet period begins: a stream in HOLD whose condition has ended is in RUN. -/
def txBoundary (s : State) (j : Nat) : State :=
  if strOn s 1 j ∧ s.getF (P.tx j) F.STR_TX_CTRL_STATE = 1 ∧ txHold s j = 0 then txRun s j else s

/-- R194: the sinks of transmit stream `j` are sampled in period `p` (zeros in Idle, R196). -/
def txSample (s : State) (p j : Nat) : State :=
  if strFirst s 1 j = 0x3FF then s
  else
    let s := if p % ptimeLen (s.getF (P.tx j) F.STR_TX_CTRL_PTIME) = 0 then txBoundary s j else s
    let len := ptimeLen (s.getF (P.tx j) F.STR_TX_CTRL_PTIME)
    let inst := (strChans s 1 j).map fun c => if s.sys.mode = .idle then 0 else (alGet s.comb.outs c).getD 0
    s.onTx j fun x =>
      if p % len = 0 then (if x.off then x else { x with live := true, buf := [inst] })
      else if x.live ∧ x.buf ≠ [] then { x with buf := x.buf ++ [inst] } else x

/-- R194: every transmit stream samples its sinks. -/
def txSampleAll (s : State) (p : Nat) : State := forEach (List.range 32) (fun j s => txSample s p j) s

/-- R13, R185: a sample as the bytes of a payload, most significant first, and whether it saturated. -/
def rtpBytes (bytes : Nat) (x : Int) : List Byte × Bool :=
  let y := roundShift x (32 - 8 * bytes)
  let z := satS (8 * bytes) y
  ((leBytes bytes (unsigned (8 * bytes) z)).reverse, z != y)

/-- R173, R194, R195: the frame of a packet of stream `j`. Its rank is by packet time, then by entry. -/
def rtpFrame (s : State) (j : Nat) (seq : BitVec 16) (ts : Word) (payload : List Byte) : Sent :=
  let b := P.tx j
  let n := s.getF b F.STR_TX_CTRL_LINK
  let dst := s.rd (b + 8)
  let port (f : Fld) : BitVec 16 := BitVec.ofNat 16 (s.getF b f)
  let f := { otherFrame s n ((macOf s n dst).getD 0) (.rtp (s.getF b F.STR_TX_RTP_PT) seq ts (s.rd (b + 0x14)) payload) with
    cls := j, rank := 1 + 32 * s.getF b F.STR_TX_CTRL_PTIME + j, tag := tagOf s n (s.getF (P.eth n) F.ETH_CFG_PCP_MEDIA) }
  overUdp s n dst (s.getF (P.eth n) F.ETH_IPCFG_DSCP_MEDIA) (port F.STR_TX_PORT_SPORT) (port F.STR_TX_PORT_DPORT) f

/-- STREAM_PACKET_TX (R194-R196): a packet period of stream `j` has ended: its packet is sent, or skipped in HOLD. -/
def execStreamPacketTx (j : Fin 32) (s : State) : Host.Outcome State Fault Refusal :=
  let b := P.tx j
  let n := s.getF b F.STR_TX_CTRL_LINK
  let len := ptimeLen (s.getF b F.STR_TX_CTRL_PTIME)
  let x := s.tx j
  if strFirst s 1 j ≠ 0x3FF ∧ awake s ∧ (x.buf.length = len ∨ (s.stopped ∧ strOn s 1 j)) then
    let s := txSettle s j
    let done (s : State) : State := if (s.tx j).off then strClose s 1 j else s
    let s0 := s.onTx j fun x => { x with buf := [], seq := x.seq + 1 }
    if txHold s j ≠ 0 ∨ s.getF b F.STR_TX_CTRL_STATE = 1 then .next (done (s0.bump b F.STR_TX_SKIP_CNT_COUNT))
    else
      let out := x.buf.flatten.map (rtpBytes (sampleBytes (s.rd b)))
      let m := (s.get64 (P.clk + 0x68)).toNat / len
      let ts := BitVec.ofNat 32 (m * len) + s.rd (b + 0x18)
      let s := sendFrame s0 n (rtpFrame s j x.seq ts (out.flatMap (·.1)))
      let s := (s.inc64 (b + 0x28)).setF b F.STR_TX_SEQ_V x.seq.toNat
      .next (done (s.countN (P.eth n + 0x20) (out.filter (·.2)).length))
  else .next s

/-! ### Commands -/

/-- The lowest OFF entry of a direction. -/
def freeEntry (s : State) (dir : Nat) : Option Nat := (List.range 32).find? fun j => !strOn s dir j

/-- The words of a STREAM_SET written to entry `j`. -/
def strPut (s : State) (dir j : Nat) (ws : List Word) : State :=
  forEach (ws.mapIdx fun i w => (i, w)) (fun e s => s.store (strBase dir j + 4 * e.1) (if e.1 = 0 then setField e.2 31 31 0 else e.2)) s

/-- R201: STREAM_SET. -/
def streamSetBody (q : PlReq) (s : State) : PlAns :=
  let dir := field q.payload 0 1
  let idx := field q.payload 1 1
  let ws := toWords (q.payload.drop 4)
  if q.payload.length ≠ 36 ∨ 1 < dir ∨ (32 ≤ idx ∧ idx ≠ 0xFF) ∨ field q.payload 2 2 ≠ 0 then nak s (P.eth 0) .range
  else
    let slot := if idx = 0xFF then freeEntry s dir else some idx
    let j := slot.getD 32
    let c := strCheck s dir j ws
    if c = .range then nak s (P.eth 0) .range
    else if idx ≠ 0xFF ∧ strOn s dir idx then nak s (P.eth 0) .state
    else if c = .state then nak s (P.eth 0) .state
    else if slot.isNone ∨ c ≠ .done then nak s (P.eth 0) .full
    else
      let s := strEnable (strPut (strClose s dir j) dir j ws) dir j
      ok s ([BitVec.ofNat 8 j, 0] ++ leBytes 2 (strFirst s dir j))

/-- STREAM_SET (R201). -/
def execStreamSet (q : PlReq) (s : State) : Host.Outcome State Fault Refusal :=
  .next (runPlosto 0x20 q (onPage (P.eth 0) true (streamSetBody q)) s)

/-- R201: STREAM_CLEAR. -/
def streamClearBody (q : PlReq) (s : State) : PlAns :=
  let dir := field q.payload 0 1
  let idx := field q.payload 1 1
  if q.payload.length ≠ 4 ∨ 1 < dir ∨ (32 ≤ idx ∧ idx ≠ 0xFF) ∨ field q.payload 2 2 ≠ 0 then nak s (P.eth 0) .range
  else
    let l := (List.range 32).filter fun j => strOn s dir j && (idx == 0xFF || j == idx)
    if l = [] then nak s (P.eth 0) .absent else ok (forEach l (fun j s => strDisable s dir j) s) []

/-- STREAM_CLEAR (R201). -/
def execStreamClear (q : PlReq) (s : State) : Host.Outcome State Fault Refusal :=
  .next (runPlosto 0x21 q (onPage (P.eth 0) true (streamClearBody q)) s)

/-- R201: STREAM_QUERY. -/
def streamQueryBody (q : PlReq) (s : State) : PlAns :=
  let dir := field q.payload 0 1
  let idx := field q.payload 1 1
  if q.payload.length ≠ 4 ∨ 1 < dir ∨ (32 ≤ idx ∧ idx ≠ 0xFF) ∨ field q.payload 2 2 ≠ 0 then nak s (P.eth 0) .range
  else if idx = 0xFF then
    ok s (wordsBytes ([s.rd (P.eth 0 + 0x104), s.rd (P.eth 0 + 0x108)] ++ (List.range 32).map fun j => s.rd (strBase dir j)))
  else ok s (wordsBytes ((List.range 32).map fun i => s.rd (strBase dir idx + 4 * i)))

/-- STREAM_QUERY (R201). -/
def execStreamQuery (q : PlReq) (s : State) : Host.Outcome State Fault Refusal :=
  .next (runPlosto 0x22 q (onPage (P.eth 0) false (streamQueryBody q)) s)

end Sys2Proof.Machine
end

