-- ==== Sys2Proof/Machine/PowerOps.lean ====
section
/-! DEFINITION. Power states: what an entry stops and loses (R434-R438), what a failed and a completed wake do (R439-R444),
and the refusals of a request (R432, R433). -/

namespace Sys2Proof.Machine

/-! ### Refusals -/

/-- R432: a refuser: block type, instance and unit, with its reason. -/
structure Refuser where
  ty : Nat
  inst : Nat
  unit : Nat
  reason : Nat
deriving DecidableEq, Repr

/-- R426, R432: a wake source other than WAKE_IN is enabled for a target: its bit of PWR_WAKE_EN is 1, and for the Scout,
knock and cue sources a slot, a pattern or a cue that listens has WAKE = 1. -/
def hasSource (s : State) (t : PwrMode) : Bool :=
  let en (b : Nat) : Bool := bit (s.rd (P.pwr + 0x4C)) b
  en 1 || (t == .sleep &&
    ((en 2 && (List.range 4).any fun k => s.isSet (slotBase k) F.SCT_SLOT_CFG_EN && s.isSet (slotBase k) F.SCT_SLOT_CFG_WAKE) ||
     (en 3 && (List.range 4).any fun k => s.isSet (P.sct + 4 * k) F.SCT_KP_CFG_EN && s.isSet (P.sct + 4 * k) F.SCT_KP_CFG_WAKE) ||
     (en 4 && (cuesLive s).any fun k => bit (cueAt s k).ctrl 7)))

/-- R432: the first core in RUNNING, as a refuser of Idle. -/
def runningCore (s : State) : Option Refuser :=
  ((List.range 20).find? fun c => coreSt s c == 3).map fun c => ⟨coreType c, coreUnit c, 0, 2⟩

/-- R432: the first refuser of a target, in the order of the table, but for the drain; FORCE overrides all but DISABLED,
WAKE_PENDING and NO_WAKE (R431). -/
def refuser (s : State) (t : PwrMode) (force : Bool) : Option Refuser :=
  let low := t != .idle
  let deep := t == .deep || t == .off
  if !s.en P.pwr then some ⟨2, 0, 0, 9⟩
  else if low && s.sys.wakeIn then some ⟨2, 0, 0, 5⟩
  else if (t == .sleep || t == .deep) && s.isSet P.pwr F.PWR_CFG_NEEDSRC && !hasSource s t then some ⟨2, 0, 0, 6⟩
  else if force then none
  else if !low && activeCount s != 0 then some ⟨0x10, 0, 0, 1⟩
  else if !low && (runningCore s).isSome then runningCore s
  else if deep && s.isSet P.sct F.SCT_STAT_VAD then some ⟨0x15, 0, 0, 4⟩
  else if low && (s.kpr.session.isSome || s.kpr.verify.isSome) then some ⟨6, 0, 0, 7⟩
  else if low && s.lsv.test.isSome then some ⟨0x23, 0, 0, 8⟩
  else none

/-- R433: a refusal of a host request is counted, raises REFUSED, and is kept in the refusal ring. -/
def rfsPut (s : State) (t : Nat) (r : Req) (x : Refuser) : State :=
  let n := s.getF P.pwr F.PWR_RFS_HEAD_NEXT
  let secs := (s.get64 0x006068).toNat / 1000 % 65536
  let s := s.wr (P.pwr + 0x100 + 8 * n) (BitVec.ofNat 32 (x.ty * 0x10000 + x.inst * 0x100 + x.unit))
  let s := s.wr (P.pwr + 0x104 + 8 * n) (BitVec.ofNat 32 (t * 0x10000000 + r.code * 0x1000000 + x.reason * 0x10000 + secs))
  let s := s.setF P.pwr F.PWR_RFS_HEAD_NEXT ((n + 1) % 16)
  let s := if n = 15 then s.setF P.pwr F.PWR_RFS_HEAD_WRAPPED 1 else s
  ((s.bump P.pwr F.PWR_RFS_CNT_COUNT).raise P.pwr 1).err P.pwr

/-- The power state a code of R445 names; Run cannot be asked for. -/
def targetOf (c : Nat) : Option PwrMode :=
  match c with
  | 1 => some .idle | 2 => some .sleep | 3 => some .deep | 4 => some .off | _ => none

/-! ### Entry -/

/-- R434: an entry begins. A forced one ends an update session and a self-test (R431). -/
def entryBegin (s : State) (t : PwrMode) (kind : Nat) (r : Req) (cmd addr : Nat) : State :=
  let s := if kind = 2 then testAbort (sessionAbort s) else s
  (s.setSt P.pwr 4).onSys fun y =>
    { y with entry := some { target := t, kind := kind, from_ := y.mode, prepared := false, source := none,
                             req := r, cmd := cmd, addr := addr } }

/-- R431-R433: a request of a host for a target: RANGE, STATE with its refuser, BUSY while an entry is under way, or DONE.
The part is already in Idle when Idle is asked for there. -/
def powerAsk (s : State) (c : Nat) (force : Bool) (r : Req) (cmd addr : Nat) : Code × Option Refuser × State :=
  match targetOf c with
  | none => (.range, none, s)
  | some t =>
    if force ∧ t = .idle then (.range, none, s)
    else match refuser s t force with
      | some x => (.state, some x, rfsPut s c r x)
      | none =>
        if s.sys.entry.isSome then (.busy, none, s)
        else if t = .idle ∧ s.sys.mode = .idle then (.done, none, s)
        else (.done, none, entryBegin s t (if force then 2 else 0) r cmd addr)

/-- R446: a request that a check of another kind refuses counts in ERR_CNT. -/
def askCount (o : Code × Option Refuser × State) : State :=
  if o.1 = .range ∨ o.1 = .busy then o.2.2.err P.pwr else o.2.2

/-- PG_STAT.STATE of PWR outside an entry (R446). -/
def pwrShow (s : State) : State := s.setSt P.pwr (if s.sys.mode = .idle then 3 else 2)

/-- The entry is no longer under way. -/
def entryOver (s : State) : State := pwrShow (s.onSys fun y => { y with entry := none })

/-- R430: the candidates of the idle timer, deepest first: not deeper than AUTO_MAX, and within the tolerance. -/
def autoCands (s : State) : List PwrMode :=
  let tol := s.getF P.pwr F.PWR_TOL_TOL
  ([(PwrMode.off, 120000), (.deep, 3000), (.sleep, 200), (.idle, 5)].filter fun e =>
    decide (e.1.code ≤ s.getF P.pwr F.PWR_CFG_AUTO_MAX ∧ e.2 ≤ tol)).map (·.1)

/-- R430: the first candidate that no check refuses is entered; the others leave no record. -/
def autoTry (s : State) (l : List PwrMode) : State :=
  match l.find? fun t => (refuser s t false).isNone with
  | some t => entryBegin s t 1 .keeper 0xFF 0
  | none => s

/-- R434: MEM descriptors that have not drained. -/
def undrained (s : State) : List (Fin 32) := (List.finRange 32).filter fun c => frgSt s c == 2

/-- R445: the PWR_ENTRY record. -/
def entryRecord (s : State) (e : Entry) : State :=
  s.log 0x00B0 0 0x0002 0 ([BitVec.ofNat 8 e.from_.code, BitVec.ofNat 8 e.target.code, BitVec.ofNat 8 e.kind, 0] ++
    wordBytes (s.rd (P.pwr + 0x48)) ++ wordBytes (s.rd (P.pwr + 0x44)))

/-- R434 steps 3-5: cores and outputs stop, the front end is asked for listening mode, and for Deep sleep and Off the
mirror pass runs and the record is written. From Sleep nothing is left to stop (R435). -/
def prepare (s : State) (e : Entry) : State :=
  let s := if e.from_ = .sleep then s
    else
      let s := forEach (List.range 20) (fun c s => if 3 ≤ coreSt s c ∧ coreSt s c ≤ 6 then s.setSt (P.core c) 2 else s) s
      pdmRequest (outputsStop s) false
  if e.target = .sleep then s
  else
    let s := flushRecs s
    entryRecord (if mirrors s ∧ flsReady s then mirrorPass s else s) e

/-- R435: an entry is abandoned: the outputs that were stopped or muted start again, the cores stay STOPPED. An escalation
leaves the part in Sleep; its abandoning source wakes it if it wakes from Sleep. -/
def abandon (s : State) (e : Entry) : State :=
  let s := (entryOver s).raise P.pwr 2
  if s.sys.mode = .sleep then
    match e.source with
    | some src =>
      if src = 1 ∨ src = 8 ∨ wakeEnabled s (src - 1) .sleep then s.onSys fun y => { y with waking := some src } else s
    | none => s
  else if e.target = .idle then (if e.prepared then s.idleUnmuteAll else s)
  else if e.prepared then
    let s := pdmRequest (outputsAgain s) true
    if s.sys.mode = .idle then s.idleMuteAll else s
  else s

/-! ### What a domain loses -/

/-- R38: the events of a domain's pages read 0 after it has been off. -/
def eventsLost (s : State) (d : Dom) : State :=
  forEach ((List.range 77).filter fun i => domOf (pageOfIndex i) == some d) (fun i s => s.wr (pageOfIndex i + 0x00C) 0) s

/-- R436: the frames of CORE not retained come back as zeros. -/
def framesLost (s : State) : State :=
  forEach (List.range 31) (fun k s =>
    if bit (s.rd (P.pwr + 0x48)) k then s else s.zeroMem (0x800000 + 0x40000 * k) (0x840000 + 0x40000 * k)) s

/-- R436: a delay line keeps its contents if every frame of the delay memory is retained, and loses them if none is.
Otherwise it depends on where its granules lie, which the manual leaves open: a free value says. -/
def delaysLost (s : State) : State :=
  let fs := (List.range (s.getF P.cmb F.CMB_DLY_CFG_NFRM)).map fun i => s.getF P.cmb F.CMB_DLY_CFG_FIRST + i
  let kept := fs.filter fun k => bit (s.rd (P.pwr + 0x48)) k
  if kept.length = fs.length then s
  else forEach ((s.comb.sinks.filter fun e => heldGranules e.2 != 0).map (·.1)) (fun k s =>
    let d := if kept = [] then (0, s) else s.draw
    if bit d.1 0 then d.2 else onSink d.2 k fun h => { h with line := [], quiet := 24032 }) s

/-- R198: a link whose interface is off: down, its PTP port in INITIALIZING, and NOLINK on the return. -/
def linkLost (s : State) (n : Nat) : State :=
  if 3 ≤ s.st (P.eth n) then
    let s := (linkLeave s n).setF (P.eth n) F.ETH_LINK_LINK 0
    let s := s.onLink n fun l => { l with polls := 0, asked := [], waiting := [], reports := [], sent := [] }
    ptpRestart (((s.setSt (P.eth n) 3).setF (P.eth n) F.ETH_LINK_REASON 1)) n
  else s

/-- R181, R198: an enabled receive stream waits for packets again, and a transmit stream is held; one that was closing is OFF. -/
def streamLost (s : State) (j : Nat) : State :=
  let s := if strOn s 0 j then (s.onRx j fun _ => RxHid.reset).setF (P.rx j) F.STR_RX_CTRL_STATE 1
    else if strFirst s 0 j ≠ 0x3FF then strClose s 0 j else s
  if strOn s 1 j then txSettle (s.onTx j fun x => { TxHid.reset with seq := x.seq }) j
  else if strFirst s 1 j ≠ 0x3FF then strClose s 1 j else s

/-- R230, R227: LISTEN is off: the seal closes, the ring and the models are gone, the Scout is STOPPED. -/
def listenLost (s : State) : State :=
  let s := if s.st P.sct = 4 then sealClose s 2 else ringClear s
  let s := (s.onSct fun x => { Sct.reset with closes := x.closes }).setF P.sct F.SCT_STAT_VAD 0
  let s := forEach (List.range 4) (fun k s => slotEmpty s k) s
  let s := if s.en P.sct then s.setSt P.sct 2 else s
  let s := (s.onPdm fun _ => { Pdm.reset with full := false }).setF P.pdm F.PDM_STAT_PENDING 0
  eventsLost (micRefresh (pdmShow s)) .listen

/-- R436: what is left when CORE is in retention and ANALOG and POWER are off: ramps end, RELEASE entries are freed, the
players, cores, converters, links and frames lose what they hold; the pages stay. The boosts are OFF (R269), the line and ear stages
at rest. CLK's state stays (R147): nothing steers it in `m`. -/
def runLost (s : State) (m : PwrMode) : State :=
  let s := s.onSys fun y => { y with mode := m }
  let s := lsvShow (if s.isSet P.lsv F.LSV_CFG_EN then lsvStop s else s)
  let s := delaysLost (combSettle s)
  let s := clipLose s
  let s := forEach (List.range 20) (fun c s => let t := coreLost s c; if coreSt t c = 0 then t else t.setSt (P.core c) 2) s
  let s := { s with dsp := { Dsp.reset with starter := s.dsp.starter } }
  let s := forEach (List.range 2) (fun n s => madcShow (madcLose s n) n) s
  let s := forEach (List.range 4) (fun n s => linkLost s n) s
  let s := forEach (List.range 32) (fun j s => streamLost s j) s
  let s := forEach (List.range 4) (fun n s => (setEar (micOff s n) n 0).onHs n fun _ => HsHid.reset n) s
  let s := forEach (List.range 8) (fun n s => s.onLo n fun _ => LoHid.reset) s
  let s := forEach (List.range 4) (fun p s => (boostOff s p).onBst p fun _ => BstHid.reset) s
  let s := (tdmsFloat s).onAn fun a => { a with ramps := [] }
  let s := s.onClk fun c => { c with step := 0 }
  eventsLost (framesLost (sideTones s)) .analog

/-- R437: PWR_BIAS in a power state. -/
def biasIn (m : PwrMode) : Word :=
  match m with
  | .sleep => 0x040#32
  | .deep => 0x0A0#32
  | _ => 0

/-- R434: a state is reached: the domains, the bias settings, PWR_STAT. -/
def reachState (s : State) (m : PwrMode) (kind : Nat) : State :=
  let s := (s.onSys fun y => { y with mode := m, entry := none }).setDoms m
  (pwrShow ((s.wr (P.pwr + 0x5C) (biasIn m)))).setF P.pwr F.PWR_STAT_LAST_KIND kind

/-- R434: the commit of an entry. -/
def commit (s : State) (e : Entry) : State :=
  match e.target with
  | .run => s
  | .idle => cmbShow (reachState s .idle e.kind)
  | .sleep => reachState (entryRecord (runLost s .sleep) e) .sleep e.kind
  | .deep =>
    let s := flushRecs s
    reachState (listenLost (if e.from_ = .sleep then s else runLost s .deep)) .deep e.kind
  | .off =>
    let s := (flushRecs s).setF P.pwr F.PWR_STAT_LOCKED_OUT 0
    reachState (listenLost (if e.from_ = .sleep then s else runLost s .off)) .off e.kind

/-! ### Waking -/

/-- R442, R443, R445: the third failed wake in succession locks the part out. -/
def lockOut (s : State) (from_ step : Nat) : State :=
  if s.sys.fails < 3 then s
  else
    let r := mkRec s 0x00B3 4 0x0002 0 ([BitVec.ofNat 8 from_, BitVec.ofNat 8 step] ++
      leBytes 2 (s.getF P.pwr F.PWR_WFAIL_CNT_COUNT)) false
    let s := s.onSys fun y => { y with lockout := true, lowSeen := !y.wakeIn, aonRecs := y.aonRecs ++ [r] }
    (s.setF P.pwr F.PWR_STAT_LOCKED_OUT 1).raise P.pwr 25

/-- R440: PWR_WFAIL records a failed step: the state woken from, the class and the step. -/
def wakeFailed (s : State) (from_ cls step : Nat) : State :=
  ((s.setF P.pwr F.PWR_WFAIL_FROM from_).setF P.pwr F.PWR_WFAIL_CLASS cls).setF P.pwr F.PWR_WFAIL_STEP step

/-- R442: a failure of class SUPPLY aborts the wake: back to Deep sleep, or to Off from Off. -/
def wakeAbort (s : State) (src step : Nat) : State :=
  let m := s.sys.mode
  let s := wakeFailed s m.code 1 step
  let s := ((s.bump P.pwr F.PWR_WFAIL_CNT_COUNT).raise P.pwr 24).err P.pwr
  let n := s.sys.fails + 1
  let r := mkRec s 0x00B1 3 0x0002 0 ([BitVec.ofNat 8 m.code, BitVec.ofNat 8 step, BitVec.ofNat 8 n, BitVec.ofNat 8 src] ++
    leBytes 4 (s.get64 0x006068).toNat) false
  let s := s.onSys fun y => { y with waking := none, retried := none, clockFail := 0, fails := n, lastFail := step, aonRecs := y.aonRecs ++ [r] }
  let s := (if m = .sleep then listenLost s else s).setF P.pwr F.PWR_STAT_CONSEC (min 3 n)
  let t := if m = .off then PwrMode.off else .deep
  lockOut (((s.onSys fun y => { y with mode := t }).setDoms t).wr (P.pwr + 0x5C) (biasIn t)) m.code step

/-- R147: CLK on the return to Run with the reference correct and the PLLs locked. -/
def clkWake (s : State) (deep : Bool) : State :=
  let s := ((s.setF P.clk F.CLK_REF_STAT_REF_OK 1).setF P.clk F.CLK_REF_STAT_ON_RC 0).wr (P.clk + 0x48) 7
  let s := s.onClk fun c => { c with halt := none, down := [] }
  clkUnseen (if deep ∨ s.clk.st = 7 then clkSelect s else if s.clk.st = 3 ∨ s.clk.st = 4 then clkAcquire s else s)

/-- R441: CLK enters DEGRADED: with REF_FAIL without a reference, else with PLL_FAIL. The manual does not say which PLLs
have not locked. -/
def clkDegraded (s : State) (ref : Bool) : State :=
  if ref then refFailed s
  else
    let d := s.draw
    let up := d.1.toNat % 7
    let s := ((d.2.setF P.clk F.CLK_REF_STAT_REF_OK 1).setF P.clk F.CLK_REF_STAT_ON_RC 1).wr (P.clk + 0x48) (BitVec.ofNat 32 up)
    let s := s.onClk fun c => { c with down := (List.range 3).filter fun p => up / 2 ^ p % 2 == 0 }
    clkLog (((clkTo (fabricStop s .pll) 7).raise P.clk 25).err P.clk) 0x0011 3

/-- R421: the records kept in AON are queued. -/
def aonFlush (s : State) : State :=
  let l := s.sys.aonRecs
  forEach l (fun r s => s.queueRec r) (s.onSys fun y => { y with aonRecs := [] })

/-- R427, R433, R443: Run is reached: the reports of a completed wake. -/
def wakeReport (s : State) (from_ : PwrMode) (src us : Nat) : State :=
  let s := s.onSys fun y => { y with waking := none, retried := none, clockFail := 0, fails := 0 }
  let s := ((s.setF P.pwr F.PWR_STAT_LAST_FROM from_.code).setF P.pwr F.PWR_STAT_LAST_SRC src).setF P.pwr F.PWR_STAT_CONSEC 0
  ((s.autoWake from_ src).setF P.pwr F.PWR_WTIME_US us).raise P.pwr 0

/-- R436, R439, R441, R444: a wake from Sleep or Deep sleep reaches Run. -/
def wakeRun (s : State) (src us : Nat) : State :=
  let m := s.sys.mode
  let bad := s.sys.clockFail
  let ref := decide (bad = 5) || (m == .sleep && s.clk.halt == some .ref)
  let s := wakeReport (reachState s .run (s.getF P.pwr F.PWR_STAT_LAST_KIND)) m src us
  let s := if bad = 0 then tdmRestart (clkWake s (m == .deep)) else clkDegraded s ref
  let s := if bad = 0 then s
    else ((s.setF P.pwr F.PWR_STAT_DEGRADED 1).raise P.pwr 3).log 0x00B2 2 0x0002 0
      [BitVec.ofNat 8 m.code, BitVec.ofNat 8 bad, BitVec.ofNat 8 src]
  let s := aonFlush (cmbShow (reloadCores s))
  let s := forEach (List.range 2) (fun n s => madcShow s n) (outputsWake s)
  let s := if s.isSet P.lsv F.LSV_CFG_EN then lsvShow (lsvStart s).2 else s
  let s := pdmRequest s true
  let s := if src = 2 then (s.bump P.spi F.SPI_WAKE_CNT_COUNT).raise P.spi 3 else s
  if m = .deep then wagResume s else s

end Sys2Proof.Machine
end

