-- ==== Sys2Proof/Machine/Swarm.lean ====
section
/-! DEFINITION. Swarm's commands and its relock (R417-R420). -/

namespace Sys2Proof.Machine

/-- R418: a rule's combination of class, action and parameters is one of the table's. -/
def ruleValid (tgt act par : Word) : Bool :=
  let inst := getField tgt 27 24
  let a := getField act 31 28
  let p := par.toNat
  match getField tgt 30 28 with
  | 0 => decide (inst < 4 ∧ getField tgt 21 20 < 3 ∧ a ≤ 3 ∧ (a = 3 → 1 ≤ p ∧ p ≤ 10000))
  | 1 => decide (a = 1)
  | 2 => decide (inst < 2 ∧ ((a = 4 ∧ 10 ≤ p ∧ p ≤ 1000) ∨ (a = 5 ∧ 1 ≤ p ∧ p ≤ 60000)))
  | _ => false

/-- R419: the rule is written again: its count and its place in its pattern start afresh. -/
def ruleFresh (s : State) (r : Nat) : State :=
  (s.set64 (ruleBase r + 0x110) 0).onSwm fun w => { w with pos := modifyAt (fun _ => 0) r w.pos }

/-- R418, R425: a write of the SWM page. -/
def swmWrite (off : Nat) (v : Word) : Act := fun s =>
  if off = 0x44 then
    (if getField v 7 0 = 0 then (.range, s) else if s.swarmOn then (.state, s) else (.done, s.store (P.swm + off) v))
  else if 0x100 ≤ off ∧ off < 0x200 then
    let r := (off - 0x100) / 32
    let b := ruleBase r
    let o := (off - 0x100) % 32
    if !s.swarmOn then (.locked, s)
    else if o = 0 ∧ bit v 31 ∧ !ruleValid v (s.rd (b + 0x104)) (s.rd (b + 0x108)) then (.range, s)
    else if o < 0x10 ∨ o = 0x18 then (.done, ruleFresh (s.store (P.swm + off) v) r)
    else (.done, s)
  else (.done, s.store (P.swm + off) v)

/-- R417: every rule is disabled. -/
def rulesOff (s : State) : State := forEach (List.range 8) (fun r s => s.setF (ruleBase r) F.SWM_RULE_TGT_EN 0) s

/-- R410, R417: the SWARM_END record, with its reason: 0 host, 1 expiry, 2 reset. -/
def swarmEnd (s : State) (why : Nat) : State :=
  s.log 0x000F 1 0x0009 0 (BitVec.ofNat 8 why :: leBytes 8 (s.get64 (P.swm + 0x48)).toNat ++
    (List.range 8).flatMap fun r => leBytes 2 (min 0xFFFF (s.get64 (ruleBase r + 0x110)).toNat))

/-- R417: Swarm relocks. -/
def swarmRelock (s : State) (why : Nat) : State :=
  if s.swarmOn then
    let s := (swarmEnd (rulesOff s) why).raise P.swm 1
    s.setF P.swm F.SWM_STAT_UNLOCKED 0
  else s

/-- R417, R420: SWM_UNLOCK with OP 0, CHALLENGE. -/
def swmChallenge (q : PlReq) (s : State) : PlAns :=
  let key := field q.payload 1 1
  if s.isSet P.swm F.SWM_STAT_LOCKOUT then nak s P.swm .locked
  else if q.payload.length ≠ 4 ∨ 3 < key ∨ field q.payload 2 2 ≠ 0 then nak s P.swm .range
  else
    let c := Config.random64 s.free
    ok ({ s with free := s.free + 1 }.onSwm fun w => { w with challenge := some (key, c) }) (leBytes 8 c.toNat)

/-- R417: the answer that fits a challenge. -/
def swmExpected (key : List Byte) (c : BitVec 64) : List Byte :=
  (Config.hmacSha256 key (leBytes 8 c.toNat ++ leBytes 8 Config.uid.toNat ++ [0x53, 0x57, 0x52, 0x4D])).take 16

/-- R417: a wrong response. -/
def swmWrong (s : State) : State :=
  let s := (s.onSwm fun w => { w with challenge := none, wrong := w.wrong + 1 }).err P.swm
  if 3 ≤ s.swarm.wrong then s.setF P.swm F.SWM_STAT_LOCKOUT 1 else s

/-- SWM_STAT.REMAIN: minutes of unlock remaining. -/
def swmRemain (s : State) : Nat :=
  if s.swarmOn then quant ((s.swarm.until_ : Int) - (s.get64 (P.kpr + 0x68)).toNat) 60000 else 0

/-- R417, R420: SWM_UNLOCK with OP 1, RESPOND. -/
def swmRespond (q : PlReq) (s : State) : PlAns :=
  let p := q.payload
  let key := field p 1 1
  let right := match s.swarm.challenge, keyOf s key with
    | some c, some k => c.1 == key && (p.drop 4).take 16 == swmExpected k.key c.2
    | _, _ => false
  if s.isSet P.swm F.SWM_STAT_LOCKOUT then nak s P.swm .locked
  else if p.length ≠ 20 ∨ 3 < key ∨ field p 2 2 ≠ 0 then nak s P.swm .range
  else if !right then nak (swmWrong s) P.swm .auth
  else
    let mins := s.getF P.swm F.SWM_CFG_UNLOCK_TIME
    let s := s.onSwm fun w => { w with challenge := none, until_ := (s.get64 (P.kpr + 0x68)).toNat + 60000 * mins }
    let s := ((s.setF P.swm F.SWM_STAT_UNLOCKED 1).setF P.swm F.SWM_STAT_REQ q.via.req.code).setF P.swm F.SWM_STAT_KEY key
    let s := (s.log 0x000E 1 0x0009 0 [BitVec.ofNat 8 q.via.req.code, BitVec.ofNat 8 key]).raise P.swm 0
    ok s [BitVec.ofNat 8 mins, 0, 0, 0]

/-- R420: SWM_UNLOCK: OP 0 or 1. -/
def swmUnlockBody (q : PlReq) (s : State) : PlAns :=
  match field q.payload 0 1 with
  | 0 => swmChallenge q s
  | 1 => swmRespond q s
  | _ => nak s P.swm (if s.isSet P.swm F.SWM_STAT_LOCKOUT then .locked else .range)

/-- SWM_CHALLENGE (R417). -/
def execSwmChallenge (q : PlReq) (s : State) : Host.Outcome State Fault Refusal :=
  .next (runPlosto 0x68 q (onPage P.swm true (swmUnlockBody q)) s)

/-- SWM_RESPOND (R417). -/
def execSwmRespond (q : PlReq) (s : State) : Host.Outcome State Fault Refusal :=
  .next (runPlosto 0x68 q (onPage P.swm true (swmUnlockBody q)) s)

/-- R420: SWM_SET. -/
def swmSetBody (q : PlReq) (s : State) : PlAns :=
  let p := q.payload
  let r := field p 0 1
  let w (i : Nat) : Word := BitVec.ofNat 32 (field p (4 + 4 * i) 4)
  if !s.swarmOn then nak s P.swm .locked
  else if p.length ≠ 24 ∨ 7 < r ∨ field p 1 3 ≠ 0 ∨ (bit (w 0) 31 ∧ !ruleValid (w 0) (w 1) (w 2)) then nak s P.swm .range
  else
    let b := ruleBase r
    let s := forEach (List.range 4) (fun i s => s.store (b + 0x100 + 4 * i) (w i)) s
    ok (ruleFresh (s.store (b + 0x118) (w 4)) r) []

/-- SWM_SET (R420). -/
def execSwmSet (q : PlReq) (s : State) : Host.Outcome State Fault Refusal :=
  .next (runPlosto 0x69 q (onPage P.swm true (swmSetBody q)) s)

/-- R417, R420: SWM_STOP: OP 0 disables the rules, OP 1 relocks too. -/
def swmStopBody (q : PlReq) (s : State) : PlAns :=
  let p := q.payload
  if p.length ≠ 4 ∨ 1 < field p 0 1 ∨ field p 1 3 ≠ 0 then nak s P.swm .range
  else
    let s := if field p 0 1 = 0 then rulesOff s else swarmRelock s 0
    ok s (leBytes 8 (s.get64 (P.swm + 0x48)).toNat)

/-- SWM_STOP (R420). -/
def execSwmStop (q : PlReq) (s : State) : Host.Outcome State Fault Refusal :=
  .next (runPlosto 0x6A q (onPage P.swm true (swmStopBody q)) s)

/-- SWM_RELOCK (R417). -/
def execSwmRelock (q : PlReq) (s : State) : Host.Outcome State Fault Refusal :=
  .next (runPlosto 0x6A q (onPage P.swm true (swmStopBody q)) s)

/-- SWARM_EXPIRY (R417): the unlock time has expired. -/
def execSwarmExpiry (s : State) : Host.Outcome State Fault Refusal := .next (swarmRelock s 1)

/-- SWM_STAT.ENABLED: the rules enabled. -/
def swmEnabled (s : State) : Nat := (List.range 8).foldl (fun m r => if ruleOn s r then m + 2 ^ r else m) 0

end Sys2Proof.Machine
end

