-- ==== Sys2Proof/Machine/Tw1.lean ====
section
/-! DEFINITION. TW1, the two-wire controller: transfer slots (R68-R70, R76), bus-clear and FAULT (R71, R75), its page (R72). -/

namespace Sys2Proof.Machine

/-- PG_STAT.STATE of TW1: 2 IDLE, 3 ACTIVE, 4 CLEARING, 5 FAULT (R75). -/
def tw1St (s : State) : Nat := s.st (P.tw 1)

/-- The base of slot `k`, for the fields of XF_CTRL and XF_STAT. -/
def xfBase (k : Nat) : Nat := P.tw 1 + 0x80 * k

/-- R76: a slot is QUEUED or ACTIVE. -/
def xfBusy (s : State) (k : Nat) : Bool := s.getF (xfBase k) F.XF_STAT_SLOT == 1 || s.getF (xfBase k) F.XF_STAT_SLOT == 2

/-! ### Slots -/

/-- R68, R75, R76: a write of XF_CTRL; GO queues the slot for its requester. -/
def xfCtrlWrite (r : Req) (k : Nat) (v : Word) : Act := fun s =>
  let a := xfBase k + 0x200
  if bit v 31 ∧ (64 < getField v 14 8 ∨ 64 < getField v 6 0) then (.range, s)
  else if bit v 31 ∧ (tw1St s = 0 ∨ tw1St s = 5) then (.state, s)
  else if xfBusy s k then (.busy, s)
  else if bit v 31 then
    let s := ((s.store a v).setF (xfBase k) F.XF_CTRL_GO 1).setF (xfBase k) F.XF_STAT_SLOT 1
    (.done, s.onTw1 fun p => { p with queue := p.queue ++ [k], by_ := alSet p.by_ k (r, 0xFF) })
  else (.done, s.store a v)

/-- R47: the slots that a Plosto command of `r` has just queued carry its code. -/
def xfStamp (cmd : Nat) (r : Req) (s : State) : State :=
  s.onTw1 fun p => { p with by_ := p.by_.map fun e => if e.2.1 = r ∧ e.2.2 = 0xFF then (e.1, r, cmd) else e }

/-- R47, R69: the slot ends with an outcome and the bytes transferred; TW_1_LAST names it, and an outcome other than DONE is recorded
for the one who queued it. R69 gives NBYTES for a transfer that runs to its end or is not acknowledged; of one that ends BUSY, TIMEOUT or
ABORTED by a reset it says nothing, and NBYTES reads 0 (DESIGN CHOICE, log entry 76). -/
def xfEnd (s : State) (k : Nat) (c : Code) (n : Nat) : State :=
  let b := xfBase k
  let s := ((s.setF b F.XF_CTRL_GO 0).setF b F.XF_STAT_SLOT 3).setF b F.XF_STAT_NBYTES n
  let s := (s.setF b F.XF_STAT_CODE c.num).wr (P.tw 1 + 0x54) (BitVec.ofNat 32 (k * 0x100 + c.num))
  let who := (alGet s.ports.tw1.by_ k).getD (.keeper, 0xFF)
  if c = .done then s.raise (P.tw 1) 0 else (s.err (P.tw 1)).refuse (P.tw 1) who.2 who.1 (xfBase k + 0x200) c

/-- The transfer on the bus is over. -/
def tw1Free (s : State) : State := s.onTw1 fun p => { p with active := none, waiting := false, retries := 0 }

/-- R71: a bus-clear begins; its first attempt is still to be made. -/
def clearBegin (s : State) (clr : Bool) : State :=
  (s.onTw1 fun p => { p with clears := 0, clrFault := clr }).setSt (P.tw 1) 4

/-- TW1_TRANSFER (R68, R69): the first slot queued starts, unless a bus-clear must come first. -/
def execTw1Transfer (s : State) : Host.Outcome State Fault Refusal :=
  match s.ports.tw1.queue with
  | k :: rest =>
    if tw1St s = 2 ∧ s.domOn .keeper ∧ !s.sys.held then
      if s.ports.tw1.dirty ∧ !s.ports.tw1.sda then .next (clearBegin s false)
      else
        let s := s.onTw1 fun p =>
          { p with queue := rest, active := some k, retries := s.getF (P.tw 1) F.TW_CFG_ARB_RETRY, waiting := false, dirty := false, sent := [] }
        .next ((s.setF (xfBase k) F.XF_STAT_SLOT 2).setSt (P.tw 1) 3)
    else .next s
  | [] => .next s

/-- The bytes read, in the slot's buffer from byte 0. -/
def xfFill (s : State) (k : Nat) (read : List Byte) : State :=
  let a := xfBase k + 0x240
  let old := wordsBytes ((List.range 16).map fun i => s.rd (a + 4 * i))
  forEach (List.range 16) (fun i s => s.wr (a + 4 * i)
    (BitVec.ofNat 32 (field (read.take 64 ++ old.drop (min 64 read.length)) (4 * i) 4))) s

/-- R68: the bytes of slot `k`'s transfer up to a repeated start: the address with the write bit and the WLEN bytes of the buffer. -/
def xfWritten (s : State) (k : Nat) : List Byte :=
  BitVec.ofNat 8 (2 * s.getF (xfBase k) F.XF_CTRL_TADDR) ::
    (wordsBytes ((List.range 16).map fun i => s.rd (xfBase k + 0x240 + 4 * i))).take (s.getF (xfBase k) F.XF_CTRL_WLEN)

/-- R68: the address with the read bit. -/
def xfReadAddr (s : State) (k : Nat) : Byte := BitVec.ofNat 8 (2 * s.getF (xfBase k) F.XF_CTRL_TADDR + 1)

/-- R56, R68: every byte that TW1 sends in slot `k`'s transfer: the PEC is the last where nothing is read. -/
def xfSends (s : State) (k : Nat) : List Byte :=
  let w := xfWritten s k
  if s.getF (xfBase k) F.XF_CTRL_RLEN ≠ 0 then w ++ [xfReadAddr s k]
  else if s.isSet (xfBase k) F.XF_CTRL_PEC then w ++ [crc8 w] else w

/-- R56, R68: the PEC read fits: it covers every byte before it, or none is used. -/
def xfPecOk (s : State) (k : Nat) (read : List Byte) (pec : Byte) : Bool :=
  !s.isSet (xfBase k) F.XF_CTRL_PEC || s.getF (xfBase k) F.XF_CTRL_RLEN == 0 || crc8 (xfSends s k ++ read) == pec

/-- The bytes that TW1 has put on the bus, and those it has read, pass (R418). -/
def xfBus (s : State) (sent : List Byte) (read : Nat) : State :=
  twBytes (s.onTw1 fun p => { p with sent := sent }) 1 (sent.length + read)

/-- R69: a byte is not acknowledged: a STOP is sent. -/
def xfNack (s : State) (k : Nat) (sent : List Byte) (c : Code) (n : Nat) : State :=
  xfEnd (((xfBus s sent 0).bump (P.tw 1) F.TW_NACK_CNT_COUNT).raise (P.tw 1) 5) k c n

/-- R68, R69: slot `k`'s transfer, by what its target does. -/
def xfRun (s : State) (k : Nat) (o : TwOutcome) : State :=
  let w := s.getF (xfBase k) F.XF_CTRL_WLEN
  let r := s.getF (xfBase k) F.XF_CTRL_RLEN
  match o with
  | .answered read pec =>
    let read := (read ++ List.replicate r 0).take r
    let good := xfPecOk s k read pec
    let t := xfFill (xfBus s (xfSends s k) (r + b2n (decide (r ≠ 0) && s.isSet (xfBase k) F.XF_CTRL_PEC))) k read
    if good then xfEnd t k .done (w + r) else xfEnd ((t.bump (P.tw 1) F.TW_PEC_CNT_COUNT).raise (P.tw 1) 2) k .check (w + r)
  | .addrNack rd =>
    if rd ∧ r ≠ 0 then xfNack s k (xfSends s k) .absent w else xfNack s k ((xfWritten s k).take 1) .absent 0
  | .dataNack n =>
    let wr := if r = 0 then xfSends s k else xfWritten s k
    xfNack s k (wr.take (n + 2)) .aborted (min n w)

/-- TW1_TRANSFER_DONE (R68, R69): the transfer on the bus ends. -/
def execTw1TransferDone (o : TwOutcome) (s : State) : Host.Outcome State Fault Refusal :=
  match s.ports.tw1.active with
  | some k => .next (if tw1St s = 3 ∧ !s.ports.tw1.waiting then (tw1Free (xfRun s k o)).setSt (P.tw 1) 2 else s)
  | none => .next s

/-- ARB_LOST (R70): TW1 withdraws and waits for the bus, or its retries are exhausted. -/
def execArbLost (s : State) : Host.Outcome State Fault Refusal :=
  match s.ports.tw1.active with
  | some k =>
    if tw1St s = 3 ∧ !s.ports.tw1.waiting then
      let s := (s.bump (P.tw 1) F.TW_ARB_CNT_COUNT).raise (P.tw 1) 4
      if s.ports.tw1.retries = 0 then .next ((tw1Free (xfEnd s k .busy 0)).setSt (P.tw 1) 2)
      else .next (s.onTw1 fun p => { p with waiting := true })
    else .next s
  | none => .next s

/-- TW1_ARB_RETRY (R70): the other controller's STOP and the bus-free time have passed. -/
def execTw1ArbRetry (s : State) : Host.Outcome State Fault Refusal :=
  .next (if tw1St s = 3 ∧ s.ports.tw1.waiting then s.onTw1 fun p => { p with waiting := false, retries := p.retries - 1 } else s)

/-- R69, R71: TW1 enters FAULT with a stuck flag (bit of TW_1_BUS) and its fault event. -/
def tw1Fault (s : State) (flag : Fld) (ev : Nat) : State :=
  let s := ((s.setF (P.tw 1) flag 1).raise (P.tw 1) ev).bump (P.tw 1) F.TW_TMO_CNT_COUNT
  (s.setSt (P.tw 1) 5).setF (P.tw 1) F.PG_STAT_FAULT 1

/-- SCL_STUCK (R69): a target has held SCL low beyond STRETCH_MAX. -/
def execSclStuck (s : State) : Host.Outcome State Fault Refusal :=
  match s.ports.tw1.active with
  | some k =>
    if tw1St s = 3 ∧ !s.ports.tw1.waiting then
      let s := tw1Free (xfEnd s k .timeout 0)
      .next (tw1Fault (s.onTw1 fun p => { p with scl := false }) F.TW_BUS_SCL_STUCK 25)
    else .next s
  | none => .next s

/-! ### Bus-clear -/

/-- R71: a bus-clear ends. -/
def clearEnd (s : State) : State :=
  ((s.onTw1 fun p => { p with clears := 0, clrFault := false }).setF (P.tw 1) F.TW_CTRL_BUSCLR 0).setF (P.tw 1) F.TW_CTRL_CLR_FAULT 0

/-- R71: an attempt of the bus-clear under way is made. The fourth that fails is the last. -/
def clearTry (s : State) (b : BusClear) : State :=
  match b with
  | .freed =>
    let flt := s.ports.tw1.clrFault
    let s := (clearEnd s).onTw1 fun p => { p with sda := true, scl := true, dirty := false }
    let s := if flt then
        ((s.setF (P.tw 1) F.TW_BUS_BUS_STUCK 0).setF (P.tw 1) F.TW_BUS_SCL_STUCK 0).setF (P.tw 1) F.PG_STAT_FAULT 0
      else s
    s.setSt (P.tw 1) (if s.ports.tw1.active.isSome then 3 else 2)
  | .stuck =>
    let s := s.onTw1 fun p => { p with sda := false, clears := p.clears + 1 }
    if s.ports.tw1.clears < 4 then s
    else
      let ks := s.ports.tw1.active.toList ++ s.ports.tw1.queue
      let s := forEach ks (fun k s => xfEnd s k .timeout 0) s
      tw1Fault (clearEnd (tw1Free (s.onTw1 fun p => { p with queue := [] }))) F.TW_BUS_BUS_STUCK 24

/-- R71, R75: a write of TW_1_CTRL. -/
def tw1CtrlWrite (v : Word) : Act := fun s =>
  let st := tw1St s
  if !bit v 0 ∧ !bit v 1 then (.done, s)
  else if (bit v 0 ∧ st ≠ 5) ∨ (bit v 1 ∧ (st = 5 ∨ st = 0)) then (.state, s)
  else if bit v 1 ∧ st ≠ 2 then (.busy, s)
  else
    let s := clearBegin s (bit v 0)
    (.done, s.setF (P.tw 1) (if bit v 0 then F.TW_CTRL_CLR_FAULT else F.TW_CTRL_BUSCLR) 1)

/-- A write of TW_1_CTRL that starts a bus-clear, and its first attempt. -/
def clearRow (r : Req) (v : Word) (b : BusClear) (s : State) : State :=
  let t := hostWrite r (P.tw 1 + 0x48) (tw1CtrlWrite v) s
  if tw1St s ≠ 4 ∧ tw1St t = 4 then clearTry t b else t

/-- TW1_BUSCLR (R71): TW_1_CTRL.BUSCLR is written. -/
def execTw1Busclr (r : Req) (b : BusClear) (s : State) : Host.Outcome State Fault Refusal := .next (clearRow r 2 b s)

/-- TW1_CLR_FAULT (R71): TW_1_CTRL.CLR_FAULT is written. -/
def execTw1ClrFault (r : Req) (b : BusClear) (s : State) : Host.Outcome State Fault Refusal := .next (clearRow r 1 b s)

/-- TW1_SDA_LOW_DETECT (R71): SDA has been low and SCL high with no SCL edge for 1 ms. -/
def execTw1SdaLowDetect (b : BusClear) (s : State) : Host.Outcome State Fault Refusal :=
  let s := s.onTw1 fun p => { p with sda := false, scl := true }
  .next (if (tw1St s = 2 ∨ (tw1St s = 3 ∧ s.ports.tw1.waiting)) ∧ s.domOn .keeper ∧ !s.sys.held then clearTry (clearBegin s false) b
    else s)

/-- BUS_CLEAR_RETRY (R71): the next attempt of a bus-clear is made. -/
def execBusClearRetry (b : BusClear) (s : State) : Host.Outcome State Fault Refusal :=
  .next (if tw1St s = 4 then clearTry s b else s)

/-! ### The page -/

/-- R71: TW1 is enabled: IDLE, or a bus-clear if SDA is low. -/
def tw1Enable (s : State) : State := if s.ports.tw1.sda then s.setSt (P.tw 1) 2 else clearBegin s false

/-- R34, R69: TW1 is disabled or soft-reset: what is queued or on the bus ends with ABORTED; a bus-clear runs before the next
transfer, if one was on the bus. -/
def tw1Abort (s : State) : State :=
  let ks := s.ports.tw1.active.toList ++ s.ports.tw1.queue
  let cut := s.ports.tw1.active.isSome || s.ports.tw1.dirty
  let s := forEach ks (fun k s => xfEnd s k .aborted 0) s
  (clearEnd (tw1Free s)).onTw1 fun p => { p with queue := [], dirty := cut }

/-- TW1_GO (R68): XF_CTRL of slot `k` is written with GO = 1. -/
def execTw1Go (r : Req) (k : Fin 4) (v : Word) (s : State) : Host.Outcome State Fault Refusal :=
  .next (hostWrite r (xfBase k + 0x200) (xfCtrlWrite r k (setField v 31 31 1)) s)

/-- The registers of the TW1 page. R75 lists what CLEARING and FAULT accept and refuse, and names no other write there: here the other
registers are written in them as in IDLE (DESIGN CHOICE, log entry 76). -/
def tw1Write (r : Req) (off : Nat) (v : Word) : Act :=
  if off = 0x44 then (if getField v 9 0 < 50 ∨ getField v 25 16 < 26 then no .range else plain (P.tw 1 + off) v)
  else if off = 0x48 then tw1CtrlWrite v
  else if 0x200 ≤ off ∧ off < 0x400 then
    let k := (off - 0x200) / 0x80
    let o := (off - 0x200) % 0x80
    if o = 0 then xfCtrlWrite r k v
    else if 0x40 ≤ o then need (fun s => !xfBusy s k) .busy (plain (P.tw 1 + off) v)
    else plain (P.tw 1 + off) v
  else plain (P.tw 1 + off) v

end Sys2Proof.Machine
end

