-- ==== Sys2Proof/Machine/Blocks.lean ====
section
/-! DEFINITION. What enabling, disabling and soft-resetting a page does to its block (R33-R36). -/

namespace Sys2Proof.Machine

/-! ### States -/

/-- R33: PG_STAT.STATE of a page as its block stands: 0 while the page is disabled, except that a speaker channel shows its stop
until its bridge is off, and stays LATCHED (R266). -/
def blockShow (k : PageKind) (inst page : Nat) (s : State) : State :=
  match k with
  | .amp => if 2 < s.st page then s else s.setSt page (if s.en page then 2 else 0)
  | _ =>
    if !s.en page then s.setSt page 0
    else match k with
      | .pwr => if s.sys.entry.isSome then s.setSt page 4 else pwrShow s
      | .clk => clkShow s
      | .tw => if inst = 1 then tw1Enable s else s.setSt page 2
      | .kpr => s.setSt page (if !s.sys.service then 2 else if s.sys.recovery then 4 else 3)
      | .fls => s.setSt page (if s.getF P.fls F.FLS_INFO_REASON ≠ 0 then 4 else if s.getF P.fls F.FLS_INFO_SIZE = 0 then 2 else 3)
      | .wag => wagShow s
      | .clip => clipShow s
      | .cmb => cmbShow s
      | .pdm => micRefresh (pdmShow s)
      | .madc => madcShow s inst
      | .lsv => lsvShow s
      | _ => s.setSt page 2

/-! ### Enable and disable -/

/-- R34: a block stops: its outputs by the Smoker, its commands and transfers. -/
def blockOff (k : PageKind) (inst : Nat) (s : State) : State :=
  match k with
  | .tw => if inst = 1 then tw1Abort s else s
  | .wag => wagEnable false s
  | .cmb => s.onComb fun c => { c with outs := [] }
  | .tdm => if 2 < s.st (P.tdm inst) then tdmHalt s inst else s
  | .eth => if 2 < s.st (P.eth inst) then linkStop s inst else s
  | .pdm => micRefresh s
  | .sct => if s.st P.sct = 3 ∨ s.st P.sct = 4 then sctHalt s else s
  | .ain => forEach (List.range 8) (fun n s => if ainLive s n then ainStopping s n else s) s
  | .hs => forEach (List.range 4) (fun n s => if hsSt s n ≠ 0 then hsStop s n else s) s
  | .lo => forEach (List.range 8) (fun n s => loDisable s n) s
  | .amp => ampDisable s inst
  | .madc => madcIdle s inst
  | .lsv => if s.isSet P.lsv F.LSV_CFG_EN then lsvStop (testAbort s) else s
  | .w => coreDisable s inst
  | .q => coreDisable s (16 + inst)
  | .frg => frgAbortAll s
  | _ => s

/-- R34: a block that is enabled again starts what its registers, which kept their values, enable. -/
def blockOn (k : PageKind) (inst : Nat) (s : State) : State :=
  match k with
  | .ain => startInputs s
  | .hs => forEach (List.range 4) (fun n s =>
      if s.isSet (hsBase n) F.HS_CFG_EN ∧ hsSt s n = 0 ∧ s.sys.pwrFailN then hsBegin s n else s) s
  | .lo => forEach (List.range 8) (fun n s => if s.isSet (loBase n) F.LO_CFG_EN ∧ loSt s n = 0 then loBegin s n else s) s
  | .amp =>
    if s.isSet (P.amp inst) F.AMP_CTRL_EN ∧ s.st (P.amp inst) = 2 ∧ s.en (P.bst (inst / 2)) then ampBegin s inst else s
  | .lsv => if s.isSet P.lsv F.LSV_CFG_EN then lsvShow (lsvStart s).2 else s
  | _ => s

/-- R34: PG_CTRL.EN takes a value; only a change does anything. -/
def blockEnable (k : PageKind) (inst page : Nat) (en : Bool) (s : State) : State :=
  if en = s.en page then s
  else
    let s := s.setF page F.PG_CTRL_EN (b2n en)
    if en then blockOn k inst (blockShow k inst page s) else blockShow k inst page (blockOff k inst s)

/-! ### Soft reset -/

/-- R200: every entry of the stream table that holds channels. -/
def strAll (f : Nat → Nat → State → State) (s : State) : State :=
  forEach [0, 1] (fun d s => forEach (List.range 32) (fun j s => if strFirst s d j = 0x3FF then s else f d j s) s) s

/-- R35: what a block holds beside its registers, after a soft reset. -/
def blockClear (k : PageKind) (inst : Nat) (s : State) : State :=
  match k with
  | .spi => (s.freeReq .spi).onSpi fun p => { p with mb := ⟨none, none⟩ }
  | .tw => if inst = 1 then tw1Abort s else (s.freeReq .tw0).onTw0 fun p => { p with held := [], bytes := [], out := [], mb := ⟨none, none⟩ }
  | .kpr => verifyAbort (sessionAbort s)
  | .swm => swarmRelock s 0
  | .wag => wagClear s
  | .clip => s.onClip fun _ => Clips.reset
  | .cmb => combClear s
  | .tdm => if 2 < s.st (P.tdm inst) then tdmHalt s inst else s
  | .eth =>
    let s := if 2 < s.st (P.eth inst) then linkStop s inst else s
    let s := s.onLink inst fun l => { Link.reset with sent := l.sent }
    if inst = 0 then strAll (fun d j s => strClose s d j) s else s
  | .pdm => s.onPdm fun _ => Pdm.reset
  | .sct =>
    let s := if s.st P.sct = 3 ∨ s.st P.sct = 4 then sctHalt s else s
    s.onSct fun x => { Sct.reset with closes := x.closes, slots := x.slots.map fun y => { Slot.reset with model := y.model } }
  | .ain => (forEach (List.range 8) (fun n s => s.stopRamp (.ainBias n)) s).onAn fun a => { a with biasOn := [], ainStop := [], bias := Analog.reset.bias }
  | .hs => (forEach (List.range 4) (fun n s => (s.stopRamp (.hsGone n)).stopRamp (.earOff n)) s).onAn fun a =>
      { a with hss := Analog.reset.hss }
  | .lo => s.onAn fun a => { a with los := Analog.reset.los }
  | .amp => (if 8 ≤ s.st (P.amp inst) then ampToOff s inst else s).onAmp inst fun _ => AmpHid.reset
  | .bst => s.onBst inst fun _ => BstHid.reset
  | .madc => (madcIdle s inst).onMadc inst fun m => { m with fifo := [] }
  | .lsv => (if s.isSet P.lsv F.LSV_CFG_EN then lsvStop (testAbort s) else s).onLsv fun _ => Lsv.reset
  | .w => coreClear s inst
  | .q => coreClear s (16 + inst)
  | .frg => frgAbortAll s
  | _ => s

/-- R35, R446: the bits of a register, beside its RWS fields, that a soft reset of its page leaves: those that R446 and the SYS
page name, straps, and those that show a condition the soft reset does not change. -/
def softBits (a : Nat) : Word :=
  match regionOf a with
  | .page r _ off =>
    match r.kind with
    | .sys => if off = 0x4C ∨ off = 0x50 then 0xFFFFFFFF else 0
    | .pwr => if off = 0x48 ∨ off = 0x58 ∨ off = 0x5C then 0xFFFFFFFF else if off = 0x54 then 0x00030000 else 0
    | .clk => if off = 0x44 ∨ off = 0x48 then 0xFFFFFFFF else 0
    | .kpr => if 0x40 ≤ off ∧ off < 0x54 then 0xFFFFFFFF else 0
    | .fls => if off = 0x40 ∨ off = 0x48 ∨ off = 0x4C then 0xFFFFFFFF else 0
    | .swm => if off = 0x40 then 0x40000000 else 0
    | .clip => if off = 0x44 then 0xFFFFFFFF else 0
    | .asrc => if off = 0x40 ∨ (0x100 ≤ off ∧ off < 0x180) ∨ 0x400 ≤ off then 0xFFFFFFFF else 0
    | .bst => if off = 0x50 then 0xFFFFFFFF else 0
    | .lsv => if off = 0x48 then 0xFFFFFFFF else 0
    | _ => 0
  | _ => 0

/-- R35: the value a register of the page takes at a soft reset; the counters of R43 and R44 keep theirs. -/
def softValue (a : Nat) (old : Word) : Word :=
  match regAt a with
  | none => regReset a
  | some d =>
    if d.kind ≠ .plain then old
    else
      let keep := d.keep ||| softBits a ||| (match regionOf a with
        | .page _ _ off => if off = 0x004 then 4#32 else 0
        | _ => 0)
      (regReset a &&& ~~~ keep) ||| (old &&& keep)

/-- R35 step 4, R41-R43: the registers and window entries of a page, its snapshot, shadows and held values. -/
def pageClear (page : Nat) (s : State) : State :=
  let s := forEach (s.regs.filter fun e => ownerBase e.1 == some page) (fun e s => s.wr e.1 (softValue e.1 e.2)) s
  { s with snaps := alDel s.snaps page, shadows := s.shadows.filter fun e => e.1.page != page,
           holds := s.holds.filter fun e => e.1.page != page }

/-- R232: the slots of the Scout that hold a model are READY with EN = 0. -/
def modelsReady (s : State) : State :=
  forEach (List.range 4) (fun k s => if (s.slot k).model = [] then s else slotTake s k (s.slot k).model) s

/-- R446: the power page after its registers are reset: the refusal ring is empty with them. R130: CLK steers by the reset
source unless it is DEGRADED. -/
def blockAfter (k : PageKind) (s : State) : State :=
  match k with
  | .clk => if s.clk.st = 7 then s else clkSelect s
  | .sct => modelsReady s
  | .kpr => imgShow s
  | .hs => sideTones s
  | _ => s

/-- R35 step 2: whether an output of a block still sounds or ramps, or, of ETH0, a stream that the fabric can end (R200). -/
def outputLive (k : PageKind) (inst : Nat) (s : State) : Bool :=
  match k with
  | .amp => ampLive s inst
  | .lo => (List.range 8).any fun n => loOn s n || loSt s n == 5
  | .hs => (List.range 4).any fun n => decide (2 ≤ earSt s n)
  | .eth => inst == 0 && awake s && !s.stopped && (List.range 32).any fun j => strFirst s 0 j != 0x3FF || strFirst s 1 j != 0x3FF
  | _ => false

/-- R35 step 2, R200: what a soft reset stops first: the block, and with ETH0 every stream. -/
def softStop (k : PageKind) (inst : Nat) (s : State) : State :=
  let s := blockOff k inst s
  if k = .eth ∧ inst = 0 then strAll (fun d j s => if strOn s d j then strDisable s d j else s) s else s

/-- R35 steps 3-5: a block's commands end, its page returns to reset. -/
def softClear (k : PageKind) (inst page : Nat) (s : State) : State := blockAfter k (pageClear page (blockClear k inst s))

/-- R35 step 1: RESETTING, not READY. -/
def softShow (page : Nat) (s : State) : State :=
  ((s.setF page F.PG_CTRL_SRST 1).setSt page 1).setF page F.PG_STAT_READY 0

/-- R35 steps 1-5: a soft reset of a page. One with an output that is not off performs the mute sequence first: the page is held in
`muting`, where PG_STAT shows step 1, and steps 3 to 5 follow it. -/
def softReset (k : PageKind) (inst page : Nat) (s : State) : State :=
  if outputLive k inst s then
    ((softStop k inst s).setF page F.PG_CTRL_SRST 1).onSys fun y => { y with muting := page :: y.muting.filter (· != page) }
  else softShow page (softClear k inst page s)

/-- R35 step 6: the soft reset of a page has completed. -/
def softResetEnd (k : PageKind) (inst page : Nat) (s : State) : State :=
  let s := s.setF page F.PG_CTRL_SRST 0
  (blockShow k inst page (s.setSt page 0)).setF page F.PG_STAT_READY 1

/-- R35: the soft reset of a page comes to its end: at once, or, where it waited for a mute sequence, with steps 3 to 6 when that has
ended. -/
def softResetDone (k : PageKind) (inst page : Nat) (s : State) : State :=
  if !s.sys.muting.contains page then softResetEnd k inst page s
  else if outputLive k inst s then s
  else softResetEnd k inst page (softShow page (softClear k inst page (s.onSys fun y => { y with muting := y.muting.filter (· != page) })))

/-- The page row and instance at the base of a page. -/
def rowOf (page : Nat) : Option (PageRow × Nat) :=
  match regionOf page with
  | .page r inst _ => some (r, inst)
  | _ => none

/-! ### PG_CTRL -/

/-- R74, R75: a requester speaks through a port, directly or by its mailbox. -/
def speaksBy (r : Req) (k : PageKind) (inst : Nat) : Bool :=
  match k, r with
  | .spi, .spi => true
  | .spi, .plostoSpi => true
  | .tw, .tw0 => inst == 0
  | .tw, .plostoTw0 => inst == 0
  | _, _ => false

/-- R34-R36, R74, R75, R284: a write of PG_CTRL. A soft reset of SPI that an SPI frame asks for waits for the frame's end. R36
refuses a soft reset while the page is locked and does not say what one write of LOCK and SRST does: the page is locked and the
soft reset goes on (DESIGN CHOICE, log entry 76). -/
def pgCtrlWrite (r : Req) (k : PageKind) (inst page : Nat) (v : Word) : Act := fun s =>
  let en := bit v 0
  if !en ∧ s.en page ∧ speaksBy r k inst then (.state, s)
  else if k = .bst ∧ ((!en ∧ s.en page) ∨ bit v 1) ∧ !pairOff s inst then (.state, s)
  else
    let s := blockEnable k inst page en s
    let s := if bit v 2 then s.lockPage page else s
    if !bit v 1 then (.done, s)
    else if k = .spi ∧ r = .spi then (.done, s.onSpi fun p => { p with srstNext := true })
    else (.done, softReset k inst page s)

end Sys2Proof.Machine
end

