-- ==== Sys2Proof/Machine/Nurse.lean ====
section
/-! DEFINITION. The nurse tasks: the ECC scrub, the sensors and supplies, the sense gain (R411-R414), and telemetry
(R415, R416). -/

namespace Sys2Proof.Machine

/-! ### The scrub -/

/-- NRS_UE_ADDR.SPACE. -/
def scrubCode : ScrubSpace → Nat
  | .space => 0 | .sram => 1 | .model => 2

/-- R413: whether the scrub passes a word: in Sleep the LISTEN memories and Keeper SRAM only. -/
def scrubbed (s : State) (sp : ScrubSpace) (a : Nat) : Bool :=
  keeperRuns s && (s.sys.mode != .sleep || sp != .space || decide (0xFC0000 ≤ a ∧ a < 0x1000000))

/-- R413: an uncorrectable error: reported, and left in place. -/
def scrubBad (s : State) (sp : ScrubSpace) (a : Nat) : State :=
  let s := if sp = .space then { s with bad := if s.bad.contains a then s.bad else a :: s.bad } else s
  let s := s.wr (P.nrs + 0x54) (BitVec.ofNat 32 (2 ^ 31 + scrubCode sp * 2 ^ 24 + a % 2 ^ 24))
  (((s.bump P.nrs F.NRS_UE_CNT_COUNT).err P.nrs).raise P.nrs 24).log 0x000A 3 0x0008 0
    (BitVec.ofNat 8 (scrubCode sp) :: leBytes 4 a)

/-- ECC_SCRUB (R411-R413): a word is corrected, found uncorrectable, or a full pass ends. -/
def execEccScrub (x : ScrubStep) (s : State) : Host.Outcome State Fault Refusal :=
  match x with
  | .corrected sp a =>
    if scrubbed s sp a then
      let s := if s.getF P.nrs F.NRS_CE_CNT_COUNT = 0 then s.raise P.nrs 1 else s
      .next (s.bump P.nrs F.NRS_CE_CNT_COUNT)
    else .next s
  | .uncorrectable sp a => .next (if scrubbed s sp a then scrubBad s sp a else s)
  | .passEnd ms =>
    if keeperRuns s then
      let late := decide (10000 < ms)
      let s := ((s.setF P.nrs F.NRS_STAT_PASS_MS (min 0xFFFF ms)).setF P.nrs F.NRS_STAT_LATE (b2n late)).inc64 (P.nrs + 0x44)
      .next (if late then s.raise P.nrs 3 else s)
    else .next s

/-! ### Sensors and supplies -/

/-- The highest of the signal die's sensors, in 0.1 degree. -/
def hottest (t : List (BitVec 16)) : Int := (t.drop 1).foldl (fun m x => max m x.toInt) (t.headD 0).toInt

/-- R414: NRS_TEMP follows a reading. -/
def tempShow (s : State) (x : Int) : State :=
  let s := s.setS P.nrs F.NRS_TEMP_NOW x
  if s.getS P.nrs F.NRS_TEMP_MAX < x then s.setS P.nrs F.NRS_TEMP_MAX x else s

/-- SENSOR_POLL (R411, R414, R452): every 100 ms, TS0-TS3 in 0.1 degree: HOT at 115 degrees, a thermal reset at 124. -/
def execSensorPoll (t0 t1 t2 t3 : BitVec 16) (s : State) : Host.Outcome State Fault Refusal :=
  if keeperRuns s then
    let t := [t0, t1, t2, t3]
    let x := hottest t
    let s := tempShow s x
    let pay := t.flatMap fun v => leBytes 2 v.toNat
    let s := if x < 1100 then s.onKpr fun k => { k with hot := false } else s
    let s := if 1150 ≤ x ∧ !s.kpr.hot then ((s.onKpr fun k => { k with hot := true }).raise P.nrs 2).log 0x000B 2 0x0008 0 pay else s
    .next (if 1240 ≤ x ∧ s.sys.resetPending = none then
      (s.log 0x000C 4 0x0008 0 pay).resetAsk 5 else s)
  else .next s

/-- SUPPLY_ALARM (R414): a supply, numbered in the order of R449, has read outside its range for 10 ms, in mV. -/
def execSupplyAlarm (i : Fin 9) (mv : BitVec 16) (s : State) : Host.Outcome State Fault Refusal :=
  .next (if keeperRuns s then s.log 0x000D 2 0x0008 0 (BitVec.ofNat 8 i :: leBytes 2 mv.toNat) else s)

/-- SENSE_GAIN_CAL (R411, R412): every 60 s, during programme, the difference in 0.0001 dB between speaker channel `n`'s sense
and the measurement converters corrects its gain, by at most 0.01 dB. -/
def execSenseGainCal (n : Fin 8) (d : Int) (s : State) : Host.Outcome State Fault Refusal :=
  .next (if keeperRuns s ∧ s.st (P.amp n) = 4 then
    s.onKpr fun k => { k with gains := modifyAt (· + max (-100) (min 100 d)) n k.gains } else s)

/-- The registers of the NRS page. -/
def nrsWrite (off : Nat) (v : Word) : Act :=
  if off = 0x58 then yes fun s => s.setF P.nrs F.NRS_TEMP_MAX (s.getF P.nrs F.NRS_TEMP_NOW)
  else if off = 0x5C then
    (if getField v 7 0 = 0 then no .range
     else need (fun s => !(bit v 30 && s.rd (P.nrs + 0x60) == 0)) .state (plain (P.nrs + off) v))
  else if off = 0x60 then need (fun s => !(v == 0 && s.isSet P.nrs F.NRS_TLM_CFG_UDP)) .state (plain (P.nrs + off) v)
  else plain (P.nrs + off) v

/-! ### Telemetry -/

/-- R415: the code of the power state in a frame. -/
def tlmMode (m : PwrMode) : Nat :=
  match m with
  | .run => 0 | .idle => 1 | .sleep => 2 | .deep => 3 | .off => 4

/-- R415: eight four-bit fields as four bytes. -/
def nibbles (f : Nat → Nat) : List Byte := (List.range 4).map fun i => BitVec.ofNat 8 (f (2 * i) % 16 + 16 * (f (2 * i + 1) % 16))

/-- R415: fields of a domain that is off read 0. -/
def ifOn (s : State) (page : Nat) (l : List Byte) : List Byte := if pageLive s page then l else l.map fun _ => 0

/-- R415: bytes 0-187 of a frame with its SEQ, the die sensors TS0-TS3 and the power die's 0-7 in 0.1 degree. -/
def tlmBody (s : State) (seq : Nat) (ts : List (BitVec 16)) : List Byte :=
  let flags := b2n s.swarmOn + 2 * b2n (s.clk.st == 7) + 4 * b2n s.sys.recovery
  [0x54, 0x4C, 0x4D, 0x46, 0x01, BitVec.ofNat 8 flags, BitVec.ofNat 8 (tlmMode s.sys.mode), 0] ++ leBytes 6 seq ++ [0, 0] ++
    leBytes 8 (s.get64 (P.clk + 0x68)).toNat ++ leBytes 8 (s.get64 (P.wag + 0x4C)).toNat ++
    ((List.range 12).flatMap fun i => leBytes 2 (ts.getD i 0).toNat) ++
    ((List.range 4).flatMap fun p => ifOn s (P.bst p) (leBytes 2 (s.getF (P.bst p) F.BST_STAT_VRAIL))) ++
    ifOn s (P.bst 0) (leBytes 2 (s.getF (P.bst 0) F.BST_PVIN_PVIN)) ++
    [BitVec.ofNat 8 (s.st P.clk), BitVec.ofNat 8 (s.getF P.wag F.WAG_STAT_QUAL)] ++
    ((List.range 24).flatMap fun i => ifOn s P.cmb (leBytes 2 (s.getF (P.sink (0x200 + i)) F.SK_MET_RMS))) ++
    ((List.range 8).flatMap fun n => ifOn s (P.amp n) (leBytes 2 (s.getF (P.amp n) F.AMP_POWER_PAVG))) ++
    ((List.range 16).flatMap fun z => ifOn s P.cmb (leBytes 2 (unsigned 16 ((s.comb.zones.getD z Zone.reset).a)))) ++
    ifOn s P.lsv (nibbles fun c => s.getF (P.lsv + 16 * c) F.LSV_STAT_VERDICT) ++
    ifOn s (P.amp 0) (nibbles fun n => s.st (P.amp n)) ++ wordBytes (s.rd (P.clk + 0x58)) ++
    ((List.range 3).flatMap fun n => wordBytes (fltPend s n))

/-- R415: a telemetry frame. -/
def tlmFrame (s : State) (seq : Nat) (ts : List (BitVec 16)) : List Byte :=
  let b := tlmBody s seq ts
  b ++ wordBytes (crc32 b)

/-- R416: the sector of the log that takes the next frame: the one in use while it has room, or the next erased one. -/
def logPick (l : List LogSector) : Option Nat :=
  let next := (l.find? fun x => !x.retired && x.frames.isEmpty).map (·.num)
  match (l.filter fun x => !x.retired && !x.frames.isEmpty).getLast? with
  | some x => if x.frames.length < 255 then some x.num else next
  | none => next

/-- R363, R416: a frame is written to the log; with no place left it is not. -/
def logWrite (b : List Byte) (s : State) : State :=
  match logPick s.flash.log with
  | some k => { s with flash := { s.flash with log := mapIf (fun x => x.num == k) (fun x => { x with frames := x.frames ++ [b] }) s.flash.log } }
  | none => s

/-- R349: the frames that wait for the flash are written once it is their turn. -/
def logDrain (s : State) : State :=
  if s.kpr.logDue = [] then s
  else if flsReady s && writeTurn s then forEach s.kpr.logDue logWrite (s.onKpr fun k => { k with logDue := [] })
  else s

/-- R416: a frame is logged; in Sleep at most every 60 s. -/
def tlmLog (s : State) (b : List Byte) : State :=
  let now := (s.get64 (P.kpr + 0x68)).toNat
  let soon := match s.kpr.tlmAt with
    | some t => s.sys.mode == .sleep && decide (now < t + 60000)
    | none => false
  if flsReady s && (logPick s.flash.log).isSome && !soon then
    logDrain (s.onKpr fun k => { k with tlmAt := some now, logDue := k.logDue ++ [b] })
  else s

/-! ### Writes to the flash -/

/-- SECTOR_ERASE_DONE (R349, R363, R411): the next sector of the mirror or of the log has been erased ahead of use, or its erase
failed verification. -/
def execSectorEraseDone (log : Bool) (ok : Bool) (s : State) : Host.Outcome State Fault Refusal :=
  if keeperRuns s ∧ flsReady s ∧ writeTurn s then .next (if log then eraseLog s ok else eraseBbx s ok) else .next s

/-- BBX_MIRROR_PASS (R349, R408): 64 records wait, or a pass is due after a fall of PWRFAIL_N or a boot: the records are copied,
or the first write fails. The pass of a fall of PWRFAIL_N waits for nothing. -/
def execBbxMirrorPass (ok : Bool) (s : State) : Host.Outcome State Fault Refusal :=
  if keeperRuns s ∧ mirrors s ∧ (s.mram.mirDue ∨ 64 ≤ (mirWaiting s).length) ∧ mirWaiting s ≠ [] ∧
      (pfMirror s ∨ writeTurn s) then
    .next (if ok then mirrorPass s else mirrorFail s)
  else .next s

/-! ### Telemetry sent -/

/-- R171, R416: a frame is sent, where its destination can be reached. -/
def tlmSend (s : State) (b : List Byte) : State :=
  let n := s.getF P.nrs F.NRS_TLM_CFG_LINK
  let d := s.rd (P.nrs + 0x60)
  if s.isSet P.nrs F.NRS_TLM_CFG_UDP ∧ netOn s ∧ linkUp s n then
    sendUdp s n d (BitVec.ofNat 16 (s.getF P.nrs F.NRS_TLM_PORT_SPORT)) (BitVec.ofNat 16 (s.getF P.nrs F.NRS_TLM_PORT_DPORT)) b
  else s

/-- TELEMETRY_FRAME (R416): a PERIOD has passed: with the sensors' readings, a frame is formed, logged and perhaps sent. -/
def execTelemetryFrame (ts : List (BitVec 16)) (s : State) : Host.Outcome State Fault Refusal :=
  if keeperRuns s ∧ s.isSet P.nrs F.NRS_TLM_CFG_EN then
    let s := s.inc64 (P.nrs + 0x68)
    let b := tlmFrame s (s.get64 (P.nrs + 0x68)).toNat ts
    let s := (s.onKpr fun k => { k with tlm := b }).raise P.nrs 0
    .next (tlmSend (tlmLog s b) b)
  else .next s

/-- R416: TELEMETRY. -/
def telemetryBody (q : PlReq) (s : State) : PlAns :=
  let p := q.payload
  let mode := field p 0 1
  if p.length ≠ 12 ∨ 1 < mode ∨ field p 1 3 ≠ 0 then nak s P.nrs .range
  else if mode = 0 then (if s.kpr.tlm = [] then nak s P.nrs .absent else ok s s.kpr.tlm)
  else match ((if flsReady s then s.flash.log.flatMap (·.frames) else []).filter fun b => leNat ((b.drop 8).take 6) == field p 4 8).getLast? with
    | some b => ok s b
    | none => nak s P.nrs .absent

/-- TELEMETRY (R416). -/
def execTelemetry (q : PlReq) (s : State) : Host.Outcome State Fault Refusal :=
  .next (runPlosto 0x66 q (onPage P.nrs false (telemetryBody q)) s)

end Sys2Proof.Machine
end

