-- ==== Sys2Proof/Machine/Resets.lean ====
section
/-! DEFINITION. Power-on, resets and the supplies (R9, R248, R268, R273, R450-R453): what a device reset leaves. -/

namespace Sys2Proof.Machine

/-! ### A device reset -/

/-- SYS_RST_CAUSE (R32: not affected by other writes than its own). -/
def rstCause : Nat := 0x000050

/-- R7, R19, R60: the registers that do not take their table's value at a device reset: the straps and SPI_CFG.DSEL, which
follows them. -/
def strapped (s : State) (twa : Nat) : State :=
  (s.wr 0x00004C (BitVec.ofNat 32 twa)).setF P.spi F.SPI_CFG_DSEL (0xA0 + twa)

/-- The machine after a reset, but for SYS_RST_CAUSE: what no reset touches is kept: the queue, the OTP, the black-box ring,
the flash, the pins, what AON keeps of failed wakes, and the free values drawn. -/
def resetBase (s : State) : State :=
  let z := State.reset
  strapped { z with
    pending := s.pending, free := s.free, otp := s.otp, mram := s.mram, flash := s.flash, regs := []
    sys := { z.sys with twa := s.sys.twa, pwrFailN := s.sys.pwrFailN, wakeIn := s.sys.wakeIn, aonRecs := s.sys.aonRecs,
                        fails := s.sys.fails, lastFail := s.sys.lastFail }
    an := { z.an with det := s.an.det, avbias := s.an.avbias }
    wag := { z.wag with a := s.wag.a, b := s.wag.b }
    ports := { z.ports with tw1 := { z.ports.tw1 with sda := s.ports.tw1.sda, scl := s.ports.tw1.scl } } } s.sys.twa

/-- A device reset with its cause (R7, R227, R452; SYS_RST_CAUSE accumulates): fields kept through device resets and memory
stay, but for FRM31, which holds nothing. -/
def deviceReset (s : State) (cause : Nat) : State :=
  let t := ({ resetBase s with mem := s.mem, bad := s.bad } : State).zeroMem 0xFC0000 0x1000000
  (t.wr rstCause (s.rd rstCause ||| 1#32 <<< cause)).setF P.fls F.FLS_CFG_FREQ (s.getF P.fls F.FLS_CFG_FREQ)

/-- R428, R436, R443, R450: a reset that finds every storage unpowered: power-on (0), or a wake from Off (6). After a
lock-out ended by either, PWR_STAT.LOCKED_OUT reads 1. -/
def coldReset (s : State) (cause : Nat) : State :=
  let t := (resetBase s).wr rstCause (1#32 <<< cause)
  if s.sys.lockout ∨ (cause = 6 ∧ s.isSet P.pwr F.PWR_STAT_LOCKED_OUT) then t.setF P.pwr F.PWR_STAT_LOCKED_OUT 1 else t

/-- Whether AON has its supply and the pins act: not in Off. -/
def aonAlive (s : State) : Bool := s.sys.mode != .off

/-- POWER_ON (R450): the supplies rise with the straps TWA2-TWA0 as given; the power-on reset holds the device. -/
def execPowerOn (twa : Fin 8) (s : State) : Host.Outcome State Fault Refusal :=
  let t := coldReset (s.onSys fun y => { y with twa := twa, aonRecs := [], fails := 0, lastFail := 0 }) 0
  .next (t.onSys fun y => { y with held := true })

/-- POR_RELEASE (R450): every supply has been in range for 1 ms. -/
def execPorRelease (s : State) : Host.Outcome State Fault Refusal := .next (s.onSys fun y => { y with held := false })

/-- BROWN_OUT (R451): release follows R450. -/
def execBrownOut (s : State) : Host.Outcome State Fault Refusal :=
  .next (if aonAlive s then (deviceReset s 4).onSys fun y => { y with held := true } else s)

/-- RESET_N (R452): the bridges turn off at once and the device resets. A part held in reset by its supplies stays held. -/
def execResetN (s : State) : Host.Outcome State Fault Refusal :=
  .next (if aonAlive s then (deviceReset s 1).onSys fun y => { y with held := s.sys.held } else s)

/-- SYS_RST_CTRL (R452): DEVRST without the key is refused with RANGE. -/
def rstCtrlWrite (v : Word) : Act := fun s =>
  if !bit v 0 then (.done, s)
  else if getField v 15 8 ≠ 0xA5 then (.range, s)
  else (.done, s.resetAsk 2)

/-- DEVRST (R452): SYS_RST_CTRL is written with DEVRST = 1. -/
def execDevrst (r : Req) (v : Word) (s : State) : Host.Outcome State Fault Refusal :=
  .next (hostWrite r 0x000054 (rstCtrlWrite (setField v 0 0 1)) s)

/-- WATCHDOG_RESET (R395, R452): the firmware has not served the Keeper watchdog for 1 s. -/
def execWatchdogReset (s : State) : Host.Outcome State Fault Refusal :=
  .next (if !s.sys.held ∧ (s.sys.mode = .run ∨ s.sys.mode = .idle ∨ s.sys.mode = .sleep) then s.resetAsk 3 else s)

/-- RESET_AFTER_STOP (R452): the last output is off, and the reset that was asked for begins. -/
def execResetAfterStop (s : State) : Host.Outcome State Fault Refusal :=
  match s.sys.resetPending with
  | some c => .next (if outputsDone s then deviceReset s c else s)
  | none => .next s

/-- IMG_REBOOT (R401): 10 ms after IMG_DONE the device resets (log entry 57). -/
def execImgReboot (s : State) : Host.Outcome State Fault Refusal :=
  .next (if s.kpr.rebootDue then (s.onKpr fun k => { k with rebootDue := false }).resetAsk 2 else s)

/-! ### Supplies -/

/-- AVBIAS_LOW (R451): every bias turns off without a ramp. -/
def execAvbiasLow (s : State) : Host.Outcome State Fault Refusal :=
  .next (forEach (List.range 8) (fun n s => ainBias s n false) (s.onAn fun a => { a with avbias := false }))

/-- AVBIAS_IN_RANGE (R450): the bias regulators of the inputs that use them run again. -/
def execAvbiasInRange (s : State) : Host.Outcome State Fault Refusal :=
  let s := s.onAn fun a => { a with avbias := true }
  .next (forEach (List.range 8) (fun n s =>
    if ainLive s n ∧ s.isSet (ainBase n) F.AIN_CFG_BIAS_EN then ainBias s n true else s) s)

/-- DIE_LINK_LOSS (R9, R273): the power die turns every bridge off: a trip of kind LINK, or BLOCKED with reason CLOCK after
a reference failure. -/
def execDieLinkLoss (s : State) : Host.Outcome State Fault Refusal :=
  if awake s then
    let ref := s.clk.halt == some .ref
    let s := s.onAn fun a => { a with linkLost := true }
    .next (forEach (List.range 8) (fun n s =>
      if ref then ampCutLive s n 3 else if ampLive s n then ampTripOther s n 3 else s) s)
  else .next s

/-- The retries whose time had come and that waited (R272, R273). -/
def retriesDue (s : State) : State :=
  if s.sys.pwrFailN ∧ !s.an.linkLost then
    forEach (List.range 8) (fun n s => if s.st (P.amp n) = 8 ∧ (s.amp n).due then ampRetry s n else s) s
  else s

/-- LINK_RECOVERY (R273): the link has been correct for 10 ms. -/
def execLinkRecovery (s : State) : Host.Outcome State Fault Refusal :=
  .next (retriesDue (s.onAn fun a => { a with linkLost := false }))

/-- R399, R408: what the Keeper does when PWRFAIL_N falls: the PWRFAIL record, a mirror pass, the end of an update
session. -/
def keeperFail (s : State) : State :=
  if keeperRuns s then
    let s := s.log 0x0008 1 0x0007 0 (leBytes 2 (mirWaiting s).length)
    sessionAbort (s.onMram fun m => { m with mirDue := true })
  else s

/-- POWER_FAIL (R248, R268, R408): PWRFAIL_N falls. -/
def execPowerFail (s : State) : Host.Outcome State Fault Refusal :=
  if s.sys.pwrFailN then
    let s := s.onSys fun y => { y with pwrFailN := false }
    .next (if awake s then keeperFail (outputsFast s) else keeperFail s)
  else .next s

/-- POWER_FAIL_END (R248, R268, R452): PWRFAIL_N has been high for 100 ms: the started outputs and inputs restart. -/
def execPowerFailEnd (s : State) : Host.Outcome State Fault Refusal :=
  if s.sys.pwrFailN then .next s
  else
    let s := s.onSys fun y => { y with pwrFailN := true }
    .next (if awake s ∧ s.sys.entry = none ∧ s.sys.resetPending = none then retriesDue (outputsPwrBack s) else pwrCausesOver s)

end Sys2Proof.Machine
end

