-- ==== Sys2Proof/Machine/Power.lean ====
section
/-! DEFINITION. The commands of chapter 16: choosing, entering and leaving the power states (R426-R447). -/

namespace Sys2Proof.Machine

/-! ### Choosing a state -/

/-- IDLE_TIMER (R430): the idle timer reaches IDLE_TMR. -/
def execIdleTimer (s : State) : Host.Outcome State Fault Refusal :=
  let runs := s.sys.mode = .run ∧ s.sys.service ∧ !s.sys.held ∧ s.sys.entry = none ∧ s.en P.pwr ∧
    s.getF P.pwr F.PWR_CFG_IDLE_TMR ≠ 0 ∧ activeCount s = 0
  .next (if runs then autoTry s (autoCands s) else s)

/-- ESCALATION (R430): ESCALATE minutes in Sleep, or 10 s after a try that was refused. -/
def execEscalation (s : State) : Host.Outcome State Fault Refusal :=
  let tries := s.sys.mode = .sleep ∧ !s.sys.held ∧ s.sys.waking = none ∧ s.sys.entry = none ∧
    s.getF P.pwr F.PWR_CFG_ESCALATE ≠ 0 ∧ refuser s .deep false = none
  .next (if tries then entryBegin s .deep 3 .keeper 0xFF 0 else s)

/-- PWR_REQ. -/
def pwrReqAt : Nat := P.pwr + 0x50

/-- R431: a write of PWR_REQ; with GO = 1 the request is made. A request that is refused stores nothing. -/
def pwrReqWrite (r : Req) (v : Word) : Act := fun s =>
  if !bit v 31 then plain pwrReqAt v s
  else
    let o := powerAsk s (getField v 2 0) (bit v 8) r 0xFF pwrReqAt
    if o.1 = .done then (.done, o.2.2.store pwrReqAt v) else (o.1, askCount o)

/-- PWR_REQ_GO (R431): PWR_REQ is written with GO = 1. -/
def execPwrReqGo (r : Req) (v : Word) (s : State) : Host.Outcome State Fault Refusal :=
  .next (hostWrite r pwrReqAt (pwrReqWrite r (setField v 31 31 1)) s)

/-- The registers of the PWR page. -/
def pwrWrite (r : Req) (off : Nat) (v : Word) : Act :=
  if off = 0x40 then (if 4 < getField v 31 28 then no .range else plain (P.pwr + off) v)
  else if off = 0x50 then pwrReqWrite r v
  else plain (P.pwr + off) v

/-- R432, R447: the payload of PWR_REQUEST's STATE response. -/
def refuserBytes (x : Refuser) : List Byte :=
  leBytes 2 x.ty ++ [BitVec.ofNat 8 x.inst, BitVec.ofNat 8 x.unit, BitVec.ofNat 8 x.reason, 0, 0, 0]

/-- PWR_REQUEST (R431, R447). -/
def execPwrRequest (q : PlReq) (s : State) : Host.Outcome State Fault Refusal :=
  .next (runPlosto 0x50 q (onPage P.pwr true fun s =>
    let p := q.payload
    if p.length ≠ 4 ∨ 1 < field p 1 1 ∨ field p 2 2 ≠ 0 then nak (s.err P.pwr) P.pwr .range
    else
      let o := powerAsk s (field p 0 1) (field p 1 1 == 1) q.via.req 0x50 0
      { code := o.1, payload := (o.2.1.map refuserBytes).getD [], page := P.pwr, addr := 0,
        st := if o.1 = .done then o.2.2 else askCount o }) s)

/-- PWR_TOLERANCE (R447): PWR_TOL and PWR_CFG are written together; NEEDSRC stays. -/
def execPwrTolerance (q : PlReq) (s : State) : Host.Outcome State Fault Refusal :=
  .next (runPlosto 0x51 q (onPage P.pwr true fun s =>
    let p := q.payload
    if p.length ≠ 8 ∨ 0xFFFFFF < field p 0 4 ∨ 4 < field p 6 1 then nak s P.pwr .range
    else
      let s := s.setF P.pwr F.PWR_TOL_TOL (field p 0 4)
      let s := s.setF P.pwr F.PWR_CFG_IDLE_TMR (field p 4 2)
      ok ((s.setF P.pwr F.PWR_CFG_AUTO_MAX (field p 6 1)).setF P.pwr F.PWR_CFG_ESCALATE (field p 7 1)) []) s)

/-- R447: what PWR_QUERY returns. -/
def pwrReport (s : State) (mode : Nat) : List Byte :=
  let w (off : Nat) : List Byte := wordBytes (s.rd (P.pwr + off))
  if mode = 0 then
    w 0x54 ++ w 0x58 ++ w 0x60 ++ w 0x64 ++ w 0x68 ++ leBytes 2 (s.rd (P.pwr + 0x6C)).toNat ++ leBytes 2 (s.rd (P.pwr + 0x74)).toNat
  else w 0x70 ++ (List.range 32).flatMap fun i => w (0x100 + 4 * i)

/-- PWR_QUERY (R447). -/
def execPwrQuery (q : PlReq) (s : State) : Host.Outcome State Fault Refusal :=
  .next (runPlosto 0x52 q (onPage P.pwr false fun s =>
    let p := q.payload
    if p.length ≠ 4 ∨ 1 < field p 0 1 ∨ field p 1 3 ≠ 0 then nak s P.pwr .range else ok s (pwrReport s (field p 0 1))) s)

/-! ### Entering a state -/

/-- The entry under way. -/
def State.onEntry (s : State) (f : Entry → Entry) : State := s.onSys fun y => { y with entry := y.entry.map f }

/-- ENTRY_PREPARE (R434, R435): once the descriptors have drained, the cores and outputs are stopped, or muted for Idle; a
wake source or an active sink that met the preparation abandons it. -/
def execEntryPrepare (s : State) : Host.Outcome State Fault Refusal :=
  match s.sys.entry with
  | none => .next s
  | some e =>
    if e.prepared then .next s
    else if e.source.isSome ∨ (e.target = .idle ∧ activeCount s ≠ 0) then .next (abandon s e)
    else if undrained s ≠ [] then .next s
    else
      let s := if e.target = .idle then s.idleMuteAll else prepare s e
      .next (s.onEntry fun x => { x with prepared := true })

/-- DRAIN_TIMEOUT (R430-R434): 2 ms have passed and a descriptor is still busy: it is aborted on a forced entry, and
refuses any other. An automatic entry leaves no record and passes to the next shallower state. -/
def execDrainTimeout (s : State) : Host.Outcome State Fault Refusal :=
  match s.sys.entry, undrained s with
  | some e, c :: _ =>
    if e.prepared then .next s
    else if e.kind = 2 then .next (frgAbortAll s)
    else
      let t := entryOver s
      if e.kind = 1 then .next (autoTry t ((autoCands t).filter fun m => decide (m.code < e.target.code)))
      else if e.kind = 0 then
        .next ((rfsPut t e.target.code e.req ⟨0x32, 0, c, 3⟩).refuse P.pwr e.cmd e.req e.addr .state)
      else .next t
  | _, _ => .next s

/-- ENTRY_COMMIT (R434, R435): the last output is OFF: the entry commits, or is abandoned if something met its
preparation. -/
def execEntryCommit (s : State) : Host.Outcome State Fault Refusal :=
  match s.sys.entry with
  | none => .next s
  | some e =>
    if !e.prepared ∨ (e.target ≠ .idle ∧ !outputsDone s) then .next s
    else if e.source.isSome ∨ (e.target = .idle ∧ activeCount s ≠ 0) then .next (abandon s e)
    else .next (commit s e)

/-! ### Waking -/

/-- R429, R435, R443: a rising edge of WAKE_IN has been accepted. -/
def wakeInRise (s : State) : State :=
  if s.sys.lockout then
    if s.sys.lowSeen then
      (s.onSys fun y => { y with lockout := false, lowSeen := false, fails := 0, waking := some 7 }).setF P.pwr F.PWR_STAT_CONSEC 0
    else s
  else match s.sys.entry with
    | some e => if e.source.isNone then s.onEntry fun x => { x with source := some 1 } else s
    | none =>
      match s.sys.mode with
      | .run => s
      | .idle => s.idleExit 1
      | _ => if s.sys.waking.isNone then s.onSys fun y => { y with waking := some 1 } else s

/-- WAKE_IN (R429, R443): a level of WAKE_IN has been held for 10 us. -/
def execWakeIn (level : Bool) (s : State) : Host.Outcome State Fault Refusal :=
  let rose := level && !s.sys.wakeIn
  let s := s.onSys fun y => { y with wakeIn := level, lowSeen := y.lowSeen || !level }
  .next (if rose ∧ !s.sys.held then wakeInRise s else s)

/-- PWR_STAT.LAST_SRC of what returns the part from Idle. -/
def IdleWake.src : IdleWake → Nat
  | .access => 6 | .cue => 5 | .wakeIn => 1

/-- IDLE_EXIT (R426): the part returns from Idle to Run. -/
def execIdleExit (w : IdleWake) (s : State) : Host.Outcome State Fault Refusal :=
  .next (if s.sys.mode = .idle ∧ s.sys.entry = none then s.idleExit (IdleWake.src w) else s)

/-- R427, R428, R436: a wake from Off is a device reset; the boot that follows ends it. -/
def wakeOff (s : State) (src us : Nat) : State :=
  (coldReset s 6).onSys fun y => { y with
    offWake := some (src, s.getF P.pwr F.PWR_STAT_LAST_KIND, us) }

/-- WAKE_SEQUENCE (R439): the steps of a wake have run, after `us` microseconds from the wake event to Run. -/
def execWakeSequence (us : BitVec 24) (s : State) : Host.Outcome State Fault Refusal :=
  match s.sys.waking with
  | none => .next s
  | some src => .next (if s.sys.held then s else if s.sys.mode = .off then wakeOff s src us.toNat else wakeRun s src us.toNat)

/-- R439: the steps that a wake from a power state runs. -/
def wakeSteps (m : PwrMode) : List Nat :=
  match m with
  | .sleep => [6, 7, 8, 9, 10]
  | .deep => [1, 2, 3, 4, 5, 6, 7, 8, 9, 10]
  | .off => [1, 2, 3]
  | _ => []

/-- R439-R441: whether step `k` of the wake can still time out: it runs in this wake, no later step has been reached, and
W8 is not skipped. -/
def stepRuns (s : State) (k : Nat) : Bool :=
  (wakeSteps s.sys.mode).contains k && decide (s.sys.retried.getD 0 ≤ k ∧ s.sys.clockFail < k) && !(k == 8 && s.sys.clockFail == 5)

/-- WAKE_STEP_TIMEOUT (R440-R443): the ready check of step W(k+1) does not hold by its timeout. -/
def execWakeStepTimeout (k : Fin 10) (s : State) : Host.Outcome State Fault Refusal :=
  let n := k.val + 1
  match s.sys.waking with
  | none => .next s
  | some src =>
    if !stepRuns s n then .next s
    else if s.sys.retried ≠ some n then .next (s.onSys fun y => { y with retried := some n })
    else if n = 5 ∨ n = 8 then
      .next (wakeFailed (s.onSys fun y => { y with retried := none, clockFail := n }) s.sys.mode.code 2 n)
    else .next (wakeAbort s src n)

/-- REF_FAIL_IN_SLEEP (R148): the reference fails in Sleep: a wake with source REF, whose W8 finds no reference. -/
def execRefFailInSleep (s : State) : Host.Outcome State Fault Refusal :=
  if s.sys.mode ≠ .sleep ∨ s.sys.held ∨ s.clk.halt = some .ref then .next s
  else
    let s := match s.sys.entry with
      | some e => abandon s { e with source := some 8 }
      | none => s
    let s := s.onClk fun c => { c with halt := some .ref }
    .next (wakeFailed (s.onSys fun y => { y with clockFail := 8, waking := some (s.sys.waking.getD 8) }) 2 2 8)

end Sys2Proof.Machine
end

