-- ==== Sys2Proof/Machine/RegWrite.lean ====
section
/-! DEFINITION. What a write of any address does (R19, R26-R44), and the commands of the register model. -/

namespace Sys2Proof.Machine

/-- R58: a write of SPI_CFG: DSEL is neither 0x00 nor 0xFF. -/
def spiWrite (off : Nat) (v : Word) : Act :=
  if off = 0x40 ∧ (getField v 15 8 = 0 ∨ getField v 15 8 = 0xFF) then no .range else plain (P.spi + off) v

/-- The registers of the SYS page. -/
def sysWrite (off : Nat) (v : Word) : Act := if off = 0x54 then rstCtrlWrite v else plain (P.sys + off) v

/-- A write of a block register of a page, other than the low half of a 64-bit quantity. -/
def blockWrite (r : Req) (k : PageKind) (inst off : Nat) (v : Word) : Act :=
  match k with
  | .sys => sysWrite off v
  | .pwr => pwrWrite r off v
  | .clk => clkWrite off v
  | .spi => spiWrite off v
  | .tw => if inst = 1 then tw1Write r off v else plain (P.tw 0 + off) v
  | .kpr => kprWrite r off v
  | .bbx => bbxWrite off v
  | .nrs => nrsWrite off v
  | .swm => swmWrite off v
  | .wag => wagWrite r off v
  | .clip => clipWrite off v
  | .fls => if off = 0x44 ∧ getField v 1 0 = 3 then no .range else plain (P.fls + off) v
  | .cmb => cmbWrite off v
  | .asrc => asrcWrite off v
  | .tdm => tdmWrite inst off v
  | .eth => fun s =>
    (if off = 0x48 then ethMacWrite r inst v else if off = 0x90 then ptpTimeWrite r inst v else ethWrite inst off v) s
  | .pdm => pdmWrite off v
  | .sct => sctWrite off v
  | .ain => ainWrite off v
  | .hs => hsWrite off v
  | .lo => loWrite off v
  | .amp => ampWrite inst off v
  | .bst => bstWrite inst off v
  | .madc => madcWrite inst off v
  | .lsv => lsvWrite off v
  | .w => coreWrite r inst off v
  | .q => coreWrite r (16 + inst) off v
  | .frg => frgWrite r off v
  | .frm => plain (P.frm + off) v

/-- R42: the 64-bit quantities that can be written: ETH_n_MAC, ETH_n_PTP_TIME and WAG_VALUE, by their _LO offset. -/
def pairWritable (k : PageKind) (off : Nat) : Bool :=
  match k with
  | .eth => off == 0x44 || off == 0x8C
  | .wag => off == 0x4C
  | _ => false

/-- R42: a write of a _LO register is held for its requester; one of a read-only quantity is ignored. -/
def loWriteHeld (r : Req) (k : PageKind) (off a : Nat) (v : Word) : Act := yes fun s =>
  if pairWritable k off then { s with holds := alSet s.holds (holdKey r a) (a, v) } else s

/-- A write of an address: a page's header or block registers, a window, or a memory. -/
def regWrite (r : Req) (a : Nat) (v : Word) : Act :=
  match regionOf a with
  | .page row inst off =>
    let page := row.base + 0x1000 * inst
    if off = 0x004 then pgCtrlWrite r row.kind inst page v
    else if off < 0x40 then headerWrite page off v
    else if isLo a then loWriteHeld r row.kind off a v
    else blockWrite r row.kind inst off v
  | .xp k off => xpWrite r k off v
  | .sink k off => sinkWrite k off v
  | .strRx j off => strWrite 0 j off v
  | .strTx j off => strWrite 1 j off v
  | .local_ c off => localWrite r c off v
  | .frame _ _ => yes fun s => s.storeWord a v
  | .unmapped => yes id

/-- R74: a soft reset of SPI that waits for the end of the frame which asked for it. -/
def State.srstDue (s : State) : State :=
  if s.ports.spi.srstNext then softReset .spi 0 P.spi (s.onSpi fun p => { p with srstNext := false }) else s

/-- A direct write of one word that reaches the part: its status, and the state after it. -/
def directWrite (r : Req) (a : Nat) (v : Word) (s : State) : Code × State :=
  if opened s r a then serve r 0xFF a (regWrite r a v) s else (.done, s)

/-- R54, R62: direct writes of words from an address, with the status of the first that was not DONE. -/
def applyWords (r : Req) : List Word → Nat → State → Code × State
  | [], _, s => (.done, s)
  | w :: ws, a, s =>
    let o := directWrite r a w s
    let t := applyWords r ws (a + 4) o.2
    (if o.1 = .done then t.1 else o.1, t.2)

/-! ### The commands -/

/-- REGISTER_WRITE (R19, R26-R29, R36): a write of any address. -/
def execRegisterWrite (r : Req) (a : BitVec 24) (v : Word) (s : State) : Host.Outcome State Fault Refusal :=
  .next (hostWrite r a.toNat (regWrite r a.toNat v) s).srstDue

/-- WRITE_LO_HOLD (R42): a write of a _LO register. -/
def execWriteLoHold (r : Req) (a : BitVec 24) (v : Word) (s : State) : Host.Outcome State Fault Refusal :=
  .next (if isLo a.toNat then hostWrite r a.toNat (regWrite r a.toNat v) s else s)

/-- WRITE_HI_COMMIT (R42): a write of a _HI register. -/
def execWriteHiCommit (r : Req) (a : BitVec 24) (v : Word) (s : State) : Host.Outcome State Fault Refusal :=
  .next (if isHi a.toNat then hostWrite r a.toNat (regWrite r a.toNat v) s else s)

/-- Hardware of a page's block runs: the device is not held in reset and the page's domain is on. -/
def live (s : State) (page : Nat) : Bool := !s.sys.held && ((domOf page).map s.domOn).getD false

/-- EVENT_CLEAR (R39): 1s are written to EVT_RAW of the page with index `p`; hardware sets the bits `hw` in the same clock,
and they win. -/
def execEventClear (r : Req) (p : Fin 77) (bits hw : Word) (s : State) : Host.Outcome State Fault Refusal :=
  let page := pageOfIndex p
  let s := hostWrite r (page + 0x00C) (regWrite r (page + 0x00C) bits) s
  .next (if live s page then s.wr (page + 0x00C) (s.rd (page + 0x00C) ||| hw) else s)

/-- EVT_FORCE (R37): EVT_FORCE of the page with index `p` is written. -/
def execEvtForce (r : Req) (p : Fin 77) (bits : Word) (s : State) : Host.Outcome State Fault Refusal :=
  .next (hostWrite r (pageOfIndex p + 0x018) (regWrite r (pageOfIndex p + 0x018) bits) s)

/-- Whether an address is a counter that a write clears (R32). -/
def isCounter (a : Nat) : Bool := (regAt a).map (·.kind) == some .counter

/-- COUNTER_CLEAR (R32, R40): a clearable counter is written; with `hit`, hardware counts in the same clock, after the
clear. -/
def execCounterClear (r : Req) (a : BitVec 24) (v : Word) (hit : Bool) (s : State) : Host.Outcome State Fault Refusal :=
  if isCounter a.toNat then
    let s := hostWrite r a.toNat (regWrite r a.toNat v) s
    .next (if hit && live s a.toNat then s.count a.toNat else s)
  else .next s

/-- SNAP_TAKE (R43, R44): SNAP of the page with index `p` is written with TAKE, and CLR if `clr`. -/
def execSnapTake (r : Req) (p : Fin 77) (clr : Bool) (s : State) : Host.Outcome State Fault Refusal :=
  .next (hostWrite r (pageOfIndex p + 0x024) (regWrite r (pageOfIndex p + 0x024) (if clr then 3 else 1)) s)

/-- SNAP_RELEASE (R43): SNAP is written with RELEASE. -/
def execSnapRelease (r : Req) (p : Fin 77) (s : State) : Host.Outcome State Fault Refusal :=
  .next (hostWrite r (pageOfIndex p + 0x024) (regWrite r (pageOfIndex p + 0x024) 4) s)

/-- A write of PG_CTRL that sets bits and leaves EN as it stands. -/
def pgCtrlSet (r : Req) (p : Fin 77) (bits : Word) (s : State) : State :=
  hostWrite r (pageOfIndex p + 0x004)
    (fun s => regWrite r (pageOfIndex p + 0x004) (bits ||| BitVec.ofNat 32 (b2n (s.en (pageOfIndex p)))) s) s

/-- SOFT_RESET (R35): PG_CTRL.SRST is written 1. -/
def execSoftReset (r : Req) (p : Fin 77) (s : State) : Host.Outcome State Fault Refusal :=
  .next (pgCtrlSet r p 2 s).srstDue

/-- SOFT_RESET_DONE (R35): a soft reset in progress completes; while its outputs still ramp it goes on. -/
def execSoftResetDone (p : Fin 77) (s : State) : Host.Outcome State Fault Refusal :=
  match rowOf (pageOfIndex p) with
  | some (row, inst) =>
    .next (if s.isSet (pageOfIndex p) F.PG_CTRL_SRST then softResetDone row.kind inst (pageOfIndex p) s else s)
  | none => .next s

/-- PAGE_LOCK (R36): PG_CTRL.LOCK is written 1. -/
def execPageLock (r : Req) (p : Fin 77) (s : State) : Host.Outcome State Fault Refusal := .next (pgCtrlSet r p 4 s)

/-- BLOCK_ENABLE (R34): PG_CTRL.EN is written. -/
def execBlockEnable (r : Req) (p : Fin 77) (en : Bool) (s : State) : Host.Outcome State Fault Refusal :=
  .next (hostWrite r (pageOfIndex p + 0x004) (regWrite r (pageOfIndex p + 0x004) (BitVec.ofNat 32 (b2n en))) s)

end Sys2Proof.Machine
end

