-- ==== Sys2Proof/Machine/Boot.lean ====
section
/-! DEFINITION. BOOT (R348, R350, R395-R398): the flash probe, the choice of a slot, and what the Keeper puts in place before it
serves Plosto. -/

namespace Sys2Proof.Machine

/-! ### The flash -/

/-- R350: the entries of the layout table: TYPE, BASE, COUNT. -/
def layoutEntries (hdr : List Byte) : List (Nat × Nat × Nat) :=
  (List.range 7).map fun i => (field hdr (8 + 8 * i) 1, field hdr (10 + 8 * i) 3, field hdr (13 + 8 * i) 3)

/-- R350: regions in ascending order from a sector, without gaps or overlap; answers the sector after the last. -/
def contiguous : List (Nat × Nat × Nat) → Nat → Option Nat
  | [], n => some n
  | (_, b, c) :: t, n => if b = n then contiguous t (n + c) else none

/-- R350: the layout table is sound and fits a flash of `mb` MB, of 16 sectors each. -/
def layoutOk (hdr : List Byte) (mb : Nat) : Bool :=
  let es := layoutEntries hdr
  hdr.take 6 == [0x46, 0x4C, 0x59, 0x54, 0x01, 7] && decide (68 ≤ hdr.length) &&
    BitVec.ofNat 32 (field hdr 64 4) == crc32 (hdr.take 64) &&
    ((List.range 7).all fun i => (es.filter fun e => e.1 == i + 1).length == 1) &&
    ((es.head?.map (·.1)) == some 1) && ((contiguous es 0).map fun n => decide (n ≤ 16 * mb)).getD false &&
    decide (16 ≤ (regionOfType hdr 6).2)

/-- R363: the sectors of the BBX and LOG regions that the flash has not listed: as erased, never used. -/
def newSectors (s : State) : State :=
  let f := s.flash
  let known (n : Nat) : Bool := f.bbx.any (fun x => x.num == n) || f.log.any fun x => x.num == n
  let nums (ty : Nat) : List Nat :=
    let r := regionOfType f.hdr ty
    ((List.range r.2).map (r.1 + ·)).filter fun n => !known n
  { s with flash := { f with bbx := f.bbx ++ (nums 6).map fun n => ⟨n, 0, false, []⟩,
                             log := f.log ++ (nums 7).map fun n => ⟨n, 0, false, []⟩ } }

/-- R348, R364: the FLS page enters FAULT with a reason. -/
def flsFault (s : State) (why : Nat) : State :=
  (((s.setF P.fls F.FLS_INFO_REASON why).setSt P.fls 4).setF P.fls F.PG_STAT_FAULT 1).raise P.fls 24

/-- R348, R350, R364: the probe of the flash. -/
def flashProbe (p : FlashProbe) (s : State) : State :=
  match p with
  | .noAnswer => flsFault s 1
  | .sfdp => flsFault s 2
  | .badSize _ => flsFault s 3
  | .found mfr mb w =>
    let s := ({ s with flash := w.getD s.flash }.setF P.fls F.FLS_INFO_MFR mfr.toNat)
    if mb < 16 ∨ 256 < mb then flsFault s 3
    else
      let s := s.setF P.fls F.FLS_INFO_SIZE mb
      if layoutOk s.flash.hdr mb then flsWear (newSectors (s.setSt P.fls 3)) else flsFault s 4

/-! ### The choice of a slot (R395) -/

/-- How a slot is taken up: by its next attempt, rejected after three, or as confirmed. -/
inductive BootKind where
  | attempt | reject | confirmed
deriving DecidableEq, Repr

/-- R395: the newest CONFIRM of a slot's log. -/
def confirmOrder (x : SlotImage) : Nat := (((x.log.filter fun e => e.kind == .confirm).map (·.order)).foldl max 0)

/-- R395: the slots in the order they are tried. -/
def bootList (s : State) : List (Nat × BootKind) :=
  let inState (st : Nat) := (List.range 2).filter fun k => slotState (slotOf s k).log == st
  let late (k : Nat) : Bool := decide (3 ≤ attempts (slotOf s k).log)
  let conf := match inState 3 with
    | [a, b] => if confirmOrder (slotOf s a) < confirmOrder (slotOf s b) then [b, a] else [a, b]
    | l => l
  ((inState 2).filter fun k => !late k).map (·, .attempt) ++ ((inState 2).filter late).map (·, .reject) ++ conf.map (·, .confirmed)

/-- What the choice leaves: the state, the slots rejected after three attempts with their reasons, and the slot that boots. -/
structure BootPick where
  st : State
  fall : List (Nat × Byte)
  slot : Option (Nat × BootKind)

/-- R395: the list is worked down until a slot boots. The reason code of a rejection after three attempts is not stated. -/
def bootPick : List (Nat × BootKind) → State → List (Nat × Byte) → BootPick
  | [], s, f => ⟨s, f, none⟩
  | (k, .reject) :: t, s, f =>
    let d := s.draw
    let c := d.1.setWidth 8
    let s := (bootLog d.2 k .reject c.toNat).raise P.kpr 1
    bootPick t (s.setF P.kpr F.KPR_BOOT_FALLBACK 1) (f ++ [(k, c)])
  | (k, b) :: t, s, f =>
    let s := if b = .attempt then bootLog s k .attempt 0 else s
    let c := imgVerify s (slotOf s k).bytes false
    if c = .done then ⟨s, f, some (k, b)⟩ else bootPick t ((bootLog s k .reject c.num).err P.kpr) f

/-- R410: a FALLBACK record for each slot rejected; the slot booted is a free value where none is. -/
def fallRecords (fall : List (Nat × Byte)) (slot : Option Nat) (s : State) : State :=
  forEach fall (fun e s =>
    let d := s.draw
    let s := if slot.isNone then d.2 else s
    s.log 0x0002 3 0x0006 0 [BitVec.ofNat 8 e.1, e.2, match slot with
      | some k => BitVec.ofNat 8 k
      | none => d.1.setWidth 8]) s

/-! ### What the Keeper puts in place -/

/-- R33, R396: every page is READY, and shows its block's state. -/
def pagesReady (s : State) : State :=
  forEach (List.range 77) (fun i s =>
    match rowOf (pageOfIndex i) with
    | some (r, inst) => (blockShow r.kind inst (pageOfIndex i) s).setF (pageOfIndex i) F.PG_STAT_READY 1
    | none => s) s

/-- R351, R359: the library of the image that boots. -/
def libTake (s : State) (b : List Byte) : State :=
  match libOf s b with
  | some h =>
    let s := (s.setF P.clip F.CLIP_LIB_VALID 1).setF P.clip F.CLIP_LIB_HALF h
    s.setF P.clip F.CLIP_LIB_NCLIP (dirClips (s.flash.libs.getD h []))
  | none => s

/-- R397: a refused script write. -/
def scriptBad (a : Nat) (v : Word) (c : Code) (s : State) : State :=
  let n := s.getF P.kpr F.KPR_BOOT_SCRIPT
  ((s.setF P.kpr F.KPR_BOOT_SCRIPT (min 255 (n + 1))).err P.kpr).log 0x0006 2 0x0006 0
    (leBytes 4 a ++ wordBytes v ++ [BitVec.ofNat 8 c.num])

/-- R397: one pair of the register script. -/
def scriptWrite (a : Nat) (v : Word) (s : State) : State :=
  if a = 0x000054 ∨ a = P.kpr + 0x90 then scriptBad a v .auth (s.refuseAt .keeper 0xFF a .auth)
  else
    let o := serve .keeper 0xFF a (regWrite .keeper a v) s
    if o.1 = .done then o.2 else scriptBad a v o.1 o.2

/-- R351, R397: the register script of an image: address and value pairs of 8 bytes. -/
def applyScript (b : List Byte) (s : State) : State :=
  forEach (sectionsOf b 2) (fun x s =>
    forEach (List.range (x.length / 8)) (fun i s => scriptWrite (numAt x (8 * i) 4) (BitVec.ofNat 32 (numAt x (8 * i + 4) 4)) s) s) s

/-- R417: the last SWARM_BEGIN in the ring has no end record. -/
def swarmOpen (s : State) : Bool :=
  let newest (code : Nat) : Nat := ((((ringRecs s).filter fun r => r.code == code).map fun r => r.seq + 1)).foldl max 0
  decide (newest 0x000F < newest 0x000E)

/-- R396, R410: a slot boots. -/
def bootSlot (k : Nat) (b : BootKind) (s : State) : State :=
  let x := slotOf s k
  let img := x.bytes
  let sv := imgSecver img
  let att := if b = .attempt then attempts x.log else 0
  let s := ((s.setF P.kpr F.KPR_BOOT_TRIAL (b2n (b == .attempt))).setF P.kpr F.KPR_BOOT_ATTEMPT att).setF P.kpr F.KPR_BOOT_SLOT k
  let s := (s.setF P.kpr F.KPR_BOOT_SECVER sv).setF P.kpr F.KPR_BOOT_KEYSLOT (trailerSlot (trailerOf (imgBody img)))
  let s := pagesReady (libTake s img)
  let s := if b = .confirmed then blowFuses s sv none else s
  let s := applySections (imgBody img) (applyScript (imgBody img) s)
  let s := s.onSys fun y => { y with service := true, recovery := false }
  let s := blockShow .kpr 0 P.kpr s
  let s := if b = .attempt then s.raise P.kpr 2 else s
  s.log 0x0001 0 0x0006 0 ([BitVec.ofNat 8 k, BitVec.ofNat 8 sv, (s.rd rstCause).setWidth 8, BitVec.ofNat 8 att] ++
    wordBytes (Config.firmwareVersion ((sectionsOf (imgBody img) 1).headD [])))

/-- R398: the outcome of a slot in the NOIMAGE record. -/
def slotOutcome (s : State) (k : Nat) : Byte :=
  if !flsReady s ∨ slotState (slotOf s k).log = 0 then BitVec.ofNat 8 Code.absent.num
  else BitVec.ofNat 8 ((((slotOf s k).log.filter fun e => e.kind == .reject).getLast?.map (·.reason)).getD 0)

/-- R398: RECOVERY. -/
def bootRecovery (s : State) : State :=
  let why := if flsReady s then 2 else 1
  let s := (pagesReady s).setF P.kpr F.KPR_BOOT_NOIMG why
  let s := s.onSys fun y => { y with service := true, recovery := true }
  let s := ((blockShow .kpr 0 P.kpr s).raise P.kpr 24).setF P.kpr F.PG_STAT_FAULT 1
  s.log 0x0005 4 0x0006 0 [BitVec.ofNat 8 why, slotOutcome s 0, slotOutcome s 1]

/-- R427, R433: Run is reached after a wake from Off. -/
def offWakeEnd (s : State) : State :=
  match s.sys.offWake with
  | none => s
  | some (src, kind, us) =>
    wakeReport ((s.onSys fun y => { y with offWake := none }).setF P.pwr F.PWR_STAT_LAST_KIND kind) .off src us

/-- BOOT (R395, R396): the Keeper boots; `p` is what the probe of the flash finds. -/
def execBoot (p : FlashProbe) (s : State) : Host.Outcome State Fault Refusal :=
  if s.sys.held ∨ s.sys.service ∨ s.sys.mode ≠ .run then .next s
  else
    let s := s.onSys fun y => { y with opening := 0 }
    let s := { s.onUdp (fun u => { u with nonce := Config.random64 s.free }) with free := s.free + 1 }
    let s := bbxScan (flashProbe p s)
    let s := if swarmOpen s then swarmEnd s 2 else s
    let s := aonFlush s
    let o := if flsReady s then bootPick (bootList s) (imgShow s) [] else ⟨s, [], none⟩
    let s := fallRecords o.fall (o.slot.map (·.1)) o.st
    .next (offWakeEnd (match o.slot with
      | some (k, b) => bootSlot k b s
      | none => bootRecovery s))

end Sys2Proof.Machine
end

