-- ==== Sys2Proof/Machine/AmpPath.lean ====
section
/-! DEFINITION. What each fabric sample does to a speaker channel and its boost: the signal path from the sink to the bridge's edges
(R255, R256, R258-R260) and envelope tracking (R262). -/

namespace Sys2Proof.Machine

/-! ### Numbers -/

/-- R275, R276: a sample attenuated by `att` in 0.001 dB, to the nearest: 25 units are 8 steps of `pow10`, and the rest is an
exponential. -/
def attenuated (att : Nat) (x : Int) : Int :=
  let g := Fix.mul (pow10 (-(8 * (att / 25 : Nat)))) (expNeg (att % 25 * 2302585092994045684) (20000 * 10 ^ 18))
  if att = 0 then x else roundShift (x * g) 64

/-- A number limited to a magnitude. -/
def within (lim x : Rat) : Rat := if lim < x then lim else if x < -lim then -lim else x

/-- The nearest whole number, halves upwards. -/
def nearest (x : Rat) : Int := (x + 1 / 2).floor

/-- R256: an edge count of one leg: its duty of a carrier period of `steps` edge steps, with the shaper's part, to a whole number of
steps; and the errors after it. -/
def edgeOf (steps : Nat) (errs : List Rat) (duty : Rat) : Nat × List Rat :=
  let want := duty * steps
  let n := min steps (nearest (want + Config.shaper steps errs)).toNat
  (n, ((n : Rat) - want) :: errs.take 4)

/-- R267: the duty of both legs at a point of the common mode's ramp, which follows a raised cosine to one half. -/
def commonDuty (cm : Nat) : Rat :=
  if cm = 0 then 0 else if 960 ≤ cm then 1 / 2 else (raised cm 960 : Rat) / 2 ^ 65

/-! ### The modulator and the sense loop -/

/-- What stays the same through the carrier periods of a fabric sample: VFS in volts, FC, the edge steps of a period, whether the loop
is closed (R267), and the duty of the common mode. -/
structure Carrier where
  vfs : Rat
  fc : Nat
  steps : Nat
  closed : Bool
  half : Rat

/-- R258: the modulation index for a voltage from a rail in 10 mV, and whether it clips. -/
def modIndex (v vr : Rat) : Rat × Bool :=
  let m := if vr = 0 then (if v = 0 then 0 else if 0 < v then 1 else -1) else 100 * v / vr
  (within (97 / 100) m, decide (97 / 100 < |m|))

/-- What a carrier period found: the clip of R258, c at its limit, the sense below 2 % of v* with v* above 10 % of VFS, and the sense
within 20 % of v* (R260). -/
structure Seen where
  clip : Bool
  sat : Bool
  low : Bool
  agree : Bool

/-- R256, R258, R259: one carrier period: the index from v*, the correction and the rail of the period before; the legs' edges; then the
error against the filtered reference, and the next correction, limited to 12.5 % of VFS. -/
def carrierPeriod (c : Carrier) (vs rail sense : Rat) (l : AmpLoop) : AmpLoop × Seen :=
  let m := modIndex (vs + l.corr) l.vr
  let p := edgeOf c.steps l.errP (c.half + m.1 / 2)
  let n := edgeOf c.steps l.errN (c.half - m.1 / 2)
  let r := Config.refFilter c.fc c.steps l.ref vs
  let f := Config.loopFilter c.steps l.flt (r.1 - sense)
  let lim := c.vfs / 8
  let corr := if c.closed then within lim f.1 else 0
  ({ l with vr := rail, ref := r.2, flt := if c.closed then f.2 else [], corr := corr, errP := p.2, errN := n.2, m := m.1,
            edges := l.edges ++ [(p.1, n.1)] },
   { clip := m.2, sat := c.closed && decide (|corr| = lim),
     low := decide (|sense| < |vs| / 50 ∧ c.vfs / 10 < |vs|), agree := decide (|sense - vs| ≤ |vs| / 5) })

/-- The carrier periods of a fabric sample, each with v*, the rail and the sense. -/
def carrierRun (c : Carrier) : List (Rat × Rat × Rat) → AmpLoop → AmpLoop × List Seen
  | [], l => (l, [])
  | (v, r, e) :: t, l =>
    let o := carrierPeriod c v r e l
    let u := carrierRun c t o.1
    (u.1, o.2 :: u.2)

/-- R260: a run of fabric samples in which a condition holds. -/
def runLen (n : Nat) (b : Bool) : Nat := if b then n + 1 else 0

/-- R267: whether the sense loop of channel `n` is closed: from 20 ms of its start until its signal is mute in a stop. -/
def loopClosed (s : State) (n : Nat) : Bool :=
  let h := s.amp n
  s.isSet (P.amp n) F.AMP_CFG_LOOP && !h.senseOpen &&
    ((s.st (P.amp n) == 3 && decide (960 ≤ h.age)) || decide (4 ≤ s.st (P.amp n) ∧ s.st (P.amp n) ≤ 6) ||
     (s.st (P.amp n) == 7 && h.gain.cur != 0))

/-- R258: a fabric sample of channel `n` in which a carrier period clipped. -/
def ampClipped (s : State) (n : Nat) : State :=
  let first := s.getF (P.amp n) F.AMP_CLIP_CNT_COUNT == 0
  let s := s.bump (P.amp n) F.AMP_CLIP_CNT_COUNT
  if first then s.raise (P.amp n) 2 else s

/-- R255, R262: a sample of sink 0x200 + n enters the look-ahead, attenuated, as v* in volts; the one that leaves it meets the signal
gain (R267) and goes on to the interpolator. -/
def ampSample (s : State) (n : Nat) (x : Int) : State :=
  let y := attenuated ((s.amp n).pAtt + (s.amp n).thAtt + s.an.dieAtt) x
  let v : Rat := (y : Rat) / 2147483648 * (s.getF (P.amp n) F.AMP_CFG_VFS : Nat) / 10
  let len := s.getF (P.bst (n / 2)) F.BST_CFG_LOOKAHEAD
  s.onAmp n fun a =>
    let ahead := v :: a.ahead.take len
    { a with ahead := ahead, line := (ahead.getD len 0 * a.gain.cur) :: a.line.take 24 }

/-- R255-R260: the carrier periods of a fabric sample of channel `n`, whose bridge is on, with the rails in 10 mV and the sensed
outputs in microvolts that the power die delivers. -/
def ampDrive (s : State) (n : Nat) (rails : List Rat) (senses : List Int) : State :=
  if !ampLive s n then s
  else
    let h := s.amp n
    let ratio := if s.isSet (P.bst (n / 2)) F.BST_CFG_CARRIER then 16 else 8
    let c : Carrier :=
      { vfs := (s.getF (P.amp n) F.AMP_CFG_VFS : Rat) / 10, fc := s.getF (P.amp n) F.AMP_CFG_FC, steps := 16384 / ratio,
        closed := loopClosed s n, half := commonDuty h.cm }
    let spread := s.getF (P.bst (n / 2)) F.BST_CFG_SPREAD
    let ins := (List.range ratio).map fun j =>
      (Config.ampInterp spread ratio j h.line, rails.getD j h.loop.vr, (senses.getD j 0 : Rat) / 1000000)
    let o := carrierRun c ins { h.loop with edges := [] }
    let sat := o.2.all (·.sat)
    let l := { o.1 with satRun := runLen h.loop.satRun sat, told := h.loop.told && sat,
                        lowRun := runLen h.loop.lowRun (o.2.all (·.low)), agreeRun := runLen h.loop.agreeRun (o.2.all (·.agree)) }
    let s := s.onAmp n fun a => { a with loop := l }
    if o.2.any (·.clip) then ampClipped s n else s

/-- R269: the idle pattern: both legs of a bridge that switches at 50 %. -/
def ampIdlePattern (s : State) (n : Nat) : State :=
  if ampLive s n then
    let ratio := if s.isSet (P.bst (n / 2)) F.BST_CFG_CARRIER then 16 else 8
    s.onAmp n fun a => { a with loop := { AmpLoop.reset with edges := List.replicate ratio (8192 / ratio, 8192 / ratio) } }
  else s

/-! ### Envelope tracking -/

/-- R262: a channel's part in the peak: 0 unless it is in PLAY, MUTING or MUTED. -/
def ampPeak (s : State) (n : Nat) : Rat :=
  if 4 ≤ s.st (P.amp n) ∧ s.st (P.amp n) ≤ 6 then (s.amp n).ahead.foldl (fun m v => max m |v|) 0 else 0

/-- R262: the rail target after one sample, from the need. -/
def railTarget (need vmin vmax fall tgt : Rat) (falling : Bool) : Rat :=
  let t := if tgt ≤ need then min need vmax else if falling then max (tgt - fall / 48) need else tgt
  max t vmin

/-- R262: the need of the pair of boost `p`. -/
def railNeed (s : State) (p : Nat) : Rat :=
  max (ampPeak s (2 * p)) (ampPeak s (2 * p + 1)) / (97 / 100) + (s.getF (P.bst p) F.BST_TRACK_HEAD : Rat) / 10

/-- R261, R262: the target of boost `p` follows the samples in its look-ahead, at every sample; PASS and BOOST follow the target. -/
def boostTick (s : State) (p : Nat) : State :=
  let b := P.bst p
  if !s.en b then s
  else
    let u (f : Fld) : Rat := (s.getF b f : Nat)
    let need := railNeed s p
    let h := s.bst p
    let falling := h.falling || holdOver s p
    let tgt := railTarget need (u F.BST_RAIL_VMIN / 10) (u F.BST_RAIL_VMAX / 10) (u F.BST_TRACK_FALL / 100) h.tgt falling
    let reached := decide (h.tgt ≤ need)
    let s := s.onBst p fun x => { x with tgt := tgt, held := if reached then 0 else x.held + 1, falling := falling && !reached }
    let s := s.setF b F.BST_STAT_VTGT (quantR (tgt * 10))
    if railUp s p then s.setSt b (if tgt ≤ u F.BST_PVIN_PVIN / 10 - u F.BST_TRACK_PASSM / 10 then 4 else 5) else s

/-- R262: the rail in 10 mV as measured over one carrier period of `1/(48 n)` ms: while the boost switches it rises by at most 20 V/ms
and falls by at most FALL. -/
def railNext (s : State) (p n : Nat) (rail : Rat) (v : BitVec 12) : Rat :=
  if s.st (P.bst p) = 5 then
    max (min (v.toNat : Rat) (rail + 2000 / (48 * n))) (rail - (s.getF (P.bst p) F.BST_TRACK_FALL : Rat) / (48 * n))
  else v.toNat

/-- The rails of the carrier periods of a fabric sample. -/
def railRun (s : State) (p n : Nat) : Rat → List (BitVec 12) → List Rat
  | _, [] => []
  | r, v :: t => railNext s p n r v :: railRun s p n (railNext s p n r v) t

/-- R258, R262: the rail of boost `p` through a fabric sample, as the power die measures it; VRAIL shows the last. -/
def railTake (s : State) (p : Nat) (vs : List (BitVec 12)) : List Rat × State :=
  let l := railRun s p vs.length (s.bst p).rail vs
  match l.getLast? with
  | some r => (l, (s.onBst p fun x => { x with rail := r }).setF (P.bst p) F.BST_STAT_VRAIL (min 1023 (quantR (r / 10))))
  | none => (l, s)

end Sys2Proof.Machine
end

