-- ==== Sys2Proof/Machine/AnalogPath.lean ====
section
/-! DEFINITION. What each fabric sample does in the analogue blocks: the line outputs (R23, R238), the headset ears with their
side-tone (R245, R246), the gain steps of the headset microphones (R240) and the currents the guards measure (R250, R252). -/

namespace Sys2Proof.Machine

/-! ### Line outputs -/

/-- R23, R238: a sample of sink 0x208 + n enters the output's interpolator; the one of 12 periods before reaches the balls, with the
signal gain; nothing does while the stage is off. -/
def loSample (s : State) (n : Nat) (x : Int) : State :=
  let on := loOn s n || loSt s n == 5
  s.onLo n fun h =>
    let line := x :: h.line.take 12
    { h with line := line, out := if on then (line.getD 12 0 : Rat) * h.gain.cur else 0 }

/-! ### Side-tone -/

/-- R245: the gain of a code: mute, or (c - 60) dB. -/
def toneGain (c : Nat) : Rat := if c = 0 then 0 else (pow10 (320 * ((c : Int) - 60)) : Rat) / 2 ^ 64

/-- R246: the gain of headset `n`'s side-tone follows its conditions, its code and its source: 10 ms in, 1 ms out; a change of SRC or
HPF goes through mute. -/
def toneFade (s : State) (n : Nat) (h : HsHid) : HsHid :=
  let src := s.getF (hsBase n) F.HS_ST_SRC
  let hpf := s.getF (hsBase n) F.HS_ST_HPF
  let goal := toneGain (s.getF (hsBase n) F.HS_ST_GAIN)
  let h := { h with st := h.st.step }
  let fall := fun (h : HsHid) => if h.st.goal = 0 then h else { h with st := h.st.to 0 (periods 1) }
  if !stSounds s n then fall h
  else if h.stSrc ≠ src ∨ h.stHpf ≠ hpf then
    (if h.st.cur = 0 then { h with stSrc := src, stHpf := hpf, hp := [], st := h.st.to goal (periods 10) } else fall h)
  else if h.st.goal ≠ goal then { h with st := h.st.to goal (periods 10) }
  else h

/-- R245: one sample of the high-pass; its state is the last two inputs and outputs. -/
def toneHp (hpf : Nat) (st : List Rat) (x : Rat) : Rat × List Rat :=
  if hpf = 0 then (x, [])
  else
    let g (i : Nat) : Rat := st.getD i 0
    let c := Config.toneHpf hpf
    let y := c 0 * x + c 1 * g 0 + c 2 * g 1 - c 3 * g 2 - c 4 * g 3
    (y, [x, g 0, y, g 2])

/-- A sum at an ear's full scale, and whether it saturates. -/
def earSum (base tone : Rat) : Int × Bool :=
  let v := (base + tone + 1 / 2).floor
  (satS 32 v, satS 32 v != v)

/-- R245: the samples at 384 kHz of a fabric period, each of the microphone's; answers the sums of both ears and how many saturated. -/
def toneRun (h : HsHid) : Nat → List Int → HsHid × Nat
  | _, [] => (h, 0)
  | j, x :: t =>
    let o := toneHp h.stHpf h.hp x
    let tone := o.1 * h.st.cur
    let l := earSum (Config.earInterp j h.lineL * h.ear.cur) tone
    let r := earSum (Config.earInterp j h.lineR * h.ear.cur) tone
    let u := toneRun { h with hp := o.2, outs := h.outs ++ [(l.1, r.1)] } (j + 1) t
    (u.1, u.2 + b2n l.2 + b2n r.2)

/-- R23, R245: headset `n` in a fabric period: the samples of sinks 0x210 + 2n and 0x211 + 2n enter the interpolators, the ears play
what has come through them with the side-tone added; the stage holds the ears at 0 V while they are not driven. -/
def earSample (s : State) (n : Nat) (l r : Int) (mics : Nat → List Int) : State :=
  let h := toneFade s n { s.hsh n with lineL := l :: (s.hsh n).lineL.take 24, lineR := r :: (s.hsh n).lineR.take 24, outs := [] }
  if 2 ≤ earSt s n then
    let xs := mics h.stSrc
    let o := toneRun h 0 ((List.range 8).map fun j => xs.getD j 0)
    forEach (List.range o.2) (fun _ s => stSaturate s n) (s.onHs n fun _ => o.1)
  else s.onHs n fun _ => { h with hp := [] }

/-! ### Microphones and guards -/

/-- R235, R240: the present gain of headset `n`'s microphone moves by a step at a zero crossing, or 1 ms after the last step. -/
def micStep (s : State) (n : Nat) (x : Int) : State :=
  let goal := s.getF (hsBase n) F.HS_CFG_MICGAIN
  if hsSt s n ≠ 4 then s
  else s.onHs n fun h =>
    let neg := decide (x < 0)
    let age := h.micAge + 1
    if h.mic ≠ goal ∧ (neg ≠ h.micNeg ∨ 48 ≤ age) then
      { h with mic := if h.mic < goal then h.mic + 1 else h.mic - 1, micAge := 0, micNeg := neg }
    else { h with micAge := min 48 age, micNeg := neg }

/-- R250: the bias current of input `n`, in 0.05 mA units, while its regulator runs. -/
def biasCurrent (s : State) (n : Nat) (i : Byte) : State :=
  if s.an.biasOn.contains n then s.setF (ainBase n) F.AIN_STAT_IBIAS i.toNat else s

/-- R244, R252: the microphone fraction F of headset `n`, in 1/65536, evaluated in READY with class HEADSET. -/
def micFraction (s : State) (n : Nat) (f : BitVec 16) : State :=
  if hsSt s n = 4 ∧ s.getF (hsBase n) F.HS_JACK_CLASS = 2 then s.setF (hsBase n) F.HS_JACK_MICF (f.toNat / 256) else s

end Sys2Proof.Machine
end

