-- ==== Sys2Proof/Machine/TdmPath.lean ====
section
/-! DEFINITION. The words on the TDM ports' balls: into the fabric and out of it, past the converter channels and Swarm (R13, R23, R142,
R143, R153-R156, R159, R160, R162, R163). -/

namespace Sys2Proof.Machine

/-! ### Words -/

/-- R13, R153: the width of port `n`'s samples. -/
def tdmWidth (s : State) (n : Nat) : Nat :=
  match s.getF (P.tdm n) F.TDM_CFG_WIDTH with
  | 0 => 16 | 1 => 24 | _ => 32

/-- R13, R153: a received word of a port of `w` bits: the bits below the sample are 0. -/
def wordIn (w : Nat) (v : Word) : Word := (v >>> (32 - w)) <<< (32 - w)

/-- R13: a sample leaving through a port of `w` bits, left-justified, and whether it saturated. -/
def edgeOut (w : Nat) (x : Int) : Int × Bool :=
  if 32 ≤ w then (x, false)
  else
    let y := roundShift x (32 - w)
    (satS w y * 2 ^ (32 - w), satS w y != y)

/-- R163, R418: a word of slot `i` of port `n` in a direction as Swarm leaves it: XOR PARAM, in the port's width; counted. -/
def tdmSwarm (s : State) (n i : Nat) (tx : Bool) (v : Word) : Word × State :=
  let o := swmUnit s (ruleTdm s n tx i) (some (P.tdm n + 0x5C))
  match o.1 with
  | none => (v, o.2)
  | some r => (v ^^^ (s.rd (ruleBase r + 0x108) <<< (32 - tdmWidth s n)), o.2)

/-! ### Frames -/

/-- R156, R157: the frames that pass on port `n` in a fabric period of those brought: on a provider one, two or four, by its rate. -/
def framesOf (s : State) (n : Nat) (l : List TdmFrame) : List TdmFrame :=
  if s.isSet (P.tdm n) F.TDM_CFG_MODE then
    let k := match s.getF (P.tdm n) F.TDM_CFG_RATE with
      | 0xB => 2 | 0xD => 4 | _ => 1
    (List.range k).map fun j => l.getD j ⟨true, []⟩
  else l

/-- R153, R155, R163: the words of a frame as they reach source or converter: 0 in an inactive slot. -/
def frameWords (n : Nat) (f : TdmFrame) (s : State) : List Int × State :=
  (List.range 16).foldl (fun o i =>
    if slotOn o.2 n 0 i then
      let p := tdmSwarm o.2 n i false (wordIn (tdmWidth o.2 n) (f.words.getD i 0))
      (o.1 ++ [p.1.toInt], p.2)
    else (o.1 ++ [0], o.2)) ([], s)

/-- The words that a converter channel holds of its past: 64 fabric samples on each side of the instant it reads, at four times the
fabric's rate and 1,000 ppm more. -/
def asrcHeld : Nat := 516

/-- Lists by slot with one more value each, newest first. -/
def pushAll (old : List (List Int)) (xs : List Int) : List (List Int) := xs.mapIdx fun i x => (x :: old.getD i []).take asrcHeld

/-- R158: what a frame's sync does to the guard of a consumer. -/
def frameGuard (s : State) (n : Nat) (f : TdmFrame) : State := if f.good then tdmGood s n else s

/-- R142, R156, R160: a frame received by a port that runs joins its buffer or its converter channels. -/
def frameTake (n : Nat) (f : TdmFrame) (s : State) : State :=
  let o := frameWords n f (frameGuard s n f)
  o.2.onTdm n fun h =>
    if s.isSet (P.tdm n) F.TDM_STAT_ASRC then { h with rx := pushAll h.rx o.1 } else { h with frames := h.frames ++ [o.1] }

/-- The frames of port `n` in a period in Run. A port that does not run takes none. -/
def tdmArrive (s : State) (n : Nat) (l : List TdmFrame) : State :=
  if s.en (P.tdm n) ∧ s.st (P.tdm n) = 4 then forEach (framesOf s n l) (fun f s => frameTake n f s) s else s

/-! ### Receive -/

/-- R160: the port repeats or drops a frame, which counts while CLK is in ACQUIRE on it. -/
def tdmSlip (s : State) (n : Nat) : State :=
  if s.clk.sel.1 = 2 ∧ s.clk.sel.2.2 = n ∧ s.clk.st = 3 then
    ((s.bump (P.tdm n) F.TDM_SLIP_CNT_COUNT).err (P.tdm n)).raise (P.tdm n) 4
  else s

/-- R156, R160: the frame that a port without converter channels presents: the oldest received. None has come: the last is repeated;
more than two would wait: one is dropped. -/
def frameNext (s : State) (n : Nat) : State :=
  let h := s.tdm n
  match h.frames with
  | [] => if h.last = [] then s else tdmSlip s n
  | f :: r =>
    let drop := decide (2 ≤ r.length)
    let s := s.onTdm n fun h => { h with frames := if drop then r.tail else r, last := f }
    if drop then tdmSlip s n else s

/-- R142, R143: one period of group `g`: its fade, in over 5 ms in LOCKED, out over 1 ms in LOST; and where it reads: 64 fabric samples
back while it is locked, on through what it holds once its clock is lost. -/
def grpTick (s : State) (g : Nat) : State :=
  let r := s.getF (grpBase g) F.ASRC_GRP_RATIO_RATIO
  s.onGrp g fun x =>
    if grpSt s g = 2 then { x with fade := min 240 (x.fade + 1), age := 64 * r }
    else if grpSt s g = 3 then { x with fade := x.fade - 5, age := x.age - r }
    else { x with fade := 0 }

/-- R34, R142, R143, R155, R159: what receive slot `i` of port `n` presents. -/
def tdmSource (s : State) (n i : Nat) : Int :=
  if !s.en (P.tdm n) || !slotOn s n 0 i then 0
  else if s.isSet (P.tdm n) F.TDM_STAT_ASRC then
    let g := s.grp n
    let x := if g.fade = 0 then 0 else Config.resample g.age ((s.tdm n).rx.getD i [])
    if g.fade = 240 then x else quantI (x * g.fade) 240
  else if s.st (P.tdm n) = 4 && !(s.tdm n).gone then (s.tdm n).last.getD i 0 else 0

/-- R15 step 1: the TDM sources of a period. -/
def tdmPresent (s : State) : State × List (Nat × Int) :=
  let s := forEach (List.range 16) (fun n s =>
    let s := grpTick s n
    if s.en (P.tdm n) ∧ s.st (P.tdm n) = 4 ∧ !s.isSet (P.tdm n) F.TDM_STAT_ASRC then frameNext s n else s) s
  (s, (List.range 16).flatMap fun n => (List.range 16).map fun i => (0x100 + 16 * n + i, tdmSource s n i))

/-! ### Transmit -/

/-- R142, R143, R156: the sample that transmit slot `i` sends in frame `j` of the `m` of a period: the sink's output of the period before,
or what its converter channel makes of those 64 fabric samples back, while the group is locked. -/
def slotSample (s : State) (n i j m : Nat) : Int :=
  if s.isSet (P.tdm n) F.TDM_STAT_ASRC then
    if grpSt s n = 2 then Config.resample (64 * 2 ^ 28 + (m - 1 - j) * 2 ^ 28 / m) ((s.tdm n).tx.getD i []) else 0
  else (s.tdm n).next.getD i 0

/-- R13, R153, R155, R163: slot `i` of a frame on TDMn_TXD: an active slot's word, rounded, saturated and counted, and then as Swarm
leaves it; an inactive slot is 0, or at high impedance. -/
def slotOut (s : State) (n i : Nat) (x : Int) : Option Word × State :=
  if slotOn s n 16 i then
    let e := edgeOut (tdmWidth s n) x
    let o := tdmSwarm (if e.2 then s.err (P.tdm n) else s) n i true (BitVec.ofInt 32 e.1)
    (some o.1, o.2)
  else (if s.isSet (P.tdm n) F.TDM_CFG_TXHIZ then none else some 0, s)

/-- A frame that port `n` sends of the samples of its slots. -/
def frameOut (n : Nat) (xs : Nat → Int) (s : State) : List (Option Word) × State :=
  (List.range (s.getF (P.tdm n) F.TDM_CFG_SLOTS)).foldl (fun o i =>
    let p := slotOut o.2 n i (xs i)
    (o.1 ++ [p.1], p.2)) ([], s)

/-- R13, R139, R153-R163: what port `n` sends in a period whose sinks' outputs are `outs`: nothing where it does not run; zeros in every
active slot in Idle and in the pause of a step (`live` is false). -/
def tdmSend (s : State) (n : Nat) (l : List TdmFrame) (live : Bool) (outs : Nat → Int) : State :=
  if s.en (P.tdm n) ∧ s.st (P.tdm n) = 4 then
    let now := (List.range 16).map fun i => if live then outs i else 0
    let asrc := s.isSet (P.tdm n) F.TDM_STAT_ASRC
    let s := if asrc then s.onTdm n fun h => { h with tx := pushAll h.tx now } else s
    let m := (framesOf s n l).length
    let o := (List.range m).foldl (fun (o : List (List (Option Word)) × State) j =>
      let p := frameOut n (fun i => if live then slotSample o.2 n i j m else 0) o.2
      (o.1 ++ [p.1], p.2)) ([], s)
    o.2.onTdm n fun h => { h with next := if asrc then [] else now, sent := o.1 }
  else if (s.tdm n).sent = [] ∧ (s.tdm n).next = [] then s
  else s.onTdm n fun h => { h with next := [], sent := [] }

/-- R139, R162: a period without the fabric on port `n`: the guard goes on, what is received is discarded, zeros are sent. -/
def tdmHold (s : State) (n : Nat) (l : List TdmFrame) : State :=
  let s := if s.en (P.tdm n) ∧ s.st (P.tdm n) = 4 then
      (forEach (framesOf s n l) (fun f s => frameGuard s n f) s).onTdm n fun h => { h with frames := [], last := [], rx := [] }
    else s
  tdmSend s n l false fun _ => 0

end Sys2Proof.Machine
end

