-- ==== Sys2Proof/Machine/ZlaRun.lean ====
section
/-! DEFINITION. The zone level adaptation service at work (R113, R120-R123): the adaptive filters of the zones' microphones, the
windows, and the decision at the end of each. -/

namespace Sys2Proof.Machine

/-! ### Echo cancellation (R120) -/

/-- R119: what the service hears of a source: the output of its tap. -/
def tapHeard (s : State) (n : Nat) : Int :=
  match (s.comb.zones.flatMap (·.taps)).find? fun e => e.1 == n with
  | some e => (alGet s.comb.outs e.2).getD 0
  | none => 0

/-- R120: whether a microphone's source is present and its guard, or for AIN its input, is correct. -/
def micGood (s : State) (n : Nat) : Bool :=
  if n < 0x220 then micSt s (n - 0x200) == 1 else s.en P.ain && ainSt s (n - 0x220) == 2

/-- R120: a sample at full scale. -/
def fullScale (x : Int) : Bool := decide (x = 2 ^ 31 - 1 ∨ x ≤ -(2 ^ 31))

/-- A sum of products of two lists, element by element. -/
def dot : List Int → List Int → Int → Int
  | a :: t, b :: u, acc => dot t u (acc + a * b)
  | _, _, acc => acc

/-- R120: the residual e of a sample `d` of a microphone, in units of 2^-64 of full scale, with the reference newest first. -/
def residual (taps ref : List Int) (d : Int) : Fix := d * 2 ^ 33 - roundShift (dot taps ref 0) 31

/-- R120: one step of the normalised LMS with step size 0.02; a reference of no energy adapts nothing. -/
def nlms (taps ref : List Int) (d : Int) : List Int :=
  let x := ref.take 2048
  let p := dot x x 0
  if p = 0 then taps
  else
    let e := residual taps x d
    taps.zipWith (fun h v => h + roundDiv (2 * e * v * 2 ^ 31) (100 * p)) (x ++ List.replicate (2048 - x.length) 0)

/-- R120: the adaptation over a block of samples, newest first, whose last sample saw `ref`. -/
def nlmsBlock : List Int → List Int → List Int → List Int
  | [], _, taps => taps
  | d :: t, ref, taps => nlms (nlmsBlock t (ref.drop 1) taps) ref d

/-- R5, R120: whether the level of `n` samples with a sum of squares `p` is above -0.5 SIL dBFS. -/
def aboveSil (sil p n : Nat) : Bool := decide (p ≠ 0) && decide (-(sil : Int) * 2 ^ 64 < 20 * log10 (2 * p) (n * 2 ^ 62))

/-- R120: one 16 kHz sample `d` of a microphone; at the end of a 32 ms block whose reference is above SIL (`loud`), and whose
microphone is less than 6 dB above the echo estimate, the filter adapts over the block (log entry 75). -/
def micHear (m : ZlaMic) (ref : List Int) (d : Int) (blockEnds loud : Bool) : ZlaMic :=
  let e := residual m.taps ref d
  let y := d * 2 ^ 33 - e
  let m := { m with blk := d :: m.blk, est := m.est + (y * y).toNat, pm := m.pm + (d * d).toNat, pe := m.pe + (e * e).toNat }
  if !blockEnds then m
  else
    let p := (dot m.blk m.blk 0).toNat * 2 ^ 66
    let adapt := loud && decide (p * 10 ^ 6 < m.est * 3981072)
    { m with blk := [], est := 0, taps := if adapt then nlmsBlock m.blk ref m.taps else m.taps }

/-- The microphone sources of zone `z`, by place. -/
def zoneMicAt (s : State) (z i : Nat) : Nat := 0x200 + getField (s.rd (zBase z + 0x404)) (8 * i + 5) (8 * i)

/-- R120: a microphone takes a 48 kHz sample; every third gives one of 16 kHz. -/
def micPeriod (s : State) (z : Nat) (ref : List Int) (third blockEnds loud : Bool) (i : Nat) (m : ZlaMic) : ZlaMic :=
  let n := zoneMicAt s z i
  let x := tapHeard s n
  let d := Config.down16 m.down x
  let m := { m with down := d.1, lost := m.lost || !micGood s n || fullScale x }
  if third then micHear m ref d.2 blockEnds loud else m

/-- R121: what a window has measured, of `n` samples at 16 kHz. -/
def zoneWindow (y : Zone) (n : Nat) : ZlaWindow :=
  { mics := y.mics.map fun m => m.bind fun m => if m.lost then none else some (m.pm, m.pe), n := n, heard := y.heard }

/-- R120, R121: one fabric period of zone `z`: the reference and the microphones take their samples; blocks are 512 samples at
16 kHz, and a window is WIN x 50 ms. -/
def zonePeriod (s : State) (z : Nat) : State :=
  if !s.isSet (zBase z) F.ZLA_CFG_EN then s
  else onZone s z fun y =>
    let r := Config.down16 y.refDown (tapHeard s (0x3C0 + z))
    let third := decide ((y.age + 1) % 3 = 0)
    let ref := if third then (r.2 :: y.ref).take 2560 else y.ref
    let ends := third && decide ((y.age + 1) % 1536 = 0)
    let b := ref.take 512
    let loud := ends && aboveSil (s.getF (zBase z) F.ZLA_RATE_SIL) (dot b b 0).toNat 512
    let mics := y.mics.mapIdx fun i m => m.map (micPeriod s z ref third ends loud i)
    let y := { y with ref := ref, refDown := r.1, mics := mics, age := y.age + 1, heard := y.heard || loud }
    let n := 2400 * s.getF (zBase z) F.ZLA_CFG_WIN
    if y.age % n = 0 then
      { y with due := some (zoneWindow y (n / 3)), heard := false,
               mics := y.mics.map fun m => m.map fun m => { m with pm := 0, pe := 0, lost := false } }
    else y

/-! ### Decisions -/

/-- R122: whether zone `z`'s channel is in fault, muted by protection, or has a verdict that freezes it: OPEN, SHORT, LEAK
or PARTIAL (LSV_c_STAT.VERDICT 2 to 5). -/
def zoneFault (s : State) (z : Nat) : Bool :=
  if z < 8 then
    let st := s.st (P.amp z)
    st == 8 || st == 9 || st == 10 || (st == 7 && (s.amp z).fast) || lsvBad s z
  else loSt s (z - 8) == 6
where
  /-- R385: the line supervision verdict of channel `z` freezes its zone. -/
  lsvBad (s : State) (z : Nat) : Bool :=
    let v := getField (s.rd (P.lsv + 0x084 + 0x10 * z)) 31 28
    decide (2 ≤ v ∧ v ≤ 5)

/-- R121: the zone's noise from the levels of its valid microphones, sorted: one; the lower of two; the second lowest. -/
def zoneNoise : List Rat → Option Rat
  | [] => none
  | [a] => some a
  | [a, _] => some a
  | _ :: b :: _ => some b

/-- R122: why a window is frozen, as ZLA_z_STAT.REASON codes it; 0 if it is not. `erle` is that of the microphone heard best, in
units of 2^-64 dB. -/
def freezeReason (s : State) (z valid : Nat) (heard : Bool) (erle : Option Fix) : Nat :=
  let b := zBase z
  if s.isSet b F.ZLA_CFG_HOLD then 5
  else if zoneFault s z then 3
  else if valid < s.getF b F.ZLA_CFG_MIC_MIN then 4
  else if heard && (erle.map fun (e : Int) => decide (2 * e < (s.getF b F.ZLA_RATE_ERLE_MIN : Int) * 2 ^ 64)).getD false then 2
  else if !heard then 1
  else 0

/-- R121: the target offset in dB. -/
def zoneTarget (s : State) (z : Nat) (n : Rat) : Rat :=
  let b := zBase z
  let u (f : Fld) : Rat := (s.getF b f : Nat)
  max (-(u F.ZLA_BAND_LO / 2)) (min (u F.ZLA_BAND_HI / 2) (u F.ZLA_CFG_SLOPE / 16 * (n + u F.ZLA_BAND_NREF / 2)))

/-- R121: a level in dB in 0.05 dB units, rounded to the nearest. -/
def to05 (x : Rat) : Int := (x * 20 + 1 / 2).floor

/-- R123: a record of entering or leaving a freeze for NCONV, FAULT or MICS. -/
def freezeNote (s : State) (z reason : Nat) (entering : Bool) : State :=
  if reason = 2 ∨ reason = 3 ∨ reason = 4 then
    (s.raise P.cmb 4).log 0x0061 1 0x0010 0 [BitVec.ofNat 8 z, BitVec.ofNat 8 reason, BitVec.ofNat 8 (b2n entering)]
  else s

/-- R121: the decision of an unfrozen window: ZLA_z_STAT.LASTDEC and the new offset in 0.05 dB. -/
def zoneDecide (s : State) (z : Nat) (t : Rat) : Nat × Int :=
  let b := zBase z
  let u (f : Fld) : Rat := (s.getF b f : Nat)
  let a : Rat := ((zoneAt s z).a : Rat) / 20
  let win := u F.ZLA_CFG_WIN / 20
  if |t - a| < u F.ZLA_BAND_HYST / 10 then (0, (zoneAt s z).a)
  else if a < t then (1, to05 (min t (a + u F.ZLA_RATE_UP / 10 * win)))
  else (2, to05 (max t (a - u F.ZLA_RATE_DN / 10 * win)))

/-- R123: a change of REPSTEP since the last report is reported. -/
def zoneReport (s : State) (z : Nat) (t n : Rat) : State :=
  let y := zoneAt s z
  if 10 * s.getF (zBase z) F.ZLA_CFG_REPSTEP ≤ (y.a - y.aRep).natAbs then
    ((onZone s z fun y => { y with aRep := y.a }).raise P.cmb 3).log 0x0060 0 0x0010 0
      ([BitVec.ofNat 8 z] ++ leBytes 2 (unsigned 16 y.a) ++ leBytes 2 (unsigned 16 (to05 t)) ++
        leBytes 2 (unsigned 16 (quantI (n * 10).num (n * 10).den)))
  else s

/-- R121: Nm of a valid microphone: 10 log10 of the mean square of its residual, in dB. Of a residual of no energy the
manual gives no logarithm; it is a free value. -/
def residualLevel (n : Nat) (e : Nat × Nat) (o : State × List Rat) : State × List Rat :=
  if e.2 = 0 then
    let d := o.1.draw
    (d.2, o.2 ++ [(d.1.toInt : Rat) / 65536])
  else (o.1, o.2 ++ [(10 * log10 e.2 (n * 2 ^ 128) : Rat) / 2 ^ 64])

/-- R120: the ERLE of a microphone's window; of one without energy the manual gives none. -/
def erleOf (e : Nat × Nat) : Option Fix := if e.1 = 0 ∨ e.2 = 0 then none else some (10 * log10 (e.1 * 2 ^ 66) e.2)

/-- R120: the ERLE that a zone's window is judged by: the lowest of its valid microphones (log entry 75). -/
def zoneErle (l : List (Nat × Nat)) : Option Fix := (l.filterMap erleOf).min?

/-- R120: ZLA_z_NOISE.ERLE after a window whose reference was above SIL; of an ERLE that the field cannot show, a free value. -/
def showErle (s : State) (z : Nat) (erle : Option Fix) : State :=
  match erle with
  | some e =>
    if 0 ≤ e then s.setF (zBase z) F.ZLA_NOISE_ERLE (quantI (10 * e) (2 ^ 64)).toNat
    else let d := s.draw; d.2.setF (zBase z) F.ZLA_NOISE_ERLE (getField d.1 15 0)
  | none => let d := s.draw; d.2.setF (zBase z) F.ZLA_NOISE_ERLE (getField d.1 15 0)

/-- R121-R123: the decision on a window of zone `z`. -/
def zoneJudge (s : State) (z : Nat) (w : ZlaWindow) : State :=
  let b := zBase z
  let live := w.mics.filterMap id
  let erle := if w.heard then zoneErle live else none
  let reason := freezeReason s z live.length w.heard erle
  let was := s.getF b F.ZLA_STAT_REASON
  let s := if was ≠ reason then freezeNote (freezeNote s z was false) z reason true else s
  let valid := (List.range 4).foldl (fun m i => m + (if (w.mics.getD i none).isSome then 2 ^ i else 0)) 0
  let s := (s.setF b F.ZLA_STAT_REASON reason).setF b F.ZLA_STAT_VALID valid
  let s := if w.heard then showErle s z erle else s
  let o := live.foldl (fun o e => residualLevel w.n e o) (s, [])
  let noise := zoneNoise (o.2.mergeSort (fun x y => decide (x ≤ y)))
  let s := match noise with
    | some n => o.1.setS b F.ZLA_NOISE_NOISE (quantI (n * 10).num (n * 10).den)
    | none => o.1
  match reason, noise with
  | 0, some n =>
    let t := zoneTarget s z n
    let d := zoneDecide s z t
    let s := ((s.setF b F.ZLA_STAT_STATE 1).setF b F.ZLA_STAT_LASTDEC d.1).setS b F.ZLA_TGT_TARGET (to05 t)
    let moved := d.2 != (zoneAt s z).a
    let s := if moved then s.bump b F.ZLA_DEC_COUNT else s
    let s := zoneGain (onZone s z fun y => { y with a := d.2 }) z d.2 (2400 * s.getF b F.ZLA_CFG_WIN)
    zoneReport s z t n
  | _, _ => (s.setF b F.ZLA_STAT_STATE 2).setF b F.ZLA_STAT_LASTDEC 3

/-- R121: a window of zone `z` that has ended is decided. -/
def zoneSettle (s : State) (z : Nat) : State :=
  match (zoneAt s z).due with
  | some w => if s.isSet (zBase z) F.ZLA_CFG_EN ∧ s.st P.cmb = 2 then zoneJudge (onZone s z fun y => { y with due := none }) z w else s
  | none => s

/-- ZLA_DECISION (R121-R123): a window of zone `z` has ended, and the service decides. -/
def execZlaDecide (z : Fin 16) (s : State) : Host.Outcome State Fault Refusal := .next (zoneSettle s z)

/-- R121: a period of the service: what is not decided yet of the last window, and the samples of the period. -/
def zlaPeriod (s : State) : State := forEach (List.range 16) (fun z s => zonePeriod (zoneSettle s z) z) s

end Sys2Proof.Machine
end

