-- ==== Sys2Proof/Machine/Fabric.lean ====
section
/-! DEFINITION. The fabric period (R11-R15, R131, R139) and what passes with its time. -/

namespace Sys2Proof.Machine

/-! ### Time -/

/-- R421: KPR_UPTIME counts in every state but Off; answers whether a millisecond has ended. -/
def uptimeTick (s : State) : Bool × State :=
  if 47 ≤ s.sys.uptimeSub then (true, (s.onSys fun y => { y with uptimeSub := 0 }).inc64 (P.kpr + 0x68))
  else (false, s.onSys fun y => { y with uptimeSub := y.uptimeSub + 1 })

/-- R175, R177: the hardware clock of a link advances by a period, 62,500 / 3 ns at nominal rate. -/
def ptpAdvance (s : State) (n : Nat) : State :=
  let p := (s.link n).ptp
  let t : Rat := p.sub + 62500 / 3 * (1 + p.rate / 1000000000)
  (onPtp s n fun p => { p with sub := t - t.floor }).set64 (P.eth n + 0x8C) (s.get64 (P.eth n + 0x8C) + BitVec.ofInt 64 t.floor)

/-- R175: the hardware clocks of the links that are on. -/
def ptpTick (s : State) : State :=
  if netOn s then forEach (List.range 4) (fun n s => if s.en (P.eth n) then ptpAdvance s n else s) s else s

/-- R195: the frames sent since the last period make way for those of a new one. -/
def linkTick (s : State) : State := forEach (List.range 4) (fun n s => s.onLink n fun l => { l with sent := [] }) s

/-- R33, R74, R82, R450: the SYS, PWR, SPI and TW0 pages are served: READY, in the first state of each. -/
def pagesOpen (s : State) : State :=
  forEach [P.sys, P.pwr, P.spi, P.tw 0] (fun p s =>
    (if s.en p then s.setSt p 2 else s).setF p F.PG_STAT_READY 1) s

/-- R74, R450: 2 ms pass from the release of the reset until those pages are served. -/
def openTick (s : State) : State :=
  match s.sys.opening with
  | 0 => s
  | 1 => pagesOpen (s.onSys fun y => { y with opening := 0 })
  | n + 2 => s.onSys fun y => { y with opening := n + 1 }

/-- R5, R210, R226, R272: what time alone moves on, in every state but Off. -/
def timeTick (s : State) : State :=
  let u := uptimeTick (openTick (linkTick (logDrain s)))
  let s := scoutSettle (sealTick (pdmTick (ptpTick u.2.rampTick) u.1))
  forEach (List.range 8) (fun n s => retryTick s n) s

/-- R131: the number of the period: CLK_FAB_CNT counts, or holds it already after a step (R139). -/
def periodCount (s : State) : State :=
  if s.clk.fresh then s.onClk fun c => { c with fresh := false } else s.inc64 (P.clk + 0x68)

/-! ### Step 1: the samples presented -/

/-- What the outside delivers for a source. -/
def sampleOf (x : PeriodIn) (n : Nat) : Int :=
  ((x.samples.find? fun e => e.1.toNat == n).map fun e => e.2.toInt).getD 0

/-- The frames brought for TDM port `n`. -/
def tdmFrames (x : PeriodIn) (n : Nat) : List TdmFrame := ((x.tdm.find? fun e => e.1.val == n).map (·.2)).getD []

/-- R236, R243, R244: whether an input's signal is live (AIN0-AIN7, HS0-HS3), or fades out, or is 0 at once. -/
def anLive (s : State) (i : Nat) : Bool :=
  if i < 8 then s.en P.ain && (ainSt s i == 2 || ainSt s i == 3) && ainLive s i
  else s.en P.hs && hsSt s (i - 8) == 4 && s.getF (hsBase (i - 8)) F.HS_JACK_CLASS == 2 && s.isSet (hsBase (i - 8)) F.HS_STAT_MICLIVE
@[inherit_doc anLive] def anDead (s : State) (i : Nat) : Bool := decide (i < 8) && (ainSt s i == 0 || ainSt s i == 1)

/-- R236, R243, R244, R248: a fade after one more period: in over 5 ms; out over 5 ms where EN = 0 stops an input, over 1 ms
otherwise. -/
def fadeNext (s : State) (i : Nat) : Nat :=
  let f := s.an.fades.getD i 0
  if anLive s i then min 240 (f + 1) else if anDead s i then 0
  else if i < 8 ∧ s.an.ainStop.contains i ∧ ainSt s i ≠ 4 ∧ s.sys.pwrFailN ∧ s.sys.resetPending = none then f - 1 else f - 5

/-- The fades of a period. -/
def fadeTick (s : State) : State := s.onAn fun a => { a with fades := (List.range 12).map (fadeNext s) }

/-- The analogue inputs, the headset microphones and the vibration sensors (R211). -/
def anPresent (x : PeriodIn) (s : State) : List (Nat × Int) :=
  ((List.range 12).map fun i =>
    let f := s.an.fades.getD i 0
    let v := sampleOf x (0x220 + i)
    (0x220 + i, if f = 240 then v else quantI (v * f) 240)) ++
  (List.range 2).map fun n => (0x22C + n, if s.en P.sct && bzOn s n then sampleOf x (0x22C + n) else 0)

/-- R15 step 1: every source presents its sample; the sources at 0 are not listed. -/
def present (k : Nat) (x : PeriodIn) (s : State) : State :=
  let s := if k % 32 = 0 then dspBoundary s else s
  let rx := rxPresent s k (x.ringErrs.map (·.val))
  let td := tdmPresent (fadeTick rx.1)
  let cl := clipPresent td.1
  let s := cl.1
  let mics := (List.range 32).map fun i => (0x200 + i, micSource s i (k % 32) (sampleOf x (0x200 + i)))
  let all := rx.2 ++ td.2 ++ mics ++ anPresent x s ++ cl.2 ++ dspPresent s k
  s.onComb fun c => { c with src := all.filter fun e => e.2 != 0 }

/-! ### Steps 2 to 5 -/

/-- R15 steps 2-4: Waggle, the changes of the last period, the cues. What the cues change follows what the host changed, and starts
from the gains before step 3, since no mix comes between. -/
def changes (k : Nat) (s : State) : State :=
  combTake (cueStep (fixApply (combArrive (clipApply (strApply (wagAdvance s k)))) k))

/-- R116: uncorrectable errors in granules of delay lines. -/
def lineErrors (x : PeriodIn) (s : State) : State :=
  forEach x.lineErrs (fun e s => (onSink s e.1.toNat fun h => dropGranule h e.2).raise P.cmb 24) s

/-- A list of readings by unit: those of unit `n`. -/
def readOf {n : Nat} {α : Type} (l : List (Fin n × List α)) (i : Nat) : List α :=
  ((l.find? fun e => e.1.val == i).map (·.2)).getD []

/-- R255, R258, R261, R262: the speaker channels take their samples, the boosts follow them, and the bridges are driven; targets stand
still while PWRFAIL_N is low (R268). -/
def powerOut (x : PeriodIn) (s : State) : State :=
  let s := forEach (List.range 8) (fun n s => ampSample s n ((alGet s.comb.outs (0x200 + n)).getD 0)) s
  let s := if s.sys.pwrFailN then forEach (List.range 4) (fun p s => boostTick s p) s else s
  forEach (List.range 4) (fun p s =>
    let r := railTake s p (readOf x.rails p)
    ampDrive (ampDrive r.2 (2 * p) r.1 (readOf x.senses (2 * p))) (2 * p + 1) r.1 (readOf x.senses (2 * p + 1))) s

/-- R23, R237, R240, R245: the line outputs and the headset ears take their samples. -/
def analogOut (x : PeriodIn) (s : State) : State :=
  let out (s : State) (i : Nat) : Int := (alGet s.comb.outs i).getD 0
  let s := forEach (List.range 8) (fun n s => loSample s n (out s (0x208 + n))) s
  forEach (List.range 4) (fun n s =>
    earSample s n (out s (0x210 + 2 * n)) (out s (0x211 + 2 * n)) fun i => (readOf x.mics i).map BitVec.toInt) s

/-- R11: what takes the sinks' outputs of period `k`, which are those of the last mix: the DSP blocks, the streams, the TDM ports,
the power stage, the line and ear outputs, the ZLA service. -/
def sinksOut (k : Nat) (x : PeriodIn) (s : State) : State :=
  let s := dspRecord s
  let s := if k % 32 = 31 ∧ !s.dsp.checked then s.onDsp fun d => { d with outDue := true } else s
  let tdmOut (n : Nat) (s : State) : State :=
    tdmSend s n (tdmFrames x n) true fun i => (alGet s.comb.outs (0x100 + 16 * n + i)).getD 0
  zlaPeriod (analogOut x (powerOut x (forEach (List.range 16) tdmOut (txSampleAll s k))))

/-- R15 step 5: the mix of the period, after the sinks' outputs of it have been taken. -/
def mixOut (k : Nat) (x : PeriodIn) (s : State) : State := combMix (lineErrors x (sinksOut k x s))

/-- R240, R250, R252, R265: what the guards of the analogue blocks measure in a period. -/
def findings (x : PeriodIn) (s : State) : State :=
  let s := forEach (List.range 4) (fun n s => micStep s n (sampleOf x (0x228 + n))) s
  let s := forEach x.ibias (fun e s => biasCurrent s e.1 e.2) s
  let s := forEach x.micF (fun e s => micFraction s e.1 e.2) s
  match x.pvin with
  | some v => forEach (List.range 4) (fun p s => s.setF (P.bst p) F.BST_PVIN_PVIN v.toNat) s
  | none => s

/-- R206, R210, R224: the microphones of LISTEN in period `k`: the Scout's take their samples; the block that fades out ends. -/
def listenTake (k : Nat) (x : PeriodIn) (s : State) : State :=
  pdmBlockEnd (scoutTake s k fun i => sampleOf x (0x200 + i)) k

/-- The sinks' outputs are 0: no mix has been made for the next period. -/
def outsEnd (s : State) : State := s.onComb fun c => { c with outs := [] }

/-- R139: a step that waits begins its pause after the last period of a block; the sinks' outputs are then 0. -/
def pauseDue (k : Nat) (s : State) : State :=
  if s.clk.step = 1 ∧ (k + 1) % 32 = 0 then outsEnd (s.onClk fun c => { c with step := 2 }) else s

/-- R15: one period in Run. -/
def runPeriod (x : PeriodIn) (s : State) : State :=
  let s := periodCount s
  let k := fabCnt s
  let s := mixOut k x (changes k (present k x (pdmBlock s k)))
  let s := forEach (List.range 16) (fun n s => tdmArrive s n (tdmFrames x n)) s
  pauseDue k (listenTake k x (findings x s))

/-- R82, R196, R249, R269, R426: one period in Idle: no block is computed; Waggle and the cues go on, the streams send zeros, the
line outputs carry none, the idle pattern holds the bridges, the TDM ports send zeros (R162), and the guards keep measuring. -/
def idlePeriod (x : PeriodIn) (s : State) : State :=
  let s := periodCount s
  let k := fabCnt s
  let s := cueStep (fixApply (strApply (wagAdvance (pdmBlock s k) k)) k)
  let s := txSampleAll (s.onComb fun c => { c with src := [], outs := [] }) k
  let s := forEach (List.range 8) (fun n s => ampIdlePattern (loSample s n 0) n) s
  let s := forEach (List.range 16) (fun n s => tdmHold s n (tdmFrames x n)) s
  pauseDue k (listenTake k x (findings x s))

/-- R146, R426: one period in Sleep: the count, Waggle, the cues and the Scout's ring. -/
def sleepPeriod (x : PeriodIn) (s : State) : State :=
  let s := periodCount s
  let k := fabCnt s
  listenTake k x (cueStep (fixApply (wagAdvance (pdmBlock s k) k) k))

/-- R148: without the reference the PDM clocks stop: the Scout sees zeros, and the ring records them. -/
def listenZeros (s : State) : State := scoutTake s s.sys.uptimeSub fun _ => 0

/-- R127, R139, R148: 1/48,000 s in which the fabric does not run: in the pause of a step the TDM ports send zeros, without the media
clock they send nothing; without the reference the Scout sees zeros. -/
def heldPeriod (x : PeriodIn) (s : State) : State :=
  if s.stopped then
    let s := tdmsFloat s
    if s.clk.halt = some .ref then listenZeros s else s
  else forEach (List.range 16) (fun n s => tdmHold s n (tdmFrames x n)) s

/-- FABRIC_PERIOD (R15): 1/48,000 s passes, and with it a fabric period where the fabric runs: not while its clock is stopped
(R127), nor in the pause of a step (R139), nor in Deep sleep (R146). -/
def execFabricPeriod (x : PeriodIn) (s : State) : Host.Outcome State Fault Refusal :=
  .next (if s.sys.held then s
    else match s.sys.mode with
      | .off => s
      | .deep => (uptimeTick s).2
      | .sleep =>
        let t := timeTick s
        if s.clk.halt = some .ref then listenZeros t else sleepPeriod x t
      | .idle =>
        let t := timeTick s
        if s.stopped ∨ s.clk.step = 2 then heldPeriod x t else idlePeriod x t
      | .run =>
        let t := timeTick s
        if s.stopped ∨ s.clk.step = 2 then heldPeriod x (outsEnd t) else runPeriod x t)

/-- R139: the number of the first block boundary whose ideal time lies at least 100 us after the pause began, where the pause
began `e` ns after the ideal time of period `c`. -/
def resumeAt (c : Nat) (e : Int) : Nat :=
  let num : Int := 62500 * c + 3 * e + 300000
  (32 * ((num + 1999999) / 2000000)).toNat

/-- FABRIC_STEP_RESUME (R139, R193): the pause of a step ends; `e` is the phase error it removes, in ns. -/
def execFabricStepResume (e : Int) (s : State) : Host.Outcome State Fault Refusal :=
  .next (if s.clk.step = 2 ∧ awake s then
    let s := s.set64 (P.clk + 0x68) (BitVec.ofNat 64 (resumeAt (fabCnt s + 1) e))
    let s := (s.onClk fun c => { c with step := 0, fresh := true }).bump P.clk F.CLK_STEP_CNT_COUNT
    let s := rxRecentre (s.raise P.clk 4)
    if wagSrc s = 2 ∧ s.wag.run then s.onWag fun w => { w with stepped := true } else s
  else s)

end Sys2Proof.Machine
end

