-- ==== Sys2Proof/Machine/Udp.lean ====
section
/-! DEFINITION. Plosto over UDP (R86-R90): how a datagram is checked before its command is queued. -/

namespace Sys2Proof.Machine

/-- R83: the commands of class R. -/
def classR (cmd : Nat) : Bool :=
  [0x01, 0x02, 0x05, 0x12, 0x14, 0x18, 0x22, 0x29, 0x33, 0x3B, 0x41, 0x52, 0x60, 0x66].contains cmd

/-- The parts of a datagram that its answer needs: where it came from, its KEY and SEQ, its frame. -/
structure UdpIn where
  link : Nat
  ip : Word
  port : BitVec 16
  key : Nat
  seq : Word
  frame : List Byte
deriving DecidableEq, Repr

/-- The CMD and TAG of a datagram's frame, as received. -/
def UdpIn.cmd (d : UdpIn) : Nat := field d.frame 1 1
@[inherit_doc UdpIn.cmd] def UdpIn.tag (d : UdpIn) : BitVec 16 := BitVec.ofNat 16 (field d.frame 2 2)

/-- R78, R88, R89: an AUTH or CHECK answer, under a key, recorded on KPR; a datagram beyond ten a second is dropped without one. -/
def udpFail (s : State) (d : UdpIn) (key : Nat) (c : Code) : State :=
  (if failMay s d.link then s.refuse P.kpr d.cmd .plostoUdp 0 c else s).putUdpRsp d.link key d.seq d.ip d.port
    (rspFrame d.cmd d.tag c [])

/-- R83, R88: the checks of KEY, NONCE, TAG and SEQ of a datagram. A code that is not assigned is of no class, and meets R83. -/
def udpAuth (s : State) (d : UdpIn) (bytes : List Byte) : Bool :=
  match keyOf s d.key with
  | none => d.key == 0xFF &&
    (!assigned d.cmd || d.cmd == 0x01 || (classR d.cmd && s.isSet P.kpr F.KPR_UDP_CFG_RDOPEN))
  | some k =>
    leNat ((bytes.drop 4).take 8) == s.ports.udp.nonce.toNat &&
      bytes.drop (bytes.length - 16) == (Config.hmacSha256 k.key (bytes.take (bytes.length - 16))).take 16 &&
      (match k.seq with
       | some q => decide (q.toNat ≤ d.seq.toNat)
       | none => true)

/-- R88: a datagram repeats the last SEQ accepted under its key. -/
def udpAgain (s : State) (d : UdpIn) : Bool :=
  match keyOf s d.key with
  | some k => k.seq == some d.seq
  | none => false

/-- R88: a SEQ is accepted under a key. -/
def udpTake (s : State) (d : UdpIn) : State :=
  s.onUdp fun u => { u with keys := mapIf (fun k => k.idx == d.key) (fun k => { k with seq := some d.seq, stored := [] }) u.keys }

/-- R88, R89: the stored response is sent again, if the command has been answered. -/
def udpResend (s : State) (d : UdpIn) : State :=
  match keyOf s d.key with
  | some k => if k.stored = [] then s else udpOut s d.link d.ip d.port k.stored
  | none => s

/-- R78, R80, R88: an authentic datagram's frame: a transport failure is answered, KEY_SET is answered with AUTH, and another
command joins the queue of 16. -/
def udpQueue (s : State) (d : UdpIn) : State :=
  match frameCheck d.frame with
  | .check _ _ => udpFail s d d.key .check
  | .badVer c t =>
    (s.refuse P.kpr c .plostoUdp 0 .unknown).putUdpRsp d.link d.key d.seq d.ip d.port (rspFrame c t .unknown [])
  | .good c t p =>
    if c = 0x06 then udpFail s d d.key .auth
    else if 16 ≤ s.ports.udp.queue.length then
      (s.refuse P.kpr c .plostoUdp 0 .busy).putUdpRsp d.link d.key d.seq d.ip d.port (rspFrame c t .busy [])
    else
      let link := (BitVec.ofNat 2 d.link).toFin
      (s.onUdp fun u => { u with queue := u.queue ++ [⟨link, d.key, d.seq, d.ip, d.port, c, t, p⟩] }).arrive c
        ⟨.udp link d.key d.seq d.ip d.port, t, p⟩

/-- UDP_DATAGRAM's effect (R86, R88, R89): a datagram to port 41820 of link `n`. R87 bounds a datagram at 288 bytes and does
not say what becomes of a longer one: here it is dropped without an answer and counted, as one shorter than its layout is (DESIGN
CHOICE, log entry 76). -/
def udpIn (n : Nat) (ip : Word) (port : BitVec 16) (bytes : List Byte) (s : State) : State :=
  let key := leNat ((bytes.drop 1).take 1)
  let tail := if key = 0xFF then 0 else 16
  if bytes.length < 28 + tail ∨ 288 < bytes.length ∨ bytes.headD 0 ≠ 1 then s.err P.kpr
  else
    let d : UdpIn := ⟨n, ip, port, key, BitVec.ofNat 32 (leNat ((bytes.drop 12).take 4)),
      (bytes.drop 16).take (bytes.length - 16 - tail)⟩
    if !udpAuth s d bytes then udpFail s d 0xFF .auth
    else if udpAgain s d then udpResend s d
    else udpQueue (udpTake s d) d

end Sys2Proof.Machine
end

