-- ==== Sys2Proof/Machine/Frames.lean ====
section
/-! DEFINITION. The frames a link receives, past Swarm (R197), and the release of what Swarm holds (R418). -/

namespace Sys2Proof.Machine

/-- A frame with a correct FCS was received (ETH_n_RXPKT). -/
def rxFrame (s : State) (n : Nat) : State := s.inc64 (P.eth n + 0x94)

/-- R170: what a frame does that a link takes, with a correct FCS. -/
def rxTaken (n at_ : Nat) (k : NetIn) (s : State) : State :=
  match k with
  | .filtered => s
  | .fcs => s
  | .ignored => s
  | .igmpOther => s
  | .drop => dropIn n s
  | .csum => csumIn n s
  | .arp r a b c => arpIn n r a b c s
  | .echo a d => echoIn n a d s
  | .igmp v g l => igmpIn n v g l s
  | .ptp m => ptpIn n at_ m s
  | .plosto a p b => udpIn n a p b s
  | .rtp p => rtpIn n p s

/-- R170: a received frame, `at_` ns after the last fabric period. One that the MAC filters is not counted. -/
def rxArrive (n at_ : Nat) (f : List Byte) (s : State) : State :=
  if linkUp s n ∧ netOn s then
    let k := netIn s n f
    if k = .fcs then fcsIn n s else if k = .filtered then s else rxTaken n at_ k (rxFrame s n)
  else s

/-- R418: the class of a received frame: the stream entry a packet matches, PTP, or other. -/
def rxCls (s : State) (n : Nat) (k : NetIn) : Nat :=
  match k with
  | .rtp p => ((List.range 32).find? (rxMatch s n p)).getD 33
  | .ptp _ => 32
  | _ => 33

/-- A received frame goes on. -/
def rxGo (n at_ : Nat) (f : HeldFrame) (s : State) : State :=
  match f with
  | .rx f => rxArrive n at_ f s
  | .tx _ => s

/-- R197: the same of a held frame: one payload byte inverted. -/
def spoilRx (w : Word) : HeldFrame → HeldFrame
  | .rx f => .rx (spoilFrame w f)
  | .tx f => .tx f

/-- R170, R197: link `n` receives a frame by the command of its kind; nothing comes by a link that is not up. -/
def rxInput (row : RxRow) (n at_ : Nat) (f : List Byte) (s : State) : State :=
  let k := netIn s n f
  if linkUp s n ∧ netOn s ∧ k.row = row then swarmFrame (rxGo n at_) spoilRx n false (rxCls s n k) (.rx f) s else s

/-- RTP_RECEIVE (R184-R190): a UDP datagram taken for RTP. -/
def execRtpReceive (n : Fin 4) (f : List Byte) (s : State) : Host.Outcome State Fault Refusal := .next (rxInput .rtp n 0 f s)

/-- PTP_SYNC (R175, R177, R178): a Sync or Follow_Up, `at_` ns after the last fabric period. -/
def execPtpSync (n : Fin 4) (at_ : Nat) (f : List Byte) (s : State) : Host.Outcome State Fault Refusal :=
  .next (rxInput .sync n at_ f s)

/-- PTP_ANNOUNCE (R174, R176). -/
def execAnnounceFrame (n : Fin 4) (f : List Byte) (s : State) : Host.Outcome State Fault Refusal := .next (rxInput .announce n 0 f s)

/-- PTP_DELAY_MSG (R174, R175, R179): a message of a delay mechanism, `at_` ns after the last fabric period. -/
def execPtpDelayMsg (n : Fin 4) (at_ : Nat) (f : List Byte) (s : State) : Host.Outcome State Fault Refusal :=
  .next (rxInput .delay n at_ f s)

/-- ETH_FRAME_DISCARD (R170): a frame that fails its FCS or a later check, or that no function of the link accepts. -/
def execEthFrameDiscard (n : Fin 4) (f : List Byte) (s : State) : Host.Outcome State Fault Refusal :=
  .next (rxInput .discard n 0 f s)

/-- ARP_RECEIVE (R171). -/
def execArpFrame (n : Fin 4) (f : List Byte) (s : State) : Host.Outcome State Fault Refusal := .next (rxInput .arp n 0 f s)

/-- ICMP_ECHO (R169). -/
def execEchoFrame (n : Fin 4) (f : List Byte) (s : State) : Host.Outcome State Fault Refusal := .next (rxInput .echo n 0 f s)

/-- IGMP_QUERY (R172). -/
def execIgmpFrame (n : Fin 4) (f : List Byte) (s : State) : Host.Outcome State Fault Refusal := .next (rxInput .igmp n 0 f s)

/-- UDP_DATAGRAM (R86, R88, R89): a datagram to the Keeper's port. -/
def execUdpFrame (n : Fin 4) (f : List Byte) (s : State) : Host.Outcome State Fault Refusal := .next (rxInput .udp n 0 f s)

/-- SWARM_RELEASE (R197, R418): a delayed frame goes on, `at_` ns after the last fabric period, or the lines of a two-wire bus are
released. -/
def execSwarmRelease (h : SwarmHold) (s : State) : Host.Outcome State Fault Refusal :=
  match h with
  | .frame n tx c at_ => .next (if tx then releaseFrame (emit n) n true c s else releaseFrame (rxGo n at_) n false c s)
  | .lines p => .next (s.onSwm fun w => { w with pulls := w.pulls.filter fun x => x.1 != p.val })

end Sys2Proof.Machine
end

