-- ==== Sys2Proof/Machine/RegRead.lean ====
section
/-! DEFINITION. What a read returns: registers whose value follows from what a block holds, snapshots (R43), shadows of 64-bit
quantities (R41), memories and the voice ring (R226), and how a read is served (R26-R29, R35, R53). -/

namespace Sys2Proof.Machine

/-! ### Registers that show what a block holds -/

/-- SPI_MB_STAT (R80). -/
def mailboxWord (m : Mailbox) : Word :=
  BitVec.ofNat 32 (((m.rsp.map fun f => field f 2 2).getD 0) * 0x10000 + 2 * b2n m.rsp.isSome + b2n m.req.isSome)

/-- R418: the lines of a two-wire port that Swarm pulls: SDA, SCL. -/
def pulled (s : State) (port : Nat) : Bool × Bool :=
  match s.swarm.pulls.find? fun x => x.1 == port with
  | some x => x.2
  | none => (false, false)

/-- TW_n_BUS: the stuck flags, and the levels of the lines; TW0's bus is idle between its transactions. -/
def busWord (s : State) (n : Nat) : Word :=
  let p := pulled s n
  let sda := (n == 0 || s.ports.tw1.sda) && !p.1
  let scl := (n == 0 || s.ports.tw1.scl) && !p.2
  setField (s.rd (P.tw n + 0x4C)) 1 0 (2 * b2n scl + b2n sda)

/-- KPR_KEYS.PRESENT (R91). -/
def keysWord (s : State) : Word := BitVec.ofNat 32 ((List.range 4).foldl (fun m k => m + b2n (keyOf s k).isSome * 2 ^ k) 0)

/-- BBX_STAT: the pinned records and those queued. -/
def bbxStatWord (s : State) : Word :=
  BitVec.ofNat 32 ((s.mram.ring.filter fun e => e.2.st == .pinned).length * 0x10000 + s.bbxQueue.length)

/-- SWM_STAT, with the rules enabled and the minutes left. -/
def swmStatWord (s : State) : Word := setField (setField (s.rd (P.swm + 0x40)) 15 8 (swmEnabled s)) 7 0 (min 255 (swmRemain s))

/-- WAG_CUE_BANK and the cue window, which depend on the requester (R336). A snapshot holds the counts of the cues (R346). -/
def wagView (s : State) (r : Req) (off : Nat) : Option Word :=
  if off = 0x7C then some (wagUsedWord s)
  else if off = 0x80 then some (BitVec.ofNat 32 (bankOf s r))
  else if 0x800 ≤ off then
    let k := 64 * bankOf s r + (off - 0x800) / 32
    let n := match alGet s.snaps P.wag with
      | some c => ((alGet c (cueSnapAt k)).map (·.toNat)).getD 0
      | none => (cueAt s k).count
    some (cueWord s k ((off - 0x800) % 32 / 4) n)
  else none

/-- The registers of a core's page that show the core (R320, R322): the debug window reads 0 where it cannot be read. -/
def coreView (s : State) (c off : Nat) : Option Word :=
  if off = 0x48 then some (setField (s.rd (P.core c + off)) 14 0 (unsigned 15 (s.core c).pc))
  else if 0x100 ≤ off ∧ off < 0x290 then some (if debugReadable (coreSt s c) then debugGet s c off else 0)
  else none

/-- R35 step 1: PG_STAT of a page whose soft reset waits for its outputs: RESETTING, not READY. -/
def mutingStat (w : Word) : Word := setField (setField w 7 4 1) 0 0 0

/-- The registers of a page whose value is not the stored one. -/
def pageView (s : State) (r : Req) (k : PageKind) (inst base off : Nat) : Option Word :=
  if off = 0x014 then some (s.rd (base + 0x00C) &&& s.rd (base + 0x010))
  else if off = 0x008 ∧ s.sys.muting.contains base then some (mutingStat (s.rd (base + 0x008)))
  else if off = 0x024 then some (BitVec.ofNat 32 (256 * b2n (alGet s.snaps base).isSome))
  else match k with
    | .sys =>
      if 0x60 ≤ off ∧ off < 0x6C then some (irqPend s ((off - 0x60) / 4))
      else if 0x70 ≤ off ∧ off < 0x7C then some (fltPend s ((off - 0x70) / 4)) else none
    | .spi => if off = 0x48 then some (mailboxWord s.ports.spi.mb) else none
    | .tw => if off = 0x4C then some (busWord s inst) else none
    | .kpr =>
      if off = 0x54 then some (BitVec.ofNat 32 s.otp.fuses)
      else if off = 0x64 then some (keysWord s)
      else if off = 0x94 then some (BitVec.ofNat 32 (16 * s.otp.prog + s.otp.revoked)) else none
    | .bbx => if off = 0x54 then some (bbxStatWord s) else none
    | .swm => if off = 0x40 then some (swmStatWord s) else none
    | .wag => wagView s r off
    | .clip => clipView s off
    | .cmb => combView s (base + off)
    | .madc => if off = 0x4C then some (madcStatWord s inst) else none
    | .w => coreView s inst off
    | .q => coreView s (16 + inst) off
    | _ => none

/-- The live value of a register or of a word of memory, as a requester reads it. -/
def liveWord (s : State) (r : Req) (a : Nat) : Word :=
  match regionOf a with
  | .local_ _ _ => wordAt s.mem a
  | .frame k _ => if k = 31 then (ringWord s a).w else wordAt s.mem a
  | .xp _ _ => combWord s a
  | .sink _ _ => combWord s a
  | .page row inst off =>
    (pageView s r row.kind inst (row.base + 0x1000 * inst) off).getD (if (regAt a).isSome then s.rd a else 0)
  | _ => if (regAt a).isSome then s.rd a else 0

/-- R43: while its page holds a snapshot, a register that takes part reads as the copy. -/
def shownWord (s : State) (r : Req) (a : Nat) : Word :=
  match (ownerBase a).bind (alGet s.snaps) with
  | some c => if snapCovers a then (alGet c a).getD (regReset a) else liveWord s r a
  | none => liveWord s r a

/-! ### Reads -/

/-- A word as a read returns it, with what the read does: a word of memory with an uncorrectable error, and the lines of
TW0's bus as TW0's own read finds them, are free; MADC_n_FIFO gives up its oldest word (R377). -/
def readWord (s : State) (r : Req) (a : Nat) : Word × State :=
  if s.bad.contains a then s.draw
  else if a = P.tw 0 + 0x4C ∧ r = .tw0 then
    let d := s.draw
    (d.1 &&& 3#32, d.2)
  else if a = P.madc 0 + 0x50 then fifoPop s 0
  else if a = P.madc 1 + 0x50 then fifoPop s 1
  else (shownWord s r a, s)

/-- R41: the requesters that have shadows: the two ports and the Forager's channels. -/
def hasShadow : Req → Bool
  | .spi => true
  | .tw0 => true
  | .forager _ => true
  | _ => false

/-- R41: a _LO register captures the high half; the _HI register after it returns the capture. Where the shadow holds the capture of
another pair, R41 does not say what a _HI read returns: here the live half, and the shadow stays (DESIGN CHOICE, log entry 76). -/
def readShadowed (s : State) (r : Req) (a : Nat) : Word × State :=
  if hasShadow r && isLo a then
    (shownWord s r a, { s with shadows := alSet s.shadows (holdKey r a) (a, shownWord s r (a + 4)) })
  else if hasShadow r && isHi a then
    match alGet s.shadows (holdKey r a) with
    | some (b, w) => if b = a - 4 then (w, { s with shadows := alDel s.shadows (holdKey r a) }) else (shownWord s r a, s)
    | none => (shownWord s r a, s)
  else readWord s r a

/-- R35: the registers that a soft reset leaves readable. -/
def readsInReset (a : Nat) : Bool :=
  match regionOf a with
  | .page _ _ off => off == 0x000 || off == 0x004 || off == 0x008
  | _ => false

/-- R26, R28, R29, R35, R53: serve a read of a word; `cmd` is 0xFF for a direct one. A read refused during soft reset returns
a value the manual leaves open. -/
def serveRead (r : Req) (cmd a : Nat) (s : State) : Word × Code × State :=
  let s := s.wakeFor a
  match accessBad s a with
  | some why => (0, why.code, s.badAccess false why r a)
  | none =>
    if resetting s a && !readsInReset a then
      let d := s.draw
      (d.1, .busy, d.2.refuseAt r cmd a .busy)
    else
      let o := readShadowed s r a
      (o.1, .done, o.2)

/-- A direct read of one word that reaches the part. Of an address not served yet (R82) it returns a value the manual leaves
open. -/
def directRead (r : Req) (a : Nat) (s : State) : Word × Code × State :=
  if opened s r a then serveRead r 0xFF a s
  else
    let d := s.draw
    (d.1, .done, d.2)

/-- A direct read by a requester: its word in `rdata` and its status in `rcode`. -/
def hostRead (r : Req) (a : Nat) (s : State) : State :=
  if reaches s r then
    let o := directRead r a s
    { o.2.2 with rdata := o.1, rcode := o.2.1 }
  else s

/-- R53, R64: direct reads of `n` words from an address, with the status of the first that was not DONE. -/
def fetchWords (r : Req) : Nat → Nat → State → List Word × Code × State
  | 0, _, s => ([], .done, s)
  | n + 1, a, s =>
    let o := directRead r a s
    let t := fetchWords r n (a + 4) o.2.2
    (o.1 :: t.1, if o.2.1 = .done then t.2.1 else o.2.1, t.2.2)

/-- READ_LO_SHADOW (R41): a read of a _LO register. -/
def execReadLoShadow (r : Req) (a : BitVec 24) (s : State) : Host.Outcome State Fault Refusal :=
  .next (if isLo a.toNat then hostRead r a.toNat s else s)

/-- READ_HI_SHADOW (R41): a read of a _HI register. -/
def execReadHiShadow (r : Req) (a : BitVec 24) (s : State) : Host.Outcome State Fault Refusal :=
  .next (if isHi a.toNat then hostRead r a.toNat s else s)

/-- MADC_FIFO_READ (R377): a read of MADC_n_FIFO. -/
def execMadcFifoRead (r : Req) (n : Fin 2) (s : State) : Host.Outcome State Fault Refusal :=
  .next (hostRead r (P.madc n + 0x50) s)

end Sys2Proof.Machine
end

