-- ==== Sys2Proof/Machine/Spi.lean ====
section
/-! DEFINITION. The host SPI port (R48-R58, R74): frames, and how a Plosto request reaches a mailbox (R78, R80). -/

namespace Sys2Proof.Machine

/-- What a frame answers after the device-select byte, the status it ends with (R45), and the state after it. -/
structure FrameEnd where
  out : List Byte
  code : Code
  st : State

/-- R49: a device-select byte names this device. -/
def dselHit (s : State) (dsel : Byte) : Bool := dsel.toNat == s.getF P.spi F.SPI_CFG_DSEL

/-- R51: the status byte of the SPI port. -/
def spiStatus (s : State) : Byte := statusByte s (s.getF P.spi F.SPI_LAST_CODE != 0) s.ports.spi.mb

/-- R74: SPI's state during a frame (3 ACTIVE) and outside it (2 IDLE). -/
def spiState (v : Nat) (s : State) : State := if s.st P.spi = 2 ∨ s.st P.spi = 3 then s.setSt P.spi v else s

/-- R74: the outcomes of frames that ERR_CNT counts. -/
def spiErr (c : Code) : Bool := c == .check || c == .aborted || c == .unknown

/-- The end of a served frame: what it sent, SPI_LAST, ERR_CNT, and a soft reset that waited for it (R74). -/
def spiEnd (status : Byte) (op : Nat) (f : FrameEnd) : State :=
  let s := f.st.onSpi fun p => { p with miso := status :: f.out }
  let s := s.wr (P.spi + 0x44) (BitVec.ofNat 32 (op * 0x100 + f.code.num))
  let s := if spiErr f.code then s.err P.spi else s
  (spiState 2 s).srstDue

/-- The port stays at high impedance (R50). -/
def spiSilent (s : State) : State := s.onSpi fun p => { p with miso := [] }

/-- R57: the part is in Sleep or Deep sleep, and not held in reset. -/
def asleep (s : State) : Bool := !s.sys.held && (s.sys.mode == .sleep || s.sys.mode == .deep)

/-- A frame with a device-select byte and an opcode: one for this device is served in Run and Idle while the port is enabled
(R49, R74), and starts a wake in Sleep and Deep sleep (R57). -/
def spiFrame (dsel : Byte) (op : Nat) (body : State → FrameEnd) (s : State) : State :=
  if !dselHit s dsel then spiSilent s
  else if reaches s .spi then spiEnd (spiStatus s) op (body (spiState 3 s))
  else if asleep s then (spiSilent s).wakeBy 2 1 false
  else spiSilent s

/-- R54: a frame that ended short or long. -/
def spiShort (c : Code) (s : State) : FrameEnd := ⟨[], c, (s.bump P.spi F.SPI_SHORT_CNT_COUNT).raise P.spi 4⟩

/-- R55: a WRITE frame rejected with CRC framing. -/
def spiReject (c : Code) (s : State) : FrameEnd := ⟨[], c, (s.bump P.spi F.SPI_CRC_CNT_COUNT).raise P.spi 2⟩

/-- R52: whether a COUNT is permitted. -/
def countOk (n : Nat) : Bool := decide (1 ≤ n ∧ n ≤ 64)

/-- R52-R55: a READ frame; `args` are its bytes after the opcode, wait bytes included. The wait bytes sent as 0x00 are not
listed in what it sends. R53 lets the host clock wait bytes until the start byte has come, and does not say what a frame is that ends
before the data is out: here, once one wait byte has been clocked, the start byte and all the words are listed as sent (DESIGN CHOICE,
log entry 76). -/
def spiRead (timeout : Bool) (dsel : Byte) (args : List Byte) (s : State) : FrameEnd :=
  if args.length < 4 then spiShort .aborted s
  else if !countOk (field args 3 1) then ⟨[], .range, s⟩
  else if timeout then ⟨[0xA5], .timeout, s⟩
  else
    let o := fetchWords .spi (field args 3 1) (field args 0 3) s
    let data := wordsBytes o.1
    let tail := if s.isSet P.spi F.SPI_CFG_CRC then [crc8 (dsel :: 0x20 :: args.take 4 ++ data)] else []
    ⟨if args.length = 4 then [] else 0x5A :: data ++ tail, o.2.1, o.2.2⟩

/-- R52, R54, R55: a WRITE frame. -/
def spiWriteFrame (dsel : Byte) (args : List Byte) (s : State) : FrameEnd :=
  let n := field args 3 1
  let a := field args 0 3
  let got := args.length - 4
  if s.isSet P.spi F.SPI_CFG_CRC then
    if args.length < 4 then spiReject .check s
    else if !countOk n then spiReject .range s
    else if got = 4 * n + 1 ∧ crc8 (dsel :: 0x30 :: args.take (4 + 4 * n)) = (args.drop (4 + 4 * n)).headD 0 then
      let o := applyWords .spi (toWords ((args.drop 4).take (4 * n))) a s
      ⟨[], o.1, o.2⟩
    else spiReject .check s
  else if args.length < 4 then spiShort .aborted s
  else if !countOk n then ⟨[], .range, s⟩
  else
    let o := applyWords .spi (toWords ((args.drop 4).take (4 * n))) a s
    if got < 4 * n then spiShort .aborted o.2
    else if 4 * n < got then spiShort .range o.2
    else ⟨[], o.1, o.2⟩

/-- R78, R80: what becomes of a request frame in a mailbox that can take it: answered at once, or held as the request. -/
def takeReq (v : Via) (f : List Byte) (hold : Nat × BitVec 16 × List Byte → State → State) (s : State) : State :=
  match frameCheck f with
  | .check c t => (s.refuse P.kpr c v.req 0 .check).deliver v (rspFrame c t .check [])
  | .badVer c t => (s.refuse P.kpr c v.req 0 .unknown).deliver v (rspFrame c t .unknown [])
  | .good c t p => (hold (c, t, p) s).arrive c ⟨v, t, p⟩

/-- R80: a PLOSTO_REQ frame. -/
def spiRequest (f : List Byte) (s : State) : FrameEnd :=
  if !s.sys.service then ⟨[], .busy, s⟩
  else if s.ports.spi.mb.req.isSome then ⟨[], .busy, (s.bump P.spi F.SPI_OVR_CNT_COUNT).raise P.spi 1⟩
  else ⟨[], .done, takeReq .spi f (fun r s => s.onSpi fun p => { p with mb := { p.mb with req := some r } }) s⟩

/-- R52, R80: the first `n` bytes of a response, with 0x00 bytes after it. -/
def rspBytes (m : Mailbox) (n : Nat) : List Byte := ((m.rsp.getD []) ++ List.replicate n 0).take n

/-- R80: a response read to its last CRC byte is freed. -/
def readRsp (m : Mailbox) (n : Nat) : Mailbox :=
  if (m.rsp.map fun f => decide (f.length ≤ n)).getD false then { m with rsp := none } else m

/-! ### The commands -/

/-- SPI_READ (R52, R53, R55). -/
def execSpiRead (dsel : Byte) (args : List Byte) (s : State) : Host.Outcome State Fault Refusal :=
  .next (spiFrame dsel 0x20 (spiRead false dsel args) s)

/-- SPI_READ_TIMEOUT (R53): the fetch is not complete by the 64th wait byte. -/
def execSpiReadTimeout (dsel : Byte) (args : List Byte) (s : State) : Host.Outcome State Fault Refusal :=
  .next (spiFrame dsel 0x20 (spiRead true dsel args) s)

/-- SPI_WRITE (R52, R54, R55). -/
def execSpiWrite (dsel : Byte) (args : List Byte) (s : State) : Host.Outcome State Fault Refusal :=
  .next (spiFrame dsel 0x30 (spiWriteFrame dsel args) s)

/-- SPI_PLOSTO_REQ (R52, R78, R80). -/
def execSpiPlostoReq (dsel : Byte) (frame : List Byte) (s : State) : Host.Outcome State Fault Refusal :=
  .next (spiFrame dsel 0x40 (spiRequest frame) s)

/-- SPI_PLOSTO_RSP (R52, R80): the host clocks `n` bytes. -/
def execSpiPlostoRsp (dsel : Byte) (n : Nat) (s : State) : Host.Outcome State Fault Refusal :=
  .next (spiFrame dsel 0x41 (fun s =>
    ⟨rspBytes s.ports.spi.mb n, .done, s.onSpi fun p => { p with mb := readRsp p.mb n }⟩) s)

/-- SPI_STATUS (R52). -/
def execSpiStatus (dsel : Byte) (s : State) : Host.Outcome State Fault Refusal :=
  .next (spiFrame dsel 0x50 (fun t => ⟨[BitVec.ofNat 8 (t.getF P.spi F.SPI_LAST_CODE)], .done, t⟩) s)

/-- SPI_UNKNOWN_OPCODE (R52): a frame with another opcode. -/
def execSpiUnknownOpcode (dsel : Byte) (op : Byte) (s : State) : Host.Outcome State Fault Refusal :=
  .next (if op = 0x20 ∨ op = 0x30 ∨ op = 0x40 ∨ op = 0x41 ∨ op = 0x50 then s
    else spiFrame dsel op.toNat (fun t => ⟨[], .unknown, t.refuse P.spi 0xFF .spi 0 .unknown⟩) s)

/-- SPI_WAKE_MATCH (R57): a device-select byte while the part sleeps. -/
def execSpiWakeMatch (dsel : Byte) (s : State) : Host.Outcome State Fault Refusal :=
  .next (if dselHit s dsel && asleep s then (spiSilent s).wakeBy 2 1 false else s)

end Sys2Proof.Machine
end

