-- ==== Sys2Proof/Machine/Tw0.lean ====
section
/-! DEFINITION. TW0, the two-wire target port (R60-R67, R75): write phases, read phases, PEC, and line faults. -/

namespace Sys2Proof.Machine

/-- R60: the address byte of a write, and, with `rd`, of a read. -/
def twAddr (s : State) (rd : Bool) : Byte := BitVec.ofNat 8 (2 * (0x38 + s.getF P.sys F.SYS_STRAP_TWA) + b2n rd)

/-- R63: TW_0_CFG.PEC. -/
def pecOn (s : State) : Bool := s.isSet (P.tw 0) F.TW_CFG_PEC

/-- Bytes of the transaction pass on the bus (R418). -/
def State.twPut (s : State) (bs : List Byte) : State :=
  twBytes ((s.onTw0 fun p => { p with bytes := p.bytes ++ bs })) 0 bs.length

/-- R75: TW0's state: 3 ACTIVE during a transaction, 2 IDLE outside it. -/
def twState (v : Nat) (s : State) : State := if s.st (P.tw 0) = 2 ∨ s.st (P.tw 0) = 3 then s.setSt (P.tw 0) v else s

/-- A command code arrives: the transaction begins with the address byte if none is under way, and TW_0_LAST names the
code. -/
def twOpen (s : State) (op : Nat) (args : List Byte) : State :=
  let s := if s.ports.tw0.bytes = [] then
      (twState 3 (s.onTw0 fun p => { p with out := [], nack := false })).twPut [twAddr s false] else s
  (s.twPut (BitVec.ofNat 8 op :: args)).setF (P.tw 0) F.TW_LAST_CMD op

/-- The outcome of a transaction or of a part of it, in TW_0_LAST; ERR_CNT counts every one but DONE (R75). -/
def twLast (s : State) (c : Code) : State :=
  let s := s.setF (P.tw 0) F.TW_LAST_CODE c.num
  if c = .done then s else s.err (P.tw 0)

/-- The transaction is over; commands not applied are gone. -/
def twOver (s : State) : State := twState 2 (s.onTw0 fun p => { p with held := [], bytes := [] })

/-- The transaction ends with an outcome. -/
def twEnd (s : State) (c : Code) : State := twOver (twLast s c)

/-- TW0 withholds an acknowledge. -/
def twNack (s : State) : State := (s.onTw0 fun p => { p with nack := true }).bump (P.tw 0) F.TW_NACK_CNT_COUNT

/-- R61: the address pointer, which advances by whole words. -/
def twPtr (s : State) : Nat := s.getF (P.tw 0) F.TW_PTR_ADDR

/-- R61: the pointer takes an address, modulo its 24 bits. -/
def setPtr (s : State) (a : Nat) : State := s.setF (P.tw 0) F.TW_PTR_ADDR (a % 0x1000000)

/-- R61, R62: words are applied one by one at the pointer, which advances by each; the status of the first not DONE. -/
def twApplyWords : List Word → State → Code × State
  | [], s => (.done, s)
  | w :: ws, s =>
    let a := twPtr s
    let o := directWrite .tw0 a w s
    let t := twApplyWords ws (setPtr o.2 (a + 4))
    (if o.1 = .done then t.1 else o.1, t.2)

/-- R80: a PLOSTO command's request. -/
def twRequest (f : List Byte) (s : State) : Code × State :=
  if !s.sys.service ∨ s.ports.tw0.mb.req.isSome then (.busy, s)
  else (.done, takeReq .tw0 f (fun r s => s.onTw0 fun p => { p with mb := { p.mb with req := some r } }) s)

/-- R61, R62: a complete command is applied. -/
def twApplyOne (c : TwCmd) (s : State) : Code × State :=
  match c with
  | .setAddr a => (.done, setPtr s a)
  | .write ws => twApplyWords ws s
  | .plosto f => twRequest f s
  | .aborted _ => (.aborted, s)

/-- R62: the commands of a write phase are applied in order; the status of the first that was not DONE. -/
def twApply : List TwCmd → State → Code × State
  | [], s => (.done, s)
  | c :: cs, s =>
    let o := twApplyOne c s
    let t := twApply cs o.2
    (if o.1 = .done then t.1 else o.1, t.2)

/-- The complete commands held are applied. -/
def twCommit (s : State) : Code × State :=
  let h := s.ports.tw0.held
  twApply h (s.onTw0 fun p => { p with held := [] })

/-- Whether the last command of the write phase is incomplete. -/
def twPartial (s : State) : Bool :=
  match s.ports.tw0.held.getLast? with
  | some (.aborted _) => true
  | _ => false

/-- R62: the incomplete command is discarded. -/
def dropPartial (s : State) : State := s.onTw0 fun p => { p with held := p.held.filter fun c => match c with
  | .aborted _ => false
  | _ => true }

/-- R66: a protocol error: incomplete commands are discarded, and the transaction ends ABORTED. With PEC disabled the complete
commands before stand; with PEC no check byte has passed them. -/
def twProto (s : State) : State :=
  let s := dropPartial s
  let s := if pecOn s then s else (twCommit s).2
  twEnd ((s.raise (P.tw 0) 1).bump (P.tw 0) F.TW_PROTO_CNT_COUNT) .aborted

/-- R62: a STOP after an incomplete command: with PEC disabled the complete commands before it stand. -/
def twCut (s : State) : State :=
  let s := dropPartial s
  twEnd (if pecOn s then s else (twCommit s).2) .aborted

/-- R61: a byte that is no command code, or a COUNT out of range: not acknowledged, nothing of the write phase applied. -/
def twRefuse (s : State) (c : Code) : State := twEnd ((twNack s).refuse (P.tw 0) 0xFF .tw0 0 c) c

/-- R61: the defined command codes. -/
def twCode (b : Byte) : Bool :=
  b == 0x10 || b == 0x20 || b == 0x21 || b == 0x30 || b == 0x31 || b == 0x40 || b == 0x50

/-- R62, R63: the STOP of a write-only transaction, with the PEC byte before it if one was sent. A code that only a read phase follows
(READ_WORD, STATUS) has no arguments; R61 does not say what a STOP in place of its read phase is: here it ends as an incomplete command
does, with ABORTED (DESIGN CHOICE, log entry 76). -/
def twStop (s : State) (pec : Option Byte) : State :=
  if pecOn s then
    if twPartial s then twCut s
    else match pec with
      | none => twEnd s .check
      | some b =>
        if b = crc8 s.ports.tw0.bytes then
          let o := twCommit (twBytes s 0 1)
          twEnd o.2 o.1
        else twEnd ((twNack (twBytes s 0 1)).bump (P.tw 0) F.TW_PEC_CNT_COUNT |>.raise (P.tw 0) 2) .check
  else match pec with
    | some b =>
      if twPartial s then twCut s
      else if twCode b then twCut (twOpen s b.toNat [])
      else twRefuse (twOpen s b.toNat []) .unknown
    | none =>
      if twPartial s then twCut s
      else
        let o := twCommit s
        twEnd o.2 o.1

/-- R62: a repeated start after a complete command: the commands are applied. -/
def twRestart (s : State) : State :=
  let o := twCommit s
  twLast o.2 o.1

/-- A command of a write phase and how it ended (R61-R63, R66). -/
def twWrite (op : Nat) (args : List Byte) (cmd : Option TwCmd) (e : TwEnd) (s : State) : State :=
  let s := (twOpen s op args).onTw0 fun p => { p with held := p.held ++ [cmd.getD (.aborted op)] }
  match e with
  | .more => s
  | .restart => if twPartial s then twProto s else (twRestart s).twPut [twAddr s false]
  | .stop pec => twStop s pec
  | .badCode b =>
    if twPartial s then s
    else if twCode b then s
    else twRefuse (twOpen s b.toNat []) .unknown
  | .noCode _ => s

/-- R60, R74, R75: TW0 is served. -/
def twServed (s : State) : Bool := reaches s .tw0

/-- R60, R61: a command of a write phase, where TW0 is served; a byte in its place that is no command code is refused. -/
def twRow (e : TwEnd) (go : State → State) (s : State) : State :=
  if !twServed s then s
  else match e with
    | .noCode b => if twCode b then s else twRefuse (twOpen s b.toNat []) .unknown
    | _ => go s

/-- R61, R64: the words at the pointer, which stays within its 24 bits, with the status of the first that was not DONE. -/
def twFetch : Nat → Nat → State → List Word × Code × State
  | 0, _, s => ([], .done, s)
  | n + 1, a, s =>
    let o := directRead .tw0 a s
    let t := twFetch n ((a + 4) % 0x1000000) o.2.2
    (o.1 :: t.1, if o.2.1 = .done then t.2.1 else o.2.1, t.2.2)

/-- A read phase as the controller clocks it: the bytes of the stream, the byte after the last acknowledged one the last, and
0xFF beyond the stream's end (R64). -/
def clocked (stream : List Byte) (acked : Nat) : List Byte := (stream ++ List.replicate (acked + 1) 0xFF#8).take (acked + 1)

/-- R63: a read phase's bytes with the PEC after them, if enabled: it covers the transaction's bytes and those sent. -/
def withPec (s : State) (data : List Byte) : List Byte :=
  if pecOn s then data ++ [crc8 (s.ports.tw0.bytes ++ data)] else data

/-- The bytes of a read phase, sent; the transaction ends with an outcome. -/
def twSend (out : List Byte) (c : Code) (s : State) : State :=
  twEnd (twBytes (s.onTw0 fun p => { p with out := out }) 0 out.length) c

/-- R62: the repeated start and the address byte that begin a read phase: the commands before are applied. -/
def twTurn (s : State) : Code × State :=
  let o := twCommit s
  (o.1, o.2.twPut [twAddr o.2 true])

/-- The first of two statuses that is not DONE. -/
def firstBad (c d : Code) : Code := if c = .done then d else c

/-- R61, R64: a read phase of `n` words; `acked` data bytes are acknowledged. A word is passed when its four bytes were
acknowledged, the last one also where it ends the transaction. -/
def twRead (op : Nat) (args : List Byte) (n acked : Nat) (s : State) : State :=
  let u := twTurn (twOpen s op args)
  let s := u.2
  let a := twPtr s
  let o := twFetch n a s
  let data := wordsBytes o.1
  let s := o.2.2
  let all := !pecOn s && acked + 1 == 4 * n
  let s := setPtr s (a + 4 * (if all then n else min n (acked / 4)))
  twSend (clocked (withPec s data) acked) (firstBad u.1 o.2.1) s

/-! ### The commands -/

/-- TW_SET_ADDR (R61). -/
def execTwSetAddr (args : List Byte) (e : TwEnd) (s : State) : Host.Outcome State Fault Refusal :=
  .next (twRow e (twWrite 0x10 (args.take 3) (if 3 ≤ args.length then some (.setAddr (field args 0 3)) else none) e) s)

/-- TW_READ_WORD (R61, R64). -/
def execTwReadWord (acked : Nat) (s : State) : Host.Outcome State Fault Refusal :=
  .next (if twServed s then twRead 0x20 [] 1 acked s else s)

/-- TW_READ_BLOCK (R61, R64, R66): a repeated start before COUNT is a protocol error. -/
def execTwReadBlock (args : List Byte) (acked : Nat) (s : State) : Host.Outcome State Fault Refusal :=
  .next (if !twServed s then s
    else match args with
      | [] => twProto (twOpen s 0x21 [])
      | n :: _ => if countOk n.toNat then twRead 0x21 [n] n.toNat acked s else twRefuse (twOpen s 0x21 [n]) .range)

/-- TW_WRITE_WORD (R61). -/
def execTwWriteWord (args : List Byte) (e : TwEnd) (s : State) : Host.Outcome State Fault Refusal :=
  .next (twRow e (twWrite 0x30 (args.take 4) (if 4 ≤ args.length then some (.write (toWords (args.take 4))) else none) e) s)

/-- TW_WRITE_BLOCK (R61). -/
def execTwWriteBlock (args : List Byte) (e : TwEnd) (s : State) : Host.Outcome State Fault Refusal :=
  .next (twRow e (fun s => match args with
    | [] => twWrite 0x31 [] none e s
    | n :: d =>
      if countOk n.toNat then
        twWrite 0x31 (n :: d.take (4 * n.toNat))
          (if 4 * n.toNat ≤ d.length then some (.write (toWords (d.take (4 * n.toNat)))) else none) e s
      else twRefuse (twOpen s 0x31 [n]) .range) s)

/-- TW_PLOSTO (R61, R80): a request frame, a read phase of `read` bytes of the response held, or both. -/
def execTwPlosto (frame : List Byte) (e : TwEnd) (read : Nat) (s : State) : Host.Outcome State Fault Refusal :=
  .next (twRow e (fun s =>
    if read = 0 then twWrite 0x40 frame (if frame = [] then none else some (.plosto frame)) e s
    else
      let s := twOpen s 0x40 frame
      let u := twTurn (if frame = [] then s else s.onTw0 fun p => { p with held := p.held ++ [.plosto frame] })
      let s := u.2
      let m := s.ports.tw0.mb
      let out := match m.rsp with
        | some f => clocked (withPec s f) (read - 1)
        | none => List.replicate read 0
      twSend out u.1 (s.onTw0 fun p => { p with mb := readRsp m read })) s)

/-- TW_STATUS (R51, R61, R62): the commands before it are applied at the repeated start; then the status byte, whose LAST_ERR is that
of the transaction before, and the code of that transaction are sent. -/
def execTwStatus (s : State) : Host.Outcome State Fault Refusal :=
  .next (if twServed s then
    let code := s.getF (P.tw 0) F.TW_LAST_CODE
    let u := twTurn (twOpen s 0x50 [])
    twSend (withPec u.2 [statusByte u.2 (code != 0) u.2.ports.tw0.mb, BitVec.ofNat 8 code]) u.1 u.2
  else s)

/-- TW_FETCH_TIMEOUT (R64): a fetch of `words` words is abandoned after 2 ms; zeros are sent, and no word is passed. -/
def execTwFetchTimeout (words : Nat) (s : State) : Host.Outcome State Fault Refusal :=
  .next (if twServed s && countOk words then
    let s := (twTurn (if words = 1 then twOpen s 0x20 [] else twOpen s 0x21 [BitVec.ofNat 8 words])).2
    twSend (withPec s (List.replicate (4 * words) 0)) .timeout (s.bump (P.tw 0) F.TW_TMO_CNT_COUNT)
  else s)

/-- SCL_TMO (R65): SCL has been low for more than 25 ms. -/
def execSclTmo (s : State) : Host.Outcome State Fault Refusal :=
  .next (if twServed s then twEnd ((s.bump (P.tw 0) F.TW_TMO_CNT_COUNT).raise (P.tw 0) 3) .timeout else s)

/-- R67: the length of TW0's glitch filter in samples of 10 ns; 0 acts as 1 (TW_n_CFG). -/
def twGlitch (s : State) : Nat := max 1 (s.getF (P.tw 0) F.TW_CFG_GLITCH)

/-- PROTO (R66, R67): a START, or a STOP within a byte, where none is permitted; SDA holds its new level for `held` samples of 10 ns. A
pulse shorter than the filter is ignored. -/
def execTwProto (held : Nat) (s : State) : Host.Outcome State Fault Refusal :=
  .next (if twServed s && decide (twGlitch s ≤ held) then twProto s else s)

end Sys2Proof.Machine
end

