-- ==== Sys2Proof/Machine/FirstForms.lean ====
section
/-! DEFINITION. Twelve commands under the names and with the operands that they had before their frames, samples and times came into
the state: each is a command of Syntax.lean and its meaning. No arm, no meaning and no statement uses them; they are here for what still
names a command so (log entry 1). An operand that the state has made idle is of the type with one value. -/

namespace Sys2Proof

/-- PROTO, the code having held longer than any filter length. -/
def Instr.proto : Instr := .twProto 256

/-- UDP_DATAGRAM, its frame in parts. -/
def Instr.udpDatagram (n : Fin 4) (ip port unicast sec bytes : List Byte) : Instr :=
  .udpFrame n (ip ++ port ++ unicast ++ sec ++ bytes)

/-- ZLA_DECISION. -/
def Instr.zlaDecision (z : Fin 16) (_mics _silent _heard _erle : Unit) : Instr := .zlaDecide z

/-- ARP_RECEIVE, its frame in parts. -/
def Instr.arpReceive (n : Fin 4) (reply sip smac tip : List Byte) : Instr := .arpFrame n (reply ++ sip ++ smac ++ tip)

/-- ICMP_ECHO, its frame in parts. -/
def Instr.icmpEcho (n : Fin 4) (src data : List Byte) : Instr := .echoFrame n (src ++ data)

/-- IGMP_QUERY, its frame in parts. -/
def Instr.igmpQuery (n : Fin 4) (v2 group : List Byte) : Instr := .igmpFrame n (v2 ++ group)

/-- IGMP_REPORT_TIMER of the general query. -/
def Instr.igmpReportTimer (n : Fin 4) : Instr := .igmpReport n 0

/-- PTP_ANNOUNCE, its frame in parts. -/
def Instr.ptpAnnounce (n : Fin 4) (dom a : List Byte) : Instr := .announceFrame n (dom ++ a)

/-- PTP_TX_TIMER at the fabric period. -/
def Instr.ptpTxTimer (n : Fin 4) (k : Fin 3) : Instr := .ptpTimer n k 0

/-- PDM_MODE_CHANGE. -/
def Instr.pdmModeChange (_limit : Unit) : Instr := .pdmGoOn

/-- SCOUT_FRAME. -/
def Instr.scoutFrame (_bands _lv _gap : Unit) : Instr := .scoutFrameEnd

/-- AMP_CURRENT_LIMIT. -/
def Instr.ampCurrentLimit (n : Fin 8) (_fresh : Unit) : Instr := .ampLimitRun n

namespace Machine

/-- What `Instr.proto` does. -/
def execProto (s : State) : Host.Outcome State Fault Refusal := execTwProto 256 s

/-- What `Instr.udpDatagram` does. -/
def execUdpDatagram (n : Fin 4) (ip port unicast sec bytes : List Byte) (s : State) : Host.Outcome State Fault Refusal :=
  execUdpFrame n (ip ++ port ++ unicast ++ sec ++ bytes) s

/-- What `Instr.zlaDecision` does. -/
def execZlaDecision (z : Fin 16) (_mics _silent _heard _erle : Unit) (s : State) : Host.Outcome State Fault Refusal := execZlaDecide z s

/-- What `Instr.arpReceive` does. -/
def execArpReceive (n : Fin 4) (reply sip smac tip : List Byte) (s : State) : Host.Outcome State Fault Refusal :=
  execArpFrame n (reply ++ sip ++ smac ++ tip) s

/-- What `Instr.icmpEcho` does. -/
def execIcmpEcho (n : Fin 4) (src data : List Byte) (s : State) : Host.Outcome State Fault Refusal := execEchoFrame n (src ++ data) s

/-- What `Instr.igmpQuery` does. -/
def execIgmpQuery (n : Fin 4) (v2 group : List Byte) (s : State) : Host.Outcome State Fault Refusal := execIgmpFrame n (v2 ++ group) s

/-- What `Instr.igmpReportTimer` does. -/
def execIgmpReportTimer (n : Fin 4) (s : State) : Host.Outcome State Fault Refusal := execIgmpReport n 0 s

/-- What `Instr.ptpAnnounce` does. -/
def execPtpAnnounce (n : Fin 4) (dom a : List Byte) (s : State) : Host.Outcome State Fault Refusal := execAnnounceFrame n (dom ++ a) s

/-- What `Instr.ptpTxTimer` does. -/
def execPtpTxTimer (n : Fin 4) (k : Fin 3) (s : State) : Host.Outcome State Fault Refusal := execPtpTimer n k 0 s

/-- What `Instr.pdmModeChange` does. -/
def execPdmModeChange (_limit : Unit) (s : State) : Host.Outcome State Fault Refusal := execPdmGoOn s

/-- What `Instr.scoutFrame` does. -/
def execScoutFrame (_bands _lv _gap : Unit) (s : State) : Host.Outcome State Fault Refusal := execScoutFrameEnd s

/-- What `Instr.ampCurrentLimit` does. -/
def execAmpCurrentLimit (n : Fin 8) (_fresh : Unit) (s : State) : Host.Outcome State Fault Refusal := execAmpLimitRun n s

end Machine
end Sys2Proof
end

