-- ==== Sys2Proof/Machine/PlostoBase.lean ====
section
/-! DEFINITION. The Plosto commands of chapter 03: PING, READ, WRITE, MODIFY, EVENTS, KEY_SET and NONCE_RENEW (R79, R83-R85,
R90, R91), and codes not assigned. -/

namespace Sys2Proof.Machine

/-- R47: a refusal of an argument of one of these commands, recorded on KPR. -/
def badArg (s : State) (a : Nat) : PlAns := nakAt s P.kpr (a % 0x1000000) .range

/-! ### Words -/

/-- R26-R29, R35, R79: a word as a Plosto command reads it, with its status. -/
def plReadWord (r : Req) (a : Nat) (s : State) : Word × Code × State :=
  let s := s.wakeFor a
  match accessBad s a with
  | some why => (0, why.code, s.badAccess false why r a)
  | none =>
    if resetting s a && !readsInReset a then (0, .busy, s)
    else
      let o := readWord s r a
      (o.1, .done, o.2)

/-- The words of a READ, each with its address and status. -/
def plReadWords (r : Req) : Nat → Nat → State → List (Nat × Word × Code) × State
  | 0, _, s => ([], s)
  | n + 1, a, s =>
    let o := plReadWord r a s
    let t := plReadWords r n (a + 4) o.2.2
    ((a, o.1, o.2.1) :: t.1, t.2)

/-- R46: the check that a READ reports: the first in the order of checks, at the first word that fails it. -/
def worst : List (Nat × Word × Code) → Option (Nat × Code)
  | [] => none
  | (a, _, c) :: t =>
    match worst t with
    | none => if c = .done then none else some (a, c)
    | some (b, d) => if c ≠ .done ∧ checkRank c ≤ checkRank d then some (a, c) else some (b, d)

/-- R79: a word as a Plosto command writes it, with the check that refuses it and what a refusal leaves. -/
def plWriteWord (r : Req) (a : Nat) (v : Word) (s : State) : Code × State :=
  let s := s.wakeFor a
  match writeBad s a with
  | some why => (if lockedOut s a then lockCode why.code else why.code, s.badAccess true why r a)
  | none =>
    let o := regWrite r a v s
    if lockedOut s a then (lockCode o.1, s)
    else if o.1 = .done ∧ resetting s a then (.busy, s) else o

/-- R79: the words of a WRITE tried in order: the state after them all, or the index, address and code of the first that is
refused. -/
def plWriteWords (r : Req) : List Word → Nat → Nat → State → State ⊕ (Nat × Nat × Code)
  | [], _, _, s => .inl s
  | w :: ws, i, a, s =>
    let o := plWriteWord r a w s
    if o.1 = .done then plWriteWords r ws (i + 1) (a + 4) o.2 else .inr (i, a, o.1)

/-- The return from Idle that the words of a command cause (R82). -/
def wakeWords (n a : Nat) (s : State) : State := forEach (List.range n) (fun i s => s.wakeFor (a + 4 * i)) s

/-- R42, R85: nothing is held for a Plosto command after it. -/
def dropHolds (r : Req) (s : State) : State := { s with holds := s.holds.filter fun e => e.1.req != r }

/-- R47, R79: a refused word of a WRITE or MODIFY changes nothing but what its refusal records. -/
def plRefused (r : Req) (a : Nat) (v : Word) (c : Code) (payload : List Byte) (s : State) : PlAns :=
  let o := plWriteWord r a v s
  ⟨c, payload, refusePage a, refuseAddr a, if o.1 = .done then s else dropHolds r o.2⟩

/-- R47: what a Plosto command of `r` has just started carries its code: Forager channels and TW1 slots. -/
def stamp (cmd : Nat) (r : Req) (s : State) : State := xfStamp cmd r (frgStamp cmd r s)

/-! ### The commands -/

/-- PLOSTO_UNKNOWN (R47, R83): a request with a code not assigned. -/
def execPlostoUnknown (cmd : Byte) (q : PlReq) (s : State) : Host.Outcome State Fault Refusal :=
  .next (if assigned cmd.toNat then s else runPlosto cmd.toNat q (fun s => nak s P.kpr .unknown) s)

/-- R51, R84: the status byte in PING's answer: that of the port it came by; UDP has no mailbox and no last frame. -/
def statusOf (s : State) (v : Via) : Byte :=
  match v with
  | .spi => statusByte s (s.getF P.spi F.SPI_LAST_CODE != 0) s.ports.spi.mb
  | .tw0 => statusByte s (s.getF (P.tw 0) F.TW_LAST_CODE != 0) s.ports.tw0.mb
  | .udp .. => statusByte s false ⟨none, none⟩

/-- PING (R84). -/
def execPing (q : PlReq) (s : State) : Host.Outcome State Fault Refusal :=
  .next (runPlosto 0x01 q (fun s =>
    if q.payload ≠ [] then badArg s 0
    else ok s (wordBytes (s.rd (P.sys + 0x40)) ++ leBytes 8 Config.uid.toNat ++ leBytes 8 s.ports.udp.nonce.toNat ++
      [statusOf s q.via])) s)

/-- READ (R28, R29, R84, R85). -/
def execRead (q : PlReq) (s : State) : Host.Outcome State Fault Refusal :=
  .next (runPlosto 0x02 q (fun s =>
    let p := q.payload
    let a := field p 0 4
    let n := field p 4 2
    if p.length ≠ 6 ∨ 0xFFFFFF < a ∨ n = 0 ∨ 61 < n then badArg s (if p.length = 6 then a else 0)
    else
      let o := plReadWords q.via.req n a s
      match worst o.1 with
      | none => ok o.2 (wordsBytes (o.1.map fun e => e.2.1))
      | some (b, c) => nakAt o.2 (refusePage b) (refuseAddr b) c) s)

/-- WRITE (R79, R84, R85): every word is tried, and all are applied only if none is refused. -/
def execWrite (q : PlReq) (s : State) : Host.Outcome State Fault Refusal :=
  .next (runPlosto 0x03 q (fun s =>
    let p := q.payload
    let a := field p 0 4
    let n := field p 4 2
    if p.length < 8 ∨ 0xFFFFFF < a ∨ n = 0 ∨ 59 < n ∨ field p 6 2 ≠ 0 ∨ p.length ≠ 8 + 4 * n then badArg s (if p.length < 8 then 0 else a)
    else
      let ws := toWords (p.drop 8)
      let s := wakeWords n a s
      match plWriteWords q.via.req ws 0 a s with
      | .inl t => ok (stamp 0x03 q.via.req (dropHolds q.via.req t)) []
      | .inr (i, b, c) => plRefused q.via.req b (ws.getD i 0) c (leBytes 2 i) s) s)

/-- MODIFY (R84, R85). -/
def execModify (q : PlReq) (s : State) : Host.Outcome State Fault Refusal :=
  .next (runPlosto 0x04 q (fun s =>
    let p := q.payload
    let a := field p 0 4
    let mask := BitVec.ofNat 32 (field p 4 4)
    if p.length ≠ 12 ∨ 0xFFFFFF < a then badArg s (if p.length = 12 then a else 0)
    else
      let s := s.wakeFor a
      let o := plReadWord q.via.req a s
      if o.2.1 ≠ .done then nakAt o.2.2 (refusePage a) (refuseAddr a) o.2.1
      else
        let v := (o.1 &&& ~~~ mask) ||| (BitVec.ofNat 32 (field p 8 4) &&& mask)
        let w := plWriteWord q.via.req a v o.2.2
        if w.1 = .done then ok (stamp 0x04 q.via.req (dropHolds q.via.req w.2)) (wordBytes o.1)
        else plRefused q.via.req a v w.1 [] s) s)

/-- R84: the pages with a pending event, lowest index first, at most 29. -/
def pendingPages (s : State) : List Nat := ((List.range 77).filter fun i => evtPend s (pageOfIndex i) != 0).take 29

/-- EVENTS (R84). -/
def execEvents (q : PlReq) (s : State) : Host.Outcome State Fault Refusal :=
  .next (runPlosto 0x05 q (fun s =>
    if q.payload ≠ [] then badArg s 0
    else ok s (wordsBytes ((List.range 3).map (irqPend s) ++ (List.range 3).map (fltPend s)) ++
      (pendingPages s).flatMap fun i => leBytes 2 i ++ wordBytes (evtPend s (pageOfIndex i)))) s)

/-- R90, R91: a key replaced or deleted (all zero), with its highest SEQ and stored response. -/
def setKey (s : State) (i : Nat) (key : List Byte) : State :=
  s.onUdp fun u =>
    let rest := u.keys.filter fun k => k.idx != i
    { u with keys := if key.all (· == 0) then rest else rest ++ [⟨i, key, none, []⟩] }

/-- KEY_SET (R84, R88, R91). -/
def execKeySet (q : PlReq) (s : State) : Host.Outcome State Fault Refusal :=
  .next (runPlosto 0x06 q (onPage P.kpr false fun s =>
    let p := q.payload
    if q.via.req = .plostoUdp then nak s P.kpr .auth
    else if p.length ≠ 36 ∨ 3 < field p 0 1 ∨ field p 1 3 ≠ 0 then badArg s 0
    else ok (setKey s (field p 0 1) (p.drop 4)) []) s)

/-- R90: a drawn nonce takes its place once its answer has been sent, and every key's record is cleared. -/
def nonceTake (s : State) : State :=
  match s.ports.udp.renew with
  | none => s
  | some n => s.onUdp fun u =>
      { u with nonce := n, renew := none, keys := u.keys.map fun k => { k with seq := none, stored := [] } }

/-- NONCE_RENEW (R84, R90). -/
def execNonceRenew (q : PlReq) (s : State) : Host.Outcome State Fault Refusal :=
  .next (nonceTake (runPlosto 0x07 q (onPage P.kpr false fun s =>
    if q.payload ≠ [] then badArg s 0
    else
      let n := Config.random64 s.free
      ok { s.onUdp (fun u => { u with renew := some n }) with free := s.free + 1 } (leBytes 8 n.toNat)) s))

end Sys2Proof.Machine
end

