-- ==== Sys2Proof/Machine/Dispatch.lean ====
section
/-! DEFINITION. One arm per command: what each does to everything but the queue. -/

namespace Sys2Proof.Machine

def exec (i : Instr) (s : State) : Host.Outcome State Fault Refusal :=
  match i with
  | .fabricPeriod x => Sys2Proof.Machine.execFabricPeriod x s
  | .registerWrite r a v => Sys2Proof.Machine.execRegisterWrite r a v s
  | .readLoShadow r a => Sys2Proof.Machine.execReadLoShadow r a s
  | .readHiShadow r a => Sys2Proof.Machine.execReadHiShadow r a s
  | .writeLoHold r a v => Sys2Proof.Machine.execWriteLoHold r a v s
  | .writeHiCommit r a v => Sys2Proof.Machine.execWriteHiCommit r a v s
  | .eventClear r p bits hw => Sys2Proof.Machine.execEventClear r p bits hw s
  | .evtForce r p bits => Sys2Proof.Machine.execEvtForce r p bits s
  | .counterClear r a v hit => Sys2Proof.Machine.execCounterClear r a v hit s
  | .snapTake r p clr => Sys2Proof.Machine.execSnapTake r p clr s
  | .snapRelease r p => Sys2Proof.Machine.execSnapRelease r p s
  | .softReset r p => Sys2Proof.Machine.execSoftReset r p s
  | .softResetDone p => Sys2Proof.Machine.execSoftResetDone p s
  | .pageLock r p => Sys2Proof.Machine.execPageLock r p s
  | .blockEnable r p en => Sys2Proof.Machine.execBlockEnable r p en s
  | .devrst r v => Sys2Proof.Machine.execDevrst r v s
  | .resetN => Sys2Proof.Machine.execResetN s
  | .powerOn twa => Sys2Proof.Machine.execPowerOn twa s
  | .porRelease => Sys2Proof.Machine.execPorRelease s
  | .brownOut => Sys2Proof.Machine.execBrownOut s
  | .avbiasLow => Sys2Proof.Machine.execAvbiasLow s
  | .resetAfterStop => Sys2Proof.Machine.execResetAfterStop s
  | .watchdogReset => Sys2Proof.Machine.execWatchdogReset s
  | .dieLinkLoss => Sys2Proof.Machine.execDieLinkLoss s
  | .linkRecovery => Sys2Proof.Machine.execLinkRecovery s
  | .powerFail => Sys2Proof.Machine.execPowerFail s
  | .powerFailEnd => Sys2Proof.Machine.execPowerFailEnd s
  | .spiRead dsel args => Sys2Proof.Machine.execSpiRead dsel args s
  | .spiReadTimeout dsel args => Sys2Proof.Machine.execSpiReadTimeout dsel args s
  | .spiWrite dsel args => Sys2Proof.Machine.execSpiWrite dsel args s
  | .spiPlostoReq dsel frame => Sys2Proof.Machine.execSpiPlostoReq dsel frame s
  | .spiPlostoRsp dsel n => Sys2Proof.Machine.execSpiPlostoRsp dsel n s
  | .spiStatus dsel => Sys2Proof.Machine.execSpiStatus dsel s
  | .spiUnknownOpcode dsel op => Sys2Proof.Machine.execSpiUnknownOpcode dsel op s
  | .spiWakeMatch dsel => Sys2Proof.Machine.execSpiWakeMatch dsel s
  | .twSetAddr args e => Sys2Proof.Machine.execTwSetAddr args e s
  | .twReadWord acked => Sys2Proof.Machine.execTwReadWord acked s
  | .twReadBlock args acked => Sys2Proof.Machine.execTwReadBlock args acked s
  | .twWriteWord args e => Sys2Proof.Machine.execTwWriteWord args e s
  | .twWriteBlock args e => Sys2Proof.Machine.execTwWriteBlock args e s
  | .twPlosto frame e read => Sys2Proof.Machine.execTwPlosto frame e read s
  | .twStatus => Sys2Proof.Machine.execTwStatus s
  | .twFetchTimeout words => Sys2Proof.Machine.execTwFetchTimeout words s
  | .sclTmo => Sys2Proof.Machine.execSclTmo s
  | .twProto held => Sys2Proof.Machine.execTwProto held s
  | .tw1Go r k v => Sys2Proof.Machine.execTw1Go r k v s
  | .tw1Transfer => Sys2Proof.Machine.execTw1Transfer s
  | .tw1TransferDone o => Sys2Proof.Machine.execTw1TransferDone o s
  | .arbLost => Sys2Proof.Machine.execArbLost s
  | .tw1ArbRetry => Sys2Proof.Machine.execTw1ArbRetry s
  | .sclStuck => Sys2Proof.Machine.execSclStuck s
  | .tw1Busclr r b => Sys2Proof.Machine.execTw1Busclr r b s
  | .tw1ClrFault r b => Sys2Proof.Machine.execTw1ClrFault r b s
  | .tw1SdaLowDetect b => Sys2Proof.Machine.execTw1SdaLowDetect b s
  | .busClearRetry b => Sys2Proof.Machine.execBusClearRetry b s
  | .udpFrame n f => Sys2Proof.Machine.execUdpFrame n f s
  | .plostoUnknown cmd q => Sys2Proof.Machine.execPlostoUnknown cmd q s
  | .ping q => Sys2Proof.Machine.execPing q s
  | .read q => Sys2Proof.Machine.execRead q s
  | .write q => Sys2Proof.Machine.execWrite q s
  | .modify q => Sys2Proof.Machine.execModify q s
  | .events q => Sys2Proof.Machine.execEvents q s
  | .keySet q => Sys2Proof.Machine.execKeySet q s
  | .nonceRenew q => Sys2Proof.Machine.execNonceRenew q s
  | .xpMapWrite r k v => Sys2Proof.Machine.execXpMapWrite r k v s
  | .xpGainWrite r k v => Sys2Proof.Machine.execXpGainWrite r k v s
  | .xpDelWrite r k v => Sys2Proof.Machine.execXpDelWrite r k v s
  | .xpSet q => Sys2Proof.Machine.execXpSet q s
  | .xpSetSwap q => Sys2Proof.Machine.execXpSetSwap q s
  | .xpRemove q => Sys2Proof.Machine.execXpRemove q s
  | .xpQuery q => Sys2Proof.Machine.execXpQuery q s
  | .crosspointRampEnd k => Sys2Proof.Machine.execCrosspointRampEnd k s
  | .crossfadeEnd k => Sys2Proof.Machine.execCrossfadeEnd k s
  | .releaseEnd k => Sys2Proof.Machine.execReleaseEnd k s
  | .trimWrite r k v => Sys2Proof.Machine.execTrimWrite r k v s
  | .trimRampEnd k => Sys2Proof.Machine.execTrimRampEnd k s
  | .delayChange r k v => Sys2Proof.Machine.execDelayChange r k v s
  | .delayXfadeEnd k => Sys2Proof.Machine.execDelayXfadeEnd k s
  | .bqLoad r clr => Sys2Proof.Machine.execBqLoad r clr s
  | .bqRead r => Sys2Proof.Machine.execBqRead r s
  | .sinkSet q => Sys2Proof.Machine.execSinkSet q s
  | .sinkQuery q => Sys2Proof.Machine.execSinkQuery q s
  | .zlaEnable r z v => Sys2Proof.Machine.execZlaEnable r z v s
  | .zlaDisable r z v => Sys2Proof.Machine.execZlaDisable r z v s
  | .zlaDecide z => Sys2Proof.Machine.execZlaDecide z s
  | .keeperToReference => Sys2Proof.Machine.execKeeperToReference s
  | .refFail => Sys2Proof.Machine.execRefFail s
  | .refRecovery => Sys2Proof.Machine.execRefRecovery s
  | .refStartTimeout => Sys2Proof.Machine.execRefStartTimeout s
  | .refFailInSleep => Sys2Proof.Machine.execRefFailInSleep s
  | .pllFail p => Sys2Proof.Machine.execPllFail p s
  | .pllRestart up => Sys2Proof.Machine.execPllRestart up s
  | .servoUpdate errs dev => Sys2Proof.Machine.execServoUpdate errs dev s
  | .fabricStepResume e => Sys2Proof.Machine.execFabricStepResume e s
  | .holdoverExpiry => Sys2Proof.Machine.execHoldoverExpiry s
  | .clkMediaCfgWrite r v => Sys2Proof.Machine.execClkMediaCfgWrite r v s
  | .refModeChange r v => Sys2Proof.Machine.execRefModeChange r v s
  | .asrcGroupLock g ratio => Sys2Proof.Machine.execAsrcGroupLock g ratio s
  | .asrcQuery q => Sys2Proof.Machine.execAsrcQuery q s
  | .tdmStart r n v => Sys2Proof.Machine.execTdmStart r n v s
  | .tdmStop r n v => Sys2Proof.Machine.execTdmStop r n v s
  | .tdmStarted n => Sys2Proof.Machine.execTdmStarted n s
  | .frameSyncError n e => Sys2Proof.Machine.execFrameSyncError n e s
  | .tdmClockLoss n => Sys2Proof.Machine.execTdmClockLoss n s
  | .tdmRelock n => Sys2Proof.Machine.execTdmRelock n s
  | .driveFault n => Sys2Proof.Machine.execDriveFault n s
  | .ethUp r n v => Sys2Proof.Machine.execEthUp r n v s
  | .ethDown r n v => Sys2Proof.Machine.execEthDown r n v s
  | .phyPoll n a => Sys2Proof.Machine.execPhyPoll n a s
  | .sgmiiLinkDown n => Sys2Proof.Machine.execSgmiiLinkDown n s
  | .mdioGo r n v => Sys2Proof.Machine.execMdioGo r n v s
  | .mdioDone n a => Sys2Proof.Machine.execMdioDone n a s
  | .ethFrameDiscard n f => Sys2Proof.Machine.execEthFrameDiscard n f s
  | .arpFrame n f => Sys2Proof.Machine.execArpFrame n f s
  | .arpAge n ip => Sys2Proof.Machine.execArpAge n ip s
  | .arpRetry n => Sys2Proof.Machine.execArpRetry n s
  | .echoFrame n f => Sys2Proof.Machine.execEchoFrame n f s
  | .igmpFrame n f => Sys2Proof.Machine.execIgmpFrame n f s
  | .igmpReport n g => Sys2Proof.Machine.execIgmpReport n g s
  | .ptpSync n at_ f => Sys2Proof.Machine.execPtpSync n at_ f s
  | .announceFrame n f => Sys2Proof.Machine.execAnnounceFrame n f s
  | .announceTimeout n => Sys2Proof.Machine.execAnnounceTimeout n s
  | .ptpDelayMsg n at_ f => Sys2Proof.Machine.execPtpDelayMsg n at_ f s
  | .ptpTimer n k at_ => Sys2Proof.Machine.execPtpTimer n k at_ s
  | .ptpSyncTimeout n => Sys2Proof.Machine.execPtpSyncTimeout n s
  | .ptpCfgWrite r n bmc v => Sys2Proof.Machine.execPtpCfgWrite r n bmc v s
  | .ptpTimeWrite r n v => Sys2Proof.Machine.execPtpTimeWrite r n v s
  | .streamEnable r tx j v => Sys2Proof.Machine.execStreamEnable r tx j v s
  | .streamDisable r tx j v => Sys2Proof.Machine.execStreamDisable r tx j v s
  | .rtpReceive n f => Sys2Proof.Machine.execRtpReceive n f s
  | .streamStall j => Sys2Proof.Machine.execStreamStall j s
  | .streamPacketTx j => Sys2Proof.Machine.execStreamPacketTx j s
  | .streamSet q => Sys2Proof.Machine.execStreamSet q s
  | .streamClear q => Sys2Proof.Machine.execStreamClear q s
  | .streamQuery q => Sys2Proof.Machine.execStreamQuery q s
  | .pdmGoOn => Sys2Proof.Machine.execPdmGoOn s
  | .pdmSwitch => Sys2Proof.Machine.execPdmSwitch s
  | .pdmSettleEnd => Sys2Proof.Machine.execPdmSettleEnd s
  | .pdmClkFault g => Sys2Proof.Machine.execPdmClkFault g s
  | .micAbsent idx => Sys2Proof.Machine.execMicAbsent idx s
  | .micSat idx => Sys2Proof.Machine.execMicSat idx s
  | .micOk idx => Sys2Proof.Machine.execMicOk idx s
  | .pdmClrFlt r v => Sys2Proof.Machine.execPdmClrFlt r v s
  | .bzSample n v => Sys2Proof.Machine.execBzSample n v s
  | .knockRearm n => Sys2Proof.Machine.execKnockRearm n s
  | .scoutFrameEnd => Sys2Proof.Machine.execScoutFrameEnd s
  | .vadOff => Sys2Proof.Machine.execVadOff s
  | .sealTimeout => Sys2Proof.Machine.execSealTimeout s
  | .sctClose r v => Sys2Proof.Machine.execSctClose r v s
  | .sctStart r v => Sys2Proof.Machine.execSctStart r v s
  | .sctStop r v => Sys2Proof.Machine.execSctStop r v s
  | .sctMicWrite r v => Sys2Proof.Machine.execSctMicWrite r v s
  | .slotEnable r k v => Sys2Proof.Machine.execSlotEnable r k v s
  | .modelEccError k => Sys2Proof.Machine.execModelEccError k s
  | .modelLoadBegin q => Sys2Proof.Machine.execModelLoadBegin q s
  | .modelLoadData q => Sys2Proof.Machine.execModelLoadData q s
  | .modelLoadEnd q => Sys2Proof.Machine.execModelLoadEnd q s
  | .modelLoadErase q => Sys2Proof.Machine.execModelLoadErase q s
  | .ringRead q => Sys2Proof.Machine.execRingRead q s
  | .ainEnable r n v => Sys2Proof.Machine.execAinEnable r n v s
  | .ainSettled n => Sys2Proof.Machine.execAinSettled n s
  | .ainGainStep n => Sys2Proof.Machine.execAinGainStep n s
  | .ainClip n => Sys2Proof.Machine.execAinClip n s
  | .ainClipEnd n => Sys2Proof.Machine.execAinClipEnd n s
  | .ainOpen n ibias => Sys2Proof.Machine.execAinOpen n ibias s
  | .ainShort n ibias => Sys2Proof.Machine.execAinShort n ibias s
  | .ainShortRetry n => Sys2Proof.Machine.execAinShortRetry n s
  | .ainRecover n ibias => Sys2Proof.Machine.execAinRecover n ibias s
  | .ainDisable r n v => Sys2Proof.Machine.execAinDisable r n v s
  | .ainOff n => Sys2Proof.Machine.execAinOff n s
  | .loStart r n v => Sys2Proof.Machine.execLoStart r n v s
  | .loStartDone n => Sys2Proof.Machine.execLoStartDone n s
  | .loStop r n v => Sys2Proof.Machine.execLoStop r n v s
  | .loStopDone n => Sys2Proof.Machine.execLoStopDone n s
  | .loMute r n v => Sys2Proof.Machine.execLoMute r n v s
  | .loUnmute r n v => Sys2Proof.Machine.execLoUnmute r n v s
  | .loMuteDone n => Sys2Proof.Machine.execLoMuteDone n s
  | .loShort n => Sys2Proof.Machine.execLoShort n s
  | .loClr r n => Sys2Proof.Machine.execLoClr r n s
  | .hsEnable r n v => Sys2Proof.Machine.execHsEnable r n v s
  | .hsDisable r n v => Sys2Proof.Machine.execHsDisable r n v s
  | .jackDetChange n level => Sys2Proof.Machine.execJackDetChange n level s
  | .hsDebounceEnd n => Sys2Proof.Machine.execHsDebounceEnd n s
  | .hsClassifyEnd n zl zr f => Sys2Proof.Machine.execHsClassifyEnd n zl zr f s
  | .hsRemove n => Sys2Proof.Machine.execHsRemove n s
  | .hsOutShort n => Sys2Proof.Machine.execHsOutShort n s
  | .hsButtonEdge n f => Sys2Proof.Machine.execHsButtonEdge n f s
  | .hsButton n f => Sys2Proof.Machine.execHsButton n f s
  | .hsOutmute r n v mute => Sys2Proof.Machine.execHsOutmute r n v mute s
  | .ampStart r n v => Sys2Proof.Machine.execAmpStart r n v s
  | .ampStartDone n => Sys2Proof.Machine.execAmpStartDone n s
  | .ampStop r n v => Sys2Proof.Machine.execAmpStop r n v s
  | .ampStopDone n => Sys2Proof.Machine.execAmpStopDone n s
  | .fastStopDone n => Sys2Proof.Machine.execFastStopDone n s
  | .ampMute r n v => Sys2Proof.Machine.execAmpMute r n v s
  | .ampUnmute r n v => Sys2Proof.Machine.execAmpUnmute r n v s
  | .ampMuteDone n => Sys2Proof.Machine.execAmpMuteDone n s
  | .ampLimitRun n => Sys2Proof.Machine.execAmpLimitRun n s
  | .ampTrip n hard t => Sys2Proof.Machine.execAmpTrip n hard t s
  | .ampRetry n => Sys2Proof.Machine.execAmpRetry n s
  | .ampClr r n v => Sys2Proof.Machine.execAmpClr r n v s
  | .ampClear q => Sys2Proof.Machine.execAmpClear q s
  | .ampDcFault n dc => Sys2Proof.Machine.execAmpDcFault n dc s
  | .loopsat n => Sys2Proof.Machine.execLoopsat n s
  | .senseOpen n => Sys2Proof.Machine.execSenseOpen n s
  | .senseRecover n => Sys2Proof.Machine.execSenseRecover n s
  | .powerLimitUpdate n pm ipk => Sys2Proof.Machine.execPowerLimitUpdate n pm ipk s
  | .thermalUpdate t => Sys2Proof.Machine.execThermalUpdate t s
  | .ampOverTemp n t => Sys2Proof.Machine.execAmpOverTemp n t s
  | .ampOtRestart n t => Sys2Proof.Machine.execAmpOtRestart n t s
  | .boostPrechargeDone p => Sys2Proof.Machine.execBoostPrechargeDone p s
  | .boostPrechargeTimeout p vrail pvin => Sys2Proof.Machine.execBoostPrechargeTimeout p vrail pvin s
  | .boostHoldExpire p => Sys2Proof.Machine.execBoostHoldExpire p s
  | .boostOvp p => Sys2Proof.Machine.execBoostOvp p s
  | .boostOvpEnd p => Sys2Proof.Machine.execBoostOvpEnd p s
  | .railOvpTrip p => Sys2Proof.Machine.execRailOvpTrip p s
  | .railLow p vrail pvin => Sys2Proof.Machine.execRailLow p vrail pvin s
  | .boostClr r p => Sys2Proof.Machine.execBoostClr r p s
  | .pvinOut p pvin => Sys2Proof.Machine.execPvinOut p pvin s
  | .pvinOk p pvin => Sys2Proof.Machine.execPvinOk p pvin s
  | .pvinCollapse pvin => Sys2Proof.Machine.execPvinCollapse pvin s
  | .coreNop c => Sys2Proof.Machine.execCoreNop c s
  | .coreAdd c d x y => Sys2Proof.Machine.execCoreAdd c d x y s
  | .coreSub c d x y => Sys2Proof.Machine.execCoreSub c d x y s
  | .coreAdds c d x y => Sys2Proof.Machine.execCoreAdds c d x y s
  | .coreSubs c d x y => Sys2Proof.Machine.execCoreSubs c d x y s
  | .coreAnd c d x y => Sys2Proof.Machine.execCoreAnd c d x y s
  | .coreOr c d x y => Sys2Proof.Machine.execCoreOr c d x y s
  | .coreXor c d x y => Sys2Proof.Machine.execCoreXor c d x y s
  | .coreShl c d x k => Sys2Proof.Machine.execCoreShl c d x k s
  | .coreShr c d x k => Sys2Proof.Machine.execCoreShr c d x k s
  | .coreSar c d x k => Sys2Proof.Machine.execCoreSar c d x k s
  | .coreShls c d x k => Sys2Proof.Machine.execCoreShls c d x k s
  | .coreMin c d x y => Sys2Proof.Machine.execCoreMin c d x y s
  | .coreMax c d x y => Sys2Proof.Machine.execCoreMax c d x y s
  | .coreAbs c d x => Sys2Proof.Machine.execCoreAbs c d x s
  | .coreMul c d x y => Sys2Proof.Machine.execCoreMul c d x y s
  | .coreAddi c d x imm => Sys2Proof.Machine.execCoreAddi c d x imm s
  | .coreAndi c d x imm => Sys2Proof.Machine.execCoreAndi c d x imm s
  | .coreOri c d x imm => Sys2Proof.Machine.execCoreOri c d x imm s
  | .coreXori c d x imm => Sys2Proof.Machine.execCoreXori c d x imm s
  | .coreLui c d imm => Sys2Proof.Machine.execCoreLui c d imm s
  | .coreExp c d x => Sys2Proof.Machine.execCoreExp c d x s
  | .coreExpa c d a => Sys2Proof.Machine.execCoreExpa c d a s
  | .coreNorm c d y x => Sys2Proof.Machine.execCoreNorm c d y x s
  | .coreNorma c a d => Sys2Proof.Machine.execCoreNorma c a d s
  | .coreDivs c a x => Sys2Proof.Machine.execCoreDivs c a x s
  | .coreMva c d a part rnd => Sys2Proof.Machine.execCoreMva c d a part rnd s
  | .coreMvd c a x part => Sys2Proof.Machine.execCoreMvd c a x part s
  | .coreAccClr c a => Sys2Proof.Machine.execCoreAccClr c a s
  | .coreAccMov c a e => Sys2Proof.Machine.execCoreAccMov c a e s
  | .coreAccAdd c a e => Sys2Proof.Machine.execCoreAccAdd c a e s
  | .coreAccSub c a e => Sys2Proof.Machine.execCoreAccSub c a e s
  | .coreAccNeg c a e => Sys2Proof.Machine.execCoreAccNeg c a e s
  | .coreAccShift c a e imm => Sys2Proof.Machine.execCoreAccShift c a e imm s
  | .coreLd c d u m => Sys2Proof.Machine.execCoreLd c d u m s
  | .coreSt c x u m => Sys2Proof.Machine.execCoreSt c x u m s
  | .coreLdg c d u m => Sys2Proof.Machine.execCoreLdg c d u m s
  | .coreStg c x u m => Sys2Proof.Machine.execCoreStg c x u m s
  | .coreLdx c d u tsel imm => Sys2Proof.Machine.execCoreLdx c d u tsel imm s
  | .coreStx c x u tsel imm => Sys2Proof.Machine.execCoreStx c x u tsel imm s
  | .corePadv c u m => Sys2Proof.Machine.execCorePadv c u m s
  | .coreMvc c d reg => Sys2Proof.Machine.execCoreMvc c d reg s
  | .coreMvcs c x reg => Sys2Proof.Machine.execCoreMvcs c x reg s
  | .coreB c x y cond off => Sys2Proof.Machine.execCoreB c x y cond off s
  | .coreJmp c target => Sys2Proof.Machine.execCoreJmp c target s
  | .coreCall c target => Sys2Proof.Machine.execCoreCall c target s
  | .coreRet c => Sys2Proof.Machine.execCoreRet c s
  | .coreLoop c n len => Sys2Proof.Machine.execCoreLoop c n len s
  | .coreWait c x => Sys2Proof.Machine.execCoreWait c x s
  | .coreSigCore c k bits => Sys2Proof.Machine.execCoreSigCore c k bits s
  | .coreSigForager c bits => Sys2Proof.Machine.execCoreSigForager c bits s
  | .coreSigKeeper c bits => Sys2Proof.Machine.execCoreSigKeeper c bits s
  | .coreDone c => Sys2Proof.Machine.execCoreDone c s
  | .coreHalt c => Sys2Proof.Machine.execCoreHalt c s
  | .coreMac c m => Sys2Proof.Machine.execCoreMac c m s
  | .coreMsu c m => Sys2Proof.Machine.execCoreMsu c m s
  | .coreMpy c m => Sys2Proof.Machine.execCoreMpy c m s
  | .coreMacx c m => Sys2Proof.Machine.execCoreMacx c m s
  | .coreStart r c v => Sys2Proof.Machine.execCoreStart r c v s
  | .coreStop r c v => Sys2Proof.Machine.execCoreStop r c v s
  | .corePause r c v => Sys2Proof.Machine.execCorePause r c v s
  | .coreResume r c v => Sys2Proof.Machine.execCoreResume r c v s
  | .coreStep r c v => Sys2Proof.Machine.execCoreStep r c v s
  | .coreClrFlt r c v => Sys2Proof.Machine.execCoreClrFlt r c v s
  | .coreWatchdog c => Sys2Proof.Machine.execCoreWatchdog c s
  | .evtSetHost r c bits => Sys2Proof.Machine.execEvtSetHost r c bits s
  | .fabInTransfer => Sys2Proof.Machine.execFabInTransfer s
  | .fabInDone c => Sys2Proof.Machine.execFabInDone c s
  | .fabOutCheck => Sys2Proof.Machine.execFabOutCheck s
  | .frgGo r c v => Sys2Proof.Machine.execFrgGo r c v s
  | .memDone c => Sys2Proof.Machine.execMemDone c s
  | .frgAlloc r => Sys2Proof.Machine.execFrgAlloc r s
  | .frgFree r c v => Sys2Proof.Machine.execFrgFree r c v s
  | .wagStart r v => Sys2Proof.Machine.execWagStart r v s
  | .wagStop r v => Sys2Proof.Machine.execWagStop r v s
  | .odoEdge e => Sys2Proof.Machine.execOdoEdge e s
  | .odoWindow => Sys2Proof.Machine.execOdoWindow s
  | .deadReckonExpiry => Sys2Proof.Machine.execDeadReckonExpiry s
  | .fixTimeout => Sys2Proof.Machine.execFixTimeout s
  | .posFix q => Sys2Proof.Machine.execPosFix q s
  | .wagValueWrite r v => Sys2Proof.Machine.execWagValueWrite r v s
  | .waggleQuery q => Sys2Proof.Machine.execWaggleQuery q s
  | .cueWordWrite r k w v => Sys2Proof.Machine.execCueWordWrite r k w v s
  | .cueCommit r k v => Sys2Proof.Machine.execCueCommit r k v s
  | .cueFree r k v => Sys2Proof.Machine.execCueFree r k v s
  | .cueArm r k v => Sys2Proof.Machine.execCueArm r k v s
  | .cueDisarm r k v => Sys2Proof.Machine.execCueDisarm r k v s
  | .cueSet q => Sys2Proof.Machine.execCueSet q s
  | .cueClearFree q => Sys2Proof.Machine.execCueClearFree q s
  | .cueClearDisarm q => Sys2Proof.Machine.execCueClearDisarm q s
  | .deferredActions => Sys2Proof.Machine.execDeferredActions s
  | .clipStart q => Sys2Proof.Machine.execClipStart q s
  | .clipPrime q => Sys2Proof.Machine.execClipPrime q s
  | .clipStop q => Sys2Proof.Machine.execClipStop q s
  | .toneStart q => Sys2Proof.Machine.execToneStart q s
  | .clipQuery q => Sys2Proof.Machine.execClipQuery q s
  | .clipHeadArrive v sound => Sys2Proof.Machine.execClipHeadArrive v sound s
  | .voiceRefillDone v sound => Sys2Proof.Machine.execVoiceRefillDone v sound s
  | .clipEnd v => Sys2Proof.Machine.execClipEnd v s
  | .voiceFadeEnd v => Sys2Proof.Machine.execVoiceFadeEnd v s
  | .toneSegmentEnd g => Sys2Proof.Machine.execToneSegmentEnd g s
  | .sectorEraseDone log ok => Sys2Proof.Machine.execSectorEraseDone log ok s
  | .madcTimerTrigger n q => Sys2Proof.Machine.execMadcTimerTrigger n q s
  | .madcPwmTrigger n q => Sys2Proof.Machine.execMadcPwmTrigger n q s
  | .madcSwtrig r n mask v => Sys2Proof.Machine.execMadcSwtrig r n mask v s
  | .adcTrigger q => Sys2Proof.Machine.execAdcTrigger q s
  | .madcPassStart n cyc sofar x0 x1 => Sys2Proof.Machine.execMadcPassStart n cyc sofar x0 x1 s
  | .madcPassDone n codes => Sys2Proof.Machine.execMadcPassDone n codes s
  | .madcFifoRead r n => Sys2Proof.Machine.execMadcFifoRead r n s
  | .madcFlush r n v => Sys2Proof.Machine.execMadcFlush r n v s
  | .madcClrPlaus r v => Sys2Proof.Machine.execMadcClrPlaus r v s
  | .madcRefOk n => Sys2Proof.Machine.execMadcRefOk n s
  | .lsvEnable r v => Sys2Proof.Machine.execLsvEnable r v s
  | .lsvDisable r v => Sys2Proof.Machine.execLsvDisable r v s
  | .lsvWindow ms => Sys2Proof.Machine.execLsvWindow ms s
  | .lsvLearn r c v => Sys2Proof.Machine.execLsvLearn r c v s
  | .lsvQuery q => Sys2Proof.Machine.execLsvQuery q s
  | .selftestStart q => Sys2Proof.Machine.execSelftestStart q s
  | .selftestLearn q => Sys2Proof.Machine.execSelftestLearn q s
  | .selftestAbort q => Sys2Proof.Machine.execSelftestAbort q s
  | .selftestZone m => Sys2Proof.Machine.execSelftestZone m s
  | .boot p => Sys2Proof.Machine.execBoot p s
  | .imgBegin q => Sys2Proof.Machine.execImgBegin q s
  | .imgData erasing q => Sys2Proof.Machine.execImgData erasing q s
  | .imgCommit q => Sys2Proof.Machine.execImgCommit q s
  | .imgVerify q => Sys2Proof.Machine.execImgVerify q s
  | .imgVerifyDone sound => Sys2Proof.Machine.execImgVerifyDone sound s
  | .imgReboot => Sys2Proof.Machine.execImgReboot s
  | .imgSessionTimeout => Sys2Proof.Machine.execImgSessionTimeout s
  | .imgConfirm bad q => Sys2Proof.Machine.execImgConfirm bad q s
  | .otpProg r v => Sys2Proof.Machine.execOtpProg r v s
  | .otpProgDone sound => Sys2Proof.Machine.execOtpProgDone sound s
  | .otpRevoke r v => Sys2Proof.Machine.execOtpRevoke r v s
  | .bbxRecordWrite w => Sys2Proof.Machine.execBbxRecordWrite w s
  | .bbxMirrorPass ok => Sys2Proof.Machine.execBbxMirrorPass ok s
  | .bbxRead q => Sys2Proof.Machine.execBbxRead q s
  | .bbxPin q => Sys2Proof.Machine.execBbxPin q s
  | .bbxUnpin q => Sys2Proof.Machine.execBbxUnpin q s
  | .bbxUnpinAll q => Sys2Proof.Machine.execBbxUnpinAll q s
  | .eccScrub x => Sys2Proof.Machine.execEccScrub x s
  | .sensorPoll t0 t1 t2 t3 => Sys2Proof.Machine.execSensorPoll t0 t1 t2 t3 s
  | .supplyAlarm idx mv => Sys2Proof.Machine.execSupplyAlarm idx mv s
  | .senseGainCal n d => Sys2Proof.Machine.execSenseGainCal n d s
  | .telemetryFrame ts => Sys2Proof.Machine.execTelemetryFrame ts s
  | .telemetry q => Sys2Proof.Machine.execTelemetry q s
  | .swmChallenge q => Sys2Proof.Machine.execSwmChallenge q s
  | .swmRespond q => Sys2Proof.Machine.execSwmRespond q s
  | .swmSet q => Sys2Proof.Machine.execSwmSet q s
  | .swmStop q => Sys2Proof.Machine.execSwmStop q s
  | .swmRelock q => Sys2Proof.Machine.execSwmRelock q s
  | .swarmExpiry => Sys2Proof.Machine.execSwarmExpiry s
  | .idleTimer => Sys2Proof.Machine.execIdleTimer s
  | .escalation => Sys2Proof.Machine.execEscalation s
  | .pwrReqGo r v => Sys2Proof.Machine.execPwrReqGo r v s
  | .pwrRequest q => Sys2Proof.Machine.execPwrRequest q s
  | .pwrTolerance q => Sys2Proof.Machine.execPwrTolerance q s
  | .pwrQuery q => Sys2Proof.Machine.execPwrQuery q s
  | .entryPrepare => Sys2Proof.Machine.execEntryPrepare s
  | .drainTimeout => Sys2Proof.Machine.execDrainTimeout s
  | .entryCommit => Sys2Proof.Machine.execEntryCommit s
  | .wakeIn level => Sys2Proof.Machine.execWakeIn level s
  | .idleExit w => Sys2Proof.Machine.execIdleExit w s
  | .wakeSequence us => Sys2Proof.Machine.execWakeSequence us s
  | .wakeStepTimeout k => Sys2Proof.Machine.execWakeStepTimeout k s
  | .boostCurrentLimit p => Sys2Proof.Machine.execBoostCurrentLimit p s
  | .avbiasInRange => Sys2Proof.Machine.execAvbiasInRange s
  | .converterCalibration n g z hi lo => Sys2Proof.Machine.execConverterCalibration n g z hi lo s
  | .swarmRelease h => Sys2Proof.Machine.execSwarmRelease h s
  | .qualificationTimeout n => Sys2Proof.Machine.execQualificationTimeout n s

end Sys2Proof.Machine
end

