-- ==== Sys2Proof/Safety.lean ====
section
/-! DEFINITION. What the statements are phrased in: an access that is served, the canonical forms of the register file and
of memory, a core that can run an instruction, and the frame of a change of registers. -/

namespace Sys2Proof.Machine

/-- R26-R29, R34-R36, R74, R434: a direct write of a requester to an address is performed, and none of the rules that
refuse a write for every register of the page (LOCK, soft reset, an entry under way) does. The part may return from Idle
first (R426), so the page is looked at as `State.wakeFor` leaves it. -/
def served (s : State) (r : Req) (a : Nat) : Bool :=
  reaches s r && opened s r a && (writeBad (s.wakeFor a) a).isNone && !lockedOut (s.wakeFor a) a &&
    !resetting (s.wakeFor a) a && !entryBusy (s.wakeFor a) a

/-- R26-R29, R35: a direct read of a requester at an address is performed. -/
def readable (s : State) (r : Req) (a : Nat) : Bool :=
  reaches s r && opened s r a && (accessBad (s.wakeFor a) a).isNone && !(resetting (s.wakeFor a) a && !readsInReset a)

/-- R79-R82, R398, R434: a Plosto command that fails none of its own checks is executed: the service runs, the part is in Run or
Idle, its request is the one that arrived first of those that wait, RECOVERY serves the command, and no entry is under way. -/
def plServes (s : State) (cmd : Nat) (q : PlReq) : Bool :=
  s.sys.service && reaches s .keeper && nextReq s cmd q && (!s.sys.recovery || !assigned cmd || inRecovery cmd) && s.sys.entry.isNone

/-- R35, R46, R82: a Plosto command on a page passes the checks it meets before its own: the page's domain is on, the page is
not locked if the command changes it, and it is not in soft reset. -/
def pageServes (s : State) (page : Nat) (changes : Bool) : Bool :=
  (accessBad (s.wakeFor page) page).isNone && !(changes && (s.wakeFor page).isSet page F.PG_CTRL_LOCK) &&
    !(s.wakeFor page).isSet page F.PG_CTRL_SRST

/-- R77, R79, R80: a state after a Plosto command has been answered DONE with a payload. -/
def State.plDone (s : State) (cmd : Nat) (q : PlReq) (payload : List Byte) : State :=
  (s.freeReq q.via).deliver q.via (rspFrame cmd q.tag .done payload)

/-- R46, R47, R79: a state after a Plosto command has been refused: the page recorded it, and the answer bears the code. -/
def State.plRefuse (s : State) (page addr cmd : Nat) (q : PlReq) (c : Code) (payload : List Byte) : State :=
  ((s.refuse page cmd q.via.req addr c).freeReq q.via).deliver q.via (rspFrame cmd q.tag c payload)

/-- R197, R418: Swarm meets no unit: no rule is enabled, and it holds no frame and pulls no line. -/
def swarmQuiet (s : State) : Bool :=
  (List.range 8).all (fun r => !ruleOn s r) && s.swarm.held.isEmpty && s.swarm.pulls.isEmpty

/-- R302, R308, R309, R322: core `c` issues an instruction and meets no fault before it executes it: the core is RUNNING and its
clock runs, its PC lies in program memory, the word there has no uncorrectable error, and the instruction is legal on it. -/
def issues (s : State) (c : Nat) (i : CoreInstr) : Bool :=
  coreLive s c && decide (0 ≤ (s.core c).pc ∧ (s.core c).pc < pmWords c) &&
    !s.bad.contains (pmBase c + 4 * (s.core c).pc.toNat) && i.legal c

/-- R302: the interlock cycles of an instruction. -/
def stalls (s : State) (c : Nat) (i : CoreInstr) : Nat :=
  (if (i.srcs (grpSize c)).any (s.core c).loaded.contains then 1 else 0) +
    (if i.taken.any (s.core c).summed.contains then 1 else 0)

/-- R302: the state `t` after core `c` has retired an instruction of `n` cycles and its interlocks: CYC counts them, and the core
knows what the instruction loaded and summed. -/
def State.retired (s : State) (c : Nat) (i : CoreInstr) (n : Nat) (t : State) : State :=
  let u := t.onCore c fun k => { k with loaded := i.loads (grpSize c), summed := i.sums (grpSize c) }
  u.set64 (P.core c + 0x54) (u.get64 (P.core c + 0x54) + BitVec.ofNat 64 (n + stalls s c i))

/-- R302, R307: the state `t` after core `c` has retired an instruction of one cycle and gone on to the next. -/
def State.passed (s : State) (c : Nat) (i : CoreInstr) (t : State) : State := s.retired c i 1 (t.onCore c (CoreHid.advance 1))

/-- R302, R307: the state `t` after core `c` has retired a transfer of control to a target, which ends the loops around it that
do not hold the target. -/
def State.went (s : State) (c : Nat) (i : CoreInstr) (dest : Int) (t : State) : State :=
  s.retired c i 3 (t.onCore c fun k => { k with loops := loopsFor dest k.loops, pc := dest })

/-- The outcome of the last register access. -/
def State.answered (s : State) (c : Code) : State := { s with rcode := c }

/-- The outcome and the word of the last register read. -/
def State.answeredWith (s : State) (w : Word) (c : Code) : State := { s with rdata := w, rcode := c }

/-- The register file is in canonical form from address `lo`: addresses strictly rising, no entry equal to the register's
reset value. -/
def regsWfFrom : Nat → List (Nat × Word) → Bool
  | _, [] => true
  | lo, (a, w) :: t => decide (lo ≤ a) && w != regReset a && regsWfFrom (a + 1) t

/-- The canonical form of the register file. -/
abbrev regsWf (l : List (Nat × Word)) : Prop := regsWfFrom 0 l = true

/-- The form every state keeps: the register file and memory are canonical, there are 20 cores, and no core holds more than eight
return addresses or four loops (R285, R307, R308). -/
def State.inForm (s : State) : Prop :=
  regsWf s.regs ∧ Memory.wf s.mem = true ∧ s.cores.length = 20 ∧ ∀ k ∈ s.cores, k.calls.length ≤ 8 ∧ k.loops.length ≤ 4

/-- Nothing but the register file differs between two states, and there no register but those listed. -/
def onlyRegs (l : List Nat) (s t : State) : Prop := t = { s with regs := t.regs } ∧ ∀ a, a ∉ l → t.rd a = s.rd a

end Sys2Proof.Machine
end

