-- ==== Sys2Proof/Certificates/Slice0/Obligations.lean ====
section
/-! DEFINITION. The statements for the provers: each def states rules of the manual about the model. -/

section
open Sys2Proof Sys2Proof.Machine

/-- A step takes the command at the front of the queue and runs it on the state with the queue's rest. On an empty queue the block
idles, which is the model's choice (log entry 2). -/
def Obligations.StepRunsTheFrontCommand : Prop :=
  (∀ (c : Instr) (s : State), step { s with pending := c :: s.pending } = exec c s) ∧
    (∀ s : State, s.pending = [] → step s = .next s)

/-- R7, R19, R31, R34, R37, R320: what a power-on reset leaves: nothing waits; SYS_RST_CAUSE shows POR alone and every other register
its table's reset value; the pages that reset enabled are SYS, PWR, CLK, SPI, TW0, KPR, BBX, NRS and FLS; every page's fault events are
enabled and none of its notices; IRQ_N may assert; every core holds zeros and no call or loop; and the state has the form that
steps keep. -/
def Obligations.ResetLeavesTheTablesValues : Prop :=
  State.reset.pending = [] ∧ State.reset.rd 0x000050 = 1#32 ∧ (∀ a, a ≠ 0x000050 → State.reset.rd a = regReset a) ∧
    (∀ p : Fin 77, State.reset.en (pageOfIndex p) =
      ([P.sys, P.pwr, P.clk, P.spi, P.tw 0, P.kpr, P.bbx, P.nrs, P.fls] : List Nat).contains (pageOfIndex p)) ∧
    (∀ p : Fin 77, State.reset.rd (pageOfIndex p + 0x010) = 0xFF000000#32) ∧
    State.reset.rd 0x000058 = 1#32 ∧
    (∀ c : Fin 20, (∀ i, (State.reset.core c).dr i = 0) ∧ (∀ i, (State.reset.core c).ac i = 0) ∧ (State.reset.core c).sr = 0 ∧
      (State.reset.core c).calls = [] ∧ (State.reset.core c).loops = []) ∧
    State.reset.inForm

/-- R285, R307, R308 and the canonical forms of the register file and of memory: whatever command a step runs, and in whatever state
that has the form, the state after it has it: the register file and memory are canonical, there are 20 cores, no core holds more than
eight return addresses or four loops. -/
def Obligations.StepsKeepTheForm : Prop :=
  ∀ s t : State, s.inForm → step s = .next t → t.inForm

/-- R303-R305: decoding the word of an instruction gives the instruction, for every instruction of the cores and every value of its
operands, so no bit of an operand is dropped and no two instructions share a word. -/
def Obligations.CoreWordsRoundTrip : Prop :=
  (∀ i : CoreInstr, decodeCore (encodeCore i) = some i) ∧
    (∀ w : Word, (0x30 ≤ (w >>> 26).toNat ∨ ((w >>> 26).toNat ≤ 0x2F ∧ (w >>> 26).toNat ≠ 0x15 ∧ (w >>> 26).toNat ≠ 0x1D ∧
      (w >>> 26).toNat ≠ 0x2D)) → (decodeCore w).isSome) ∧
    (∀ w : Word, (w >>> 26).toNat = 0x15 → decodeCore w = none)

/-- R26, R28, R29, R36, R46, R47: a write that a port brings to the register file: one to an address that cannot be accessed is
not performed, and SYS_BADADDR records it with its reason; one to a locked page is refused, with LOCKED unless a check that comes
before LOCK fails; a served one has the effect and the outcome that the register gives, and a refusal is recorded on the page. -/
def Obligations.WritesAreServedRefusedOrNotPerformed : Prop :=
  ∀ (s : State) (r : Req) (a : BitVec 24) (v : Word), let n := a.toNat; let t := s.wakeFor n; let o := regWrite r n v t
    (∀ why, reaches s r → opened s r n → writeBad t n = some why →
      let c := if lockedOut t n then lockCode why.code else why.code
      exec (.registerWrite r a v) s =
        .next (((((t.dropCommit r n).badAccess true why r n).refuseOwned r 0xFF n c).answered c).srstDue)) ∧
    (reaches s r → opened s r n → writeBad t n = none → lockedOut t n →
      exec (.registerWrite r a v) s =
        .next ((((t.dropCommit r n).refuseAt r 0xFF n (lockCode o.1)).answered (lockCode o.1)).srstDue)) ∧
    (∀ c, (checkRank c < checkRank .locked → lockCode c = c) ∧ (checkRank .locked ≤ checkRank c → lockCode c = .locked)) ∧
    (served s r n → o.1 = .done → exec (.registerWrite r a v) s = .next ((o.2.answered .done).srstDue)) ∧
    (served s r n → o.1 ≠ .done →
      exec (.registerWrite r a v) s = .next (((o.2.refuseAt r 0xFF n o.1).answered o.1).srstDue))

/-- R4, R22: a word of a frame that is written over a port reads back as written, and no other byte of memory, no register and
no unit changes. -/
def Obligations.FrameWordsAreStored : Prop :=
  ∀ (s : State) (r : Req) (a : BitVec 24) (v : Word) (k off : Nat), let n := a.toNat; let t := s.wakeFor n
    Memory.wf s.mem → served s r n → regionOf n = .frame k off → t.ports.spi.srstNext = false →
    ∃ u, exec (.registerWrite r a v) s = .next u ∧ wordAt u.mem n = v ∧
      (∀ b, b < n ∨ n + 4 ≤ b → byteAt u.mem b = byteAt s.mem b) ∧
      u = { t with mem := u.mem, bad := t.bad.filter fun b => b != n, rcode := .done }

/-- R32, R37, R39, R40, R43, R44: the header of every page obeys its writes: EVT_RAW loses the bits written 1, and a bit that
hardware sets in the same clock stays; EVT_FORCE sets bits as their conditions would; a clearable counter takes 0, and a count in
the same clock makes it 1; SNAP takes and releases a snapshot. -/
def Obligations.HeaderWritesAct : Prop :=
  ∀ (s : State) (r : Req) (p : Fin 77), let pg := pageOfIndex p
    (∀ bits hw, let t := s.wakeFor (pg + 0x00C); let x := (t.wr (pg + 0x00C) (t.rd (pg + 0x00C) &&& ~~~ bits)).answered .done
      served s r (pg + 0x00C) → exec (.eventClear r p bits hw) s =
        .next (if live x pg then x.wr (pg + 0x00C) (x.rd (pg + 0x00C) ||| hw) else x)) ∧
    (∀ bits, let t := s.wakeFor (pg + 0x018)
      served s r (pg + 0x018) → exec (.evtForce r p bits) s = .next ((t.force pg p bits).answered .done)) ∧
    (∀ (a : BitVec 24) v hit, let t := s.wakeFor (pg + 0x020); let x := (t.wr (pg + 0x020) 0).answered .done
      a.toNat = pg + 0x020 → served s r (pg + 0x020) →
      exec (.counterClear r a v hit) s = .next (if hit && live x (pg + 0x020) then x.count (pg + 0x020) else x)) ∧
    (∀ clr, let t := s.wakeFor (pg + 0x024)
      served s r (pg + 0x024) → exec (.snapTake r p clr) s = .next ((t.snapTake pg clr).answered .done)) ∧
    (served s r (pg + 0x024) → let t := s.wakeFor (pg + 0x024)
      exec (.snapRelease r p) s = .next ((t.snapRelease pg).answered .done))

/-- R34, R35, R36, R74, R75: PG_CTRL of every page. PAGE_LOCK sets LOCK. BLOCK_ENABLE gives EN its value, and a write that changes
nothing does nothing; disabling the port that a requester speaks through, or a boost whose pair is not off, is refused with STATE.
SOFT_RESET stops the block, and resets the page's registers and shows RESETTING, at once or, where an output still sounds, when that
has ended; a boost's is refused while its pair is not off. SOFT_RESET_DONE ends it: SRST reads 0, a page of no state beside its
enable is READY or OFF, and PG_STAT.READY is set. -/
def Obligations.PagesAreEnabledLockedAndReset : Prop :=
  ∀ (s : State) (r : Req) (p : Fin 77) (row : PageRow) (inst : Nat), let pg := pageOfIndex p; let t := s.wakeFor (pg + 0x004)
    let busy := row.kind = .bst ∧ pairOff t inst = false
    rowOf pg = some (row, inst) →
    (served s r (pg + 0x004) → exec (.pageLock r p) s = .next ((t.setF pg F.PG_CTRL_LOCK 1).answered .done)) ∧
    (∀ en, served s r (pg + 0x004) →
      (t.en pg = en → exec (.blockEnable r p en) s = .next (t.answered .done)) ∧
      (t.en pg = !en → ¬(en = false ∧ (speaksBy r row.kind inst ∨ busy)) → exec (.blockEnable r p en) s = .next ((if en then
          blockOn row.kind inst (blockShow row.kind inst pg (t.setF pg F.PG_CTRL_EN 1))
        else blockShow row.kind inst pg (blockOff row.kind inst (t.setF pg F.PG_CTRL_EN 0))).answered .done)) ∧
      (t.en pg → en = false → speaksBy r row.kind inst ∨ busy →
        exec (.blockEnable r p en) s = .next ((t.refuseAt r 0xFF (pg + 0x004) .state).answered .state))) ∧
    (served s r (pg + 0x004) → busy →
      exec (.softReset r p) s = .next ((((t.refuseAt r 0xFF (pg + 0x004) .state).answered .state)).srstDue)) ∧
    (served s r (pg + 0x004) → ¬busy → row.kind = .spi → r = .spi → exec (.softReset r p) s =
      .next (softReset .spi 0 P.spi ((t.onSpi fun x => { x with srstNext := false }).answered .done))) ∧
    (served s r (pg + 0x004) → ¬busy → ¬(row.kind = .spi ∧ r = .spi) →
      exec (.softReset r p) s = .next (((softReset row.kind inst pg t).answered .done).srstDue)) ∧
    (∀ u, (outputLive row.kind inst u = false → softReset row.kind inst pg u = softShow pg (softClear row.kind inst pg u)) ∧
      (outputLive row.kind inst u → softReset row.kind inst pg u = ((softStop row.kind inst u).setF pg F.PG_CTRL_SRST 1).onSys
        fun y => { y with muting := pg :: y.muting.filter (· != pg) })) ∧
    (∀ (u : State) (a : Nat), regsWf u.regs →
      (pageClear pg u).rd a = if ownerBase a = some pg then softValue a (u.rd a) else u.rd a) ∧
    (∀ u, regsWf u.regs → let x := softShow pg u
      x.isSet pg F.PG_CTRL_SRST ∧ x.st pg = 1 ∧ x.isSet pg F.PG_STAT_READY = false) ∧
    (s.isSet pg F.PG_CTRL_SRST = false → exec (.softResetDone p) s = .next s) ∧
    (s.isSet pg F.PG_CTRL_SRST → s.sys.muting.contains pg = false →
      exec (.softResetDone p) s = .next (softResetEnd row.kind inst pg s)) ∧
    (s.isSet pg F.PG_CTRL_SRST → s.sys.muting.contains pg → outputLive row.kind inst s →
      exec (.softResetDone p) s = .next s) ∧
    (s.isSet pg F.PG_CTRL_SRST → s.sys.muting.contains pg → outputLive row.kind inst s = false →
      exec (.softResetDone p) s = .next (softResetEnd row.kind inst pg (softShow pg (softClear row.kind inst pg
        (s.onSys fun y => { y with muting := y.muting.filter (· != pg) }))))) ∧
    (∀ u, regsWf u.regs → row.kind ∈ [.sys, .spi, .bbx, .nrs, .swm, .asrc, .bst, .frm] → let x := softResetEnd row.kind inst pg u
      x.isSet pg F.PG_CTRL_SRST = false ∧ x.st pg = (if u.en pg then 2 else 0) ∧ x.isSet pg F.PG_STAT_READY)

/-- R41, R42, R168, R338, R377: 64-bit quantities. A write of a _LO register is held for its requester, and one of a read-only
quantity is ignored; a write of a _HI register has what its register says, and ETH_n_MAC_HI and WAG_VALUE_HI change both halves at once,
with the half held for the pair: the first is STATE while the link runs, the second takes effect in the next period while the ride
runs, and is STATE while the ride follows the fabric. A read of a _LO register captures the upper half for a
requester that has a shadow, and the read of the _HI register after it returns the capture and empties it; a capture of another pair stays,
which is the model's choice (log entry 76). A read of MADC_n_FIFO gives up its oldest word, and an empty FIFO gives 0xC0000000. -/
def Obligations.WideQuantitiesAndFifosMove : Prop :=
  (∀ (s : State) (r : Req) (a : BitVec 24) (v : Word), let n := a.toNat; let t := s.wakeFor n; let o := regWrite r n v t
     (∀ e ∈ [(Instr.writeLoHold r a v, isLo n), (.writeHiCommit r a v, isHi n)],
       (e.2 = false → exec e.1 s = .next s) ∧
       (e.2 → served s r n → o.1 = .done → exec e.1 s = .next (o.2.answered .done)) ∧
       (e.2 → served s r n → o.1 ≠ .done → exec e.1 s = .next ((o.2.refuseAt r 0xFF n o.1).answered o.1))) ∧
     (∀ row inst off, regionOf n = .page row inst off → isLo n → served s r n → exec (.writeLoHold r a v) s = .next
       ((if pairWritable row.kind off then { t with holds := alSet t.holds (holdKey r n) (n, v) } else t).answered .done)) ∧
     (∀ k : Fin 4, n = P.eth k + 0x48 → served s r n →
       (t.st (P.eth k) ≤ 2 → exec (.writeHiCommit r a v) s = .next
         (((t.set64 (P.eth k + 0x44) ((pairValue t r n v) &&& 0xFFFFFFFFFFFF#64)).dropHold r n).answered .done)) ∧
       (2 < t.st (P.eth k) → exec (.writeHiCommit r a v) s = .next ((t.refuseAt r 0xFF n .state).answered .state))) ∧
     (n = P.wag + 0x50 → served s r n →
       (t.wag.run = false → exec (.writeHiCommit r a v) s =
         .next ((setV (t.dropHold r n) (valueRat (pairValue t r n v))).answered .done)) ∧
       (t.wag.run → wagSrc t = 2 → exec (.writeHiCommit r a v) s = .next ((t.refuseAt r 0xFF n .state).answered .state)) ∧
       (t.wag.run → wagSrc t ≠ 2 → exec (.writeHiCommit r a v) s =
         .next (((t.dropHold r n).onWag fun w => { w with setv := some (pairValue t r n v) }).answered .done))) ∧
     (∀ w, alGet t.holds (holdKey r n) = some (n - 4, w) → pairValue t r n v = v.append w) ∧
     (isLo n = false → exec (.readLoShadow r a) s = .next s) ∧ (isHi n = false → exec (.readHiShadow r a) s = .next s) ∧
     (isLo n → readable s r n → hasShadow r → exec (.readLoShadow r a) s =
       .next (({ t with shadows := alSet t.shadows (holdKey r n) (n, shownWord t r (n + 4)) }).answeredWith (shownWord t r n) .done)) ∧
     (isHi n → isLo n = false → readable s r n → hasShadow r →
       (∀ w, alGet t.shadows (holdKey r n) = some (n - 4, w) →
         exec (.readHiShadow r a) s = .next (({ t with shadows := alDel t.shadows (holdKey r n) }).answeredWith w .done)) ∧
       (∀ b w, b ≠ n - 4 → alGet t.shadows (holdKey r n) = some (b, w) →
         exec (.readHiShadow r a) s = .next (t.answeredWith (shownWord t r n) .done)) ∧
       (alGet t.shadows (holdKey r n) = none → exec (.readHiShadow r a) s = .next (t.answeredWith (shownWord t r n) .done))) ∧
     (readable s r n → hasShadow r = false → t.bad.contains n = false →
       n ≠ P.tw 0 + 0x4C → n ≠ P.madc 0 + 0x50 → n ≠ P.madc 1 + 0x50 →
       (isLo n → exec (.readLoShadow r a) s = .next (t.answeredWith (shownWord t r n) .done)) ∧
       (isHi n → exec (.readHiShadow r a) s = .next (t.answeredWith (shownWord t r n) .done)))) ∧
  (∀ (s : State) (r : Req) (n : Fin 2), let a := P.madc n + 0x50; let t := s.wakeFor a
     readable s r a → t.bad.contains a = false →
     ((t.conv n).fifo = [] → exec (.madcFifoRead r n) s = .next (t.answeredWith 0xC0000000 .done)) ∧
     (∀ w l, (t.conv n).fifo = w :: l → exec (.madcFifoRead r n) s =
       .next ((t.onMadc n fun m => { m with fifo := l }).answeredWith w .done)))

/-- R49-R57, R74, R78, R80: a frame of the host for this device. A READ sends 0x5A and the words it fetched, with a CRC when
SPI_CFG.CRC is set, or 0xA5 when the fetch takes too long (log entry 76: once a wait byte has been clocked the words are listed as
sent). A WRITE is applied; one whose CRC fails is not, one that ends short is ABORTED after the words that came whole, and one with
bytes beyond COUNT is RANGE. A COUNT outside 1 to 64 is RANGE, and a frame that ends before COUNT is ABORTED, or CHECK with CRC
framing. A request frame that passes its checks waits in the mailbox, one that meets a waiting request is BUSY and counts, one that
fails its CRC is answered CHECK, and one of another version UNKNOWN. A response is sent, and freed when it is read whole; STATUS
sends the code of the last frame; another opcode is UNKNOWN. A frame for a sleeping device wakes it; one for another device is left
alone. The end of a frame shows its status, its opcode and its code, and counts CHECK, ABORTED and UNKNOWN in ERR_CNT. -/
def Obligations.SpiFramesAreServed : Prop :=
  ∀ (s : State) (d : Byte) (args : List Byte), let t := spiState 3 s; let st := spiStatus s; let n := field args 3 1
    let a := field args 0 3; let words := toWords ((args.drop 4).take (4 * n)); let crc := t.isSet P.spi F.SPI_CFG_CRC
    let short (op : Nat) (c : Code) (x : State) := spiEnd st op ⟨[], c, (x.bump P.spi F.SPI_SHORT_CNT_COUNT).raise P.spi 4⟩
    let bad (c : Code) := spiEnd st 0x30 ⟨[], c, (t.bump P.spi F.SPI_CRC_CNT_COUNT).raise P.spi 2⟩
    let o := applyWords .spi words a t; let silent := s.onSpi fun x => { x with miso := [] }
    (dselHit s d → reaches s .spi →
      (4 ≤ args.length → 1 ≤ n → n ≤ 64 → let o := fetchWords .spi n a t
        exec (.spiRead d args) s = .next (spiEnd st 0x20 ⟨if args.length = 4 then [] else 0x5A :: wordsBytes o.1 ++ (if crc then
          [crc8 (d :: 0x20 :: args.take 4 ++ wordsBytes o.1)] else []), o.2.1, o.2.2⟩)) ∧
      (args.length < 4 → exec (.spiRead d args) s = .next (short 0x20 .aborted t) ∧
        exec (.spiReadTimeout d args) s = .next (short 0x20 .aborted t)) ∧
      (4 ≤ args.length → n = 0 ∨ 64 < n → exec (.spiRead d args) s = .next (spiEnd st 0x20 ⟨[], .range, t⟩) ∧
        exec (.spiReadTimeout d args) s = .next (spiEnd st 0x20 ⟨[], .range, t⟩)) ∧
      (4 ≤ args.length → 1 ≤ n → n ≤ 64 → exec (.spiReadTimeout d args) s = .next (spiEnd st 0x20 ⟨[0xA5], .timeout, t⟩)) ∧
      (crc = false →
        (args.length < 4 → exec (.spiWrite d args) s = .next (short 0x30 .aborted t)) ∧
        (4 ≤ args.length → n = 0 ∨ 64 < n → exec (.spiWrite d args) s = .next (spiEnd st 0x30 ⟨[], .range, t⟩)) ∧
        (4 ≤ args.length → 1 ≤ n → n ≤ 64 →
          (args.length < 4 + 4 * n → exec (.spiWrite d args) s = .next (short 0x30 .aborted o.2)) ∧
          (4 + 4 * n < args.length → exec (.spiWrite d args) s = .next (short 0x30 .range o.2)) ∧
          (args.length = 4 + 4 * n → exec (.spiWrite d args) s = .next (spiEnd st 0x30 ⟨[], o.1, o.2⟩)))) ∧
      (crc →
        (args.length < 4 → exec (.spiWrite d args) s = .next (bad .check)) ∧
        (4 ≤ args.length → n = 0 ∨ 64 < n → exec (.spiWrite d args) s = .next (bad .range)) ∧
        (1 ≤ n → n ≤ 64 → args.length = 5 + 4 * n → crc8 (d :: 0x30 :: args.take (4 + 4 * n)) = (args.drop (4 + 4 * n)).headD 0 →
          exec (.spiWrite d args) s = .next (spiEnd st 0x30 ⟨[], o.1, o.2⟩)) ∧
        (4 ≤ args.length → 1 ≤ n → n ≤ 64 →
          args.length ≠ 5 + 4 * n ∨ crc8 (d :: 0x30 :: args.take (4 + 4 * n)) ≠ (args.drop (4 + 4 * n)).headD 0 →
          exec (.spiWrite d args) s = .next (bad .check))) ∧
      (t.sys.service = false → exec (.spiPlostoReq d args) s = .next (spiEnd st 0x40 ⟨[], .busy, t⟩)) ∧
      (t.sys.service → t.ports.spi.mb.req = none →
        (∀ c g p, frameCheck args = .good c g p → exec (.spiPlostoReq d args) s = .next (spiEnd st 0x40
          ⟨[], .done, (t.onSpi fun x => { x with mb := { x.mb with req := some (c, g, p) } }).arrive c ⟨.spi, g, p⟩⟩)) ∧
        (∀ c g, frameCheck args = .check c g → exec (.spiPlostoReq d args) s = .next (spiEnd st 0x40
          ⟨[], .done, (t.refuse P.kpr c .plostoSpi 0 .check).putSpiRsp (rspFrame c g .check [])⟩)) ∧
        (∀ c g, frameCheck args = .badVer c g → exec (.spiPlostoReq d args) s = .next (spiEnd st 0x40
          ⟨[], .done, (t.refuse P.kpr c .plostoSpi 0 .unknown).putSpiRsp (rspFrame c g .unknown [])⟩))) ∧
      (t.sys.service → t.ports.spi.mb.req.isSome → exec (.spiPlostoReq d args) s = .next (spiEnd st 0x40
        ⟨[], .busy, (t.bump P.spi F.SPI_OVR_CNT_COUNT).raise P.spi 1⟩)) ∧
      (∀ k, exec (.spiPlostoRsp d k) s = .next (spiEnd st 0x41
        ⟨rspBytes t.ports.spi.mb k, .done, t.onSpi fun x => { x with mb := readRsp x.mb k }⟩)) ∧
      exec (.spiStatus d) s = .next (spiEnd st 0x50 ⟨[BitVec.ofNat 8 (t.getF P.spi F.SPI_LAST_CODE)], .done, t⟩) ∧
      (∀ op, op ≠ 0x20#8 → op ≠ 0x30#8 → op ≠ 0x40#8 → op ≠ 0x41#8 → op ≠ 0x50#8 → exec (.spiUnknownOpcode d op) s =
        .next (spiEnd st op.toNat ⟨[], .unknown, t.refuse P.spi 0xFF .spi 0 .unknown⟩))) ∧
    (dselHit s d → asleep s → exec (.spiWakeMatch d) s = .next (silent.wakeBy 2 1 false)) ∧
    (dselHit s d = false ∨ asleep s = false → exec (.spiWakeMatch d) s = .next s) ∧
    (∀ k op, (op ≠ 0x20#8 ∧ op ≠ 0x30#8 ∧ op ≠ 0x40#8 ∧ op ≠ 0x41#8 ∧ op ≠ 0x50#8) →
      let rows := [Instr.spiRead d args, .spiReadTimeout d args, .spiWrite d args, .spiPlostoReq d args, .spiPlostoRsp d k,
        .spiStatus d, .spiUnknownOpcode d op]
      (dselHit s d = false → ∀ i ∈ rows, exec i s = .next silent) ∧
      (dselHit s d → reaches s .spi = false → asleep s → ∀ i ∈ rows, exec i s = .next (silent.wakeBy 2 1 false))) ∧
    (∀ op (f : FrameEnd), let last := BitVec.ofNat 32 (op * 0x100 + f.code.num)
      let u := (f.st.onSpi fun x => { x with miso := st :: f.out }).wr (P.spi + 0x44) last
      spiEnd st op f = (spiState 2 (if spiErr f.code then u.err P.spi else u)).srstDue)

/-- R51, R60-R67, R75, R80: TW0's commands. A command of a write phase that is complete is held until the phase passes, an incomplete
one is marked so, a COUNT outside 1 to 64 or a byte that is no command code is refused without an acknowledge, and STOP with PEC
disabled applies what is held. A read phase sends the words at the pointer, which stays within its 24 bits and moves by the words
acknowledged; a Plosto command hands over a request or sends the response held; STATUS sends the status byte, after the commands
before it were applied, and the last code; a fetch that takes too long sends zeros; SCL held low for 25 ms is a time-out; a protocol
error that outlasts the glitch filter is counted and ends the transaction ABORTED, and a shorter pulse is ignored. A port that is not
served takes nothing. -/
def Obligations.TwoWireTargetCommandsAct : Prop :=
  ∀ (s : State) (args : List Byte),
    let held (op : Nat) (l : List Byte) (c : TwCmd) := (twOpen s op l).onTw0 fun p => { p with held := p.held ++ [c] }
    let fetch (op : Nat) (l : List Byte) (n : Nat) := let u := twTurn (twOpen s op l); (u, twFetch n (twPtr u.2) u.2)
    let refused (x : State) (c : Code) := twEnd ((twNack x).refuse (P.tw 0) 0xFF .tw0 0 c) c
    let spoiled (x : State) := let y := dropPartial x
      twEnd (((if pecOn y then y else (twCommit y).2).raise (P.tw 0) 1).bump (P.tw 0) F.TW_PROTO_CNT_COUNT) .aborted
    (twServed s →
      (3 ≤ args.length → exec (.twSetAddr args .more) s = .next (held 0x10 (args.take 3) (.setAddr (field args 0 3)))) ∧
      (args.length < 3 → exec (.twSetAddr args .more) s = .next (held 0x10 (args.take 3) (.aborted 0x10))) ∧
      (4 ≤ args.length → exec (.twWriteWord args .more) s = .next (held 0x30 (args.take 4) (.write (toWords (args.take 4))))) ∧
      (args.length < 4 → exec (.twWriteWord args .more) s = .next (held 0x30 (args.take 4) (.aborted 0x30))) ∧
      (exec (.twWriteBlock [] .more) s = .next (held 0x31 [] (.aborted 0x31))) ∧
      (∀ n d, 1 ≤ n.toNat → n.toNat ≤ 64 → exec (.twWriteBlock (n :: d) .more) s =
        .next (held 0x31 (n :: d.take (4 * n.toNat)) (if 4 * n.toNat ≤ d.length then .write (toWords (d.take (4 * n.toNat)))
          else .aborted 0x31))) ∧
      (∀ n d, n.toNat = 0 ∨ 64 < n.toNat → exec (.twWriteBlock (n :: d) .more) s = .next (refused (twOpen s 0x31 [n]) .range)) ∧
      (∀ b, twCode b = false → ∀ i ∈ [Instr.twSetAddr args (.noCode b), .twWriteWord args (.noCode b),
        .twWriteBlock args (.noCode b), .twPlosto args (.noCode b) 0], exec i s = .next (refused (twOpen s b.toNat []) .unknown)) ∧
      (∀ b, let x := held 0x30 (args.take 4) (.write (toWords (args.take 4))); 4 ≤ args.length → twPartial x = false →
        twCode b = false → exec (.twWriteWord args (.badCode b)) s = .next (refused (twOpen x b.toNat []) .unknown)) ∧
      (let x := held 0x30 (args.take 4) (.write (toWords (args.take 4)));
        4 ≤ args.length → twPartial x = false →
        (pecOn x = false → exec (.twWriteWord args (.stop none)) s = .next (twEnd (twCommit x).2 (twCommit x).1)) ∧
        (pecOn x → exec (.twWriteWord args (.stop none)) s = .next (twEnd x .check))) ∧
      (∀ k, let f := fetch 0x20 [] 1; let t := f.2.2.2
        exec (.twReadWord k) s = .next (twSend (clocked (withPec t (wordsBytes f.2.1)) k) (firstBad f.1.1 f.2.2.1)
          (setPtr t (twPtr f.1.2 + 4 * (if pecOn t = false ∧ k + 1 = 4 then 1 else min 1 (k / 4)))))) ∧
      (∀ n l k, let f := fetch 0x21 [n] n.toNat; let t := f.2.2.2
        1 ≤ n.toNat → n.toNat ≤ 64 → exec (.twReadBlock (n :: l) k) s = .next (twSend (clocked (withPec t (wordsBytes f.2.1)) k)
          (firstBad f.1.1 f.2.2.1)
          (setPtr t (twPtr f.1.2 + 4 * (if pecOn t = false ∧ k + 1 = 4 * n.toNat then n.toNat else min n.toNat (k / 4)))))) ∧
      (∀ n l k, n.toNat = 0 ∨ 64 < n.toNat → exec (.twReadBlock (n :: l) k) s = .next (refused (twOpen s 0x21 [n]) .range)) ∧
      (∀ k, exec (.twReadBlock [] k) s = .next (spoiled (twOpen s 0x21 []))) ∧
      (args ≠ [] → exec (.twPlosto args .more 0) s = .next (held 0x40 args (.plosto args))) ∧
      exec (.twPlosto [] .more 0) s = .next (held 0x40 [] (.aborted 0x40)) ∧
      (∀ k, 0 < k → let u := twTurn (twOpen s 0x40 [])
        (u.2.ports.tw0.mb.rsp = none → exec (.twPlosto [] .more k) s = .next (twSend (List.replicate k 0) u.1
          (u.2.onTw0 fun p => { p with mb := readRsp u.2.ports.tw0.mb k }))) ∧
        (∀ f, u.2.ports.tw0.mb.rsp = some f → exec (.twPlosto [] .more k) s = .next (twSend (clocked (withPec u.2 f) (k - 1)) u.1
          (u.2.onTw0 fun p => { p with mb := readRsp u.2.ports.tw0.mb k })))) ∧
      (let code := s.getF (P.tw 0) F.TW_LAST_CODE; let u := twTurn (twOpen s 0x50 []);
        exec .twStatus s =
          .next (twSend (withPec u.2 [statusByte u.2 (code != 0) u.2.ports.tw0.mb, BitVec.ofNat 8 code]) u.1 u.2)) ∧
      (∀ n, 1 ≤ n → n ≤ 64 → let u := (twTurn (twOpen s (if n = 1 then 0x20 else 0x21) (if n = 1 then [] else [BitVec.ofNat 8 n]))).2
        exec (.twFetchTimeout n) s =
          .next (twSend (withPec u (List.replicate (4 * n) 0)) .timeout (u.bump (P.tw 0) F.TW_TMO_CNT_COUNT))) ∧
      (∀ n, n = 0 ∨ 64 < n → exec (.twFetchTimeout n) s = .next s) ∧
      exec .sclTmo s = .next (twEnd ((s.bump (P.tw 0) F.TW_TMO_CNT_COUNT).raise (P.tw 0) 3) .timeout) ∧
      (∀ n, twGlitch s ≤ n → exec (.twProto n) s = .next (spoiled s)) ∧
      (∀ n, n < twGlitch s → exec (.twProto n) s = .next s)) ∧
    (twServed s = false → ∀ e k n, ∀ i ∈ [Instr.twSetAddr args e, .twReadWord k, .twReadBlock args k, .twWriteWord args e,
      .twWriteBlock args e, .twPlosto args e k, .twStatus, .twFetchTimeout n, .sclTmo, .twProto n], exec i s = .next s) ∧
    (∀ x c, let u := x.setF (P.tw 0) F.TW_LAST_CODE c.num; twEnd x c = twOver (if c = .done then u else u.err (P.tw 0)))

/-- R61, R62: the commands of a TW0 write phase are applied in order: SET_ADDR moves the pointer, a word is written at the pointer
and moves it by four within its 24 bits, and the status of the phase is that of the first command that was not DONE. -/
def Obligations.WritePhasesAreAppliedInOrder : Prop :=
  ∀ (s : State) (c : TwCmd) (cs : List TwCmd) (w : Word) (ws : List Word),
    twApply [] s = (.done, s) ∧
    twApply (c :: cs) s = (if (twApplyOne c s).1 = .done then (twApply cs (twApplyOne c s).2).1 else (twApplyOne c s).1,
      (twApply cs (twApplyOne c s).2).2) ∧
    (∀ a, twApplyOne (.setAddr a) s = (.done, s.setF (P.tw 0) F.TW_PTR_ADDR (a % 0x1000000))) ∧
    (let o := directWrite .tw0 (twPtr s) w s; let x := twApplyOne (.write ws) (setPtr o.2 (twPtr s + 4));
      twApplyOne (.write (w :: ws)) s = (if o.1 = .done then x.1 else o.1, x.2))

/-- R56, R68-R71, R75, R76: TW1. GO queues a slot, and is refused with RANGE for a length above 64, with STATE while the port is off
or in FAULT, and with BUSY while the slot is queued or on the bus. The first slot queued starts; its transfer sends the target's
address, the bytes of the slot and the PEC the slot asks for, and its end frees the bus with its outcome: the bytes read in the
slot's buffer, CHECK where the PEC read does not fit, ABSENT for an address and ABORTED for a byte that is not acknowledged, both
counted. A lost arbitration is retried as often as TW_1_CFG says, then is BUSY; a target that holds SCL low is a fault; a bus-clear
frees SDA, or is tried again, the fourth time the last. NBYTES of a slot that ends BUSY or TIMEOUT is the model's (log entry 76). -/
def Obligations.TwoWireControllerActs : Prop :=
  ∀ s : State,
    (∀ (r : Req) (k : Fin 4) (v : Word), let a := xfBase k + 0x200; let w := setField v 31 31 1; let t := s.wakeFor a
      served s r a →
      (64 < getField w 14 8 ∨ 64 < getField w 6 0 → exec (.tw1Go r k v) s = .next ((t.refuseAt r 0xFF a .range).answered .range)) ∧
      (getField w 14 8 ≤ 64 → getField w 6 0 ≤ 64 →
        (tw1St t = 0 ∨ tw1St t = 5 → exec (.tw1Go r k v) s = .next ((t.refuseAt r 0xFF a .state).answered .state)) ∧
        (tw1St t ≠ 0 → tw1St t ≠ 5 → xfBusy t k → exec (.tw1Go r k v) s = .next ((t.refuseAt r 0xFF a .busy).answered .busy)) ∧
        (tw1St t ≠ 0 → tw1St t ≠ 5 → xfBusy t k = false →
          exec (.tw1Go r k v) s = .next (((((t.store a w).setF (xfBase k) F.XF_CTRL_GO 1).setF (xfBase k) F.XF_STAT_SLOT 1).onTw1
            fun p => { p with queue := p.queue ++ [k.val], by_ := alSet p.by_ k (r, 0xFF) }).answered .done)))) ∧
    (∀ k rest, s.ports.tw1.queue = k :: rest →
      let go := tw1St s = 2 ∧ s.domOn .keeper ∧ s.sys.held = false; let first := s.ports.tw1.dirty ∧ s.ports.tw1.sda = false
      let n := s.getF (P.tw 1) F.TW_CFG_ARB_RETRY
      (go → ¬first → exec .tw1Transfer s = .next (((s.onTw1 fun p =>
        { p with queue := rest, active := some k, retries := n, waiting := false, dirty := false, sent := [] }).setF (xfBase k)
        F.XF_STAT_SLOT 2).setSt (P.tw 1) 3)) ∧
      (go → first → exec .tw1Transfer s = .next (clearBegin s false)) ∧
      (¬go → exec .tw1Transfer s = .next s)) ∧
    (s.ports.tw1.queue = [] → exec .tw1Transfer s = .next s) ∧
    (∀ k, s.ports.tw1.active = some k → tw1St s = 3 → s.ports.tw1.waiting = false →
      let w := s.getF (xfBase k) F.XF_CTRL_WLEN; let r := s.getF (xfBase k) F.XF_CTRL_RLEN
      let pec := s.isSet (xfBase k) F.XF_CTRL_PEC; let ended (x : State) := (tw1Free x).setSt (P.tw 1) 2
      let nack (l : List Byte) (c : Code) (m : Nat) := ended (xfEnd (((xfBus s l 0).bump (P.tw 1) F.TW_NACK_CNT_COUNT).raise
        (P.tw 1) 5) k c m)
      (∀ l c, let read := (l ++ List.replicate r 0).take r
        let t := xfFill (xfBus s (xfSends s k) (r + (if r ≠ 0 ∧ pec then 1 else 0))) k read
        exec (.tw1TransferDone (.answered l c)) s = .next (ended (if pec = false ∨ r = 0 ∨ crc8 (xfSends s k ++ read) = c
          then xfEnd t k .done (w + r)
          else xfEnd ((t.bump (P.tw 1) F.TW_PEC_CNT_COUNT).raise (P.tw 1) 2) k .check (w + r)))) ∧
      (r ≠ 0 → exec (.tw1TransferDone (.addrNack true)) s = .next (nack (xfSends s k) .absent w)) ∧
      (exec (.tw1TransferDone (.addrNack false)) s = .next (nack ((xfWritten s k).take 1) .absent 0)) ∧
      (∀ n, exec (.tw1TransferDone (.dataNack n)) s = .next (nack ((if r = 0 then xfSends s k else xfWritten s k).take (n + 2))
        .aborted (min n w))) ∧
      (let t := (s.bump (P.tw 1) F.TW_ARB_CNT_COUNT).raise (P.tw 1) 4;
        (s.ports.tw1.retries = 0 → exec .arbLost s = .next (ended (xfEnd t k .busy 0))) ∧
        (0 < s.ports.tw1.retries → exec .arbLost s = .next (t.onTw1 fun p => { p with waiting := true }))) ∧
      exec .sclStuck s = .next (tw1Fault ((tw1Free (xfEnd s k .timeout 0)).onTw1 fun p => { p with scl := false })
        F.TW_BUS_SCL_STUCK 25)) ∧
    (s.ports.tw1.active = none ∨ tw1St s ≠ 3 ∨ s.ports.tw1.waiting →
      ∀ o, ∀ i ∈ [Instr.tw1TransferDone o, .arbLost, .sclStuck], exec i s = .next s) ∧
    (∀ k, xfWritten s k = BitVec.ofNat 8 (2 * s.getF (xfBase k) F.XF_CTRL_TADDR) ::
      (wordsBytes ((List.range 16).map fun i => s.rd (xfBase k + 0x240 + 4 * i))).take (s.getF (xfBase k) F.XF_CTRL_WLEN)) ∧
    (∀ k, xfSends s k = xfWritten s k ++ (if s.getF (xfBase k) F.XF_CTRL_RLEN ≠ 0 then
        [BitVec.ofNat 8 (2 * s.getF (xfBase k) F.XF_CTRL_TADDR + 1)]
      else if s.isSet (xfBase k) F.XF_CTRL_PEC then [crc8 (xfWritten s k)] else [])) ∧
    (tw1St s = 3 → s.ports.tw1.waiting → exec .tw1ArbRetry s =
      .next (s.onTw1 fun p => { p with waiting := false, retries := p.retries - 1 })) ∧
    (tw1St s ≠ 3 ∨ s.ports.tw1.waiting = false → exec .tw1ArbRetry s = .next s) ∧
    (∀ (r : Req) (b : BusClear), let t := s.wakeFor (P.tw 1 + 0x48); let u := (clearBegin t false).setF (P.tw 1) F.TW_CTRL_BUSCLR 1
      served s r (P.tw 1 + 0x48) →
      (tw1St s ≠ 4 → tw1St t = 2 → exec (.tw1Busclr r b) s =
        .next (if tw1St u = 4 then clearTry (u.answered .done) b else u.answered .done)) ∧
      (tw1St s ≠ 4 → tw1St t = 0 ∨ tw1St t = 5 →
        exec (.tw1Busclr r b) s = .next ((t.refuseAt r 0xFF (P.tw 1 + 0x48) .state).answered .state)) ∧
      (tw1St t = 3 ∨ (tw1St s = 4 ∧ tw1St t = 4) →
        exec (.tw1Busclr r b) s = .next ((t.refuseAt r 0xFF (P.tw 1 + 0x48) .busy).answered .busy))) ∧
    (∀ (r : Req) (b : BusClear), let t := s.wakeFor (P.tw 1 + 0x48)
      let u := (clearBegin t true).setF (P.tw 1) F.TW_CTRL_CLR_FAULT 1
      served s r (P.tw 1 + 0x48) →
      (tw1St s ≠ 4 → tw1St t = 5 → exec (.tw1ClrFault r b) s =
        .next (if tw1St u = 4 then clearTry (u.answered .done) b else u.answered .done)) ∧
      (tw1St t ≠ 5 → tw1St s = 4 ∨ tw1St t ≠ 4 →
        exec (.tw1ClrFault r b) s = .next ((t.refuseAt r 0xFF (P.tw 1 + 0x48) .state).answered .state))) ∧
    (∀ b, let t := s.onTw1 fun p => { p with sda := false, scl := true }
      let go := (tw1St s = 2 ∨ (tw1St s = 3 ∧ s.ports.tw1.waiting)) ∧ s.domOn .keeper ∧ s.sys.held = false
      (go → exec (.tw1SdaLowDetect b) s = .next (clearTry (clearBegin t false) b)) ∧
      (¬go → exec (.tw1SdaLowDetect b) s = .next t)) ∧
    (tw1St s = 4 →
      (let u := (clearEnd s).onTw1 fun p => { p with sda := true, scl := true, dirty := false };
        exec (.busClearRetry .freed) s = .next ((if s.ports.tw1.clrFault then ((u.setF (P.tw 1) F.TW_BUS_BUS_STUCK 0).setF (P.tw 1)
          F.TW_BUS_SCL_STUCK 0).setF (P.tw 1) F.PG_STAT_FAULT 0 else u).setSt (P.tw 1) (if s.ports.tw1.active.isSome then 3 else 2))) ∧
      (let u := s.onTw1 fun p => { p with sda := false, clears := p.clears + 1 }
       let ended := forEach (s.ports.tw1.active.toList ++ s.ports.tw1.queue) (fun k s => xfEnd s k .timeout 0) u;
        (s.ports.tw1.clears < 3 → exec (.busClearRetry .stuck) s = .next u) ∧
        (3 ≤ s.ports.tw1.clears → exec (.busClearRetry .stuck) s =
          .next (tw1Fault (clearEnd (tw1Free (ended.onTw1 fun p => { p with queue := [] }))) F.TW_BUS_BUS_STUCK 24)))) ∧
    (∀ b, tw1St s ≠ 4 → exec (.busClearRetry b) s = .next s)

/-- R79, R83-R85, R28, R29: the Plosto commands of chapter 03, on a device that serves them: PING answers who the device is; READ
answers its words, and with the first check in R46's order when a word fails one; WRITE applies every word or, when one is refused,
none, and answers its index; MODIFY changes the bits of its mask and answers the word before; EVENTS answers what is pending; a payload
of another layout is RANGE; a code not assigned is UNKNOWN. R81: a request that is not the next to be executed is not executed, and one
whose service has ended is gone; R398: in RECOVERY a command that it does not serve is refused with STATE; R434: while an entry is under
way a command that would be done is BUSY. -/
def Obligations.PlostoCommandsAct : Prop :=
  ∀ (s : State) (q : PlReq), let p := q.payload; let r := q.via.req; let a := field p 0 4; let n := field p 4 2
    let range (x : State) (b : Nat) (cmd : Nat) := x.plRefuse P.kpr (b % 0x1000000) cmd q .range []
    (plServes s 0x01 q → (p = [] → exec (.ping q) s = .next (s.plDone 0x01 q (wordBytes (s.rd (P.sys + 0x40)) ++
        leBytes 8 Config.uid.toNat ++ leBytes 8 s.ports.udp.nonce.toNat ++ [statusOf s q.via]))) ∧
      (p ≠ [] → exec (.ping q) s = .next (range s 0 0x01))) ∧
    (plServes s 0x02 q →
      (p.length = 6 → a ≤ 0xFFFFFF → 1 ≤ n → n ≤ 61 → let o := plReadWords r n a s
        exec (.read q) s = .next (match worst o.1 with
          | none => o.2.plDone 0x02 q (wordsBytes (o.1.map fun e => e.2.1))
          | some (b, c) => o.2.plRefuse (refusePage b) (refuseAddr b) 0x02 q c [])) ∧
      (p.length ≠ 6 ∨ 0xFFFFFF < a ∨ n = 0 ∨ 61 < n → exec (.read q) s = .next (range s (if p.length = 6 then a else 0) 0x02))) ∧
    (plServes s 0x03 q →
      (p.length = 8 + 4 * n → a ≤ 0xFFFFFF → 1 ≤ n → n ≤ 59 → field p 6 2 = 0 →
        let ws := toWords (p.drop 8); let u := wakeWords n a s
        exec (.write q) s = .next (match plWriteWords r ws 0 a u with
          | .inl t => (stamp 0x03 r (dropHolds r t)).plDone 0x03 q []
          | .inr (i, b, c) => let x := plRefused r b (ws.getD i 0) c (leBytes 2 i) u
            x.st.plRefuse x.page x.addr 0x03 q c x.payload)) ∧
      (p.length < 8 ∨ 0xFFFFFF < a ∨ n = 0 ∨ 59 < n ∨ field p 6 2 ≠ 0 ∨ p.length ≠ 8 + 4 * n →
        exec (.write q) s = .next (range s (if p.length < 8 then 0 else a) 0x03))) ∧
    (plServes s 0x04 q →
      (p.length = 12 → a ≤ 0xFFFFFF → let m := BitVec.ofNat 32 (field p 4 4); let u := s.wakeFor a
        let o := plReadWord r a u; let v := (o.1 &&& ~~~ m) ||| (BitVec.ofNat 32 (field p 8 4) &&& m)
        let w := plWriteWord r a v o.2.2; let x := plRefused r a v w.1 [] u
        (o.2.1 ≠ .done → exec (.modify q) s = .next (o.2.2.plRefuse (refusePage a) (refuseAddr a) 0x04 q o.2.1 [])) ∧
        (o.2.1 = .done → w.1 = .done →
          exec (.modify q) s = .next ((stamp 0x04 r (dropHolds r w.2)).plDone 0x04 q (wordBytes o.1))) ∧
        (o.2.1 = .done → w.1 ≠ .done → exec (.modify q) s = .next (x.st.plRefuse x.page x.addr 0x04 q w.1 []))) ∧
      (p.length ≠ 12 ∨ 0xFFFFFF < a → exec (.modify q) s = .next (range s (if p.length = 12 then a else 0) 0x04))) ∧
    (plServes s 0x05 q →
      (p = [] → exec (.events q) s = .next (s.plDone 0x05 q (wordsBytes ((List.range 3).map (irqPend s) ++
        (List.range 3).map (fltPend s)) ++ (pendingPages s).flatMap fun i =>
          leBytes 2 i ++ wordBytes (evtPend s (pageOfIndex i))))) ∧
      (p ≠ [] → exec (.events q) s = .next (range s 0 0x05))) ∧
    (∀ cmd : Byte, plServes s cmd.toNat q → assigned cmd.toNat = false → exec (.plostoUnknown cmd q) s =
      .next (s.plRefuse P.kpr 0 cmd.toNat q .unknown [])) ∧
    (∀ cmd : Byte, assigned cmd.toNat → exec (.plostoUnknown cmd q) s = .next s) ∧
    (∀ b v c l, let o := plWriteWord r b v s
      plRefused r b v c l s = ⟨c, l, refusePage b, refuseAddr b, if o.1 = .done then s else dropHolds r o.2⟩) ∧
    (∀ (cmd : Nat) (body : State → PlAns),
      (s.sys.service = false ∨ reaches s .keeper = false → runPlosto cmd q body s = s.freeReq q.via) ∧
      (s.sys.service → reaches s .keeper → nextReq s cmd q = false → runPlosto cmd q body s = s) ∧
      (s.sys.service → reaches s .keeper → nextReq s cmd q → s.sys.recovery → assigned cmd → inRecovery cmd = false →
        runPlosto cmd q body s = s.plRefuse P.kpr 0 cmd q .state []) ∧
      (s.sys.service → reaches s .keeper → nextReq s cmd q → s.sys.recovery = false → s.sys.entry.isSome →
        (body s).code = .done → runPlosto cmd q body s = s.plRefuse (body s).page (body s).addr cmd q .busy []))

/-- R88, R90, R91: KEY_SET replaces or deletes a key, over a port only, and is AUTH over UDP; NONCE_RENEW answers a random nonce, which
takes its place once the answer has left, and clears the records of every key; a payload of another layout is RANGE. -/
def Obligations.KeysAndNonceAreRenewed : Prop :=
  ∀ (s : State) (q : PlReq), let p := q.payload; let t := s.wakeFor P.kpr; let n := Config.random64 t.free
    (plServes s 0x06 q → pageServes s P.kpr false →
      (q.via.req ≠ .plostoUdp → p.length = 36 → field p 0 1 ≤ 3 → field p 1 3 = 0 → exec (.keySet q) s =
        .next ((t.onUdp fun u =>
          let rest := u.keys.filter fun k => k.idx != field p 0 1
          { u with keys := if (p.drop 4).all (· == 0) then rest else rest ++ [⟨field p 0 1, p.drop 4, none, []⟩] }).plDone 0x06 q [])) ∧
      (q.via.req ≠ .plostoUdp → p.length ≠ 36 ∨ 3 < field p 0 1 ∨ field p 1 3 ≠ 0 →
        exec (.keySet q) s = .next (t.plRefuse P.kpr 0 0x06 q .range [])) ∧
      (q.via.req = .plostoUdp → exec (.keySet q) s = .next (t.plRefuse P.kpr 0 0x06 q .auth []))) ∧
    (plServes s 0x07 q → pageServes s P.kpr false →
      (p = [] → exec (.nonceRenew q) s = .next (nonceTake
        (({ t.onUdp (fun u => { u with renew := some n }) with free := t.free + 1 } : State).plDone 0x07 q (leBytes 8 n.toNat)))) ∧
      (p ≠ [] → exec (.nonceRenew q) s = .next (nonceTake (t.plRefuse P.kpr 0 0x07 q .range [])))) ∧
    (∀ m, s.ports.udp.renew = some m → nonceTake s = s.onUdp fun u =>
      { u with nonce := m, renew := none, keys := u.keys.map fun k => { k with seq := none, stored := [] } }) ∧
    (s.ports.udp.renew = none → nonceTake s = s)

/-- R77, R78: a request frame of the protocol, whatever its command, tag and payload of up to 244 bytes, passes the transport
checks and yields exactly those; one whose version is another is UNKNOWN. -/
def Obligations.RequestFramesRoundTrip : Prop :=
  ∀ (cmd : Byte) (tag : BitVec 16) (p : List Byte), p.length ≤ 244 →
    let b (ver : Byte) := [ver, cmd] ++ leBytes 2 tag.toNat ++ leBytes 2 p.length ++ [0#8, 0#8] ++ p
    frameCheck (b 1 ++ wordBytes (crc32 (b 1))) = .good cmd.toNat tag p ∧
    (∀ ver, ver ≠ 1 → frameCheck (b ver ++ wordBytes (crc32 (b ver))) = .badVer cmd.toNat tag)

/-- R36, R46, R312-R319: the Forager. A channel is allocated, the lowest free one first, and freed; GO starts a transfer that passes its
checks, in R46's order, and a start that fails one is refused with it. A transfer that is done leaves the channel IDLE with its outcome,
which is LOCKED where a locked page refused a word, SEALED or CHECK where what it read is, and DONE otherwise, and signals its core.
FAB_IN channels copy a block's sinks when the block begins, and a core that they serve gets BLOCK; FAB_OUT channels are checked as the
block ends, and a core that one names without DONE is late. Where nothing is due, nothing changes. -/
def Obligations.ForagerMovesBlocks : Prop :=
  ∀ (s : State) (r : Req) (c : Fin 32),
    (let a := P.frg + 0x40; let t := s.wakeFor a
      served s r a →
      (frgOn t = false → exec (.frgAlloc r) s = .next ((t.refuseAt r 0xFF a .state).answered .state)) ∧
      (frgOn t →
        (∀ k, ((List.range 32).find? fun c => !t.isSet (frgBase c) F.FRG_CTRL_ALLOC) = some k → exec (.frgAlloc r) s =
          .next ((frgUsed (((setFrg (t.setF (frgBase k) F.FRG_CTRL_ALLOC 1) k 1).setF P.frg F.FRG_ALLOC_VALID 1).setF P.frg
            F.FRG_ALLOC_CHAN k)).answered .done)) ∧
        (((List.range 32).find? fun c => !t.isSet (frgBase c) F.FRG_CTRL_ALLOC) = none → exec (.frgAlloc r) s =
          .next ((t.refuseAt r 0xFF a .full).answered .full)))) ∧
    (∀ v, let a := frgBase c + 0x400; let t := s.wakeFor a; let w := setField v 30 30 1; let m := getField w 29 28
      let u := t.wr a ((t.rd a &&& 0x48000000#32) ||| (w &&& 0xB0FF0000#32))
      let held := t.isSet (frgBase c) F.FRG_CTRL_EN || frgSt t c == 2
      let arm : Code := if bit w 31 ∧ m ≠ 0 ∧ held = false then fabCheck u c m else .done
      let k := memCheck u c
      let code : Code := if m = 3 ∨ (20 ≤ getField w 23 19 ∧ getField w 23 19 ≤ 30) ∨ getField w 18 16 = 7 then .range
        else if arm = .range ∨ arm = .locked then arm
        else if m ≠ frgMode t c ∧ held then .state
        else if k = .locked ∨ k = .range then k
        else if frgSt u c = 0 ∨ frgMode u c ≠ 0 ∨ frgOn u = false then .state
        else if k ≠ .done then k
        else if frgSt u c = 2 ∨ u.sys.entry.isSome then .busy
        else if bit w 26 then .state else .done
      served s r a →
      (code = .done → exec (.frgGo r c v) s = .next (((setFrg u c 2).onDsp fun d =>
        { d with starter := alSet d.starter c.val (r, u.sct.closes, 0xFF) }).answered .done)) ∧
      (code ≠ .done → exec (.frgGo r c v) s = .next ((t.refuseAt r 0xFF a code).answered code))) ∧
    (∀ v, let a := frgBase c + 0x400; let t := s.wakeFor a; let w := setField (setField v 30 30 0) 26 26 1; let m := getField w 29 28
      let u := t.wr a ((t.rd a &&& 0x48000000#32) ||| (w &&& 0xB0FF0000#32))
      let held := t.isSet (frgBase c) F.FRG_CTRL_EN || frgSt t c == 2
      let arm : Code := if bit w 31 ∧ m ≠ 0 ∧ held = false then fabCheck u c m else .done
      let code : Code := if m = 3 ∨ (20 ≤ getField w 23 19 ∧ getField w 23 19 ≤ 30) ∨ getField w 18 16 = 7 then .range
        else if arm = .range ∨ arm = .locked then arm
        else if frgSt t c = 0 ∨ held ∨ arm ≠ .done ∨ (bit w 31 ∧ frgOn t = false) then .state else .done
      served s r a →
      (code = .done → exec (.frgFree r c v) s = .next ((frgUsed (setFrg ((u.setF (frgBase c) F.FRG_CTRL_EN 0).setF (frgBase c)
        F.FRG_CTRL_ALLOC 0) c 0)).answered .done)) ∧
      (code ≠ .done → exec (.frgFree r c v) s = .next ((t.refuseAt r 0xFF a code).answered code))) ∧
    (frgSt s c = 2 → frgOn s → let o := copyBursts s ((frgStarter s c).2.1 == s.sct.closes) (bursts s c)
      let dests := burstDests (bursts s c)
      let code := if dests.any (lockedOut s) then .locked else frgOutcome o.2
      let x := (frgEnd (frgLocked (frgNote o.1 c o.2 code) (.forager c) dests) c code).raise P.frg 0
      exec (.memDone c) s = .next (match frgCore x c with
        | some k => evtSet x k (1#32 <<< (1 + x.getF (frgBase c) F.FRG_CTRL_EVTBIT))
        | none => x)) ∧
    (frgSt s c ≠ 2 ∨ frgOn s = false → exec (.memDone c) s = .next s) ∧
    (∀ o, let x := (setFrg s c 1).setF (frgBase c) F.FRG_STAT_CODE o.num; let b := frgStarter s c
      frgEnd s c o = if o = .done then x else x.refuse P.frg (if b.1 = .forager c then 0 else b.2.2) b.1 (frgBase c + 0x400) o) ∧
    (let t := s.onDsp fun d => { d with inDue := false }
     let go := s.dsp.inDue ∧ frgOn s ∧ s.sys.mode = .run;
      (go → s.sys.entry = none →
        exec .fabInTransfer s = .next (forEach (fabChans s 1) (fun c u => fabInOne u c (blkOf s)) t)) ∧
      (go → s.sys.entry.isSome → exec .fabInTransfer s = .next t) ∧ (¬go → exec .fabInTransfer s = .next s)) ∧
    (∀ k : Fin 20, ((s.core k).owes → exec (.fabInDone k) s = .next (evtSet (s.onCore k fun x => { x with owes := false }) k 1)) ∧
      ((s.core k).owes = false → exec (.fabInDone k) s = .next s)) ∧
    (let cs := fabChans s 2; let t := s.onDsp fun d => { d with outDue := false, checked := true }
     let late := (List.range 20).filter fun k => !(s.core k).done && cs.any fun c => frgCore s c == some k
     let go := s.dsp.outDue ∧ frgOn s ∧ s.sys.mode = .run;
      (go → exec .fabOutCheck s = .next (forEach late (fun k x => coreLate x k)
        (forEach ((List.finRange 32).filter fun c => cs.contains c.val) (fun c x => fabOutOne x c (blkOf s)) t))) ∧
      (¬go → exec .fabOutCheck s = .next s))

/-- R15, R93-R101: what the direct writes of the crosspoint window do. The map word is held for its requester, and a write of the
gain word commits with it and uses it up: an entry that is FREE is created, one in the table has its gain or its source changed, DEL
releases it. A commit is refused, and changes no entry, that names a source or a sink that is none (RANGE), another sink than the
entry's, a pair that is joined already or a FREE entry without a map word (STATE), or a sink that has 64 (FULL). An accepted change takes effect with the next period: a new entry
ramps from mute, a gain from where it stands, a source crossfades in the entry, a removed one is in RELEASE, or FREE at once where
the ramp is of no samples. -/
def Obligations.CrosspointWritesCommit : Prop :=
  ∀ (s : State) (r : Req) (k : Fin 8192) (v : Word),
    (let a := 0x020000 + 8 * k.val; let t := s.wakeFor a
      served s r a → exec (.xpMapWrite r k v) s =
        .next (({ t with holds := alSet t.holds ⟨r, P.cmb⟩ (a, v) } : State).answered .done)) ∧
    (let a := 0x020004 + 8 * k.val; let w := setField v 28 28 0; let t := s.wakeFor a
      let u : State := { t with holds := alDel t.holds ⟨r, P.cmb⟩ }
      let c := getField w 11 0; let n := getField w 15 12
      (∀ m, served s r a → heldMap t r k = some m → xpSeen t k = none → let src := getField m 9 0; let sink := getField m 19 10
        (badSource src = false → badSink sink = false → findXp t src sink = none →
          ((contribs t sink).length < 64 →
            exec (.xpGainWrite r k v) s = .next ((xpCreate (clampNote u c) k src sink (clampCode c) n).answered .done)) ∧
          (64 ≤ (contribs t sink).length → exec (.xpGainWrite r k v) s = .next ((u.refuseAt r 0xFF a .full).answered .full))) ∧
        (badSource src = false → badSink sink = false → findXp t src sink ≠ none →
          exec (.xpGainWrite r k v) s = .next ((u.refuseAt r 0xFF a .state).answered .state)) ∧
        (badSource src ∨ badSink sink →
          exec (.xpGainWrite r k v) s = .next ((u.refuseAt r 0xFF a .range).answered .range))) ∧
      (served s r a → heldMap t r k = none → xpSeen t k = none →
        exec (.xpGainWrite r k v) s = .next ((t.refuseAt r 0xFF a .state).answered .state)) ∧
      (∀ e, served s r a → heldMap t r k = none → xpSeen t k = some e →
        exec (.xpGainWrite r k v) s = .next ((xpRegain (clampNote t c) k e.sink (clampCode c) n).answered .done)) ∧
      (∀ e m, served s r a → heldMap t r k = some m → xpSeen t k = some e → let src := getField m 9 0; let sink := getField m 19 10
        (badSource src ∨ badSink sink →
          exec (.xpGainWrite r k v) s = .next ((u.refuseAt r 0xFF a .range).answered .range)) ∧
        (badSource src = false → badSink sink = false →
          (sink = e.sink → src = e.src →
            exec (.xpGainWrite r k v) s = .next ((xpRegain (clampNote u c) k e.sink (clampCode c) n).answered .done)) ∧
          (sink = e.sink → src ≠ e.src → findXp t src sink = none → exec (.xpGainWrite r k v) s =
            .next ((xpResource (clampNote u c) k e.sink src (clampCode c) n).answered .done)) ∧
          (sink ≠ e.sink ∨ (src ≠ e.src ∧ findXp t src sink ≠ none) →
            exec (.xpGainWrite r k v) s = .next ((u.refuseAt r 0xFF a .state).answered .state))))) ∧
    (let a := 0x020004 + 8 * k.val; let w := setField v 28 28 1; let t := s.wakeFor a
      ∀ m, served s r a → heldMap t r k = m →
      let u : State := if m.isSome then { t with holds := alDel t.holds ⟨r, P.cmb⟩ } else t
      (∀ e, xpSeen t k = some e →
        exec (.xpDelWrite r k v) s = .next ((xpRelease u k e.sink (getField w 15 12)).answered .done)) ∧
      (xpSeen t k = none → exec (.xpDelWrite r k v) s = .next ((u.refuseAt r 0xFF a .state).answered .state))) ∧
    (∀ (u : State) (ch : XpChange), u.comb.due = [] → let x := u.accept (.xp k ch)
      x.comb.xps = u.comb.xps ∧ (combTake x).comb.xps = putXp u.comb.xps k (ch.on (xpAt u k))) ∧
    (∀ src sink c n N, N ≠ 0 → (XpChange.create src sink c n N).on none = some ⟨src, sink, .ramp, n,
      { Gain.at_ 0 with target := c, slope := some (.amp (Gain.at_ 0).lin (linOf c) N 0) }, none⟩) ∧
    (∀ e : XpEntry, ∀ c n N : Nat, e.st = .steady → c ≠ 0 → linOf 1 ≤ e.g.lin → e.g.lin ≠ 0 → N ≠ 0 →
      let g : Gain := { e.g with target := c, slope := some (.db e.g.frac (roundDiv ((c : Int) * 65536 - e.g.frac) N) N 0) }
      (XpChange.regain c n N).on (some e) = some { e with st := .ramp, rampIdx := n, old := none, g := g }) ∧
    (∀ e : XpEntry, ∀ src c n N, N ≠ 0 → let g : Gain := { Gain.at_ 0 with target := c, slope := some (.amp (Gain.at_ 0).lin (linOf c) N 0) }
      let o : Gain := { e.g with target := 0, slope := some (.amp e.g.lin (linOf 0) N 0) }
      (XpChange.resource src c n N).on (some e) =
        some { e with src := src, st := .xfade, rampIdx := n, g := g, old := some (e.src, o) }) ∧
    (∀ e : XpEntry, ∀ n, (XpChange.release n 0).on (some e) = none ∧ ∀ N, N ≠ 0 → ∃ x, (XpChange.release n N).on (some e) = some x ∧
      x.st = .release ∧ x.src = e.src ∧ x.g = { e.g with target := 0, slope := some (.amp e.g.lin (linOf 0) N 0) })

/-- R15, R109-R112, R115, R116: what the direct writes of the sink chain do. A trim's code and ramp are stored, and its gain leaves
for the code in the next period; a delay crossfades to its new length from then on, and one that the granules left cannot hold is
FULL; the biquad command loads a stage from the staging registers in the next period, LOAD reading 1 until then, or reads one into
them at once. -/
def Obligations.SinkWritesAct : Prop :=
  ∀ (s : State) (r : Req),
    (∀ (k : Fin 1024) (v : Word), let a := P.sink k + 0x04; let t := s.wakeFor a
      let c := clampCode (getField v 11 0); let n := rampIndex t k (getField v 15 12)
      let u := ((clampNote t (getField v 11 0)).setF (P.sink k) F.SK_TRIM_RAMP n).setF (P.sink k) F.SK_TRIM_CODE c
      served s r a → exec (.trimWrite r k v) s = .next ((u.accept (.trim k c (stepsOf u n))).answered .done)) ∧
    (∀ (k : Fin 1024) (v : Word), let a := P.sink k + 0x0C; let t := s.wakeFor a; let d := getField v 14 0; let xf := getField v 19 16
      let c := planned t; let now := heldGranules (c.sink k); let then_ := heldGranules ((c.sink k).delayTo d (stepsOf t xf))
      served s r a →
      (24000 < d ∨ xf = 0 ∨ xf = 15 → exec (.delayChange r k v) s = .next ((t.refuseAt r 0xFF a .range).answered .range)) ∧
      (d ≤ 24000 → xf ≠ 0 → xf ≠ 15 →
        (d = (c.sink k).delay → exec (.delayChange r k v) s = .next ((t.store a v).answered .done)) ∧
        (d ≠ (c.sink k).delay → then_ ≤ now ∨ c.used - now + then_ ≤ allGranules t → exec (.delayChange r k v) s =
          .next (((t.store a v).accept (.delay k d (stepsOf t xf))).answered .done)) ∧
        (d ≠ (c.sink k).delay → now < then_ → allGranules t < c.used - now + then_ → exec (.delayChange r k v) s =
          .next ((t.refuseAt r 0xFF a .full).answered .full)))) ∧
    (let a := P.cmb + 0x78; let t := s.wakeFor a; let k := t.getF P.cmb F.CMB_BQ_SEL_SINK
      let j := t.getF P.cmb F.CMB_BQ_SEL_STAGE
      served s r a →
      (∀ clr, j < 8 → exec (.bqLoad r clr) s =
        .next (((t.accept (.biquad k j (bqStaged t) clr)).setF P.cmb F.CMB_BQ_CMD_LOAD 1).answered .done)) ∧
      (∀ clr, 8 ≤ j → exec (.bqLoad r clr) s = .next ((t.refuseAt r 0xFF a .range).answered .range)) ∧
      (j < 8 → exec (.bqRead r) s = .next ((forEach (List.range 5) (fun i u => u.wr (P.cmb + 0x64 + 4 * i)
        (((sinkHid t k).bqs.getD j Biquad.reset).coef.getD i 0)) t).answered .done)) ∧
      (8 ≤ j → exec (.bqRead r) s = .next ((t.refuseAt r 0xFF a .range).answered .range))) ∧
    (∀ (u : State) (k : Nat), u.comb.due = [] → let h := u.comb.sink k
      let after := fun x => { u.comb with sinks := alSet u.comb.sinks k x }
      (∀ d, (u.accept d).comb.sinks = u.comb.sinks) ∧
      (∀ c n, (combTake (u.accept (.trim k c n))).comb = after { h with trim := h.trim.begin c n }) ∧
      (∀ d n, n ≠ 0 → (combTake (u.accept (.delay k d n))).comb = after { h with delay := d, fade := some ⟨presentTaps h, n, 0⟩ }) ∧
      (∀ j coef, (combTake (u.accept (.biquad k j coef false))).comb =
        after { h with bqs := modifyAt (fun b => { b with coef := coef }) j h.bqs }) ∧
      (∀ j coef, (combTake (u.accept (.biquad k j coef true))).comb = after { h with
        bqs := modifyAt (fun _ => { coef := coef, x1 := 0, x2 := 0, y1 := 0, y2 := 0 }) j h.bqs }) ∧
      (regsWf u.regs → ∀ d, (combTake (u.accept d)).isSet P.cmb F.CMB_BQ_CMD_LOAD = false))

/-- R97, R99, R101, R110, R116: where the ways of crosspoints, trims and delays end: a ramp in STEADY, a crossfade in STEADY
with its outgoing lane gone, or in RAMP if the gain still moves, a release in FREE, a trim at its code, a delay crossfade with
the line cut to the new length. Where the way of its kind has not ended, or an accepted change of the entry waits for the next
period, or there is none, none of these changes anything. -/
def Obligations.CombRampsEnd : Prop :=
  ∀ (s : State) (k : Fin 8192),
    (xpAt s k = none ∨ xpWaits s.comb k → exec (.crosspointRampEnd k) s = .next s ∧ exec (.crossfadeEnd k) s = .next s ∧
      exec (.releaseEnd k) s = .next s) ∧
    (∀ e, xpAt s k = some e → xpWaits s.comb k = false →
      (e.st ≠ .ramp ∨ e.g.moving → exec (.crosspointRampEnd k) s = .next s) ∧
      (e.st = .ramp → e.g.moving = false →
        exec (.crosspointRampEnd k) s = .next (setXp s k (some { e with st := .steady, g := e.g.rest }))) ∧
      (e.st ≠ .xfade → exec (.crossfadeEnd k) s = .next s) ∧
      (∀ o, e.st = .xfade → e.old = some o →
        (o.2.moving → exec (.crossfadeEnd k) s = .next s) ∧
        (o.2.moving = false → e.g.moving = false → exec (.crossfadeEnd k) s =
          .next (setXp s k (some { e with st := .steady, g := e.g.rest, old := none }))) ∧
        (o.2.moving = false → e.g.moving →
          exec (.crossfadeEnd k) s = .next (setXp s k (some { e with st := .ramp, old := none })))) ∧
      (e.st = .xfade → e.old = none → exec (.crossfadeEnd k) s =
        .next (setXp s k (some { e with st := if e.g.moving then .ramp else .steady }))) ∧
      (e.st ≠ .release ∨ e.g.moving ∨ (∃ o, e.old = some o ∧ o.2.moving) → exec (.releaseEnd k) s = .next s) ∧
      (e.st = .release → e.g.moving = false → (∀ o, e.old = some o → o.2.moving = false) →
        exec (.releaseEnd k) s = .next (setXp s k none))) ∧
    (∀ j : Fin 1024, let h := sinkHid s j; let u := onSink s j fun h => { h with trim := h.trim.rest }
      (h.trim.slope.isSome → h.trim.moving = false →
        exec (.trimRampEnd j) s = .next (u.setF (P.sink j) F.SK_TRIM_CUR (sinkHid u j).trim.cur)) ∧
      (h.trim.slope = none ∨ h.trim.moving → exec (.trimRampEnd j) s = .next s) ∧
      (h.fade = none → exec (.delayXfadeEnd j) s = .next s) ∧
      (∀ f, h.fade = some f →
        (f.n ≤ f.i → exec (.delayXfadeEnd j) s = .next (onSink s j fun h => { h with fade := none, line := h.line.take h.delay })) ∧
        (f.i < f.n → exec (.delayXfadeEnd j) s = .next s)))

/-- R99, R101, R105, R118: what the Plosto commands on the Comb answer and do: XP_SET changes the gain of the entry that joins
the two or makes one at the lowest FREE index, and is FULL where the sink has 64; with SWAP it changes the source of an entry, ABSENT
where there is none and STATE where the new pair is joined already; XP_REMOVE releases, ABSENT where there is none; XP_QUERY and
SINK_QUERY report and change nothing; SINK_SET applies an item or is refused as its register would be. A payload of another length or with a field that no value of
its table allows is RANGE. -/
def Obligations.CombCommandsAnswer : Prop :=
  ∀ (s : State) (q : PlReq), let t := s.wakeFor P.cmb; let p := q.payload
    let src := field p 0 2; let sink := field p 2 2; let code := field p 4 2; let n := field p 6 1
    (∀ x ∈ [Instr.xpSet q, .xpSetSwap q], plServes s 0x10 q → pageServes s P.cmb true → p.length = 10 → badSource src = false →
      badSink sink = false → code < 4096 → n < 16 → field p 7 1 = 0 →
      (∀ k, findXp t src sink = some k →
        let u := xpRegain (clampNote t code) k sink (clampCode code) n
        exec x s = .next (u.plDone 0x10 q (leBytes 2 k ++ [rflags (decide (maxCode < code)) false,
          BitVec.ofNat 8 (contribs u sink).length]))) ∧
      (∀ k, findXp t src sink = none → (contribs t sink).length < 64 → freeXp t = some k →
        let u := xpCreate (clampNote t code) k src sink (clampCode code) n
        exec x s = .next (u.plDone 0x10 q (leBytes 2 k ++ [rflags (decide (maxCode < code)) true,
          BitVec.ofNat 8 (contribs u sink).length]))) ∧
      (findXp t src sink = none → 64 ≤ (contribs t sink).length ∨ freeXp t = none →
        exec x s = .next (t.plRefuse P.cmb 0 0x10 q .full []))) ∧
    (∀ x ∈ [Instr.xpSet q, .xpSetSwap q], plServes s 0x10 q → pageServes s P.cmb true → p.length = 10 → badSource src = false →
      badSink sink = false → badSource (field p 8 2) = false → code < 4096 → n < 16 → field p 7 1 = 1 →
      (∀ k, findXp t (field p 8 2) sink = some k → findXp t src sink = none →
        let u := xpResource (clampNote t code) k sink src (clampCode code) n
        exec x s = .next (u.plDone 0x10 q (leBytes 2 k ++ [rflags (decide (maxCode < code)) false,
          BitVec.ofNat 8 (contribs u sink).length]))) ∧
      (findXp t (field p 8 2) sink ≠ none → findXp t src sink ≠ none →
        exec x s = .next (t.plRefuse P.cmb 0 0x10 q .state [])) ∧
      (findXp t (field p 8 2) sink = none → exec x s = .next (t.plRefuse P.cmb 0 0x10 q .absent []))) ∧
    (∀ x ∈ [Instr.xpSet q, .xpSetSwap q], plServes s 0x10 q → pageServes s P.cmb true →
      p.length ≠ 10 ∨ badSource src ∨ badSink sink ∨ 4096 ≤ code ∨ 16 ≤ n ∨ 2 ≤ field p 7 1 ∨
        (field p 7 1 = 1 ∧ badSource (field p 8 2)) →
      exec x s = .next (t.plRefuse P.cmb 0 0x10 q .range [])) ∧
    (plServes s 0x11 q → pageServes s P.cmb true → p.length = 8 → badSink sink = false → field p 4 1 < 16 → field p 5 3 = 0 →
      src = 0xFFFF ∨ badSource src = false → let ks := if src = 0xFFFF then contribs t sink else (findXp t src sink).toList
      (ks ≠ [] → exec (.xpRemove q) s = .next ((releaseAll t ks (field p 4 1)).plDone 0x11 q (leBytes 2 ks.length))) ∧
      (ks = [] → exec (.xpRemove q) s = .next (t.plRefuse P.cmb 0 0x11 q .absent []))) ∧
    (plServes s 0x11 q → pageServes s P.cmb true →
      p.length ≠ 8 ∨ (src ≠ 0xFFFF ∧ badSource src) ∨ badSink sink ∨ 16 ≤ field p 4 1 ∨ field p 5 3 ≠ 0 →
      exec (.xpRemove q) s = .next (t.plRefuse P.cmb 0 0x11 q .range [])) ∧
    (plServes s 0x12 q → pageServes s P.cmb false → p.length = 8 → field p 1 1 = 0 →
      (field p 0 1 = 0 → field p 2 2 < 8192 → exec (.xpQuery q) s =
        .next (t.plDone 0x12 q (xpEntryBytes t (field p 2 2)))) ∧
      (field p 0 1 = 1 → badSource code = false → badSink (field p 6 2) = false →
        let l := t.comb.xps.find? fun e => e.2.src == code && e.2.sink == field p 6 2
        (∀ k e, l = some (k, e) → exec (.xpQuery q) s = .next (t.plDone 0x12 q (xpEntryBytes t k))) ∧
        (l = none → exec (.xpQuery q) s = .next (t.plRefuse P.cmb 0 0x12 q .absent []))) ∧
      (field p 0 1 = 2 → badSink (field p 6 2) = false →
        let ks := (t.comb.xps.filter fun e => e.2.sink == field p 6 2).map (·.1)
        exec (.xpQuery q) s = .next (t.plDone 0x12 q ([BitVec.ofNat 8 ks.length, 0] ++ ks.flatMap (leBytes 2))))) ∧
    (plServes s 0x12 q → pageServes s P.cmb false →
      p.length ≠ 8 ∨ 2 < field p 0 1 ∨ field p 1 1 ≠ 0 ∨ (field p 0 1 = 0 ∧ 8192 ≤ field p 2 2) ∨
        (field p 0 1 = 1 ∧ badSource code) ∨ (field p 0 1 ≠ 0 ∧ badSink (field p 6 2)) →
      exec (.xpQuery q) s = .next (t.plRefuse P.cmb 0 0x12 q .range [])) ∧
    (plServes s 0x13 q → pageServes s P.cmb true → 4 ≤ p.length → p.length % 4 = 0 → src < 1024 → field p 3 1 = 0 →
      let o := sinkItem src (field p 2 1) (p.drop 4) t
      (o.1 = .done → exec (.sinkSet q) s = .next (o.2.plDone 0x13 q [BitVec.ofNat 8 (b2n (field p 2 1 == 1 &&
        decide (maxCode < getField (BitVec.ofNat 32 (field (p.drop 4) 0 4)) 11 0))), 0, 0, 0])) ∧
      (o.1 ≠ .done → exec (.sinkSet q) s = .next (t.plRefuse P.cmb 0 0x13 q o.1 []))) ∧
    (plServes s 0x13 q → pageServes s P.cmb true → p.length < 4 ∨ p.length % 4 ≠ 0 ∨ 1024 ≤ src ∨ field p 3 1 ≠ 0 →
      exec (.sinkSet q) s = .next (t.plRefuse P.cmb 0 0x13 q .range [])) ∧
    (∀ v h b0 b1 b2 a1 a2 : Word, ∀ d, (toWords d = [v] → sinkItem src 0 d t = sinkCtrlWrite src v t ∧
        sinkItem src 1 d t = (.done, trimSet t src v) ∧ sinkItem src 2 d t = sinkLimWrite src v t ∧
        sinkItem src 3 d t = sinkDlyWrite src v t ∧ sinkItem src 4 d t = sinkMetWrite src v t) ∧
      (toWords d = [h, b0, b1, b2, a1, a2] →
        (getField h 7 0 < 8 → getField h 31 8 < 2 →
          sinkItem src 5 d t = (.done, t.accept (.biquad src (getField h 7 0) [b0, b1, b2, a1, a2] (bit h 8)))) ∧
        (8 ≤ getField h 7 0 ∨ 2 ≤ getField h 31 8 → sinkItem src 5 d t = (.range, t)))) ∧
    (∀ cfg mic band rate : Word, ∀ d, toWords d = [cfg, mic, band, rate] → 0x200 ≤ src → src < 0x210 →
      let z := src - 0x200; let good := micWordOk mic && bandWordOk band && rateWordOk rate
      let x := ((t.store (zBase z + 0x404) mic).store (zBase z + 0x408) band).store (zBase z + 0x40C) rate
      let o := zoneCfgWrite z cfg mic x
      (good → o.1 = .done → sinkItem src 6 d t = (.done, o.2)) ∧ (good → o.1 ≠ .done → sinkItem src 6 d t = (o.1, t)) ∧
      (good = false → sinkItem src 6 d t = (.range, t))) ∧
    (∀ item d, (item < 5 → (toWords d).length ≠ 1 → sinkItem src item d t = (.range, t)) ∧
      (item = 5 → (toWords d).length ≠ 6 → sinkItem src item d t = (.range, t)) ∧
      (item = 6 → (toWords d).length ≠ 4 ∨ src < 0x200 ∨ 0x210 ≤ src → sinkItem src item d t = (.range, t)) ∧
      (6 < item → sinkItem src item d t = (.range, t))) ∧
    (plServes s 0x14 q → pageServes s P.cmb false → p.length = 4 → src < 1024 → field p 3 1 = 0 →
      (field p 2 1 = 0 → exec (.sinkQuery q) s = .next (t.plDone 0x14 q (combWords t (P.sink src) 16 ++
        (if 0x200 ≤ src ∧ src < 0x210 then combWords t (zBase (src - 0x200) + 0x400) 8 else [])))) ∧
      (field p 2 1 = 1 → exec (.sinkQuery q) s =
        .next (t.plDone 0x14 q ((sinkHid t src).bqs.flatMap fun b => wordsBytes b.coef)))) ∧
    (plServes s 0x14 q → pageServes s P.cmb false → p.length ≠ 4 ∨ 1024 ≤ src ∨ 1 < field p 2 1 ∨ field p 3 1 ≠ 0 →
      exec (.sinkQuery q) s = .next (t.plRefuse P.cmb 0 0x14 q .range []))

/-- R113, R119-R123: what zone level adaptation does: enabling a zone makes the crosspoints it needs to free taps and puts
it into RUNNING, or is refused with RANGE where no microphone is named STATE where no core of the image serves it or the Comb is STOPPED, and FULL where a tap or an entry is missing; disabling it
takes them back and ramps its offset to 0 dB over 1 s; a decision takes the window that has ended, and with none it changes nothing:
an unfrozen window moves the offset towards its target at the rates set, and a frozen one shows its reason and moves nothing; entering and leaving a freeze for NCONV, FAULT or MICS is raised and recorded. -/
def Obligations.ZoneLevelAdaptationActs : Prop :=
  ∀ (s : State) (z : Fin 16), let b := zBase z
    (∀ (r : Req) (v : Word), let a := b + 0x400; let w := setField v 31 31 1
      let t := s.wakeFor a; let srcs := zoneMics (t.rd (b + 0x404))
      let want := (0x3C0 + z.val) :: (srcs.dedup.filter fun n => !(tapped t).contains n)
      served s r a →
      (cfgWordOk w = false → exec (.zlaEnable r z v) s = .next ((t.refuseAt r 0xFF a .range).answered .range)) ∧
      (cfgWordOk w → t.isSet b F.ZLA_CFG_EN → exec (.zlaEnable r z v) s = .next ((t.store a w).answered .done)) ∧
      (cfgWordOk w → t.isSet b F.ZLA_CFG_EN = false →
      (srcs = [] → exec (.zlaEnable r z v) s = .next ((t.refuseAt r 0xFF a .range).answered .range)) ∧
      (srcs ≠ [] → t.img.zlaCore = none ∨ t.stopped →
        exec (.zlaEnable r z v) s = .next ((t.refuseAt r 0xFF a .state).answered .state)) ∧
      (srcs ≠ [] → t.img.zlaCore ≠ none → t.stopped = false →
        (∀ u l, tapAll want (t, []) = some (u, l) → exec (.zlaEnable r z v) s =
          .next ((((onZone u z fun _ => { Zone.reset with taps := l, mics := micsUsed (t.rd (b + 0x404)) }).setF b
            F.ZLA_STAT_STATE 1).store a w).answered .done)) ∧
        (tapAll want (t, []) = none → exec (.zlaEnable r z v) s = .next ((t.refuseAt r 0xFF a .full).answered .full))))) ∧
    (∀ (r : Req) (v : Word), let a := b + 0x400; let w := setField v 31 31 0; let t := s.wakeFor a
      served s r a →
      (cfgWordOk w = false → exec (.zlaDisable r z v) s = .next ((t.refuseAt r 0xFF a .range).answered .range)) ∧
      (cfgWordOk w → t.isSet b F.ZLA_CFG_EN →
        exec (.zlaDisable r z v) s = .next ((zoneDisable z (t.store a w)).answered .done)) ∧
      (cfgWordOk w → t.isSet b F.ZLA_CFG_EN = false →
        exec (.zlaDisable r z v) s = .next ((t.store a w).answered .done))) ∧
    ((zoneAt s z).due = none → exec (.zlaDecide z) s = .next s) ∧
    (∀ w, (zoneAt s z).due = some w → s.isSet b F.ZLA_CFG_EN = false ∨ s.st P.cmb ≠ 2 → exec (.zlaDecide z) s = .next s) ∧
    (∀ w, (zoneAt s z).due = some w → s.isSet b F.ZLA_CFG_EN → s.st P.cmb = 2 →
      let x := onZone s z fun y => { y with due := none }
      let live := w.mics.filterMap id
      let erle := if w.heard then zoneErle live else none
      let reason := freezeReason x z live.length w.heard erle
      let valid := (List.range 4).foldl (fun m i => m + (if (w.mics.getD i none).isSome then 2 ^ i else 0)) 0
      let was := x.getF b F.ZLA_STAT_REASON
      let f := if was ≠ reason then freezeNote (freezeNote x z was false) z reason true else x
      let h := (f.setF b F.ZLA_STAT_REASON reason).setF b F.ZLA_STAT_VALID valid
      let o := live.foldl (fun o e => residualLevel w.n e o) (if w.heard then showErle h z erle else h, [])
      (live = [] → exec (.zlaDecide z) s = .next ((o.1.setF b F.ZLA_STAT_STATE 2).setF b F.ZLA_STAT_LASTDEC 3)) ∧
      (∀ n, zoneNoise (o.2.mergeSort (fun x y => decide (x ≤ y))) = some n →
        let t := o.1.setS b F.ZLA_NOISE_NOISE (quantI (n * 10).num (n * 10).den)
        (reason ≠ 0 → exec (.zlaDecide z) s = .next ((t.setF b F.ZLA_STAT_STATE 2).setF b F.ZLA_STAT_LASTDEC 3)) ∧
        (reason = 0 →
          let d := zoneDecide t z (zoneTarget t z n)
          let u := ((t.setF b F.ZLA_STAT_STATE 1).setF b F.ZLA_STAT_LASTDEC d.1).setS b F.ZLA_TGT_TARGET (to05 (zoneTarget t z n))
          let y := if d.2 = (zoneAt u z).a then u else u.bump b F.ZLA_DEC_COUNT
          exec (.zlaDecide z) s = .next (zoneReport (zoneGain (onZone y z fun m => { m with a := d.2 }) z
            d.2 (2400 * y.getF b F.ZLA_CFG_WIN)) z (zoneTarget t z n) n)))) ∧
    (∀ (u : State) n entering, (n ∈ [2, 3, 4] → freezeNote u z n entering =
        (u.raise P.cmb 4).log 0x0061 1 0x0010 0 [BitVec.ofNat 8 z.val, BitVec.ofNat 8 n, BitVec.ofNat 8 (b2n entering)]) ∧
      (n ∉ [2, 3, 4] → freezeNote u z n entering = u))

/-- R125-R128, R134-R136, R149, R466: what befalls the clocks: a correct reference takes the Keeper off its RC oscillator; a
reference that fails, or that is not reported in time, degrades CLK, stops the fabric and is recorded; its recovery starts the
ports and outputs again; a PLL that fails does the like, with the Keeper on the RC oscillator if it is the system PLL; a restart
clears what locks; the servo updates and HOLDOVER expires. In the states where none of this can happen, none of these changes
anything. -/
def Obligations.ClocksFailAndRecover : Prop :=
  ∀ s : State,
    (s.isSet P.clk F.CLK_REF_STAT_ON_RC → s.stopped = false → s.sys.held = false →
      exec .keeperToReference s = .next (((s.setF P.clk F.CLK_REF_STAT_REF_OK 1).setF P.clk F.CLK_REF_STAT_ON_RC 0).wr
        (P.clk + 0x48) 7)) ∧
    (s.isSet P.clk F.CLK_REF_STAT_ON_RC = false ∨ s.stopped ∨ s.sys.held → exec .keeperToReference s = .next s) ∧
    (let t := ((s.setF P.clk F.CLK_REF_STAT_REF_OK 0).setF P.clk F.CLK_REF_STAT_ON_RC 1).wr (P.clk + 0x48) 0
      let u := clkLog (((clkTo (fabricStop t .ref) 7).raise P.clk 24).err P.clk) 0x0010 3
      (awake s → s.clk.halt ≠ some .ref → exec .refFail s = .next u) ∧
      (awake s = false ∨ s.clk.halt = some .ref → exec .refFail s = .next s ∧ exec .refStartTimeout s = .next s) ∧
      (awake s → s.clk.halt ≠ some .ref → s.isSet P.clk F.CLK_REF_STAT_REF_OK = false → exec .refStartTimeout s = .next u) ∧
      (s.isSet P.clk F.CLK_REF_STAT_REF_OK → exec .refStartTimeout s = .next s)) ∧
    (∀ why, fabricStop s why = outputsCut (linksDown (cmbShow (s.onClk fun c => { c with halt := some why, step := 0 })))) ∧
    (let t := ((s.setF P.clk F.CLK_REF_STAT_REF_OK 1).setF P.clk F.CLK_REF_STAT_ON_RC 0).wr (P.clk + 0x48) 7
     clkRecover s = outputsBack (tdmRestart (clkUnseen (clkSelect (cmbShow
        (t.onClk fun c => { c with halt := none, down := [] })))))) ∧
    (awake s → s.clk.halt = some .ref ∨ s.clk.halt = some .mode → exec .refRecovery s = .next (clkRecover s)) ∧
    (awake s = false ∨ s.clk.halt = none ∨ s.clk.halt = some .pll → exec .refRecovery s = .next s) ∧
    (∀ p : Fin 3,
      let t := s.wr (P.clk + 0x48) (s.rd (P.clk + 0x48) &&& ~~~ (1#32 <<< p.val))
      let u := (if p = 0 then t.setF P.clk F.CLK_REF_STAT_ON_RC 1 else t).onClk fun c => { c with down := (p.val :: c.down).dedup }
      (awake s → s.clk.halt = none →
        exec (.pllFail p) s = .next (clkLog (((clkTo (fabricStop u .pll) 7).raise P.clk 25).err P.clk) 0x0011 3)) ∧
      (awake s → s.clk.halt = some .pll → exec (.pllFail p) s = .next (clkLog ((u.raise P.clk 25).err P.clk) 0x0011 3)) ∧
      (awake s = false ∨ s.clk.halt = some .ref ∨ s.clk.halt = some .mode → exec (.pllFail p) s = .next s)) ∧
    (∀ up : Fin 8,
      let t := (s.wr (P.clk + 0x48) (s.rd (P.clk + 0x48) ||| BitVec.ofNat 32 up)).onClk fun c =>
        { c with down := c.down.filter fun p => up.val / 2 ^ p % 2 == 0 }
      (s.clk.halt = some .pll → t.clk.down = [] → t.isSet P.clk F.CLK_REF_STAT_REF_OK →
        exec (.pllRestart up) s = .next (clkRecover t)) ∧
      (s.clk.halt = some .pll → t.clk.down ≠ [] ∨ t.isSet P.clk F.CLK_REF_STAT_REF_OK = false →
        exec (.pllRestart up) s = .next t) ∧
      (s.clk.halt ≠ some .pll → exec (.pllRestart up) s = .next s)) ∧
    (∀ (errs : List Int) (dev : BitVec 16), let t := servoUpdate errs s
      (awake s → s.stopped = false → exec (.servoUpdate errs dev) s = .next (t.setF P.clk F.CLK_REF_STAT_DEV
        (if t.clk.st = 4 ∧ t.clk.sel.1 = 1 then dev.toNat else 0x8000))) ∧
      (awake s = false ∨ s.stopped → exec (.servoUpdate errs dev) s = .next s)) ∧
    (s.clk.st = 5 → exec .holdoverExpiry s = .next (clkLog ((clkTo s 6).raise P.clk 3) 0x0012 2)) ∧
    (s.clk.st ≠ 5 → exec .holdoverExpiry s = .next s)

/-- R132, R133, R138, R140: what the host's writes of the CLK page do: CLK_MEDIA_CFG is stored, refused with RANGE where a field
is out of range, and a TDM port newly named that is no valid source is raised; CLK_REF_CFG is refused with STATE outside FREE and
DEGRADED, stored in DEGRADED, and in FREE a change of MODE stops the fabric, puts the Keeper on the RC oscillator and takes the
PLLs out of lock. -/
def Obligations.ClockWritesAct : Prop :=
  ∀ (s : State) (r : Req) (v : Word),
    (let a := P.clk + 0x4C; let t := s.wakeFor a; let u := t.store a v
      let fresh := (clkCfg u).1 = 2 ∧ ((clkCfg t).1 ≠ 2 ∨ (clkCfg t).2.2 ≠ (clkCfg u).2.2) ∧ tdmValid u (clkCfg u).2.2 = false
      served s r a → getField v 31 24 ≠ 0 → getField v 17 16 ≠ 3 → getField v 1 0 ≠ 3 →
      (¬fresh → exec (.clkMediaCfgWrite r v) s = .next (u.answered .done)) ∧
      (fresh → exec (.clkMediaCfgWrite r v) s = .next ((u.raise P.clk 5).answered .done))) ∧
    (let a := P.clk + 0x4C; let t := s.wakeFor a
      served s r a → getField v 31 24 = 0 ∨ getField v 17 16 = 3 ∨ getField v 1 0 = 3 →
        exec (.clkMediaCfgWrite r v) s = .next ((t.refuseAt r 0xFF a .range).answered .range)) ∧
    (let a := P.clk + 0x40; let t := s.wakeFor a; let u := t.store a v
      let same := u.getF P.clk F.CLK_REF_CFG_MODE = t.getF P.clk F.CLK_REF_CFG_MODE
      served s r a →
      (t.clk.st ≠ 2 → t.clk.st ≠ 7 → exec (.refModeChange r v) s = .next ((t.refuseAt r 0xFF a .state).answered .state)) ∧
      (t.clk.st = 7 → exec (.refModeChange r v) s = .next (u.answered .done)) ∧
      (t.clk.st = 2 → u.stopped ∨ same → exec (.refModeChange r v) s = .next (u.answered .done)) ∧
      (t.clk.st = 2 → u.stopped = false → ¬same →
        exec (.refModeChange r v) s = .next ((((fabricStop u .mode).setF P.clk F.CLK_REF_STAT_ON_RC 1).wr (P.clk + 0x48)
          0).answered .done)))

/-- R143, R144, R151, R157-R161: what the commands and events of the TDM ports and of the converter pool do: START takes the
converter channels it needs and enters STARTING, a provider RUNNING at once; with too few channels it is refused with STATE and
counted, and so is a start of a port that is not enabled and stopped; STOP frees them; a port that sees good frames runs; the guard of
a consumer counts misplaced frames, and the third in succession, a clock that goes or a rate that strays make it LOST, from which
good frames bring it back; a provider that cannot drive its clock is in FAULT; a group whose ratio is found is LOCKED; ASRC_QUERY
reports. In the states in which none of this can happen, nothing changes. -/
def Obligations.TdmPortsFollowTheirClocks : Prop :=
  ∀ (s : State) (n : Fin 16), let p := P.tdm n; let len := 32 * s.getF p F.TDM_CFG_SLOTS
    (∀ (r : Req) (v : Word), let a := p + 0x48; let w := setField v 0 0 1; let t := s.wakeFor a
      let u := t.setF p F.TDM_STAT_REASON 0; let need := chansNeeded t n
      served s r a →
      (bit w 1 → exec (.tdmStart r n v) s = .next ((t.refuseAt r 0xFF a .range).answered .range)) ∧
      (bit w 1 = false → t.en p = false ∨ t.st p ≠ 2 ∨ (need ≠ 0 ∧ t.en P.asrc = false) →
        exec (.tdmStart r n v) s = .next ((t.refuseAt r 0xFF a .state).answered .state)) ∧
      (bit w 1 = false → t.en p → t.st p = 2 →
        (need = 0 → exec (.tdmStart r n v) s = .next ((tdmLaunch u n).answered .done)) ∧
        (need ≠ 0 → t.en P.asrc → need ≤ (freeChans t).length →
          exec (.tdmStart r n v) s = .next ((tdmLaunch ((asrcTake u n).setF p F.TDM_STAT_ASRC 1) n).answered .done)) ∧
        (need ≠ 0 → t.en P.asrc → (freeChans t).length < need →
          exec (.tdmStart r n v) s = .next ((((((t.setF p F.TDM_STAT_REASON 1).bump P.asrc F.ASRC_NOASRC_CNT_COUNT).raise P.asrc
            0).err P.asrc).refuseAt r 0xFF a .state).answered .state)))) ∧
    (let t := (s.setSt p 3).onTdm n fun _ => TdmHid.reset
     (t.isSet p F.TDM_CFG_MODE = false → tdmLaunch s n = t) ∧
      (t.isSet p F.TDM_CFG_MODE → tdmLaunch s n = (tdmRun t n).raise p 0)) ∧
    (∀ (r : Req) (v : Word), let a := p + 0x48; let w := setField v 1 1 1; let t := s.wakeFor a
      let u := (((asrcFree t n).setSt p 2).setF p F.PG_STAT_FAULT 0).onTdm n fun _ => TdmHid.reset
      served s r a →
      (bit w 0 → exec (.tdmStop r n v) s = .next ((t.refuseAt r 0xFF a .range).answered .range)) ∧
      (bit w 0 = false → 2 < t.st p →
        exec (.tdmStop r n v) s = .next ((clkSource (srcInvalid u n (tdmValid t n))).answered .done)) ∧
      (bit w 0 = false → t.st p ≤ 2 →
        exec (.tdmStop r n v) s = .next ((t.refuseAt r 0xFF a .state).answered .state))) ∧
    (let t := (s.onTdm n fun h => { h with bad := 0, gone := false }).setF p F.TDM_STAT_BCLKS (min 0x3FF len)
     (s.st p = 3 → exec (.tdmStarted n) s = .next ((asrcAgain (tdmRun t n) n).raise p 0)) ∧
      (s.st p ≠ 3 → exec (.tdmStarted n) s = .next s) ∧
      (s.st p = 5 → exec (.tdmRelock n) s = .next ((asrcAgain (tdmRun t n) n).raise p 2)) ∧
      (s.st p ≠ 5 → exec (.tdmRelock n) s = .next s) ∧
      (3 ≤ s.st p → s.st p ≤ 5 → s.isSet p F.TDM_CFG_MODE = false → exec (.frameSyncError n (.edge len)) s = .next t)) ∧
    (∀ why : Nat,
      let t := (((s.setSt p 5).setF p F.TDM_STAT_REASON why).bump p F.TDM_LOSS_CNT_COUNT).onTdm n fun h => { TdmHid.reset with rx := h.rx }
      let u := clkSource (asrcLost (t.raise p 1) n (why - 1))
      s.st p = 4 → s.isSet p F.TDM_CFG_MODE = false →
      (why = 2 → exec (.tdmClockLoss n) s = .next u) ∧ (why = 3 → exec (.frameSyncError n .rate) s = .next u)) ∧
    (s.st p ≠ 4 ∨ s.isSet p F.TDM_CFG_MODE → exec (.tdmClockLoss n) s = .next s ∧ exec (.frameSyncError n .rate) s = .next s) ∧
    (s.st p < 3 ∨ 5 < s.st p ∨ s.isSet p F.TDM_CFG_MODE → ∀ e, exec (.frameSyncError n e) s = .next s) ∧
    (∀ (b : Nat) (gone : Bool), 3 ≤ s.st p → s.st p ≤ 5 → s.isSet p F.TDM_CFG_MODE = false → let k := (s.tdm n).bad + 1
      let t := (((s.bump p F.TDM_FS_CNT_COUNT).err p).setF p F.TDM_STAT_BCLKS (min 0x3FF b)).onTdm n fun h =>
        { h with bad := k, gone := h.gone || gone }
      let u := if k = 1 then t.raise p 3 else if k = 2 then t else tdmLose t n 2
      (b ≠ len → gone = decide (len + 2 ≤ b) → exec (.frameSyncError n (.edge b)) s = .next u) ∧
      (b = len + 2 → gone → exec (.frameSyncError n .missing) s = .next u)) ∧
    (s.st p = 4 → s.isSet p F.TDM_CFG_MODE →
      exec (.driveFault n) s = .next ((((((s.setSt p 6).setF p F.TDM_STAT_REASON 4).setF p F.PG_STAT_FAULT 1).onTdm n
        fun _ => TdmHid.reset).raise p 24).log 0x0020 3 0x0012 0 [BitVec.ofNat 8 n])) ∧
    (s.st p ≠ 4 ∨ s.isSet p F.TDM_CFG_MODE = false → exec (.driveFault n) s = .next s) ∧
    (∀ ratio : Word,
      let t := ((s.setF (grpBase n) F.ASRC_GRP_STAT_STATE 2).wr (grpBase n + 0x100) ratio).onGrp n fun _ => Grp.reset
      (grpSt s n = 1 → (s.grp n).fromLost = false → exec (.asrcGroupLock n ratio) s = .next t) ∧
      (grpSt s n = 1 → (s.grp n).fromLost → exec (.asrcGroupLock n ratio) s = .next (t.raise P.asrc 2)) ∧
      (grpSt s n ≠ 1 → exec (.asrcGroupLock n ratio) s = .next s)) ∧
    (∀ q : PlReq, let t := s.wakeFor P.asrc; let g := field q.payload 1 1
      plServes s 0x18 q → pageServes s P.asrc false →
      (q.payload.length ≠ 4 → exec (.asrcQuery q) s = .next (t.plRefuse P.asrc 0 0x18 q .range [])) ∧ (q.payload.length = 4 →
      (field q.payload 0 1 = 0 → field q.payload 1 3 = 0 → exec (.asrcQuery q) s = .next (t.plDone 0x18 q
        (wordsBytes ([t.rd (P.asrc + 0x40), t.rd (P.asrc + 0x44)] ++ (List.range 16).map fun i => t.rd (grpBase i + 0x104))))) ∧
      (field q.payload 0 1 = 1 → g ≤ 15 → field q.payload 2 2 = 0 → exec (.asrcQuery q) s = .next (t.plDone 0x18 q
        (wordsBytes ([t.rd (grpBase g + 0x100), t.rd (grpBase g + 0x104), t.rd (P.asrc + 0x180 + 4 * g)] ++
          ((List.range 256).filter fun k => chUsed t k && getField (t.rd (chAddr k)) 23 20 == g).map fun k => t.rd (chAddr k))))) ∧
      (1 < field q.payload 0 1 ∨ (field q.payload 0 1 = 0 ∧ field q.payload 1 3 ≠ 0) ∨
          (field q.payload 0 1 = 1 ∧ (15 < g ∨ field q.payload 2 2 ≠ 0)) →
        exec (.asrcQuery q) s = .next (t.plRefuse P.asrc 0 0x18 q .range []))))

/-- R166-R168, R171, R172: what the commands of a link, its PHY and its timers do. UP makes a STOPPED link look for its PHY, DOWN
stops it, and each is refused where it cannot; a poll that finds a PHY whose resolved mode is gigabit full duplex brings the link up,
and one that does not takes it out of LINKUP with its reason, the third poll in succession without an answer too; an access of the
management bus runs until it is done; the ARP cache ages and asks again; a group is reported a second time. Where none of this can
happen, nothing changes. -/
def Obligations.LinksComeUpAndGoDown : Prop :=
  ∀ (s : State) (n : Fin 4), let b := P.eth n
    (∀ (r : Req) (v : Word), let a := b + 0x5C; let w := setField v 0 0 1; let t := s.wakeFor a
      served s r a →
      (bit w 1 → exec (.ethUp r n v) s = .next ((t.refuseAt r 0xFF a .range).answered .range)) ∧
      (bit w 1 = false → t.en b → t.st b = 2 →
        exec (.ethUp r n v) s = .next (((t.setSt b 3).setF b F.ETH_LINK_REASON 1).answered .done)) ∧
      (bit w 1 = false → t.en b = false ∨ t.st b ≠ 2 →
        exec (.ethUp r n v) s = .next ((t.refuseAt r 0xFF a .state).answered .state))) ∧
    (∀ (r : Req) (v : Word), let a := b + 0x5C; let w := setField v 1 1 1; let t := s.wakeFor a
      let u := ((linkLeave t n).setSt b 2).onLink n fun l =>
        { l with polls := 0, arp := [], asked := [], waiting := [], reports := [], v2 := none }
      served s r a →
      (bit w 0 → exec (.ethDown r n v) s = .next ((t.refuseAt r 0xFF a .range).answered .range)) ∧
      (bit w 0 = false → 2 < t.st b → exec (.ethDown r n v) s = .next ((u.wr (b + 0x60) 0).answered .done)) ∧
      (bit w 0 = false → t.st b ≤ 2 → exec (.ethDown r n v) s = .next ((t.refuseAt r 0xFF a .state).answered .state))) ∧
    (netOn s = false ∨ s.st b < 3 → ∀ x, exec (.phyPoll n x) s = .next s) ∧
    (netOn s → 3 ≤ s.st b →
      (let t := s.onLink n fun l => { l with polls := min 3 ((s.link n).polls + 1) };
        ((s.link n).polls + 1 ≠ 3 → exec (.phyPoll n none) s = .next t) ∧
        ((s.link n).polls + 1 = 3 → exec (.phyPoll n none) s =
          .next ((linkLeave ((t.setF b F.ETH_LINK_LINK 0).raise b 24) n).setF b F.ETH_LINK_REASON 3))) ∧
      (∀ x : PhyAnswer,
        let t := (((s.onLink n fun l => { l with polls := 0 }).setF b F.ETH_LINK_LINK (b2n (phyLink x))).setF b F.ETH_LINK_FDX
          (b2n (phyMode x).2)).setF b F.ETH_LINK_SPEED (phyMode x).1
        (phyLink x = false → exec (.phyPoll n (some x)) s = .next ((linkLeave t n).setF b F.ETH_LINK_REASON 1)) ∧
        (phyLink x → phyMode x ≠ (2, true) → exec (.phyPoll n (some x)) s =
          .next ((linkLeave t n).setF b F.ETH_LINK_REASON 2)) ∧
        (phyLink x → phyMode x = (2, true) → linkUp t n = false → exec (.phyPoll n (some x)) s = .next (linkEnter t n)) ∧
        (phyLink x → phyMode x = (2, true) → linkUp t n → exec (.phyPoll n (some x)) s =
          .next (if ptpRuns t n ∧ ptpSt t n = 1 then ptpTo t n 4 else t)))) ∧
    (s.isSet b F.ETH_CFG_IF → linkUp s n →
      exec (.sgmiiLinkDown n) s = .next ((linkLeave (s.setF b F.ETH_LINK_LINK 0) n).setF b F.ETH_LINK_REASON 1)) ∧
    (s.isSet b F.ETH_CFG_IF = false ∨ linkUp s n = false → exec (.sgmiiLinkDown n) s = .next s) ∧
    (∀ (r : Req) (v : Word), let a := b + 0x64; let w := setField v 31 31 1; let t := s.wakeFor a
      served s r a → exec (.mdioGo r n v) s = .next (((t.store a w).setF b F.ETH_MDIO_GO 1).answered .done)) ∧
    (s.isSet b F.ETH_MDIO_GO = false → ∀ x, exec (.mdioDone n x) s = .next s) ∧
    (s.isSet b F.ETH_MDIO_GO →
      (exec (.mdioDone n none) s = .next (((s.setF b F.ETH_MDIO_GO 0).setF b F.ETH_MDIO_ERR 1).raise b 6)) ∧
      (∀ d : BitVec 16, let t := (s.setF b F.ETH_MDIO_GO 0).setF b F.ETH_MDIO_ERR 0
        exec (.mdioDone n (some d)) s = .next
          ((if t.isSet b F.ETH_MDIO_WR then t else t.setF b F.ETH_MDIO_DATA d.toNat).raise b 6))) ∧
    (∀ ip : Word, let t := s.onLink n fun l => { l with arp := l.arp.filter fun e => e.ip != ip }
      exec (.arpAge n ip) s = .next (txFollow (t.setF b F.ETH_LINK_ARP (t.link n).arp.length) n)) ∧
    (linkUp s n → netOn s →
      exec (.arpRetry n) s = .next (sendFrames (s.onLink n fun l => { l with asked := (l.asked ++ arpWanted s n).dedup }) n
        ((arpWanted s n).map (arpRequest s n)))) ∧
    (linkUp s n = false ∨ netOn s = false → exec (.arpRetry n) s = .next s) ∧
    (∀ g : Word, let t := s.onLink n fun l => { l with reports := l.reports.filter (· != g) }
      (netOn s → (s.link n).reports.contains g →
        exec (.igmpReport n g) s = .next (reportGroups t n ((groupsOf t n).filter fun x => x.1 == g))) ∧
      (netOn s = false ∨ (s.link n).reports.contains g = false → exec (.igmpReport n g) s = .next s))

/-- R172, R174-R179: what the timers and the writes of a PTP port do: an Announce timeout puts it in LISTENING, or in MASTER with
ROLE = 1; a qualification ends in MASTER; a Sync timeout in SLAVE loses the time; its intervals send Sync with Follow_Up and Announce in
MASTER, and delay requests in UNCALIBRATED and SLAVE, or always with the 802.1AS profile; a write of its configuration starts it
afresh, with the group joined or left that this takes, and one of its time commits both halves in MASTER or while the port is off.
Where none of this can happen, nothing changes. -/
def Obligations.PtpTimersAndWritesAct : Prop :=
  ∀ (s : State) (n : Fin 4), let b := P.eth n
    (let t := onPtp s n fun p => { p with heard := [], parent := none };
      (ptpRuns s n → ptpSt s n = 4 ∨ 7 ≤ ptpSt s n → t.getF b F.ETH_PTP_CFG_ROLE = 0 →
        exec (.announceTimeout n) s = .next (ptpTo t n 4)) ∧
      (ptpRuns s n → ptpSt s n = 4 ∨ 7 ≤ ptpSt s n → t.getF b F.ETH_PTP_CFG_ROLE ≠ 0 →
        exec (.announceTimeout n) s = .next (ptpMaster t n))) ∧
    (ptpRuns s n = false ∨ (ptpSt s n ≠ 4 ∧ ptpSt s n < 7) → exec (.announceTimeout n) s = .next s) ∧
    (ptpRuns s n → ptpSt s n = 5 → exec (.qualificationTimeout n) s = .next (ptpMaster s n)) ∧
    (ptpRuns s n = false ∨ ptpSt s n ≠ 5 → exec (.qualificationTimeout n) s = .next s) ∧
    (ptpSt s n = 9 → s.isSet b F.ETH_PTP_STAT_GOOD → exec (.ptpSyncTimeout n) s =
      .next (clkSource (((s.setF b F.ETH_PTP_STAT_GOOD 0).raise b 3).bump b F.ETH_PTP_LOSS_CNT_COUNT))) ∧
    (ptpSt s n ≠ 9 ∨ s.isSet b F.ETH_PTP_STAT_GOOD = false → exec (.ptpSyncTimeout n) s = .next s) ∧
    (∀ at_ : Nat, let p := (s.link n).ptp; let peer := s.getF b F.ETH_PTP_CFG_PROFILE = 1
      let stamp := s.get64 (b + 0x8C) + BitVec.ofNat 64 at_ + BitVec.ofNat 64 (s.getF b F.ETH_PHY_LAT_TX)
      let log := signed 4 (s.getF b F.ETH_PTP_CFG_LOG_SYNC)
      let m := ptpMsg s n 11 p.seqAnn (s.get64 (b + 0x8C) + BitVec.ofNat 64 at_) (s.getF b F.ETH_PTP_CFG_LOG_ANN : Nat)
      (ptpRuns s n → ptpSt s n = 6 →
        exec (.ptpTimer n 0 at_) s = .next (sendFrames (onPtp s n fun x => { x with seqSync := p.seqSync + 1 }) n
          [ptpFrame s n (ptpMsg s n 0 p.seqSync 0 log), ptpFrame s n (ptpMsg s n 8 p.seqSync stamp log)]) ∧
        exec (.ptpTimer n 1 at_) s = .next (sendFrame (onPtp s n fun x => { x with seqAnn := p.seqAnn + 1 }) n
          (ptpFrame s n { m with ann := some (ownSet s n) }))) ∧
      (ptpRuns s n → peer ∨ ptpSt s n = 8 ∨ ptpSt s n = 9 →
        let lost := if p.req.isSome then p.lost + 1 else p.lost
        let t := onPtp s n fun x => { x with seqDly := p.seqDly + 1, lost := lost, req := some (p.seqDly, stamp), resp := none }
        let u := if peer ∧ 9 < lost then setCapable t n false else t
        exec (.ptpTimer n 2 at_) s = .next (sendFrame u n (ptpFrame u n (ptpMsg u n (if peer then 2 else 1) p.seqDly 0 127)))) ∧
      (ptpRuns s n = false ∨ ptpSt s n ≠ 6 →
        exec (.ptpTimer n 0 at_) s = .next s ∧ exec (.ptpTimer n 1 at_) s = .next s) ∧
      (ptpRuns s n = false ∨ (¬peer ∧ ptpSt s n ≠ 8 ∧ ptpSt s n ≠ 9) → exec (.ptpTimer n 2 at_) s = .next s)) ∧
    (∀ (r : Req) (v : Word), let a := b + 0x6C; let t := s.wakeFor a
      served s r a →
      (ptpCfgOk v → exec (.ptpCfgWrite r n false v) s =
        .next ((regroup n (fun u => ptpRestart (u.store a v) n) t).answered .done)) ∧
      (ptpCfgOk v = false → exec (.ptpCfgWrite r n false v) s = .next ((t.refuseAt r 0xFF a .range).answered .range))) ∧
    (∀ (r : Req) (v : Word), let a := b + 0x70; let t := s.wakeFor a
      served s r a → exec (.ptpCfgWrite r n true v) s =
        .next ((regroup n (fun u => ptpRestart (u.store a v) n) t).answered .done)) ∧
    (∀ f : State → State, groupsOf (f s) n = groupsOf s n → regroup n f s = f s) ∧
    (∀ (r : Req) (v : Word), let a := b + 0x90; let t := s.wakeFor a
      served s r a →
      (ptpSt t n = 6 ∨ t.isSet b F.ETH_PTP_CFG_EN = false →
        exec (.ptpTimeWrite r n v) s = .next (((t.set64 (b + 0x8C) (pairValue t r a v)).dropHold r a).answered .done)) ∧
      (ptpSt t n ≠ 6 → t.isSet b F.ETH_PTP_CFG_EN →
        exec (.ptpTimeWrite r n v) s = .next ((t.refuseAt r 0xFF a .state).answered .state)))

/-- R86-R89, R169-R172, R174-R178, R184, R195, R197: what a frame received on a link that is up does, where Swarm has nothing to do with
it: its headers say what it is for (log entry 81), and the command of that kind brings it there, counted; one with a wrong FCS or
checksum, or that no function takes, is counted and dropped, one that the MAC filters is not counted; a command of another kind than
the frame's, or on a link that is not up, changes nothing. A frame sent is counted, and takes its place in the order of its period; a
release of Swarm lets go what it holds. -/
def Obligations.ReceivedFramesReachTheirUnits : Prop :=
  ∀ (s : State) (n : Fin 4) (at_ : Nat) (f : List Byte), let b := P.eth n; let x := s.inc64 (b + 0x94); let k := netIn s n f
    let off := linkUp s n = false ∨ netOn s = false
    (off ∨ k.row ≠ .rtp → exec (.rtpReceive n f) s = .next s) ∧ (off ∨ k.row ≠ .sync → exec (.ptpSync n at_ f) s = .next s) ∧
    (off ∨ k.row ≠ .announce → exec (.announceFrame n f) s = .next s) ∧
    (off ∨ k.row ≠ .delay → exec (.ptpDelayMsg n at_ f) s = .next s) ∧
    (off ∨ k.row ≠ .discard → exec (.ethFrameDiscard n f) s = .next s) ∧ (off ∨ k.row ≠ .arp → exec (.arpFrame n f) s = .next s) ∧
    (off ∨ k.row ≠ .echo → exec (.echoFrame n f) s = .next s) ∧ (off ∨ k.row ≠ .igmp → exec (.igmpFrame n f) s = .next s) ∧
    (off ∨ k.row ≠ .udp → exec (.udpFrame n f) s = .next s) ∧
    (swarmQuiet s → linkUp s n → netOn s →
      (∀ p, k = .rtp p →
        (p.badSum → exec (.rtpReceive n f) s = .next ((x.bump b F.ETH_CSUM_CNT_COUNT).err b)) ∧
        (p.badSum = false → ∀ j, (List.range 32).find? (rxMatch x n p) = some j →
          exec (.rtpReceive n f) s = .next (rxPacket x n j p)) ∧
        (p.badSum = false → (List.range 32).find? (rxMatch x n p) = none →
          exec (.rtpReceive n f) s = .next ((x.bump b F.ETH_DROP_CNT_COUNT).err b))) ∧
      (∀ m, k = .ptp m → m.type = 0 ∨ m.type = 8 →
        let mine := ptpFits x n m ∧ (ptpSt x n = 8 ∨ ptpSt x n = 9) ∧ (x.link n).ptp.parent.map (·.sender) = some m.port ∧
          -7 ≤ m.log ∧ m.log ≤ 4
        let t2 := x.get64 (b + 0x8C) + BitVec.ofNat 64 at_ + BitVec.ofNat 64 (x.getF b F.ETH_PHY_LAT_RX)
        (¬mine → exec (.ptpSync n at_ f) s = .next x) ∧
        (mine → m.type = 0 → m.two = false →
          exec (.ptpSync n at_ f) s = .next (syncMeasured x n ((t2 - m.ts).toInt - m.corr))) ∧
        (mine → m.type = 0 → m.two →
          exec (.ptpSync n at_ f) s = .next (onPtp x n fun p => { p with sync := some (m.seq, t2, m.corr) })) ∧
        (mine → m.type = 8 →
          (∀ t c, (x.link n).ptp.sync = some (m.seq, t, c) →
            exec (.ptpSync n at_ f) s = .next (syncMeasured x n ((t - m.ts).toInt - c - m.corr))) ∧
          ((x.link n).ptp.sync.map (·.1) ≠ some m.seq → exec (.ptpSync n at_ f) s = .next x))) ∧
      (∀ m, k = .ptp m → m.type = 11 →
        (ptpFits x n m → 4 ≤ ptpSt x n →
          exec (.announceFrame n f) s = .next (ptpDecide (onPtp x n fun p => { p with heard := hear m.ann p.heard }) n)) ∧
        (ptpFits x n m = false ∨ ptpSt x n < 4 → exec (.announceFrame n f) s = .next x)) ∧
      (∀ m, k = .ptp m → m.type ≠ 0 → m.type ≠ 8 → m.type ≠ 11 →
        exec (.ptpDelayMsg n at_ f) s = .next (ptpDelayIn n at_ m x) ∧
        (ptpFits x n m = false → ptpDelayIn n at_ m x = x) ∧
        (ptpFits x n m → x.getF b F.ETH_PTP_CFG_PROFILE ≠ 1 → m.type = 1 → ptpSt x n = 6 → ptpDelayIn n at_ m x =
          sendFrame x n (ptpFrame x n { ptpMsg x n 9 m.seq (rxStamp x n at_) (logDly x n) with corr := m.corr, req := m.port })) ∧
        (ptpFits x n m → let peer := x.getF b F.ETH_PTP_CFG_PROFILE = 1; let e2e := m.type = 1 ∨ m.type = 9
          (¬(peer ↔ ¬e2e) → ptpDelayIn n at_ m x = x) ∧
          ((peer ↔ ¬e2e) →
            (m.type = 1 → ptpSt x n ≠ 6 → ptpDelayIn n at_ m x = x) ∧
            (m.type = 2 → ptpDelayIn n at_ m x = sendFrames x n
              [ptpFrame x n { ptpMsg x n 3 m.seq (rxStamp x n at_) 127 with corr := m.corr, req := m.port },
                ptpFrame x n { ptpMsg x n 10 m.seq (txStamp x n at_) 127 with req := m.port }]) ∧
            (m.type ≠ 1 → m.type ≠ 2 → ((x.link n).ptp.req = none → ptpDelayIn n at_ m x = x) ∧
              (∀ q t, (x.link n).ptp.req = some (q, t) → ptpDelayIn n at_ m x = ptpRespIn n at_ m q t x))))) ∧
      (∀ (m : PtpMsg) (q : BitVec 16) (t : BitVec 64), let p := (x.link n).ptp; let t4 := rxStamp x n at_
        let here := ptpRespIn n at_ m q t x
        (m.req ≠ ownPort n ∨ m.seq ≠ q → here = x) ∧
        (m.req = ownPort n → m.seq = q →
          (m.type = 9 →
            (∀ ms, p.ms = some ms → (ptpSt x n = 8 ∨ ptpSt x n = 9) → p.parent.map (·.sender) = some m.port →
              here = setDelay (onPtp x n fun p => { p with req := none }) n ((ms + (m.ts - t).toInt - m.corr) / 2)) ∧
            (p.ms = none ∨ (ptpSt x n ≠ 8 ∧ ptpSt x n ≠ 9) ∨ p.parent.map (·.sender) ≠ some m.port → here = x)) ∧
          (m.type = 3 →
            (m.two → here = onPtp x n fun p => { p with resp := some (m.seq, m.ts, t4, m.corr) }) ∧
            (m.two = false → here = peerDelay x n ((t4 - t).toInt - m.corr))) ∧
          (m.type ≠ 9 → m.type ≠ 3 →
            (∀ t2 t3 c, p.resp = some (m.seq, t2, t3, c) → here = peerDelay x n ((t3 - t).toInt - (m.ts - t2).toInt - c - m.corr)) ∧
            (p.resp.map (·.1) ≠ some m.seq → here = x)))) ∧
      (k = .fcs → exec (.ethFrameDiscard n f) s = .next ((s.bump b F.ETH_FCS_CNT_COUNT).err b)) ∧
      (k = .filtered → exec (.ethFrameDiscard n f) s = .next s) ∧
      (k = .drop → exec (.ethFrameDiscard n f) s = .next ((x.bump b F.ETH_DROP_CNT_COUNT).err b)) ∧
      (k = .csum → exec (.ethFrameDiscard n f) s = .next ((x.bump b F.ETH_CSUM_CNT_COUNT).err b)) ∧
      (k = .ignored → exec (.ethFrameDiscard n f) s = .next x) ∧
      (∀ reply sip smac tip, k = .arp reply sip smac tip → exec (.arpFrame n f) s = .next (arpIn n reply sip smac tip x) ∧
        (linkIp x n ≠ 0 → sip ≠ linkIp x n → tip = linkIp x n → reply = false → arpIn n reply sip smac tip x =
          (let t := arpLearn x n sip smac; sendFrame t n (otherFrame t n smac (.arp true sip smac)))) ∧
        (linkIp x n = 0 ∨ (sip = linkIp x n ∧ smac = linkMac x n) → arpIn n reply sip smac tip x = x) ∧
        (linkIp x n ≠ 0 → sip = linkIp x n → smac ≠ linkMac x n → arpIn n reply sip smac tip x = arpConflict x n) ∧
        (linkIp x n ≠ 0 → sip ≠ linkIp x n → tip ≠ linkIp x n ∨ reply → arpIn n reply sip smac tip x =
          if (x.link n).arp.any (fun e => e.ip == sip) || (x.link n).asked.contains sip then arpLearn x n sip smac else x)) ∧
      (∀ src data, k = .echo src data → exec (.echoFrame n f) s =
        .next (sendIp x n src (overIp x n src 0 (otherFrame x n 0 (.echo data))))) ∧
      (∀ v2 group srcs, k = .igmp v2 group srcs → exec (.igmpFrame n f) s = .next (igmpIn n v2 group srcs x) ∧
        (v2 = false → igmpIn n v2 group srcs x =
          reportGroups x n (((groupsOf x n).filter fun g => group == 0 || g.1 == group).flatMap (queryAnswer srcs))) ∧
        (v2 → igmpIn n v2 group srcs x =
          (let u := x.onLink n fun l => { l with
              v2 := some ((x.get64 0x006068).toNat + 260000), reports := if igmpV2 x n then l.reports else [] }
           reportGroups u n (((groupsOf u n).filter fun g => group == 0 || g.1 == group).flatMap (queryAnswer srcs))))) ∧
      (k = .igmpOther → exec (.igmpFrame n f) s = .next x) ∧
      (∀ ip port bytes, k = .plosto ip port bytes →
        let key := leNat ((bytes.drop 1).take 1); let tail := if key = 0xFF then 0 else 16
        let d : UdpIn := ⟨n, ip, port, key, BitVec.ofNat 32 (leNat ((bytes.drop 12).take 4)),
          (bytes.drop 16).take (bytes.length - 16 - tail)⟩
        (bytes.length < 28 + tail ∨ 288 < bytes.length ∨ bytes.headD 0 ≠ 1 → exec (.udpFrame n f) s = .next (x.err P.kpr)) ∧
        (28 + tail ≤ bytes.length → bytes.length ≤ 288 → bytes.headD 0 = 1 → exec (.udpFrame n f) s = .next (
          if udpAuth x d bytes = false then udpFail x d 0xFF .auth
          else if udpAgain x d then udpResend x d else udpQueue (udpTake x d) d)))) ∧
    (swarmQuiet s → linkUp s n → ∀ g : Sent, sendFrame s n g =
      (s.onLink n fun l => { l with sent := insertSent g l.sent }).inc64 (b + 0x9C)) ∧
    (∀ (g : Sent) (l : List Sent), l.Pairwise (fun y z => y.rank ≤ z.rank) →
      (insertSent g l).Pairwise (fun y z => y.rank ≤ z.rank) ∧ (insertSent g l).Perm (g :: l)) ∧
    (∀ (tx : Bool) (c : Fin 34), let l := (heldOf s n tx c).dropWhile (fun h => !h.delayed)
      (l = [] → exec (.swarmRelease (.frame n tx c at_)) s = .next s) ∧
      (∀ h t, l = h :: t → let out := h :: t.takeWhile fun y => !y.delayed
        exec (.swarmRelease (.frame n tx c at_)) s =
          .next (forEach out (fun h u => if tx then emit n h.frame u else rxGo n at_ h.frame u) (unhold s out)))) ∧
    (∀ p : Fin 2, exec (.swarmRelease (.lines p)) s =
      .next (s.onSwm fun w => { w with pulls := w.pulls.filter fun y => y.1 != p.val }))

/-- R173, R180-R183, R192, R194-R196, R201: what the stream commands do: an enabling write passes its checks and holds channels, or is
refused with the first that it fails; a disabling one ends in the next period; a receive stream without packets stalls; a packet is
sent, marked as a media frame, or skipped in HOLD, and a stream that was disabled ends with it; and STREAM_SET, STREAM_CLEAR and
STREAM_QUERY act on the table. -/
def Obligations.StreamsEnableSendAndStall : Prop :=
  ∀ s : State,
    (∀ (r : Req) (tx : Bool) (j : Fin 32) (v : Word), let a := strAddr tx j; let w := setField v 31 31 1; let t := s.wakeFor a
      let d := b2n tx; let c := strCheck t d j (w :: (strWords t d j).drop 1)
      served s r a →
      (strOn t d j = false → c = .done →
        exec (.streamEnable r tx j v) s = .next ((strEnable ((strClose t d j).store a w) d j).answered .done)) ∧
      (strOn t d j = false → c ≠ .done → exec (.streamEnable r tx j v) s = .next ((t.refuseAt r 0xFF a c).answered c)) ∧
      (strOn t d j → (regAt a).map (·.store (t.rd a) w) = some (t.rd a) →
        exec (.streamEnable r tx j v) s = .next (t.answered .done)) ∧
      (strOn t d j → (regAt a).map (·.store (t.rd a) w) ≠ some (t.rd a) →
        exec (.streamEnable r tx j v) s = .next ((t.refuseAt r 0xFF a .state).answered .state))) ∧
    (∀ (r : Req) (tx : Bool) (j : Fin 32) (v : Word), let a := strAddr tx j; let t := s.wakeFor a
      served s r a →
      (strOn t (b2n tx) j → exec (.streamDisable r tx j v) s = .next ((strDisable t (b2n tx) j).answered .done)) ∧
      (strOn t (b2n tx) j = false →
        exec (.streamDisable r tx j v) s = .next ((t.store a (setField v 31 31 0)).answered .done))) ∧
    (∀ j : Fin 32, let b := P.rx j
      (strOn s 0 j → s.getF b F.STR_RX_CTRL_STATE = 2 →
        exec (.streamStall j) s = .next ((((s.setF b F.STR_RX_CTRL_STATE 3).bump b F.STR_RX_STALL_CNT_COUNT).raise (P.eth 0) 9).onRx j
          fun x => { RxHid.reset with off := x.off, newest := x.newest, cand := x.cand, levels := x.levels })) ∧
      (strOn s 0 j = false ∨ s.getF b F.STR_RX_CTRL_STATE ≠ 2 → exec (.streamStall j) s = .next s)) ∧
    (∀ j : Fin 32, let b := P.tx j; let n := s.getF b F.STR_TX_CTRL_LINK; let len := ptimeLen (s.getF b F.STR_TX_CTRL_PTIME)
      let due := (s.tx j).buf.length = len ∨ (s.stopped ∧ strOn s 1 j)
      let t := txSettle s j
      let u := t.onTx j fun x => { x with buf := [], seq := x.seq + 1 }
      let done := fun y : State => if (y.tx j).off then strClose y 1 j else y
      (strFirst s 1 j ≠ 0x3FF → awake s → due →
        (txHold t j ≠ 0 ∨ t.getF b F.STR_TX_CTRL_STATE = 1 →
          exec (.streamPacketTx j) s = .next (done (u.bump b F.STR_TX_SKIP_CNT_COUNT))) ∧
        (txHold t j = 0 → t.getF b F.STR_TX_CTRL_STATE ≠ 1 →
          let out := (s.tx j).buf.flatten.map (rtpBytes (sampleBytes (t.rd b)))
          let ts := BitVec.ofNat 32 ((t.get64 (P.clk + 0x68)).toNat / len * len) + t.rd (b + 0x18)
          let x := sendFrame u n (rtpFrame t j (s.tx j).seq ts (out.flatMap (·.1)))
          exec (.streamPacketTx j) s = .next (done (((x.inc64 (b + 0x28)).setF b F.STR_TX_SEQ_V (s.tx j).seq.toNat).countN
            (P.eth n + 0x20) (out.filter (·.2)).length)))) ∧
      (strFirst s 1 j = 0x3FF ∨ awake s = false ∨ ¬due → exec (.streamPacketTx j) s = .next s) ∧
      (∀ seq ts payload, let x := rtpFrame s j seq ts payload
        x.body = .rtp (s.getF b F.STR_TX_RTP_PT) seq ts (s.rd (b + 0x14)) payload ∧
        x.tag = (if s.isSet (P.eth n) F.ETH_CFG_VLAN then
          some (s.getF (P.eth n) F.ETH_CFG_PCP_MEDIA, s.getF (P.eth n) F.ETH_CFG_VID) else none) ∧
        x.ip = some ⟨linkIp s n, s.rd (b + 8), s.getF (P.eth n) F.ETH_IPCFG_TTL, s.getF (P.eth n) F.ETH_IPCFG_DSCP_MEDIA⟩)) ∧
    (∀ q : PlReq, let t := s.wakeFor (P.eth 0); let dir := field q.payload 0 1; let j := field q.payload 1 1
      let ws := toWords (q.payload.drop 4)
      (plServes s 0x20 q → pageServes s (P.eth 0) true → q.payload.length = 36 → dir ≤ 1 → field q.payload 2 2 = 0 →
        ∀ i, (j < 32 ∧ i = j ∧ strOn t dir j = false) ∨ (j = 0xFF ∧ freeEntry t dir = some i) →
        (strCheck t dir i ws = .done → let u := strEnable (strPut (strClose t dir i) dir i ws) dir i
          exec (.streamSet q) s = .next (u.plDone 0x20 q ([BitVec.ofNat 8 i, 0] ++ leBytes 2 (strFirst u dir i)))) ∧
        (strCheck t dir i ws = .range → exec (.streamSet q) s = .next (t.plRefuse (P.eth 0) 0 0x20 q .range [])) ∧
        (strCheck t dir i ws = .state → exec (.streamSet q) s = .next (t.plRefuse (P.eth 0) 0 0x20 q .state [])) ∧
        (strCheck t dir i ws = .full → exec (.streamSet q) s = .next (t.plRefuse (P.eth 0) 0 0x20 q .full []))) ∧
      (plServes s 0x20 q → pageServes s (P.eth 0) true →
        (q.payload.length ≠ 36 ∨ 1 < dir ∨ (32 ≤ j ∧ j ≠ 0xFF) ∨ field q.payload 2 2 ≠ 0 →
          exec (.streamSet q) s = .next (t.plRefuse (P.eth 0) 0 0x20 q .range [])) ∧
        (q.payload.length = 36 → dir ≤ 1 → field q.payload 2 2 = 0 →
          (j < 32 → strOn t dir j → let c := if strCheck t dir j ws = .range then Code.range else .state
            exec (.streamSet q) s = .next (t.plRefuse (P.eth 0) 0 0x20 q c [])) ∧
          (j = 0xFF → freeEntry t dir = none → let c := strCheck t dir 32 ws
            (c = .range ∨ c = .state → exec (.streamSet q) s = .next (t.plRefuse (P.eth 0) 0 0x20 q c [])) ∧
            (c ≠ .range → c ≠ .state → exec (.streamSet q) s = .next (t.plRefuse (P.eth 0) 0 0x20 q .full []))))) ∧
      (q.payload.length ≠ 4 ∨ 1 < dir ∨ (32 ≤ j ∧ j ≠ 0xFF) ∨ field q.payload 2 2 ≠ 0 →
        (plServes s 0x21 q → pageServes s (P.eth 0) true →
          exec (.streamClear q) s = .next (t.plRefuse (P.eth 0) 0 0x21 q .range [])) ∧
        (plServes s 0x22 q → pageServes s (P.eth 0) false →
          exec (.streamQuery q) s = .next (t.plRefuse (P.eth 0) 0 0x22 q .range []))) ∧
      (plServes s 0x21 q → pageServes s (P.eth 0) true → q.payload.length = 4 → dir ≤ 1 → j < 32 ∨ j = 0xFF →
        field q.payload 2 2 = 0 → let l := (List.range 32).filter fun i => strOn t dir i && (j == 0xFF || i == j)
        (l ≠ [] → exec (.streamClear q) s = .next ((forEach l (fun i u => strDisable u dir i) t).plDone 0x21 q [])) ∧
        (l = [] → exec (.streamClear q) s = .next (t.plRefuse (P.eth 0) 0 0x21 q .absent []))) ∧
      (plServes s 0x22 q → pageServes s (P.eth 0) false → q.payload.length = 4 → dir ≤ 1 → field q.payload 2 2 = 0 →
        (j < 32 → exec (.streamQuery q) s = .next (t.plDone 0x22 q
          (wordsBytes ((List.range 32).map fun i => t.rd (strBase dir j + 4 * i))))) ∧
        (j = 0xFF → exec (.streamQuery q) s = .next (t.plDone 0x22 q (wordsBytes ([t.rd (P.eth 0 + 0x104),
          t.rd (P.eth 0 + 0x108)] ++ (List.range 32).map fun i => t.rd (strBase dir i)))))))

/-- R202-R210, R231: what befalls the microphones: a microphone without transitions is ABSENT, one out of its density SAT, each
counted and raised, and OK again; a clock group that cannot be driven stops and is recorded until PDM_CTRL clears it; a deferred
change of mode proceeds when the detector reports no voice, or is forced after 2 s; the clocks change at the end of the block
that fades out; the microphones settle and fade in, and a change asked for meanwhile begins. Where none of this can happen, nothing
changes. -/
def Obligations.MicrophonesAreGuardedAndSwitched : Prop :=
  ∀ s : State,
    (∀ i : Fin 32,
      (micChecked s i → micSt s i = 1 ∨ micSt s i = 3 → exec (.micAbsent i) s =
        .next ((((s.setF P.pdm (micFld i) 2).bump P.pdm F.PDM_ABS_CNT_COUNT).raise P.pdm 0).err P.pdm)) ∧
      (micChecked s i = false ∨ micSt s i = 0 ∨ micSt s i = 2 → exec (.micAbsent i) s = .next s) ∧
      (micChecked s i → micSt s i = 1 ∨ micSt s i = 2 → exec (.micSat i) s =
        .next ((((s.setF P.pdm (micFld i) 3).bump P.pdm F.PDM_SAT_CNT_COUNT).raise P.pdm 1).err P.pdm)) ∧
      (micChecked s i = false ∨ micSt s i = 0 ∨ micSt s i = 3 → exec (.micSat i) s = .next s) ∧
      (2 ≤ micSt s i → exec (.micOk i) s = .next (s.setF P.pdm (micFld i) 1)) ∧
      (micSt s i < 2 → exec (.micOk i) s = .next s)) ∧
    (∀ g : Fin 4,
      let t := s.setF P.pdm F.PDM_STAT_CLK_FLT (s.getF P.pdm F.PDM_STAT_CLK_FLT ||| 2 ^ g.val)
      (grpRuns s g → exec (.pdmClkFault g) s = .next (micRefresh ((((t.setF P.pdm F.PG_STAT_FAULT 1).raise P.pdm 24).err P.pdm).log
        0x0030 3 0x0014 0 [BitVec.ofNat 8 g]))) ∧
      (grpRuns s g = false → exec (.pdmClkFault g) s = .next s)) ∧
    (∀ (r : Req) (v : Word), let a := P.pdm + 0x48; let t := s.wakeFor a
      let gs := (List.range 4).filter fun g => bit v g && grpFault t g
      let left := (List.range 4).foldl (fun m g => m + (if grpFault t g && !gs.contains g then 2 ^ g else 0)) 0
      served s r a → exec (.pdmClrFlt r v) s = .next ((micRefresh (((t.setF P.pdm F.PDM_STAT_CLK_FLT left).setF P.pdm
        F.PG_STAT_FAULT (b2n (left != 0))).onPdm fun p => { p with settling := p.settling ++ gs })).answered .done)) ∧
    (let t := s.setF P.pdm F.PDM_STAT_PENDING 0; let voice := s.isSet P.sct F.SCT_STAT_VAD
      (s.pdm.phase = .deferred → voice = false → exec .pdmGoOn s =
        .next ((t.setF P.pdm F.PDM_STAT_FORCED 0).onPdm fun p => { p with phase := .closing })) ∧
      (s.pdm.phase = .deferred → voice → 2000 ≤ s.getF P.pdm F.PDM_STAT_DEFER → exec .pdmGoOn s =
        .next ((((t.setF P.pdm F.PDM_STAT_FORCED 1).bump P.pdm F.PDM_FORCE_CNT_COUNT).raise P.pdm 3).onPdm
          fun p => { p with phase := .closing })) ∧
      (s.pdm.phase ≠ .deferred ∨ (voice ∧ s.getF P.pdm F.PDM_STAT_DEFER < 2000) → exec .pdmGoOn s = .next s)) ∧
    (s.pdm.phase = .faded → exec .pdmSwitch s = .next (pdmShow (micRefresh (s.onPdm fun p =>
      { p with full := p.want.getD p.full, want := none, phase := .switching, fade := 0 })))) ∧
    (s.pdm.phase ≠ .faded → exec .pdmSwitch s = .next s) ∧
    (let t := s.onPdm fun p => { p with settling := [] }; let u := (pdmShow (t.onPdm fun p => { p with phase := .steady, next := none })).raise P.pdm 2
      (s.pdm.phase = .switching → s.pdm.next = none → exec .pdmSettleEnd s = .next u) ∧
      (∀ full, s.pdm.phase = .switching → s.pdm.next = some full → exec .pdmSettleEnd s = .next (pdmRequest u full)) ∧
      (s.pdm.phase ≠ .switching → exec .pdmSettleEnd s = .next t))

/-- R217, R222, R223, R227-R229, R232: what the commands of the Scout do: MODEL_LOAD takes an image piece by piece and a slot is
READY only with an image that passes its checks, and EMPTY after a failure, an erasure or a memory error; a slot is enabled where the
ring and the rate of its model allow it; the Scout starts, stops, closes its seal and names its microphones, each refused in the other
states; RING_READ answers only from an open seal. -/
def Obligations.ScoutCommandsAct : Prop :=
  ∀ (s : State) (q : PlReq), let t := s.wakeFor P.sct; let p := q.payload; let k := field p 1 1
    (plServes s 0x28 q → pageServes s P.sct true → let size := field p 4 4; let slot := beginSlot t k
      let others := (((List.range 4).filter fun i => slot != some i).map fun i => slotBytes (t.slot i)).foldl (· + ·) 0
      let bad := p.length ≠ 8 ∨ field p 2 2 ≠ 0 ∨ (4 ≤ k ∧ k ≠ 0xFF) ∨ size < 64 ∨ 131072 < others + size
      (bad → exec (.modelLoadBegin q) s = .next (t.plRefuse P.sct 0 0x28 q .range [])) ∧
      (¬bad → slot = none → exec (.modelLoadBegin q) s = .next (t.plRefuse P.sct 0 0x28 q .full [])) ∧
      (∀ j, ¬bad → slot = some j →
        (slotSt t j = 3 → exec (.modelLoadBegin q) s = .next (t.plRefuse P.sct 0 0x28 q .state [])) ∧
        (slotSt t j ≠ 3 → (∃ i < 4, i ≠ j ∧ slotSt t i = 1) →
          exec (.modelLoadBegin q) s = .next (t.plRefuse P.sct 0 0x28 q .busy [])) ∧
        (slotSt t j ≠ 3 → (∀ i < 4, i ≠ j → slotSt t i ≠ 1) →
          let u := (t.onSlot j fun x => { x with load := some (List.replicate size none) }).setF (slotBase j) F.SCT_SLOT_CFG_STATE 1
          exec (.modelLoadBegin q) s = .next ((modelUsed u).plDone 0x28 q [BitVec.ofNat 8 j, 0, 0, 0])))) ∧
    (plServes s 0x28 q → pageServes s P.sct true → field p 2 2 = 0 → k < 4 →
      (∀ l, 9 ≤ p.length → (p.drop 8).length ≤ 236 → (t.slot k).load = some l → field p 4 4 + (p.drop 8).length ≤ l.length →
        exec (.modelLoadData q) s = .next ((t.onSlot k fun x =>
          { x with load := some (putImage l (field p 4 4) (p.drop 8)) }).plDone 0x28 q [])) ∧
      (∀ l, 9 ≤ p.length → (p.drop 8).length ≤ 236 → (t.slot k).load = some l → l.length < field p 4 4 + (p.drop 8).length →
        exec (.modelLoadData q) s = .next (t.plRefuse P.sct 0 0x28 q .range [])) ∧
      (p.length = 4 → (t.slot k).load = none → exec (.modelLoadEnd q) s = .next (t.plRefuse P.sct 0 0x28 q .state [])) ∧
      (9 ≤ p.length → (p.drop 8).length ≤ 236 → (t.slot k).load = none →
        exec (.modelLoadData q) s = .next (t.plRefuse P.sct 0 0x28 q .state [])) ∧
      (∀ l, p.length = 4 → (t.slot k).load = some l →
        let c := if l.any (·.isNone) then .check else modelCheck (l.filterMap id)
        (c = .done → exec (.modelLoadEnd q) s = .next (((slotTake t k (l.filterMap id)).raise P.sct 7).plDone 0x28 q [])) ∧
        (c ≠ .done → exec (.modelLoadEnd q) s = .next ((slotEmpty t k).plRefuse P.sct 0 0x28 q c []))) ∧
      (p.length = 4 → slotSt t k ≠ 3 → exec (.modelLoadErase q) s = .next ((slotEmpty t k).plDone 0x28 q [])) ∧
      (p.length = 4 → slotSt t k = 3 → exec (.modelLoadErase q) s = .next (t.plRefuse P.sct 0 0x28 q .state []))) ∧
    (plServes s 0x28 q → pageServes s P.sct true →
      (p.length < 9 ∨ 236 < (p.drop 8).length ∨ field p 2 2 ≠ 0 ∨ 4 ≤ k →
        exec (.modelLoadData q) s = .next (t.plRefuse P.sct 0 0x28 q .range [])) ∧
      (p.length ≠ 4 ∨ field p 2 2 ≠ 0 ∨ 4 ≤ k → exec (.modelLoadEnd q) s = .next (t.plRefuse P.sct 0 0x28 q .range []) ∧
        exec (.modelLoadErase q) s = .next (t.plRefuse P.sct 0 0x28 q .range []))) ∧
    (∀ j : Fin 4, (slotSt s j ≠ 0 → exec (.modelEccError j) s =
        .next ((((slotEmpty s j).raise P.sct 24).err P.sct).log 0x0034 3 0x0015 0 [BitVec.ofNat 8 j])) ∧
      (slotSt s j = 0 → exec (.modelEccError j) s = .next s)) ∧
    (∀ (j : Fin 4) (r : Req) (v : Word), let a := slotBase j + 0x80; let w := setField v 31 31 1; let u := s.wakeFor a
      let macs := (((List.range 4).filter fun i => i != j.val && slotSt u i == 3).map fun i =>
        modelMacs (u.slot i).model).foldl (· + ·) 0
      let short := ringLen u < 16000 + 160 * (modelWindow (u.slot j).model + 8) ∨ 3500000 < macs + modelMacs (u.slot j).model
      let was := u.isSet (slotBase j) F.SCT_SLOT_CFG_EN
      served s r a →
      (getField w 7 0 = 0 ∨ (was = false ∧ slotSt u j = 2 ∧ short) →
        exec (.slotEnable r j v) s = .next ((u.refuseAt r 0xFF a .range).answered .range)) ∧
      (getField w 7 0 ≠ 0 → was = false → slotSt u j ≠ 2 →
        exec (.slotEnable r j v) s = .next ((u.refuseAt r 0xFF a .state).answered .state)) ∧
      (getField w 7 0 ≠ 0 → was = false → slotSt u j = 2 → ¬short →
        exec (.slotEnable r j v) s = .next ((((u.store a w).onSlot j fun x => { x with scores := [], holdoff := 0 }).setF (slotBase j)
          F.SCT_SLOT_CFG_STATE 3).answered .done)) ∧
      (getField w 7 0 ≠ 0 → was → exec (.slotEnable r j v) s = .next ((u.store a w).answered .done))) ∧
    (∀ (r : Req) (v : Word), let a := P.sct + 0x40; let u := s.wakeFor a
      let refused := fun c => Host.Outcome.next ((u.refuseAt r 0xFF a c).answered c)
      (let w := setField v 0 0 1; let can := u.st P.sct = 2 ∧ scoutMics u ≠ [] ∧ u.en P.sct
        served s r a →
        (bit w 1 ∨ bit w 2 → exec (.sctStart r v) s = refused .range) ∧
        (bit w 1 = false → bit w 2 = false → can →
          exec (.sctStart r v) s = .next (((ringClear (sctFresh u)).setSt P.sct 3).answered .done)) ∧
        (bit w 1 = false → bit w 2 = false → ¬can → exec (.sctStart r v) s = refused .state)) ∧
      (let w := setField v 1 1 1
       served s r a →
        (bit w 0 ∨ bit w 2 → exec (.sctStop r v) s = refused .range) ∧
        (bit w 0 = false → bit w 2 = false →
          (u.st P.sct = 3 → exec (.sctStop r v) s = .next ((sctFresh (u.setSt P.sct 2)).answered .done)) ∧
          (u.st P.sct = 4 → exec (.sctStop r v) s = .next ((sctFresh (sealClose u 2)).answered .done)) ∧
          (u.st P.sct ≠ 3 → u.st P.sct ≠ 4 → exec (.sctStop r v) s = refused .state))) ∧
      (let w := setField v 2 2 1
       served s r a →
        (bit w 0 ∨ bit w 1 → exec (.sctClose r v) s = refused .range) ∧
        (bit w 0 = false → bit w 1 = false →
          (u.st P.sct = 4 → exec (.sctClose r v) s = .next ((sealClose u 3).answered .done)) ∧
          (u.st P.sct ≠ 4 → exec (.sctClose r v) s = refused .state)))) ∧
    (∀ (r : Req) (v : Word), let a := P.sct + 0x44; let u := s.wakeFor a; let x := (u.store a v).zeroMem 0xFC0000 0x1000000
      served s r a →
      (micsOk v → u.st P.sct ≠ 4 → exec (.sctMicWrite r v) s =
        .next ((micRefresh (x.setF P.sct F.SCT_STAT_NMIC (scoutMics x).length)).answered .done)) ∧
      (micsOk v → u.st P.sct = 4 → exec (.sctMicWrite r v) s = .next ((u.refuseAt r 0xFF a .state).answered .state)) ∧
      (micsOk v = false → exec (.sctMicWrite r v) s = .next ((u.refuseAt r 0xFF a .range).answered .range))) ∧
    (let m := field p 0 1; let off := field p 4 4; let n := field p 8 2; let l := ringLen t
      plServes s 0x29 q → pageServes s P.sct false → p.length = 12 → field p 1 3 = 0 → field p 10 2 = 0 → 1 ≤ n → n ≤ 120 →
      m < (scoutMics t).length →
      (t.st P.sct = 4 → off + n ≤ t.getF P.sct F.SCT_OPEN_LEN_VALUE → exec (.ringRead q) s = .next (t.plDone 0x29 q
        ((List.range n).flatMap fun i =>
          let a := 0xFC0000 + m * (2 * l) + 2 * ((t.getF P.sct F.SCT_OPEN_BEGIN_VALUE + off + i) % l)
          [byteAt t.mem a, byteAt t.mem (a + 1)]))) ∧
      (t.st P.sct ≠ 4 → exec (.ringRead q) s =
        .next (((t.bump P.sct F.SCT_SEALED_CNT_COUNT).err P.sct).plRefuse P.sct 0 0x29 q .sealed [])) ∧
      (t.st P.sct = 4 → t.getF P.sct F.SCT_OPEN_LEN_VALUE < off + n →
        exec (.ringRead q) s = .next (t.plRefuse P.sct 0 0x29 q .range []))) ∧
    (plServes s 0x29 q → pageServes s P.sct false → p.length ≠ 12 ∨ field p 1 3 ≠ 0 ∨ field p 10 2 ≠ 0 ∨ field p 8 2 < 1 ∨
        120 < field p 8 2 ∨ (scoutMics t).length ≤ field p 0 1 →
      exec (.ringRead q) s = .next (t.plRefuse P.sct 0 0x29 q .range []))

/-- R211-R213, R215, R216, R219-R221: what the Scout hears: a frame of 160 samples enters the detector while the Scout works, and one
without voice trains the noise floor and the means of the bands; voice begins after its count of voiced frames, and in it the models judge each frame that is no gap frame; voice
ends after its hang; a sample of a knock sensor moves its
envelope and its floor, one that exceeds the blow level is a blow, one that exceeds the floor by the knock level is a knock, and the
sensor is armed again when it has fallen and its dead time has passed. Where none of this can happen, nothing changes. -/
def Obligations.ScoutHearsVoiceAndKnocks : Prop :=
  ∀ s : State,
    (sctOn s → 160 ≤ s.sct.fresh → exec .scoutFrameEnd s = .next (scoutFrame s)) ∧
    (sctOn s = false ∨ s.sct.fresh < 160 → exec .scoutFrameEnd s = .next s) ∧
    (let samples := s.sct.mean.map (·.1); let w := samples ++ List.replicate (400 - samples.length) 0
      let gap := s.sct.mean.any (·.2); let lv := Config.voiceDb (w.take 160)
      let voiced := (scoutMics s).any (fun i => micSt s i == 1) && decide (s.sct.floor + s.getF P.sct F.SCT_VAD_THR * 2 ^ 63 < lv)
      let f := (List.range 40).map fun b => feature (Config.melDb w b) (s.sct.mel.getD b 0)
      let u := s.onSct fun x => { x with
        fresh := x.fresh - 160
        frames := ((if gap then none else some f) :: x.frames).take 300
        floor := if voiced then x.floor else follow2s x.floor lv
        mel := if voiced then x.mel else x.mel.mapIdx fun b m => follow2s m (Config.melDb w b)
        voiced := if voiced then x.voiced + 1 else 0
        since := if voiced then 0 else x.since + 1 }
      let on := ((u.setF P.sct F.SCT_STAT_VAD 1).raise P.sct 5).onSct fun x =>
        { x with run := ((s.sct.frames.filterMap id).take 50).reverse }
      let judged := fun y : State =>
        (let r := slotsFrame (y.onSct fun x => { x with run := x.run ++ [f] }); detectAll r.1 r.2)
      (u.isSet P.sct F.SCT_STAT_VAD →
        (gap → scoutFrame s = u) ∧ (gap = false → scoutFrame s = judged u)) ∧
      (u.isSet P.sct F.SCT_STAT_VAD = false → u.sct.voiced < u.getF P.sct F.SCT_VAD_MIN →
        (gap → scoutFrame s = u) ∧
        (gap = false → scoutFrame s = u.onSct fun x => { x with slots := x.slots.map fun y => { y with holdoff := y.holdoff - 1 } })) ∧
      (u.isSet P.sct F.SCT_STAT_VAD = false → u.getF P.sct F.SCT_VAD_MIN ≤ u.sct.voiced →
        (gap → scoutFrame s = scoutFrame.primeSlots on) ∧
        (gap = false → regsWf s.regs → scoutFrame s = judged (scoutFrame.primeSlots on)))) ∧
    (s.isSet P.sct F.SCT_STAT_VAD → s.getF P.sct F.SCT_VAD_HANG ≤ s.sct.since →
      exec .vadOff s = .next (((s.setF P.sct F.SCT_STAT_VAD 0).raise P.sct 6).onSct fun x => { x with run := [], voiced := 0 })) ∧
    (s.isSet P.sct F.SCT_STAT_VAD = false ∨ s.sct.since < s.getF P.sct F.SCT_VAD_HANG → exec .vadOff s = .next s) ∧
    (∀ (n : Fin 2) (v : Word),
      let u := knockRearm s n; let x := u.sct.bz.getD n Knock.reset
      let b := Config.knockBand (bzBand u n) x.filt v.toInt
      let l := envLevel u (peakFollow x.env (b.2.natAbs * 2 ^ 33)); let t := l.2; let lvl := l.1
      let floor := if lvl < x.floor + knockAt t then x.floor + roundDiv (lvl - x.floor) 80000 else x.floor
      let put (armed : Bool) (age : Nat) : State := t.onSct fun z => { z with bz := modifyAt (fun _ =>
        ⟨b.1, peakFollow x.env (b.2.natAbs * 2 ^ 33), lvl, floor, armed, age⟩) n z.bz }
      (sctOn s → bzOn s n →
        exec (.bzSample n v) s = .next (if x.armed ∧ -(blowAt t) ≤ lvl then blow (put false 0) n lvl
          else if x.armed ∧ floor + knockAt t ≤ lvl then knock (put false 0) n lvl else put x.armed (x.age + 1))) ∧
      (sctOn s = false ∨ bzOn s n = false → exec (.bzSample n v) s = .next s)) ∧
    (∀ n : Fin 2, let x := s.sct.bz.getD n Knock.reset
      let again := x.armed = false ∧ x.lvl < x.floor + knockAt s - 6 * 2 ^ 64 ∧ 160 * s.getF P.sct F.SCT_BZ_THR_DEAD ≤ x.age
      (again → exec (.knockRearm n) s = .next (s.onSct fun z => { z with bz := modifyAt (fun y => { y with armed := true }) n z.bz })) ∧
      (¬again → exec (.knockRearm n) s = .next s))

/-- R227: a seal whose time has run out: the open region and its counts read 0, every byte of the ring is 0, no other byte of memory
changes, the page is LISTENING, and SEAL_CLOSE is raised. Before that, and while no seal is open, nothing changes. -/
def Obligations.SealTimeoutErasesTheRing : Prop :=
  ∀ s : State,
    (s.st P.sct ≠ 4 ∨ s.getF P.sct F.SCT_STAT_REMAIN ≠ 0 → exec .sealTimeout s = .next s) ∧
    (s.st P.sct = 4 → s.getF P.sct F.SCT_STAT_REMAIN = 0 → ∃ t, exec .sealTimeout s = .next t ∧
      (∀ a, 0xFC0000 ≤ a → a < 0x1000000 → byteAt t.mem a = 0) ∧
      (∀ a, a < 0xFC0000 ∨ 0x1000000 ≤ a → byteAt t.mem a = byteAt s.mem a) ∧
      t = ((((((((s.wr (P.sct + 0x58) 0).wr (P.sct + 0x5C) 0).setF P.sct F.SCT_STAT_OPEN 0).zeroMem 0xFC0000 0x1000000).wr
        (P.sct + 0x54) 0).setF P.sct F.SCT_STAT_REMAIN 0).onSct fun x => { x with closes := x.closes + 1, tick := 0 }).setSt P.sct
        3).raise P.sct 2)

/-- R234-R236, R247, R248, R250: what the commands of an analogue input do. A write of AIN_n_CFG out of range is RANGE, one that
changes MIC or BIAS_EN while the input is enabled, or enables it on a disabled page, STATE. Else it is stored; with EN = 1 it puts an
input that is OFF into SETTLING, its bias ramping up if BIAS_EN asks for it, and a change of BIAS ramps the bias there; with EN = 0
it stops the input: the source fades, the bias ramps down, and the end of that is OFF. SETTLING ends in OK with the gain in full; the
gain then moves one step at a time; CLIP, OPEN and SHORT are counted and raised, OPEN and SHORT recorded, a short switches the bias
off, and a retry and a recovery undo it. Where none of this can happen, nothing changes. -/
def Obligations.AnalogueInputsFollowTheirCommands : Prop :=
  ∀ (s : State) (n : Fin 8), let b := ainBase n; let st := ainSt s n; let bias := s.an.biasOn.contains n.val
    (∀ r v, let a := b + 0x40; let t := s.wakeFor a; let was := t.isSet b F.AIN_CFG_EN
      let refused (c : Code) : Host.Outcome State Fault Refusal := .next ((t.refuseAt r 0xFF a c).answered c)
      served s r a → ∀ e ∈ [(Instr.ainEnable r n v, setField v 31 31 1), (.ainDisable r n v, setField v 31 31 0)],
      let w := e.2; let bad := 96 < getField w 6 0 ∨ 80 < getField w 23 16 ∨ (bit w 29 ∧ bit w 30 = false)
      let fixed := (was ∧ (bit w 30 ≠ bit (t.rd a) 30 ∨ bit w 29 ≠ bit (t.rd a) 29)) ∨ (bit w 31 ∧ was = false ∧ t.en P.ain = false)
      let u := t.store a w
      let x := if getField w 23 16 ≠ t.getF b F.AIN_CFG_BIAS ∧ u.an.biasOn.contains n.val ∧ ainLive u n ∧ ainSt u n ≠ 1 then
        biasTo u n (biasVolts u n) 10 else u
      (bad → exec e.1 s = refused .range) ∧ (¬bad → fixed → exec e.1 s = refused .state) ∧
      (¬bad → ¬fixed → exec e.1 s = .next ((if bit w 31 ∧ ainSt x n = 0 ∧ x.sys.pwrFailN then
          ainBias (x.setF b F.AIN_STAT_STATE 1) n ((x.setF b F.AIN_STAT_STATE 1).isSet b F.AIN_CFG_BIAS_EN)
        else if bit w 31 = false ∧ was then ainStopping x n else x).answered .done))) ∧
    (st = 0 → ainStopping s n = s) ∧
    (st = 5 → ainStopping s n = (ainBias s n false).setF b F.AIN_STAT_STATE 0) ∧
    (st ≠ 0 → st ≠ 5 → let u := (s.stopRamp (.ainBias n)).onAn fun a => { a with ainStop := n.val :: a.ainStop.filter (· != n.val) }
      ainStopping s n = if s.sys.pwrFailN ∧ s.sys.resetPending = none then u.startRamp (.ainBias n) 240 else biasTo u n 0 8) ∧
    (ainLive s n → st = 1 → let u := if bias then biasTo s n (biasVolts s n) 10 else s
      exec (.ainSettled n) s = .next ((u.setF b F.AIN_STAT_STATE 2).setF b F.AIN_STAT_GAIN_CUR (u.getF b F.AIN_CFG_GAIN))) ∧
    (ainLive s n = false ∨ st ≠ 1 → exec (.ainSettled n) s = .next s) ∧
    (let cur := s.getF b F.AIN_STAT_GAIN_CUR; let goal := s.getF b F.AIN_CFG_GAIN;
      (2 ≤ st → cur < goal → exec (.ainGainStep n) s = .next (s.setF b F.AIN_STAT_GAIN_CUR (cur + 1))) ∧
      (2 ≤ st → goal < cur → exec (.ainGainStep n) s = .next (s.setF b F.AIN_STAT_GAIN_CUR (cur - 1))) ∧
      (st < 2 → exec (.ainGainStep n) s = .next s)) ∧
    (ainLive s n → st = 2 → exec (.ainClip n) s = .next ((((s.setF b F.AIN_STAT_STATE 3).err P.ain).bump b
      F.AIN_CLIP_CNT_COUNT).raise P.ain 0)) ∧
    (ainLive s n = false ∨ st ≠ 2 → exec (.ainClip n) s = .next s) ∧
    (st = 3 → exec (.ainClipEnd n) s = .next (s.setF b F.AIN_STAT_STATE 2)) ∧
    (st ≠ 3 → exec (.ainClipEnd n) s = .next s) ∧
    (∀ i : Byte,
      let isOpen := ainLive s n ∧ (st = 2 ∨ st = 3 ∨ (st = 5 ∧ bias)) ∧ s.isSet b F.AIN_CFG_MIC ∧
        s.isSet b F.AIN_CFG_BIAS_EN ∧ i.toNat < 2
      (isOpen → exec (.ainOpen n i) s = .next ((((((s.setF b F.AIN_STAT_IBIAS i.toNat).setF b F.AIN_STAT_STATE 4).err
        P.ain).bump b F.AIN_BFLT_CNT_COUNT).raise P.ain 1).log 0x0040 2 0x0016 0 [BitVec.ofNat 8 n, i])) ∧
      (¬isOpen → exec (.ainOpen n i) s = .next s)) ∧
    (∀ i : Byte, let u := ainBias s n false
      (ainLive s n → bias → ainSt u n ≠ 5 → exec (.ainShort n i) s = .next (((((u.setF b F.AIN_STAT_STATE 5).err P.ain).bump b
        F.AIN_BFLT_CNT_COUNT).raise P.ain 2).log 0x0041 2 0x0016 0 [BitVec.ofNat 8 n, i])) ∧
      (ainLive s n → bias → ainSt u n = 5 → exec (.ainShort n i) s = .next u) ∧
      (ainLive s n = false ∨ bias = false → exec (.ainShort n i) s = .next s)) ∧
    (ainLive s n → st = 5 → exec (.ainShortRetry n) s = .next (ainBias s n true)) ∧
    (ainLive s n = false ∨ st ≠ 5 → exec (.ainShortRetry n) s = .next s) ∧
    (∀ i : Byte, let good := ainLive s n ∧ (st = 4 ∨ st = 5) ∧ bias ∧ 2 ≤ i.toNat ∧ i.toNat ≤ 160
      (good → exec (.ainRecover n i) s = .next (((s.setF b F.AIN_STAT_STATE 2).setF b F.AIN_STAT_IBIAS i.toNat).raise P.ain 3)) ∧
      (¬good → exec (.ainRecover n i) s = .next s)) ∧
    (let stop := s.an.ainStop.contains n.val
     let u := ((ainBias s n false).onAn fun a => { a with ainStop := a.ainStop.filter (· != n.val) }).setF b F.AIN_STAT_STATE 0
     let again := u.isSet b F.AIN_CFG_EN ∧ u.en P.ain ∧ u.sys.pwrFailN ∧ u.domOn .analog ∧ u.sys.entry = none ∧ u.sys.resetPending = none;
      (stop = false → exec (.ainOff n) s = .next s) ∧ (stop → ¬again → exec (.ainOff n) s = .next u) ∧
      (stop → again → let x := u.setF b F.AIN_STAT_STATE 1
        exec (.ainOff n) s = .next (ainBias x n (x.isSet b F.AIN_CFG_BIAS_EN)))) ∧
    (let u := s.stopRamp (.ainBias n);
      (s.an.avbias → ainBias s n true = (u.onAn fun a => { a with biasOn := n.val :: a.biasOn.filter (· != n.val) }).onAn fun a =>
        { a with bias := modifyAt (fun f => f.to (2 + (s.getF b F.AIN_CFG_BIAS : Rat) / 10) 480) n a.bias }))

/-- R34, R237-R239, R247, R248: what the commands of a line output do. A write of LO_n_CFG that changes PAIR while the output is enabled,
or enables it on a disabled page, is STATE; else it is stored, and while PWRFAIL_N is low it has no other effect yet; else it mutes,
unmutes, starts or stops the output. At 45 ms a started output plays, or is MUTED while a cause of a mute holds; a stopped one is OFF,
or starts again if that was asked for; a short turns the stage off, and CLR leaves FAULT, for a start if EN = 1. Where none of this can
happen, nothing changes. -/
def Obligations.LineOutputsFollowTheirCommands : Prop :=
  ∀ (s : State) (n : Fin 8), let b := loBase n; let st := loSt s n; let why := loReason s n
    (∀ r v, let a := b + 0x40; let t := s.wakeFor a; let was := t.isSet b F.LO_CFG_EN; let wasMute := t.isSet b F.LO_CFG_MUTE
      served s r a → ∀ e ∈ [(Instr.loStart r n v, setField v 31 31 1), (.loStop r n v, setField v 31 31 0),
        (.loMute r n v, setField v 30 30 1), (.loUnmute r n v, setField v 30 30 0)],
      let w := e.2; let u := t.store a w
      let bad := (was ∧ bit w 24 ≠ bit (t.rd a) 24) ∨ (bit w 31 ∧ was = false ∧ t.en P.lo = false)
      let x := if bit w 30 ∧ wasMute = false then loMute u n muteHost else if bit w 30 = false ∧ wasMute then loUnmute u n muteHost
        else u
      (bad → exec e.1 s = .next ((t.refuseAt r 0xFF a .state).answered .state)) ∧
      (¬bad → u.sys.pwrFailN = false → exec e.1 s = .next (u.answered .done)) ∧
      (¬bad → u.sys.pwrFailN → exec e.1 s = .next ((if bit w 31 ∧ was = false ∧ loSt x n = 0 then loBegin x n
        else if bit w 31 = false ∧ was then loStop x n else x).answered .done))) ∧
    (s.sys.pwrFailN → s.stopped = false →
      loBegin s n = (s.setF b F.LO_STAT_STATE 1).onLo n fun h => { h with cm := 0, gain := Fader.at 0, fast := false }) ∧
    (1 ≤ st → st ≤ 4 →
      loStop s n = ((s.stopRamp (.loUnmute n)).onLo n fun h => { h with gain := h.gain.stop }).setF b F.LO_STAT_STATE 5) ∧
    (st = 0 ∨ 5 ≤ st → loStop s n = s) ∧
    (∀ c, let u := (s.setF b F.LO_STAT_REASON (addCause why c)).stopRamp (.loUnmute n)
      loSt (s.setF b F.LO_STAT_REASON (addCause why c)) n = 2 → loSt u n = 2 →
      loMute s n c = (u.onLo n fun h => { h with gain := h.gain.to 0 240 }).setF b F.LO_STAT_STATE 3) ∧
    (∀ c, let u := s.setF b F.LO_STAT_REASON (dropCause why c)
      let last := why ≠ 0 ∧ loReason u n = 0 ∧ (loSt u n = 3 ∨ loSt u n = 4)
      (last → loUnmute s n c = (u.onLo n fun h => { h with gain := h.gain.to 1 240 }).startRamp (.loUnmute n) 240) ∧
      (¬last → loUnmute s n c = u)) ∧
    (let u := ((s.setF b F.LO_CTRL_CLR 0).raise P.lo 0).onLo n fun h => { h with cm := 1920 };
      (st = 1 → loReason u n = 0 → exec (.loStartDone n) s =
        .next ((u.setF b F.LO_STAT_STATE 2).onLo n fun h => { h with gain := Fader.at 1 })) ∧
      (st = 1 → loReason u n ≠ 0 → exec (.loStartDone n) s =
        .next (((u.setF b F.LO_STAT_STATE 4).onLo n fun h => { h with gain := Fader.at 0 }).raise P.lo 1)) ∧
      (st ≠ 1 → exec (.loStartDone n) s = .next s)) ∧
    (let d := ((s.stopRamp (.loUnmute n)).onLo n fun h => { h with cm := 0, gain := Fader.at 0 }).setF b F.LO_STAT_STATE 0
     let c := d.setF b F.LO_CTRL_CLR 0; let u := c.setF b F.LO_STAT_REASON (dropCause (loReason c n) muteOff)
     let again := u.isSet b F.LO_CFG_EN ∧ u.en P.lo ∧ u.isSet P.lo F.PG_CTRL_SRST = false ∧ u.sys.pwrFailN ∧ u.domOn .analog ∧
       u.sys.entry = none ∧ u.sys.resetPending = none;
      (st = 5 → exec (.loStopDone n) s = .next (if again then loBegin u n else u)) ∧
      (st ≠ 5 → exec (.loStopDone n) s = .next s)) ∧
    (st = 3 → why ≠ 0 → exec (.loMuteDone n) s =
      .next (((s.setF b F.LO_STAT_STATE 4).onLo n fun h => { h with gain := Fader.at 0 }).raise P.lo 1)) ∧
    (st ≠ 3 ∨ why = 0 → exec (.loMuteDone n) s = .next s) ∧
    (let d := ((s.stopRamp (.loUnmute n)).onLo n fun h => { h with cm := 0, gain := Fader.at 0 }).setF b F.LO_STAT_STATE 6;
      (1 ≤ st → st ≤ 5 → exec (.loShort n) s = .next (((((loFault (d.setF b F.LO_CTRL_CLR 0)).raise P.lo
        24).bump b F.LO_SHORT_CNT_COUNT).err P.lo).log 0x0042 3 0x0018 0 [BitVec.ofNat 8 n])) ∧
      (st = 0 ∨ 6 ≤ st → exec (.loShort n) s = .next s)) ∧
    (∀ r, let a := b + 0x44; let t := s.wakeFor a; let u := loFault (t.setF b F.LO_STAT_STATE 0)
      let bad := loSt t n ≠ 6 ∨ (t.isSet b F.LO_CFG_EN ∧ t.en P.lo = false)
      served s r a →
      (bad → exec (.loClr r n) s = .next ((t.refuseAt r 0xFF a .state).answered .state)) ∧
      (¬bad → u.isSet b F.LO_CFG_EN → exec (.loClr r n) s = .next ((loBegin (u.setF b F.LO_CTRL_CLR 1) n).answered .done)) ∧
      (¬bad → u.isSet b F.LO_CFG_EN = false → exec (.loClr r n) s = .next (u.answered .done)))

/-- R240-R244, R247, R252: what the commands of a headset do. A write of HS_n_CFG out of range is RANGE, one that changes MIC while the
headset is enabled, or enables it on a disabled page, STATE; else it is stored, and while PWRFAIL_N is low it has no other effect yet;
else it mutes or unmutes the ears and enables or disables the headset. A plug that shows is debounced, once the steps of a removal have
ended, classed by its impedances and the microphone fraction, and removed; an ear's short is a FAULT, which a headset disabled
meanwhile leaves; a button's edge silences the microphone at once, and a held reading is the button. Where none of this can happen,
nothing changes. -/
def Obligations.HeadsetsFollowTheirCommands : Prop :=
  ∀ (s : State) (n : Fin 4), let b := hsBase n; let st := hsSt s n; let on := s.domOn .analog
    (∀ r v, let a := b + 0x40; let t := s.wakeFor a; let was := t.isSet b F.HS_CFG_EN; let wasMute := t.isSet b F.HS_CFG_OUTMUTE
      let refused (c : Code) : Host.Outcome State Fault Refusal := .next ((t.refuseAt r 0xFF a c).answered c)
      served s r a → ∀ e ∈ [(Instr.hsEnable r n v, setField v 31 31 1), (.hsDisable r n v, setField v 31 31 0),
        (.hsOutmute r n v true, setField v 30 30 1), (.hsOutmute r n v false, setField v 30 30 0)],
      let w := e.2; let u := t.store a w; let bad := 8 < getField w 27 24 ∨ 72 < getField w 22 16
      let fixed := (was ∧ bit w 28 ≠ bit (t.rd a) 28) ∨ (bit w 31 ∧ was = false ∧ t.en P.hs = false)
      let x := if bit w 30 ∧ wasMute = false then earsMute u n muteHost 5 else if bit w 30 = false ∧ wasMute then
        earsUnmute u n muteHost 5 else u
      (bad → exec e.1 s = refused .range) ∧ (¬bad → fixed → exec e.1 s = refused .state) ∧
      (¬bad → ¬fixed → u.sys.pwrFailN = false → exec e.1 s = .next (u.answered .done)) ∧
      (¬bad → ¬fixed → u.sys.pwrFailN → exec e.1 s = .next ((if bit w 31 ∧ was = false then hsBegin x n
        else if bit w 31 = false ∧ was then hsStop x n else x).answered .done))) ∧
    (∀ level, let t := s.onAn fun a => { a with det := modifyAt (fun _ => level) n a.det }
      let shows := t.domOn .analog ∧ hsSt t n = 1 ∧ plugged t n ∧ (alGet t.an.ramps (.hsGone n)).isNone
      (shows → exec (.jackDetChange n level) s = .next (t.setF b F.HS_JACK_STATE 2)) ∧
      (¬shows → exec (.jackDetChange n level) s = .next t)) ∧
    (on → st = 2 → plugged s n → exec (.hsDebounceEnd n) s = .next (s.setF b F.HS_JACK_STATE 3)) ∧
    (on = false ∨ st ≠ 2 ∨ plugged s n = false → exec (.hsDebounceEnd n) s = .next s) ∧
    (∀ zl zr f : BitVec 16, let z := min zl.toNat zr.toNat
      let c := if z < 8 then 4 else if 1000 < z then 3 else if 35 * 65536 ≤ 1000 * f.toNat ∧ 100 * f.toNat ≤ 95 * 65536 then 2 else 1
      let t := (((s.setF b F.HS_ZL_LEFT zl.toNat).setF b F.HS_ZL_RIGHT zr.toNat).setF b F.HS_JACK_CLASS c).setF b F.HS_JACK_MICF
        (f.toNat / 256)
      let u := (((t.setF b F.HS_JACK_STATE 4).raise P.hs 0).bump b F.HS_INS_CNT_COUNT).setF b
        F.HS_STAT_MICLIVE (b2n (c == 2 && (buttonOf f.toNat).isNone))
      let x := u.onHs n fun h => { h with mic := u.getF b F.HS_CFG_MICGAIN, micAge := 0 }
      (on → st = 3 → c ≠ 4 → exec (.hsClassifyEnd n zl zr f) s =
        .next (sideTones (earsUnmute x n muteOff (x.getF P.hs F.HS_DEB_RAMP)))) ∧
      (on → st = 3 → c = 4 → exec (.hsClassifyEnd n zl zr f) s = .next (hsEnterFault t n)) ∧
      (on = false ∨ st ≠ 3 → exec (.hsClassifyEnd n zl zr f) s = .next s)) ∧
    (let gone := on ∧ 2 ≤ st ∧ st ≤ 5 ∧ plugged s n = false
     let t := hsFault ((earsMute ((micOff s n).setF b F.HS_JACK_CLASS 0) n muteOff 1).setF b F.HS_JACK_STATE 1)
     let u := if 4 ≤ st then t.startRamp (.hsGone n) 48 else t
     let x := if earSt u n = 0 then u.setF b F.HS_STAT_OUT 1 else u;
      (gone → 4 ≤ st → exec (.hsRemove n) s = .next (sideTones (x.raise P.hs 1))) ∧
      (gone → st < 4 → exec (.hsRemove n) s = .next (sideTones x)) ∧
      (¬gone → exec (.hsRemove n) s = .next s)) ∧
    (let short := on ∧ (st = 4 ∨ 2 ≤ earSt s n)
     let m := ((((micOff s n).stopRamp (.earUp n)).stopRamp (.earMute n)).stopRamp (.earOff n)).onHs n fun h => { h with ear := Fader.at 0 }
     let t := hsFault ((m.setF b F.HS_JACK_STATE 5).setF b F.HS_STAT_OUT 0)
     let u := (sideTones ((t.raise P.hs 24).err P.hs)).log 0x0043 3 0x0017 0 [BitVec.ofNat 8 n];
      (short → u.isSet b F.HS_CFG_EN → exec (.hsOutShort n) s = .next u) ∧
      (short → u.isSet b F.HS_CFG_EN = false → exec (.hsOutShort n) s = .next (hsFault (u.setF b F.HS_JACK_STATE 0))) ∧
      (¬short → exec (.hsOutShort n) s = .next s)) ∧
    (let live := on ∧ st = 4 ∧ s.getF b F.HS_JACK_CLASS = 2;
      (∀ f : BitVec 16, let t := s.setF b F.HS_JACK_MICF (f.toNat / 256)
        (live → 100 * f.toNat < 43 * 65536 → exec (.hsButtonEdge n f) s = .next (sideTones (t.setF b F.HS_STAT_MICLIVE 0))) ∧
        (live → 43 * 65536 ≤ 100 * f.toNat → exec (.hsButtonEdge n f) s = .next t) ∧
        (¬live → exec (.hsButtonEdge n f) s = .next s) ∧
        (live → plugged s n →
          (∀ k, buttonOf f.toNat = some k → s.getF b F.HS_JACK_BTN ≠ 2 ^ k → exec (.hsButton n f) s = .next (sideTones ((((t.setF b
            F.HS_JACK_BTN (2 ^ k)).setF b F.HS_STAT_MICLIVE 0).raise P.hs 2).bump b F.HS_BTN_CNT_COUNT))) ∧
          (∀ k, buttonOf f.toNat = some k → s.getF b F.HS_JACK_BTN = 2 ^ k → exec (.hsButton n f) s = .next t) ∧
          (43 * 65536 ≤ 100 * f.toNat → let u := (t.setF b F.HS_JACK_BTN 0).setF b F.HS_STAT_MICLIVE 1
            exec (.hsButton n f) s = .next (sideTones (if s.getF b F.HS_JACK_BTN = 0 then u else u.raise P.hs 2)))) ∧
        (¬live ∨ plugged s n = false → exec (.hsButton n f) s = .next s)))

/-- R34, R264, R266-R268, R272, R278, R282: what the host's commands of a speaker channel do. A write of AMP_n_CTRL that clears a channel
which is not LATCHED, or starts one whose page or whose boost's page is disabled, is STATE; else it is stored, and while PWRFAIL_N is
low it has no other effect yet, but for CLR; else it mutes or unmutes, clears, starts an OFF channel or stops one. A start enters
RAMP_UP with pavg 0 and starts the boost, or BLOCKED when it has a cause to wait, or waits OFF for PWRFAIL_N; a retry that counts is
counted. A stop ramps down, and from RETRY or BLOCKED is OFF at once. CLR of a boost that is not in FAULT is STATE. AMP_CLEAR clears the
channels and boosts it names that are LATCHED or in FAULT: a locked page is LOCKED, another layout RANGE, and nothing to clear STATE. -/
def Obligations.SpeakerChannelsObeyTheHost : Prop :=
  ∀ (s : State) (r : Req),
    (∀ (n : Fin 8) (v : Word), let b := P.amp n; let a := b + 0x44; let t := s.wakeFor a
      let was := t.isSet b F.AMP_CTRL_EN; let wasMute := t.isSet b F.AMP_CTRL_MUTE
      served s r a → ∀ e ∈ [(Instr.ampStart r n v, setField v 0 0 1), (.ampStop r n v, setField v 0 0 0),
        (.ampMute r n v, setField v 1 1 1), (.ampUnmute r n v, setField v 1 1 0), (.ampClr r n v, setField v 2 2 1)],
      let w := e.2; let u := t.store a w
      let bad := (bit w 2 ∧ t.st b ≠ 10) ∨ (bit w 0 ∧ was = false ∧ (t.en b = false ∨ t.en (P.bst (n / 2)) = false))
      let x := if bit w 1 ∧ wasMute = false then ampMute u n muteHost else if bit w 1 = false ∧ wasMute then ampUnmute u n muteHost
        else u
      (bad → exec e.1 s = .next ((t.refuseAt r 0xFF a .state).answered .state)) ∧
      (¬bad → u.sys.pwrFailN = false → bit w 2 = false → exec e.1 s = .next (u.answered .done)) ∧
      (¬bad → u.sys.pwrFailN ∨ bit w 2 → exec e.1 s = .next ((if bit w 2 then ampClear (x.setF b F.AMP_CTRL_CLR 1) n
        else if bit w 0 ∧ was = false ∧ x.st b = 2 then ampBegin x n
        else if bit w 0 = false ∧ was then ampStop x n else x).answered .done))) ∧
    (∀ n : Nat, let b := P.amp n
      let d := (s.stopRamp (.ampUnmute n)).onAmp n fun h =>
        { h with age := 0, cm := 0, gain := Fader.at 0, loop := AmpLoop.reset, senseOpen := false }
      let u := if (d.amp n).counting then setRetries d n ((d.get64 0x006068).toNat :: retriesNow d n) else d
      let x := u.onAmp n fun h => { h with counting := false, due := false, fast := false, after := .off, pavg := 0 };
      (d.sys.pwrFailN → ampCause d n = 0 → ampBegin s n =
        boostBegin (((x.setSt b 3).setF b F.AMP_STAT_BLOCK 0).setF b F.AMP_POWER_PAVG 0) (n / 2)) ∧
      (d.sys.pwrFailN → ampCause d n ≠ 0 → ampBegin s n = ((d.setSt b 9).setF b F.AMP_STAT_BLOCK (ampCause d n)).raise b 7) ∧
      (d.sys.pwrFailN = false → ampBegin s n =
        boostEnd ((d.setSt b 2).setF b F.AMP_STAT_MUTE (addCause (ampMutes d n) mutePwr)) (n / 2))) ∧
    (∀ n : Nat, let b := P.amp n;
      (ampOn s n → ampStop s n = ((s.stopRamp (.ampUnmute n)).onAmp n fun h => { h with gain := h.gain.stop }).setSt b 7) ∧
      (s.st b = 8 ∨ s.st b = 9 → ampStop s n = ampToOff s n) ∧
      (ampOn s n = false → s.st b ≠ 8 → s.st b ≠ 9 → ampStop s n = s)) ∧
    (∀ n c : Nat, let b := P.amp n; let u := (s.setF b F.AMP_STAT_MUTE (addCause (ampMutes s n) c)).stopRamp (.ampUnmute n)
      let down := u.onAmp n fun h => { h with gain := h.gain.to 0 240 };
      let going := (alGet s.an.ramps (.ampUnmute n)).isSome;
      (u.st b = 4 ∨ (going ∧ u.st b = 6) → ampMute s n c = down.setSt b 5) ∧ (u.st b = 3 → ampMute s n c = down) ∧
      (u.st b ≠ 3 → u.st b ≠ 4 → ¬(going ∧ u.st b = 6) → ampMute s n c = u)) ∧
    (∀ n c : Nat, let b := P.amp n; let u := s.setF b F.AMP_STAT_MUTE (dropCause (ampMutes s n) c)
      let last := ampMutes s n ≠ 0 ∧ ampMutes u n = 0 ∧ (u.st b = 5 ∨ u.st b = 6);
      (last → ampUnmute s n c = (u.onAmp n fun h => { h with gain := h.gain.to 1 240 }).startRamp (.ampUnmute n) 240) ∧
      (¬last → ampUnmute s n c = u)) ∧
    (∀ n : Nat, let b := P.amp n; let u := (setRetries s n []).setF b F.PG_STAT_FAULT 0;
      (u.isSet b F.AMP_CTRL_EN = false → ampClear s n = ampToOff u n) ∧
      (u.isSet b F.AMP_CTRL_EN → ampClear s n = ampBegin (u.onAmp n fun h => { h with recover := true, counting := false }) n)) ∧
    (∀ p : Fin 4, let b := P.bst p; let a := b + 0x54; let t := s.wakeFor a
      let u := ((t.setSt b 2).setF b F.BST_STAT_FLT 0).setF b F.PG_STAT_FAULT 0
      served s r a →
      (t.st b = 7 → exec (.boostClr r p) s = .next ((ampUnblock (ampUnblock u (2 * p)) (2 * p + 1)).answered .done)) ∧
      (t.st b ≠ 7 → exec (.boostClr r p) s = .next ((t.refuseAt r 0xFF a .state).answered .state))) ∧
    (∀ q : PlReq, let cm := field q.payload 0 1; let bm := field q.payload 1 1; let page := ampClearPage cm bm; let t := s.wakeFor page
      let bad := q.payload.length ≠ 4 ∨ field q.payload 2 2 ≠ 0 ∨ 16 ≤ bm
      let locked := (∃ n < 8, cm / 2 ^ n % 2 = 1 ∧ t.isSet (P.amp n) F.PG_CTRL_LOCK) ∨
        (∃ p < 4, bm / 2 ^ p % 2 = 1 ∧ t.isSet (P.bst p) F.PG_CTRL_LOCK)
      let cc := (List.range 8).filter fun n => cm / 2 ^ n % 2 == 1 && t.st (P.amp n) == 10
      let bc := (List.range 4).filter fun p => bm / 2 ^ p % 2 == 1 && t.st (P.bst p) == 7
      let mask (l : List Nat) : Byte := BitVec.ofNat 8 (l.foldl (fun m i => m + 2 ^ i) 0)
      plServes s 0x48 q →
      (locked → exec (.ampClear q) s = .next (t.plRefuse page 0 0x48 q .locked [])) ∧
      (¬locked → bad → exec (.ampClear q) s = .next (t.plRefuse page 0 0x48 q .range [])) ∧
      (¬locked → ¬bad → bc = [] → cc = [] → exec (.ampClear q) s = .next (t.plRefuse page 0 0x48 q .state [])) ∧
      (¬locked → ¬bad → bc ≠ [] ∨ cc ≠ [] → exec (.ampClear q) s = .next ((forEach cc (fun n u => ampClear u n)
        (forEach bc (fun p u => boostClear u p) t)).plDone 0x48 q [mask cc, mask bc, 0, 0])))

/-- R260, R266-R268, R272, R278, R283: how a speaker channel's starts, stops and mutes end. When its start is done a channel whose boost has
its rail plays, or is MUTED while a cause of a mute holds. A stop ends in OFF, or in a new start if that was asked for; a fast stop ends
in what caused it: LATCHED, RETRY, BLOCKED or OFF, and a channel that is not to run is OFF. A mute ramp ends in MUTED. Where none of
this can happen, nothing changes. -/
def Obligations.SpeakerChannelsEndTheirRamps : Prop :=
  ∀ (s : State) (n : Fin 8), let b := P.amp n; let st := s.st b
    let again (x : State) := ampWanted x n ∧ x.en (P.bst (n / 2)) ∧ x.sys.pwrFailN ∧ x.domOn .power ∧ x.sys.entry = none ∧
      x.sys.resetPending = none
    (let go := st = 3 ∧ railUp s (n / 2)
     let t := ((s.setF b F.AMP_CTRL_CLR 0).raise b 0).onAmp n fun h =>
        { h with age := 1296, cm := 960, gain := Fader.at (if ampMutes ((s.setF b F.AMP_CTRL_CLR 0).raise b 0) n = 0 then 1 else 0) };
      (go → ampMutes t n = 0 → exec (.ampStartDone n) s = .next (ampPlay t n)) ∧
      (go → ampMutes t n ≠ 0 → exec (.ampStartDone n) s = .next ((t.setSt b 6).raise b 1)) ∧
      (¬go → exec (.ampStartDone n) s = .next s)) ∧
    ((s.amp n).recover = false → ampPlay s n = s.setSt b 4) ∧
    ((s.amp n).recover → ampPlay s n = ((s.setSt b 4).onAmp n fun h => { h with recover := false }).raise b 8) ∧
    (let go := st = 7 ∧ (s.amp n).fast = false; let u := ampToOff s n;
      (go → again u → exec (.ampStopDone n) s = .next (ampBegin u n)) ∧ (go → ¬again u → exec (.ampStopDone n) s = .next u) ∧
      (¬go → exec (.ampStopDone n) s = .next s)) ∧
    (let d := (s.stopRamp (.ampUnmute n)).onAmp n fun h =>
        { h with age := 0, cm := 0, gain := Fader.at 0, loop := AmpLoop.reset, senseOpen := false }
     let t := d.onAmp n fun h => { h with fast := false, after := .off }; let k := (s.amp n).after; let u := ampToOff t n;
      (st = 7 → (s.amp n).fast →
        (k = .latched → exec (.fastStopDone n) s = .next ((t.setSt b 10).setF b F.PG_STAT_FAULT 1)) ∧
        (k = .retry → ampWanted s n → exec (.fastStopDone n) s = .next ((t.setSt b 8).raise b 6)) ∧
        (k = .blocked → ampWanted s n → ampCause t n = 0 →
          exec (.fastStopDone n) s = .next (ampBegin (t.onAmp n fun h => { h with recover := true }) n)) ∧
        (k = .blocked → ampWanted s n → ampCause t n ≠ 0 → exec (.fastStopDone n) s =
          .next (((t.setSt b 9).setF b F.AMP_STAT_BLOCK (ampCause t n)).raise b 7)) ∧
        (k = .retry ∨ k = .blocked → ampWanted s n = false → exec (.fastStopDone n) s = .next u) ∧
        (k = .off → again u → exec (.fastStopDone n) s = .next (ampBegin u n)) ∧
        (k = .off → ¬again u → exec (.fastStopDone n) s = .next u)) ∧
      (st ≠ 7 ∨ (s.amp n).fast = false → exec (.fastStopDone n) s = .next s)) ∧
    (st = 5 → ampMutes s n ≠ 0 →
      exec (.ampMuteDone n) s = .next (((s.onAmp n fun h => { h with gain := Fader.at 0 }).setSt b 6).raise b 1)) ∧
    (st ≠ 5 ∨ ampMutes s n = 0 → exec (.ampMuteDone n) s = .next s)

/-- R260, R270-R277, R452: what the protection of a speaker channel does. Current limiting counts, and is raised after 100 ms without; a
trip records its kind, class, peak and leg voltages, counts, is logged and turns the gates off, and leads to RETRY, to LATCHED when
three retries lie in the last 60 s, or to OFF when the channel is not to run; a retry starts the channel, or waits for PWRFAIL_N and the
link; DC latches it after a fast stop; the correction at its limit, a lost sense, the power limit, the fold-back and the
over-temperature act as their rules say, and a sensor at 158 degrees asks for a reset. Where none of this can happen, only the
measured values change, or nothing. -/
def Obligations.SpeakerProtectionActs : Prop :=
  ∀ (s : State) (n : Fin 8), let a := P.amp n; let live := ampLive s n; let loop := (s.amp n).loop
    (live → let t := (s.bump a F.AMP_ILIM_CNT_COUNT).onAmp n fun h => { h with calm := 0 }
      (4800 ≤ (s.amp n).calm → exec (.ampLimitRun n) s = .next (t.raise a 3)) ∧
      ((s.amp n).calm < 4800 → exec (.ampLimitRun n) s = .next t)) ∧
    (live = false → exec (.ampLimitRun n) s = .next s) ∧
    (∀ (hard : Bool) (x : TripRead),
      (live → exec (.ampTrip n hard x) s =
        .next (ampTrip s n (if hard then 2 else 1) (tripClass x) x.peak.toNat x.vp.toNat x.vn.toNat)) ∧
      (live = false → exec (.ampTrip n hard x) s = .next s)) ∧
    (∀ kind cls peak vp vn : Nat,
      let t := ((((((s.setF a F.AMP_STAT_LASTFLT kind).setF a F.AMP_STAT_CLASS cls).setF a F.AMP_STAT_BLOCK 0).setF a
        F.AMP_TRIP_IPK peak).setF a F.AMP_TRIP_VP vp).setF a F.AMP_TRIP_VN vn)
      let e := [BitVec.ofNat 8 kind, BitVec.ofNat 8 cls] ++ leBytes 2 peak ++ [BitVec.ofNat 8 vp, BitVec.ofNat 8 vn]
      let u := ((((t.bump a F.AMP_TRIP_CNT_COUNT).err a).log 0x0050 3 0x0020 n e).raise a (if kind = 3 then 28 else 24))
      let x := (ampDark u n).onAmp n fun h => { h with fast := false, after := .off, due := false, counting := false }
      let y := setRetries x n (retriesNow x n)
      (3 ≤ (retriesNow y n).length → ampTrip s n kind cls peak vp vn =
        (((y.setSt a 10).setF a F.PG_STAT_FAULT 1).raise a 25).log 0x0051 4 0x0020 n e) ∧
      ((retriesNow y n).length < 3 → ampWanted y n → ampTrip s n kind cls peak vp vn = (y.setSt a 8).raise a 6) ∧
      ((retriesNow y n).length < 3 → ampWanted y n = false → ampTrip s n kind cls peak vp vn = ampToOff y n)) ∧
    (let waits := s.st a = 8 ∧ s.getF a F.AMP_STAT_LASTFLT ≠ 6; let held := s.sys.pwrFailN = false ∨ s.an.linkLost;
      (waits → ¬held → exec (.ampRetry n) s = .next (ampBegin (s.onAmp n fun h => { h with recover := true, counting := true }) n)) ∧
      (waits → held → exec (.ampRetry n) s = .next (s.onAmp n fun h => { h with due := true })) ∧
      (¬waits → exec (.ampRetry n) s = .next s)) ∧
    (∀ dc : BitVec 16, let hit := ampOn s n ∧ s.isSet a F.AMP_CFG_DCPROT;
      (hit → exec (.ampDcFault n dc) s =
        .next ((ampFast ((((s.setF a F.AMP_STAT_LASTFLT 5).bump a F.AMP_DC_CNT_COUNT).err a).raise a 26) n .latched).log 0x0052 4
          0x0020 n (leBytes 2 dc.toNat))) ∧
      (¬hit → exec (.ampDcFault n dc) s = .next s)) ∧
    (let hit := ampOn s n ∧ s.isSet a F.AMP_CFG_LOOP ∧ 48 ≤ loop.satRun ∧ loop.told = false;
      (hit → exec (.loopsat n) s = .next (((s.onAmp n fun h => { h with loop := { h.loop with told := true } }).bump a
        F.AMP_LOOPSAT_CNT_COUNT).raise a 5)) ∧
      (¬hit → exec (.loopsat n) s = .next s)) ∧
    (let hit := ampOn s n ∧ s.isSet a F.AMP_CFG_LOOP ∧ 480 ≤ loop.lowRun ∧ (s.amp n).senseOpen = false;
      (hit → exec (.senseOpen n) s =
        .next ((s.onAmp n fun h => { h with senseOpen := true, loop := { h.loop with corr := 0 } }).raise a 5)) ∧
      (¬hit → exec (.senseOpen n) s = .next s)) ∧
    (480 ≤ loop.agreeRun → exec (.senseRecover n) s = .next (s.onAmp n fun h => { h with senseOpen := false })) ∧
    (loop.agreeRun < 480 → exec (.senseRecover n) s = .next s) ∧
    (∀ (pm : Int) (ipk : BitVec 16),
      let pavg := (s.amp n).pavg + ((pm : Rat) / 1000000 - (s.amp n).pavg) / (1000 * (s.getF a F.AMP_LIMIT_TAU : Rat))
      let plim := s.getF a F.AMP_LIMIT_PLIM
      let old := (s.amp n).pAtt
      let next (att : Nat) := limiting (((s.onAmp n fun h => { h with pavg := pavg, pAtt := att }).setF a F.AMP_POWER_PAVG
        (quantR (pavg * 10))).setF a F.AMP_POWER_IPK ipk.toNat) n
      let more := s.isSet a F.AMP_LIMIT_EN ∧ (plim : Rat) / 10 < pavg
      let less := pavg < (plim : Rat) * 9 / 100;
      (more → exec (.powerLimitUpdate n pm ipk) s = .next (next (min (old + 3) 20000))) ∧
      (¬more → less → exec (.powerLimitUpdate n pm ipk) s = .next (next (old - 1))) ∧
      (¬more → ¬less → exec (.powerLimitUpdate n pm ipk) s = .next (next old))) ∧
    (∀ ts : List (BitVec 16), let temp (k : Nat) : Int := (ts.getD k 0).toInt
      let sum := ((List.range 8).map temp).foldl (· + ·) 0
      let next (mean : Int) := forEach (List.range 8) (fun k u => dieReset (limiting (((u.onAmp k fun h => { h with
          thAtt := moveAtt h.thAtt (foldTarget (temp k) (10 * (u.getF (P.amp k) F.AMP_THERM_TFOLD : Nat))) }).setS (P.amp k)
          F.AMP_TEMP_DIE mean).setS (P.amp k) F.AMP_TEMP_CH (temp k)) k) (temp k))
        (s.onAn fun h => { h with dieAtt := moveAtt h.dieAtt (dieTarget sum) });
      (sum % 8 = 0 → exec (.thermalUpdate ts) s = .next (next (sum / 8))) ∧
      (sum % 8 ≠ 0 → exec (.thermalUpdate ts) s = .next (next (sum / 8)) ∨ exec (.thermalUpdate ts) s = .next (next (sum / 8 + 1)))) ∧
    (∀ t : BitVec 16, let u := s.setS a F.AMP_TEMP_CH t.toInt; let hot := ampOn u n ∧ 1450 ≤ t.toInt
      let x := (ampFast ((((u.setF a F.AMP_STAT_LASTFLT 6).bump a F.AMP_OT_CNT_COUNT).err a).raise a 27) n .retry).log 0x0053 3
        0x0020 n (leBytes 2 t.toNat);
      (hot → exec (.ampOverTemp n t) s = .next (dieReset x t.toInt)) ∧
      (¬hot → exec (.ampOverTemp n t) s = .next (dieReset u t.toInt))) ∧
    (∀ t : BitVec 16, let u := s.setS a F.AMP_TEMP_CH t.toInt
      let cool := u.st a = 8 ∧ u.getF a F.AMP_STAT_LASTFLT = 6 ∧ t.toInt < 1250 ∧ u.sys.pwrFailN;
      (cool → exec (.ampOtRestart n t) s = .next (ampBegin (u.onAmp n fun h => { h with recover := true, counting := false }) n)) ∧
      (¬cool → exec (.ampOtRestart n t) s = .next (dieReset u t.toInt))) ∧
    (∀ t : Int, (1580 ≤ t → s.sys.resetPending = none → dieReset s t = s.resetAsk 5) ∧
      (t < 1580 ∨ s.sys.resetPending ≠ none → dieReset s t = s))

/-- R261, R262, R264, R265, R271: what befalls a boost. Precharge ends in PASS or in a fault; a hold ends when HOLD ms have passed; current
limiting and over-voltage count and are raised, once for an excursion; above 43 V both bridges of the pair trip; a low rail is a fault,
which cuts both channels; PVIN out of range stops the pair fast, in range again it starts the channels that wait, and below 8 V
everything is cut: a cut channel waits in BLOCKED for its cause, or is OFF if it is not to run. Where none of this can happen, nothing
changes. -/
def Obligations.BoostsFollowRailAndSupply : Prop :=
  ∀ (s : State) (p : Fin 4), let b := P.bst p; let st := s.st b
    let both (f : State → Nat → State) (t : State) := f (f t (2 * p)) (2 * p + 1)
    (st = 3 → exec (.boostPrechargeDone p) s = .next (s.setSt b 4)) ∧
    (st ≠ 3 → exec (.boostPrechargeDone p) s = .next s) ∧
    (∀ vrail pvin : BitVec 16,
      let out (flt : Nat) :=
        let t := ((s.setSt b 7).setF b F.BST_STAT_FLT flt).setF b F.PG_STAT_FAULT 1
        (((both ampUnblock (both (fun x n => ampCutLive x n 2) t)).raise b 24).err b).log 0x0054 3 0x0021 p
          ([BitVec.ofNat 8 flt] ++ leBytes 2 vrail.toNat ++ leBytes 2 pvin.toNat);
      (st = 3 → exec (.boostPrechargeTimeout p vrail pvin) s = .next (out 1)) ∧
      (st ≠ 3 → exec (.boostPrechargeTimeout p vrail pvin) s = .next s) ∧
      (railUp s p → exec (.railLow p vrail pvin) s = .next (out 2)) ∧
      (railUp s p = false → exec (.railLow p vrail pvin) s = .next s)) ∧
    (∀ n c : Nat, let d := (ampDark s n).onAmp n fun h => { h with fast := false, after := .off };
      (ampLive s n → ampWanted d n → ampCutLive s n c = ((d.setSt (P.amp n) 9).setF (P.amp n) F.AMP_STAT_BLOCK c).raise (P.amp n) 7) ∧
      (ampLive s n → ampWanted d n = false → ampCutLive s n c = ampToOff d n) ∧
      (ampLive s n = false → ampCutLive s n c = s)) ∧
    (∀ n : Nat,
      (s.st (P.amp n) = 9 → ampCause s n = 0 → ampUnblock s n = ampBegin (s.onAmp n fun h => { h with recover := true }) n) ∧
      (s.st (P.amp n) = 9 → ampCause s n ≠ 0 → ampUnblock s n = s.setF (P.amp n) F.AMP_STAT_BLOCK (ampCause s n)) ∧
      (s.st (P.amp n) ≠ 9 → ampUnblock s n = s)) ∧
    (48 * s.getF b F.BST_TRACK_HOLD ≤ (s.bst p).held →
      exec (.boostHoldExpire p) s = .next (s.onBst p fun h => { h with falling := true })) ∧
    ((s.bst p).held < 48 * s.getF b F.BST_TRACK_HOLD → exec (.boostHoldExpire p) s = .next s) ∧
    (st = 5 → exec (.boostCurrentLimit p) s = .next (((s.bump b F.BST_ILIM_CNT_COUNT).raise b 0).err b)) ∧
    (st ≠ 5 → exec (.boostCurrentLimit p) s = .next s) ∧
    (let high := if (s.bst p).ovp then s else
        (((s.bump b F.BST_OVP_CNT_COUNT).raise b 1).err b).onBst p fun h => { h with ovp := true };
      exec (.boostOvp p) s = .next high ∧
      exec (.railOvpTrip p) s = .next (both (fun x n => if ampLive x n then ampTripOther x n 4 else x) high)) ∧
    (∀ n k : Nat, let u := s.draw.2; let w := s.draw.1
      ampTripOther s n k = ampTrip u n k 3 (u.getF (P.amp n) F.AMP_POWER_IPK) (getField w 7 0) (getField w 15 8)) ∧
    (exec (.boostOvpEnd p) s = .next (s.onBst p fun h => { h with ovp := false })) ∧
    (∀ pvin : BitVec 10,
      let t := (((s.setF b F.BST_PVIN_PVIN pvin.toNat).setF b F.BST_PVIN_PV_OK 0).raise b 2).bump b F.BST_PVIN_CNT_COUNT
      exec (.pvinOut p pvin) s = .next (both (fun x n => if ampOn x n then ampFast x n .blocked else ampUnblock x n)
        (if 3 ≤ t.st b ∧ t.st b ≤ 5 then t.setSt b 6 else t))) ∧
    (∀ pvin : BitVec 10,
      let t := ((s.setF b F.BST_PVIN_PVIN pvin.toNat).setF b F.BST_PVIN_PV_OK 1).raise b 3
      exec (.pvinOk p pvin) s = .next (both ampUnblock
        (if t.st b = 6 then t.setSt b (if pairOff t p then 2 else 3) else t))) ∧
    (∀ pvin : BitVec 10, exec (.pvinCollapse pvin) s = .next (forEach (List.range 8) (fun n t => ampCutLive t n 1)
      (forEach (List.range 4) (fun k t =>
        let u := (t.setF (P.bst k) F.BST_PVIN_PVIN pvin.toNat).setF (P.bst k) F.BST_PVIN_PV_OK 0
        if 3 ≤ u.st (P.bst k) ∧ u.st (P.bst k) ≤ 5 then u.setSt (P.bst k) 6 else u) s)))

/-- R295 (its whole text, over every operand, with R305's NOP, AND, OR, XOR, MIN and MAX and R296's EXP and NORM): what the
data instructions of a core write. ADD, SUB, ADDI, SHL and SHR wrap; ADDS, SUBS and SHLS saturate and set DS; ABS saturates for
the most negative number; shifts are multiplications and divisions by a power of two; each passes to the next instruction and
changes no other data register, accumulator, flag, event or byte of memory. That a NORM with one register for both results keeps
the count is the model's choice (log entry 40). -/
def Obligations.DataInstructionsWriteTheirResult : Prop :=
  ∀ (s : State) (c : Fin 20) (d x y : BitVec 5) (n : ShiftBy) (imm : BitVec 16),
    let sets (j : Instr) (i : CoreInstr) (f : CoreHid → CoreHid) : Prop :=
      issues s c i → exec j s = .next (s.passed c i (s.onCore c f))
    let sat (k : CoreHid) (v : Int) : CoreHid :=
      { k with
        sr := if -(2 ^ 31) ≤ v ∧ v < 2 ^ 31 then k.sr else k.sr ||| 0x10000#32
        d := modifyAt (fun _ => if v < -(2 ^ 31) then 0x80000000#32 else if 2 ^ 31 ≤ v then 0x7FFFFFFF#32 else BitVec.ofInt 32 v)
          d.toNat k.d }
    sets (.coreNop c) .nop (fun k => k) ∧
    sets (.coreAdd c d x y) (.add d x y) (fun k => k.setD d.toNat (k.r x + k.r y)) ∧
    sets (.coreSub c d x y) (.sub d x y) (fun k => k.setD d.toNat (k.r x - k.r y)) ∧
    sets (.coreAdds c d x y) (.adds d x y) (fun k => sat k ((k.r x).toInt + (k.r y).toInt)) ∧
    sets (.coreSubs c d x y) (.subs d x y) (fun k => sat k ((k.r x).toInt - (k.r y).toInt)) ∧
    sets (.coreAnd c d x y) (.and d x y) (fun k => k.setD d.toNat (k.r x &&& k.r y)) ∧
    sets (.coreOr c d x y) (.or d x y) (fun k => k.setD d.toNat (k.r x ||| k.r y)) ∧
    sets (.coreXor c d x y) (.xor d x y) (fun k => k.setD d.toNat (k.r x ^^^ k.r y)) ∧
    sets (.coreShl c d x n) (.shl d x n) (fun k => k.setD d.toNat (BitVec.ofNat 32 ((k.r x).toNat * 2 ^ shiftAmt k n))) ∧
    sets (.coreShr c d x n) (.shr d x n) (fun k => k.setD d.toNat (BitVec.ofNat 32 ((k.r x).toNat / 2 ^ shiftAmt k n))) ∧
    sets (.coreSar c d x n) (.sar d x n) (fun k => k.setD d.toNat (BitVec.ofInt 32 ((k.r x).toInt / 2 ^ shiftAmt k n))) ∧
    sets (.coreShls c d x n) (.shls d x n) (fun k => sat k ((k.r x).toInt * 2 ^ shiftAmt k n)) ∧
    sets (.coreMin c d x y) (.min d x y) (fun k => k.setD d.toNat (if (k.r x).toInt ≤ (k.r y).toInt then k.r x else k.r y)) ∧
    sets (.coreMax c d x y) (.max d x y) (fun k => k.setD d.toNat (if (k.r x).toInt ≤ (k.r y).toInt then k.r y else k.r x)) ∧
    sets (.coreAbs c d x) (.abs d x) (fun k => sat k (if 0 ≤ (k.r x).toInt then (k.r x).toInt else -(k.r x).toInt)) ∧
    sets (.coreMul c d x y) (.mul d x y) (fun k => k.setD d.toNat (BitVec.ofNat 32 ((k.r x).toNat * (k.r y).toNat))) ∧
    sets (.coreAddi c d x imm) (.addi d x imm) (fun k => k.setD d.toNat (k.r x + BitVec.ofInt 32 imm.toInt)) ∧
    sets (.coreAndi c d x imm) (.andi d x imm) (fun k => k.setD d.toNat (k.r x &&& BitVec.ofNat 32 imm.toNat)) ∧
    sets (.coreOri c d x imm) (.ori d x imm) (fun k => k.setD d.toNat (k.r x ||| BitVec.ofNat 32 imm.toNat)) ∧
    sets (.coreXori c d x imm) (.xori d x imm) (fun k => k.setD d.toNat (k.r x ^^^ BitVec.ofNat 32 imm.toNat)) ∧
    sets (.coreLui c d imm) (.lui d imm) (fun k => k.setD d.toNat (BitVec.ofNat 32 (imm.toNat * 2 ^ 16))) ∧
    sets (.coreExp c d x) (.exp d x) (fun k => k.setD d.toNat (BitVec.ofNat 32 (rsb 32 (k.r x).toInt))) ∧
    sets (.coreNorm c d y x) (.norm d y x) (fun k => (k.setD d.toNat (BitVec.ofNat 32 ((k.r x).toNat *
      2 ^ rsb 32 (k.r x).toInt))).setD y.toNat (BitVec.ofNat 32 (rsb 32 (k.r x).toInt)))

/-- R290-R294, R297, R298, R304: what the accumulator instructions and the multiplies do, on accumulators of 72 bits (Worker) and
80 (Queen): an accumulating result wraps and sets OV when it lies outside; MVA scales, rounds and saturates; EXPA and NORMA count
and remove the redundant sign bits; DIVS is one step of non-restoring division; MAC, MSU, MPY and MACX multiply group by group
with the operands as they stood before their loads, and a load that fails stops the core with its fault and no effect. NORMA of 0 and -1 (log entry 41) and ACC SHIFT by more than 79 (log entry 42:
free values) are the model's choices. -/
def Obligations.AccumulatorInstructionsFollowTheDatapath : Prop :=
  ∀ (s : State) (c : Fin 20) (d x : BitVec 5) (a e : BitVec 3) (part : BitVec 2) (imm : BitVec 8) (m : MacOps),
    let w := accW c
    let g := grpSize c
    let sets (j : Instr) (i : CoreInstr) (f : CoreHid → CoreHid) : Prop :=
      issues s c i → exec j s = .next (s.passed c i (s.onCore c f))
    let acc (k : CoreHid) (n : Nat) (v : Int) : CoreHid :=
      { k with
        sr := if -(2 ^ (w - 1)) ≤ v ∧ v < 2 ^ (w - 1) then k.sr else k.sr ||| 1#32 <<< n
        a := modifyAt (fun _ => (BitVec.ofInt w v).toInt) n k.a }
    let shift (k : CoreHid) : Int := rsb w (k.ac a.toNat) - (w - 63 : Int)
    let mul (f : Int → Int → Int) (swap : Bool) (k : CoreHid) : CoreHid :=
      forEach (List.range g) (fun i t => acc t (g * m.aq.toNat + i) (f (k.ac (g * m.aq.toNat + i))
        (macProduct k g m i (if swap then Nat.xor i 1 else i)))) k
    let macs (j : Instr) (i : CoreInstr) (f : Int → Int → Int) (swap : Bool) : Prop :=
      issues s c i →
        let k1 := mul f swap (s.core c)
        let k2 := if m.l1 then agStep k1 m.l1u.toNat (if m.s1 then g else k1.t.getD m.l1u.toNat 0) else k1
        let k3 := if m.l2 then agStep k2 m.l2u.toNat (if m.s2 then g else k2.t.getD m.l2u.toNat 0) else k2
        (∀ f, m.l1 → dmRead s c (agAddrs k1 m.l1u.toNat g 0) = .error f → exec j s = .next (coreFault s c f)) ∧
        (∀ w1, (if m.l1 then dmRead s c (agAddrs k1 m.l1u.toNat g 0) = .ok w1 else w1 = []) →
          (∀ f, m.l2 → dmRead s c (agAddrs k2 m.l2u.toNat g 0) = .error f → exec j s = .next (coreFault s c f)) ∧
          (∀ w2, (if m.l2 then dmRead s c (agAddrs k2 m.l2u.toNat g 0) = .ok w2 else w2 = []) →
            exec j s = .next (s.passed c i (s.onCore c fun _ => macWrite g m.l2d w2 (macWrite g m.l1d w1 k3)))))
    sets (.coreExpa c d a) (.expa d a) (fun k => k.setD d.toNat (BitVec.ofInt 32 (shift k))) ∧
    sets (.coreNorma c a d) (.norma a d) (fun k => (k.setD d.toNat (BitVec.ofInt 32 (shift k))).setA w a.toNat
      (if k.ac a.toNat = 0 ∨ k.ac a.toNat = -1 then k.ac a.toNat
       else if 0 ≤ shift k then k.ac a.toNat * 2 ^ (shift k).toNat else k.ac a.toNat / 2 ^ (-shift k).toNat)) ∧
    sets (.coreDivs c a x) (.divs a x) (fun k =>
      let v := (k.r x).toInt
      let r := k.ac a.toNat / 2 ^ 32
      let q := k.ac a.toNat % 2 ^ 32
      let up := decide ((0 ≤ r) = (0 ≤ v))
      let r' := if up then 2 * r - v else 2 * r + v
      ({ k with sr := if v = 0 ∨ v.natAbs < r'.natAbs then k.sr ||| 0x20000#32 else k.sr }).setA w a.toNat
        (r' * 2 ^ 32 + q * 2 % 2 ^ 32 + (if up then 1 else 0))) ∧
    (∀ rnd, sets (.coreMva c d a 0 rnd) (.mva d a 0 rnd) (fun k =>
      let n := (31 - k.scale).toNat
      let v := (k.ac a.toNat + (if rnd then 2 ^ (n - 1) else 0)) / 2 ^ n
      { k with
        sr := if -(2 ^ 31) ≤ v ∧ v < 2 ^ 31 then k.sr else k.sr ||| 1#32 <<< (8 + a.toNat)
        d := modifyAt (fun _ => if v < -(2 ^ 31) then 0x80000000#32 else if 2 ^ 31 ≤ v then 0x7FFFFFFF#32 else BitVec.ofInt 32 v)
          d.toNat k.d })) ∧
    (∀ rnd, part ≠ 0 → sets (.coreMva c d a part rnd) (.mva d a part rnd) (fun k =>
      k.setD d.toNat (BitVec.ofInt 32 (k.ac a.toNat / 2 ^ (32 * (part.toNat - 1)))))) ∧
    sets (.coreMvd c a x part) (.mvd a x part) (fun k => k.setA w a.toNat
      (if part = 0 then (k.r x).toInt * 2 ^ 31
       else if part = 1 then k.ac a.toNat / 2 ^ 32 * 2 ^ 32 + (k.r x).toNat
       else if part = 2 then (k.r x).toInt * 2 ^ 32 + k.ac a.toNat % 2 ^ 32
       else (BitVec.ofNat (w - 64) (k.r x).toNat).toInt * 2 ^ 64 + k.ac a.toNat % 2 ^ 64)) ∧
    sets (.coreAccClr c a) (.accClr a) (fun k => { k with a := modifyAt (fun _ => 0) a.toNat k.a }) ∧
    sets (.coreAccMov c a e) (.accMov a e) (fun k => k.setA w a.toNat (k.ac e.toNat)) ∧
    sets (.coreAccAdd c a e) (.accAdd a e) (fun k => acc k a.toNat (k.ac a.toNat + k.ac e.toNat)) ∧
    sets (.coreAccSub c a e) (.accSub a e) (fun k => acc k a.toNat (k.ac a.toNat - k.ac e.toNat)) ∧
    sets (.coreAccNeg c a e) (.accNeg a e) (fun k => acc k a.toNat (-k.ac e.toNat)) ∧
    (-79 ≤ imm.toInt → imm.toInt ≤ 79 → sets (.coreAccShift c a e imm) (.accShift a e imm) (fun k =>
      if 0 ≤ imm.toInt then acc k a.toNat (k.ac e.toNat * 2 ^ imm.toInt.toNat)
      else k.setA w a.toNat (k.ac e.toNat / 2 ^ (-imm.toInt).toNat))) ∧
    (imm.toInt < -79 ∨ 79 < imm.toInt → issues s c (.accShift a e imm) → ∃ (v : Int) (ov : Bool),
      exec (.coreAccShift c a e imm) s = .next (s.passed c (.accShift a e imm) (({ s with free := s.free + 3 } : State).onCore c
        fun k => ({ k with sr := if ov then k.sr ||| 1#32 <<< a.toNat else k.sr }).setA w a.toNat v))) ∧
    macs (.coreMac c m) (.mac m) (fun old p => old + p) false ∧
    macs (.coreMsu c m) (.msu m) (fun old p => old - p) false ∧
    macs (.coreMpy c m) (.mpy m) (fun _ p => p) false ∧
    macs (.coreMacx c m) (.macx m) (fun old p => old + p) true

/-- R289, R299, R301, R305-R309, R311, R314, R322: what the memory, pointer, control-register, control-flow and signal instructions do.
Every load and store addresses data memory from the home of its unit and then steps the pointer; one that reaches beyond data memory
(DM_RANGE) or reads a word with an uncorrectable error (DM_ECC) stops the core with no effect; a branch compares its operands as
its condition says; JMP, CALL, RET and a taken branch go to their target; LOOP begins its body or skips it; WAIT passes or waits;
SIG sets events of a core, starts a Forager channel or tells the Keeper; DONE is taken until the block is checked. -/
def Obligations.MemoryAndFlowInstructionsAct : Prop :=
  ∀ (s : State) (c : Fin 20) (d x y : BitVec 5) (u : BitVec 3) (m : StepBy) (off17 : BitVec 17) (tsel : Bool),
    let k := s.core c
    let p := P.core c
    let g := grpSize c
    let home (k : CoreHid) (j : Int) : Nat := agAddr k u.toNat (k.p.getD u.toNat 0) j
    let step (k : CoreHid) : CoreHid := agStep k u.toNat (match m with
      | .unit => k.t.getD u.toNat 0
      | .imm v => v.toInt)
    let inDm (l : List Nat) : Prop := ∀ a ∈ l, a < dmWords c
    let group : List Nat := (List.range g).map fun i => home k i
    (∀ w, issues s c (.ld d u m) → dmRead s c [home k 0] = .ok [w] →
      exec (.coreLd c d u m) s = .next (s.passed c (.ld d u m) (s.onCore c fun k => step (k.setD d.toNat w)))) ∧
    (∀ w, issues s c (.ldx d u tsel off17) → dmRead s c [home k off17.toInt] = .ok [w] →
      exec (.coreLdx c d u tsel off17) s = .next (s.passed c (.ldx d u tsel off17) (s.onCore c fun k => k.setD d.toNat w))) ∧
    (∀ ws, issues s c (.ldg d u m) → dmRead s c group = .ok ws →
      exec (.coreLdg c d u m) s = .next (s.passed c (.ldg d u m) (s.onCore c fun k =>
        step (forEach (ws.mapIdx fun i w => (i, w)) (fun e k => k.setD (d.toNat + e.1) e.2) k)))) ∧
    (∀ f, (issues s c (.ld d u m) → dmRead s c [home k 0] = .error f → exec (.coreLd c d u m) s = .next (coreFault s c f)) ∧
      (issues s c (.ldx d u tsel off17) → dmRead s c [home k off17.toInt] = .error f →
        exec (.coreLdx c d u tsel off17) s = .next (coreFault s c f)) ∧
      (issues s c (.ldg d u m) → dmRead s c group = .error f → exec (.coreLdg c d u m) s = .next (coreFault s c f))) ∧
    (issues s c (.st x u m) → ¬inDm [home k 0] → exec (.coreSt c x u m) s = .next (coreFault s c 3)) ∧
    (issues s c (.stx x u tsel off17) → ¬inDm [home k off17.toInt] →
      exec (.coreStx c x u tsel off17) s = .next (coreFault s c 3)) ∧
    (issues s c (.stg x u m) → ¬inDm group → exec (.coreStg c x u m) s = .next (coreFault s c 3)) ∧
    (∀ a l, dmWords c ≤ a → dmRead s c (a :: l) = .error 3) ∧
    (∀ a l, a < dmWords c → s.bad.contains (dmByte c a) → dmRead s c (a :: l) = .error 5) ∧
    (∀ a, a < dmWords c → s.bad.contains (dmByte c a) = false → dmRead s c [a] = .ok [wordAt s.mem (dmByte c a)]) ∧
    (issues s c (.st x u m) → inDm [home k 0] → exec (.coreSt c x u m) s =
      .next (s.passed c (.st x u m) ((s.storeWord (dmByte c (home k 0)) (k.r x)).onCore c step))) ∧
    (issues s c (.stx x u tsel off17) → inDm [home k off17.toInt] → exec (.coreStx c x u tsel off17) s =
      .next (s.passed c (.stx x u tsel off17) (s.storeWord (dmByte c (home k off17.toInt)) (k.r x)))) ∧
    (issues s c (.stg x u m) → inDm group → exec (.coreStg c x u m) s = .next (s.passed c (.stg x u m)
      ((dmWrite s c (group.mapIdx fun i a => (a, k.dr (x.toNat + i)))).onCore c step))) ∧
    (issues s c (.padv u m) → exec (.corePadv c u m) s = .next (s.passed c (.padv u m) (s.onCore c step))) ∧
    (∀ reg : BitVec 6, issues s c (.mvc d reg) → exec (.coreMvc c d reg) s = .next (s.passed c (.mvc d reg)
      (s.onCore c fun k => { (k.setD d.toNat (ctlRead s c reg.toNat)) with
        cycHi := if reg = 0x05#6 then some (s.rd (p + 0x58)) else if reg = 0x06#6 then none else k.cycHi }))) ∧
    (issues s c (.mvcs x 0x00#6) → exec (.coreMvcs c x 0x00#6) s =
      .next (s.passed c (.mvcs x 0x00#6) (s.onCore c fun k => { k with sr := k.sr &&& ~~~ k.r x }))) ∧
    (issues s c (.mvcs x 0x01#6) → exec (.coreMvcs c x 0x01#6) s = .next (s.passed c (.mvcs x 0x01#6)
      (s.onCore c fun k => { k with scale := scaleOf ((k.r x).setWidth 4).toInt }))) ∧
    (issues s c (.mvcs x 0x02#6) → exec (.coreMvcs c x 0x02#6) s =
      .next (s.passed c (.mvcs x 0x02#6) (s.onCore c fun k => { k with purev := (k.r x).setWidth 8 }))) ∧
    (issues s c (.mvcs x 0x07#6) → exec (.coreMvcs c x 0x07#6) s =
      .next (s.passed c (.mvcs x 0x07#6) (s.wr (p + 0x4C) (s.rd (p + 0x4C) &&& ~~~ k.r x)))) ∧
    (∀ reg : BitVec 6, 3 ≤ reg.toNat → reg.toNat < 0x20 → reg ≠ 0x07#6 → issues s c (.mvcs x reg) →
      exec (.coreMvcs c x reg) s = .next (s.passed c (.mvcs x reg) s)) ∧
    (∀ reg : BitVec 6, 0x20 ≤ reg.toNat → issues s c (.mvcs x reg) → exec (.coreMvcs c x reg) s =
      .next (s.passed c (.mvcs x reg) (s.onCore c fun k => k.setPu ((reg.toNat - 0x20) / 8) (reg.toNat % 8) (k.r x)))) ∧
    (∀ (cond : BitVec 4) (off : BitVec 12), issues s c (.b x y cond off) →
      exec (.coreB c x y cond off) s = .next (
        if (cond = 0 ∧ k.r x = k.r y) ∨ (cond = 1 ∧ k.r x ≠ k.r y) ∨ (cond = 2 ∧ (k.r x).toInt < (k.r y).toInt) ∨
            (cond = 3 ∧ (k.r y).toInt ≤ (k.r x).toInt) ∨ (cond = 4 ∧ (k.r x).toNat < (k.r y).toNat) ∨
            (cond = 5 ∧ (k.r y).toNat ≤ (k.r x).toNat) ∨ (cond = 6 ∧ k.r x &&& k.r y ≠ 0) ∨ (cond = 7 ∧ k.r x &&& k.r y = 0) ∨
            cond = 15
        then s.went c (.b x y cond off) (k.pc + 1 + off.toInt) s else s.passed c (.b x y cond off) s)) ∧
    (∀ t : BitVec 16, issues s c (.jmp t) → exec (.coreJmp c t) s = .next (s.went c (.jmp t) t.toNat s)) ∧
    (∀ t : BitVec 16, issues s c (.call t) → k.calls.length < 8 → exec (.coreCall c t) s =
      .next (s.retired c (.call t) 3 (s.onCore c fun k => { k with calls := (k.pc + 1) :: k.calls, pc := t.toNat }))) ∧
    (∀ t l, issues s c .ret → k.calls = t :: l → exec (.coreRet c) s =
      .next (s.went c .ret t (s.onCore c fun k => { k with calls := l }))) ∧
    (∀ (n : LoopBy) (len : BitVec 10), issues s c (.loop n len) →
      let count := match n with
        | .imm v => v.toNat
        | .reg r => (k.r r).toNat
      (count = 0 → exec (.coreLoop c n len) s =
        .next (s.retired c (.loop n len) 1 (s.onCore c (CoreHid.advance (len.toNat + 1))))) ∧
      (count ≠ 0 → k.loops.length < 4 → exec (.coreLoop c n len) s = .next (s.retired c (.loop n len) 1 (s.onCore c fun k =>
        { k with loops := ⟨k.pc + 1, k.pc + len.toNat, count⟩ :: k.loops, pc := k.pc + 1 })))) ∧
    (issues s c (.wait x) → exec (.coreWait c x) s = .next (
      if s.rd (p + 0x4C) &&& k.r x ≠ 0 then s.passed c (.wait x) s
      else s.retired c (.wait x) 1 ((s.onCore c fun k => { k with mask := k.r x, busy := 0 }).setSt p 4))) ∧
    (∀ (t : BitVec 5) (bits : Byte), issues s c (.sigCore t bits) → exec (.coreSigCore c t bits) s =
      .next (s.passed c (.sigCore t bits) (evtSet s t.toNat (bits.setWidth 32 <<< 8)))) ∧
    (∀ bits : Byte, issues s c (.sigForager bits) → exec (.coreSigForager c bits) s =
      .next (s.passed c (.sigForager bits) (frgSignal s (Fin.ofNat 32 bits.toNat)))) ∧
    (∀ bits : Byte, issues s c (.sigKeeper bits) → exec (.coreSigKeeper c bits) s =
      .next (s.passed c (.sigKeeper bits) ((s.setF p F.W_STAT_USER bits.toNat).raise p 1))) ∧
    (issues s c .done → exec (.coreDone c) s = .next (s.passed c .done (
      if s.dsp.checked ∨ k.done then s else (loadTake s c).onCore c fun k => { k with done := true }))) ∧
    (issues s c .halt → exec (.coreHalt c) s = .next (s.retired c .halt 1 ((s.setSt p 6).raise p 0))) ∧
    (k.loops = [] → k.advance 1 = { k with pc := k.pc + 1 }) ∧
    (∀ l t, k.loops = l :: t → l.last = k.pc → 2 ≤ l.count →
      k.advance 1 = { k with pc := l.first, loops := { l with count := l.count - 1 } :: t }) ∧
    (∀ l t, k.loops = l :: t → l.last ≠ k.pc → k.advance 1 = { k with pc := k.pc + 1 })

/-- R308, R322: the call stack holds eight return addresses and loops nest four deep: a ninth CALL, a RET with the stack empty and a
fifth nested LOOP raise STACK, which stops the core at the instruction, and eight calls and four loops do not. -/
def Obligations.StacksAreBounded : Prop :=
  ∀ (s : State) (c : Fin 20), s.inForm →
    let k := s.core c
    let stack : State := coreFault s c 6
    (∀ t : BitVec 16, issues s c (.call t) →
      (8 ≤ k.calls.length → exec (.coreCall c t) s = .next stack) ∧
      (k.calls.length < 8 → ∃ u, exec (.coreCall c t) s = .next u ∧ coreSt u c = 3 ∧
        (u.core c).calls = (k.pc + 1) :: k.calls ∧ (u.core c).pc = t.toNat)) ∧
    (issues s c .ret →
      (k.calls = [] → exec (.coreRet c) s = .next stack) ∧
      (∀ t l, k.calls = t :: l → ∃ u, exec (.coreRet c) s = .next u ∧ coreSt u c = 3 ∧
        (u.core c).calls = l ∧ (u.core c).pc = t)) ∧
    (∀ (n : LoopBy) (len : BitVec 10), issues s c (.loop n len) →
      let count := match n with
        | .imm v => v.toNat
        | .reg r => (k.r r).toNat
      count ≠ 0 →
        (4 ≤ k.loops.length → exec (.coreLoop c n len) s = .next stack) ∧
        (k.loops.length < 4 → ∃ u, exec (.coreLoop c n len) s = .next u ∧ coreSt u c = 3 ∧
          (u.core c).loops.length = k.loops.length + 1)) ∧
    coreSt stack c = 7 ∧ (stack.core c).pc = k.pc ∧ stack.getF (P.core c) F.W_STAT_FLT = 6

/-- R309, R310, R317, R320-R323: a core that is not RUNNING, or whose clock stands, issues no instruction; any instruction stops it when
the PC lies outside program memory (PM_RANGE), when its word has an uncorrectable error (PM_ECC), and when it is illegal on the core
(ILLEGAL). A write of W_n_CTRL with one of START, STOP, PAUSE, RESUME, STEP and CLR_FLT acts in the states that accept it; with several
of them it is RANGE, in another state or on a reserved core STATE, and a START while a transfer fills the program memory BUSY. The watchdog
faults a core that never waits; the host sets events, on an enabled page. -/
def Obligations.CoresFaultAndObeyTheirCommands : Prop :=
  ∀ (s : State) (c : Fin 20),
    let p := P.core c
    let live := coreLive s c
    let inPm := 0 ≤ (s.core c).pc ∧ (s.core c).pc < pmWords c
    (∀ (d x y : BitVec 5) (a e u : BitVec 3) (part : BitVec 2) (rnd tsel : Bool) (n : ShiftBy) (m : StepBy) (g : MacOps) (l : LoopBy)
      (q : BitVec 4) (reg : BitVec 6) (i8 : BitVec 8) (i10 : BitVec 10) (i12 : BitVec 12) (i16 : BitVec 16) (i17 : BitVec 17),
      ∀ j ∈ [(Instr.coreNop c, CoreInstr.nop), (.coreAdd c d x y, .add d x y), (.coreSub c d x y, .sub d x y),
        (.coreAdds c d x y, .adds d x y), (.coreSubs c d x y, .subs d x y), (.coreAnd c d x y, .and d x y),
        (.coreOr c d x y, .or d x y), (.coreXor c d x y, .xor d x y), (.coreShl c d x n, .shl d x n), (.coreShr c d x n, .shr d x n),
        (.coreSar c d x n, .sar d x n), (.coreShls c d x n, .shls d x n), (.coreMin c d x y, .min d x y),
        (.coreMax c d x y, .max d x y), (.coreAbs c d x, .abs d x), (.coreMul c d x y, .mul d x y),
        (.coreAddi c d x i16, .addi d x i16), (.coreAndi c d x i16, .andi d x i16), (.coreOri c d x i16, .ori d x i16),
        (.coreXori c d x i16, .xori d x i16), (.coreLui c d i16, .lui d i16), (.coreExp c d x, .exp d x)] ++
        [(.coreExpa c d a, .expa d a), (.coreNorm c d y x, .norm d y x), (.coreNorma c a d, .norma a d), (.coreDivs c a x, .divs a x),
        (.coreMva c d a part rnd, .mva d a part rnd), (.coreMvd c a x part, .mvd a x part), (.coreAccClr c a, .accClr a),
        (.coreAccMov c a e, .accMov a e), (.coreAccAdd c a e, .accAdd a e), (.coreAccSub c a e, .accSub a e),
        (.coreAccNeg c a e, .accNeg a e), (.coreAccShift c a e i8, .accShift a e i8), (.coreMac c g, .mac g), (.coreMsu c g, .msu g),
        (.coreMpy c g, .mpy g), (.coreMacx c g, .macx g), (.coreLd c d u m, .ld d u m), (.coreSt c x u m, .st x u m),
        (.coreLdg c d u m, .ldg d u m), (.coreStg c x u m, .stg x u m), (.coreLdx c d u tsel i17, .ldx d u tsel i17),
        (.coreStx c x u tsel i17, .stx x u tsel i17), (.corePadv c u m, .padv u m)] ++
        [(.coreMvc c d reg, .mvc d reg), (.coreMvcs c x reg, .mvcs x reg), (.coreB c x y q i12, .b x y q i12), (.coreJmp c i16, .jmp i16),
        (.coreCall c i16, .call i16), (.coreRet c, .ret), (.coreLoop c l i10, .loop l i10), (.coreWait c x, .wait x),
        (.coreSigCore c d i8, .sigCore d i8), (.coreSigForager c i8, .sigForager i8), (.coreSigKeeper c i8, .sigKeeper i8),
        (.coreDone c, .done), (.coreHalt c, .halt)],
      let bad := s.bad.contains (pmBase c + 4 * (s.core c).pc.toNat);
      (live = false → exec j.1 s = .next s) ∧
      (live → ¬inPm → exec j.1 s = .next (coreFault s c 2)) ∧
      (live → inPm → bad → exec j.1 s = .next (coreFault s c 4)) ∧
      (live → inPm → bad = false → j.2.legal c = false → exec j.1 s = .next (coreFault s c 1))) ∧
    (∀ d x y : BitVec 5, isQueen c = false → 16 ≤ d.toNat ∨ 16 ≤ x.toNat ∨ 16 ≤ y.toNat → CoreInstr.legal c (.add d x y) = false) ∧
    (isQueen c = false → ∀ a x, CoreInstr.legal c (.divs a x) = false) ∧
    (∀ d u off, CoreInstr.legal c (.ldx d u true off) = false ∧ CoreInstr.legal c (.stx d u true off) = false) ∧
    (∀ n, CoreInstr.legal c (.loop n 0) = false) ∧
    (∀ x y o, CoreInstr.legal c (.b x y 8 o) = false ∧ CoreInstr.legal c (.b x y 14 o) = false) ∧
    (∀ (r : Req) (v : Word), let a := p + 0x44; let t := s.wakeFor a
      let refused (w : Code) : Host.Outcome State Fault Refusal := .next ((t.refuseAt r 0xFF a w).answered w)
      let begun := t.onCore c fun k =>
        { k with pc := t.getF p F.W_CFG_ENTRY, calls := [], loops := [], sr := 0, busy := 0, loaded := [], summed := [] }
      let good := ((t.setF p F.W_STAT_FLT 0).setF p F.PG_STAT_FAULT 0).setSt p 2
      served s r a → ∀ e ∈ [(Instr.coreStart r c v, 0, [2, 6], (begun.wr (p + 0x4C) 0).setSt p 3),
        (.coreStop r c v, 1, [3, 4, 5, 6], t.setSt p 2), (.corePause r c v, 2, [3, 4], t.setSt p 5),
        (.coreResume r c v, 3, [5], t.setSt p 3), (.coreStep r c v, 4, [5], coreStep t c), (.coreClrFlt r c v, 5, [7], good)],
      let many := ∃ b < 6, b ≠ e.2.1 ∧ bit v b
      let okay := (isHost r = false ∨ t.isSet p F.W_CFG_SVC = false) ∧ coreSt t c ∈ e.2.2.1
      let waits := e.2.1 = 0 ∧ pmBusy t c;
      (many → exec e.1 s = refused .range) ∧ (¬many → ¬okay → exec e.1 s = refused .state) ∧
      (¬many → okay → waits → exec e.1 s = refused .busy) ∧
      (¬many → okay → ¬waits → exec e.1 s = .next (e.2.2.2.answered .done))) ∧
    (let t := coreAt c (decodeCore (coreWord s c)) (s.setSt p 3)
     coreStep s c = if coreSt t c = 3 ∨ coreSt t c = 4 then t.setSt p 5 else t) ∧
    (let dog := s.getF p F.W_CFG_WDOG;
      (live → dog ≠ 0 → dog ≤ (s.core c).busy → exec (.coreWatchdog c) s = .next (coreFault s c 7)) ∧
      (live = false ∨ dog = 0 ∨ (s.core c).busy < dog → exec (.coreWatchdog c) s = .next s)) ∧
    (∀ (r : Req) (bits : Byte), let t := s.wakeFor (p + 0x50)
      served s r (p + 0x50) →
      (t.st p ≠ 0 → exec (.evtSetHost r c bits) s = .next ((evtSet t c (bits.setWidth 32 <<< 24)).answered .done)) ∧
      (t.st p = 0 → exec (.evtSetHost r c bits) s = .next (t.answered .done)))

/-- R329, R331, R332, R334, R338: Waggle: an edge of one odometer line moves the count by one, up or down by which line leads, or the
other way round with INV, where it runs from the odometer; a change of both lines at once is an error that moves nothing, and while the
device sleeps deeply or has no clock only the levels follow; a window is judged at its last period; a source of fixes is coasting
when none has come for FIX_TMO, and lost when the dead-reckoning time has passed since the last fix or the first rejected window; a
value that is written while Waggle is stopped is the value at once, while it runs with the next period, and with SRC = PTP is refused
with STATE; START and STOP wait for the next period, and are refused with RANGE together and with STATE where R329 says. -/
def Obligations.WaggleFollowsTheRide : Prop :=
  ∀ s : State, let alive := !s.sys.held && (s.sys.mode == .run || s.sys.mode == .idle || s.sys.mode == .sleep) && s.clk.halt != some .ref
    let level (a b : Bool) := s.onWag fun w => { w with a := a, b := b }; let g := s.wag
    let moved (x : State) (n : Int) := x.onWag fun w => { w with n := w.n + n }; let inv := s.isSet P.wag F.WAG_CFG_INV
    (alive → g.run → wagSrc s = 0 →
      exec (.odoEdge .a) s = .next (moved (level (!g.a) g.b) (if (g.a = g.b) ↔ inv = false then 1 else -1)) ∧
      exec (.odoEdge .b) s = .next (moved (level g.a (!g.b)) (if (g.a = g.b) ↔ inv = false then -1 else 1))) ∧
    (alive → exec (.odoEdge .both) s = .next (((level (!g.a) (!g.b)).bump P.wag F.WAG_QERR_CNT_COUNT).err P.wag)) ∧
    (alive = false ∨ g.run = false ∨ wagSrc s ≠ 0 → exec (.odoEdge .a) s = .next (level (!g.a) g.b) ∧
      exec (.odoEdge .b) s = .next (level g.a (!g.b))) ∧
    (alive = false → exec (.odoEdge .both) s = .next (level (!g.a) (!g.b))) ∧
    (let due := g.run ∧ wagSrc s = 0 ∧ fabCnt s % 480 = 479 ∧ g.judged = false;
      (due → exec .odoWindow s = .next (windowClose s (fabCnt s + 1))) ∧ (¬due → exec .odoWindow s = .next s)) ∧
    (let due (f : Nat) := g.run ∧ wagSrc s = 1 ∧ wagQual s = 1 ∧ f + 4800 * s.getF P.wag F.WAG_GUARD_T_FIX_TMO ≤ fabCnt s;
      (∀ f, g.fixK = some f → due f → exec .fixTimeout s = .next (setQual s 2)) ∧
      ((∀ f, g.fixK = some f → ¬due f) → exec .fixTimeout s = .next s)) ∧
    (let from_ := if wagSrc s = 0 then some g.failK else g.fixK;
     let due (f : Nat) := g.run ∧ wagSrc s ≠ 2 ∧ wagQual s = 2 ∧ f + 48000 * s.getF P.wag F.WAG_GUARD_T_DR ≤ fabCnt s;
      (∀ f, from_ = some f → due f → exec .deadReckonExpiry s = .next (wagLost s)) ∧
      ((∀ f, from_ = some f → ¬due f) → exec .deadReckonExpiry s = .next s)) ∧
    (∀ (r : Req) (v : Word), let t := s.wakeFor (P.wag + 0x50); let x := pairValue t r (P.wag + 0x50) v
      let u := t.dropHold r (P.wag + 0x50)
      served s r (P.wag + 0x50) →
      (t.wag.run = false → exec (.wagValueWrite r v) s = .next ((setV u (valueRat x)).answered .done)) ∧
      (t.wag.run → wagSrc t ≠ 2 → exec (.wagValueWrite r v) s = .next ((u.onWag fun w => { w with setv := some x }).answered .done)) ∧
      (t.wag.run → wagSrc t = 2 → exec (.wagValueWrite r v) s =
        .next ((t.refuseAt r 0xFF (P.wag + 0x50) .state).answered .state))) ∧
    (∀ (r : Req) (v : Word), let a := P.wag + 0x44; let t := s.wakeFor a
      let refused (c : Code) : Host.Outcome State Fault Refusal := .next ((t.refuseAt r 0xFF a c).answered c)
      let may := t.en P.wag ∧ t.wag.run = false ∧ (wagSrc t = 2 → t.getF P.clk F.CLK_MEDIA_CFG_SRC = 1)
      served s r a →
      (bit v 1 → exec (.wagStart r v) s = refused .range) ∧
      (bit v 1 = false → may → exec (.wagStart r v) s =
        .next (((t.onWag fun w => { w with ctl := some true }).setF P.wag F.WAG_CTRL_START 1).answered .done)) ∧
      (bit v 1 = false → ¬may → exec (.wagStart r v) s = refused .state) ∧
      (bit v 0 → exec (.wagStop r v) s = refused .range) ∧
      (bit v 0 = false → t.wag.run → exec (.wagStop r v) s =
        .next (((t.onWag fun w => { w with ctl := some false }).setF P.wag F.WAG_CTRL_STOP 1).answered .done)) ∧
      (bit v 0 = false → t.wag.run = false → exec (.wagStop r v) s = refused .state))

/-- R335, R347: POS_FIX: a fix of another layout or outside its age is RANGE, and one while Waggle cannot take it is STATE. From a
source of fixes, one whose speed the guard rejects is counted and changes nothing else (log entry 49; its DEV is a free value), and
the speed taken is the host's, the mean of the measured and the present one, or the present one. A fix whose target lies within JUMPTHR
is a correction, or a jump while the ride stands; beyond it, it is a jump if the host allows one, else rejected and counted. -/
def Obligations.PositionFixesAreJudged : Prop :=
  ∀ (s : State) (q : PlReq), let p := q.payload; let t := s.wakeFor P.wag; let k := nextPeriod t; let at_ := field p 8 8
    let flags := field p 20 1; let pos := signed 64 (field p 0 8); let fix := wagSrc t = 1
    let v := if fix then fixSpeed t pos at_ else none
    let spd : Rat := if wagSrc t = 0 then t.wag.spd else if flags % 2 = 1 then (signed 32 (field p 16 4) : Int)
      else match v with
        | some v => (v + t.wag.spd) / 2
        | none => t.wag.spd
    let target : Rat := pos + spd * (k - at_ : Nat) / 48000
    let dev : Rat := target - ((t.wag.v + slewed t (plainAdvance t)).floor : Rat)
    let thr : Rat := (10 * t.getF P.wag F.WAG_FIX_CFG_JUMPTHR : Nat)
    let layout := p.length = 24 ∧ flags < 4 ∧ field p 21 3 = 0 ∧ at_ ≤ k ∧ k - at_ ≤ 480 * t.getF P.wag F.WAG_GUARD_T_MAXAGE
    let answer (d : Int) (n : Byte) := leBytes 4 (unsigned 32 (satS 32 d)) ++ [n, 0, 0, 0]
    let taken (jump : Bool) := t.onWag fun w => { w with next := some ⟨spd, pos, at_, target, jump⟩ }
    let rejected (x : State) := ((x.bump P.wag F.WAG_FIXREJ_CNT_COUNT).err P.wag).raise P.wag 6; let d := quantI dev.num dev.den
    plServes s 0x32 q → pageServes s P.wag true →
    (¬layout → exec (.posFix q) s = .next (t.plRefuse P.wag 0 0x32 q .range [])) ∧
    (layout → t.wag.run = false ∨ wagSrc t = 2 → exec (.posFix q) s = .next (t.plRefuse P.wag 0 0x32 q .state [])) ∧
    (layout → t.wag.run → wagSrc t ≠ 2 →
      (fixTooFast t v at_ → exec (.posFix q) s = .next ((rejected t.draw.2).plDone 0x32 q (answer t.draw.1.toInt 2))) ∧
      (fixTooFast t v at_ = false →
        (|dev| ≤ thr → spd ≠ 0 → exec (.posFix q) s = .next ((taken false).plDone 0x32 q (answer d 0))) ∧
        (|dev| ≤ thr → spd = 0 → exec (.posFix q) s = .next ((taken true).plDone 0x32 q (answer d 1))) ∧
        (thr < |dev| → flags / 2 % 2 = 1 → exec (.posFix q) s = .next ((taken true).plDone 0x32 q (answer d 1))) ∧
        (thr < |dev| → flags / 2 % 2 = 0 → exec (.posFix q) s = .next ((rejected t).plDone 0x32 q (answer d 2)))))

/-- R336, R337, R342, R347: the words of a cue are held for their requester, and a write of CUE_CTRL commits them: a commit that the
checks pass makes of the entry what R337 says and uses up the held words, one that they refuse changes no entry; FREE frees an
entry, DISARM leaves it DEFINED; CUE_SET writes an entry, the lowest free one for index 0xFFFF, and is FULL where none is free; CUE_CLEAR
frees or disarms the entries it names, and is ABSENT when there is none; WAGGLE_QUERY answers where the ride is; a payload of another
layout is RANGE; and in Run the deferred actions take effect in order. -/
def Obligations.CuesAreCommittedAndCommanded : Prop :=
  (∀ (s : State) (r : Req) (k : Fin 64) (v : Word),
     (∀ w : Fin 6, let a := cueAddr k w; let t := s.wakeFor a; let j := 64 * bankOf t r + k.val
       served s r a → exec (.cueWordWrite r k w v) s = .next ((t.onWag fun g =>
         { g with holds := alSet g.holds r ⟨j, alSet (cueHeld t r j) w.val v⟩ }).answered .done)) ∧
     (let a := cueAddr k 7; let t := s.wakeFor a; let j := 64 * bankOf t r + k.val; let h := cueHeld t r j
       let u := if h = [] then t else t.onWag fun g => { g with holds := alDel g.holds r };
       served s r a →
       (∀ e ∈ [(Instr.cueCommit r k v, v), (.cueFree r k v, setField v 28 28 1), (.cueArm r k v, setField v 27 27 1),
           (.cueDisarm r k v, setField v 26 26 1)],
         (cueJudge (cueAt u j) e.2 h = .done → exec e.1 s =
           .next ((setCue u j (cueCommitted (cueAt u j) e.2 h)).answered .done)) ∧
         (∀ c, c ≠ .done → cueJudge (cueAt u j) e.2 h = c → exec e.1 s = .next ((u.refuseAt r 0xFF a c).answered c))) ∧
       (v &&& 0x0C000000 = 0 → exec (.cueFree r k v) s = .next ((setCue u j Cue.free).answered .done)) ∧
       (h = [] → v &&& 0x14000033 = 0 → (cueAt t j).st ≠ 0 → (cueAt t j).st ≠ 2 →
         badAction (cueAt t j).act (cueAt t j).arg = false → exec (.cueArm r k v) s = .next ((setCue t j { cueAt t j with
           ctrl := setField v 27 27 1 &&& 0xF3#32, st := 2, side := none }).answered .done)) ∧
       (h = [] → v &&& 0x18000033 = 0 → (cueAt t j).st ≠ 0 → badAction (cueAt t j).act (cueAt t j).arg = false →
         exec (.cueDisarm r k v) s = .next ((setCue t j { cueAt t j with
           ctrl := setField v 26 26 1 &&& 0xF3#32, st := 1 }).answered .done)))) ∧
  (∀ (s : State) (q : PlReq), let p := q.payload; let t := s.wakeFor P.wag; let i := field p 0 2
     let h := (List.range 6).map fun n => (n, BitVec.ofNat 32 (field p (4 + 4 * n) 4)); let v := BitVec.ofNat 32 (field p 28 4)
     (plServes s 0x30 q → pageServes s P.wag true →
       let layout := p.length = 32 ∧ field p 2 2 = 0 ∧ (i < 1024 ∨ i = 0xFFFF)
       let k := if i = 0xFFFF then freeCue t else some i; let c := (k.map (cueAt t)).getD Cue.free; let j := cueJudge c v h
       (¬layout → exec (.cueSet q) s = .next (t.plRefuse P.wag 0 0x30 q .range [])) ∧
       (layout → j ≠ .done → exec (.cueSet q) s = .next (t.plRefuse P.wag 0 0x30 q j [])) ∧
       (layout → j = .done → k = none → exec (.cueSet q) s = .next (t.plRefuse P.wag 0 0x30 q .full [])) ∧
       (∀ n, layout → j = .done → k = some n → let u := setCue t n (cueCommitted c v h)
         exec (.cueSet q) s = .next (u.plDone 0x30 q (leBytes 2 n ++ [BitVec.ofNat 8 (cueAt u n).st, 0])))) ∧
     (plServes s 0x31 q → pageServes s P.wag true →
       let ks := (cuesDefined t).filter fun k => i == 0xFFFF || k == i; let op := field p 2 1
       let layout := p.length = 4 ∧ op ≤ 1 ∧ field p 3 1 = 0 ∧ (i < 1024 ∨ i = 0xFFFF)
       ∀ x ∈ [Instr.cueClearFree q, .cueClearDisarm q],
         (¬layout → exec x s = .next (t.plRefuse P.wag 0 0x31 q .range [])) ∧
         (layout → ks = [] → exec x s = .next (t.plRefuse P.wag 0 0x31 q .absent [])) ∧
         (layout → ks ≠ [] → op = 0 → exec x s =
           .next ((forEach ks (fun k u => setCue u k Cue.free) t).plDone 0x31 q (leBytes 2 ks.length))) ∧
         (layout → ks ≠ [] → op = 1 → exec x s =
           .next ((forEach ks (fun k u => setCue u k { cueAt u k with st := 1 }) t).plDone 0x31 q (leBytes 2 ks.length)))) ∧
     (plServes s 0x33 q → pageServes s P.wag false →
       (p = [] → exec (.waggleQuery q) s = .next (t.plDone 0x33 q
         (leBytes 8 (t.get64 (P.wag + 0x4C)).toNat ++ leBytes 8 (t.get64 (P.clk + 0x68)).toNat ++ wordBytes (t.rd (P.wag + 0x54)) ++
           wordBytes (t.rd (P.wag + 0x48)) ++ wordBytes (wagUsedWord t)))) ∧
       (p ≠ [] → exec (.waggleQuery q) s = .next (t.plRefuse P.wag 0 0x33 q .range []))) ∧
     (s.sys.mode = .run → s.sys.held = false →
       (s.wag.deferred = [] → exec .deferredActions s = .next s) ∧
       (∀ k arg, s.wag.deferred = [⟨k, 0x80000000#32, arg⟩] → bit arg 16 = false → exec .deferredActions s =
         .next (onCue (((s.onWag fun w => { w with deferred := [] }).wr (P.wag + 0x9C) (BitVec.ofNat 32 (k * 0x10000 +
           getField arg 15 0))).raise P.wag 8) k fun c => { c with code := 0 })) ∧
       (let o := s.wag.deferred.foldl (fun o e => cueAct e.cue e.act e.arg o) (s.onWag fun w => { w with deferred := [] }, []);
         exec .deferredActions s = .next (forEach o.2 armTarget o.1))) ∧
     (s.sys.mode ≠ .run ∨ s.sys.held → exec .deferredActions s = .next s))

/-- R349, R356-R362, R365: the clip players: a start that its checks accept, or a prime, is staged for the next fabric period, and
one that they refuse leaves its code in the voice, and counts a drop when it is BUSY; a stop is staged for the voice or for all; a tone
pattern is staged, with its own repeats where the command asks for them; CLIP_QUERY answers a voice, a clip, a generator, or the
library; a payload of another layout is RANGE; a head that arrives belongs to the voice that asked; a refill fills a ring that has room
for it; a clip at its end gives way to the queued one; a fade that has ended leaves the voice idle; a tone segment gives way to the
next. A read for a voice waits for the mirror's pass; where nothing is due, nothing changes. -/
def Obligations.ClipPlayersAct : Prop :=
  ∀ (s : State) (q : PlReq), let p := q.payload; let t := s.wakeFor P.clip; let v := field p 0 1; let w := voiceSeen t v
    let stage (l : List ClipOp) := t.onClip fun x => { x with staged := x.staged ++ l }
    let no (cmd : Nat) (c : Code) := t.plRefuse P.clip 0 cmd q c []
    (plServes s 0x38 q → pageServes s P.clip true → ∀ i ∈ [Instr.clipStart q, .clipPrime q],
      let layout := p.length = 8 ∧ v < 64 ∧ field p 1 1 < 2 ∧ field p 5 3 = 0; let prime := field p 1 1 == 1
      let c := startCheck t v (field p 2 2) prime w.1 w.2.1; let u := t.onVoice v fun x => { x with code := c.num }
      (¬layout → exec i s = .next (no 0x38 .range)) ∧
      (layout → c = .done → exec i s = .next ((stage [.start v (field p 2 2) (field p 4 1) prime]).plDone 0x38 q
        [BitVec.ofNat 8 (t.voice v).st, 0, 0, 0])) ∧
      (layout → c ≠ .done → exec i s = .next ((if c = .busy then clipNote u F.CLIP_BUSY_CNT_COUNT 2 false else u).plRefuse
        P.clip 0 0x38 q c []))) ∧
    (plServes s 0x39 q → pageServes s P.clip true → let n := rampN (if field p 1 1 = 15 then 4 else field p 1 1)
      let layout := p.length = 4 ∧ (v < 64 ∨ v = 0xFF) ∧ field p 1 1 < 16 ∧ field p 2 2 = 0
      (¬layout → exec (.clipStop q) s = .next (no 0x39 .range)) ∧
      (layout → v < 64 → exec (.clipStop q) s = .next ((stage [.stop v n]).plDone 0x39 q [])) ∧
      (layout → v = 0xFF → exec (.clipStop q) s =
        .next ((stage ((List.range 64).map fun u => .stop u n)).plDone 0x39 q []))) ∧
    (plServes s 0x3A q → pageServes s P.clip true → let m := field p 1 1; let pat := tonePat t m
      let layout := p.length = 4 ∧ v < 64 ∧ field p 3 1 < 2
      (¬layout → exec (.toneStart q) s = .next (no 0x3A .range)) ∧
      (layout → m ≠ 0xFF → pat = none → exec (.toneStart q) s = .next (no 0x3A .absent)) ∧
      (layout → m = 0xFF ∨ pat.isSome → t.en P.clip = false → exec (.toneStart q) s = .next (no 0x3A .state)) ∧
      (layout → m = 0xFF ∨ pat.isSome → t.en P.clip → exec (.toneStart q) s =
        .next ((stage [.tone v m (if field p 3 1 = 1 then (pat.map (·.rep)).getD 0 else field p 2 1)]).plDone 0x3A q []))) ∧
    (plServes s 0x3B q → pageServes s P.clip false → let i := field p 2 2; let layout := p.length = 4 ∧ field p 1 1 = 0
      (layout → v = 0 → i < 64 → exec (.clipQuery q) s = .next (t.plDone 0x3B q (wordBytes (t.rd (P.clip + 0x100 + 8 * i)) ++
        wordBytes (voiceWord t i)))) ∧
      (layout → v = 1 → i < 4096 →
        (libValid t = false → exec (.clipQuery q) s = .next (no 0x3B .state)) ∧
        (libValid t → clipThere t i = false → exec (.clipQuery q) s = .next (no 0x3B .absent)) ∧
        (libValid t → clipThere t i → exec (.clipQuery q) s = .next (t.plDone 0x3B q (dirEntry t i)))) ∧
      (layout → v = 2 → i < 64 → exec (.clipQuery q) s = .next (t.plDone 0x3B q (wordBytes (toneWord t i)))) ∧
      (layout → v = 3 → exec (.clipQuery q) s = .next (t.plDone 0x3B q (wordBytes (t.rd (P.clip + 0x44)) ++
        leBytes 8 (mask64 fun v => (t.voice v).st != 0) ++ leBytes 8 (mask64 fun g => (t.tone g).run)))) ∧
      (¬layout ∨ 4 ≤ v ∨ (v = 1 ∧ 4096 ≤ i) ∨ (v ≠ 1 ∧ v ≠ 3 ∧ 64 ≤ i) →
        exec (.clipQuery q) s = .next (no 0x3B .range))) ∧
    (∀ (u : Fin 64) sound, let due (h : HeadFor) := s.clip.heads.head? = some (u.val, h) ∧ s.domOn .core ∧ pfMirror s = false
      (∀ h, due h → exec (.clipHeadArrive u sound) s = .next (headArrived s u h sound)) ∧
      (s.clip.heads.head?.map (·.1) ≠ some u.val ∨ s.domOn .core = false ∨ pfMirror s → exec (.clipHeadArrive u sound) s = .next s)) ∧
    (∀ (u : Fin 64) sound, let x := s.voice u; let c := clipOf s x.clip
      let room := (x.st = 3 ∨ x.st = 4) ∧ x.held = none ∧ s.domOn .core ∧
        x.got + 1024 ≤ needed s c (x.pos * clipRate c.rate / 48000) + ringBytes s
      (room → pfMirror s = false → exec (.voiceRefillDone u sound) s = .next (refill s u sound)) ∧
      (¬room ∨ pfMirror s → exec (.voiceRefillDone u sound) s = .next s)) ∧
    (∀ u : Fin 64, let x := s.voice u; let c := clipOf s x.clip
      let end_ := (x.st = 3 ∨ x.st = 4) ∧ x.held = none ∧
        (c.n = 0 ∨ ∃ m, playLen c x.rep = some m ∧ m ≤ x.pos * clipRate c.rate / 48000)
      (end_ → exec (.clipEnd u) s = .next (clipEnded s u)) ∧ (¬end_ → exec (.clipEnd u) s = .next s)) ∧
    (∀ u : Fin 64, let x := s.voice u; let ended := x.st = 4 ∧ ∀ f, x.fade = some f → f.n ≤ f.i
      (ended → ∀ n, x.after = some n →
        exec (.voiceFadeEnd u) s = .next (voiceNext (s.onVoice u fun y => { y with after := none }) u n .after false)) ∧
      (ended → x.after = none → ∀ n, x.queue = some n →
        exec (.voiceFadeEnd u) s = .next (voiceNext (s.onVoice u fun y => { y with queue := none }) u n .queue true)) ∧
      (ended → x.after = none → x.queue = none → exec (.voiceFadeEnd u) s = .next (headDrop (s.onVoice u fun y =>
        { Voice.idle with code := y.code, last := y.last, fresh := y.fresh }) u fun _ => false)) ∧
      (¬ended → exec (.voiceFadeEnd u) s = .next s)) ∧
    (∀ g : Fin 64, let x := s.tone g; let n := ((tonePat s x.pat).map (·.segs.length)).getD 0
      let ended := x.run ∧ ∀ e, toneSeg s g = some e → 48 * e.dur ≤ x.t
      (ended → x.seg + 1 < n → exec (.toneSegmentEnd g) s = .next (s.onTone g fun y => { y with seg := y.seg + 1, t := 0 })) ∧
      (ended → n ≤ x.seg + 1 → x.left ≠ 0 → n ≠ 0 → exec (.toneSegmentEnd g) s =
        .next (s.onTone g fun y => { y with seg := 0, t := 0, left := if y.left = 255 then 255 else y.left - 1 })) ∧
      (ended → n ≤ x.seg + 1 → x.left = 0 ∨ n = 0 → exec (.toneSegmentEnd g) s = .next (match x.next with
        | some (a, b) => toneBegin s g a b
        | none => s.onTone g fun _ => Tone.idle)) ∧
      (¬ended → exec (.toneSegmentEnd g) s = .next s))

/-- R369-R379, R381: the measurement converters: a trigger of an idle sequence waits; one that meets a busy sequence is dropped and
counted, held once, or restarts the sequence, as POLICY says, and in Idle one for the ring is dropped; software and ADC_TRIGGER trigger
the sequences of a mask, and are refused with STATE where one of them is off; FLUSH empties the FIFO, CLR_PLAUS clears the plausibility
fault; the lowest sequence that waits begins when the converter is free, and SEQ0 suspends another; a pass that is done puts its results
and frees the converter; the reference settles; and a calibration step moves each correction by at most 1 LSB. Where nothing is due,
nothing changes. -/
def Obligations.ConvertersMeasure : Prop :=
  ∀ (s : State) (n : Fin 2),
    (∀ k : Fin 4, let trig := s.getF (seqBase n k) F.MADC_SEQ_TRIG_TRIG
      let pwm := trig = 2 ∧ ampLive s (getField (s.rd (seqBase n k + 0x104)) 26 24)
      (seqOn s n k → trig = 1 → exec (.madcTimerTrigger n k) s = .next (trigger s n k).2) ∧
      (seqOn s n k = false ∨ trig ≠ 1 → exec (.madcTimerTrigger n k) s = .next s) ∧
      (seqOn s n k → pwm → exec (.madcPwmTrigger n k) s = .next (trigger s n k).2) ∧
      (seqOn s n k = false ∨ ¬pwm → exec (.madcPwmTrigger n k) s = .next s)) ∧
    (∀ k : Nat, let pol := s.getF (seqBase n k) F.MADC_SEQ_CFG_POLICY; let t := (k, !refOk s n)
      let drop := ((s.bump (P.madc n) F.MADC_DROP_CNT_COUNT).raise (P.madc n) 1).err (P.madc n)
      let ring := s.sys.mode = .idle ∧ seqDest s n k = 2; let held := (s.conv n).held.any fun h => h.1 == k
      (ring → trigger s n k = (false, drop)) ∧
      (¬ring → seqBusy s n k = false → trigger s n k = (true, madcShow (s.onMadc n fun m =>
        { m with waiting := m.waiting ++ [t] }) n)) ∧
      (¬ring → seqBusy s n k →
        (pol ≠ 1 → pol ≠ 2 → trigger s n k = (false, drop)) ∧
        (pol = 1 → held → trigger s n k = (false, drop)) ∧
        (pol = 1 → held = false → trigger s n k = (true, s.onMadc n fun m => { m with held := m.held ++ [t] })) ∧
        (pol = 2 → trigger s n k = (true, (s.bump (P.madc n) F.MADC_RESTART_CNT_COUNT).onMadc n fun m => { m with
          active := m.active.map fun p => if p.seq = k then { p with ending := true } else p
          susp := m.susp.filter fun p => p.seq != k
          waiting := m.waiting.filter (fun w => w.1 != k) ++ [t] })))) ∧
    (∀ (r : Req) (m : Fin 16) (v : Word), let a := P.madc n + 0x48; let t := s.wakeFor a
      let wrote (w : Word) : Host.Outcome State Fault Refusal :=
        let f := if bit w 9 then t.onMadc n fun m => { m with fifo := [] } else t
        let c := if bit w 8 ∧ n.val = 0 then (f.setF (P.madc 0) F.MADC_XCHK_STAT_LEAKY 0).setF (P.madc 0) F.PG_STAT_FAULT 0 else f
        .next (if maskOn t n (getField w 3 0) then (trigMask c n (getField w 3 0)).2.answered .done
          else (t.refuseAt r 0xFF a .state).answered .state)
      served s r a → exec (.madcSwtrig r n m v) s = wrote (setField v 3 0 m) ∧ exec (.madcFlush r n v) s = wrote (setField v 9 9 1)) ∧
    (∀ (r : Req) (v : Word), let a := P.madc 0 + 0x48; let t := s.wakeFor a; let w := setField v 8 8 1
      let f := if bit w 9 then t.onMadc 0 fun m => { m with fifo := [] } else t
      served s r a →
      (maskOn t 0 (getField w 3 0) → exec (.madcClrPlaus r v) s = .next ((trigMask ((f.setF (P.madc 0) F.MADC_XCHK_STAT_LEAKY 0).setF
        (P.madc 0) F.PG_STAT_FAULT 0) 0 (getField w 3 0)).2.answered .done)) ∧
      (maskOn t 0 (getField w 3 0) = false →
        exec (.madcClrPlaus r v) s = .next ((t.refuseAt r 0xFF a .state).answered .state))) ∧
    (∀ q : PlReq, let m := field q.payload 0 1; let k := field q.payload 1 1; let pg := P.madc (m % 2); let t := s.wakeFor pg
      let layout := q.payload.length = 4 ∧ m < 2 ∧ k < 16 ∧ field q.payload 2 2 = 0
      plServes s 0x40 q → pageServes s pg true →
      (¬layout → exec (.adcTrigger q) s = .next (t.plRefuse pg 0 0x40 q .range [])) ∧
      (layout → maskOn t m k → exec (.adcTrigger q) s = .next ((trigMask t m k).2.plDone 0x40 q
        [BitVec.ofNat 8 (trigMask t m k).1, 0, 0, 0])) ∧
      (layout → maskOn t m k = false → exec (.adcTrigger q) s = .next (t.plRefuse (P.madc m) 0 0x40 q .state []))) ∧
    (∀ cyc l x0 x1, let m := s.conv n; let i := Instr.madcPassStart n cyc l x0 x1
      (m.active = none → m.susp = none →
        (∀ w, nextSeq m.waiting = some w → exec i s = .next (madcShow (passBegin s n w cyc x0 x1) n)) ∧
        (nextSeq m.waiting = none → exec i s = .next s)) ∧
      (∀ p, m.active = some p → m.susp = none →
        (∀ ns, nextSeq m.waiting = some (0, ns) → p.seq ≠ 0 →
          let l := l.take (s.getF (seqBase n p.seq) F.MADC_SEQ_CFG_LEN - 1 - p.entry)
          exec i s = .next (madcShow (passBegin ((putResults n p p.entry l s).onMadc n fun m => { m with
            susp := if p.ending then none else some { p with entry := p.entry + l.length } }) n (0, ns) cyc x0 x1) n)) ∧
        (p.seq = 0 ∨ (∀ ns, nextSeq m.waiting ≠ some (0, ns)) → exec i s = .next s)) ∧
      (m.susp.isSome → exec i s = .next s)) ∧
    (∀ codes,
      ((s.conv n).active = none → exec (.madcPassDone n codes) s = .next s) ∧
      (∀ p, (s.conv n).active = some p → let left := s.getF (seqBase n p.seq) F.MADC_SEQ_CFG_LEN - p.entry
        (p.ending → exec (.madcPassDone n codes) s =
          .next (passOver (putResults n p p.entry (codes.take left) s) n p.seq)) ∧
        (p.ending = false → codes.length = left → exec (.madcPassDone n codes) s =
          .next (passOver ((putResults n p p.entry codes s).raise (P.madc n) 0) n p.seq)) ∧
        (p.ending = false → codes.length ≠ left → exec (.madcPassDone n codes) s = .next s))) ∧
    (let due := refOk s n = false ∧ s.domOn .analog ∧ s.sys.held = false;
      (due → exec (.madcRefOk n) s = .next (madcShow ((s.setF (P.madc n) F.MADC_REF_REF_OK 1).raise (P.madc n) 3) n)) ∧
      (¬due → exec (.madcRefOk n) s = .next s)) ∧
    (∀ (g : Fin 4) (z hi lo : BitVec 14),
      let due := s.isSet (P.madc n) F.MADC_CFG_CAL ∧ s.en (P.madc n) ∧ s.domOn .analog ∧ ∀ k < 4, seqBusy s n k = false
      (due → ∃ dx dy : Int, |dx| ≤ 1 ∧ |dy| ≤ 1 ∧
        (let x := corrected ((s.conv n).cal.getD g (0, 0)) z.toNat - 8192;
          (0 < x → dx = -1) ∧ (x < 0 → dx = 1) ∧ (x = 0 → dx = 0)) ∧
        exec (.converterCalibration n g z hi lo) s =
          .next (s.onMadc n fun m => { m with cal := modifyAt (fun c => (c.1 + dx, c.2 + dy)) g m.cal })) ∧
      (¬due → exec (.converterCalibration n g z hi lo) s = .next s))

/-- R382-R389: line supervision: enabling it takes its taps and sequences when they are free, and is refused with STATE, or FULL where
no crosspoint is free; disabling it gives them back; a word out of range is RANGE, and one while the self-test runs STATE; each
window judges the channels it supervises; LEARN begins a learning; the self-test begins over its zones, judges each, keeps the
acoustic reference that a LEARN finds, and an abort skips those left; LSV_QUERY answers the verdicts. -/
def Obligations.LinesAreSupervised : Prop :=
  ∀ s : State,
    (∀ (r : Req) (v : Word), let a := P.lsv + 0x40; let t := s.wakeFor a; let was := t.isSet P.lsv F.LSV_CFG_EN
      let refused (c : Code) : Host.Outcome State Fault Refusal := .next ((t.refuseAt r 0xFF a c).answered c)
      let good (w : Word) := 1 ≤ getField w 27 24 ∧ getField w 27 24 ≤ 10 ∧ 1 ≤ getField w 23 20 ∧ getField w 23 20 ≤ 10 ∧
        5 ≤ getField w 19 12 ∧ 1 ≤ getField w 11 8
      let on := setField v 31 31 1; let off := setField v 31 31 0
      served s r a →
      (¬good on → exec (.lsvEnable r v) s = refused .range) ∧ (¬good off → exec (.lsvDisable r v) s = refused .range) ∧
      (good on → t.lsv.test.isSome → exec (.lsvEnable r v) s = refused .state) ∧
      (good off → t.lsv.test.isSome → exec (.lsvDisable r v) s = refused .state) ∧
      (good on → t.lsv.test = none →
        (was = false → (lsvStart t).1 = .done →
          exec (.lsvEnable r v) s = .next ((lsvShow ((lsvStart t).2.store a on)).answered .done)) ∧
        (was = false → (lsvStart t).1 ≠ .done → exec (.lsvEnable r v) s = refused (lsvStart t).1) ∧
        (was → exec (.lsvEnable r v) s = .next ((lsvShow (t.store a on)).answered .done))) ∧
      (good off → t.lsv.test = none → exec (.lsvDisable r v) s =
        .next ((lsvShow ((if was then lsvStop t else t).store a off)).answered .done))) ∧
    (let busy := s.getF P.lsv F.LSV_INFO_CORE = 31 ∨ s.en P.lsv = false ∨ s.isSet (seqBase 0 3) F.MADC_SEQ_CFG_EN ∨
        s.isSet (seqBase 1 3) F.MADC_SEQ_CFG_EN;
     let taps := tapAll (((List.range 8).filter (supervised s)).map (0x3C0 + ·)) (s, []);
      (busy → lsvStart s = (.state, s)) ∧ (¬busy → taps = none → lsvStart s = (.full, s)) ∧
      (∀ t e, ¬busy → taps = some (t, e) → lsvStart s = (.done, lsvSeq 1 (lsvSeq 0 (t.onLsv fun l => { l with taps := e }))))) ∧
    (∀ ms, (s.st P.lsv = 3 → s.sys.mode = .run → exec (.lsvWindow ms) s = .next (lineFault ((ms.zipIdx).foldl (fun u e =>
        if e.2 < 8 ∧ supervised u e.2 then lineWindow u e.2 e.1 else u) s))) ∧
      (s.st P.lsv ≠ 3 ∨ s.sys.mode ≠ .run → exec (.lsvWindow ms) s = .next s)) ∧
    (∀ (r : Req) (c : Fin 8) (v : Word), let a := lineBase c + 0x80; let t := s.wakeFor a; let w := setField v 30 30 1
      let good := (getField w 15 0 = 0 ∨ (100 ≤ getField w 15 0 ∧ getField w 15 0 ≤ 10000)) ∧ 1 ≤ getField w 27 24 ∧
        getField w 27 24 ≤ 8
      served s r a →
      (good → exec (.lsvLearn r c v) s = .next ((lineNone ((onLine (t.store a w) c fun l =>
        { l with learned := [] }).setF (lineBase c) F.LSV_STAT_LEARNING 1) c).answered .done)) ∧
      (¬good → exec (.lsvLearn r c v) s = .next ((t.refuseAt r 0xFF a .range).answered .range))) ∧
    (∀ q : PlReq, let p := q.payload; let c := field p 0 1; let m := field p 1 1; let lev := field p 2 1; let t := s.wakeFor P.lsv
      (plServes s 0x41 q → pageServes s P.lsv false → let layout := p.length = 4 ∧ field p 1 3 = 0 ∧ (c < 8 ∨ c = 0xFF)
        (¬layout → exec (.lsvQuery q) s = .next (t.plRefuse P.lsv 0 0x41 q .range [])) ∧
        (layout → c < 8 → exec (.lsvQuery q) s = .next (t.plDone 0x41 q ((List.range 4).flatMap fun i =>
          wordBytes (t.rd (lineBase c + 0x80 + 4 * i))))) ∧
        (layout → c = 0xFF → exec (.lsvQuery q) s = .next (t.plDone 0x41 q (wordBytes (t.rd (P.lsv + 0x40)) ++
          wordBytes (t.rd (P.lsv + 0x4C)) ++ (List.range 8).map fun c => BitVec.ofNat 8 (t.getF (lineBase c) F.LSV_STAT_VERDICT))))) ∧
      (plServes s 0x42 q → pageServes s P.lsv true → ∀ i ∈ [Instr.selftestStart q, .selftestLearn q, .selftestAbort q],
        let layout := p.length = 4 ∧ c ≤ 2 ∧ (c = 1 ∨ m ≠ 0) ∧ 6 ≤ lev ∧ lev ≤ 40 ∧ field p 3 1 = 0
        let u := if c = 1 then testAbort t else testBegin (c == 2) m lev t; let need := if c = 1 then 4 else 3
        (¬layout → exec i s = .next (t.plRefuse P.lsv 0 0x42 q .range [])) ∧
        (layout → t.st P.lsv ≠ need → exec i s = .next (t.plRefuse P.lsv 0 0x42 q .state [])) ∧
        (layout → t.st P.lsv = need → exec i s = .next (u.plDone 0x42 q (wordBytes (u.rd (P.lsv + 0x4C))))))) ∧
    (∀ m x z cnt, s.lsv.test = some x → x.zone = some (z, cnt) →
      let r := sweepResult s z cnt x.level m
      let u := ((s.setF (stBase z) F.LSV_ST_RES_EVERD r.2.2).setF (stBase z) F.LSV_ST_RES_Z (min 0xFFFF (quant m.line.z 10))).setS
        (stBase z) F.LSV_ST_AC_AG r.2.1
      let l := if x.learn ∧ r.2.2 = 1 ∧ m.mic then u.setS (stBase z) F.LSV_ST_AC_AREF r.2.1 else u
      exec (.selftestZone m) s = .next (testNext x.todo (releaseAll (zoneResult l z r.1) (sweepXp l z).toList 0))) ∧
    (∀ m, s.lsv.test = none ∨ (∃ x, s.lsv.test = some x ∧ x.zone = none) → exec (.selftestZone m) s = .next s)

/-- R47, R391, R399-R403: the update commands: IMG_BEGIN opens a session on the slot that did not boot, or on the library half
that is not in use; IMG_DATA takes the bytes in order from the session's owner, and a repeat of bytes taken changes nothing;
IMG_COMMIT of a whole image starts its verification, of part of one is CHECK; OP 1 verifies in place; the outcome is reported and
entered in the slot's log, or the library half is kept or left empty; a session without data ends; IMG_CONFIRM confirms the image that
booted on trial; and the OTP takes a key hash or a revocation from a host alone. Each command is refused with the first check that
fails, in the order of R46. A session or verification that ends badly is recorded against the command that began it (log entry 78). -/
def Obligations.ImagesAreUpdated : Prop :=
  ∀ (s : State) (q : PlReq), let p := q.payload; let t := s.wakeFor P.kpr; let o := viaOwner q.via
    (plServes s 0x62 q → pageServes s P.kpr true → let tg := field p 0 1; let d := sessionDest t tg; let n := field p 4 4
      let code : Code := if p.length ≠ 8 ∨ 1 < tg ∨ field p 1 3 ≠ 0 then .range
        else if flsReady t ∧ (n < 128 ∨ sizeMax t tg d < n) then .range
        else if t.sys.recovery = false ∧ t.isSet P.kpr F.KPR_BOOT_TRIAL then .state
        else if flsReady t = false then .state
        else if t.kpr.session.isSome ∨ t.kpr.verify.isSome then .busy else .done
      (code ≠ .done → exec (.imgBegin q) s = .next (t.plRefuse P.kpr 0 0x62 q code [])) ∧
      (code = .done → let v := t.onKpr fun k => { k with session := some ⟨o.1, o.2, tg, d, n, []⟩ }
        let u := if tg = 0 then onSlotImage v d fun _ => ⟨[], []⟩ else setLib v d []
        exec (.imgBegin q) s = .next ((imgShow (sessionShow (((((u.setF P.kpr F.KPR_IMG_STAT_TARGET tg).setF P.kpr F.KPR_IMG_STAT_DEST
          d).setF P.kpr F.KPR_IMG_STAT_REQ o.1.code).setF P.kpr F.KPR_IMG_STAT_KEY o.2).setF P.kpr F.KPR_IMG_BYTES_BYTES 0) 1)).plDone 0x62 q
          [BitVec.ofNat 8 d, 0, 0, 0]))) ∧
    (plServes s 0x63 q → pageServes s P.kpr true →
      let n := t.getF P.kpr F.KPR_IMG_BYTES_BYTES; let off := field p 0 4; let d := p.drop 4; let bad := p.length < 5 ∨ 240 < p.length
      let no (c : Code) : Host.Outcome State Fault Refusal := .next (t.plRefuse P.kpr 0 0x63 q c [])
      ∀ er, (t.kpr.session = none → (bad → exec (.imgData er q) s = no .range) ∧ (¬bad → exec (.imgData er q) s = no .state)) ∧
        (∀ e, t.kpr.session = some e → let again := off + d.length ≤ n ∧ (e.data.drop off).take d.length = d
          let fits := ¬bad ∧ (again ∨ (off = n ∧ n + d.length ≤ e.size))
          (¬fits → exec (.imgData er q) s = no .range) ∧
          (fits → o ≠ (e.req, e.key) → exec (.imgData er q) s = no .state) ∧
          (fits → o = (e.req, e.key) → again → exec (.imgData er q) s = .next (t.plDone 0x63 q [])) ∧
          (fits → o = (e.req, e.key) → ¬again → er = true → exec (.imgData er q) s = no .busy) ∧
          (fits → o = (e.req, e.key) → ¬again → er = false → exec (.imgData er q) s = .next (((t.onKpr fun k =>
            { k with session := some { e with data := e.data ++ d } }).setF P.kpr F.KPR_IMG_BYTES_BYTES
              (n + d.length)).plDone 0x63 q [])))) ∧
    (plServes s 0x64 q → pageServes s P.kpr true →
      let no (c : Code) : Host.Outcome State Fault Refusal := .next (t.plRefuse P.kpr 0 0x64 q c [])
      let layout := p.length = 4 ∧ field p 0 1 ≤ 1 ∧ field p 1 1 ≤ 1 ∧ field p 2 1 ≤ 1 ∧ field p 3 1 ≤ 1
      let tg := field p 2 1; let d := field p 3 1; let boot := field p 1 1 == 1
      ∀ i ∈ [Instr.imgCommit q, .imgVerify q],
        (¬layout → exec i s = no .range) ∧
        (layout → field p 0 1 = 0 → (t.kpr.session = none → exec i s = no .state) ∧ (∀ e, t.kpr.session = some e →
          (o ≠ (e.req, e.key) → exec i s = no .state) ∧
          (o = (e.req, e.key) → t.kpr.verify.isSome → exec i s = no .busy) ∧
          (o = (e.req, e.key) → t.kpr.verify = none → e.data.length ≠ e.size → exec i s = no .check) ∧
          (o = (e.req, e.key) → t.kpr.verify = none → e.data.length = e.size → exec i s = .next ((sessionShow (t.onKpr fun k =>
            { k with session := none, verify := some ⟨true, e.target, e.dest, boot, e.data, q.via.req⟩ }) 2).plDone 0x64 q [])))) ∧
        (layout → field p 0 1 = 1 →
          (t.kpr.verify.isSome → exec i s = no .busy) ∧
          (t.kpr.verify = none → flsReady t = false → exec i s = no .state) ∧
          (t.kpr.verify = none → flsReady t → exec i s = .next ((sessionShow (t.onKpr fun k =>
            { k with verify := some ⟨false, tg, d, boot, if tg = 0 then (slotOf t d).bytes else t.flash.libs.getD d [], q.via.req⟩ })
            2).plDone 0x64 q [])))) ∧
    (∀ sound,
      (s.kpr.verify = none ∨ keeperRuns s = false → exec (.imgVerifyDone sound) s = .next s) ∧
      (∀ v, s.kpr.verify = some v → keeperRuns s →
        let c := if sound = false then .check else if v.target = 0 then imgVerify s v.data true else libVerify v.data
        let a := s.onKpr fun k => { k with verify := none, rebootDue := v.reboot && decide (c = .done) }
        let u := if v.ends = false then a
          else if v.target = 1 then setLib a v.dest (if c = .done then v.data else [])
          else let x := onSlotImage a v.dest fun _ => ⟨v.data, []⟩
            if c = .done then bootLog x v.dest .commit 0 else bootLog x v.dest .reject c.num
        let w := if c = .done then u else (u.err P.kpr).refuse P.kpr 0x64 v.req 0 c
        exec (.imgVerifyDone sound) s = .next (imgShow ((sessionShow ((w.setF P.kpr F.KPR_IMG_STAT_CODE c.num).raise P.kpr 0)
          (if w.kpr.session.isSome then 1 else 0)).log 0x0003 1 0x0006 0 [BitVec.ofNat 8 v.target, BitVec.ofNat 8 v.dest,
            BitVec.ofNat 8 (if v.target = 0 then imgSecver v.data else 0), BitVec.ofNat 8 c.num])))) ∧
    (keeperRuns s → ∀ e, s.kpr.session = some e → exec .imgSessionTimeout s = .next (imgShow (sessionShow (((s.onKpr fun k =>
      { k with session := none }).refuse P.kpr 0x62 e.req 0 .aborted).setF P.kpr F.KPR_IMG_STAT_CODE Code.aborted.num) 0))) ∧
    (keeperRuns s = false ∨ s.kpr.session = none → exec .imgSessionTimeout s = .next s) ∧
    (plServes s 0x65 q → pageServes s P.kpr true → ∀ b,
      (p ≠ [] → exec (.imgConfirm b q) s = .next (t.plRefuse P.kpr 0 0x65 q .range [])) ∧
      (p = [] → t.isSet P.kpr F.KPR_BOOT_TRIAL = false → exec (.imgConfirm b q) s = .next (t.plRefuse P.kpr 0 0x65 q .state [])) ∧
      (p = [] → t.isSet P.kpr F.KPR_BOOT_TRIAL → let k := bootedSlot t; let sv := t.getF P.kpr F.KPR_BOOT_SECVER
        let u := bootLog t k .confirm 0
        let l := match libOf u (slotOf u k).bytes with
          | some h => { u with flash := { u.flash with active := some h } }
          | none => u
        let x := if slotState (slotOf l (1 - k)).log ≠ 0 ∧ imgSecver (slotOf l (1 - k)).bytes < sv then
          bootLog l (1 - k) .reject Code.auth.num else l
        let w := (imgShow (blowFuses x sv b)).setF P.kpr F.KPR_BOOT_TRIAL 0
        exec (.imgConfirm b q) s = .next ((w.log 0x0004 1 0x0006 0 [BitVec.ofNat 8 k, BitVec.ofNat 8 sv,
          BitVec.ofNat 8 w.otp.fuses]).plDone 0x65 q [BitVec.ofNat 8 w.otp.fuses, 0, 0, 0]))) ∧
    (∀ (r : Req) (v : Word), let a := P.kpr + 0x90; let t := s.wakeFor a; let busy := t.isSet P.kpr F.KPR_OTP_CTRL_BUSY
      let no (c : Code) : Host.Outcome State Fault Refusal := .next ((t.refuseAt r 0xFF a c).answered c)
      served s r a →
      (let w := setField v 9 8 1; let k := getField w 1 0; let good := getField w 31 24 = 0x5C ∧ k ≠ 0;
        (3 < r.code → exec (.otpProg r v) s = no .auth) ∧
        (r.code ≤ 3 → ¬good → exec (.otpProg r v) s = no .range) ∧
        (r.code ≤ 3 → good → otpBit t.otp.prog k → exec (.otpProg r v) s = no .state) ∧
        (r.code ≤ 3 → good → otpBit t.otp.prog k = false → busy → exec (.otpProg r v) s = no .busy) ∧
        (r.code ≤ 3 → good → otpBit t.otp.prog k = false → busy = false → exec (.otpProg r v) s = .next (((t.onKpr fun x =>
          { x with otpOp := some (k, otpStaged t) }).setF P.kpr F.KPR_OTP_CTRL_BUSY 1).answered .done))) ∧
      (let w := setField v 9 8 2; let k := getField w 1 0; let good := getField w 31 24 = 0x5C ∧ k ≠ 0;
        (3 < r.code → exec (.otpRevoke r v) s = no .auth) ∧
        (r.code ≤ 3 → ¬good → exec (.otpRevoke r v) s = no .range) ∧
        (r.code ≤ 3 → good → t.getF P.kpr F.KPR_BOOT_KEYSLOT = k → exec (.otpRevoke r v) s = no .state) ∧
        (r.code ≤ 3 → good → t.getF P.kpr F.KPR_BOOT_KEYSLOT ≠ k → busy → exec (.otpRevoke r v) s = no .busy) ∧
        (r.code ≤ 3 → good → t.getF P.kpr F.KPR_BOOT_KEYSLOT ≠ k → busy = false →
          exec (.otpRevoke r v) s = .next ((otpRevoke t k).answered .done)))) ∧
    (∀ sound, (s.kpr.otpOp = none → exec (.otpProgDone sound) s = .next s) ∧ (∀ k h, s.kpr.otpOp = some (k, h) →
      let u := (s.onKpr fun x => { x with otpOp := none }).setF P.kpr F.KPR_OTP_CTRL_BUSY 0
      let w : State := { u with otp := { u.otp with keys := modifyAt (fun _ => h) k u.otp.keys,
                                                    prog := if otpBit u.otp.prog k then u.otp.prog else u.otp.prog + 2 ^ k } }
      exec (.otpProgDone sound) s = .next (if sound then w else otpFailed (otpRevoke w k) 1 k)))

/-- R395-R398: the Keeper boots: it scans the black box and the flash; where
a slot passes its checks it boots that slot, and where none does it serves RECOVERY, with the records of the slots it rejected;
a device that is held, or has booted, does not boot. -/
def Obligations.TheKeeperBoots : Prop :=
  ∀ (s : State) (f : FlashProbe),
    (s.sys.held = true ∨ s.sys.service = true ∨ s.sys.mode ≠ .run → exec (.boot f) s = .next s) ∧
    (s.sys.held = false → s.sys.service = false → s.sys.mode = .run →
      let z := s.onSys fun y => { y with opening := 0 }
      let n : State := { z.onUdp (fun u => { u with nonce := Config.random64 z.free }) with free := z.free + 1 }
      let b := bbxScan (flashProbe f n); let u := aonFlush (if swarmOpen b then swarmEnd b 2 else b)
      (flsReady u = false → exec (.boot f) s = .next (offWakeEnd (bootRecovery u))) ∧
      (flsReady u → bootList u = [] → exec (.boot f) s = .next (offWakeEnd (bootRecovery (imgShow u)))) ∧
      (flsReady u → let o := bootPick (bootList u) (imgShow u) []; let w := fallRecords o.fall (o.slot.map (·.1)) o.st
        exec (.boot f) s = .next (offWakeEnd (match o.slot with
          | some (k, c) => bootSlot k c w
          | none => bootRecovery w))))

/-- R349, R363, R404-R409: the black box: a queued record is written with the next SEQ, and one that reads back wrong stays queued to
be written again; a pass of the mirror copies what waits, once 64 records wait or one is due, and one of a fall of PWRFAIL_N waits for
nothing; a sector is erased ahead when it is the turn of writes; records are pinned and unpinned, and read. Where nothing is due,
nothing changes. -/
def Obligations.TheBlackBoxKeepsRecords : Prop :=
  ∀ (s : State) (q : PlReq), let p := q.payload; let t := s.wakeFor P.bbx
    (∀ r l, keeperRuns s → s.bbxQueue = r :: l →
      exec (.bbxRecordWrite .done) s = .next (writeRec { s with bbxQueue := l } r) ∧
      exec (.bbxRecordWrite .badRead) s = .next ((tornRec s r).raise P.bbx 24) ∧
      exec (.bbxRecordWrite .cut) s = .next (tornRec s r)) ∧
    (keeperRuns s = false ∨ s.bbxQueue = [] → ∀ w, exec (.bbxRecordWrite w) s = .next s) ∧
    (let due := keeperRuns s ∧ mirrors s ∧ (s.mram.mirDue ∨ 64 ≤ (mirWaiting s).length) ∧ mirWaiting s ≠ [] ∧
       (pfMirror s ∨ writeTurn s);
      (due → exec (.bbxMirrorPass true) s = .next (mirrorPass s) ∧ exec (.bbxMirrorPass false) s = .next (mirrorFail s)) ∧
      (¬due → ∀ okay, exec (.bbxMirrorPass okay) s = .next s)) ∧
    (writeTurn s = (!pfMirror s && !voiceReads s)) ∧
    (∀ okay, (keeperRuns s → flsReady s → writeTurn s → exec (.sectorEraseDone true okay) s = .next (eraseLog s okay) ∧
        exec (.sectorEraseDone false okay) s = .next (eraseBbx s okay)) ∧
      (keeperRuns s = false ∨ flsReady s = false ∨ writeTurn s = false → ∀ log, exec (.sectorEraseDone log okay) s = .next s)) ∧
    (plServes s 0x60 q → pageServes s P.bbx false → let mode := field p 0 1
      let layout := p.length = 12 ∧ mode ≤ 2 ∧ field p 1 1 ≤ 1 ∧ 1 ≤ field p 2 1 ∧ field p 2 1 ≤ 3 ∧ field p 3 1 = 0 ∧ field p 10 2 = 0
      let all := (if field p 1 1 = 0 then ringRecs t else mirrorRecs t).foldl (fun l r => putSeq r l) []
      let l := if mode = 1 then all.reverse else all.filter fun r => decide (field p 4 8 ≤ r.seq) && (mode == 0 || r.st == .pinned)
      let o := takeSound (field p 2 1) l; let u := (t.countN (P.bbx + 0x5C) o.2).countN (P.bbx + 0x20) o.2
      let got := if mode = 1 then o.1.reverse else o.1
      (¬layout → exec (.bbxRead q) s = .next (t.plRefuse P.bbx 0 0x60 q .range [])) ∧
      (layout → got = [] → exec (.bbxRead q) s = .next (u.plRefuse P.bbx 0 0x60 q .absent [])) ∧
      (layout → got ≠ [] → exec (.bbxRead q) s = .next (u.plDone 0x60 q
        ([BitVec.ofNat 8 got.length, 0, 0, 0] ++ leBytes 8 (got.foldl (fun m r => max m r.seq) 0 + 1) ++ got.flatMap recBytes)))) ∧
    (∀ l : List BbxRec, (∀ r ∈ l, recSound r) → ∀ n, takeSound n l = (l.take n, 0)) ∧
    (plServes s 0x61 q → pageServes s P.bbx true → let n := field p 4 8; let op := field p 0 1
      let layout := p.length = 12 ∧ op ≤ 2 ∧ field p 1 3 = 0 ∧ field p 10 2 = 0
      let there := ((ringRecs t).find? fun r => r.seq == n).isSome; let o := pinLimit (setRecSt t n .pinned)
      let un := setRecSt t n .valid
      let off := t.onMram fun m => { m with ring := m.ring.map fun e => if e.2.st = .pinned then (e.1, { e.2 with st := .valid }) else e }
      let answer (u : State) (gone : Nat) : Host.Outcome State Fault Refusal :=
        .next (u.plDone 0x61 q (leBytes 2 (pinnedRecs u).length ++ [0, 0] ++ leBytes 8 gone))
      ∀ i ∈ [Instr.bbxPin q, .bbxUnpin q, .bbxUnpinAll q],
        (¬layout → exec i s = .next (t.plRefuse P.bbx 0 0x61 q .range [])) ∧
        (layout → op < 2 → there = false → exec i s = .next (t.plRefuse P.bbx 0 0x61 q .absent [])) ∧
        (layout → op = 0 → there → exec i s = answer o.2 o.1) ∧
        (layout → op = 1 → there → exec i s = answer un 0) ∧
        (layout → op = 2 → exec i s = answer off 0))

/-- R349, R411-R416: the nurse: the scrub counts a correction, the first with its event, and reports an uncorrectable word and leaves
it; a pass shows its time, and is LATE above 10 s; the sensors' highest reading is shown, HOT is recorded at 115 degrees and again only
after one below 110, and 124 degrees asks for a thermal reset; a supply out of range is recorded; the sense gain moves by at most
0.01 dB; a telemetry frame is formed, logged, at most every 60 s in Sleep and when it is the turn of writes, and sent, and TELEMETRY
answers the last, or a logged one by its number. Where nothing is due, nothing changes. -/
def Obligations.TheNurseWatches : Prop :=
  ∀ s : State,
    (∀ sp a, (scrubbed s sp a →
        exec (.eccScrub (.corrected sp a)) s = .next ((if s.getF P.nrs F.NRS_CE_CNT_COUNT = 0 then s.raise P.nrs 1 else s).bump P.nrs
          F.NRS_CE_CNT_COUNT) ∧
        exec (.eccScrub (.uncorrectable sp a)) s = .next (scrubBad s sp a)) ∧
      (scrubbed s sp a = false → exec (.eccScrub (.corrected sp a)) s = .next s ∧
        exec (.eccScrub (.uncorrectable sp a)) s = .next s)) ∧
    (∀ ms, let t := (s.setF P.nrs F.NRS_STAT_PASS_MS (min 0xFFFF ms)).setF P.nrs F.NRS_STAT_LATE (if 10000 < ms then 1 else 0)
      let u := t.inc64 (P.nrs + 0x44)
      (keeperRuns s → ms ≤ 10000 → exec (.eccScrub (.passEnd ms)) s = .next u) ∧
      (keeperRuns s → 10000 < ms → exec (.eccScrub (.passEnd ms)) s = .next (u.raise P.nrs 3)) ∧
      (keeperRuns s = false → exec (.eccScrub (.passEnd ms)) s = .next s)) ∧
    (∀ t0 t1 t2 t3 : BitVec 16, let x := max (max (max t0.toInt t1.toInt) t2.toInt) t3.toInt
      let pay := [t0, t1, t2, t3].flatMap fun v => leBytes 2 v.toNat; let u := tempShow s x
      let hot := if 1150 ≤ x ∧ s.kpr.hot = false then
        ((u.onKpr fun k => { k with hot := true }).raise P.nrs 2).log 0x000B 2 0x0008 0 pay else u
      (keeperRuns s = false → exec (.sensorPoll t0 t1 t2 t3) s = .next s) ∧
      (keeperRuns s → x < 1100 → exec (.sensorPoll t0 t1 t2 t3) s = .next (u.onKpr fun k => { k with hot := false })) ∧
      (keeperRuns s → 1100 ≤ x → x < 1240 ∨ s.sys.resetPending ≠ none → exec (.sensorPoll t0 t1 t2 t3) s = .next hot) ∧
      (keeperRuns s → 1240 ≤ x → s.sys.resetPending = none → exec (.sensorPoll t0 t1 t2 t3) s =
        .next ((hot.log 0x000C 4 0x0008 0 pay).resetAsk 5))) ∧
    (∀ i mv, (keeperRuns s →
        exec (.supplyAlarm i mv) s = .next (s.log 0x000D 2 0x0008 0 (BitVec.ofNat 8 i :: leBytes 2 mv.toNat))) ∧
      (keeperRuns s = false → exec (.supplyAlarm i mv) s = .next s)) ∧
    (∀ (n : Fin 8) (d : Int), (keeperRuns s → s.st (P.amp n) = 4 → ∃ e : Int, |e| ≤ 100 ∧ (|d| ≤ 100 → e = d) ∧
        exec (.senseGainCal n d) s = .next (s.onKpr fun k => { k with gains := modifyAt (· + e) n k.gains })) ∧
      (keeperRuns s = false ∨ s.st (P.amp n) ≠ 4 → exec (.senseGainCal n d) s = .next s)) ∧
    (∀ ts, let t := s.inc64 (P.nrs + 0x68); let b := tlmFrame t (t.get64 (P.nrs + 0x68)).toNat ts
      let on := keeperRuns s ∧ s.isSet P.nrs F.NRS_TLM_CFG_EN
      (on → exec (.telemetryFrame ts) s =
        .next (tlmSend (tlmLog ((t.onKpr fun k => { k with tlm := b }).raise P.nrs 0) b) b)) ∧
      (¬on → exec (.telemetryFrame ts) s = .next s)) ∧
    (∀ b, let now := (s.get64 (P.kpr + 0x68)).toNat; let soon := s.sys.mode = .sleep ∧ ∃ t, s.kpr.tlmAt = some t ∧ now < t + 60000
      let may := flsReady s ∧ (logPick s.flash.log).isSome ∧ ¬soon; let u := s.onKpr fun k => { k with tlmAt := some now, logDue := k.logDue ++ [b] }
      (¬may → tlmLog s b = s) ∧ (may → writeTurn u = false → tlmLog s b = u) ∧
      (may → writeTurn u → tlmLog s b = forEach (s.kpr.logDue ++ [b]) logWrite (u.onKpr fun k => { k with logDue := [] }))) ∧
    (∀ q : PlReq, let p := q.payload; let t := s.wakeFor P.nrs
      let layout := p.length = 12 ∧ field p 0 1 ≤ 1 ∧ field p 1 3 = 0
      let found := if field p 0 1 = 0 then (if t.kpr.tlm = [] then none else some t.kpr.tlm)
        else ((if flsReady t then t.flash.log.flatMap (·.frames) else []).filter fun b => leNat ((b.drop 8).take 6) == field p 4 8).getLast?
      plServes s 0x66 q → pageServes s P.nrs false →
      (¬layout → exec (.telemetry q) s = .next (t.plRefuse P.nrs 0 0x66 q .range [])) ∧
      (layout → found = none → exec (.telemetry q) s = .next (t.plRefuse P.nrs 0 0x66 q .absent [])) ∧
      (∀ b, layout → found = some b → exec (.telemetry q) s = .next (t.plDone 0x66 q b)))

/-- R417-R420: Swarm: a challenge is answered with a random number; the answer that fits it unlocks Swarm for UNLOCK_TIME minutes, a
wrong one is AUTH, and the third locks Swarm out; rules are set while it is unlocked and refused with LOCKED while it is not;
STOP disables every rule, RELOCK and the expiry relock; a payload of another layout is RANGE. -/
def Obligations.SwarmIsGuarded : Prop :=
  ∀ (s : State) (q : PlReq), let p := q.payload; let t := s.wakeFor P.swm; let key := field p 1 1
    (plServes s 0x68 q → pageServes s P.swm true → ∀ i ∈ [Instr.swmChallenge q, .swmRespond q],
      let locked := t.isSet P.swm F.SWM_STAT_LOCKOUT; let op := field p 0 1
      let no (c : Code) : Host.Outcome State Fault Refusal := .next (t.plRefuse P.swm 0 0x68 q c [])
      let layout := op ≤ 1 ∧ p.length = (if op = 0 then 4 else 20) ∧ key ≤ 3 ∧ field p 2 2 = 0
      let right := match t.swarm.challenge with
        | some (n, c) => n == key && (match keyOf t key with
          | some k => (p.drop 4).take 16 == swmExpected k.key c
          | none => false)
        | none => false
      (locked → exec i s = no .locked) ∧
      (locked = false → ¬layout → exec i s = no .range) ∧
      (locked = false → layout → op = 0 → let c := Config.random64 t.free
        exec i s = .next ((({ t with free := t.free + 1 } : State).onSwm fun w => { w with challenge := some (key, c) }).plDone
          0x68 q (leBytes 8 c.toNat))) ∧
      (locked = false → layout → op = 1 → let m := t.getF P.swm F.SWM_CFG_UNLOCK_TIME
        let u := t.onSwm fun w => { w with challenge := none, until_ := (t.get64 (P.kpr + 0x68)).toNat + 60000 * m }
        let x := ((u.setF P.swm F.SWM_STAT_UNLOCKED 1).setF P.swm F.SWM_STAT_REQ q.via.req.code).setF P.swm F.SWM_STAT_KEY key
        let y := (t.onSwm fun w => { w with challenge := none, wrong := w.wrong + 1 }).err P.swm
        exec i s = .next (if right then ((x.log 0x000E 1 0x0009 0 [BitVec.ofNat 8 q.via.req.code, BitVec.ofNat 8 key]).raise P.swm
            0).plDone 0x68 q [BitVec.ofNat 8 m, 0, 0, 0]
          else (if 2 ≤ t.swarm.wrong then y.setF P.swm F.SWM_STAT_LOCKOUT 1 else y).plRefuse P.swm 0 0x68 q .auth []))) ∧
    (plServes s 0x69 q → pageServes s P.swm true → let w (i : Nat) : Word := BitVec.ofNat 32 (field p (4 + 4 * i) 4); let r := field p 0 1
      let good := p.length = 24 ∧ r ≤ 7 ∧ field p 1 3 = 0 ∧ (bit (w 0) 31 → ruleValid (w 0) (w 1) (w 2))
      (t.swarmOn = false → exec (.swmSet q) s = .next (t.plRefuse P.swm 0 0x69 q .locked [])) ∧
      (t.swarmOn → ¬good → exec (.swmSet q) s = .next (t.plRefuse P.swm 0 0x69 q .range [])) ∧
      (t.swarmOn → good → exec (.swmSet q) s =
        .next ((ruleFresh ((forEach (List.range 4) (fun i s => s.store (ruleBase r + 0x100 + 4 * i) (w i)) t).store
          (ruleBase r + 0x118) (w 4)) r).plDone 0x69 q []))) ∧
    (plServes s 0x6A q → pageServes s P.swm true → let layout := p.length = 4 ∧ field p 0 1 ≤ 1 ∧ field p 1 3 = 0
      let u := if field p 0 1 = 0 then rulesOff t else swarmRelock t 0
      ∀ i ∈ [Instr.swmStop q, .swmRelock q],
        (¬layout → exec i s = .next (t.plRefuse P.swm 0 0x6A q .range [])) ∧
        (layout → exec i s = .next (u.plDone 0x6A q (leBytes 8 (u.get64 (P.swm + 0x48)).toNat)))) ∧
    (∀ why, (s.swarmOn → swarmRelock s why = ((swarmEnd (rulesOff s) why).raise P.swm 1).setF P.swm F.SWM_STAT_UNLOCKED 0) ∧
      (s.swarmOn = false → swarmRelock s why = s)) ∧
    (s.swarmOn → exec .swarmExpiry s = .next (((swarmEnd (rulesOff s) 1).raise P.swm 1).setF P.swm F.SWM_STAT_UNLOCKED 0)) ∧
    (s.swarmOn = false → exec .swarmExpiry s = .next s)

/-- R426, R427, R430-R435, R445-R447: how a power state is asked for and entered. A request names a state or is RANGE; the first refuser
of R432 makes it STATE, and is kept in the refusal ring; it is BUSY while an entry is under way; else it is DONE: an entry begins, or
the part is in Idle already. PWR_REQ and PWR_REQUEST make requests, PWR_TOLERANCE writes its fields and PWR_QUERY answers, each RANGE in
another layout. The idle timer enters the deepest state that nothing refuses, and the escalation Deep sleep. An entry is prepared once
its descriptors have drained, abandoned when a wake source or an active sink meets it, and committed when the last output is off; what
does not drain refuses it, or is aborted if it is forced. Where none of this can happen, nothing changes. -/
def Obligations.PowerStatesAreEntered : Prop :=
  ∀ (s : State) (q : PlReq), let p := q.payload; let t := s.wakeFor P.pwr; let r := q.via.req
    (∀ (c : Nat) (force : Bool) (h : Req) (cmd addr : Nat), let o := powerAsk s c force h cmd addr;
      (targetOf c = none → o = (.range, none, s)) ∧
      (∀ m, targetOf c = some m → let never := force ∧ m = .idle;
        (never → o = (.range, none, s)) ∧
        (¬never → ∀ x, refuser s m force = some x → o = (.state, some x, rfsPut s c h x)) ∧
        (¬never → refuser s m force = none → s.sys.entry.isSome → o = (.busy, none, s)) ∧
        (¬never → refuser s m force = none → s.sys.entry = none →
          (m = .idle ∧ s.sys.mode = .idle → o = (.done, none, s)) ∧
          (m ≠ .idle ∨ s.sys.mode ≠ .idle → o = (.done, none,
            ((if force then testAbort (sessionAbort s) else s).setSt P.pwr 4).onSys fun y => { y with
              entry := some { target := m, kind := if force then 2 else 0, from_ := y.mode, prepared := false, source := none,
                              req := h, cmd := cmd, addr := addr } })))) ∧
      (o.1 = .range ∨ o.1 = .busy → askCount o = o.2.2.err P.pwr) ∧ (o.1 = .done ∨ o.1 = .state → askCount o = o.2.2)) ∧
    (plServes s 0x50 q → pageServes s P.pwr true →
      let bad := p.length ≠ 4 ∨ 1 < field p 1 1 ∨ field p 2 2 ≠ 0
      let o := powerAsk t (field p 0 1) (field p 1 1 == 1) r 0x50 0;
      (bad → exec (.pwrRequest q) s = .next ((t.err P.pwr).plRefuse P.pwr 0 0x50 q .range [])) ∧
      (¬bad → o.1 = .done → exec (.pwrRequest q) s = .next (o.2.2.plDone 0x50 q [])) ∧
      (¬bad → o.1 ≠ .done → exec (.pwrRequest q) s = .next ((askCount o).plRefuse P.pwr 0 0x50 q o.1 (match o.2.1 with
        | some x => leBytes 2 x.ty ++ [BitVec.ofNat 8 x.inst, BitVec.ofNat 8 x.unit, BitVec.ofNat 8 x.reason, 0, 0, 0]
        | none => [])))) ∧
    (∀ (h : Req) (v : Word), let u := s.wakeFor pwrReqAt; let w := setField v 31 31 1
      let o := powerAsk u (getField w 2 0) (bit w 8) h 0xFF pwrReqAt
      served s h pwrReqAt →
      (o.1 = .done → exec (.pwrReqGo h v) s = .next ((o.2.2.store pwrReqAt w).answered .done)) ∧
      (o.1 ≠ .done → exec (.pwrReqGo h v) s = .next (((askCount o).refuseAt h 0xFF pwrReqAt o.1).answered o.1))) ∧
    (plServes s 0x51 q → pageServes s P.pwr true → let bad := p.length ≠ 8 ∨ 0xFFFFFF < field p 0 4 ∨ 4 < field p 6 1;
      (bad → exec (.pwrTolerance q) s = .next (t.plRefuse P.pwr 0 0x51 q .range [])) ∧
      (¬bad → exec (.pwrTolerance q) s = .next (((((t.setF P.pwr F.PWR_TOL_TOL (field p 0 4)).setF P.pwr F.PWR_CFG_IDLE_TMR
        (field p 4 2)).setF P.pwr F.PWR_CFG_AUTO_MAX (field p 6 1)).setF P.pwr F.PWR_CFG_ESCALATE (field p 7 1)).plDone 0x51 q []))) ∧
    (plServes s 0x52 q → pageServes s P.pwr false → let bad := p.length ≠ 4 ∨ 1 < field p 0 1 ∨ field p 1 3 ≠ 0;
      (bad → exec (.pwrQuery q) s = .next (t.plRefuse P.pwr 0 0x52 q .range [])) ∧
      (¬bad → exec (.pwrQuery q) s = .next (t.plDone 0x52 q (pwrReport t (field p 0 1))))) ∧
    (s.sys.entry = none → exec .entryPrepare s = .next s ∧ exec .entryCommit s = .next s ∧ exec .drainTimeout s = .next s) ∧
    (∀ e, s.sys.entry = some e →
      let met := e.source.isSome ∨ (e.target = .idle ∧ activeCount s ≠ 0)
      let waits := e.prepared = false ∨ (e.target ≠ .idle ∧ outputsDone s = false);
      (e.prepared → exec .entryPrepare s = .next s) ∧
      (e.prepared = false → met → exec .entryPrepare s = .next (abandon s e)) ∧
      (e.prepared = false → ¬met → undrained s ≠ [] → exec .entryPrepare s = .next s) ∧
      (e.prepared = false → ¬met → undrained s = [] → exec .entryPrepare s =
        .next ((if e.target = .idle then s.idleMuteAll else prepare s e).onEntry fun x => { x with prepared := true })) ∧
      (waits → exec .entryCommit s = .next s) ∧ (¬waits → met → exec .entryCommit s = .next (abandon s e)) ∧
      (¬waits → ¬met → exec .entryCommit s = .next (commit s e)) ∧
      (e.prepared ∨ undrained s = [] → exec .drainTimeout s = .next s) ∧
      (∀ c l, e.prepared = false → undrained s = c :: l →
        (e.kind = 2 → exec .drainTimeout s = .next (frgAbortAll s)) ∧
        (e.kind = 0 → exec .drainTimeout s = .next ((rfsPut (entryOver s) e.target.code e.req ⟨0x32, 0, c, 3⟩).refuse P.pwr e.cmd
          e.req e.addr .state)) ∧
        (e.kind = 1 → exec .drainTimeout s = .next (autoTry (entryOver s) ((autoCands (entryOver s)).filter fun m =>
          decide (m.code < e.target.code)))) ∧
        (3 ≤ e.kind → exec .drainTimeout s = .next (entryOver s)))) ∧
    (∀ e : Entry, e.target ≠ .run → (commit s e).sys.mode = e.target ∧ (commit s e).sys.entry = none) ∧
    (let runs := s.sys.mode = .run ∧ s.sys.service ∧ s.sys.held = false ∧ s.sys.entry = none ∧ s.en P.pwr ∧
        s.getF P.pwr F.PWR_CFG_IDLE_TMR ≠ 0 ∧ activeCount s = 0;
      (runs → ∀ m, (autoCands s).find? (fun m => (refuser s m false).isNone) = some m → exec .idleTimer s =
        .next (entryBegin s m 1 .keeper 0xFF 0)) ∧
      (runs → (autoCands s).find? (fun m => (refuser s m false).isNone) = none → exec .idleTimer s = .next s) ∧
      (¬runs → exec .idleTimer s = .next s)) ∧
    (let tries := s.sys.mode = .sleep ∧ s.sys.held = false ∧ s.sys.waking = none ∧ s.sys.entry = none ∧
        s.getF P.pwr F.PWR_CFG_ESCALATE ≠ 0 ∧ refuser s .deep false = none;
      (tries → exec .escalation s = .next (entryBegin s .deep 3 .keeper 0xFF 0)) ∧
      (¬tries → exec .escalation s = .next s))

/-- R148, R426-R429, R435, R436, R439-R443: waking. A rising edge of WAKE_IN wakes the part from Sleep, Deep sleep and Off, returns it from
Idle, meets an entry under way, and ends a lock-out once a low level has been seen; an access, a cue or the pin returns it from Idle;
the steps of a wake reach Run, and from Off they are a device reset; a step that times out is tried once more, and then the wake is
aborted, or goes on without its clock; a reference that fails in Sleep wakes the part. Where none of this can happen, nothing but the
pin changes. -/
def Obligations.PowerStatesAreLeft : Prop :=
  ∀ s : State,
    (∀ level : Bool, let u := s.onSys fun y => { y with wakeIn := level, lowSeen := y.lowSeen || !level }
      let rose := level ∧ s.sys.wakeIn = false ∧ s.sys.held = false;
      (¬rose → exec (.wakeIn level) s = .next u) ∧
      (rose → s.sys.lockout → s.sys.lowSeen → exec (.wakeIn level) s =
        .next ((u.onSys fun y => { y with lockout := false, lowSeen := false, fails := 0, waking := some 7 }).setF P.pwr
          F.PWR_STAT_CONSEC 0)) ∧
      (rose → s.sys.lockout → s.sys.lowSeen = false → exec (.wakeIn level) s = .next u) ∧
      (rose → s.sys.lockout = false →
        (∀ e, s.sys.entry = some e → e.source = none →
          exec (.wakeIn level) s = .next (u.onEntry fun x => { x with source := some 1 })) ∧
        (∀ e, s.sys.entry = some e → e.source ≠ none → exec (.wakeIn level) s = .next u) ∧
        (s.sys.entry = none → s.sys.mode = .run → exec (.wakeIn level) s = .next u) ∧
        (s.sys.entry = none → s.sys.mode = .idle → exec (.wakeIn level) s = .next (u.idleExit 1)) ∧
        (s.sys.entry = none → s.sys.mode ≠ .run → s.sys.mode ≠ .idle →
          (s.sys.waking = none → exec (.wakeIn level) s = .next (u.onSys fun y => { y with waking := some 1 })) ∧
          (s.sys.waking ≠ none → exec (.wakeIn level) s = .next u)))) ∧
    (∀ e ∈ [(Instr.idleExit .access, 6), (.idleExit .cue, 5), (.idleExit .wakeIn, 1)],
      (s.sys.mode = .idle → s.sys.entry = none → exec e.1 s = .next (s.idleExit e.2)) ∧
      (s.sys.mode ≠ .idle ∨ s.sys.entry ≠ none → exec e.1 s = .next s)) ∧
    (∀ us, (s.sys.waking = none ∨ s.sys.held → exec (.wakeSequence us) s = .next s) ∧
      (∀ src, s.sys.waking = some src → s.sys.held = false →
        (s.sys.mode ≠ .off → exec (.wakeSequence us) s = .next (wakeRun s src us.toNat)) ∧
        (s.sys.mode = .off → exec (.wakeSequence us) s = .next ((coldReset s 6).onSys fun y => { y with
          offWake := some (src, s.getF P.pwr F.PWR_STAT_LAST_KIND, us.toNat) })))) ∧
    (∀ k : Fin 10, let n := k.val + 1;
      (s.sys.waking = none ∨ stepRuns s n = false → exec (.wakeStepTimeout k) s = .next s) ∧
      (∀ src, s.sys.waking = some src → stepRuns s n →
        (s.sys.retried ≠ some n → exec (.wakeStepTimeout k) s = .next (s.onSys fun y => { y with retried := some n })) ∧
        (s.sys.retried = some n → n = 5 ∨ n = 8 → exec (.wakeStepTimeout k) s =
          .next (wakeFailed (s.onSys fun y => { y with retried := none, clockFail := n }) s.sys.mode.code 2 n)) ∧
        (s.sys.retried = some n → n ≠ 5 → n ≠ 8 → exec (.wakeStepTimeout k) s = .next (wakeAbort s src n)))) ∧
    (let lost := s.sys.mode = .sleep ∧ s.sys.held = false ∧ s.clk.halt ≠ some .ref
     let next (t : State) := wakeFailed ((t.onClk fun c => { c with halt := some .ref }).onSys fun y =>
        { y with clockFail := 8, waking := some ((t.onClk fun c => { c with halt := some .ref }).sys.waking.getD 8) }) 2 2 8;
      (lost → s.sys.entry = none → exec .refFailInSleep s = .next (next s)) ∧
      (lost → ∀ e, s.sys.entry = some e → exec .refFailInSleep s = .next (next (abandon s { e with source := some 8 }))) ∧
      (¬lost → exec .refFailInSleep s = .next s))

/-- R7, R9, R248, R268, R272, R273, R278, R395, R399, R401, R408, R450-R453: supplies and resets. A power-on holds the device until its
supplies are in range; a brown-out, RESET_N and the reset that was asked for reset it with their cause, the last once the outputs are
off; DEVRST needs its key, else it is RANGE; the watchdog and the end of an update ask; a bias supply that is low turns every bias off,
and in range again it serves the inputs that use it; the loss of the die link turns every bridge off, and its end lets the retries that
wait start; PWRFAIL_N stops the outputs, and its end starts them. Where none of this can happen, nothing changes. -/
def Obligations.ResetsAndSuppliesAct : Prop :=
  ∀ s : State, let alive := s.sys.mode ≠ .off
    let due (t : State) := forEach (List.range 8) (fun n u => if u.st (P.amp n) = 8 ∧ (u.amp n).due then ampRetry u n else u) t
    (∀ twa, exec (.powerOn twa) s = .next ((coldReset (s.onSys fun y => { y with twa := twa, aonRecs := [], fails := 0, lastFail := 0 }) 0).onSys
      fun y => { y with held := true })) ∧
    exec .porRelease s = .next (s.onSys fun y => { y with held := false }) ∧
    (alive → exec .brownOut s = .next ((deviceReset s 4).onSys fun y => { y with held := true }) ∧
      exec .resetN s = .next ((deviceReset s 1).onSys fun y => { y with held := s.sys.held })) ∧
    (s.sys.mode = .off → exec .brownOut s = .next s ∧ exec .resetN s = .next s) ∧
    (∀ (r : Req) (v : Word), let a := 0x000054; let t := s.wakeFor a; let w := setField v 0 0 1
      served s r a →
      (getField w 15 8 = 0xA5 → exec (.devrst r v) s = .next ((t.resetAsk 2).answered .done)) ∧
      (getField w 15 8 ≠ 0xA5 → exec (.devrst r v) s = .next ((t.refuseAt r 0xFF a .range).answered .range))) ∧
    (let runs := s.sys.held = false ∧ (s.sys.mode = .run ∨ s.sys.mode = .idle ∨ s.sys.mode = .sleep);
      (runs → exec .watchdogReset s = .next (s.resetAsk 3)) ∧ (¬runs → exec .watchdogReset s = .next s)) ∧
    (∀ c, s.sys.resetPending = some c →
      (outputsDone s → exec .resetAfterStop s = .next (deviceReset s c)) ∧
      (outputsDone s = false → exec .resetAfterStop s = .next s)) ∧
    (s.sys.resetPending = none → exec .resetAfterStop s = .next s) ∧
    (s.kpr.rebootDue → exec .imgReboot s = .next ((s.onKpr fun k => { k with rebootDue := false }).resetAsk 2)) ∧
    (s.kpr.rebootDue = false → exec .imgReboot s = .next s) ∧
    exec .avbiasLow s = .next (forEach (List.range 8) (fun n u => ainBias u n false) (s.onAn fun a => { a with avbias := false })) ∧
    exec .avbiasInRange s = .next (forEach (List.range 8) (fun n u =>
      if ainLive u n ∧ u.isSet (ainBase n) F.AIN_CFG_BIAS_EN then ainBias u n true else u) (s.onAn fun a => { a with avbias := true })) ∧
    (let t := s.onAn fun a => { a with linkLost := true };
      (awake s → s.clk.halt = some .ref → exec .dieLinkLoss s = .next (forEach (List.range 8) (fun n u => ampCutLive u n 3) t)) ∧
      (awake s → s.clk.halt ≠ some .ref → exec .dieLinkLoss s =
        .next (forEach (List.range 8) (fun n u => if ampLive u n then ampTripOther u n 3 else u) t)) ∧
      (awake s = false → exec .dieLinkLoss s = .next s)) ∧
    (let t := s.onAn fun a => { a with linkLost := false };
      (s.sys.pwrFailN = false → exec .linkRecovery s = .next t) ∧ (s.sys.pwrFailN → exec .linkRecovery s = .next (due t))) ∧
    (let t := s.onSys fun y => { y with pwrFailN := false };
      (s.sys.pwrFailN = false → exec .powerFail s = .next s) ∧
      (s.sys.pwrFailN → awake t → exec .powerFail s = .next (keeperFail (outputsFast t))) ∧
      (s.sys.pwrFailN → awake t = false → exec .powerFail s = .next (keeperFail t))) ∧
    (keeperRuns s → keeperFail s = sessionAbort ((s.log 0x0008 1 0x0007 0 (leBytes 2 (mirWaiting s).length)).onMram fun m =>
      { m with mirDue := true })) ∧
    (keeperRuns s = false → keeperFail s = s) ∧
    (let t := s.onSys fun y => { y with pwrFailN := true }; let u := outputsPwrBack t
     let back := awake t ∧ t.sys.entry = none ∧ t.sys.resetPending = none;
      (s.sys.pwrFailN → exec .powerFailEnd s = .next s) ∧
      (s.sys.pwrFailN = false → ¬back → exec .powerFailEnd s = .next (pwrCausesOver t)) ∧
      (s.sys.pwrFailN = false → back → u.sys.pwrFailN → u.an.linkLost = false → exec .powerFailEnd s = .next (due u)) ∧
      (s.sys.pwrFailN = false → back → u.an.linkLost → exec .powerFailEnd s = .next u))

/-- R5, R11, R12, R15, R23, R82, R127, R131, R139, R146, R148, R162, R193, R196, R249, R269, R421, R426: time. A period passes with its steps
in the order of R15 in Run: what the sources present, Waggle, what the host changed, the cues, what takes the outputs of the last mix,
the mix; in Idle without blocks, clips and mixes; in Sleep with Waggle, the cues and the Scout alone. In Deep sleep only the uptime
counts; while the fabric clock is stopped, or a step pauses the fabric, only what needs no fabric clock goes on; a device held in reset
and a part in Off do nothing. 48 periods are a millisecond of the uptime; CLK_FAB_CNT counts the periods. A step pauses after the last
period of a block, and ends at the first block boundary at least 100 us later, with the step counted and raised; without a pause the end
changes nothing. -/
def Obligations.FabricPeriodsPass : Prop :=
  ∀ (s : State) (x : PeriodIn), let t := timeTick s; let still := s.stopped ∨ s.clk.step = 2
    (s.sys.held ∨ s.sys.mode = .off → exec (.fabricPeriod x) s = .next s) ∧
    (s.sys.held = false →
      (s.sys.mode = .deep → exec (.fabricPeriod x) s = .next (uptimeTick s).2) ∧
      (s.sys.mode = .sleep → s.clk.halt = some .ref → exec (.fabricPeriod x) s = .next (listenZeros t)) ∧
      (s.sys.mode = .sleep → s.clk.halt ≠ some .ref → let u := periodCount t; let k := fabCnt u
        exec (.fabricPeriod x) s = .next (listenTake k x (cueStep (fixApply (wagAdvance (pdmBlock u k) k) k)))) ∧
      (s.sys.mode = .idle → still → exec (.fabricPeriod x) s = .next (heldPeriod x t)) ∧
      (s.sys.mode = .idle → ¬still → let u := periodCount t; let k := fabCnt u
        let ch := cueStep (fixApply (strApply (wagAdvance (pdmBlock u k) k)) k)
        let sent := txSampleAll (ch.onComb fun c => { c with src := [], outs := [] }) k
        let lines := forEach (List.range 8) (fun n y => ampIdlePattern (loSample y n 0) n) sent
        let ports := forEach (List.range 16) (fun n y => tdmHold y n (tdmFrames x n)) lines
        exec (.fabricPeriod x) s = .next (pauseDue k (listenTake k x (findings x ports)))) ∧
      (s.sys.mode = .run → still → exec (.fabricPeriod x) s = .next (heldPeriod x (t.onComb fun c => { c with outs := [] }))) ∧
      (s.sys.mode = .run → ¬still → let u := periodCount t; let k := fabCnt u
        let in_ := present k x (pdmBlock u k)
        let ch := combTake (cueStep (fixApply (combArrive (clipApply (strApply (wagAdvance in_ k)))) k))
        let mix := combMix (lineErrors x (sinksOut k x ch))
        let ports := forEach (List.range 16) (fun n y => tdmArrive y n (tdmFrames x n)) mix
        exec (.fabricPeriod x) s = .next (pauseDue k (listenTake k x (findings x ports))))) ∧
    (s.stopped → s.clk.halt = some .ref → heldPeriod x s = listenZeros (tdmsFloat s)) ∧
    (s.stopped → s.clk.halt ≠ some .ref → heldPeriod x s = tdmsFloat s) ∧
    (s.stopped = false → heldPeriod x s = forEach (List.range 16) (fun n y => tdmHold y n (tdmFrames x n)) s) ∧
    (s.sys.uptimeSub < 47 → uptimeTick s = (false, s.onSys fun y => { y with uptimeSub := y.uptimeSub + 1 })) ∧
    (47 ≤ s.sys.uptimeSub → uptimeTick s = (true, (s.onSys fun y => { y with uptimeSub := 0 }).inc64 (P.kpr + 0x68))) ∧
    (s.clk.fresh = false → periodCount s = s.inc64 (P.clk + 0x68)) ∧
    (s.clk.fresh → periodCount s = s.onClk fun c => { c with fresh := false }) ∧
    (∀ k, (s.clk.step = 1 → (k + 1) % 32 = 0 →
        pauseDue k s = (s.onClk fun c => { c with step := 2 }).onComb fun c => { c with outs := [] }) ∧
      (s.clk.step ≠ 1 ∨ (k + 1) % 32 ≠ 0 → pauseDue k s = s)) ∧
    (∀ e, let u := rxRecentre ((((s.set64 (P.clk + 0x68) (BitVec.ofNat 64 (resumeAt (fabCnt s + 1) e))).onClk fun c =>
          { c with step := 0, fresh := true }).bump P.clk F.CLK_STEP_CNT_COUNT).raise P.clk 4)
      let ends := s.clk.step = 2 ∧ awake s; let moved := wagSrc u = 2 ∧ u.wag.run;
      (ends → moved → exec (.fabricStepResume e) s = .next (u.onWag fun w => { w with stepped := true })) ∧
      (ends → ¬moved → exec (.fabricStepResume e) s = .next u) ∧
      (¬ends → exec (.fabricStepResume e) s = .next s)) ∧
    (∀ (c : Nat) (e : Int), let num : Int := 62500 * c + 3 * e + 300000
      resumeAt c e % 32 = 0 ∧
      (0 ≤ num → num ≤ 62500 * (resumeAt c e : Int) ∧ 62500 * (resumeAt c e : Int) < num + 2000000))

end
end

