-- ==== Sys2Proof/Laws/State.lean ====
section
/-! SUPPORT. What each update of the state leaves alone: one lemma per field per update. -/

namespace Sys2Proof.Machine

variable (s : State)

/-! `State.wr` changes the register file only. -/
@[simp] theorem State.wr_pending (a : Nat) (w : Word) : (s.wr a w).pending = s.pending := rfl
@[simp] theorem State.wr_snaps (a : Nat) (w : Word) : (s.wr a w).snaps = s.snaps := rfl
@[simp] theorem State.wr_shadows (a : Nat) (w : Word) : (s.wr a w).shadows = s.shadows := rfl
@[simp] theorem State.wr_holds (a : Nat) (w : Word) : (s.wr a w).holds = s.holds := rfl
@[simp] theorem State.wr_mem (a : Nat) (w : Word) : (s.wr a w).mem = s.mem := rfl
@[simp] theorem State.wr_free (a : Nat) (w : Word) : (s.wr a w).free = s.free := rfl
@[simp] theorem State.wr_rdata (a : Nat) (w : Word) : (s.wr a w).rdata = s.rdata := rfl
@[simp] theorem State.wr_rcode (a : Nat) (w : Word) : (s.wr a w).rcode = s.rcode := rfl
@[simp] theorem State.wr_sys (a : Nat) (w : Word) : (s.wr a w).sys = s.sys := rfl
@[simp] theorem State.wr_ports (a : Nat) (w : Word) : (s.wr a w).ports = s.ports := rfl
@[simp] theorem State.wr_comb (a : Nat) (w : Word) : (s.wr a w).comb = s.comb := rfl
@[simp] theorem State.wr_an (a : Nat) (w : Word) : (s.wr a w).an = s.an := rfl
@[simp] theorem State.wr_clk (a : Nat) (w : Word) : (s.wr a w).clk = s.clk := rfl
@[simp] theorem State.wr_grps (a : Nat) (w : Word) : (s.wr a w).grps = s.grps := rfl
@[simp] theorem State.wr_tdms (a : Nat) (w : Word) : (s.wr a w).tdms = s.tdms := rfl
@[simp] theorem State.wr_net (a : Nat) (w : Word) : (s.wr a w).net = s.net := rfl
@[simp] theorem State.wr_pdm (a : Nat) (w : Word) : (s.wr a w).pdm = s.pdm := rfl
@[simp] theorem State.wr_sct (a : Nat) (w : Word) : (s.wr a w).sct = s.sct := rfl
@[simp] theorem State.wr_cores (a : Nat) (w : Word) : (s.wr a w).cores = s.cores := rfl
@[simp] theorem State.wr_dsp (a : Nat) (w : Word) : (s.wr a w).dsp = s.dsp := rfl
@[simp] theorem State.wr_bad (a : Nat) (w : Word) : (s.wr a w).bad = s.bad := rfl
@[simp] theorem State.wr_wag (a : Nat) (w : Word) : (s.wr a w).wag = s.wag := rfl
@[simp] theorem State.wr_clip (a : Nat) (w : Word) : (s.wr a w).clip = s.clip := rfl
@[simp] theorem State.wr_madc (a : Nat) (w : Word) : (s.wr a w).madc = s.madc := rfl
@[simp] theorem State.wr_lsv (a : Nat) (w : Word) : (s.wr a w).lsv = s.lsv := rfl
@[simp] theorem State.wr_flash (a : Nat) (w : Word) : (s.wr a w).flash = s.flash := rfl
@[simp] theorem State.wr_img (a : Nat) (w : Word) : (s.wr a w).img = s.img := rfl
@[simp] theorem State.wr_bbxQueue (a : Nat) (w : Word) : (s.wr a w).bbxQueue = s.bbxQueue := rfl
@[simp] theorem State.wr_otp (a : Nat) (w : Word) : (s.wr a w).otp = s.otp := rfl
@[simp] theorem State.wr_mram (a : Nat) (w : Word) : (s.wr a w).mram = s.mram := rfl
@[simp] theorem State.wr_kpr (a : Nat) (w : Word) : (s.wr a w).kpr = s.kpr := rfl
@[simp] theorem State.wr_swarm (a : Nat) (w : Word) : (s.wr a w).swarm = s.swarm := rfl

/-! `State.setF` changes the register file only. -/
@[simp] theorem State.setF_pending (b : Nat) (f : Fld) (v : Nat) : (s.setF b f v).pending = s.pending := rfl
@[simp] theorem State.setF_snaps (b : Nat) (f : Fld) (v : Nat) : (s.setF b f v).snaps = s.snaps := rfl
@[simp] theorem State.setF_shadows (b : Nat) (f : Fld) (v : Nat) : (s.setF b f v).shadows = s.shadows := rfl
@[simp] theorem State.setF_holds (b : Nat) (f : Fld) (v : Nat) : (s.setF b f v).holds = s.holds := rfl
@[simp] theorem State.setF_mem (b : Nat) (f : Fld) (v : Nat) : (s.setF b f v).mem = s.mem := rfl
@[simp] theorem State.setF_free (b : Nat) (f : Fld) (v : Nat) : (s.setF b f v).free = s.free := rfl
@[simp] theorem State.setF_rdata (b : Nat) (f : Fld) (v : Nat) : (s.setF b f v).rdata = s.rdata := rfl
@[simp] theorem State.setF_rcode (b : Nat) (f : Fld) (v : Nat) : (s.setF b f v).rcode = s.rcode := rfl
@[simp] theorem State.setF_sys (b : Nat) (f : Fld) (v : Nat) : (s.setF b f v).sys = s.sys := rfl
@[simp] theorem State.setF_ports (b : Nat) (f : Fld) (v : Nat) : (s.setF b f v).ports = s.ports := rfl
@[simp] theorem State.setF_comb (b : Nat) (f : Fld) (v : Nat) : (s.setF b f v).comb = s.comb := rfl
@[simp] theorem State.setF_an (b : Nat) (f : Fld) (v : Nat) : (s.setF b f v).an = s.an := rfl
@[simp] theorem State.setF_clk (b : Nat) (f : Fld) (v : Nat) : (s.setF b f v).clk = s.clk := rfl
@[simp] theorem State.setF_grps (b : Nat) (f : Fld) (v : Nat) : (s.setF b f v).grps = s.grps := rfl
@[simp] theorem State.setF_tdms (b : Nat) (f : Fld) (v : Nat) : (s.setF b f v).tdms = s.tdms := rfl
@[simp] theorem State.setF_net (b : Nat) (f : Fld) (v : Nat) : (s.setF b f v).net = s.net := rfl
@[simp] theorem State.setF_pdm (b : Nat) (f : Fld) (v : Nat) : (s.setF b f v).pdm = s.pdm := rfl
@[simp] theorem State.setF_sct (b : Nat) (f : Fld) (v : Nat) : (s.setF b f v).sct = s.sct := rfl
@[simp] theorem State.setF_cores (b : Nat) (f : Fld) (v : Nat) : (s.setF b f v).cores = s.cores := rfl
@[simp] theorem State.setF_dsp (b : Nat) (f : Fld) (v : Nat) : (s.setF b f v).dsp = s.dsp := rfl
@[simp] theorem State.setF_bad (b : Nat) (f : Fld) (v : Nat) : (s.setF b f v).bad = s.bad := rfl
@[simp] theorem State.setF_wag (b : Nat) (f : Fld) (v : Nat) : (s.setF b f v).wag = s.wag := rfl
@[simp] theorem State.setF_clip (b : Nat) (f : Fld) (v : Nat) : (s.setF b f v).clip = s.clip := rfl
@[simp] theorem State.setF_madc (b : Nat) (f : Fld) (v : Nat) : (s.setF b f v).madc = s.madc := rfl
@[simp] theorem State.setF_lsv (b : Nat) (f : Fld) (v : Nat) : (s.setF b f v).lsv = s.lsv := rfl
@[simp] theorem State.setF_flash (b : Nat) (f : Fld) (v : Nat) : (s.setF b f v).flash = s.flash := rfl
@[simp] theorem State.setF_img (b : Nat) (f : Fld) (v : Nat) : (s.setF b f v).img = s.img := rfl
@[simp] theorem State.setF_bbxQueue (b : Nat) (f : Fld) (v : Nat) : (s.setF b f v).bbxQueue = s.bbxQueue := rfl
@[simp] theorem State.setF_otp (b : Nat) (f : Fld) (v : Nat) : (s.setF b f v).otp = s.otp := rfl
@[simp] theorem State.setF_mram (b : Nat) (f : Fld) (v : Nat) : (s.setF b f v).mram = s.mram := rfl
@[simp] theorem State.setF_kpr (b : Nat) (f : Fld) (v : Nat) : (s.setF b f v).kpr = s.kpr := rfl
@[simp] theorem State.setF_swarm (b : Nat) (f : Fld) (v : Nat) : (s.setF b f v).swarm = s.swarm := rfl

/-! `State.setS` changes the register file only. -/
@[simp] theorem State.setS_pending (b : Nat) (f : Fld) (x : Int) : (s.setS b f x).pending = s.pending := rfl
@[simp] theorem State.setS_snaps (b : Nat) (f : Fld) (x : Int) : (s.setS b f x).snaps = s.snaps := rfl
@[simp] theorem State.setS_shadows (b : Nat) (f : Fld) (x : Int) : (s.setS b f x).shadows = s.shadows := rfl
@[simp] theorem State.setS_holds (b : Nat) (f : Fld) (x : Int) : (s.setS b f x).holds = s.holds := rfl
@[simp] theorem State.setS_mem (b : Nat) (f : Fld) (x : Int) : (s.setS b f x).mem = s.mem := rfl
@[simp] theorem State.setS_free (b : Nat) (f : Fld) (x : Int) : (s.setS b f x).free = s.free := rfl
@[simp] theorem State.setS_rdata (b : Nat) (f : Fld) (x : Int) : (s.setS b f x).rdata = s.rdata := rfl
@[simp] theorem State.setS_rcode (b : Nat) (f : Fld) (x : Int) : (s.setS b f x).rcode = s.rcode := rfl
@[simp] theorem State.setS_sys (b : Nat) (f : Fld) (x : Int) : (s.setS b f x).sys = s.sys := rfl
@[simp] theorem State.setS_ports (b : Nat) (f : Fld) (x : Int) : (s.setS b f x).ports = s.ports := rfl
@[simp] theorem State.setS_comb (b : Nat) (f : Fld) (x : Int) : (s.setS b f x).comb = s.comb := rfl
@[simp] theorem State.setS_an (b : Nat) (f : Fld) (x : Int) : (s.setS b f x).an = s.an := rfl
@[simp] theorem State.setS_clk (b : Nat) (f : Fld) (x : Int) : (s.setS b f x).clk = s.clk := rfl
@[simp] theorem State.setS_grps (b : Nat) (f : Fld) (x : Int) : (s.setS b f x).grps = s.grps := rfl
@[simp] theorem State.setS_tdms (b : Nat) (f : Fld) (x : Int) : (s.setS b f x).tdms = s.tdms := rfl
@[simp] theorem State.setS_net (b : Nat) (f : Fld) (x : Int) : (s.setS b f x).net = s.net := rfl
@[simp] theorem State.setS_pdm (b : Nat) (f : Fld) (x : Int) : (s.setS b f x).pdm = s.pdm := rfl
@[simp] theorem State.setS_sct (b : Nat) (f : Fld) (x : Int) : (s.setS b f x).sct = s.sct := rfl
@[simp] theorem State.setS_cores (b : Nat) (f : Fld) (x : Int) : (s.setS b f x).cores = s.cores := rfl
@[simp] theorem State.setS_dsp (b : Nat) (f : Fld) (x : Int) : (s.setS b f x).dsp = s.dsp := rfl
@[simp] theorem State.setS_bad (b : Nat) (f : Fld) (x : Int) : (s.setS b f x).bad = s.bad := rfl
@[simp] theorem State.setS_wag (b : Nat) (f : Fld) (x : Int) : (s.setS b f x).wag = s.wag := rfl
@[simp] theorem State.setS_clip (b : Nat) (f : Fld) (x : Int) : (s.setS b f x).clip = s.clip := rfl
@[simp] theorem State.setS_madc (b : Nat) (f : Fld) (x : Int) : (s.setS b f x).madc = s.madc := rfl
@[simp] theorem State.setS_lsv (b : Nat) (f : Fld) (x : Int) : (s.setS b f x).lsv = s.lsv := rfl
@[simp] theorem State.setS_flash (b : Nat) (f : Fld) (x : Int) : (s.setS b f x).flash = s.flash := rfl
@[simp] theorem State.setS_img (b : Nat) (f : Fld) (x : Int) : (s.setS b f x).img = s.img := rfl
@[simp] theorem State.setS_bbxQueue (b : Nat) (f : Fld) (x : Int) : (s.setS b f x).bbxQueue = s.bbxQueue := rfl
@[simp] theorem State.setS_otp (b : Nat) (f : Fld) (x : Int) : (s.setS b f x).otp = s.otp := rfl
@[simp] theorem State.setS_mram (b : Nat) (f : Fld) (x : Int) : (s.setS b f x).mram = s.mram := rfl
@[simp] theorem State.setS_kpr (b : Nat) (f : Fld) (x : Int) : (s.setS b f x).kpr = s.kpr := rfl
@[simp] theorem State.setS_swarm (b : Nat) (f : Fld) (x : Int) : (s.setS b f x).swarm = s.swarm := rfl

/-! `State.count` changes the register file only. -/
@[simp] theorem State.count_pending (a : Nat) : (s.count a).pending = s.pending := rfl
@[simp] theorem State.count_snaps (a : Nat) : (s.count a).snaps = s.snaps := rfl
@[simp] theorem State.count_shadows (a : Nat) : (s.count a).shadows = s.shadows := rfl
@[simp] theorem State.count_holds (a : Nat) : (s.count a).holds = s.holds := rfl
@[simp] theorem State.count_mem (a : Nat) : (s.count a).mem = s.mem := rfl
@[simp] theorem State.count_free (a : Nat) : (s.count a).free = s.free := rfl
@[simp] theorem State.count_rdata (a : Nat) : (s.count a).rdata = s.rdata := rfl
@[simp] theorem State.count_rcode (a : Nat) : (s.count a).rcode = s.rcode := rfl
@[simp] theorem State.count_sys (a : Nat) : (s.count a).sys = s.sys := rfl
@[simp] theorem State.count_ports (a : Nat) : (s.count a).ports = s.ports := rfl
@[simp] theorem State.count_comb (a : Nat) : (s.count a).comb = s.comb := rfl
@[simp] theorem State.count_an (a : Nat) : (s.count a).an = s.an := rfl
@[simp] theorem State.count_clk (a : Nat) : (s.count a).clk = s.clk := rfl
@[simp] theorem State.count_grps (a : Nat) : (s.count a).grps = s.grps := rfl
@[simp] theorem State.count_tdms (a : Nat) : (s.count a).tdms = s.tdms := rfl
@[simp] theorem State.count_net (a : Nat) : (s.count a).net = s.net := rfl
@[simp] theorem State.count_pdm (a : Nat) : (s.count a).pdm = s.pdm := rfl
@[simp] theorem State.count_sct (a : Nat) : (s.count a).sct = s.sct := rfl
@[simp] theorem State.count_cores (a : Nat) : (s.count a).cores = s.cores := rfl
@[simp] theorem State.count_dsp (a : Nat) : (s.count a).dsp = s.dsp := rfl
@[simp] theorem State.count_bad (a : Nat) : (s.count a).bad = s.bad := rfl
@[simp] theorem State.count_wag (a : Nat) : (s.count a).wag = s.wag := rfl
@[simp] theorem State.count_clip (a : Nat) : (s.count a).clip = s.clip := rfl
@[simp] theorem State.count_madc (a : Nat) : (s.count a).madc = s.madc := rfl
@[simp] theorem State.count_lsv (a : Nat) : (s.count a).lsv = s.lsv := rfl
@[simp] theorem State.count_flash (a : Nat) : (s.count a).flash = s.flash := rfl
@[simp] theorem State.count_img (a : Nat) : (s.count a).img = s.img := rfl
@[simp] theorem State.count_bbxQueue (a : Nat) : (s.count a).bbxQueue = s.bbxQueue := rfl
@[simp] theorem State.count_otp (a : Nat) : (s.count a).otp = s.otp := rfl
@[simp] theorem State.count_mram (a : Nat) : (s.count a).mram = s.mram := rfl
@[simp] theorem State.count_kpr (a : Nat) : (s.count a).kpr = s.kpr := rfl
@[simp] theorem State.count_swarm (a : Nat) : (s.count a).swarm = s.swarm := rfl

/-! `State.countN` changes the register file only. -/
@[simp] theorem State.countN_pending (a n : Nat) : (s.countN a n).pending = s.pending := rfl
@[simp] theorem State.countN_snaps (a n : Nat) : (s.countN a n).snaps = s.snaps := rfl
@[simp] theorem State.countN_shadows (a n : Nat) : (s.countN a n).shadows = s.shadows := rfl
@[simp] theorem State.countN_holds (a n : Nat) : (s.countN a n).holds = s.holds := rfl
@[simp] theorem State.countN_mem (a n : Nat) : (s.countN a n).mem = s.mem := rfl
@[simp] theorem State.countN_free (a n : Nat) : (s.countN a n).free = s.free := rfl
@[simp] theorem State.countN_rdata (a n : Nat) : (s.countN a n).rdata = s.rdata := rfl
@[simp] theorem State.countN_rcode (a n : Nat) : (s.countN a n).rcode = s.rcode := rfl
@[simp] theorem State.countN_sys (a n : Nat) : (s.countN a n).sys = s.sys := rfl
@[simp] theorem State.countN_ports (a n : Nat) : (s.countN a n).ports = s.ports := rfl
@[simp] theorem State.countN_comb (a n : Nat) : (s.countN a n).comb = s.comb := rfl
@[simp] theorem State.countN_an (a n : Nat) : (s.countN a n).an = s.an := rfl
@[simp] theorem State.countN_clk (a n : Nat) : (s.countN a n).clk = s.clk := rfl
@[simp] theorem State.countN_grps (a n : Nat) : (s.countN a n).grps = s.grps := rfl
@[simp] theorem State.countN_tdms (a n : Nat) : (s.countN a n).tdms = s.tdms := rfl
@[simp] theorem State.countN_net (a n : Nat) : (s.countN a n).net = s.net := rfl
@[simp] theorem State.countN_pdm (a n : Nat) : (s.countN a n).pdm = s.pdm := rfl
@[simp] theorem State.countN_sct (a n : Nat) : (s.countN a n).sct = s.sct := rfl
@[simp] theorem State.countN_cores (a n : Nat) : (s.countN a n).cores = s.cores := rfl
@[simp] theorem State.countN_dsp (a n : Nat) : (s.countN a n).dsp = s.dsp := rfl
@[simp] theorem State.countN_bad (a n : Nat) : (s.countN a n).bad = s.bad := rfl
@[simp] theorem State.countN_wag (a n : Nat) : (s.countN a n).wag = s.wag := rfl
@[simp] theorem State.countN_clip (a n : Nat) : (s.countN a n).clip = s.clip := rfl
@[simp] theorem State.countN_madc (a n : Nat) : (s.countN a n).madc = s.madc := rfl
@[simp] theorem State.countN_lsv (a n : Nat) : (s.countN a n).lsv = s.lsv := rfl
@[simp] theorem State.countN_flash (a n : Nat) : (s.countN a n).flash = s.flash := rfl
@[simp] theorem State.countN_img (a n : Nat) : (s.countN a n).img = s.img := rfl
@[simp] theorem State.countN_bbxQueue (a n : Nat) : (s.countN a n).bbxQueue = s.bbxQueue := rfl
@[simp] theorem State.countN_otp (a n : Nat) : (s.countN a n).otp = s.otp := rfl
@[simp] theorem State.countN_mram (a n : Nat) : (s.countN a n).mram = s.mram := rfl
@[simp] theorem State.countN_kpr (a n : Nat) : (s.countN a n).kpr = s.kpr := rfl
@[simp] theorem State.countN_swarm (a n : Nat) : (s.countN a n).swarm = s.swarm := rfl

/-! `State.set64` changes the register file only. -/
@[simp] theorem State.set64_pending (a : Nat) (v : BitVec 64) : (s.set64 a v).pending = s.pending := rfl
@[simp] theorem State.set64_snaps (a : Nat) (v : BitVec 64) : (s.set64 a v).snaps = s.snaps := rfl
@[simp] theorem State.set64_shadows (a : Nat) (v : BitVec 64) : (s.set64 a v).shadows = s.shadows := rfl
@[simp] theorem State.set64_holds (a : Nat) (v : BitVec 64) : (s.set64 a v).holds = s.holds := rfl
@[simp] theorem State.set64_mem (a : Nat) (v : BitVec 64) : (s.set64 a v).mem = s.mem := rfl
@[simp] theorem State.set64_free (a : Nat) (v : BitVec 64) : (s.set64 a v).free = s.free := rfl
@[simp] theorem State.set64_rdata (a : Nat) (v : BitVec 64) : (s.set64 a v).rdata = s.rdata := rfl
@[simp] theorem State.set64_rcode (a : Nat) (v : BitVec 64) : (s.set64 a v).rcode = s.rcode := rfl
@[simp] theorem State.set64_sys (a : Nat) (v : BitVec 64) : (s.set64 a v).sys = s.sys := rfl
@[simp] theorem State.set64_ports (a : Nat) (v : BitVec 64) : (s.set64 a v).ports = s.ports := rfl
@[simp] theorem State.set64_comb (a : Nat) (v : BitVec 64) : (s.set64 a v).comb = s.comb := rfl
@[simp] theorem State.set64_an (a : Nat) (v : BitVec 64) : (s.set64 a v).an = s.an := rfl
@[simp] theorem State.set64_clk (a : Nat) (v : BitVec 64) : (s.set64 a v).clk = s.clk := rfl
@[simp] theorem State.set64_grps (a : Nat) (v : BitVec 64) : (s.set64 a v).grps = s.grps := rfl
@[simp] theorem State.set64_tdms (a : Nat) (v : BitVec 64) : (s.set64 a v).tdms = s.tdms := rfl
@[simp] theorem State.set64_net (a : Nat) (v : BitVec 64) : (s.set64 a v).net = s.net := rfl
@[simp] theorem State.set64_pdm (a : Nat) (v : BitVec 64) : (s.set64 a v).pdm = s.pdm := rfl
@[simp] theorem State.set64_sct (a : Nat) (v : BitVec 64) : (s.set64 a v).sct = s.sct := rfl
@[simp] theorem State.set64_cores (a : Nat) (v : BitVec 64) : (s.set64 a v).cores = s.cores := rfl
@[simp] theorem State.set64_dsp (a : Nat) (v : BitVec 64) : (s.set64 a v).dsp = s.dsp := rfl
@[simp] theorem State.set64_bad (a : Nat) (v : BitVec 64) : (s.set64 a v).bad = s.bad := rfl
@[simp] theorem State.set64_wag (a : Nat) (v : BitVec 64) : (s.set64 a v).wag = s.wag := rfl
@[simp] theorem State.set64_clip (a : Nat) (v : BitVec 64) : (s.set64 a v).clip = s.clip := rfl
@[simp] theorem State.set64_madc (a : Nat) (v : BitVec 64) : (s.set64 a v).madc = s.madc := rfl
@[simp] theorem State.set64_lsv (a : Nat) (v : BitVec 64) : (s.set64 a v).lsv = s.lsv := rfl
@[simp] theorem State.set64_flash (a : Nat) (v : BitVec 64) : (s.set64 a v).flash = s.flash := rfl
@[simp] theorem State.set64_img (a : Nat) (v : BitVec 64) : (s.set64 a v).img = s.img := rfl
@[simp] theorem State.set64_bbxQueue (a : Nat) (v : BitVec 64) : (s.set64 a v).bbxQueue = s.bbxQueue := rfl
@[simp] theorem State.set64_otp (a : Nat) (v : BitVec 64) : (s.set64 a v).otp = s.otp := rfl
@[simp] theorem State.set64_mram (a : Nat) (v : BitVec 64) : (s.set64 a v).mram = s.mram := rfl
@[simp] theorem State.set64_kpr (a : Nat) (v : BitVec 64) : (s.set64 a v).kpr = s.kpr := rfl
@[simp] theorem State.set64_swarm (a : Nat) (v : BitVec 64) : (s.set64 a v).swarm = s.swarm := rfl

/-! `State.inc64` changes the register file only. -/
@[simp] theorem State.inc64_pending (a : Nat) : (s.inc64 a).pending = s.pending := rfl
@[simp] theorem State.inc64_snaps (a : Nat) : (s.inc64 a).snaps = s.snaps := rfl
@[simp] theorem State.inc64_shadows (a : Nat) : (s.inc64 a).shadows = s.shadows := rfl
@[simp] theorem State.inc64_holds (a : Nat) : (s.inc64 a).holds = s.holds := rfl
@[simp] theorem State.inc64_mem (a : Nat) : (s.inc64 a).mem = s.mem := rfl
@[simp] theorem State.inc64_free (a : Nat) : (s.inc64 a).free = s.free := rfl
@[simp] theorem State.inc64_rdata (a : Nat) : (s.inc64 a).rdata = s.rdata := rfl
@[simp] theorem State.inc64_rcode (a : Nat) : (s.inc64 a).rcode = s.rcode := rfl
@[simp] theorem State.inc64_sys (a : Nat) : (s.inc64 a).sys = s.sys := rfl
@[simp] theorem State.inc64_ports (a : Nat) : (s.inc64 a).ports = s.ports := rfl
@[simp] theorem State.inc64_comb (a : Nat) : (s.inc64 a).comb = s.comb := rfl
@[simp] theorem State.inc64_an (a : Nat) : (s.inc64 a).an = s.an := rfl
@[simp] theorem State.inc64_clk (a : Nat) : (s.inc64 a).clk = s.clk := rfl
@[simp] theorem State.inc64_grps (a : Nat) : (s.inc64 a).grps = s.grps := rfl
@[simp] theorem State.inc64_tdms (a : Nat) : (s.inc64 a).tdms = s.tdms := rfl
@[simp] theorem State.inc64_net (a : Nat) : (s.inc64 a).net = s.net := rfl
@[simp] theorem State.inc64_pdm (a : Nat) : (s.inc64 a).pdm = s.pdm := rfl
@[simp] theorem State.inc64_sct (a : Nat) : (s.inc64 a).sct = s.sct := rfl
@[simp] theorem State.inc64_cores (a : Nat) : (s.inc64 a).cores = s.cores := rfl
@[simp] theorem State.inc64_dsp (a : Nat) : (s.inc64 a).dsp = s.dsp := rfl
@[simp] theorem State.inc64_bad (a : Nat) : (s.inc64 a).bad = s.bad := rfl
@[simp] theorem State.inc64_wag (a : Nat) : (s.inc64 a).wag = s.wag := rfl
@[simp] theorem State.inc64_clip (a : Nat) : (s.inc64 a).clip = s.clip := rfl
@[simp] theorem State.inc64_madc (a : Nat) : (s.inc64 a).madc = s.madc := rfl
@[simp] theorem State.inc64_lsv (a : Nat) : (s.inc64 a).lsv = s.lsv := rfl
@[simp] theorem State.inc64_flash (a : Nat) : (s.inc64 a).flash = s.flash := rfl
@[simp] theorem State.inc64_img (a : Nat) : (s.inc64 a).img = s.img := rfl
@[simp] theorem State.inc64_bbxQueue (a : Nat) : (s.inc64 a).bbxQueue = s.bbxQueue := rfl
@[simp] theorem State.inc64_otp (a : Nat) : (s.inc64 a).otp = s.otp := rfl
@[simp] theorem State.inc64_mram (a : Nat) : (s.inc64 a).mram = s.mram := rfl
@[simp] theorem State.inc64_kpr (a : Nat) : (s.inc64 a).kpr = s.kpr := rfl
@[simp] theorem State.inc64_swarm (a : Nat) : (s.inc64 a).swarm = s.swarm := rfl

/-! `State.setSt` changes the register file only. -/
@[simp] theorem State.setSt_pending (p v : Nat) : (s.setSt p v).pending = s.pending := rfl
@[simp] theorem State.setSt_snaps (p v : Nat) : (s.setSt p v).snaps = s.snaps := rfl
@[simp] theorem State.setSt_shadows (p v : Nat) : (s.setSt p v).shadows = s.shadows := rfl
@[simp] theorem State.setSt_holds (p v : Nat) : (s.setSt p v).holds = s.holds := rfl
@[simp] theorem State.setSt_mem (p v : Nat) : (s.setSt p v).mem = s.mem := rfl
@[simp] theorem State.setSt_free (p v : Nat) : (s.setSt p v).free = s.free := rfl
@[simp] theorem State.setSt_rdata (p v : Nat) : (s.setSt p v).rdata = s.rdata := rfl
@[simp] theorem State.setSt_rcode (p v : Nat) : (s.setSt p v).rcode = s.rcode := rfl
@[simp] theorem State.setSt_sys (p v : Nat) : (s.setSt p v).sys = s.sys := rfl
@[simp] theorem State.setSt_ports (p v : Nat) : (s.setSt p v).ports = s.ports := rfl
@[simp] theorem State.setSt_comb (p v : Nat) : (s.setSt p v).comb = s.comb := rfl
@[simp] theorem State.setSt_an (p v : Nat) : (s.setSt p v).an = s.an := rfl
@[simp] theorem State.setSt_clk (p v : Nat) : (s.setSt p v).clk = s.clk := rfl
@[simp] theorem State.setSt_grps (p v : Nat) : (s.setSt p v).grps = s.grps := rfl
@[simp] theorem State.setSt_tdms (p v : Nat) : (s.setSt p v).tdms = s.tdms := rfl
@[simp] theorem State.setSt_net (p v : Nat) : (s.setSt p v).net = s.net := rfl
@[simp] theorem State.setSt_pdm (p v : Nat) : (s.setSt p v).pdm = s.pdm := rfl
@[simp] theorem State.setSt_sct (p v : Nat) : (s.setSt p v).sct = s.sct := rfl
@[simp] theorem State.setSt_cores (p v : Nat) : (s.setSt p v).cores = s.cores := rfl
@[simp] theorem State.setSt_dsp (p v : Nat) : (s.setSt p v).dsp = s.dsp := rfl
@[simp] theorem State.setSt_bad (p v : Nat) : (s.setSt p v).bad = s.bad := rfl
@[simp] theorem State.setSt_wag (p v : Nat) : (s.setSt p v).wag = s.wag := rfl
@[simp] theorem State.setSt_clip (p v : Nat) : (s.setSt p v).clip = s.clip := rfl
@[simp] theorem State.setSt_madc (p v : Nat) : (s.setSt p v).madc = s.madc := rfl
@[simp] theorem State.setSt_lsv (p v : Nat) : (s.setSt p v).lsv = s.lsv := rfl
@[simp] theorem State.setSt_flash (p v : Nat) : (s.setSt p v).flash = s.flash := rfl
@[simp] theorem State.setSt_img (p v : Nat) : (s.setSt p v).img = s.img := rfl
@[simp] theorem State.setSt_bbxQueue (p v : Nat) : (s.setSt p v).bbxQueue = s.bbxQueue := rfl
@[simp] theorem State.setSt_otp (p v : Nat) : (s.setSt p v).otp = s.otp := rfl
@[simp] theorem State.setSt_mram (p v : Nat) : (s.setSt p v).mram = s.mram := rfl
@[simp] theorem State.setSt_kpr (p v : Nat) : (s.setSt p v).kpr = s.kpr := rfl
@[simp] theorem State.setSt_swarm (p v : Nat) : (s.setSt p v).swarm = s.swarm := rfl

/-! `State.raise` changes the register file only. -/
@[simp] theorem State.raise_pending (p b : Nat) : (s.raise p b).pending = s.pending := rfl
@[simp] theorem State.raise_snaps (p b : Nat) : (s.raise p b).snaps = s.snaps := rfl
@[simp] theorem State.raise_shadows (p b : Nat) : (s.raise p b).shadows = s.shadows := rfl
@[simp] theorem State.raise_holds (p b : Nat) : (s.raise p b).holds = s.holds := rfl
@[simp] theorem State.raise_mem (p b : Nat) : (s.raise p b).mem = s.mem := rfl
@[simp] theorem State.raise_free (p b : Nat) : (s.raise p b).free = s.free := rfl
@[simp] theorem State.raise_rdata (p b : Nat) : (s.raise p b).rdata = s.rdata := rfl
@[simp] theorem State.raise_rcode (p b : Nat) : (s.raise p b).rcode = s.rcode := rfl
@[simp] theorem State.raise_sys (p b : Nat) : (s.raise p b).sys = s.sys := rfl
@[simp] theorem State.raise_ports (p b : Nat) : (s.raise p b).ports = s.ports := rfl
@[simp] theorem State.raise_comb (p b : Nat) : (s.raise p b).comb = s.comb := rfl
@[simp] theorem State.raise_an (p b : Nat) : (s.raise p b).an = s.an := rfl
@[simp] theorem State.raise_clk (p b : Nat) : (s.raise p b).clk = s.clk := rfl
@[simp] theorem State.raise_grps (p b : Nat) : (s.raise p b).grps = s.grps := rfl
@[simp] theorem State.raise_tdms (p b : Nat) : (s.raise p b).tdms = s.tdms := rfl
@[simp] theorem State.raise_net (p b : Nat) : (s.raise p b).net = s.net := rfl
@[simp] theorem State.raise_pdm (p b : Nat) : (s.raise p b).pdm = s.pdm := rfl
@[simp] theorem State.raise_sct (p b : Nat) : (s.raise p b).sct = s.sct := rfl
@[simp] theorem State.raise_cores (p b : Nat) : (s.raise p b).cores = s.cores := rfl
@[simp] theorem State.raise_dsp (p b : Nat) : (s.raise p b).dsp = s.dsp := rfl
@[simp] theorem State.raise_bad (p b : Nat) : (s.raise p b).bad = s.bad := rfl
@[simp] theorem State.raise_wag (p b : Nat) : (s.raise p b).wag = s.wag := rfl
@[simp] theorem State.raise_clip (p b : Nat) : (s.raise p b).clip = s.clip := rfl
@[simp] theorem State.raise_madc (p b : Nat) : (s.raise p b).madc = s.madc := rfl
@[simp] theorem State.raise_lsv (p b : Nat) : (s.raise p b).lsv = s.lsv := rfl
@[simp] theorem State.raise_flash (p b : Nat) : (s.raise p b).flash = s.flash := rfl
@[simp] theorem State.raise_img (p b : Nat) : (s.raise p b).img = s.img := rfl
@[simp] theorem State.raise_bbxQueue (p b : Nat) : (s.raise p b).bbxQueue = s.bbxQueue := rfl
@[simp] theorem State.raise_otp (p b : Nat) : (s.raise p b).otp = s.otp := rfl
@[simp] theorem State.raise_mram (p b : Nat) : (s.raise p b).mram = s.mram := rfl
@[simp] theorem State.raise_kpr (p b : Nat) : (s.raise p b).kpr = s.kpr := rfl
@[simp] theorem State.raise_swarm (p b : Nat) : (s.raise p b).swarm = s.swarm := rfl

/-! `State.err` changes the register file only. -/
@[simp] theorem State.err_pending (p : Nat) : (s.err p).pending = s.pending := rfl
@[simp] theorem State.err_snaps (p : Nat) : (s.err p).snaps = s.snaps := rfl
@[simp] theorem State.err_shadows (p : Nat) : (s.err p).shadows = s.shadows := rfl
@[simp] theorem State.err_holds (p : Nat) : (s.err p).holds = s.holds := rfl
@[simp] theorem State.err_mem (p : Nat) : (s.err p).mem = s.mem := rfl
@[simp] theorem State.err_free (p : Nat) : (s.err p).free = s.free := rfl
@[simp] theorem State.err_rdata (p : Nat) : (s.err p).rdata = s.rdata := rfl
@[simp] theorem State.err_rcode (p : Nat) : (s.err p).rcode = s.rcode := rfl
@[simp] theorem State.err_sys (p : Nat) : (s.err p).sys = s.sys := rfl
@[simp] theorem State.err_ports (p : Nat) : (s.err p).ports = s.ports := rfl
@[simp] theorem State.err_comb (p : Nat) : (s.err p).comb = s.comb := rfl
@[simp] theorem State.err_an (p : Nat) : (s.err p).an = s.an := rfl
@[simp] theorem State.err_clk (p : Nat) : (s.err p).clk = s.clk := rfl
@[simp] theorem State.err_grps (p : Nat) : (s.err p).grps = s.grps := rfl
@[simp] theorem State.err_tdms (p : Nat) : (s.err p).tdms = s.tdms := rfl
@[simp] theorem State.err_net (p : Nat) : (s.err p).net = s.net := rfl
@[simp] theorem State.err_pdm (p : Nat) : (s.err p).pdm = s.pdm := rfl
@[simp] theorem State.err_sct (p : Nat) : (s.err p).sct = s.sct := rfl
@[simp] theorem State.err_cores (p : Nat) : (s.err p).cores = s.cores := rfl
@[simp] theorem State.err_dsp (p : Nat) : (s.err p).dsp = s.dsp := rfl
@[simp] theorem State.err_bad (p : Nat) : (s.err p).bad = s.bad := rfl
@[simp] theorem State.err_wag (p : Nat) : (s.err p).wag = s.wag := rfl
@[simp] theorem State.err_clip (p : Nat) : (s.err p).clip = s.clip := rfl
@[simp] theorem State.err_madc (p : Nat) : (s.err p).madc = s.madc := rfl
@[simp] theorem State.err_lsv (p : Nat) : (s.err p).lsv = s.lsv := rfl
@[simp] theorem State.err_flash (p : Nat) : (s.err p).flash = s.flash := rfl
@[simp] theorem State.err_img (p : Nat) : (s.err p).img = s.img := rfl
@[simp] theorem State.err_bbxQueue (p : Nat) : (s.err p).bbxQueue = s.bbxQueue := rfl
@[simp] theorem State.err_otp (p : Nat) : (s.err p).otp = s.otp := rfl
@[simp] theorem State.err_mram (p : Nat) : (s.err p).mram = s.mram := rfl
@[simp] theorem State.err_kpr (p : Nat) : (s.err p).kpr = s.kpr := rfl
@[simp] theorem State.err_swarm (p : Nat) : (s.err p).swarm = s.swarm := rfl

/-! `State.bump` changes the register file only. -/
@[simp] theorem State.bump_pending (b : Nat) (f : Fld) : (s.bump b f).pending = s.pending := rfl
@[simp] theorem State.bump_snaps (b : Nat) (f : Fld) : (s.bump b f).snaps = s.snaps := rfl
@[simp] theorem State.bump_shadows (b : Nat) (f : Fld) : (s.bump b f).shadows = s.shadows := rfl
@[simp] theorem State.bump_holds (b : Nat) (f : Fld) : (s.bump b f).holds = s.holds := rfl
@[simp] theorem State.bump_mem (b : Nat) (f : Fld) : (s.bump b f).mem = s.mem := rfl
@[simp] theorem State.bump_free (b : Nat) (f : Fld) : (s.bump b f).free = s.free := rfl
@[simp] theorem State.bump_rdata (b : Nat) (f : Fld) : (s.bump b f).rdata = s.rdata := rfl
@[simp] theorem State.bump_rcode (b : Nat) (f : Fld) : (s.bump b f).rcode = s.rcode := rfl
@[simp] theorem State.bump_sys (b : Nat) (f : Fld) : (s.bump b f).sys = s.sys := rfl
@[simp] theorem State.bump_ports (b : Nat) (f : Fld) : (s.bump b f).ports = s.ports := rfl
@[simp] theorem State.bump_comb (b : Nat) (f : Fld) : (s.bump b f).comb = s.comb := rfl
@[simp] theorem State.bump_an (b : Nat) (f : Fld) : (s.bump b f).an = s.an := rfl
@[simp] theorem State.bump_clk (b : Nat) (f : Fld) : (s.bump b f).clk = s.clk := rfl
@[simp] theorem State.bump_grps (b : Nat) (f : Fld) : (s.bump b f).grps = s.grps := rfl
@[simp] theorem State.bump_tdms (b : Nat) (f : Fld) : (s.bump b f).tdms = s.tdms := rfl
@[simp] theorem State.bump_net (b : Nat) (f : Fld) : (s.bump b f).net = s.net := rfl
@[simp] theorem State.bump_pdm (b : Nat) (f : Fld) : (s.bump b f).pdm = s.pdm := rfl
@[simp] theorem State.bump_sct (b : Nat) (f : Fld) : (s.bump b f).sct = s.sct := rfl
@[simp] theorem State.bump_cores (b : Nat) (f : Fld) : (s.bump b f).cores = s.cores := rfl
@[simp] theorem State.bump_dsp (b : Nat) (f : Fld) : (s.bump b f).dsp = s.dsp := rfl
@[simp] theorem State.bump_bad (b : Nat) (f : Fld) : (s.bump b f).bad = s.bad := rfl
@[simp] theorem State.bump_wag (b : Nat) (f : Fld) : (s.bump b f).wag = s.wag := rfl
@[simp] theorem State.bump_clip (b : Nat) (f : Fld) : (s.bump b f).clip = s.clip := rfl
@[simp] theorem State.bump_madc (b : Nat) (f : Fld) : (s.bump b f).madc = s.madc := rfl
@[simp] theorem State.bump_lsv (b : Nat) (f : Fld) : (s.bump b f).lsv = s.lsv := rfl
@[simp] theorem State.bump_flash (b : Nat) (f : Fld) : (s.bump b f).flash = s.flash := rfl
@[simp] theorem State.bump_img (b : Nat) (f : Fld) : (s.bump b f).img = s.img := rfl
@[simp] theorem State.bump_bbxQueue (b : Nat) (f : Fld) : (s.bump b f).bbxQueue = s.bbxQueue := rfl
@[simp] theorem State.bump_otp (b : Nat) (f : Fld) : (s.bump b f).otp = s.otp := rfl
@[simp] theorem State.bump_mram (b : Nat) (f : Fld) : (s.bump b f).mram = s.mram := rfl
@[simp] theorem State.bump_kpr (b : Nat) (f : Fld) : (s.bump b f).kpr = s.kpr := rfl
@[simp] theorem State.bump_swarm (b : Nat) (f : Fld) : (s.bump b f).swarm = s.swarm := rfl

/-! `State.setDom` changes the register file only. -/
@[simp] theorem State.setDom_pending (d : Dom) (v : Nat) : (s.setDom d v).pending = s.pending := rfl
@[simp] theorem State.setDom_snaps (d : Dom) (v : Nat) : (s.setDom d v).snaps = s.snaps := rfl
@[simp] theorem State.setDom_shadows (d : Dom) (v : Nat) : (s.setDom d v).shadows = s.shadows := rfl
@[simp] theorem State.setDom_holds (d : Dom) (v : Nat) : (s.setDom d v).holds = s.holds := rfl
@[simp] theorem State.setDom_mem (d : Dom) (v : Nat) : (s.setDom d v).mem = s.mem := rfl
@[simp] theorem State.setDom_free (d : Dom) (v : Nat) : (s.setDom d v).free = s.free := rfl
@[simp] theorem State.setDom_rdata (d : Dom) (v : Nat) : (s.setDom d v).rdata = s.rdata := rfl
@[simp] theorem State.setDom_rcode (d : Dom) (v : Nat) : (s.setDom d v).rcode = s.rcode := rfl
@[simp] theorem State.setDom_sys (d : Dom) (v : Nat) : (s.setDom d v).sys = s.sys := rfl
@[simp] theorem State.setDom_ports (d : Dom) (v : Nat) : (s.setDom d v).ports = s.ports := rfl
@[simp] theorem State.setDom_comb (d : Dom) (v : Nat) : (s.setDom d v).comb = s.comb := rfl
@[simp] theorem State.setDom_an (d : Dom) (v : Nat) : (s.setDom d v).an = s.an := rfl
@[simp] theorem State.setDom_clk (d : Dom) (v : Nat) : (s.setDom d v).clk = s.clk := rfl
@[simp] theorem State.setDom_grps (d : Dom) (v : Nat) : (s.setDom d v).grps = s.grps := rfl
@[simp] theorem State.setDom_tdms (d : Dom) (v : Nat) : (s.setDom d v).tdms = s.tdms := rfl
@[simp] theorem State.setDom_net (d : Dom) (v : Nat) : (s.setDom d v).net = s.net := rfl
@[simp] theorem State.setDom_pdm (d : Dom) (v : Nat) : (s.setDom d v).pdm = s.pdm := rfl
@[simp] theorem State.setDom_sct (d : Dom) (v : Nat) : (s.setDom d v).sct = s.sct := rfl
@[simp] theorem State.setDom_cores (d : Dom) (v : Nat) : (s.setDom d v).cores = s.cores := rfl
@[simp] theorem State.setDom_dsp (d : Dom) (v : Nat) : (s.setDom d v).dsp = s.dsp := rfl
@[simp] theorem State.setDom_bad (d : Dom) (v : Nat) : (s.setDom d v).bad = s.bad := rfl
@[simp] theorem State.setDom_wag (d : Dom) (v : Nat) : (s.setDom d v).wag = s.wag := rfl
@[simp] theorem State.setDom_clip (d : Dom) (v : Nat) : (s.setDom d v).clip = s.clip := rfl
@[simp] theorem State.setDom_madc (d : Dom) (v : Nat) : (s.setDom d v).madc = s.madc := rfl
@[simp] theorem State.setDom_lsv (d : Dom) (v : Nat) : (s.setDom d v).lsv = s.lsv := rfl
@[simp] theorem State.setDom_flash (d : Dom) (v : Nat) : (s.setDom d v).flash = s.flash := rfl
@[simp] theorem State.setDom_img (d : Dom) (v : Nat) : (s.setDom d v).img = s.img := rfl
@[simp] theorem State.setDom_bbxQueue (d : Dom) (v : Nat) : (s.setDom d v).bbxQueue = s.bbxQueue := rfl
@[simp] theorem State.setDom_otp (d : Dom) (v : Nat) : (s.setDom d v).otp = s.otp := rfl
@[simp] theorem State.setDom_mram (d : Dom) (v : Nat) : (s.setDom d v).mram = s.mram := rfl
@[simp] theorem State.setDom_kpr (d : Dom) (v : Nat) : (s.setDom d v).kpr = s.kpr := rfl
@[simp] theorem State.setDom_swarm (d : Dom) (v : Nat) : (s.setDom d v).swarm = s.swarm := rfl

/-! `State.refuse` changes the register file only. -/
@[simp] theorem State.refuse_pending (p c : Nat) (r : Req) (a : Nat) (k : Code) : (s.refuse p c r a k).pending = s.pending := rfl
@[simp] theorem State.refuse_snaps (p c : Nat) (r : Req) (a : Nat) (k : Code) : (s.refuse p c r a k).snaps = s.snaps := rfl
@[simp] theorem State.refuse_shadows (p c : Nat) (r : Req) (a : Nat) (k : Code) : (s.refuse p c r a k).shadows = s.shadows := rfl
@[simp] theorem State.refuse_holds (p c : Nat) (r : Req) (a : Nat) (k : Code) : (s.refuse p c r a k).holds = s.holds := rfl
@[simp] theorem State.refuse_mem (p c : Nat) (r : Req) (a : Nat) (k : Code) : (s.refuse p c r a k).mem = s.mem := rfl
@[simp] theorem State.refuse_free (p c : Nat) (r : Req) (a : Nat) (k : Code) : (s.refuse p c r a k).free = s.free := rfl
@[simp] theorem State.refuse_rdata (p c : Nat) (r : Req) (a : Nat) (k : Code) : (s.refuse p c r a k).rdata = s.rdata := rfl
@[simp] theorem State.refuse_rcode (p c : Nat) (r : Req) (a : Nat) (k : Code) : (s.refuse p c r a k).rcode = s.rcode := rfl
@[simp] theorem State.refuse_sys (p c : Nat) (r : Req) (a : Nat) (k : Code) : (s.refuse p c r a k).sys = s.sys := rfl
@[simp] theorem State.refuse_ports (p c : Nat) (r : Req) (a : Nat) (k : Code) : (s.refuse p c r a k).ports = s.ports := rfl
@[simp] theorem State.refuse_comb (p c : Nat) (r : Req) (a : Nat) (k : Code) : (s.refuse p c r a k).comb = s.comb := rfl
@[simp] theorem State.refuse_an (p c : Nat) (r : Req) (a : Nat) (k : Code) : (s.refuse p c r a k).an = s.an := rfl
@[simp] theorem State.refuse_clk (p c : Nat) (r : Req) (a : Nat) (k : Code) : (s.refuse p c r a k).clk = s.clk := rfl
@[simp] theorem State.refuse_grps (p c : Nat) (r : Req) (a : Nat) (k : Code) : (s.refuse p c r a k).grps = s.grps := rfl
@[simp] theorem State.refuse_tdms (p c : Nat) (r : Req) (a : Nat) (k : Code) : (s.refuse p c r a k).tdms = s.tdms := rfl
@[simp] theorem State.refuse_net (p c : Nat) (r : Req) (a : Nat) (k : Code) : (s.refuse p c r a k).net = s.net := rfl
@[simp] theorem State.refuse_pdm (p c : Nat) (r : Req) (a : Nat) (k : Code) : (s.refuse p c r a k).pdm = s.pdm := rfl
@[simp] theorem State.refuse_sct (p c : Nat) (r : Req) (a : Nat) (k : Code) : (s.refuse p c r a k).sct = s.sct := rfl
@[simp] theorem State.refuse_cores (p c : Nat) (r : Req) (a : Nat) (k : Code) : (s.refuse p c r a k).cores = s.cores := rfl
@[simp] theorem State.refuse_dsp (p c : Nat) (r : Req) (a : Nat) (k : Code) : (s.refuse p c r a k).dsp = s.dsp := rfl
@[simp] theorem State.refuse_bad (p c : Nat) (r : Req) (a : Nat) (k : Code) : (s.refuse p c r a k).bad = s.bad := rfl
@[simp] theorem State.refuse_wag (p c : Nat) (r : Req) (a : Nat) (k : Code) : (s.refuse p c r a k).wag = s.wag := rfl
@[simp] theorem State.refuse_clip (p c : Nat) (r : Req) (a : Nat) (k : Code) : (s.refuse p c r a k).clip = s.clip := rfl
@[simp] theorem State.refuse_madc (p c : Nat) (r : Req) (a : Nat) (k : Code) : (s.refuse p c r a k).madc = s.madc := rfl
@[simp] theorem State.refuse_lsv (p c : Nat) (r : Req) (a : Nat) (k : Code) : (s.refuse p c r a k).lsv = s.lsv := rfl
@[simp] theorem State.refuse_flash (p c : Nat) (r : Req) (a : Nat) (k : Code) : (s.refuse p c r a k).flash = s.flash := rfl
@[simp] theorem State.refuse_img (p c : Nat) (r : Req) (a : Nat) (k : Code) : (s.refuse p c r a k).img = s.img := rfl
@[simp] theorem State.refuse_bbxQueue (p c : Nat) (r : Req) (a : Nat) (k : Code) : (s.refuse p c r a k).bbxQueue = s.bbxQueue := rfl
@[simp] theorem State.refuse_otp (p c : Nat) (r : Req) (a : Nat) (k : Code) : (s.refuse p c r a k).otp = s.otp := rfl
@[simp] theorem State.refuse_mram (p c : Nat) (r : Req) (a : Nat) (k : Code) : (s.refuse p c r a k).mram = s.mram := rfl
@[simp] theorem State.refuse_kpr (p c : Nat) (r : Req) (a : Nat) (k : Code) : (s.refuse p c r a k).kpr = s.kpr := rfl
@[simp] theorem State.refuse_swarm (p c : Nat) (r : Req) (a : Nat) (k : Code) : (s.refuse p c r a k).swarm = s.swarm := rfl

/-! `State.lockPage` changes the register file only. -/
@[simp] theorem State.lockPage_pending (p : Nat) : (s.lockPage p).pending = s.pending := rfl
@[simp] theorem State.lockPage_snaps (p : Nat) : (s.lockPage p).snaps = s.snaps := rfl
@[simp] theorem State.lockPage_shadows (p : Nat) : (s.lockPage p).shadows = s.shadows := rfl
@[simp] theorem State.lockPage_holds (p : Nat) : (s.lockPage p).holds = s.holds := rfl
@[simp] theorem State.lockPage_mem (p : Nat) : (s.lockPage p).mem = s.mem := rfl
@[simp] theorem State.lockPage_free (p : Nat) : (s.lockPage p).free = s.free := rfl
@[simp] theorem State.lockPage_rdata (p : Nat) : (s.lockPage p).rdata = s.rdata := rfl
@[simp] theorem State.lockPage_rcode (p : Nat) : (s.lockPage p).rcode = s.rcode := rfl
@[simp] theorem State.lockPage_sys (p : Nat) : (s.lockPage p).sys = s.sys := rfl
@[simp] theorem State.lockPage_ports (p : Nat) : (s.lockPage p).ports = s.ports := rfl
@[simp] theorem State.lockPage_comb (p : Nat) : (s.lockPage p).comb = s.comb := rfl
@[simp] theorem State.lockPage_an (p : Nat) : (s.lockPage p).an = s.an := rfl
@[simp] theorem State.lockPage_clk (p : Nat) : (s.lockPage p).clk = s.clk := rfl
@[simp] theorem State.lockPage_grps (p : Nat) : (s.lockPage p).grps = s.grps := rfl
@[simp] theorem State.lockPage_tdms (p : Nat) : (s.lockPage p).tdms = s.tdms := rfl
@[simp] theorem State.lockPage_net (p : Nat) : (s.lockPage p).net = s.net := rfl
@[simp] theorem State.lockPage_pdm (p : Nat) : (s.lockPage p).pdm = s.pdm := rfl
@[simp] theorem State.lockPage_sct (p : Nat) : (s.lockPage p).sct = s.sct := rfl
@[simp] theorem State.lockPage_cores (p : Nat) : (s.lockPage p).cores = s.cores := rfl
@[simp] theorem State.lockPage_dsp (p : Nat) : (s.lockPage p).dsp = s.dsp := rfl
@[simp] theorem State.lockPage_bad (p : Nat) : (s.lockPage p).bad = s.bad := rfl
@[simp] theorem State.lockPage_wag (p : Nat) : (s.lockPage p).wag = s.wag := rfl
@[simp] theorem State.lockPage_clip (p : Nat) : (s.lockPage p).clip = s.clip := rfl
@[simp] theorem State.lockPage_madc (p : Nat) : (s.lockPage p).madc = s.madc := rfl
@[simp] theorem State.lockPage_lsv (p : Nat) : (s.lockPage p).lsv = s.lsv := rfl
@[simp] theorem State.lockPage_flash (p : Nat) : (s.lockPage p).flash = s.flash := rfl
@[simp] theorem State.lockPage_img (p : Nat) : (s.lockPage p).img = s.img := rfl
@[simp] theorem State.lockPage_bbxQueue (p : Nat) : (s.lockPage p).bbxQueue = s.bbxQueue := rfl
@[simp] theorem State.lockPage_otp (p : Nat) : (s.lockPage p).otp = s.otp := rfl
@[simp] theorem State.lockPage_mram (p : Nat) : (s.lockPage p).mram = s.mram := rfl
@[simp] theorem State.lockPage_kpr (p : Nat) : (s.lockPage p).kpr = s.kpr := rfl
@[simp] theorem State.lockPage_swarm (p : Nat) : (s.lockPage p).swarm = s.swarm := rfl

/-! `State.onSpi` changes `ports` only. -/
@[simp] theorem State.onSpi_pending (f : SpiPort → SpiPort) : (s.onSpi f).pending = s.pending := rfl
@[simp] theorem State.onSpi_regs (f : SpiPort → SpiPort) : (s.onSpi f).regs = s.regs := rfl
@[simp] theorem State.onSpi_snaps (f : SpiPort → SpiPort) : (s.onSpi f).snaps = s.snaps := rfl
@[simp] theorem State.onSpi_shadows (f : SpiPort → SpiPort) : (s.onSpi f).shadows = s.shadows := rfl
@[simp] theorem State.onSpi_holds (f : SpiPort → SpiPort) : (s.onSpi f).holds = s.holds := rfl
@[simp] theorem State.onSpi_mem (f : SpiPort → SpiPort) : (s.onSpi f).mem = s.mem := rfl
@[simp] theorem State.onSpi_free (f : SpiPort → SpiPort) : (s.onSpi f).free = s.free := rfl
@[simp] theorem State.onSpi_rdata (f : SpiPort → SpiPort) : (s.onSpi f).rdata = s.rdata := rfl
@[simp] theorem State.onSpi_rcode (f : SpiPort → SpiPort) : (s.onSpi f).rcode = s.rcode := rfl
@[simp] theorem State.onSpi_sys (f : SpiPort → SpiPort) : (s.onSpi f).sys = s.sys := rfl
@[simp] theorem State.onSpi_spi (f : SpiPort → SpiPort) : (s.onSpi f).ports.spi = f s.ports.spi := rfl
@[simp] theorem State.onSpi_tw0 (f : SpiPort → SpiPort) : (s.onSpi f).ports.tw0 = s.ports.tw0 := rfl
@[simp] theorem State.onSpi_tw1 (f : SpiPort → SpiPort) : (s.onSpi f).ports.tw1 = s.ports.tw1 := rfl
@[simp] theorem State.onSpi_udp (f : SpiPort → SpiPort) : (s.onSpi f).ports.udp = s.ports.udp := rfl
@[simp] theorem State.onSpi_order (f : SpiPort → SpiPort) : (s.onSpi f).ports.order = s.ports.order := rfl
@[simp] theorem State.onSpi_comb (f : SpiPort → SpiPort) : (s.onSpi f).comb = s.comb := rfl
@[simp] theorem State.onSpi_an (f : SpiPort → SpiPort) : (s.onSpi f).an = s.an := rfl
@[simp] theorem State.onSpi_clk (f : SpiPort → SpiPort) : (s.onSpi f).clk = s.clk := rfl
@[simp] theorem State.onSpi_grps (f : SpiPort → SpiPort) : (s.onSpi f).grps = s.grps := rfl
@[simp] theorem State.onSpi_tdms (f : SpiPort → SpiPort) : (s.onSpi f).tdms = s.tdms := rfl
@[simp] theorem State.onSpi_net (f : SpiPort → SpiPort) : (s.onSpi f).net = s.net := rfl
@[simp] theorem State.onSpi_pdm (f : SpiPort → SpiPort) : (s.onSpi f).pdm = s.pdm := rfl
@[simp] theorem State.onSpi_sct (f : SpiPort → SpiPort) : (s.onSpi f).sct = s.sct := rfl
@[simp] theorem State.onSpi_cores (f : SpiPort → SpiPort) : (s.onSpi f).cores = s.cores := rfl
@[simp] theorem State.onSpi_dsp (f : SpiPort → SpiPort) : (s.onSpi f).dsp = s.dsp := rfl
@[simp] theorem State.onSpi_bad (f : SpiPort → SpiPort) : (s.onSpi f).bad = s.bad := rfl
@[simp] theorem State.onSpi_wag (f : SpiPort → SpiPort) : (s.onSpi f).wag = s.wag := rfl
@[simp] theorem State.onSpi_clip (f : SpiPort → SpiPort) : (s.onSpi f).clip = s.clip := rfl
@[simp] theorem State.onSpi_madc (f : SpiPort → SpiPort) : (s.onSpi f).madc = s.madc := rfl
@[simp] theorem State.onSpi_lsv (f : SpiPort → SpiPort) : (s.onSpi f).lsv = s.lsv := rfl
@[simp] theorem State.onSpi_flash (f : SpiPort → SpiPort) : (s.onSpi f).flash = s.flash := rfl
@[simp] theorem State.onSpi_img (f : SpiPort → SpiPort) : (s.onSpi f).img = s.img := rfl
@[simp] theorem State.onSpi_bbxQueue (f : SpiPort → SpiPort) : (s.onSpi f).bbxQueue = s.bbxQueue := rfl
@[simp] theorem State.onSpi_otp (f : SpiPort → SpiPort) : (s.onSpi f).otp = s.otp := rfl
@[simp] theorem State.onSpi_mram (f : SpiPort → SpiPort) : (s.onSpi f).mram = s.mram := rfl
@[simp] theorem State.onSpi_kpr (f : SpiPort → SpiPort) : (s.onSpi f).kpr = s.kpr := rfl
@[simp] theorem State.onSpi_swarm (f : SpiPort → SpiPort) : (s.onSpi f).swarm = s.swarm := rfl

/-! `State.onTw0` changes `ports` only. -/
@[simp] theorem State.onTw0_pending (f : Tw0Port → Tw0Port) : (s.onTw0 f).pending = s.pending := rfl
@[simp] theorem State.onTw0_regs (f : Tw0Port → Tw0Port) : (s.onTw0 f).regs = s.regs := rfl
@[simp] theorem State.onTw0_snaps (f : Tw0Port → Tw0Port) : (s.onTw0 f).snaps = s.snaps := rfl
@[simp] theorem State.onTw0_shadows (f : Tw0Port → Tw0Port) : (s.onTw0 f).shadows = s.shadows := rfl
@[simp] theorem State.onTw0_holds (f : Tw0Port → Tw0Port) : (s.onTw0 f).holds = s.holds := rfl
@[simp] theorem State.onTw0_mem (f : Tw0Port → Tw0Port) : (s.onTw0 f).mem = s.mem := rfl
@[simp] theorem State.onTw0_free (f : Tw0Port → Tw0Port) : (s.onTw0 f).free = s.free := rfl
@[simp] theorem State.onTw0_rdata (f : Tw0Port → Tw0Port) : (s.onTw0 f).rdata = s.rdata := rfl
@[simp] theorem State.onTw0_rcode (f : Tw0Port → Tw0Port) : (s.onTw0 f).rcode = s.rcode := rfl
@[simp] theorem State.onTw0_sys (f : Tw0Port → Tw0Port) : (s.onTw0 f).sys = s.sys := rfl
@[simp] theorem State.onTw0_spi (f : Tw0Port → Tw0Port) : (s.onTw0 f).ports.spi = s.ports.spi := rfl
@[simp] theorem State.onTw0_tw0 (f : Tw0Port → Tw0Port) : (s.onTw0 f).ports.tw0 = f s.ports.tw0 := rfl
@[simp] theorem State.onTw0_tw1 (f : Tw0Port → Tw0Port) : (s.onTw0 f).ports.tw1 = s.ports.tw1 := rfl
@[simp] theorem State.onTw0_udp (f : Tw0Port → Tw0Port) : (s.onTw0 f).ports.udp = s.ports.udp := rfl
@[simp] theorem State.onTw0_order (f : Tw0Port → Tw0Port) : (s.onTw0 f).ports.order = s.ports.order := rfl
@[simp] theorem State.onTw0_comb (f : Tw0Port → Tw0Port) : (s.onTw0 f).comb = s.comb := rfl
@[simp] theorem State.onTw0_an (f : Tw0Port → Tw0Port) : (s.onTw0 f).an = s.an := rfl
@[simp] theorem State.onTw0_clk (f : Tw0Port → Tw0Port) : (s.onTw0 f).clk = s.clk := rfl
@[simp] theorem State.onTw0_grps (f : Tw0Port → Tw0Port) : (s.onTw0 f).grps = s.grps := rfl
@[simp] theorem State.onTw0_tdms (f : Tw0Port → Tw0Port) : (s.onTw0 f).tdms = s.tdms := rfl
@[simp] theorem State.onTw0_net (f : Tw0Port → Tw0Port) : (s.onTw0 f).net = s.net := rfl
@[simp] theorem State.onTw0_pdm (f : Tw0Port → Tw0Port) : (s.onTw0 f).pdm = s.pdm := rfl
@[simp] theorem State.onTw0_sct (f : Tw0Port → Tw0Port) : (s.onTw0 f).sct = s.sct := rfl
@[simp] theorem State.onTw0_cores (f : Tw0Port → Tw0Port) : (s.onTw0 f).cores = s.cores := rfl
@[simp] theorem State.onTw0_dsp (f : Tw0Port → Tw0Port) : (s.onTw0 f).dsp = s.dsp := rfl
@[simp] theorem State.onTw0_bad (f : Tw0Port → Tw0Port) : (s.onTw0 f).bad = s.bad := rfl
@[simp] theorem State.onTw0_wag (f : Tw0Port → Tw0Port) : (s.onTw0 f).wag = s.wag := rfl
@[simp] theorem State.onTw0_clip (f : Tw0Port → Tw0Port) : (s.onTw0 f).clip = s.clip := rfl
@[simp] theorem State.onTw0_madc (f : Tw0Port → Tw0Port) : (s.onTw0 f).madc = s.madc := rfl
@[simp] theorem State.onTw0_lsv (f : Tw0Port → Tw0Port) : (s.onTw0 f).lsv = s.lsv := rfl
@[simp] theorem State.onTw0_flash (f : Tw0Port → Tw0Port) : (s.onTw0 f).flash = s.flash := rfl
@[simp] theorem State.onTw0_img (f : Tw0Port → Tw0Port) : (s.onTw0 f).img = s.img := rfl
@[simp] theorem State.onTw0_bbxQueue (f : Tw0Port → Tw0Port) : (s.onTw0 f).bbxQueue = s.bbxQueue := rfl
@[simp] theorem State.onTw0_otp (f : Tw0Port → Tw0Port) : (s.onTw0 f).otp = s.otp := rfl
@[simp] theorem State.onTw0_mram (f : Tw0Port → Tw0Port) : (s.onTw0 f).mram = s.mram := rfl
@[simp] theorem State.onTw0_kpr (f : Tw0Port → Tw0Port) : (s.onTw0 f).kpr = s.kpr := rfl
@[simp] theorem State.onTw0_swarm (f : Tw0Port → Tw0Port) : (s.onTw0 f).swarm = s.swarm := rfl

/-! `State.onTw1` changes `ports` only. -/
@[simp] theorem State.onTw1_pending (f : Tw1Port → Tw1Port) : (s.onTw1 f).pending = s.pending := rfl
@[simp] theorem State.onTw1_regs (f : Tw1Port → Tw1Port) : (s.onTw1 f).regs = s.regs := rfl
@[simp] theorem State.onTw1_snaps (f : Tw1Port → Tw1Port) : (s.onTw1 f).snaps = s.snaps := rfl
@[simp] theorem State.onTw1_shadows (f : Tw1Port → Tw1Port) : (s.onTw1 f).shadows = s.shadows := rfl
@[simp] theorem State.onTw1_holds (f : Tw1Port → Tw1Port) : (s.onTw1 f).holds = s.holds := rfl
@[simp] theorem State.onTw1_mem (f : Tw1Port → Tw1Port) : (s.onTw1 f).mem = s.mem := rfl
@[simp] theorem State.onTw1_free (f : Tw1Port → Tw1Port) : (s.onTw1 f).free = s.free := rfl
@[simp] theorem State.onTw1_rdata (f : Tw1Port → Tw1Port) : (s.onTw1 f).rdata = s.rdata := rfl
@[simp] theorem State.onTw1_rcode (f : Tw1Port → Tw1Port) : (s.onTw1 f).rcode = s.rcode := rfl
@[simp] theorem State.onTw1_sys (f : Tw1Port → Tw1Port) : (s.onTw1 f).sys = s.sys := rfl
@[simp] theorem State.onTw1_spi (f : Tw1Port → Tw1Port) : (s.onTw1 f).ports.spi = s.ports.spi := rfl
@[simp] theorem State.onTw1_tw0 (f : Tw1Port → Tw1Port) : (s.onTw1 f).ports.tw0 = s.ports.tw0 := rfl
@[simp] theorem State.onTw1_tw1 (f : Tw1Port → Tw1Port) : (s.onTw1 f).ports.tw1 = f s.ports.tw1 := rfl
@[simp] theorem State.onTw1_udp (f : Tw1Port → Tw1Port) : (s.onTw1 f).ports.udp = s.ports.udp := rfl
@[simp] theorem State.onTw1_order (f : Tw1Port → Tw1Port) : (s.onTw1 f).ports.order = s.ports.order := rfl
@[simp] theorem State.onTw1_comb (f : Tw1Port → Tw1Port) : (s.onTw1 f).comb = s.comb := rfl
@[simp] theorem State.onTw1_an (f : Tw1Port → Tw1Port) : (s.onTw1 f).an = s.an := rfl
@[simp] theorem State.onTw1_clk (f : Tw1Port → Tw1Port) : (s.onTw1 f).clk = s.clk := rfl
@[simp] theorem State.onTw1_grps (f : Tw1Port → Tw1Port) : (s.onTw1 f).grps = s.grps := rfl
@[simp] theorem State.onTw1_tdms (f : Tw1Port → Tw1Port) : (s.onTw1 f).tdms = s.tdms := rfl
@[simp] theorem State.onTw1_net (f : Tw1Port → Tw1Port) : (s.onTw1 f).net = s.net := rfl
@[simp] theorem State.onTw1_pdm (f : Tw1Port → Tw1Port) : (s.onTw1 f).pdm = s.pdm := rfl
@[simp] theorem State.onTw1_sct (f : Tw1Port → Tw1Port) : (s.onTw1 f).sct = s.sct := rfl
@[simp] theorem State.onTw1_cores (f : Tw1Port → Tw1Port) : (s.onTw1 f).cores = s.cores := rfl
@[simp] theorem State.onTw1_dsp (f : Tw1Port → Tw1Port) : (s.onTw1 f).dsp = s.dsp := rfl
@[simp] theorem State.onTw1_bad (f : Tw1Port → Tw1Port) : (s.onTw1 f).bad = s.bad := rfl
@[simp] theorem State.onTw1_wag (f : Tw1Port → Tw1Port) : (s.onTw1 f).wag = s.wag := rfl
@[simp] theorem State.onTw1_clip (f : Tw1Port → Tw1Port) : (s.onTw1 f).clip = s.clip := rfl
@[simp] theorem State.onTw1_madc (f : Tw1Port → Tw1Port) : (s.onTw1 f).madc = s.madc := rfl
@[simp] theorem State.onTw1_lsv (f : Tw1Port → Tw1Port) : (s.onTw1 f).lsv = s.lsv := rfl
@[simp] theorem State.onTw1_flash (f : Tw1Port → Tw1Port) : (s.onTw1 f).flash = s.flash := rfl
@[simp] theorem State.onTw1_img (f : Tw1Port → Tw1Port) : (s.onTw1 f).img = s.img := rfl
@[simp] theorem State.onTw1_bbxQueue (f : Tw1Port → Tw1Port) : (s.onTw1 f).bbxQueue = s.bbxQueue := rfl
@[simp] theorem State.onTw1_otp (f : Tw1Port → Tw1Port) : (s.onTw1 f).otp = s.otp := rfl
@[simp] theorem State.onTw1_mram (f : Tw1Port → Tw1Port) : (s.onTw1 f).mram = s.mram := rfl
@[simp] theorem State.onTw1_kpr (f : Tw1Port → Tw1Port) : (s.onTw1 f).kpr = s.kpr := rfl
@[simp] theorem State.onTw1_swarm (f : Tw1Port → Tw1Port) : (s.onTw1 f).swarm = s.swarm := rfl

/-! `State.onUdp` changes `ports` only. -/
@[simp] theorem State.onUdp_pending (f : UdpPort → UdpPort) : (s.onUdp f).pending = s.pending := rfl
@[simp] theorem State.onUdp_regs (f : UdpPort → UdpPort) : (s.onUdp f).regs = s.regs := rfl
@[simp] theorem State.onUdp_snaps (f : UdpPort → UdpPort) : (s.onUdp f).snaps = s.snaps := rfl
@[simp] theorem State.onUdp_shadows (f : UdpPort → UdpPort) : (s.onUdp f).shadows = s.shadows := rfl
@[simp] theorem State.onUdp_holds (f : UdpPort → UdpPort) : (s.onUdp f).holds = s.holds := rfl
@[simp] theorem State.onUdp_mem (f : UdpPort → UdpPort) : (s.onUdp f).mem = s.mem := rfl
@[simp] theorem State.onUdp_free (f : UdpPort → UdpPort) : (s.onUdp f).free = s.free := rfl
@[simp] theorem State.onUdp_rdata (f : UdpPort → UdpPort) : (s.onUdp f).rdata = s.rdata := rfl
@[simp] theorem State.onUdp_rcode (f : UdpPort → UdpPort) : (s.onUdp f).rcode = s.rcode := rfl
@[simp] theorem State.onUdp_sys (f : UdpPort → UdpPort) : (s.onUdp f).sys = s.sys := rfl
@[simp] theorem State.onUdp_spi (f : UdpPort → UdpPort) : (s.onUdp f).ports.spi = s.ports.spi := rfl
@[simp] theorem State.onUdp_tw0 (f : UdpPort → UdpPort) : (s.onUdp f).ports.tw0 = s.ports.tw0 := rfl
@[simp] theorem State.onUdp_tw1 (f : UdpPort → UdpPort) : (s.onUdp f).ports.tw1 = s.ports.tw1 := rfl
@[simp] theorem State.onUdp_udp (f : UdpPort → UdpPort) : (s.onUdp f).ports.udp = f s.ports.udp := rfl
@[simp] theorem State.onUdp_order (f : UdpPort → UdpPort) : (s.onUdp f).ports.order = s.ports.order := rfl
@[simp] theorem State.onUdp_comb (f : UdpPort → UdpPort) : (s.onUdp f).comb = s.comb := rfl
@[simp] theorem State.onUdp_an (f : UdpPort → UdpPort) : (s.onUdp f).an = s.an := rfl
@[simp] theorem State.onUdp_clk (f : UdpPort → UdpPort) : (s.onUdp f).clk = s.clk := rfl
@[simp] theorem State.onUdp_grps (f : UdpPort → UdpPort) : (s.onUdp f).grps = s.grps := rfl
@[simp] theorem State.onUdp_tdms (f : UdpPort → UdpPort) : (s.onUdp f).tdms = s.tdms := rfl
@[simp] theorem State.onUdp_net (f : UdpPort → UdpPort) : (s.onUdp f).net = s.net := rfl
@[simp] theorem State.onUdp_pdm (f : UdpPort → UdpPort) : (s.onUdp f).pdm = s.pdm := rfl
@[simp] theorem State.onUdp_sct (f : UdpPort → UdpPort) : (s.onUdp f).sct = s.sct := rfl
@[simp] theorem State.onUdp_cores (f : UdpPort → UdpPort) : (s.onUdp f).cores = s.cores := rfl
@[simp] theorem State.onUdp_dsp (f : UdpPort → UdpPort) : (s.onUdp f).dsp = s.dsp := rfl
@[simp] theorem State.onUdp_bad (f : UdpPort → UdpPort) : (s.onUdp f).bad = s.bad := rfl
@[simp] theorem State.onUdp_wag (f : UdpPort → UdpPort) : (s.onUdp f).wag = s.wag := rfl
@[simp] theorem State.onUdp_clip (f : UdpPort → UdpPort) : (s.onUdp f).clip = s.clip := rfl
@[simp] theorem State.onUdp_madc (f : UdpPort → UdpPort) : (s.onUdp f).madc = s.madc := rfl
@[simp] theorem State.onUdp_lsv (f : UdpPort → UdpPort) : (s.onUdp f).lsv = s.lsv := rfl
@[simp] theorem State.onUdp_flash (f : UdpPort → UdpPort) : (s.onUdp f).flash = s.flash := rfl
@[simp] theorem State.onUdp_img (f : UdpPort → UdpPort) : (s.onUdp f).img = s.img := rfl
@[simp] theorem State.onUdp_bbxQueue (f : UdpPort → UdpPort) : (s.onUdp f).bbxQueue = s.bbxQueue := rfl
@[simp] theorem State.onUdp_otp (f : UdpPort → UdpPort) : (s.onUdp f).otp = s.otp := rfl
@[simp] theorem State.onUdp_mram (f : UdpPort → UdpPort) : (s.onUdp f).mram = s.mram := rfl
@[simp] theorem State.onUdp_kpr (f : UdpPort → UdpPort) : (s.onUdp f).kpr = s.kpr := rfl
@[simp] theorem State.onUdp_swarm (f : UdpPort → UdpPort) : (s.onUdp f).swarm = s.swarm := rfl

/-! `State.onOrder` changes `ports` only. -/
@[simp] theorem State.onOrder_pending (f : List Arrival → List Arrival) : (s.onOrder f).pending = s.pending := rfl
@[simp] theorem State.onOrder_regs (f : List Arrival → List Arrival) : (s.onOrder f).regs = s.regs := rfl
@[simp] theorem State.onOrder_snaps (f : List Arrival → List Arrival) : (s.onOrder f).snaps = s.snaps := rfl
@[simp] theorem State.onOrder_shadows (f : List Arrival → List Arrival) : (s.onOrder f).shadows = s.shadows := rfl
@[simp] theorem State.onOrder_holds (f : List Arrival → List Arrival) : (s.onOrder f).holds = s.holds := rfl
@[simp] theorem State.onOrder_mem (f : List Arrival → List Arrival) : (s.onOrder f).mem = s.mem := rfl
@[simp] theorem State.onOrder_free (f : List Arrival → List Arrival) : (s.onOrder f).free = s.free := rfl
@[simp] theorem State.onOrder_rdata (f : List Arrival → List Arrival) : (s.onOrder f).rdata = s.rdata := rfl
@[simp] theorem State.onOrder_rcode (f : List Arrival → List Arrival) : (s.onOrder f).rcode = s.rcode := rfl
@[simp] theorem State.onOrder_sys (f : List Arrival → List Arrival) : (s.onOrder f).sys = s.sys := rfl
@[simp] theorem State.onOrder_spi (f : List Arrival → List Arrival) : (s.onOrder f).ports.spi = s.ports.spi := rfl
@[simp] theorem State.onOrder_tw0 (f : List Arrival → List Arrival) : (s.onOrder f).ports.tw0 = s.ports.tw0 := rfl
@[simp] theorem State.onOrder_tw1 (f : List Arrival → List Arrival) : (s.onOrder f).ports.tw1 = s.ports.tw1 := rfl
@[simp] theorem State.onOrder_udp (f : List Arrival → List Arrival) : (s.onOrder f).ports.udp = s.ports.udp := rfl
@[simp] theorem State.onOrder_order (f : List Arrival → List Arrival) : (s.onOrder f).ports.order = f s.ports.order := rfl
@[simp] theorem State.onOrder_comb (f : List Arrival → List Arrival) : (s.onOrder f).comb = s.comb := rfl
@[simp] theorem State.onOrder_an (f : List Arrival → List Arrival) : (s.onOrder f).an = s.an := rfl
@[simp] theorem State.onOrder_clk (f : List Arrival → List Arrival) : (s.onOrder f).clk = s.clk := rfl
@[simp] theorem State.onOrder_grps (f : List Arrival → List Arrival) : (s.onOrder f).grps = s.grps := rfl
@[simp] theorem State.onOrder_tdms (f : List Arrival → List Arrival) : (s.onOrder f).tdms = s.tdms := rfl
@[simp] theorem State.onOrder_net (f : List Arrival → List Arrival) : (s.onOrder f).net = s.net := rfl
@[simp] theorem State.onOrder_pdm (f : List Arrival → List Arrival) : (s.onOrder f).pdm = s.pdm := rfl
@[simp] theorem State.onOrder_sct (f : List Arrival → List Arrival) : (s.onOrder f).sct = s.sct := rfl
@[simp] theorem State.onOrder_cores (f : List Arrival → List Arrival) : (s.onOrder f).cores = s.cores := rfl
@[simp] theorem State.onOrder_dsp (f : List Arrival → List Arrival) : (s.onOrder f).dsp = s.dsp := rfl
@[simp] theorem State.onOrder_bad (f : List Arrival → List Arrival) : (s.onOrder f).bad = s.bad := rfl
@[simp] theorem State.onOrder_wag (f : List Arrival → List Arrival) : (s.onOrder f).wag = s.wag := rfl
@[simp] theorem State.onOrder_clip (f : List Arrival → List Arrival) : (s.onOrder f).clip = s.clip := rfl
@[simp] theorem State.onOrder_madc (f : List Arrival → List Arrival) : (s.onOrder f).madc = s.madc := rfl
@[simp] theorem State.onOrder_lsv (f : List Arrival → List Arrival) : (s.onOrder f).lsv = s.lsv := rfl
@[simp] theorem State.onOrder_flash (f : List Arrival → List Arrival) : (s.onOrder f).flash = s.flash := rfl
@[simp] theorem State.onOrder_img (f : List Arrival → List Arrival) : (s.onOrder f).img = s.img := rfl
@[simp] theorem State.onOrder_bbxQueue (f : List Arrival → List Arrival) : (s.onOrder f).bbxQueue = s.bbxQueue := rfl
@[simp] theorem State.onOrder_otp (f : List Arrival → List Arrival) : (s.onOrder f).otp = s.otp := rfl
@[simp] theorem State.onOrder_mram (f : List Arrival → List Arrival) : (s.onOrder f).mram = s.mram := rfl
@[simp] theorem State.onOrder_kpr (f : List Arrival → List Arrival) : (s.onOrder f).kpr = s.kpr := rfl
@[simp] theorem State.onOrder_swarm (f : List Arrival → List Arrival) : (s.onOrder f).swarm = s.swarm := rfl

/-! `State.onComb` changes `comb` only. -/
@[simp] theorem State.onComb_pending (f : Comb → Comb) : (s.onComb f).pending = s.pending := rfl
@[simp] theorem State.onComb_regs (f : Comb → Comb) : (s.onComb f).regs = s.regs := rfl
@[simp] theorem State.onComb_snaps (f : Comb → Comb) : (s.onComb f).snaps = s.snaps := rfl
@[simp] theorem State.onComb_shadows (f : Comb → Comb) : (s.onComb f).shadows = s.shadows := rfl
@[simp] theorem State.onComb_holds (f : Comb → Comb) : (s.onComb f).holds = s.holds := rfl
@[simp] theorem State.onComb_mem (f : Comb → Comb) : (s.onComb f).mem = s.mem := rfl
@[simp] theorem State.onComb_free (f : Comb → Comb) : (s.onComb f).free = s.free := rfl
@[simp] theorem State.onComb_rdata (f : Comb → Comb) : (s.onComb f).rdata = s.rdata := rfl
@[simp] theorem State.onComb_rcode (f : Comb → Comb) : (s.onComb f).rcode = s.rcode := rfl
@[simp] theorem State.onComb_sys (f : Comb → Comb) : (s.onComb f).sys = s.sys := rfl
@[simp] theorem State.onComb_ports (f : Comb → Comb) : (s.onComb f).ports = s.ports := rfl
@[simp] theorem State.onComb_comb (f : Comb → Comb) : (s.onComb f).comb = f s.comb := rfl
@[simp] theorem State.onComb_an (f : Comb → Comb) : (s.onComb f).an = s.an := rfl
@[simp] theorem State.onComb_clk (f : Comb → Comb) : (s.onComb f).clk = s.clk := rfl
@[simp] theorem State.onComb_grps (f : Comb → Comb) : (s.onComb f).grps = s.grps := rfl
@[simp] theorem State.onComb_tdms (f : Comb → Comb) : (s.onComb f).tdms = s.tdms := rfl
@[simp] theorem State.onComb_net (f : Comb → Comb) : (s.onComb f).net = s.net := rfl
@[simp] theorem State.onComb_pdm (f : Comb → Comb) : (s.onComb f).pdm = s.pdm := rfl
@[simp] theorem State.onComb_sct (f : Comb → Comb) : (s.onComb f).sct = s.sct := rfl
@[simp] theorem State.onComb_cores (f : Comb → Comb) : (s.onComb f).cores = s.cores := rfl
@[simp] theorem State.onComb_dsp (f : Comb → Comb) : (s.onComb f).dsp = s.dsp := rfl
@[simp] theorem State.onComb_bad (f : Comb → Comb) : (s.onComb f).bad = s.bad := rfl
@[simp] theorem State.onComb_wag (f : Comb → Comb) : (s.onComb f).wag = s.wag := rfl
@[simp] theorem State.onComb_clip (f : Comb → Comb) : (s.onComb f).clip = s.clip := rfl
@[simp] theorem State.onComb_madc (f : Comb → Comb) : (s.onComb f).madc = s.madc := rfl
@[simp] theorem State.onComb_lsv (f : Comb → Comb) : (s.onComb f).lsv = s.lsv := rfl
@[simp] theorem State.onComb_flash (f : Comb → Comb) : (s.onComb f).flash = s.flash := rfl
@[simp] theorem State.onComb_img (f : Comb → Comb) : (s.onComb f).img = s.img := rfl
@[simp] theorem State.onComb_bbxQueue (f : Comb → Comb) : (s.onComb f).bbxQueue = s.bbxQueue := rfl
@[simp] theorem State.onComb_otp (f : Comb → Comb) : (s.onComb f).otp = s.otp := rfl
@[simp] theorem State.onComb_mram (f : Comb → Comb) : (s.onComb f).mram = s.mram := rfl
@[simp] theorem State.onComb_kpr (f : Comb → Comb) : (s.onComb f).kpr = s.kpr := rfl
@[simp] theorem State.onComb_swarm (f : Comb → Comb) : (s.onComb f).swarm = s.swarm := rfl

/-! `State.onAn` changes `an` only. -/
@[simp] theorem State.onAn_pending (f : Analog → Analog) : (s.onAn f).pending = s.pending := rfl
@[simp] theorem State.onAn_regs (f : Analog → Analog) : (s.onAn f).regs = s.regs := rfl
@[simp] theorem State.onAn_snaps (f : Analog → Analog) : (s.onAn f).snaps = s.snaps := rfl
@[simp] theorem State.onAn_shadows (f : Analog → Analog) : (s.onAn f).shadows = s.shadows := rfl
@[simp] theorem State.onAn_holds (f : Analog → Analog) : (s.onAn f).holds = s.holds := rfl
@[simp] theorem State.onAn_mem (f : Analog → Analog) : (s.onAn f).mem = s.mem := rfl
@[simp] theorem State.onAn_free (f : Analog → Analog) : (s.onAn f).free = s.free := rfl
@[simp] theorem State.onAn_rdata (f : Analog → Analog) : (s.onAn f).rdata = s.rdata := rfl
@[simp] theorem State.onAn_rcode (f : Analog → Analog) : (s.onAn f).rcode = s.rcode := rfl
@[simp] theorem State.onAn_sys (f : Analog → Analog) : (s.onAn f).sys = s.sys := rfl
@[simp] theorem State.onAn_ports (f : Analog → Analog) : (s.onAn f).ports = s.ports := rfl
@[simp] theorem State.onAn_comb (f : Analog → Analog) : (s.onAn f).comb = s.comb := rfl
@[simp] theorem State.onAn_an (f : Analog → Analog) : (s.onAn f).an = f s.an := rfl
@[simp] theorem State.onAn_clk (f : Analog → Analog) : (s.onAn f).clk = s.clk := rfl
@[simp] theorem State.onAn_grps (f : Analog → Analog) : (s.onAn f).grps = s.grps := rfl
@[simp] theorem State.onAn_tdms (f : Analog → Analog) : (s.onAn f).tdms = s.tdms := rfl
@[simp] theorem State.onAn_net (f : Analog → Analog) : (s.onAn f).net = s.net := rfl
@[simp] theorem State.onAn_pdm (f : Analog → Analog) : (s.onAn f).pdm = s.pdm := rfl
@[simp] theorem State.onAn_sct (f : Analog → Analog) : (s.onAn f).sct = s.sct := rfl
@[simp] theorem State.onAn_cores (f : Analog → Analog) : (s.onAn f).cores = s.cores := rfl
@[simp] theorem State.onAn_dsp (f : Analog → Analog) : (s.onAn f).dsp = s.dsp := rfl
@[simp] theorem State.onAn_bad (f : Analog → Analog) : (s.onAn f).bad = s.bad := rfl
@[simp] theorem State.onAn_wag (f : Analog → Analog) : (s.onAn f).wag = s.wag := rfl
@[simp] theorem State.onAn_clip (f : Analog → Analog) : (s.onAn f).clip = s.clip := rfl
@[simp] theorem State.onAn_madc (f : Analog → Analog) : (s.onAn f).madc = s.madc := rfl
@[simp] theorem State.onAn_lsv (f : Analog → Analog) : (s.onAn f).lsv = s.lsv := rfl
@[simp] theorem State.onAn_flash (f : Analog → Analog) : (s.onAn f).flash = s.flash := rfl
@[simp] theorem State.onAn_img (f : Analog → Analog) : (s.onAn f).img = s.img := rfl
@[simp] theorem State.onAn_bbxQueue (f : Analog → Analog) : (s.onAn f).bbxQueue = s.bbxQueue := rfl
@[simp] theorem State.onAn_otp (f : Analog → Analog) : (s.onAn f).otp = s.otp := rfl
@[simp] theorem State.onAn_mram (f : Analog → Analog) : (s.onAn f).mram = s.mram := rfl
@[simp] theorem State.onAn_kpr (f : Analog → Analog) : (s.onAn f).kpr = s.kpr := rfl
@[simp] theorem State.onAn_swarm (f : Analog → Analog) : (s.onAn f).swarm = s.swarm := rfl

/-! `State.onClk` changes `clk` only. -/
@[simp] theorem State.onClk_pending (f : Clk → Clk) : (s.onClk f).pending = s.pending := rfl
@[simp] theorem State.onClk_regs (f : Clk → Clk) : (s.onClk f).regs = s.regs := rfl
@[simp] theorem State.onClk_snaps (f : Clk → Clk) : (s.onClk f).snaps = s.snaps := rfl
@[simp] theorem State.onClk_shadows (f : Clk → Clk) : (s.onClk f).shadows = s.shadows := rfl
@[simp] theorem State.onClk_holds (f : Clk → Clk) : (s.onClk f).holds = s.holds := rfl
@[simp] theorem State.onClk_mem (f : Clk → Clk) : (s.onClk f).mem = s.mem := rfl
@[simp] theorem State.onClk_free (f : Clk → Clk) : (s.onClk f).free = s.free := rfl
@[simp] theorem State.onClk_rdata (f : Clk → Clk) : (s.onClk f).rdata = s.rdata := rfl
@[simp] theorem State.onClk_rcode (f : Clk → Clk) : (s.onClk f).rcode = s.rcode := rfl
@[simp] theorem State.onClk_sys (f : Clk → Clk) : (s.onClk f).sys = s.sys := rfl
@[simp] theorem State.onClk_ports (f : Clk → Clk) : (s.onClk f).ports = s.ports := rfl
@[simp] theorem State.onClk_comb (f : Clk → Clk) : (s.onClk f).comb = s.comb := rfl
@[simp] theorem State.onClk_an (f : Clk → Clk) : (s.onClk f).an = s.an := rfl
@[simp] theorem State.onClk_clk (f : Clk → Clk) : (s.onClk f).clk = f s.clk := rfl
@[simp] theorem State.onClk_grps (f : Clk → Clk) : (s.onClk f).grps = s.grps := rfl
@[simp] theorem State.onClk_tdms (f : Clk → Clk) : (s.onClk f).tdms = s.tdms := rfl
@[simp] theorem State.onClk_net (f : Clk → Clk) : (s.onClk f).net = s.net := rfl
@[simp] theorem State.onClk_pdm (f : Clk → Clk) : (s.onClk f).pdm = s.pdm := rfl
@[simp] theorem State.onClk_sct (f : Clk → Clk) : (s.onClk f).sct = s.sct := rfl
@[simp] theorem State.onClk_cores (f : Clk → Clk) : (s.onClk f).cores = s.cores := rfl
@[simp] theorem State.onClk_dsp (f : Clk → Clk) : (s.onClk f).dsp = s.dsp := rfl
@[simp] theorem State.onClk_bad (f : Clk → Clk) : (s.onClk f).bad = s.bad := rfl
@[simp] theorem State.onClk_wag (f : Clk → Clk) : (s.onClk f).wag = s.wag := rfl
@[simp] theorem State.onClk_clip (f : Clk → Clk) : (s.onClk f).clip = s.clip := rfl
@[simp] theorem State.onClk_madc (f : Clk → Clk) : (s.onClk f).madc = s.madc := rfl
@[simp] theorem State.onClk_lsv (f : Clk → Clk) : (s.onClk f).lsv = s.lsv := rfl
@[simp] theorem State.onClk_flash (f : Clk → Clk) : (s.onClk f).flash = s.flash := rfl
@[simp] theorem State.onClk_img (f : Clk → Clk) : (s.onClk f).img = s.img := rfl
@[simp] theorem State.onClk_bbxQueue (f : Clk → Clk) : (s.onClk f).bbxQueue = s.bbxQueue := rfl
@[simp] theorem State.onClk_otp (f : Clk → Clk) : (s.onClk f).otp = s.otp := rfl
@[simp] theorem State.onClk_mram (f : Clk → Clk) : (s.onClk f).mram = s.mram := rfl
@[simp] theorem State.onClk_kpr (f : Clk → Clk) : (s.onClk f).kpr = s.kpr := rfl
@[simp] theorem State.onClk_swarm (f : Clk → Clk) : (s.onClk f).swarm = s.swarm := rfl

/-! `State.onNet` changes `net` only. -/
@[simp] theorem State.onNet_pending (f : Net → Net) : (s.onNet f).pending = s.pending := rfl
@[simp] theorem State.onNet_regs (f : Net → Net) : (s.onNet f).regs = s.regs := rfl
@[simp] theorem State.onNet_snaps (f : Net → Net) : (s.onNet f).snaps = s.snaps := rfl
@[simp] theorem State.onNet_shadows (f : Net → Net) : (s.onNet f).shadows = s.shadows := rfl
@[simp] theorem State.onNet_holds (f : Net → Net) : (s.onNet f).holds = s.holds := rfl
@[simp] theorem State.onNet_mem (f : Net → Net) : (s.onNet f).mem = s.mem := rfl
@[simp] theorem State.onNet_free (f : Net → Net) : (s.onNet f).free = s.free := rfl
@[simp] theorem State.onNet_rdata (f : Net → Net) : (s.onNet f).rdata = s.rdata := rfl
@[simp] theorem State.onNet_rcode (f : Net → Net) : (s.onNet f).rcode = s.rcode := rfl
@[simp] theorem State.onNet_sys (f : Net → Net) : (s.onNet f).sys = s.sys := rfl
@[simp] theorem State.onNet_ports (f : Net → Net) : (s.onNet f).ports = s.ports := rfl
@[simp] theorem State.onNet_comb (f : Net → Net) : (s.onNet f).comb = s.comb := rfl
@[simp] theorem State.onNet_an (f : Net → Net) : (s.onNet f).an = s.an := rfl
@[simp] theorem State.onNet_clk (f : Net → Net) : (s.onNet f).clk = s.clk := rfl
@[simp] theorem State.onNet_grps (f : Net → Net) : (s.onNet f).grps = s.grps := rfl
@[simp] theorem State.onNet_tdms (f : Net → Net) : (s.onNet f).tdms = s.tdms := rfl
@[simp] theorem State.onNet_net (f : Net → Net) : (s.onNet f).net = f s.net := rfl
@[simp] theorem State.onNet_pdm (f : Net → Net) : (s.onNet f).pdm = s.pdm := rfl
@[simp] theorem State.onNet_sct (f : Net → Net) : (s.onNet f).sct = s.sct := rfl
@[simp] theorem State.onNet_cores (f : Net → Net) : (s.onNet f).cores = s.cores := rfl
@[simp] theorem State.onNet_dsp (f : Net → Net) : (s.onNet f).dsp = s.dsp := rfl
@[simp] theorem State.onNet_bad (f : Net → Net) : (s.onNet f).bad = s.bad := rfl
@[simp] theorem State.onNet_wag (f : Net → Net) : (s.onNet f).wag = s.wag := rfl
@[simp] theorem State.onNet_clip (f : Net → Net) : (s.onNet f).clip = s.clip := rfl
@[simp] theorem State.onNet_madc (f : Net → Net) : (s.onNet f).madc = s.madc := rfl
@[simp] theorem State.onNet_lsv (f : Net → Net) : (s.onNet f).lsv = s.lsv := rfl
@[simp] theorem State.onNet_flash (f : Net → Net) : (s.onNet f).flash = s.flash := rfl
@[simp] theorem State.onNet_img (f : Net → Net) : (s.onNet f).img = s.img := rfl
@[simp] theorem State.onNet_bbxQueue (f : Net → Net) : (s.onNet f).bbxQueue = s.bbxQueue := rfl
@[simp] theorem State.onNet_otp (f : Net → Net) : (s.onNet f).otp = s.otp := rfl
@[simp] theorem State.onNet_mram (f : Net → Net) : (s.onNet f).mram = s.mram := rfl
@[simp] theorem State.onNet_kpr (f : Net → Net) : (s.onNet f).kpr = s.kpr := rfl
@[simp] theorem State.onNet_swarm (f : Net → Net) : (s.onNet f).swarm = s.swarm := rfl

/-! `State.onPdm` changes `pdm` only. -/
@[simp] theorem State.onPdm_pending (f : Pdm → Pdm) : (s.onPdm f).pending = s.pending := rfl
@[simp] theorem State.onPdm_regs (f : Pdm → Pdm) : (s.onPdm f).regs = s.regs := rfl
@[simp] theorem State.onPdm_snaps (f : Pdm → Pdm) : (s.onPdm f).snaps = s.snaps := rfl
@[simp] theorem State.onPdm_shadows (f : Pdm → Pdm) : (s.onPdm f).shadows = s.shadows := rfl
@[simp] theorem State.onPdm_holds (f : Pdm → Pdm) : (s.onPdm f).holds = s.holds := rfl
@[simp] theorem State.onPdm_mem (f : Pdm → Pdm) : (s.onPdm f).mem = s.mem := rfl
@[simp] theorem State.onPdm_free (f : Pdm → Pdm) : (s.onPdm f).free = s.free := rfl
@[simp] theorem State.onPdm_rdata (f : Pdm → Pdm) : (s.onPdm f).rdata = s.rdata := rfl
@[simp] theorem State.onPdm_rcode (f : Pdm → Pdm) : (s.onPdm f).rcode = s.rcode := rfl
@[simp] theorem State.onPdm_sys (f : Pdm → Pdm) : (s.onPdm f).sys = s.sys := rfl
@[simp] theorem State.onPdm_ports (f : Pdm → Pdm) : (s.onPdm f).ports = s.ports := rfl
@[simp] theorem State.onPdm_comb (f : Pdm → Pdm) : (s.onPdm f).comb = s.comb := rfl
@[simp] theorem State.onPdm_an (f : Pdm → Pdm) : (s.onPdm f).an = s.an := rfl
@[simp] theorem State.onPdm_clk (f : Pdm → Pdm) : (s.onPdm f).clk = s.clk := rfl
@[simp] theorem State.onPdm_grps (f : Pdm → Pdm) : (s.onPdm f).grps = s.grps := rfl
@[simp] theorem State.onPdm_tdms (f : Pdm → Pdm) : (s.onPdm f).tdms = s.tdms := rfl
@[simp] theorem State.onPdm_net (f : Pdm → Pdm) : (s.onPdm f).net = s.net := rfl
@[simp] theorem State.onPdm_pdm (f : Pdm → Pdm) : (s.onPdm f).pdm = f s.pdm := rfl
@[simp] theorem State.onPdm_sct (f : Pdm → Pdm) : (s.onPdm f).sct = s.sct := rfl
@[simp] theorem State.onPdm_cores (f : Pdm → Pdm) : (s.onPdm f).cores = s.cores := rfl
@[simp] theorem State.onPdm_dsp (f : Pdm → Pdm) : (s.onPdm f).dsp = s.dsp := rfl
@[simp] theorem State.onPdm_bad (f : Pdm → Pdm) : (s.onPdm f).bad = s.bad := rfl
@[simp] theorem State.onPdm_wag (f : Pdm → Pdm) : (s.onPdm f).wag = s.wag := rfl
@[simp] theorem State.onPdm_clip (f : Pdm → Pdm) : (s.onPdm f).clip = s.clip := rfl
@[simp] theorem State.onPdm_madc (f : Pdm → Pdm) : (s.onPdm f).madc = s.madc := rfl
@[simp] theorem State.onPdm_lsv (f : Pdm → Pdm) : (s.onPdm f).lsv = s.lsv := rfl
@[simp] theorem State.onPdm_flash (f : Pdm → Pdm) : (s.onPdm f).flash = s.flash := rfl
@[simp] theorem State.onPdm_img (f : Pdm → Pdm) : (s.onPdm f).img = s.img := rfl
@[simp] theorem State.onPdm_bbxQueue (f : Pdm → Pdm) : (s.onPdm f).bbxQueue = s.bbxQueue := rfl
@[simp] theorem State.onPdm_otp (f : Pdm → Pdm) : (s.onPdm f).otp = s.otp := rfl
@[simp] theorem State.onPdm_mram (f : Pdm → Pdm) : (s.onPdm f).mram = s.mram := rfl
@[simp] theorem State.onPdm_kpr (f : Pdm → Pdm) : (s.onPdm f).kpr = s.kpr := rfl
@[simp] theorem State.onPdm_swarm (f : Pdm → Pdm) : (s.onPdm f).swarm = s.swarm := rfl

/-! `State.onSct` changes `sct` only. -/
@[simp] theorem State.onSct_pending (f : Sct → Sct) : (s.onSct f).pending = s.pending := rfl
@[simp] theorem State.onSct_regs (f : Sct → Sct) : (s.onSct f).regs = s.regs := rfl
@[simp] theorem State.onSct_snaps (f : Sct → Sct) : (s.onSct f).snaps = s.snaps := rfl
@[simp] theorem State.onSct_shadows (f : Sct → Sct) : (s.onSct f).shadows = s.shadows := rfl
@[simp] theorem State.onSct_holds (f : Sct → Sct) : (s.onSct f).holds = s.holds := rfl
@[simp] theorem State.onSct_mem (f : Sct → Sct) : (s.onSct f).mem = s.mem := rfl
@[simp] theorem State.onSct_free (f : Sct → Sct) : (s.onSct f).free = s.free := rfl
@[simp] theorem State.onSct_rdata (f : Sct → Sct) : (s.onSct f).rdata = s.rdata := rfl
@[simp] theorem State.onSct_rcode (f : Sct → Sct) : (s.onSct f).rcode = s.rcode := rfl
@[simp] theorem State.onSct_sys (f : Sct → Sct) : (s.onSct f).sys = s.sys := rfl
@[simp] theorem State.onSct_ports (f : Sct → Sct) : (s.onSct f).ports = s.ports := rfl
@[simp] theorem State.onSct_comb (f : Sct → Sct) : (s.onSct f).comb = s.comb := rfl
@[simp] theorem State.onSct_an (f : Sct → Sct) : (s.onSct f).an = s.an := rfl
@[simp] theorem State.onSct_clk (f : Sct → Sct) : (s.onSct f).clk = s.clk := rfl
@[simp] theorem State.onSct_grps (f : Sct → Sct) : (s.onSct f).grps = s.grps := rfl
@[simp] theorem State.onSct_tdms (f : Sct → Sct) : (s.onSct f).tdms = s.tdms := rfl
@[simp] theorem State.onSct_net (f : Sct → Sct) : (s.onSct f).net = s.net := rfl
@[simp] theorem State.onSct_pdm (f : Sct → Sct) : (s.onSct f).pdm = s.pdm := rfl
@[simp] theorem State.onSct_sct (f : Sct → Sct) : (s.onSct f).sct = f s.sct := rfl
@[simp] theorem State.onSct_cores (f : Sct → Sct) : (s.onSct f).cores = s.cores := rfl
@[simp] theorem State.onSct_dsp (f : Sct → Sct) : (s.onSct f).dsp = s.dsp := rfl
@[simp] theorem State.onSct_bad (f : Sct → Sct) : (s.onSct f).bad = s.bad := rfl
@[simp] theorem State.onSct_wag (f : Sct → Sct) : (s.onSct f).wag = s.wag := rfl
@[simp] theorem State.onSct_clip (f : Sct → Sct) : (s.onSct f).clip = s.clip := rfl
@[simp] theorem State.onSct_madc (f : Sct → Sct) : (s.onSct f).madc = s.madc := rfl
@[simp] theorem State.onSct_lsv (f : Sct → Sct) : (s.onSct f).lsv = s.lsv := rfl
@[simp] theorem State.onSct_flash (f : Sct → Sct) : (s.onSct f).flash = s.flash := rfl
@[simp] theorem State.onSct_img (f : Sct → Sct) : (s.onSct f).img = s.img := rfl
@[simp] theorem State.onSct_bbxQueue (f : Sct → Sct) : (s.onSct f).bbxQueue = s.bbxQueue := rfl
@[simp] theorem State.onSct_otp (f : Sct → Sct) : (s.onSct f).otp = s.otp := rfl
@[simp] theorem State.onSct_mram (f : Sct → Sct) : (s.onSct f).mram = s.mram := rfl
@[simp] theorem State.onSct_kpr (f : Sct → Sct) : (s.onSct f).kpr = s.kpr := rfl
@[simp] theorem State.onSct_swarm (f : Sct → Sct) : (s.onSct f).swarm = s.swarm := rfl

/-! `State.onDsp` changes `dsp` only. -/
@[simp] theorem State.onDsp_pending (f : Dsp → Dsp) : (s.onDsp f).pending = s.pending := rfl
@[simp] theorem State.onDsp_regs (f : Dsp → Dsp) : (s.onDsp f).regs = s.regs := rfl
@[simp] theorem State.onDsp_snaps (f : Dsp → Dsp) : (s.onDsp f).snaps = s.snaps := rfl
@[simp] theorem State.onDsp_shadows (f : Dsp → Dsp) : (s.onDsp f).shadows = s.shadows := rfl
@[simp] theorem State.onDsp_holds (f : Dsp → Dsp) : (s.onDsp f).holds = s.holds := rfl
@[simp] theorem State.onDsp_mem (f : Dsp → Dsp) : (s.onDsp f).mem = s.mem := rfl
@[simp] theorem State.onDsp_free (f : Dsp → Dsp) : (s.onDsp f).free = s.free := rfl
@[simp] theorem State.onDsp_rdata (f : Dsp → Dsp) : (s.onDsp f).rdata = s.rdata := rfl
@[simp] theorem State.onDsp_rcode (f : Dsp → Dsp) : (s.onDsp f).rcode = s.rcode := rfl
@[simp] theorem State.onDsp_sys (f : Dsp → Dsp) : (s.onDsp f).sys = s.sys := rfl
@[simp] theorem State.onDsp_ports (f : Dsp → Dsp) : (s.onDsp f).ports = s.ports := rfl
@[simp] theorem State.onDsp_comb (f : Dsp → Dsp) : (s.onDsp f).comb = s.comb := rfl
@[simp] theorem State.onDsp_an (f : Dsp → Dsp) : (s.onDsp f).an = s.an := rfl
@[simp] theorem State.onDsp_clk (f : Dsp → Dsp) : (s.onDsp f).clk = s.clk := rfl
@[simp] theorem State.onDsp_grps (f : Dsp → Dsp) : (s.onDsp f).grps = s.grps := rfl
@[simp] theorem State.onDsp_tdms (f : Dsp → Dsp) : (s.onDsp f).tdms = s.tdms := rfl
@[simp] theorem State.onDsp_net (f : Dsp → Dsp) : (s.onDsp f).net = s.net := rfl
@[simp] theorem State.onDsp_pdm (f : Dsp → Dsp) : (s.onDsp f).pdm = s.pdm := rfl
@[simp] theorem State.onDsp_sct (f : Dsp → Dsp) : (s.onDsp f).sct = s.sct := rfl
@[simp] theorem State.onDsp_cores (f : Dsp → Dsp) : (s.onDsp f).cores = s.cores := rfl
@[simp] theorem State.onDsp_dsp (f : Dsp → Dsp) : (s.onDsp f).dsp = f s.dsp := rfl
@[simp] theorem State.onDsp_bad (f : Dsp → Dsp) : (s.onDsp f).bad = s.bad := rfl
@[simp] theorem State.onDsp_wag (f : Dsp → Dsp) : (s.onDsp f).wag = s.wag := rfl
@[simp] theorem State.onDsp_clip (f : Dsp → Dsp) : (s.onDsp f).clip = s.clip := rfl
@[simp] theorem State.onDsp_madc (f : Dsp → Dsp) : (s.onDsp f).madc = s.madc := rfl
@[simp] theorem State.onDsp_lsv (f : Dsp → Dsp) : (s.onDsp f).lsv = s.lsv := rfl
@[simp] theorem State.onDsp_flash (f : Dsp → Dsp) : (s.onDsp f).flash = s.flash := rfl
@[simp] theorem State.onDsp_img (f : Dsp → Dsp) : (s.onDsp f).img = s.img := rfl
@[simp] theorem State.onDsp_bbxQueue (f : Dsp → Dsp) : (s.onDsp f).bbxQueue = s.bbxQueue := rfl
@[simp] theorem State.onDsp_otp (f : Dsp → Dsp) : (s.onDsp f).otp = s.otp := rfl
@[simp] theorem State.onDsp_mram (f : Dsp → Dsp) : (s.onDsp f).mram = s.mram := rfl
@[simp] theorem State.onDsp_kpr (f : Dsp → Dsp) : (s.onDsp f).kpr = s.kpr := rfl
@[simp] theorem State.onDsp_swarm (f : Dsp → Dsp) : (s.onDsp f).swarm = s.swarm := rfl

/-! `State.onWag` changes `wag` only. -/
@[simp] theorem State.onWag_pending (f : Wag → Wag) : (s.onWag f).pending = s.pending := rfl
@[simp] theorem State.onWag_regs (f : Wag → Wag) : (s.onWag f).regs = s.regs := rfl
@[simp] theorem State.onWag_snaps (f : Wag → Wag) : (s.onWag f).snaps = s.snaps := rfl
@[simp] theorem State.onWag_shadows (f : Wag → Wag) : (s.onWag f).shadows = s.shadows := rfl
@[simp] theorem State.onWag_holds (f : Wag → Wag) : (s.onWag f).holds = s.holds := rfl
@[simp] theorem State.onWag_mem (f : Wag → Wag) : (s.onWag f).mem = s.mem := rfl
@[simp] theorem State.onWag_free (f : Wag → Wag) : (s.onWag f).free = s.free := rfl
@[simp] theorem State.onWag_rdata (f : Wag → Wag) : (s.onWag f).rdata = s.rdata := rfl
@[simp] theorem State.onWag_rcode (f : Wag → Wag) : (s.onWag f).rcode = s.rcode := rfl
@[simp] theorem State.onWag_sys (f : Wag → Wag) : (s.onWag f).sys = s.sys := rfl
@[simp] theorem State.onWag_ports (f : Wag → Wag) : (s.onWag f).ports = s.ports := rfl
@[simp] theorem State.onWag_comb (f : Wag → Wag) : (s.onWag f).comb = s.comb := rfl
@[simp] theorem State.onWag_an (f : Wag → Wag) : (s.onWag f).an = s.an := rfl
@[simp] theorem State.onWag_clk (f : Wag → Wag) : (s.onWag f).clk = s.clk := rfl
@[simp] theorem State.onWag_grps (f : Wag → Wag) : (s.onWag f).grps = s.grps := rfl
@[simp] theorem State.onWag_tdms (f : Wag → Wag) : (s.onWag f).tdms = s.tdms := rfl
@[simp] theorem State.onWag_net (f : Wag → Wag) : (s.onWag f).net = s.net := rfl
@[simp] theorem State.onWag_pdm (f : Wag → Wag) : (s.onWag f).pdm = s.pdm := rfl
@[simp] theorem State.onWag_sct (f : Wag → Wag) : (s.onWag f).sct = s.sct := rfl
@[simp] theorem State.onWag_cores (f : Wag → Wag) : (s.onWag f).cores = s.cores := rfl
@[simp] theorem State.onWag_dsp (f : Wag → Wag) : (s.onWag f).dsp = s.dsp := rfl
@[simp] theorem State.onWag_bad (f : Wag → Wag) : (s.onWag f).bad = s.bad := rfl
@[simp] theorem State.onWag_wag (f : Wag → Wag) : (s.onWag f).wag = f s.wag := rfl
@[simp] theorem State.onWag_clip (f : Wag → Wag) : (s.onWag f).clip = s.clip := rfl
@[simp] theorem State.onWag_madc (f : Wag → Wag) : (s.onWag f).madc = s.madc := rfl
@[simp] theorem State.onWag_lsv (f : Wag → Wag) : (s.onWag f).lsv = s.lsv := rfl
@[simp] theorem State.onWag_flash (f : Wag → Wag) : (s.onWag f).flash = s.flash := rfl
@[simp] theorem State.onWag_img (f : Wag → Wag) : (s.onWag f).img = s.img := rfl
@[simp] theorem State.onWag_bbxQueue (f : Wag → Wag) : (s.onWag f).bbxQueue = s.bbxQueue := rfl
@[simp] theorem State.onWag_otp (f : Wag → Wag) : (s.onWag f).otp = s.otp := rfl
@[simp] theorem State.onWag_mram (f : Wag → Wag) : (s.onWag f).mram = s.mram := rfl
@[simp] theorem State.onWag_kpr (f : Wag → Wag) : (s.onWag f).kpr = s.kpr := rfl
@[simp] theorem State.onWag_swarm (f : Wag → Wag) : (s.onWag f).swarm = s.swarm := rfl

/-! `State.onClip` changes `clip` only. -/
@[simp] theorem State.onClip_pending (f : Clips → Clips) : (s.onClip f).pending = s.pending := rfl
@[simp] theorem State.onClip_regs (f : Clips → Clips) : (s.onClip f).regs = s.regs := rfl
@[simp] theorem State.onClip_snaps (f : Clips → Clips) : (s.onClip f).snaps = s.snaps := rfl
@[simp] theorem State.onClip_shadows (f : Clips → Clips) : (s.onClip f).shadows = s.shadows := rfl
@[simp] theorem State.onClip_holds (f : Clips → Clips) : (s.onClip f).holds = s.holds := rfl
@[simp] theorem State.onClip_mem (f : Clips → Clips) : (s.onClip f).mem = s.mem := rfl
@[simp] theorem State.onClip_free (f : Clips → Clips) : (s.onClip f).free = s.free := rfl
@[simp] theorem State.onClip_rdata (f : Clips → Clips) : (s.onClip f).rdata = s.rdata := rfl
@[simp] theorem State.onClip_rcode (f : Clips → Clips) : (s.onClip f).rcode = s.rcode := rfl
@[simp] theorem State.onClip_sys (f : Clips → Clips) : (s.onClip f).sys = s.sys := rfl
@[simp] theorem State.onClip_ports (f : Clips → Clips) : (s.onClip f).ports = s.ports := rfl
@[simp] theorem State.onClip_comb (f : Clips → Clips) : (s.onClip f).comb = s.comb := rfl
@[simp] theorem State.onClip_an (f : Clips → Clips) : (s.onClip f).an = s.an := rfl
@[simp] theorem State.onClip_clk (f : Clips → Clips) : (s.onClip f).clk = s.clk := rfl
@[simp] theorem State.onClip_grps (f : Clips → Clips) : (s.onClip f).grps = s.grps := rfl
@[simp] theorem State.onClip_tdms (f : Clips → Clips) : (s.onClip f).tdms = s.tdms := rfl
@[simp] theorem State.onClip_net (f : Clips → Clips) : (s.onClip f).net = s.net := rfl
@[simp] theorem State.onClip_pdm (f : Clips → Clips) : (s.onClip f).pdm = s.pdm := rfl
@[simp] theorem State.onClip_sct (f : Clips → Clips) : (s.onClip f).sct = s.sct := rfl
@[simp] theorem State.onClip_cores (f : Clips → Clips) : (s.onClip f).cores = s.cores := rfl
@[simp] theorem State.onClip_dsp (f : Clips → Clips) : (s.onClip f).dsp = s.dsp := rfl
@[simp] theorem State.onClip_bad (f : Clips → Clips) : (s.onClip f).bad = s.bad := rfl
@[simp] theorem State.onClip_wag (f : Clips → Clips) : (s.onClip f).wag = s.wag := rfl
@[simp] theorem State.onClip_clip (f : Clips → Clips) : (s.onClip f).clip = f s.clip := rfl
@[simp] theorem State.onClip_madc (f : Clips → Clips) : (s.onClip f).madc = s.madc := rfl
@[simp] theorem State.onClip_lsv (f : Clips → Clips) : (s.onClip f).lsv = s.lsv := rfl
@[simp] theorem State.onClip_flash (f : Clips → Clips) : (s.onClip f).flash = s.flash := rfl
@[simp] theorem State.onClip_img (f : Clips → Clips) : (s.onClip f).img = s.img := rfl
@[simp] theorem State.onClip_bbxQueue (f : Clips → Clips) : (s.onClip f).bbxQueue = s.bbxQueue := rfl
@[simp] theorem State.onClip_otp (f : Clips → Clips) : (s.onClip f).otp = s.otp := rfl
@[simp] theorem State.onClip_mram (f : Clips → Clips) : (s.onClip f).mram = s.mram := rfl
@[simp] theorem State.onClip_kpr (f : Clips → Clips) : (s.onClip f).kpr = s.kpr := rfl
@[simp] theorem State.onClip_swarm (f : Clips → Clips) : (s.onClip f).swarm = s.swarm := rfl

/-! `State.onLsv` changes `lsv` only. -/
@[simp] theorem State.onLsv_pending (f : Lsv → Lsv) : (s.onLsv f).pending = s.pending := rfl
@[simp] theorem State.onLsv_regs (f : Lsv → Lsv) : (s.onLsv f).regs = s.regs := rfl
@[simp] theorem State.onLsv_snaps (f : Lsv → Lsv) : (s.onLsv f).snaps = s.snaps := rfl
@[simp] theorem State.onLsv_shadows (f : Lsv → Lsv) : (s.onLsv f).shadows = s.shadows := rfl
@[simp] theorem State.onLsv_holds (f : Lsv → Lsv) : (s.onLsv f).holds = s.holds := rfl
@[simp] theorem State.onLsv_mem (f : Lsv → Lsv) : (s.onLsv f).mem = s.mem := rfl
@[simp] theorem State.onLsv_free (f : Lsv → Lsv) : (s.onLsv f).free = s.free := rfl
@[simp] theorem State.onLsv_rdata (f : Lsv → Lsv) : (s.onLsv f).rdata = s.rdata := rfl
@[simp] theorem State.onLsv_rcode (f : Lsv → Lsv) : (s.onLsv f).rcode = s.rcode := rfl
@[simp] theorem State.onLsv_sys (f : Lsv → Lsv) : (s.onLsv f).sys = s.sys := rfl
@[simp] theorem State.onLsv_ports (f : Lsv → Lsv) : (s.onLsv f).ports = s.ports := rfl
@[simp] theorem State.onLsv_comb (f : Lsv → Lsv) : (s.onLsv f).comb = s.comb := rfl
@[simp] theorem State.onLsv_an (f : Lsv → Lsv) : (s.onLsv f).an = s.an := rfl
@[simp] theorem State.onLsv_clk (f : Lsv → Lsv) : (s.onLsv f).clk = s.clk := rfl
@[simp] theorem State.onLsv_grps (f : Lsv → Lsv) : (s.onLsv f).grps = s.grps := rfl
@[simp] theorem State.onLsv_tdms (f : Lsv → Lsv) : (s.onLsv f).tdms = s.tdms := rfl
@[simp] theorem State.onLsv_net (f : Lsv → Lsv) : (s.onLsv f).net = s.net := rfl
@[simp] theorem State.onLsv_pdm (f : Lsv → Lsv) : (s.onLsv f).pdm = s.pdm := rfl
@[simp] theorem State.onLsv_sct (f : Lsv → Lsv) : (s.onLsv f).sct = s.sct := rfl
@[simp] theorem State.onLsv_cores (f : Lsv → Lsv) : (s.onLsv f).cores = s.cores := rfl
@[simp] theorem State.onLsv_dsp (f : Lsv → Lsv) : (s.onLsv f).dsp = s.dsp := rfl
@[simp] theorem State.onLsv_bad (f : Lsv → Lsv) : (s.onLsv f).bad = s.bad := rfl
@[simp] theorem State.onLsv_wag (f : Lsv → Lsv) : (s.onLsv f).wag = s.wag := rfl
@[simp] theorem State.onLsv_clip (f : Lsv → Lsv) : (s.onLsv f).clip = s.clip := rfl
@[simp] theorem State.onLsv_madc (f : Lsv → Lsv) : (s.onLsv f).madc = s.madc := rfl
@[simp] theorem State.onLsv_lsv (f : Lsv → Lsv) : (s.onLsv f).lsv = f s.lsv := rfl
@[simp] theorem State.onLsv_flash (f : Lsv → Lsv) : (s.onLsv f).flash = s.flash := rfl
@[simp] theorem State.onLsv_img (f : Lsv → Lsv) : (s.onLsv f).img = s.img := rfl
@[simp] theorem State.onLsv_bbxQueue (f : Lsv → Lsv) : (s.onLsv f).bbxQueue = s.bbxQueue := rfl
@[simp] theorem State.onLsv_otp (f : Lsv → Lsv) : (s.onLsv f).otp = s.otp := rfl
@[simp] theorem State.onLsv_mram (f : Lsv → Lsv) : (s.onLsv f).mram = s.mram := rfl
@[simp] theorem State.onLsv_kpr (f : Lsv → Lsv) : (s.onLsv f).kpr = s.kpr := rfl
@[simp] theorem State.onLsv_swarm (f : Lsv → Lsv) : (s.onLsv f).swarm = s.swarm := rfl

/-! `State.onMram` changes `mram` only. -/
@[simp] theorem State.onMram_pending (f : Mram → Mram) : (s.onMram f).pending = s.pending := rfl
@[simp] theorem State.onMram_regs (f : Mram → Mram) : (s.onMram f).regs = s.regs := rfl
@[simp] theorem State.onMram_snaps (f : Mram → Mram) : (s.onMram f).snaps = s.snaps := rfl
@[simp] theorem State.onMram_shadows (f : Mram → Mram) : (s.onMram f).shadows = s.shadows := rfl
@[simp] theorem State.onMram_holds (f : Mram → Mram) : (s.onMram f).holds = s.holds := rfl
@[simp] theorem State.onMram_mem (f : Mram → Mram) : (s.onMram f).mem = s.mem := rfl
@[simp] theorem State.onMram_free (f : Mram → Mram) : (s.onMram f).free = s.free := rfl
@[simp] theorem State.onMram_rdata (f : Mram → Mram) : (s.onMram f).rdata = s.rdata := rfl
@[simp] theorem State.onMram_rcode (f : Mram → Mram) : (s.onMram f).rcode = s.rcode := rfl
@[simp] theorem State.onMram_sys (f : Mram → Mram) : (s.onMram f).sys = s.sys := rfl
@[simp] theorem State.onMram_ports (f : Mram → Mram) : (s.onMram f).ports = s.ports := rfl
@[simp] theorem State.onMram_comb (f : Mram → Mram) : (s.onMram f).comb = s.comb := rfl
@[simp] theorem State.onMram_an (f : Mram → Mram) : (s.onMram f).an = s.an := rfl
@[simp] theorem State.onMram_clk (f : Mram → Mram) : (s.onMram f).clk = s.clk := rfl
@[simp] theorem State.onMram_grps (f : Mram → Mram) : (s.onMram f).grps = s.grps := rfl
@[simp] theorem State.onMram_tdms (f : Mram → Mram) : (s.onMram f).tdms = s.tdms := rfl
@[simp] theorem State.onMram_net (f : Mram → Mram) : (s.onMram f).net = s.net := rfl
@[simp] theorem State.onMram_pdm (f : Mram → Mram) : (s.onMram f).pdm = s.pdm := rfl
@[simp] theorem State.onMram_sct (f : Mram → Mram) : (s.onMram f).sct = s.sct := rfl
@[simp] theorem State.onMram_cores (f : Mram → Mram) : (s.onMram f).cores = s.cores := rfl
@[simp] theorem State.onMram_dsp (f : Mram → Mram) : (s.onMram f).dsp = s.dsp := rfl
@[simp] theorem State.onMram_bad (f : Mram → Mram) : (s.onMram f).bad = s.bad := rfl
@[simp] theorem State.onMram_wag (f : Mram → Mram) : (s.onMram f).wag = s.wag := rfl
@[simp] theorem State.onMram_clip (f : Mram → Mram) : (s.onMram f).clip = s.clip := rfl
@[simp] theorem State.onMram_madc (f : Mram → Mram) : (s.onMram f).madc = s.madc := rfl
@[simp] theorem State.onMram_lsv (f : Mram → Mram) : (s.onMram f).lsv = s.lsv := rfl
@[simp] theorem State.onMram_flash (f : Mram → Mram) : (s.onMram f).flash = s.flash := rfl
@[simp] theorem State.onMram_img (f : Mram → Mram) : (s.onMram f).img = s.img := rfl
@[simp] theorem State.onMram_bbxQueue (f : Mram → Mram) : (s.onMram f).bbxQueue = s.bbxQueue := rfl
@[simp] theorem State.onMram_otp (f : Mram → Mram) : (s.onMram f).otp = s.otp := rfl
@[simp] theorem State.onMram_mram (f : Mram → Mram) : (s.onMram f).mram = f s.mram := rfl
@[simp] theorem State.onMram_kpr (f : Mram → Mram) : (s.onMram f).kpr = s.kpr := rfl
@[simp] theorem State.onMram_swarm (f : Mram → Mram) : (s.onMram f).swarm = s.swarm := rfl

/-! `State.onKpr` changes `kpr` only. -/
@[simp] theorem State.onKpr_pending (f : Keeper → Keeper) : (s.onKpr f).pending = s.pending := rfl
@[simp] theorem State.onKpr_regs (f : Keeper → Keeper) : (s.onKpr f).regs = s.regs := rfl
@[simp] theorem State.onKpr_snaps (f : Keeper → Keeper) : (s.onKpr f).snaps = s.snaps := rfl
@[simp] theorem State.onKpr_shadows (f : Keeper → Keeper) : (s.onKpr f).shadows = s.shadows := rfl
@[simp] theorem State.onKpr_holds (f : Keeper → Keeper) : (s.onKpr f).holds = s.holds := rfl
@[simp] theorem State.onKpr_mem (f : Keeper → Keeper) : (s.onKpr f).mem = s.mem := rfl
@[simp] theorem State.onKpr_free (f : Keeper → Keeper) : (s.onKpr f).free = s.free := rfl
@[simp] theorem State.onKpr_rdata (f : Keeper → Keeper) : (s.onKpr f).rdata = s.rdata := rfl
@[simp] theorem State.onKpr_rcode (f : Keeper → Keeper) : (s.onKpr f).rcode = s.rcode := rfl
@[simp] theorem State.onKpr_sys (f : Keeper → Keeper) : (s.onKpr f).sys = s.sys := rfl
@[simp] theorem State.onKpr_ports (f : Keeper → Keeper) : (s.onKpr f).ports = s.ports := rfl
@[simp] theorem State.onKpr_comb (f : Keeper → Keeper) : (s.onKpr f).comb = s.comb := rfl
@[simp] theorem State.onKpr_an (f : Keeper → Keeper) : (s.onKpr f).an = s.an := rfl
@[simp] theorem State.onKpr_clk (f : Keeper → Keeper) : (s.onKpr f).clk = s.clk := rfl
@[simp] theorem State.onKpr_grps (f : Keeper → Keeper) : (s.onKpr f).grps = s.grps := rfl
@[simp] theorem State.onKpr_tdms (f : Keeper → Keeper) : (s.onKpr f).tdms = s.tdms := rfl
@[simp] theorem State.onKpr_net (f : Keeper → Keeper) : (s.onKpr f).net = s.net := rfl
@[simp] theorem State.onKpr_pdm (f : Keeper → Keeper) : (s.onKpr f).pdm = s.pdm := rfl
@[simp] theorem State.onKpr_sct (f : Keeper → Keeper) : (s.onKpr f).sct = s.sct := rfl
@[simp] theorem State.onKpr_cores (f : Keeper → Keeper) : (s.onKpr f).cores = s.cores := rfl
@[simp] theorem State.onKpr_dsp (f : Keeper → Keeper) : (s.onKpr f).dsp = s.dsp := rfl
@[simp] theorem State.onKpr_bad (f : Keeper → Keeper) : (s.onKpr f).bad = s.bad := rfl
@[simp] theorem State.onKpr_wag (f : Keeper → Keeper) : (s.onKpr f).wag = s.wag := rfl
@[simp] theorem State.onKpr_clip (f : Keeper → Keeper) : (s.onKpr f).clip = s.clip := rfl
@[simp] theorem State.onKpr_madc (f : Keeper → Keeper) : (s.onKpr f).madc = s.madc := rfl
@[simp] theorem State.onKpr_lsv (f : Keeper → Keeper) : (s.onKpr f).lsv = s.lsv := rfl
@[simp] theorem State.onKpr_flash (f : Keeper → Keeper) : (s.onKpr f).flash = s.flash := rfl
@[simp] theorem State.onKpr_img (f : Keeper → Keeper) : (s.onKpr f).img = s.img := rfl
@[simp] theorem State.onKpr_bbxQueue (f : Keeper → Keeper) : (s.onKpr f).bbxQueue = s.bbxQueue := rfl
@[simp] theorem State.onKpr_otp (f : Keeper → Keeper) : (s.onKpr f).otp = s.otp := rfl
@[simp] theorem State.onKpr_mram (f : Keeper → Keeper) : (s.onKpr f).mram = s.mram := rfl
@[simp] theorem State.onKpr_kpr (f : Keeper → Keeper) : (s.onKpr f).kpr = f s.kpr := rfl
@[simp] theorem State.onKpr_swarm (f : Keeper → Keeper) : (s.onKpr f).swarm = s.swarm := rfl

/-! `State.onSwm` changes `swarm` only. -/
@[simp] theorem State.onSwm_pending (f : Swarm → Swarm) : (s.onSwm f).pending = s.pending := rfl
@[simp] theorem State.onSwm_regs (f : Swarm → Swarm) : (s.onSwm f).regs = s.regs := rfl
@[simp] theorem State.onSwm_snaps (f : Swarm → Swarm) : (s.onSwm f).snaps = s.snaps := rfl
@[simp] theorem State.onSwm_shadows (f : Swarm → Swarm) : (s.onSwm f).shadows = s.shadows := rfl
@[simp] theorem State.onSwm_holds (f : Swarm → Swarm) : (s.onSwm f).holds = s.holds := rfl
@[simp] theorem State.onSwm_mem (f : Swarm → Swarm) : (s.onSwm f).mem = s.mem := rfl
@[simp] theorem State.onSwm_free (f : Swarm → Swarm) : (s.onSwm f).free = s.free := rfl
@[simp] theorem State.onSwm_rdata (f : Swarm → Swarm) : (s.onSwm f).rdata = s.rdata := rfl
@[simp] theorem State.onSwm_rcode (f : Swarm → Swarm) : (s.onSwm f).rcode = s.rcode := rfl
@[simp] theorem State.onSwm_sys (f : Swarm → Swarm) : (s.onSwm f).sys = s.sys := rfl
@[simp] theorem State.onSwm_ports (f : Swarm → Swarm) : (s.onSwm f).ports = s.ports := rfl
@[simp] theorem State.onSwm_comb (f : Swarm → Swarm) : (s.onSwm f).comb = s.comb := rfl
@[simp] theorem State.onSwm_an (f : Swarm → Swarm) : (s.onSwm f).an = s.an := rfl
@[simp] theorem State.onSwm_clk (f : Swarm → Swarm) : (s.onSwm f).clk = s.clk := rfl
@[simp] theorem State.onSwm_grps (f : Swarm → Swarm) : (s.onSwm f).grps = s.grps := rfl
@[simp] theorem State.onSwm_tdms (f : Swarm → Swarm) : (s.onSwm f).tdms = s.tdms := rfl
@[simp] theorem State.onSwm_net (f : Swarm → Swarm) : (s.onSwm f).net = s.net := rfl
@[simp] theorem State.onSwm_pdm (f : Swarm → Swarm) : (s.onSwm f).pdm = s.pdm := rfl
@[simp] theorem State.onSwm_sct (f : Swarm → Swarm) : (s.onSwm f).sct = s.sct := rfl
@[simp] theorem State.onSwm_cores (f : Swarm → Swarm) : (s.onSwm f).cores = s.cores := rfl
@[simp] theorem State.onSwm_dsp (f : Swarm → Swarm) : (s.onSwm f).dsp = s.dsp := rfl
@[simp] theorem State.onSwm_bad (f : Swarm → Swarm) : (s.onSwm f).bad = s.bad := rfl
@[simp] theorem State.onSwm_wag (f : Swarm → Swarm) : (s.onSwm f).wag = s.wag := rfl
@[simp] theorem State.onSwm_clip (f : Swarm → Swarm) : (s.onSwm f).clip = s.clip := rfl
@[simp] theorem State.onSwm_madc (f : Swarm → Swarm) : (s.onSwm f).madc = s.madc := rfl
@[simp] theorem State.onSwm_lsv (f : Swarm → Swarm) : (s.onSwm f).lsv = s.lsv := rfl
@[simp] theorem State.onSwm_flash (f : Swarm → Swarm) : (s.onSwm f).flash = s.flash := rfl
@[simp] theorem State.onSwm_img (f : Swarm → Swarm) : (s.onSwm f).img = s.img := rfl
@[simp] theorem State.onSwm_bbxQueue (f : Swarm → Swarm) : (s.onSwm f).bbxQueue = s.bbxQueue := rfl
@[simp] theorem State.onSwm_otp (f : Swarm → Swarm) : (s.onSwm f).otp = s.otp := rfl
@[simp] theorem State.onSwm_mram (f : Swarm → Swarm) : (s.onSwm f).mram = s.mram := rfl
@[simp] theorem State.onSwm_kpr (f : Swarm → Swarm) : (s.onSwm f).kpr = s.kpr := rfl
@[simp] theorem State.onSwm_swarm (f : Swarm → Swarm) : (s.onSwm f).swarm = f s.swarm := rfl

/-! `State.onSys` changes `sys` only. -/
@[simp] theorem State.onSys_pending (f : Sys → Sys) : (s.onSys f).pending = s.pending := rfl
@[simp] theorem State.onSys_regs (f : Sys → Sys) : (s.onSys f).regs = s.regs := rfl
@[simp] theorem State.onSys_snaps (f : Sys → Sys) : (s.onSys f).snaps = s.snaps := rfl
@[simp] theorem State.onSys_shadows (f : Sys → Sys) : (s.onSys f).shadows = s.shadows := rfl
@[simp] theorem State.onSys_holds (f : Sys → Sys) : (s.onSys f).holds = s.holds := rfl
@[simp] theorem State.onSys_mem (f : Sys → Sys) : (s.onSys f).mem = s.mem := rfl
@[simp] theorem State.onSys_free (f : Sys → Sys) : (s.onSys f).free = s.free := rfl
@[simp] theorem State.onSys_rdata (f : Sys → Sys) : (s.onSys f).rdata = s.rdata := rfl
@[simp] theorem State.onSys_rcode (f : Sys → Sys) : (s.onSys f).rcode = s.rcode := rfl
@[simp] theorem State.onSys_sys (f : Sys → Sys) : (s.onSys f).sys = f s.sys := rfl
@[simp] theorem State.onSys_ports (f : Sys → Sys) : (s.onSys f).ports = s.ports := rfl
@[simp] theorem State.onSys_comb (f : Sys → Sys) : (s.onSys f).comb = s.comb := rfl
@[simp] theorem State.onSys_an (f : Sys → Sys) : (s.onSys f).an = s.an := rfl
@[simp] theorem State.onSys_clk (f : Sys → Sys) : (s.onSys f).clk = s.clk := rfl
@[simp] theorem State.onSys_grps (f : Sys → Sys) : (s.onSys f).grps = s.grps := rfl
@[simp] theorem State.onSys_tdms (f : Sys → Sys) : (s.onSys f).tdms = s.tdms := rfl
@[simp] theorem State.onSys_net (f : Sys → Sys) : (s.onSys f).net = s.net := rfl
@[simp] theorem State.onSys_pdm (f : Sys → Sys) : (s.onSys f).pdm = s.pdm := rfl
@[simp] theorem State.onSys_sct (f : Sys → Sys) : (s.onSys f).sct = s.sct := rfl
@[simp] theorem State.onSys_cores (f : Sys → Sys) : (s.onSys f).cores = s.cores := rfl
@[simp] theorem State.onSys_dsp (f : Sys → Sys) : (s.onSys f).dsp = s.dsp := rfl
@[simp] theorem State.onSys_bad (f : Sys → Sys) : (s.onSys f).bad = s.bad := rfl
@[simp] theorem State.onSys_wag (f : Sys → Sys) : (s.onSys f).wag = s.wag := rfl
@[simp] theorem State.onSys_clip (f : Sys → Sys) : (s.onSys f).clip = s.clip := rfl
@[simp] theorem State.onSys_madc (f : Sys → Sys) : (s.onSys f).madc = s.madc := rfl
@[simp] theorem State.onSys_lsv (f : Sys → Sys) : (s.onSys f).lsv = s.lsv := rfl
@[simp] theorem State.onSys_flash (f : Sys → Sys) : (s.onSys f).flash = s.flash := rfl
@[simp] theorem State.onSys_img (f : Sys → Sys) : (s.onSys f).img = s.img := rfl
@[simp] theorem State.onSys_bbxQueue (f : Sys → Sys) : (s.onSys f).bbxQueue = s.bbxQueue := rfl
@[simp] theorem State.onSys_otp (f : Sys → Sys) : (s.onSys f).otp = s.otp := rfl
@[simp] theorem State.onSys_mram (f : Sys → Sys) : (s.onSys f).mram = s.mram := rfl
@[simp] theorem State.onSys_kpr (f : Sys → Sys) : (s.onSys f).kpr = s.kpr := rfl
@[simp] theorem State.onSys_swarm (f : Sys → Sys) : (s.onSys f).swarm = s.swarm := rfl

/-! `State.onAmp` changes `an` only. -/
@[simp] theorem State.onAmp_pending (n : Nat) (f : AmpHid → AmpHid) : (s.onAmp n f).pending = s.pending := rfl
@[simp] theorem State.onAmp_regs (n : Nat) (f : AmpHid → AmpHid) : (s.onAmp n f).regs = s.regs := rfl
@[simp] theorem State.onAmp_snaps (n : Nat) (f : AmpHid → AmpHid) : (s.onAmp n f).snaps = s.snaps := rfl
@[simp] theorem State.onAmp_shadows (n : Nat) (f : AmpHid → AmpHid) : (s.onAmp n f).shadows = s.shadows := rfl
@[simp] theorem State.onAmp_holds (n : Nat) (f : AmpHid → AmpHid) : (s.onAmp n f).holds = s.holds := rfl
@[simp] theorem State.onAmp_mem (n : Nat) (f : AmpHid → AmpHid) : (s.onAmp n f).mem = s.mem := rfl
@[simp] theorem State.onAmp_free (n : Nat) (f : AmpHid → AmpHid) : (s.onAmp n f).free = s.free := rfl
@[simp] theorem State.onAmp_rdata (n : Nat) (f : AmpHid → AmpHid) : (s.onAmp n f).rdata = s.rdata := rfl
@[simp] theorem State.onAmp_rcode (n : Nat) (f : AmpHid → AmpHid) : (s.onAmp n f).rcode = s.rcode := rfl
@[simp] theorem State.onAmp_sys (n : Nat) (f : AmpHid → AmpHid) : (s.onAmp n f).sys = s.sys := rfl
@[simp] theorem State.onAmp_ports (n : Nat) (f : AmpHid → AmpHid) : (s.onAmp n f).ports = s.ports := rfl
@[simp] theorem State.onAmp_comb (n : Nat) (f : AmpHid → AmpHid) : (s.onAmp n f).comb = s.comb := rfl
@[simp] theorem State.onAmp_clk (n : Nat) (f : AmpHid → AmpHid) : (s.onAmp n f).clk = s.clk := rfl
@[simp] theorem State.onAmp_grps (n : Nat) (f : AmpHid → AmpHid) : (s.onAmp n f).grps = s.grps := rfl
@[simp] theorem State.onAmp_tdms (n : Nat) (f : AmpHid → AmpHid) : (s.onAmp n f).tdms = s.tdms := rfl
@[simp] theorem State.onAmp_net (n : Nat) (f : AmpHid → AmpHid) : (s.onAmp n f).net = s.net := rfl
@[simp] theorem State.onAmp_pdm (n : Nat) (f : AmpHid → AmpHid) : (s.onAmp n f).pdm = s.pdm := rfl
@[simp] theorem State.onAmp_sct (n : Nat) (f : AmpHid → AmpHid) : (s.onAmp n f).sct = s.sct := rfl
@[simp] theorem State.onAmp_cores (n : Nat) (f : AmpHid → AmpHid) : (s.onAmp n f).cores = s.cores := rfl
@[simp] theorem State.onAmp_dsp (n : Nat) (f : AmpHid → AmpHid) : (s.onAmp n f).dsp = s.dsp := rfl
@[simp] theorem State.onAmp_bad (n : Nat) (f : AmpHid → AmpHid) : (s.onAmp n f).bad = s.bad := rfl
@[simp] theorem State.onAmp_wag (n : Nat) (f : AmpHid → AmpHid) : (s.onAmp n f).wag = s.wag := rfl
@[simp] theorem State.onAmp_clip (n : Nat) (f : AmpHid → AmpHid) : (s.onAmp n f).clip = s.clip := rfl
@[simp] theorem State.onAmp_madc (n : Nat) (f : AmpHid → AmpHid) : (s.onAmp n f).madc = s.madc := rfl
@[simp] theorem State.onAmp_lsv (n : Nat) (f : AmpHid → AmpHid) : (s.onAmp n f).lsv = s.lsv := rfl
@[simp] theorem State.onAmp_flash (n : Nat) (f : AmpHid → AmpHid) : (s.onAmp n f).flash = s.flash := rfl
@[simp] theorem State.onAmp_img (n : Nat) (f : AmpHid → AmpHid) : (s.onAmp n f).img = s.img := rfl
@[simp] theorem State.onAmp_bbxQueue (n : Nat) (f : AmpHid → AmpHid) : (s.onAmp n f).bbxQueue = s.bbxQueue := rfl
@[simp] theorem State.onAmp_otp (n : Nat) (f : AmpHid → AmpHid) : (s.onAmp n f).otp = s.otp := rfl
@[simp] theorem State.onAmp_mram (n : Nat) (f : AmpHid → AmpHid) : (s.onAmp n f).mram = s.mram := rfl
@[simp] theorem State.onAmp_kpr (n : Nat) (f : AmpHid → AmpHid) : (s.onAmp n f).kpr = s.kpr := rfl
@[simp] theorem State.onAmp_swarm (n : Nat) (f : AmpHid → AmpHid) : (s.onAmp n f).swarm = s.swarm := rfl

/-! `State.onBst` changes `an` only. -/
@[simp] theorem State.onBst_pending (n : Nat) (f : BstHid → BstHid) : (s.onBst n f).pending = s.pending := rfl
@[simp] theorem State.onBst_regs (n : Nat) (f : BstHid → BstHid) : (s.onBst n f).regs = s.regs := rfl
@[simp] theorem State.onBst_snaps (n : Nat) (f : BstHid → BstHid) : (s.onBst n f).snaps = s.snaps := rfl
@[simp] theorem State.onBst_shadows (n : Nat) (f : BstHid → BstHid) : (s.onBst n f).shadows = s.shadows := rfl
@[simp] theorem State.onBst_holds (n : Nat) (f : BstHid → BstHid) : (s.onBst n f).holds = s.holds := rfl
@[simp] theorem State.onBst_mem (n : Nat) (f : BstHid → BstHid) : (s.onBst n f).mem = s.mem := rfl
@[simp] theorem State.onBst_free (n : Nat) (f : BstHid → BstHid) : (s.onBst n f).free = s.free := rfl
@[simp] theorem State.onBst_rdata (n : Nat) (f : BstHid → BstHid) : (s.onBst n f).rdata = s.rdata := rfl
@[simp] theorem State.onBst_rcode (n : Nat) (f : BstHid → BstHid) : (s.onBst n f).rcode = s.rcode := rfl
@[simp] theorem State.onBst_sys (n : Nat) (f : BstHid → BstHid) : (s.onBst n f).sys = s.sys := rfl
@[simp] theorem State.onBst_ports (n : Nat) (f : BstHid → BstHid) : (s.onBst n f).ports = s.ports := rfl
@[simp] theorem State.onBst_comb (n : Nat) (f : BstHid → BstHid) : (s.onBst n f).comb = s.comb := rfl
@[simp] theorem State.onBst_clk (n : Nat) (f : BstHid → BstHid) : (s.onBst n f).clk = s.clk := rfl
@[simp] theorem State.onBst_grps (n : Nat) (f : BstHid → BstHid) : (s.onBst n f).grps = s.grps := rfl
@[simp] theorem State.onBst_tdms (n : Nat) (f : BstHid → BstHid) : (s.onBst n f).tdms = s.tdms := rfl
@[simp] theorem State.onBst_net (n : Nat) (f : BstHid → BstHid) : (s.onBst n f).net = s.net := rfl
@[simp] theorem State.onBst_pdm (n : Nat) (f : BstHid → BstHid) : (s.onBst n f).pdm = s.pdm := rfl
@[simp] theorem State.onBst_sct (n : Nat) (f : BstHid → BstHid) : (s.onBst n f).sct = s.sct := rfl
@[simp] theorem State.onBst_cores (n : Nat) (f : BstHid → BstHid) : (s.onBst n f).cores = s.cores := rfl
@[simp] theorem State.onBst_dsp (n : Nat) (f : BstHid → BstHid) : (s.onBst n f).dsp = s.dsp := rfl
@[simp] theorem State.onBst_bad (n : Nat) (f : BstHid → BstHid) : (s.onBst n f).bad = s.bad := rfl
@[simp] theorem State.onBst_wag (n : Nat) (f : BstHid → BstHid) : (s.onBst n f).wag = s.wag := rfl
@[simp] theorem State.onBst_clip (n : Nat) (f : BstHid → BstHid) : (s.onBst n f).clip = s.clip := rfl
@[simp] theorem State.onBst_madc (n : Nat) (f : BstHid → BstHid) : (s.onBst n f).madc = s.madc := rfl
@[simp] theorem State.onBst_lsv (n : Nat) (f : BstHid → BstHid) : (s.onBst n f).lsv = s.lsv := rfl
@[simp] theorem State.onBst_flash (n : Nat) (f : BstHid → BstHid) : (s.onBst n f).flash = s.flash := rfl
@[simp] theorem State.onBst_img (n : Nat) (f : BstHid → BstHid) : (s.onBst n f).img = s.img := rfl
@[simp] theorem State.onBst_bbxQueue (n : Nat) (f : BstHid → BstHid) : (s.onBst n f).bbxQueue = s.bbxQueue := rfl
@[simp] theorem State.onBst_otp (n : Nat) (f : BstHid → BstHid) : (s.onBst n f).otp = s.otp := rfl
@[simp] theorem State.onBst_mram (n : Nat) (f : BstHid → BstHid) : (s.onBst n f).mram = s.mram := rfl
@[simp] theorem State.onBst_kpr (n : Nat) (f : BstHid → BstHid) : (s.onBst n f).kpr = s.kpr := rfl
@[simp] theorem State.onBst_swarm (n : Nat) (f : BstHid → BstHid) : (s.onBst n f).swarm = s.swarm := rfl

/-! `State.onLo` changes `an` only. -/
@[simp] theorem State.onLo_pending (n : Nat) (f : LoHid → LoHid) : (s.onLo n f).pending = s.pending := rfl
@[simp] theorem State.onLo_regs (n : Nat) (f : LoHid → LoHid) : (s.onLo n f).regs = s.regs := rfl
@[simp] theorem State.onLo_snaps (n : Nat) (f : LoHid → LoHid) : (s.onLo n f).snaps = s.snaps := rfl
@[simp] theorem State.onLo_shadows (n : Nat) (f : LoHid → LoHid) : (s.onLo n f).shadows = s.shadows := rfl
@[simp] theorem State.onLo_holds (n : Nat) (f : LoHid → LoHid) : (s.onLo n f).holds = s.holds := rfl
@[simp] theorem State.onLo_mem (n : Nat) (f : LoHid → LoHid) : (s.onLo n f).mem = s.mem := rfl
@[simp] theorem State.onLo_free (n : Nat) (f : LoHid → LoHid) : (s.onLo n f).free = s.free := rfl
@[simp] theorem State.onLo_rdata (n : Nat) (f : LoHid → LoHid) : (s.onLo n f).rdata = s.rdata := rfl
@[simp] theorem State.onLo_rcode (n : Nat) (f : LoHid → LoHid) : (s.onLo n f).rcode = s.rcode := rfl
@[simp] theorem State.onLo_sys (n : Nat) (f : LoHid → LoHid) : (s.onLo n f).sys = s.sys := rfl
@[simp] theorem State.onLo_ports (n : Nat) (f : LoHid → LoHid) : (s.onLo n f).ports = s.ports := rfl
@[simp] theorem State.onLo_comb (n : Nat) (f : LoHid → LoHid) : (s.onLo n f).comb = s.comb := rfl
@[simp] theorem State.onLo_clk (n : Nat) (f : LoHid → LoHid) : (s.onLo n f).clk = s.clk := rfl
@[simp] theorem State.onLo_grps (n : Nat) (f : LoHid → LoHid) : (s.onLo n f).grps = s.grps := rfl
@[simp] theorem State.onLo_tdms (n : Nat) (f : LoHid → LoHid) : (s.onLo n f).tdms = s.tdms := rfl
@[simp] theorem State.onLo_net (n : Nat) (f : LoHid → LoHid) : (s.onLo n f).net = s.net := rfl
@[simp] theorem State.onLo_pdm (n : Nat) (f : LoHid → LoHid) : (s.onLo n f).pdm = s.pdm := rfl
@[simp] theorem State.onLo_sct (n : Nat) (f : LoHid → LoHid) : (s.onLo n f).sct = s.sct := rfl
@[simp] theorem State.onLo_cores (n : Nat) (f : LoHid → LoHid) : (s.onLo n f).cores = s.cores := rfl
@[simp] theorem State.onLo_dsp (n : Nat) (f : LoHid → LoHid) : (s.onLo n f).dsp = s.dsp := rfl
@[simp] theorem State.onLo_bad (n : Nat) (f : LoHid → LoHid) : (s.onLo n f).bad = s.bad := rfl
@[simp] theorem State.onLo_wag (n : Nat) (f : LoHid → LoHid) : (s.onLo n f).wag = s.wag := rfl
@[simp] theorem State.onLo_clip (n : Nat) (f : LoHid → LoHid) : (s.onLo n f).clip = s.clip := rfl
@[simp] theorem State.onLo_madc (n : Nat) (f : LoHid → LoHid) : (s.onLo n f).madc = s.madc := rfl
@[simp] theorem State.onLo_lsv (n : Nat) (f : LoHid → LoHid) : (s.onLo n f).lsv = s.lsv := rfl
@[simp] theorem State.onLo_flash (n : Nat) (f : LoHid → LoHid) : (s.onLo n f).flash = s.flash := rfl
@[simp] theorem State.onLo_img (n : Nat) (f : LoHid → LoHid) : (s.onLo n f).img = s.img := rfl
@[simp] theorem State.onLo_bbxQueue (n : Nat) (f : LoHid → LoHid) : (s.onLo n f).bbxQueue = s.bbxQueue := rfl
@[simp] theorem State.onLo_otp (n : Nat) (f : LoHid → LoHid) : (s.onLo n f).otp = s.otp := rfl
@[simp] theorem State.onLo_mram (n : Nat) (f : LoHid → LoHid) : (s.onLo n f).mram = s.mram := rfl
@[simp] theorem State.onLo_kpr (n : Nat) (f : LoHid → LoHid) : (s.onLo n f).kpr = s.kpr := rfl
@[simp] theorem State.onLo_swarm (n : Nat) (f : LoHid → LoHid) : (s.onLo n f).swarm = s.swarm := rfl

/-! `State.onHs` changes `an` only. -/
@[simp] theorem State.onHs_pending (n : Nat) (f : HsHid → HsHid) : (s.onHs n f).pending = s.pending := rfl
@[simp] theorem State.onHs_regs (n : Nat) (f : HsHid → HsHid) : (s.onHs n f).regs = s.regs := rfl
@[simp] theorem State.onHs_snaps (n : Nat) (f : HsHid → HsHid) : (s.onHs n f).snaps = s.snaps := rfl
@[simp] theorem State.onHs_shadows (n : Nat) (f : HsHid → HsHid) : (s.onHs n f).shadows = s.shadows := rfl
@[simp] theorem State.onHs_holds (n : Nat) (f : HsHid → HsHid) : (s.onHs n f).holds = s.holds := rfl
@[simp] theorem State.onHs_mem (n : Nat) (f : HsHid → HsHid) : (s.onHs n f).mem = s.mem := rfl
@[simp] theorem State.onHs_free (n : Nat) (f : HsHid → HsHid) : (s.onHs n f).free = s.free := rfl
@[simp] theorem State.onHs_rdata (n : Nat) (f : HsHid → HsHid) : (s.onHs n f).rdata = s.rdata := rfl
@[simp] theorem State.onHs_rcode (n : Nat) (f : HsHid → HsHid) : (s.onHs n f).rcode = s.rcode := rfl
@[simp] theorem State.onHs_sys (n : Nat) (f : HsHid → HsHid) : (s.onHs n f).sys = s.sys := rfl
@[simp] theorem State.onHs_ports (n : Nat) (f : HsHid → HsHid) : (s.onHs n f).ports = s.ports := rfl
@[simp] theorem State.onHs_comb (n : Nat) (f : HsHid → HsHid) : (s.onHs n f).comb = s.comb := rfl
@[simp] theorem State.onHs_clk (n : Nat) (f : HsHid → HsHid) : (s.onHs n f).clk = s.clk := rfl
@[simp] theorem State.onHs_grps (n : Nat) (f : HsHid → HsHid) : (s.onHs n f).grps = s.grps := rfl
@[simp] theorem State.onHs_tdms (n : Nat) (f : HsHid → HsHid) : (s.onHs n f).tdms = s.tdms := rfl
@[simp] theorem State.onHs_net (n : Nat) (f : HsHid → HsHid) : (s.onHs n f).net = s.net := rfl
@[simp] theorem State.onHs_pdm (n : Nat) (f : HsHid → HsHid) : (s.onHs n f).pdm = s.pdm := rfl
@[simp] theorem State.onHs_sct (n : Nat) (f : HsHid → HsHid) : (s.onHs n f).sct = s.sct := rfl
@[simp] theorem State.onHs_cores (n : Nat) (f : HsHid → HsHid) : (s.onHs n f).cores = s.cores := rfl
@[simp] theorem State.onHs_dsp (n : Nat) (f : HsHid → HsHid) : (s.onHs n f).dsp = s.dsp := rfl
@[simp] theorem State.onHs_bad (n : Nat) (f : HsHid → HsHid) : (s.onHs n f).bad = s.bad := rfl
@[simp] theorem State.onHs_wag (n : Nat) (f : HsHid → HsHid) : (s.onHs n f).wag = s.wag := rfl
@[simp] theorem State.onHs_clip (n : Nat) (f : HsHid → HsHid) : (s.onHs n f).clip = s.clip := rfl
@[simp] theorem State.onHs_madc (n : Nat) (f : HsHid → HsHid) : (s.onHs n f).madc = s.madc := rfl
@[simp] theorem State.onHs_lsv (n : Nat) (f : HsHid → HsHid) : (s.onHs n f).lsv = s.lsv := rfl
@[simp] theorem State.onHs_flash (n : Nat) (f : HsHid → HsHid) : (s.onHs n f).flash = s.flash := rfl
@[simp] theorem State.onHs_img (n : Nat) (f : HsHid → HsHid) : (s.onHs n f).img = s.img := rfl
@[simp] theorem State.onHs_bbxQueue (n : Nat) (f : HsHid → HsHid) : (s.onHs n f).bbxQueue = s.bbxQueue := rfl
@[simp] theorem State.onHs_otp (n : Nat) (f : HsHid → HsHid) : (s.onHs n f).otp = s.otp := rfl
@[simp] theorem State.onHs_mram (n : Nat) (f : HsHid → HsHid) : (s.onHs n f).mram = s.mram := rfl
@[simp] theorem State.onHs_kpr (n : Nat) (f : HsHid → HsHid) : (s.onHs n f).kpr = s.kpr := rfl
@[simp] theorem State.onHs_swarm (n : Nat) (f : HsHid → HsHid) : (s.onHs n f).swarm = s.swarm := rfl

/-! `State.onGrp` changes `grps` only. -/
@[simp] theorem State.onGrp_pending (n : Nat) (f : Grp → Grp) : (s.onGrp n f).pending = s.pending := rfl
@[simp] theorem State.onGrp_regs (n : Nat) (f : Grp → Grp) : (s.onGrp n f).regs = s.regs := rfl
@[simp] theorem State.onGrp_snaps (n : Nat) (f : Grp → Grp) : (s.onGrp n f).snaps = s.snaps := rfl
@[simp] theorem State.onGrp_shadows (n : Nat) (f : Grp → Grp) : (s.onGrp n f).shadows = s.shadows := rfl
@[simp] theorem State.onGrp_holds (n : Nat) (f : Grp → Grp) : (s.onGrp n f).holds = s.holds := rfl
@[simp] theorem State.onGrp_mem (n : Nat) (f : Grp → Grp) : (s.onGrp n f).mem = s.mem := rfl
@[simp] theorem State.onGrp_free (n : Nat) (f : Grp → Grp) : (s.onGrp n f).free = s.free := rfl
@[simp] theorem State.onGrp_rdata (n : Nat) (f : Grp → Grp) : (s.onGrp n f).rdata = s.rdata := rfl
@[simp] theorem State.onGrp_rcode (n : Nat) (f : Grp → Grp) : (s.onGrp n f).rcode = s.rcode := rfl
@[simp] theorem State.onGrp_sys (n : Nat) (f : Grp → Grp) : (s.onGrp n f).sys = s.sys := rfl
@[simp] theorem State.onGrp_ports (n : Nat) (f : Grp → Grp) : (s.onGrp n f).ports = s.ports := rfl
@[simp] theorem State.onGrp_comb (n : Nat) (f : Grp → Grp) : (s.onGrp n f).comb = s.comb := rfl
@[simp] theorem State.onGrp_an (n : Nat) (f : Grp → Grp) : (s.onGrp n f).an = s.an := rfl
@[simp] theorem State.onGrp_clk (n : Nat) (f : Grp → Grp) : (s.onGrp n f).clk = s.clk := rfl
@[simp] theorem State.onGrp_tdms (n : Nat) (f : Grp → Grp) : (s.onGrp n f).tdms = s.tdms := rfl
@[simp] theorem State.onGrp_net (n : Nat) (f : Grp → Grp) : (s.onGrp n f).net = s.net := rfl
@[simp] theorem State.onGrp_pdm (n : Nat) (f : Grp → Grp) : (s.onGrp n f).pdm = s.pdm := rfl
@[simp] theorem State.onGrp_sct (n : Nat) (f : Grp → Grp) : (s.onGrp n f).sct = s.sct := rfl
@[simp] theorem State.onGrp_cores (n : Nat) (f : Grp → Grp) : (s.onGrp n f).cores = s.cores := rfl
@[simp] theorem State.onGrp_dsp (n : Nat) (f : Grp → Grp) : (s.onGrp n f).dsp = s.dsp := rfl
@[simp] theorem State.onGrp_bad (n : Nat) (f : Grp → Grp) : (s.onGrp n f).bad = s.bad := rfl
@[simp] theorem State.onGrp_wag (n : Nat) (f : Grp → Grp) : (s.onGrp n f).wag = s.wag := rfl
@[simp] theorem State.onGrp_clip (n : Nat) (f : Grp → Grp) : (s.onGrp n f).clip = s.clip := rfl
@[simp] theorem State.onGrp_madc (n : Nat) (f : Grp → Grp) : (s.onGrp n f).madc = s.madc := rfl
@[simp] theorem State.onGrp_lsv (n : Nat) (f : Grp → Grp) : (s.onGrp n f).lsv = s.lsv := rfl
@[simp] theorem State.onGrp_flash (n : Nat) (f : Grp → Grp) : (s.onGrp n f).flash = s.flash := rfl
@[simp] theorem State.onGrp_img (n : Nat) (f : Grp → Grp) : (s.onGrp n f).img = s.img := rfl
@[simp] theorem State.onGrp_bbxQueue (n : Nat) (f : Grp → Grp) : (s.onGrp n f).bbxQueue = s.bbxQueue := rfl
@[simp] theorem State.onGrp_otp (n : Nat) (f : Grp → Grp) : (s.onGrp n f).otp = s.otp := rfl
@[simp] theorem State.onGrp_mram (n : Nat) (f : Grp → Grp) : (s.onGrp n f).mram = s.mram := rfl
@[simp] theorem State.onGrp_kpr (n : Nat) (f : Grp → Grp) : (s.onGrp n f).kpr = s.kpr := rfl
@[simp] theorem State.onGrp_swarm (n : Nat) (f : Grp → Grp) : (s.onGrp n f).swarm = s.swarm := rfl

/-! `State.onTdm` changes `tdms` only. -/
@[simp] theorem State.onTdm_pending (n : Nat) (f : TdmHid → TdmHid) : (s.onTdm n f).pending = s.pending := rfl
@[simp] theorem State.onTdm_regs (n : Nat) (f : TdmHid → TdmHid) : (s.onTdm n f).regs = s.regs := rfl
@[simp] theorem State.onTdm_snaps (n : Nat) (f : TdmHid → TdmHid) : (s.onTdm n f).snaps = s.snaps := rfl
@[simp] theorem State.onTdm_shadows (n : Nat) (f : TdmHid → TdmHid) : (s.onTdm n f).shadows = s.shadows := rfl
@[simp] theorem State.onTdm_holds (n : Nat) (f : TdmHid → TdmHid) : (s.onTdm n f).holds = s.holds := rfl
@[simp] theorem State.onTdm_mem (n : Nat) (f : TdmHid → TdmHid) : (s.onTdm n f).mem = s.mem := rfl
@[simp] theorem State.onTdm_free (n : Nat) (f : TdmHid → TdmHid) : (s.onTdm n f).free = s.free := rfl
@[simp] theorem State.onTdm_rdata (n : Nat) (f : TdmHid → TdmHid) : (s.onTdm n f).rdata = s.rdata := rfl
@[simp] theorem State.onTdm_rcode (n : Nat) (f : TdmHid → TdmHid) : (s.onTdm n f).rcode = s.rcode := rfl
@[simp] theorem State.onTdm_sys (n : Nat) (f : TdmHid → TdmHid) : (s.onTdm n f).sys = s.sys := rfl
@[simp] theorem State.onTdm_ports (n : Nat) (f : TdmHid → TdmHid) : (s.onTdm n f).ports = s.ports := rfl
@[simp] theorem State.onTdm_comb (n : Nat) (f : TdmHid → TdmHid) : (s.onTdm n f).comb = s.comb := rfl
@[simp] theorem State.onTdm_an (n : Nat) (f : TdmHid → TdmHid) : (s.onTdm n f).an = s.an := rfl
@[simp] theorem State.onTdm_clk (n : Nat) (f : TdmHid → TdmHid) : (s.onTdm n f).clk = s.clk := rfl
@[simp] theorem State.onTdm_grps (n : Nat) (f : TdmHid → TdmHid) : (s.onTdm n f).grps = s.grps := rfl
@[simp] theorem State.onTdm_net (n : Nat) (f : TdmHid → TdmHid) : (s.onTdm n f).net = s.net := rfl
@[simp] theorem State.onTdm_pdm (n : Nat) (f : TdmHid → TdmHid) : (s.onTdm n f).pdm = s.pdm := rfl
@[simp] theorem State.onTdm_sct (n : Nat) (f : TdmHid → TdmHid) : (s.onTdm n f).sct = s.sct := rfl
@[simp] theorem State.onTdm_cores (n : Nat) (f : TdmHid → TdmHid) : (s.onTdm n f).cores = s.cores := rfl
@[simp] theorem State.onTdm_dsp (n : Nat) (f : TdmHid → TdmHid) : (s.onTdm n f).dsp = s.dsp := rfl
@[simp] theorem State.onTdm_bad (n : Nat) (f : TdmHid → TdmHid) : (s.onTdm n f).bad = s.bad := rfl
@[simp] theorem State.onTdm_wag (n : Nat) (f : TdmHid → TdmHid) : (s.onTdm n f).wag = s.wag := rfl
@[simp] theorem State.onTdm_clip (n : Nat) (f : TdmHid → TdmHid) : (s.onTdm n f).clip = s.clip := rfl
@[simp] theorem State.onTdm_madc (n : Nat) (f : TdmHid → TdmHid) : (s.onTdm n f).madc = s.madc := rfl
@[simp] theorem State.onTdm_lsv (n : Nat) (f : TdmHid → TdmHid) : (s.onTdm n f).lsv = s.lsv := rfl
@[simp] theorem State.onTdm_flash (n : Nat) (f : TdmHid → TdmHid) : (s.onTdm n f).flash = s.flash := rfl
@[simp] theorem State.onTdm_img (n : Nat) (f : TdmHid → TdmHid) : (s.onTdm n f).img = s.img := rfl
@[simp] theorem State.onTdm_bbxQueue (n : Nat) (f : TdmHid → TdmHid) : (s.onTdm n f).bbxQueue = s.bbxQueue := rfl
@[simp] theorem State.onTdm_otp (n : Nat) (f : TdmHid → TdmHid) : (s.onTdm n f).otp = s.otp := rfl
@[simp] theorem State.onTdm_mram (n : Nat) (f : TdmHid → TdmHid) : (s.onTdm n f).mram = s.mram := rfl
@[simp] theorem State.onTdm_kpr (n : Nat) (f : TdmHid → TdmHid) : (s.onTdm n f).kpr = s.kpr := rfl
@[simp] theorem State.onTdm_swarm (n : Nat) (f : TdmHid → TdmHid) : (s.onTdm n f).swarm = s.swarm := rfl

/-! `State.onLink` changes `net` only. -/
@[simp] theorem State.onLink_pending (n : Nat) (f : Link → Link) : (s.onLink n f).pending = s.pending := rfl
@[simp] theorem State.onLink_regs (n : Nat) (f : Link → Link) : (s.onLink n f).regs = s.regs := rfl
@[simp] theorem State.onLink_snaps (n : Nat) (f : Link → Link) : (s.onLink n f).snaps = s.snaps := rfl
@[simp] theorem State.onLink_shadows (n : Nat) (f : Link → Link) : (s.onLink n f).shadows = s.shadows := rfl
@[simp] theorem State.onLink_holds (n : Nat) (f : Link → Link) : (s.onLink n f).holds = s.holds := rfl
@[simp] theorem State.onLink_mem (n : Nat) (f : Link → Link) : (s.onLink n f).mem = s.mem := rfl
@[simp] theorem State.onLink_free (n : Nat) (f : Link → Link) : (s.onLink n f).free = s.free := rfl
@[simp] theorem State.onLink_rdata (n : Nat) (f : Link → Link) : (s.onLink n f).rdata = s.rdata := rfl
@[simp] theorem State.onLink_rcode (n : Nat) (f : Link → Link) : (s.onLink n f).rcode = s.rcode := rfl
@[simp] theorem State.onLink_sys (n : Nat) (f : Link → Link) : (s.onLink n f).sys = s.sys := rfl
@[simp] theorem State.onLink_ports (n : Nat) (f : Link → Link) : (s.onLink n f).ports = s.ports := rfl
@[simp] theorem State.onLink_comb (n : Nat) (f : Link → Link) : (s.onLink n f).comb = s.comb := rfl
@[simp] theorem State.onLink_an (n : Nat) (f : Link → Link) : (s.onLink n f).an = s.an := rfl
@[simp] theorem State.onLink_clk (n : Nat) (f : Link → Link) : (s.onLink n f).clk = s.clk := rfl
@[simp] theorem State.onLink_grps (n : Nat) (f : Link → Link) : (s.onLink n f).grps = s.grps := rfl
@[simp] theorem State.onLink_tdms (n : Nat) (f : Link → Link) : (s.onLink n f).tdms = s.tdms := rfl
@[simp] theorem State.onLink_pdm (n : Nat) (f : Link → Link) : (s.onLink n f).pdm = s.pdm := rfl
@[simp] theorem State.onLink_sct (n : Nat) (f : Link → Link) : (s.onLink n f).sct = s.sct := rfl
@[simp] theorem State.onLink_cores (n : Nat) (f : Link → Link) : (s.onLink n f).cores = s.cores := rfl
@[simp] theorem State.onLink_dsp (n : Nat) (f : Link → Link) : (s.onLink n f).dsp = s.dsp := rfl
@[simp] theorem State.onLink_bad (n : Nat) (f : Link → Link) : (s.onLink n f).bad = s.bad := rfl
@[simp] theorem State.onLink_wag (n : Nat) (f : Link → Link) : (s.onLink n f).wag = s.wag := rfl
@[simp] theorem State.onLink_clip (n : Nat) (f : Link → Link) : (s.onLink n f).clip = s.clip := rfl
@[simp] theorem State.onLink_madc (n : Nat) (f : Link → Link) : (s.onLink n f).madc = s.madc := rfl
@[simp] theorem State.onLink_lsv (n : Nat) (f : Link → Link) : (s.onLink n f).lsv = s.lsv := rfl
@[simp] theorem State.onLink_flash (n : Nat) (f : Link → Link) : (s.onLink n f).flash = s.flash := rfl
@[simp] theorem State.onLink_img (n : Nat) (f : Link → Link) : (s.onLink n f).img = s.img := rfl
@[simp] theorem State.onLink_bbxQueue (n : Nat) (f : Link → Link) : (s.onLink n f).bbxQueue = s.bbxQueue := rfl
@[simp] theorem State.onLink_otp (n : Nat) (f : Link → Link) : (s.onLink n f).otp = s.otp := rfl
@[simp] theorem State.onLink_mram (n : Nat) (f : Link → Link) : (s.onLink n f).mram = s.mram := rfl
@[simp] theorem State.onLink_kpr (n : Nat) (f : Link → Link) : (s.onLink n f).kpr = s.kpr := rfl
@[simp] theorem State.onLink_swarm (n : Nat) (f : Link → Link) : (s.onLink n f).swarm = s.swarm := rfl

/-! `State.onRx` changes `net` only. -/
@[simp] theorem State.onRx_pending (n : Nat) (f : RxHid → RxHid) : (s.onRx n f).pending = s.pending := rfl
@[simp] theorem State.onRx_regs (n : Nat) (f : RxHid → RxHid) : (s.onRx n f).regs = s.regs := rfl
@[simp] theorem State.onRx_snaps (n : Nat) (f : RxHid → RxHid) : (s.onRx n f).snaps = s.snaps := rfl
@[simp] theorem State.onRx_shadows (n : Nat) (f : RxHid → RxHid) : (s.onRx n f).shadows = s.shadows := rfl
@[simp] theorem State.onRx_holds (n : Nat) (f : RxHid → RxHid) : (s.onRx n f).holds = s.holds := rfl
@[simp] theorem State.onRx_mem (n : Nat) (f : RxHid → RxHid) : (s.onRx n f).mem = s.mem := rfl
@[simp] theorem State.onRx_free (n : Nat) (f : RxHid → RxHid) : (s.onRx n f).free = s.free := rfl
@[simp] theorem State.onRx_rdata (n : Nat) (f : RxHid → RxHid) : (s.onRx n f).rdata = s.rdata := rfl
@[simp] theorem State.onRx_rcode (n : Nat) (f : RxHid → RxHid) : (s.onRx n f).rcode = s.rcode := rfl
@[simp] theorem State.onRx_sys (n : Nat) (f : RxHid → RxHid) : (s.onRx n f).sys = s.sys := rfl
@[simp] theorem State.onRx_ports (n : Nat) (f : RxHid → RxHid) : (s.onRx n f).ports = s.ports := rfl
@[simp] theorem State.onRx_comb (n : Nat) (f : RxHid → RxHid) : (s.onRx n f).comb = s.comb := rfl
@[simp] theorem State.onRx_an (n : Nat) (f : RxHid → RxHid) : (s.onRx n f).an = s.an := rfl
@[simp] theorem State.onRx_clk (n : Nat) (f : RxHid → RxHid) : (s.onRx n f).clk = s.clk := rfl
@[simp] theorem State.onRx_grps (n : Nat) (f : RxHid → RxHid) : (s.onRx n f).grps = s.grps := rfl
@[simp] theorem State.onRx_tdms (n : Nat) (f : RxHid → RxHid) : (s.onRx n f).tdms = s.tdms := rfl
@[simp] theorem State.onRx_pdm (n : Nat) (f : RxHid → RxHid) : (s.onRx n f).pdm = s.pdm := rfl
@[simp] theorem State.onRx_sct (n : Nat) (f : RxHid → RxHid) : (s.onRx n f).sct = s.sct := rfl
@[simp] theorem State.onRx_cores (n : Nat) (f : RxHid → RxHid) : (s.onRx n f).cores = s.cores := rfl
@[simp] theorem State.onRx_dsp (n : Nat) (f : RxHid → RxHid) : (s.onRx n f).dsp = s.dsp := rfl
@[simp] theorem State.onRx_bad (n : Nat) (f : RxHid → RxHid) : (s.onRx n f).bad = s.bad := rfl
@[simp] theorem State.onRx_wag (n : Nat) (f : RxHid → RxHid) : (s.onRx n f).wag = s.wag := rfl
@[simp] theorem State.onRx_clip (n : Nat) (f : RxHid → RxHid) : (s.onRx n f).clip = s.clip := rfl
@[simp] theorem State.onRx_madc (n : Nat) (f : RxHid → RxHid) : (s.onRx n f).madc = s.madc := rfl
@[simp] theorem State.onRx_lsv (n : Nat) (f : RxHid → RxHid) : (s.onRx n f).lsv = s.lsv := rfl
@[simp] theorem State.onRx_flash (n : Nat) (f : RxHid → RxHid) : (s.onRx n f).flash = s.flash := rfl
@[simp] theorem State.onRx_img (n : Nat) (f : RxHid → RxHid) : (s.onRx n f).img = s.img := rfl
@[simp] theorem State.onRx_bbxQueue (n : Nat) (f : RxHid → RxHid) : (s.onRx n f).bbxQueue = s.bbxQueue := rfl
@[simp] theorem State.onRx_otp (n : Nat) (f : RxHid → RxHid) : (s.onRx n f).otp = s.otp := rfl
@[simp] theorem State.onRx_mram (n : Nat) (f : RxHid → RxHid) : (s.onRx n f).mram = s.mram := rfl
@[simp] theorem State.onRx_kpr (n : Nat) (f : RxHid → RxHid) : (s.onRx n f).kpr = s.kpr := rfl
@[simp] theorem State.onRx_swarm (n : Nat) (f : RxHid → RxHid) : (s.onRx n f).swarm = s.swarm := rfl

/-! `State.onTx` changes `net` only. -/
@[simp] theorem State.onTx_pending (n : Nat) (f : TxHid → TxHid) : (s.onTx n f).pending = s.pending := rfl
@[simp] theorem State.onTx_regs (n : Nat) (f : TxHid → TxHid) : (s.onTx n f).regs = s.regs := rfl
@[simp] theorem State.onTx_snaps (n : Nat) (f : TxHid → TxHid) : (s.onTx n f).snaps = s.snaps := rfl
@[simp] theorem State.onTx_shadows (n : Nat) (f : TxHid → TxHid) : (s.onTx n f).shadows = s.shadows := rfl
@[simp] theorem State.onTx_holds (n : Nat) (f : TxHid → TxHid) : (s.onTx n f).holds = s.holds := rfl
@[simp] theorem State.onTx_mem (n : Nat) (f : TxHid → TxHid) : (s.onTx n f).mem = s.mem := rfl
@[simp] theorem State.onTx_free (n : Nat) (f : TxHid → TxHid) : (s.onTx n f).free = s.free := rfl
@[simp] theorem State.onTx_rdata (n : Nat) (f : TxHid → TxHid) : (s.onTx n f).rdata = s.rdata := rfl
@[simp] theorem State.onTx_rcode (n : Nat) (f : TxHid → TxHid) : (s.onTx n f).rcode = s.rcode := rfl
@[simp] theorem State.onTx_sys (n : Nat) (f : TxHid → TxHid) : (s.onTx n f).sys = s.sys := rfl
@[simp] theorem State.onTx_ports (n : Nat) (f : TxHid → TxHid) : (s.onTx n f).ports = s.ports := rfl
@[simp] theorem State.onTx_comb (n : Nat) (f : TxHid → TxHid) : (s.onTx n f).comb = s.comb := rfl
@[simp] theorem State.onTx_an (n : Nat) (f : TxHid → TxHid) : (s.onTx n f).an = s.an := rfl
@[simp] theorem State.onTx_clk (n : Nat) (f : TxHid → TxHid) : (s.onTx n f).clk = s.clk := rfl
@[simp] theorem State.onTx_grps (n : Nat) (f : TxHid → TxHid) : (s.onTx n f).grps = s.grps := rfl
@[simp] theorem State.onTx_tdms (n : Nat) (f : TxHid → TxHid) : (s.onTx n f).tdms = s.tdms := rfl
@[simp] theorem State.onTx_pdm (n : Nat) (f : TxHid → TxHid) : (s.onTx n f).pdm = s.pdm := rfl
@[simp] theorem State.onTx_sct (n : Nat) (f : TxHid → TxHid) : (s.onTx n f).sct = s.sct := rfl
@[simp] theorem State.onTx_cores (n : Nat) (f : TxHid → TxHid) : (s.onTx n f).cores = s.cores := rfl
@[simp] theorem State.onTx_dsp (n : Nat) (f : TxHid → TxHid) : (s.onTx n f).dsp = s.dsp := rfl
@[simp] theorem State.onTx_bad (n : Nat) (f : TxHid → TxHid) : (s.onTx n f).bad = s.bad := rfl
@[simp] theorem State.onTx_wag (n : Nat) (f : TxHid → TxHid) : (s.onTx n f).wag = s.wag := rfl
@[simp] theorem State.onTx_clip (n : Nat) (f : TxHid → TxHid) : (s.onTx n f).clip = s.clip := rfl
@[simp] theorem State.onTx_madc (n : Nat) (f : TxHid → TxHid) : (s.onTx n f).madc = s.madc := rfl
@[simp] theorem State.onTx_lsv (n : Nat) (f : TxHid → TxHid) : (s.onTx n f).lsv = s.lsv := rfl
@[simp] theorem State.onTx_flash (n : Nat) (f : TxHid → TxHid) : (s.onTx n f).flash = s.flash := rfl
@[simp] theorem State.onTx_img (n : Nat) (f : TxHid → TxHid) : (s.onTx n f).img = s.img := rfl
@[simp] theorem State.onTx_bbxQueue (n : Nat) (f : TxHid → TxHid) : (s.onTx n f).bbxQueue = s.bbxQueue := rfl
@[simp] theorem State.onTx_otp (n : Nat) (f : TxHid → TxHid) : (s.onTx n f).otp = s.otp := rfl
@[simp] theorem State.onTx_mram (n : Nat) (f : TxHid → TxHid) : (s.onTx n f).mram = s.mram := rfl
@[simp] theorem State.onTx_kpr (n : Nat) (f : TxHid → TxHid) : (s.onTx n f).kpr = s.kpr := rfl
@[simp] theorem State.onTx_swarm (n : Nat) (f : TxHid → TxHid) : (s.onTx n f).swarm = s.swarm := rfl

/-! `State.onSlot` changes `sct` only. -/
@[simp] theorem State.onSlot_pending (n : Nat) (f : Slot → Slot) : (s.onSlot n f).pending = s.pending := rfl
@[simp] theorem State.onSlot_regs (n : Nat) (f : Slot → Slot) : (s.onSlot n f).regs = s.regs := rfl
@[simp] theorem State.onSlot_snaps (n : Nat) (f : Slot → Slot) : (s.onSlot n f).snaps = s.snaps := rfl
@[simp] theorem State.onSlot_shadows (n : Nat) (f : Slot → Slot) : (s.onSlot n f).shadows = s.shadows := rfl
@[simp] theorem State.onSlot_holds (n : Nat) (f : Slot → Slot) : (s.onSlot n f).holds = s.holds := rfl
@[simp] theorem State.onSlot_mem (n : Nat) (f : Slot → Slot) : (s.onSlot n f).mem = s.mem := rfl
@[simp] theorem State.onSlot_free (n : Nat) (f : Slot → Slot) : (s.onSlot n f).free = s.free := rfl
@[simp] theorem State.onSlot_rdata (n : Nat) (f : Slot → Slot) : (s.onSlot n f).rdata = s.rdata := rfl
@[simp] theorem State.onSlot_rcode (n : Nat) (f : Slot → Slot) : (s.onSlot n f).rcode = s.rcode := rfl
@[simp] theorem State.onSlot_sys (n : Nat) (f : Slot → Slot) : (s.onSlot n f).sys = s.sys := rfl
@[simp] theorem State.onSlot_ports (n : Nat) (f : Slot → Slot) : (s.onSlot n f).ports = s.ports := rfl
@[simp] theorem State.onSlot_comb (n : Nat) (f : Slot → Slot) : (s.onSlot n f).comb = s.comb := rfl
@[simp] theorem State.onSlot_an (n : Nat) (f : Slot → Slot) : (s.onSlot n f).an = s.an := rfl
@[simp] theorem State.onSlot_clk (n : Nat) (f : Slot → Slot) : (s.onSlot n f).clk = s.clk := rfl
@[simp] theorem State.onSlot_grps (n : Nat) (f : Slot → Slot) : (s.onSlot n f).grps = s.grps := rfl
@[simp] theorem State.onSlot_tdms (n : Nat) (f : Slot → Slot) : (s.onSlot n f).tdms = s.tdms := rfl
@[simp] theorem State.onSlot_net (n : Nat) (f : Slot → Slot) : (s.onSlot n f).net = s.net := rfl
@[simp] theorem State.onSlot_pdm (n : Nat) (f : Slot → Slot) : (s.onSlot n f).pdm = s.pdm := rfl
@[simp] theorem State.onSlot_cores (n : Nat) (f : Slot → Slot) : (s.onSlot n f).cores = s.cores := rfl
@[simp] theorem State.onSlot_dsp (n : Nat) (f : Slot → Slot) : (s.onSlot n f).dsp = s.dsp := rfl
@[simp] theorem State.onSlot_bad (n : Nat) (f : Slot → Slot) : (s.onSlot n f).bad = s.bad := rfl
@[simp] theorem State.onSlot_wag (n : Nat) (f : Slot → Slot) : (s.onSlot n f).wag = s.wag := rfl
@[simp] theorem State.onSlot_clip (n : Nat) (f : Slot → Slot) : (s.onSlot n f).clip = s.clip := rfl
@[simp] theorem State.onSlot_madc (n : Nat) (f : Slot → Slot) : (s.onSlot n f).madc = s.madc := rfl
@[simp] theorem State.onSlot_lsv (n : Nat) (f : Slot → Slot) : (s.onSlot n f).lsv = s.lsv := rfl
@[simp] theorem State.onSlot_flash (n : Nat) (f : Slot → Slot) : (s.onSlot n f).flash = s.flash := rfl
@[simp] theorem State.onSlot_img (n : Nat) (f : Slot → Slot) : (s.onSlot n f).img = s.img := rfl
@[simp] theorem State.onSlot_bbxQueue (n : Nat) (f : Slot → Slot) : (s.onSlot n f).bbxQueue = s.bbxQueue := rfl
@[simp] theorem State.onSlot_otp (n : Nat) (f : Slot → Slot) : (s.onSlot n f).otp = s.otp := rfl
@[simp] theorem State.onSlot_mram (n : Nat) (f : Slot → Slot) : (s.onSlot n f).mram = s.mram := rfl
@[simp] theorem State.onSlot_kpr (n : Nat) (f : Slot → Slot) : (s.onSlot n f).kpr = s.kpr := rfl
@[simp] theorem State.onSlot_swarm (n : Nat) (f : Slot → Slot) : (s.onSlot n f).swarm = s.swarm := rfl

/-! `State.onCore` changes `cores` only. -/
@[simp] theorem State.onCore_pending (n : Nat) (f : CoreHid → CoreHid) : (s.onCore n f).pending = s.pending := rfl
@[simp] theorem State.onCore_regs (n : Nat) (f : CoreHid → CoreHid) : (s.onCore n f).regs = s.regs := rfl
@[simp] theorem State.onCore_snaps (n : Nat) (f : CoreHid → CoreHid) : (s.onCore n f).snaps = s.snaps := rfl
@[simp] theorem State.onCore_shadows (n : Nat) (f : CoreHid → CoreHid) : (s.onCore n f).shadows = s.shadows := rfl
@[simp] theorem State.onCore_holds (n : Nat) (f : CoreHid → CoreHid) : (s.onCore n f).holds = s.holds := rfl
@[simp] theorem State.onCore_mem (n : Nat) (f : CoreHid → CoreHid) : (s.onCore n f).mem = s.mem := rfl
@[simp] theorem State.onCore_free (n : Nat) (f : CoreHid → CoreHid) : (s.onCore n f).free = s.free := rfl
@[simp] theorem State.onCore_rdata (n : Nat) (f : CoreHid → CoreHid) : (s.onCore n f).rdata = s.rdata := rfl
@[simp] theorem State.onCore_rcode (n : Nat) (f : CoreHid → CoreHid) : (s.onCore n f).rcode = s.rcode := rfl
@[simp] theorem State.onCore_sys (n : Nat) (f : CoreHid → CoreHid) : (s.onCore n f).sys = s.sys := rfl
@[simp] theorem State.onCore_ports (n : Nat) (f : CoreHid → CoreHid) : (s.onCore n f).ports = s.ports := rfl
@[simp] theorem State.onCore_comb (n : Nat) (f : CoreHid → CoreHid) : (s.onCore n f).comb = s.comb := rfl
@[simp] theorem State.onCore_an (n : Nat) (f : CoreHid → CoreHid) : (s.onCore n f).an = s.an := rfl
@[simp] theorem State.onCore_clk (n : Nat) (f : CoreHid → CoreHid) : (s.onCore n f).clk = s.clk := rfl
@[simp] theorem State.onCore_grps (n : Nat) (f : CoreHid → CoreHid) : (s.onCore n f).grps = s.grps := rfl
@[simp] theorem State.onCore_tdms (n : Nat) (f : CoreHid → CoreHid) : (s.onCore n f).tdms = s.tdms := rfl
@[simp] theorem State.onCore_net (n : Nat) (f : CoreHid → CoreHid) : (s.onCore n f).net = s.net := rfl
@[simp] theorem State.onCore_pdm (n : Nat) (f : CoreHid → CoreHid) : (s.onCore n f).pdm = s.pdm := rfl
@[simp] theorem State.onCore_sct (n : Nat) (f : CoreHid → CoreHid) : (s.onCore n f).sct = s.sct := rfl
@[simp] theorem State.onCore_dsp (n : Nat) (f : CoreHid → CoreHid) : (s.onCore n f).dsp = s.dsp := rfl
@[simp] theorem State.onCore_bad (n : Nat) (f : CoreHid → CoreHid) : (s.onCore n f).bad = s.bad := rfl
@[simp] theorem State.onCore_wag (n : Nat) (f : CoreHid → CoreHid) : (s.onCore n f).wag = s.wag := rfl
@[simp] theorem State.onCore_clip (n : Nat) (f : CoreHid → CoreHid) : (s.onCore n f).clip = s.clip := rfl
@[simp] theorem State.onCore_madc (n : Nat) (f : CoreHid → CoreHid) : (s.onCore n f).madc = s.madc := rfl
@[simp] theorem State.onCore_lsv (n : Nat) (f : CoreHid → CoreHid) : (s.onCore n f).lsv = s.lsv := rfl
@[simp] theorem State.onCore_flash (n : Nat) (f : CoreHid → CoreHid) : (s.onCore n f).flash = s.flash := rfl
@[simp] theorem State.onCore_img (n : Nat) (f : CoreHid → CoreHid) : (s.onCore n f).img = s.img := rfl
@[simp] theorem State.onCore_bbxQueue (n : Nat) (f : CoreHid → CoreHid) : (s.onCore n f).bbxQueue = s.bbxQueue := rfl
@[simp] theorem State.onCore_otp (n : Nat) (f : CoreHid → CoreHid) : (s.onCore n f).otp = s.otp := rfl
@[simp] theorem State.onCore_mram (n : Nat) (f : CoreHid → CoreHid) : (s.onCore n f).mram = s.mram := rfl
@[simp] theorem State.onCore_kpr (n : Nat) (f : CoreHid → CoreHid) : (s.onCore n f).kpr = s.kpr := rfl
@[simp] theorem State.onCore_swarm (n : Nat) (f : CoreHid → CoreHid) : (s.onCore n f).swarm = s.swarm := rfl

/-! `State.onVoice` changes `clip` only. -/
@[simp] theorem State.onVoice_pending (n : Nat) (f : Voice → Voice) : (s.onVoice n f).pending = s.pending := rfl
@[simp] theorem State.onVoice_regs (n : Nat) (f : Voice → Voice) : (s.onVoice n f).regs = s.regs := rfl
@[simp] theorem State.onVoice_snaps (n : Nat) (f : Voice → Voice) : (s.onVoice n f).snaps = s.snaps := rfl
@[simp] theorem State.onVoice_shadows (n : Nat) (f : Voice → Voice) : (s.onVoice n f).shadows = s.shadows := rfl
@[simp] theorem State.onVoice_holds (n : Nat) (f : Voice → Voice) : (s.onVoice n f).holds = s.holds := rfl
@[simp] theorem State.onVoice_mem (n : Nat) (f : Voice → Voice) : (s.onVoice n f).mem = s.mem := rfl
@[simp] theorem State.onVoice_free (n : Nat) (f : Voice → Voice) : (s.onVoice n f).free = s.free := rfl
@[simp] theorem State.onVoice_rdata (n : Nat) (f : Voice → Voice) : (s.onVoice n f).rdata = s.rdata := rfl
@[simp] theorem State.onVoice_rcode (n : Nat) (f : Voice → Voice) : (s.onVoice n f).rcode = s.rcode := rfl
@[simp] theorem State.onVoice_sys (n : Nat) (f : Voice → Voice) : (s.onVoice n f).sys = s.sys := rfl
@[simp] theorem State.onVoice_ports (n : Nat) (f : Voice → Voice) : (s.onVoice n f).ports = s.ports := rfl
@[simp] theorem State.onVoice_comb (n : Nat) (f : Voice → Voice) : (s.onVoice n f).comb = s.comb := rfl
@[simp] theorem State.onVoice_an (n : Nat) (f : Voice → Voice) : (s.onVoice n f).an = s.an := rfl
@[simp] theorem State.onVoice_clk (n : Nat) (f : Voice → Voice) : (s.onVoice n f).clk = s.clk := rfl
@[simp] theorem State.onVoice_grps (n : Nat) (f : Voice → Voice) : (s.onVoice n f).grps = s.grps := rfl
@[simp] theorem State.onVoice_tdms (n : Nat) (f : Voice → Voice) : (s.onVoice n f).tdms = s.tdms := rfl
@[simp] theorem State.onVoice_net (n : Nat) (f : Voice → Voice) : (s.onVoice n f).net = s.net := rfl
@[simp] theorem State.onVoice_pdm (n : Nat) (f : Voice → Voice) : (s.onVoice n f).pdm = s.pdm := rfl
@[simp] theorem State.onVoice_sct (n : Nat) (f : Voice → Voice) : (s.onVoice n f).sct = s.sct := rfl
@[simp] theorem State.onVoice_cores (n : Nat) (f : Voice → Voice) : (s.onVoice n f).cores = s.cores := rfl
@[simp] theorem State.onVoice_dsp (n : Nat) (f : Voice → Voice) : (s.onVoice n f).dsp = s.dsp := rfl
@[simp] theorem State.onVoice_bad (n : Nat) (f : Voice → Voice) : (s.onVoice n f).bad = s.bad := rfl
@[simp] theorem State.onVoice_wag (n : Nat) (f : Voice → Voice) : (s.onVoice n f).wag = s.wag := rfl
@[simp] theorem State.onVoice_madc (n : Nat) (f : Voice → Voice) : (s.onVoice n f).madc = s.madc := rfl
@[simp] theorem State.onVoice_lsv (n : Nat) (f : Voice → Voice) : (s.onVoice n f).lsv = s.lsv := rfl
@[simp] theorem State.onVoice_flash (n : Nat) (f : Voice → Voice) : (s.onVoice n f).flash = s.flash := rfl
@[simp] theorem State.onVoice_img (n : Nat) (f : Voice → Voice) : (s.onVoice n f).img = s.img := rfl
@[simp] theorem State.onVoice_bbxQueue (n : Nat) (f : Voice → Voice) : (s.onVoice n f).bbxQueue = s.bbxQueue := rfl
@[simp] theorem State.onVoice_otp (n : Nat) (f : Voice → Voice) : (s.onVoice n f).otp = s.otp := rfl
@[simp] theorem State.onVoice_mram (n : Nat) (f : Voice → Voice) : (s.onVoice n f).mram = s.mram := rfl
@[simp] theorem State.onVoice_kpr (n : Nat) (f : Voice → Voice) : (s.onVoice n f).kpr = s.kpr := rfl
@[simp] theorem State.onVoice_swarm (n : Nat) (f : Voice → Voice) : (s.onVoice n f).swarm = s.swarm := rfl

/-! `State.onTone` changes `clip` only. -/
@[simp] theorem State.onTone_pending (n : Nat) (f : Tone → Tone) : (s.onTone n f).pending = s.pending := rfl
@[simp] theorem State.onTone_regs (n : Nat) (f : Tone → Tone) : (s.onTone n f).regs = s.regs := rfl
@[simp] theorem State.onTone_snaps (n : Nat) (f : Tone → Tone) : (s.onTone n f).snaps = s.snaps := rfl
@[simp] theorem State.onTone_shadows (n : Nat) (f : Tone → Tone) : (s.onTone n f).shadows = s.shadows := rfl
@[simp] theorem State.onTone_holds (n : Nat) (f : Tone → Tone) : (s.onTone n f).holds = s.holds := rfl
@[simp] theorem State.onTone_mem (n : Nat) (f : Tone → Tone) : (s.onTone n f).mem = s.mem := rfl
@[simp] theorem State.onTone_free (n : Nat) (f : Tone → Tone) : (s.onTone n f).free = s.free := rfl
@[simp] theorem State.onTone_rdata (n : Nat) (f : Tone → Tone) : (s.onTone n f).rdata = s.rdata := rfl
@[simp] theorem State.onTone_rcode (n : Nat) (f : Tone → Tone) : (s.onTone n f).rcode = s.rcode := rfl
@[simp] theorem State.onTone_sys (n : Nat) (f : Tone → Tone) : (s.onTone n f).sys = s.sys := rfl
@[simp] theorem State.onTone_ports (n : Nat) (f : Tone → Tone) : (s.onTone n f).ports = s.ports := rfl
@[simp] theorem State.onTone_comb (n : Nat) (f : Tone → Tone) : (s.onTone n f).comb = s.comb := rfl
@[simp] theorem State.onTone_an (n : Nat) (f : Tone → Tone) : (s.onTone n f).an = s.an := rfl
@[simp] theorem State.onTone_clk (n : Nat) (f : Tone → Tone) : (s.onTone n f).clk = s.clk := rfl
@[simp] theorem State.onTone_grps (n : Nat) (f : Tone → Tone) : (s.onTone n f).grps = s.grps := rfl
@[simp] theorem State.onTone_tdms (n : Nat) (f : Tone → Tone) : (s.onTone n f).tdms = s.tdms := rfl
@[simp] theorem State.onTone_net (n : Nat) (f : Tone → Tone) : (s.onTone n f).net = s.net := rfl
@[simp] theorem State.onTone_pdm (n : Nat) (f : Tone → Tone) : (s.onTone n f).pdm = s.pdm := rfl
@[simp] theorem State.onTone_sct (n : Nat) (f : Tone → Tone) : (s.onTone n f).sct = s.sct := rfl
@[simp] theorem State.onTone_cores (n : Nat) (f : Tone → Tone) : (s.onTone n f).cores = s.cores := rfl
@[simp] theorem State.onTone_dsp (n : Nat) (f : Tone → Tone) : (s.onTone n f).dsp = s.dsp := rfl
@[simp] theorem State.onTone_bad (n : Nat) (f : Tone → Tone) : (s.onTone n f).bad = s.bad := rfl
@[simp] theorem State.onTone_wag (n : Nat) (f : Tone → Tone) : (s.onTone n f).wag = s.wag := rfl
@[simp] theorem State.onTone_madc (n : Nat) (f : Tone → Tone) : (s.onTone n f).madc = s.madc := rfl
@[simp] theorem State.onTone_lsv (n : Nat) (f : Tone → Tone) : (s.onTone n f).lsv = s.lsv := rfl
@[simp] theorem State.onTone_flash (n : Nat) (f : Tone → Tone) : (s.onTone n f).flash = s.flash := rfl
@[simp] theorem State.onTone_img (n : Nat) (f : Tone → Tone) : (s.onTone n f).img = s.img := rfl
@[simp] theorem State.onTone_bbxQueue (n : Nat) (f : Tone → Tone) : (s.onTone n f).bbxQueue = s.bbxQueue := rfl
@[simp] theorem State.onTone_otp (n : Nat) (f : Tone → Tone) : (s.onTone n f).otp = s.otp := rfl
@[simp] theorem State.onTone_mram (n : Nat) (f : Tone → Tone) : (s.onTone n f).mram = s.mram := rfl
@[simp] theorem State.onTone_kpr (n : Nat) (f : Tone → Tone) : (s.onTone n f).kpr = s.kpr := rfl
@[simp] theorem State.onTone_swarm (n : Nat) (f : Tone → Tone) : (s.onTone n f).swarm = s.swarm := rfl

/-! `State.onMadc` changes `madc` only. -/
@[simp] theorem State.onMadc_pending (n : Nat) (f : Madc → Madc) : (s.onMadc n f).pending = s.pending := rfl
@[simp] theorem State.onMadc_regs (n : Nat) (f : Madc → Madc) : (s.onMadc n f).regs = s.regs := rfl
@[simp] theorem State.onMadc_snaps (n : Nat) (f : Madc → Madc) : (s.onMadc n f).snaps = s.snaps := rfl
@[simp] theorem State.onMadc_shadows (n : Nat) (f : Madc → Madc) : (s.onMadc n f).shadows = s.shadows := rfl
@[simp] theorem State.onMadc_holds (n : Nat) (f : Madc → Madc) : (s.onMadc n f).holds = s.holds := rfl
@[simp] theorem State.onMadc_mem (n : Nat) (f : Madc → Madc) : (s.onMadc n f).mem = s.mem := rfl
@[simp] theorem State.onMadc_free (n : Nat) (f : Madc → Madc) : (s.onMadc n f).free = s.free := rfl
@[simp] theorem State.onMadc_rdata (n : Nat) (f : Madc → Madc) : (s.onMadc n f).rdata = s.rdata := rfl
@[simp] theorem State.onMadc_rcode (n : Nat) (f : Madc → Madc) : (s.onMadc n f).rcode = s.rcode := rfl
@[simp] theorem State.onMadc_sys (n : Nat) (f : Madc → Madc) : (s.onMadc n f).sys = s.sys := rfl
@[simp] theorem State.onMadc_ports (n : Nat) (f : Madc → Madc) : (s.onMadc n f).ports = s.ports := rfl
@[simp] theorem State.onMadc_comb (n : Nat) (f : Madc → Madc) : (s.onMadc n f).comb = s.comb := rfl
@[simp] theorem State.onMadc_an (n : Nat) (f : Madc → Madc) : (s.onMadc n f).an = s.an := rfl
@[simp] theorem State.onMadc_clk (n : Nat) (f : Madc → Madc) : (s.onMadc n f).clk = s.clk := rfl
@[simp] theorem State.onMadc_grps (n : Nat) (f : Madc → Madc) : (s.onMadc n f).grps = s.grps := rfl
@[simp] theorem State.onMadc_tdms (n : Nat) (f : Madc → Madc) : (s.onMadc n f).tdms = s.tdms := rfl
@[simp] theorem State.onMadc_net (n : Nat) (f : Madc → Madc) : (s.onMadc n f).net = s.net := rfl
@[simp] theorem State.onMadc_pdm (n : Nat) (f : Madc → Madc) : (s.onMadc n f).pdm = s.pdm := rfl
@[simp] theorem State.onMadc_sct (n : Nat) (f : Madc → Madc) : (s.onMadc n f).sct = s.sct := rfl
@[simp] theorem State.onMadc_cores (n : Nat) (f : Madc → Madc) : (s.onMadc n f).cores = s.cores := rfl
@[simp] theorem State.onMadc_dsp (n : Nat) (f : Madc → Madc) : (s.onMadc n f).dsp = s.dsp := rfl
@[simp] theorem State.onMadc_bad (n : Nat) (f : Madc → Madc) : (s.onMadc n f).bad = s.bad := rfl
@[simp] theorem State.onMadc_wag (n : Nat) (f : Madc → Madc) : (s.onMadc n f).wag = s.wag := rfl
@[simp] theorem State.onMadc_clip (n : Nat) (f : Madc → Madc) : (s.onMadc n f).clip = s.clip := rfl
@[simp] theorem State.onMadc_lsv (n : Nat) (f : Madc → Madc) : (s.onMadc n f).lsv = s.lsv := rfl
@[simp] theorem State.onMadc_flash (n : Nat) (f : Madc → Madc) : (s.onMadc n f).flash = s.flash := rfl
@[simp] theorem State.onMadc_img (n : Nat) (f : Madc → Madc) : (s.onMadc n f).img = s.img := rfl
@[simp] theorem State.onMadc_bbxQueue (n : Nat) (f : Madc → Madc) : (s.onMadc n f).bbxQueue = s.bbxQueue := rfl
@[simp] theorem State.onMadc_otp (n : Nat) (f : Madc → Madc) : (s.onMadc n f).otp = s.otp := rfl
@[simp] theorem State.onMadc_mram (n : Nat) (f : Madc → Madc) : (s.onMadc n f).mram = s.mram := rfl
@[simp] theorem State.onMadc_kpr (n : Nat) (f : Madc → Madc) : (s.onMadc n f).kpr = s.kpr := rfl
@[simp] theorem State.onMadc_swarm (n : Nat) (f : Madc → Madc) : (s.onMadc n f).swarm = s.swarm := rfl

/-! `State.storeWord` changes `mem`, `bad` only. -/
@[simp] theorem State.storeWord_pending (a : Nat) (w : Word) : (s.storeWord a w).pending = s.pending := rfl
@[simp] theorem State.storeWord_regs (a : Nat) (w : Word) : (s.storeWord a w).regs = s.regs := rfl
@[simp] theorem State.storeWord_snaps (a : Nat) (w : Word) : (s.storeWord a w).snaps = s.snaps := rfl
@[simp] theorem State.storeWord_shadows (a : Nat) (w : Word) : (s.storeWord a w).shadows = s.shadows := rfl
@[simp] theorem State.storeWord_holds (a : Nat) (w : Word) : (s.storeWord a w).holds = s.holds := rfl
@[simp] theorem State.storeWord_free (a : Nat) (w : Word) : (s.storeWord a w).free = s.free := rfl
@[simp] theorem State.storeWord_rdata (a : Nat) (w : Word) : (s.storeWord a w).rdata = s.rdata := rfl
@[simp] theorem State.storeWord_rcode (a : Nat) (w : Word) : (s.storeWord a w).rcode = s.rcode := rfl
@[simp] theorem State.storeWord_sys (a : Nat) (w : Word) : (s.storeWord a w).sys = s.sys := rfl
@[simp] theorem State.storeWord_ports (a : Nat) (w : Word) : (s.storeWord a w).ports = s.ports := rfl
@[simp] theorem State.storeWord_comb (a : Nat) (w : Word) : (s.storeWord a w).comb = s.comb := rfl
@[simp] theorem State.storeWord_an (a : Nat) (w : Word) : (s.storeWord a w).an = s.an := rfl
@[simp] theorem State.storeWord_clk (a : Nat) (w : Word) : (s.storeWord a w).clk = s.clk := rfl
@[simp] theorem State.storeWord_grps (a : Nat) (w : Word) : (s.storeWord a w).grps = s.grps := rfl
@[simp] theorem State.storeWord_tdms (a : Nat) (w : Word) : (s.storeWord a w).tdms = s.tdms := rfl
@[simp] theorem State.storeWord_net (a : Nat) (w : Word) : (s.storeWord a w).net = s.net := rfl
@[simp] theorem State.storeWord_pdm (a : Nat) (w : Word) : (s.storeWord a w).pdm = s.pdm := rfl
@[simp] theorem State.storeWord_sct (a : Nat) (w : Word) : (s.storeWord a w).sct = s.sct := rfl
@[simp] theorem State.storeWord_cores (a : Nat) (w : Word) : (s.storeWord a w).cores = s.cores := rfl
@[simp] theorem State.storeWord_dsp (a : Nat) (w : Word) : (s.storeWord a w).dsp = s.dsp := rfl
@[simp] theorem State.storeWord_wag (a : Nat) (w : Word) : (s.storeWord a w).wag = s.wag := rfl
@[simp] theorem State.storeWord_clip (a : Nat) (w : Word) : (s.storeWord a w).clip = s.clip := rfl
@[simp] theorem State.storeWord_madc (a : Nat) (w : Word) : (s.storeWord a w).madc = s.madc := rfl
@[simp] theorem State.storeWord_lsv (a : Nat) (w : Word) : (s.storeWord a w).lsv = s.lsv := rfl
@[simp] theorem State.storeWord_flash (a : Nat) (w : Word) : (s.storeWord a w).flash = s.flash := rfl
@[simp] theorem State.storeWord_img (a : Nat) (w : Word) : (s.storeWord a w).img = s.img := rfl
@[simp] theorem State.storeWord_bbxQueue (a : Nat) (w : Word) : (s.storeWord a w).bbxQueue = s.bbxQueue := rfl
@[simp] theorem State.storeWord_otp (a : Nat) (w : Word) : (s.storeWord a w).otp = s.otp := rfl
@[simp] theorem State.storeWord_mram (a : Nat) (w : Word) : (s.storeWord a w).mram = s.mram := rfl
@[simp] theorem State.storeWord_kpr (a : Nat) (w : Word) : (s.storeWord a w).kpr = s.kpr := rfl
@[simp] theorem State.storeWord_swarm (a : Nat) (w : Word) : (s.storeWord a w).swarm = s.swarm := rfl

/-! `State.zeroMem` changes `mem`, `bad` only. -/
@[simp] theorem State.zeroMem_pending (a b : Nat) : (s.zeroMem a b).pending = s.pending := rfl
@[simp] theorem State.zeroMem_regs (a b : Nat) : (s.zeroMem a b).regs = s.regs := rfl
@[simp] theorem State.zeroMem_snaps (a b : Nat) : (s.zeroMem a b).snaps = s.snaps := rfl
@[simp] theorem State.zeroMem_shadows (a b : Nat) : (s.zeroMem a b).shadows = s.shadows := rfl
@[simp] theorem State.zeroMem_holds (a b : Nat) : (s.zeroMem a b).holds = s.holds := rfl
@[simp] theorem State.zeroMem_free (a b : Nat) : (s.zeroMem a b).free = s.free := rfl
@[simp] theorem State.zeroMem_rdata (a b : Nat) : (s.zeroMem a b).rdata = s.rdata := rfl
@[simp] theorem State.zeroMem_rcode (a b : Nat) : (s.zeroMem a b).rcode = s.rcode := rfl
@[simp] theorem State.zeroMem_sys (a b : Nat) : (s.zeroMem a b).sys = s.sys := rfl
@[simp] theorem State.zeroMem_ports (a b : Nat) : (s.zeroMem a b).ports = s.ports := rfl
@[simp] theorem State.zeroMem_comb (a b : Nat) : (s.zeroMem a b).comb = s.comb := rfl
@[simp] theorem State.zeroMem_an (a b : Nat) : (s.zeroMem a b).an = s.an := rfl
@[simp] theorem State.zeroMem_clk (a b : Nat) : (s.zeroMem a b).clk = s.clk := rfl
@[simp] theorem State.zeroMem_grps (a b : Nat) : (s.zeroMem a b).grps = s.grps := rfl
@[simp] theorem State.zeroMem_tdms (a b : Nat) : (s.zeroMem a b).tdms = s.tdms := rfl
@[simp] theorem State.zeroMem_net (a b : Nat) : (s.zeroMem a b).net = s.net := rfl
@[simp] theorem State.zeroMem_pdm (a b : Nat) : (s.zeroMem a b).pdm = s.pdm := rfl
@[simp] theorem State.zeroMem_sct (a b : Nat) : (s.zeroMem a b).sct = s.sct := rfl
@[simp] theorem State.zeroMem_cores (a b : Nat) : (s.zeroMem a b).cores = s.cores := rfl
@[simp] theorem State.zeroMem_dsp (a b : Nat) : (s.zeroMem a b).dsp = s.dsp := rfl
@[simp] theorem State.zeroMem_wag (a b : Nat) : (s.zeroMem a b).wag = s.wag := rfl
@[simp] theorem State.zeroMem_clip (a b : Nat) : (s.zeroMem a b).clip = s.clip := rfl
@[simp] theorem State.zeroMem_madc (a b : Nat) : (s.zeroMem a b).madc = s.madc := rfl
@[simp] theorem State.zeroMem_lsv (a b : Nat) : (s.zeroMem a b).lsv = s.lsv := rfl
@[simp] theorem State.zeroMem_flash (a b : Nat) : (s.zeroMem a b).flash = s.flash := rfl
@[simp] theorem State.zeroMem_img (a b : Nat) : (s.zeroMem a b).img = s.img := rfl
@[simp] theorem State.zeroMem_bbxQueue (a b : Nat) : (s.zeroMem a b).bbxQueue = s.bbxQueue := rfl
@[simp] theorem State.zeroMem_otp (a b : Nat) : (s.zeroMem a b).otp = s.otp := rfl
@[simp] theorem State.zeroMem_mram (a b : Nat) : (s.zeroMem a b).mram = s.mram := rfl
@[simp] theorem State.zeroMem_kpr (a b : Nat) : (s.zeroMem a b).kpr = s.kpr := rfl
@[simp] theorem State.zeroMem_swarm (a b : Nat) : (s.zeroMem a b).swarm = s.swarm := rfl

/-! `State.answered` changes `rcode` only. -/
@[simp] theorem State.answered_pending (c : Code) : (s.answered c).pending = s.pending := rfl
@[simp] theorem State.answered_regs (c : Code) : (s.answered c).regs = s.regs := rfl
@[simp] theorem State.answered_snaps (c : Code) : (s.answered c).snaps = s.snaps := rfl
@[simp] theorem State.answered_shadows (c : Code) : (s.answered c).shadows = s.shadows := rfl
@[simp] theorem State.answered_holds (c : Code) : (s.answered c).holds = s.holds := rfl
@[simp] theorem State.answered_mem (c : Code) : (s.answered c).mem = s.mem := rfl
@[simp] theorem State.answered_free (c : Code) : (s.answered c).free = s.free := rfl
@[simp] theorem State.answered_rdata (c : Code) : (s.answered c).rdata = s.rdata := rfl
@[simp] theorem State.answered_sys (c : Code) : (s.answered c).sys = s.sys := rfl
@[simp] theorem State.answered_ports (c : Code) : (s.answered c).ports = s.ports := rfl
@[simp] theorem State.answered_comb (c : Code) : (s.answered c).comb = s.comb := rfl
@[simp] theorem State.answered_an (c : Code) : (s.answered c).an = s.an := rfl
@[simp] theorem State.answered_clk (c : Code) : (s.answered c).clk = s.clk := rfl
@[simp] theorem State.answered_grps (c : Code) : (s.answered c).grps = s.grps := rfl
@[simp] theorem State.answered_tdms (c : Code) : (s.answered c).tdms = s.tdms := rfl
@[simp] theorem State.answered_net (c : Code) : (s.answered c).net = s.net := rfl
@[simp] theorem State.answered_pdm (c : Code) : (s.answered c).pdm = s.pdm := rfl
@[simp] theorem State.answered_sct (c : Code) : (s.answered c).sct = s.sct := rfl
@[simp] theorem State.answered_cores (c : Code) : (s.answered c).cores = s.cores := rfl
@[simp] theorem State.answered_dsp (c : Code) : (s.answered c).dsp = s.dsp := rfl
@[simp] theorem State.answered_bad (c : Code) : (s.answered c).bad = s.bad := rfl
@[simp] theorem State.answered_wag (c : Code) : (s.answered c).wag = s.wag := rfl
@[simp] theorem State.answered_clip (c : Code) : (s.answered c).clip = s.clip := rfl
@[simp] theorem State.answered_madc (c : Code) : (s.answered c).madc = s.madc := rfl
@[simp] theorem State.answered_lsv (c : Code) : (s.answered c).lsv = s.lsv := rfl
@[simp] theorem State.answered_flash (c : Code) : (s.answered c).flash = s.flash := rfl
@[simp] theorem State.answered_img (c : Code) : (s.answered c).img = s.img := rfl
@[simp] theorem State.answered_bbxQueue (c : Code) : (s.answered c).bbxQueue = s.bbxQueue := rfl
@[simp] theorem State.answered_otp (c : Code) : (s.answered c).otp = s.otp := rfl
@[simp] theorem State.answered_mram (c : Code) : (s.answered c).mram = s.mram := rfl
@[simp] theorem State.answered_kpr (c : Code) : (s.answered c).kpr = s.kpr := rfl
@[simp] theorem State.answered_swarm (c : Code) : (s.answered c).swarm = s.swarm := rfl

/-! `State.store` changes the register file only. -/
@[simp] theorem State.store_pending (a : Nat) (v : Word) : (s.store a v).pending = s.pending := by unfold State.store; split <;> rfl
@[simp] theorem State.store_snaps (a : Nat) (v : Word) : (s.store a v).snaps = s.snaps := by unfold State.store; split <;> rfl
@[simp] theorem State.store_shadows (a : Nat) (v : Word) : (s.store a v).shadows = s.shadows := by unfold State.store; split <;> rfl
@[simp] theorem State.store_holds (a : Nat) (v : Word) : (s.store a v).holds = s.holds := by unfold State.store; split <;> rfl
@[simp] theorem State.store_mem (a : Nat) (v : Word) : (s.store a v).mem = s.mem := by unfold State.store; split <;> rfl
@[simp] theorem State.store_free (a : Nat) (v : Word) : (s.store a v).free = s.free := by unfold State.store; split <;> rfl
@[simp] theorem State.store_rdata (a : Nat) (v : Word) : (s.store a v).rdata = s.rdata := by unfold State.store; split <;> rfl
@[simp] theorem State.store_rcode (a : Nat) (v : Word) : (s.store a v).rcode = s.rcode := by unfold State.store; split <;> rfl
@[simp] theorem State.store_sys (a : Nat) (v : Word) : (s.store a v).sys = s.sys := by unfold State.store; split <;> rfl
@[simp] theorem State.store_ports (a : Nat) (v : Word) : (s.store a v).ports = s.ports := by unfold State.store; split <;> rfl
@[simp] theorem State.store_comb (a : Nat) (v : Word) : (s.store a v).comb = s.comb := by unfold State.store; split <;> rfl
@[simp] theorem State.store_an (a : Nat) (v : Word) : (s.store a v).an = s.an := by unfold State.store; split <;> rfl
@[simp] theorem State.store_clk (a : Nat) (v : Word) : (s.store a v).clk = s.clk := by unfold State.store; split <;> rfl
@[simp] theorem State.store_grps (a : Nat) (v : Word) : (s.store a v).grps = s.grps := by unfold State.store; split <;> rfl
@[simp] theorem State.store_tdms (a : Nat) (v : Word) : (s.store a v).tdms = s.tdms := by unfold State.store; split <;> rfl
@[simp] theorem State.store_net (a : Nat) (v : Word) : (s.store a v).net = s.net := by unfold State.store; split <;> rfl
@[simp] theorem State.store_pdm (a : Nat) (v : Word) : (s.store a v).pdm = s.pdm := by unfold State.store; split <;> rfl
@[simp] theorem State.store_sct (a : Nat) (v : Word) : (s.store a v).sct = s.sct := by unfold State.store; split <;> rfl
@[simp] theorem State.store_cores (a : Nat) (v : Word) : (s.store a v).cores = s.cores := by unfold State.store; split <;> rfl
@[simp] theorem State.store_dsp (a : Nat) (v : Word) : (s.store a v).dsp = s.dsp := by unfold State.store; split <;> rfl
@[simp] theorem State.store_bad (a : Nat) (v : Word) : (s.store a v).bad = s.bad := by unfold State.store; split <;> rfl
@[simp] theorem State.store_wag (a : Nat) (v : Word) : (s.store a v).wag = s.wag := by unfold State.store; split <;> rfl
@[simp] theorem State.store_clip (a : Nat) (v : Word) : (s.store a v).clip = s.clip := by unfold State.store; split <;> rfl
@[simp] theorem State.store_madc (a : Nat) (v : Word) : (s.store a v).madc = s.madc := by unfold State.store; split <;> rfl
@[simp] theorem State.store_lsv (a : Nat) (v : Word) : (s.store a v).lsv = s.lsv := by unfold State.store; split <;> rfl
@[simp] theorem State.store_flash (a : Nat) (v : Word) : (s.store a v).flash = s.flash := by unfold State.store; split <;> rfl
@[simp] theorem State.store_img (a : Nat) (v : Word) : (s.store a v).img = s.img := by unfold State.store; split <;> rfl
@[simp] theorem State.store_bbxQueue (a : Nat) (v : Word) : (s.store a v).bbxQueue = s.bbxQueue := by unfold State.store; split <;> rfl
@[simp] theorem State.store_otp (a : Nat) (v : Word) : (s.store a v).otp = s.otp := by unfold State.store; split <;> rfl
@[simp] theorem State.store_mram (a : Nat) (v : Word) : (s.store a v).mram = s.mram := by unfold State.store; split <;> rfl
@[simp] theorem State.store_kpr (a : Nat) (v : Word) : (s.store a v).kpr = s.kpr := by unfold State.store; split <;> rfl
@[simp] theorem State.store_swarm (a : Nat) (v : Word) : (s.store a v).swarm = s.swarm := by unfold State.store; split <;> rfl

/-! `State.queueRec` changes the queue of records, its counter and ERR_CNT only. -/
@[simp] theorem State.queueRec_pending (r : BbxRec) : (s.queueRec r).pending = s.pending := by
  unfold State.queueRec; split
  · rfl
  · dsimp only; split <;> rfl
@[simp] theorem State.queueRec_snaps (r : BbxRec) : (s.queueRec r).snaps = s.snaps := by
  unfold State.queueRec; split
  · rfl
  · dsimp only; split <;> rfl
@[simp] theorem State.queueRec_shadows (r : BbxRec) : (s.queueRec r).shadows = s.shadows := by
  unfold State.queueRec; split
  · rfl
  · dsimp only; split <;> rfl
@[simp] theorem State.queueRec_holds (r : BbxRec) : (s.queueRec r).holds = s.holds := by
  unfold State.queueRec; split
  · rfl
  · dsimp only; split <;> rfl
@[simp] theorem State.queueRec_mem (r : BbxRec) : (s.queueRec r).mem = s.mem := by
  unfold State.queueRec; split
  · rfl
  · dsimp only; split <;> rfl
@[simp] theorem State.queueRec_free (r : BbxRec) : (s.queueRec r).free = s.free := by
  unfold State.queueRec; split
  · rfl
  · dsimp only; split <;> rfl
@[simp] theorem State.queueRec_rdata (r : BbxRec) : (s.queueRec r).rdata = s.rdata := by
  unfold State.queueRec; split
  · rfl
  · dsimp only; split <;> rfl
@[simp] theorem State.queueRec_rcode (r : BbxRec) : (s.queueRec r).rcode = s.rcode := by
  unfold State.queueRec; split
  · rfl
  · dsimp only; split <;> rfl
@[simp] theorem State.queueRec_sys (r : BbxRec) : (s.queueRec r).sys = s.sys := by
  unfold State.queueRec; split
  · rfl
  · dsimp only; split <;> rfl
@[simp] theorem State.queueRec_ports (r : BbxRec) : (s.queueRec r).ports = s.ports := by
  unfold State.queueRec; split
  · rfl
  · dsimp only; split <;> rfl
@[simp] theorem State.queueRec_comb (r : BbxRec) : (s.queueRec r).comb = s.comb := by
  unfold State.queueRec; split
  · rfl
  · dsimp only; split <;> rfl
@[simp] theorem State.queueRec_an (r : BbxRec) : (s.queueRec r).an = s.an := by
  unfold State.queueRec; split
  · rfl
  · dsimp only; split <;> rfl
@[simp] theorem State.queueRec_clk (r : BbxRec) : (s.queueRec r).clk = s.clk := by
  unfold State.queueRec; split
  · rfl
  · dsimp only; split <;> rfl
@[simp] theorem State.queueRec_grps (r : BbxRec) : (s.queueRec r).grps = s.grps := by
  unfold State.queueRec; split
  · rfl
  · dsimp only; split <;> rfl
@[simp] theorem State.queueRec_tdms (r : BbxRec) : (s.queueRec r).tdms = s.tdms := by
  unfold State.queueRec; split
  · rfl
  · dsimp only; split <;> rfl
@[simp] theorem State.queueRec_net (r : BbxRec) : (s.queueRec r).net = s.net := by
  unfold State.queueRec; split
  · rfl
  · dsimp only; split <;> rfl
@[simp] theorem State.queueRec_pdm (r : BbxRec) : (s.queueRec r).pdm = s.pdm := by
  unfold State.queueRec; split
  · rfl
  · dsimp only; split <;> rfl
@[simp] theorem State.queueRec_sct (r : BbxRec) : (s.queueRec r).sct = s.sct := by
  unfold State.queueRec; split
  · rfl
  · dsimp only; split <;> rfl
@[simp] theorem State.queueRec_cores (r : BbxRec) : (s.queueRec r).cores = s.cores := by
  unfold State.queueRec; split
  · rfl
  · dsimp only; split <;> rfl
@[simp] theorem State.queueRec_dsp (r : BbxRec) : (s.queueRec r).dsp = s.dsp := by
  unfold State.queueRec; split
  · rfl
  · dsimp only; split <;> rfl
@[simp] theorem State.queueRec_bad (r : BbxRec) : (s.queueRec r).bad = s.bad := by
  unfold State.queueRec; split
  · rfl
  · dsimp only; split <;> rfl
@[simp] theorem State.queueRec_wag (r : BbxRec) : (s.queueRec r).wag = s.wag := by
  unfold State.queueRec; split
  · rfl
  · dsimp only; split <;> rfl
@[simp] theorem State.queueRec_clip (r : BbxRec) : (s.queueRec r).clip = s.clip := by
  unfold State.queueRec; split
  · rfl
  · dsimp only; split <;> rfl
@[simp] theorem State.queueRec_madc (r : BbxRec) : (s.queueRec r).madc = s.madc := by
  unfold State.queueRec; split
  · rfl
  · dsimp only; split <;> rfl
@[simp] theorem State.queueRec_lsv (r : BbxRec) : (s.queueRec r).lsv = s.lsv := by
  unfold State.queueRec; split
  · rfl
  · dsimp only; split <;> rfl
@[simp] theorem State.queueRec_flash (r : BbxRec) : (s.queueRec r).flash = s.flash := by
  unfold State.queueRec; split
  · rfl
  · dsimp only; split <;> rfl
@[simp] theorem State.queueRec_img (r : BbxRec) : (s.queueRec r).img = s.img := by
  unfold State.queueRec; split
  · rfl
  · dsimp only; split <;> rfl
@[simp] theorem State.queueRec_otp (r : BbxRec) : (s.queueRec r).otp = s.otp := by
  unfold State.queueRec; split
  · rfl
  · dsimp only; split <;> rfl
@[simp] theorem State.queueRec_mram (r : BbxRec) : (s.queueRec r).mram = s.mram := by
  unfold State.queueRec; split
  · rfl
  · dsimp only; split <;> rfl
@[simp] theorem State.queueRec_kpr (r : BbxRec) : (s.queueRec r).kpr = s.kpr := by
  unfold State.queueRec; split
  · rfl
  · dsimp only; split <;> rfl
@[simp] theorem State.queueRec_swarm (r : BbxRec) : (s.queueRec r).swarm = s.swarm := by
  unfold State.queueRec; split
  · rfl
  · dsimp only; split <;> rfl

/-! `State.log` changes the queue of records, its counter and ERR_CNT only. -/
@[simp] theorem State.log_pending (c v d u : Nat) (p : List Byte) : (s.log c v d u p).pending = s.pending := State.queueRec_pending s _
@[simp] theorem State.log_snaps (c v d u : Nat) (p : List Byte) : (s.log c v d u p).snaps = s.snaps := State.queueRec_snaps s _
@[simp] theorem State.log_shadows (c v d u : Nat) (p : List Byte) : (s.log c v d u p).shadows = s.shadows := State.queueRec_shadows s _
@[simp] theorem State.log_holds (c v d u : Nat) (p : List Byte) : (s.log c v d u p).holds = s.holds := State.queueRec_holds s _
@[simp] theorem State.log_mem (c v d u : Nat) (p : List Byte) : (s.log c v d u p).mem = s.mem := State.queueRec_mem s _
@[simp] theorem State.log_free (c v d u : Nat) (p : List Byte) : (s.log c v d u p).free = s.free := State.queueRec_free s _
@[simp] theorem State.log_rdata (c v d u : Nat) (p : List Byte) : (s.log c v d u p).rdata = s.rdata := State.queueRec_rdata s _
@[simp] theorem State.log_rcode (c v d u : Nat) (p : List Byte) : (s.log c v d u p).rcode = s.rcode := State.queueRec_rcode s _
@[simp] theorem State.log_sys (c v d u : Nat) (p : List Byte) : (s.log c v d u p).sys = s.sys := State.queueRec_sys s _
@[simp] theorem State.log_ports (c v d u : Nat) (p : List Byte) : (s.log c v d u p).ports = s.ports := State.queueRec_ports s _
@[simp] theorem State.log_comb (c v d u : Nat) (p : List Byte) : (s.log c v d u p).comb = s.comb := State.queueRec_comb s _
@[simp] theorem State.log_an (c v d u : Nat) (p : List Byte) : (s.log c v d u p).an = s.an := State.queueRec_an s _
@[simp] theorem State.log_clk (c v d u : Nat) (p : List Byte) : (s.log c v d u p).clk = s.clk := State.queueRec_clk s _
@[simp] theorem State.log_grps (c v d u : Nat) (p : List Byte) : (s.log c v d u p).grps = s.grps := State.queueRec_grps s _
@[simp] theorem State.log_tdms (c v d u : Nat) (p : List Byte) : (s.log c v d u p).tdms = s.tdms := State.queueRec_tdms s _
@[simp] theorem State.log_net (c v d u : Nat) (p : List Byte) : (s.log c v d u p).net = s.net := State.queueRec_net s _
@[simp] theorem State.log_pdm (c v d u : Nat) (p : List Byte) : (s.log c v d u p).pdm = s.pdm := State.queueRec_pdm s _
@[simp] theorem State.log_sct (c v d u : Nat) (p : List Byte) : (s.log c v d u p).sct = s.sct := State.queueRec_sct s _
@[simp] theorem State.log_cores (c v d u : Nat) (p : List Byte) : (s.log c v d u p).cores = s.cores := State.queueRec_cores s _
@[simp] theorem State.log_dsp (c v d u : Nat) (p : List Byte) : (s.log c v d u p).dsp = s.dsp := State.queueRec_dsp s _
@[simp] theorem State.log_bad (c v d u : Nat) (p : List Byte) : (s.log c v d u p).bad = s.bad := State.queueRec_bad s _
@[simp] theorem State.log_wag (c v d u : Nat) (p : List Byte) : (s.log c v d u p).wag = s.wag := State.queueRec_wag s _
@[simp] theorem State.log_clip (c v d u : Nat) (p : List Byte) : (s.log c v d u p).clip = s.clip := State.queueRec_clip s _
@[simp] theorem State.log_madc (c v d u : Nat) (p : List Byte) : (s.log c v d u p).madc = s.madc := State.queueRec_madc s _
@[simp] theorem State.log_lsv (c v d u : Nat) (p : List Byte) : (s.log c v d u p).lsv = s.lsv := State.queueRec_lsv s _
@[simp] theorem State.log_flash (c v d u : Nat) (p : List Byte) : (s.log c v d u p).flash = s.flash := State.queueRec_flash s _
@[simp] theorem State.log_img (c v d u : Nat) (p : List Byte) : (s.log c v d u p).img = s.img := State.queueRec_img s _
@[simp] theorem State.log_otp (c v d u : Nat) (p : List Byte) : (s.log c v d u p).otp = s.otp := State.queueRec_otp s _
@[simp] theorem State.log_mram (c v d u : Nat) (p : List Byte) : (s.log c v d u p).mram = s.mram := State.queueRec_mram s _
@[simp] theorem State.log_kpr (c v d u : Nat) (p : List Byte) : (s.log c v d u p).kpr = s.kpr := State.queueRec_kpr s _
@[simp] theorem State.log_swarm (c v d u : Nat) (p : List Byte) : (s.log c v d u p).swarm = s.swarm := State.queueRec_swarm s _

/-! ### The register file under the updates of other units -/
@[simp] theorem State.onSpi_rd (f : SpiPort → SpiPort) (a : Nat) : (s.onSpi f).rd a = s.rd a := rfl
@[simp] theorem State.onSpi_getF (f : SpiPort → SpiPort) (b : Nat) (g : Fld) : (s.onSpi f).getF b g = s.getF b g := rfl
@[simp] theorem State.onTw0_rd (f : Tw0Port → Tw0Port) (a : Nat) : (s.onTw0 f).rd a = s.rd a := rfl
@[simp] theorem State.onTw0_getF (f : Tw0Port → Tw0Port) (b : Nat) (g : Fld) : (s.onTw0 f).getF b g = s.getF b g := rfl
@[simp] theorem State.onTw1_rd (f : Tw1Port → Tw1Port) (a : Nat) : (s.onTw1 f).rd a = s.rd a := rfl
@[simp] theorem State.onTw1_getF (f : Tw1Port → Tw1Port) (b : Nat) (g : Fld) : (s.onTw1 f).getF b g = s.getF b g := rfl
@[simp] theorem State.onUdp_rd (f : UdpPort → UdpPort) (a : Nat) : (s.onUdp f).rd a = s.rd a := rfl
@[simp] theorem State.onUdp_getF (f : UdpPort → UdpPort) (b : Nat) (g : Fld) : (s.onUdp f).getF b g = s.getF b g := rfl
@[simp] theorem State.onOrder_rd (f : List Arrival → List Arrival) (a : Nat) : (s.onOrder f).rd a = s.rd a := rfl
@[simp] theorem State.onOrder_getF (f : List Arrival → List Arrival) (b : Nat) (g : Fld) : (s.onOrder f).getF b g = s.getF b g := rfl
@[simp] theorem State.onComb_rd (f : Comb → Comb) (a : Nat) : (s.onComb f).rd a = s.rd a := rfl
@[simp] theorem State.onComb_getF (f : Comb → Comb) (b : Nat) (g : Fld) : (s.onComb f).getF b g = s.getF b g := rfl
@[simp] theorem State.onAn_rd (f : Analog → Analog) (a : Nat) : (s.onAn f).rd a = s.rd a := rfl
@[simp] theorem State.onAn_getF (f : Analog → Analog) (b : Nat) (g : Fld) : (s.onAn f).getF b g = s.getF b g := rfl
@[simp] theorem State.onClk_rd (f : Clk → Clk) (a : Nat) : (s.onClk f).rd a = s.rd a := rfl
@[simp] theorem State.onClk_getF (f : Clk → Clk) (b : Nat) (g : Fld) : (s.onClk f).getF b g = s.getF b g := rfl
@[simp] theorem State.onNet_rd (f : Net → Net) (a : Nat) : (s.onNet f).rd a = s.rd a := rfl
@[simp] theorem State.onNet_getF (f : Net → Net) (b : Nat) (g : Fld) : (s.onNet f).getF b g = s.getF b g := rfl
@[simp] theorem State.onPdm_rd (f : Pdm → Pdm) (a : Nat) : (s.onPdm f).rd a = s.rd a := rfl
@[simp] theorem State.onPdm_getF (f : Pdm → Pdm) (b : Nat) (g : Fld) : (s.onPdm f).getF b g = s.getF b g := rfl
@[simp] theorem State.onSct_rd (f : Sct → Sct) (a : Nat) : (s.onSct f).rd a = s.rd a := rfl
@[simp] theorem State.onSct_getF (f : Sct → Sct) (b : Nat) (g : Fld) : (s.onSct f).getF b g = s.getF b g := rfl
@[simp] theorem State.onDsp_rd (f : Dsp → Dsp) (a : Nat) : (s.onDsp f).rd a = s.rd a := rfl
@[simp] theorem State.onDsp_getF (f : Dsp → Dsp) (b : Nat) (g : Fld) : (s.onDsp f).getF b g = s.getF b g := rfl
@[simp] theorem State.onWag_rd (f : Wag → Wag) (a : Nat) : (s.onWag f).rd a = s.rd a := rfl
@[simp] theorem State.onWag_getF (f : Wag → Wag) (b : Nat) (g : Fld) : (s.onWag f).getF b g = s.getF b g := rfl
@[simp] theorem State.onClip_rd (f : Clips → Clips) (a : Nat) : (s.onClip f).rd a = s.rd a := rfl
@[simp] theorem State.onClip_getF (f : Clips → Clips) (b : Nat) (g : Fld) : (s.onClip f).getF b g = s.getF b g := rfl
@[simp] theorem State.onLsv_rd (f : Lsv → Lsv) (a : Nat) : (s.onLsv f).rd a = s.rd a := rfl
@[simp] theorem State.onLsv_getF (f : Lsv → Lsv) (b : Nat) (g : Fld) : (s.onLsv f).getF b g = s.getF b g := rfl
@[simp] theorem State.onMram_rd (f : Mram → Mram) (a : Nat) : (s.onMram f).rd a = s.rd a := rfl
@[simp] theorem State.onMram_getF (f : Mram → Mram) (b : Nat) (g : Fld) : (s.onMram f).getF b g = s.getF b g := rfl
@[simp] theorem State.onKpr_rd (f : Keeper → Keeper) (a : Nat) : (s.onKpr f).rd a = s.rd a := rfl
@[simp] theorem State.onKpr_getF (f : Keeper → Keeper) (b : Nat) (g : Fld) : (s.onKpr f).getF b g = s.getF b g := rfl
@[simp] theorem State.onSwm_rd (f : Swarm → Swarm) (a : Nat) : (s.onSwm f).rd a = s.rd a := rfl
@[simp] theorem State.onSwm_getF (f : Swarm → Swarm) (b : Nat) (g : Fld) : (s.onSwm f).getF b g = s.getF b g := rfl
@[simp] theorem State.onSys_rd (f : Sys → Sys) (a : Nat) : (s.onSys f).rd a = s.rd a := rfl
@[simp] theorem State.onSys_getF (f : Sys → Sys) (b : Nat) (g : Fld) : (s.onSys f).getF b g = s.getF b g := rfl
@[simp] theorem State.onAmp_rd (n : Nat) (f : AmpHid → AmpHid) (a : Nat) : (s.onAmp n f).rd a = s.rd a := rfl
@[simp] theorem State.onAmp_getF (n : Nat) (f : AmpHid → AmpHid) (b : Nat) (g : Fld) : (s.onAmp n f).getF b g = s.getF b g := rfl
@[simp] theorem State.onBst_rd (n : Nat) (f : BstHid → BstHid) (a : Nat) : (s.onBst n f).rd a = s.rd a := rfl
@[simp] theorem State.onBst_getF (n : Nat) (f : BstHid → BstHid) (b : Nat) (g : Fld) : (s.onBst n f).getF b g = s.getF b g := rfl
@[simp] theorem State.onLo_rd (n : Nat) (f : LoHid → LoHid) (a : Nat) : (s.onLo n f).rd a = s.rd a := rfl
@[simp] theorem State.onLo_getF (n : Nat) (f : LoHid → LoHid) (b : Nat) (g : Fld) : (s.onLo n f).getF b g = s.getF b g := rfl
@[simp] theorem State.onHs_rd (n : Nat) (f : HsHid → HsHid) (a : Nat) : (s.onHs n f).rd a = s.rd a := rfl
@[simp] theorem State.onHs_getF (n : Nat) (f : HsHid → HsHid) (b : Nat) (g : Fld) : (s.onHs n f).getF b g = s.getF b g := rfl
@[simp] theorem State.onGrp_rd (n : Nat) (f : Grp → Grp) (a : Nat) : (s.onGrp n f).rd a = s.rd a := rfl
@[simp] theorem State.onGrp_getF (n : Nat) (f : Grp → Grp) (b : Nat) (g : Fld) : (s.onGrp n f).getF b g = s.getF b g := rfl
@[simp] theorem State.onTdm_rd (n : Nat) (f : TdmHid → TdmHid) (a : Nat) : (s.onTdm n f).rd a = s.rd a := rfl
@[simp] theorem State.onTdm_getF (n : Nat) (f : TdmHid → TdmHid) (b : Nat) (g : Fld) : (s.onTdm n f).getF b g = s.getF b g := rfl
@[simp] theorem State.onLink_rd (n : Nat) (f : Link → Link) (a : Nat) : (s.onLink n f).rd a = s.rd a := rfl
@[simp] theorem State.onLink_getF (n : Nat) (f : Link → Link) (b : Nat) (g : Fld) : (s.onLink n f).getF b g = s.getF b g := rfl
@[simp] theorem State.onRx_rd (n : Nat) (f : RxHid → RxHid) (a : Nat) : (s.onRx n f).rd a = s.rd a := rfl
@[simp] theorem State.onRx_getF (n : Nat) (f : RxHid → RxHid) (b : Nat) (g : Fld) : (s.onRx n f).getF b g = s.getF b g := rfl
@[simp] theorem State.onTx_rd (n : Nat) (f : TxHid → TxHid) (a : Nat) : (s.onTx n f).rd a = s.rd a := rfl
@[simp] theorem State.onTx_getF (n : Nat) (f : TxHid → TxHid) (b : Nat) (g : Fld) : (s.onTx n f).getF b g = s.getF b g := rfl
@[simp] theorem State.onSlot_rd (n : Nat) (f : Slot → Slot) (a : Nat) : (s.onSlot n f).rd a = s.rd a := rfl
@[simp] theorem State.onSlot_getF (n : Nat) (f : Slot → Slot) (b : Nat) (g : Fld) : (s.onSlot n f).getF b g = s.getF b g := rfl
@[simp] theorem State.onCore_rd (n : Nat) (f : CoreHid → CoreHid) (a : Nat) : (s.onCore n f).rd a = s.rd a := rfl
@[simp] theorem State.onCore_getF (n : Nat) (f : CoreHid → CoreHid) (b : Nat) (g : Fld) : (s.onCore n f).getF b g = s.getF b g := rfl
@[simp] theorem State.onVoice_rd (n : Nat) (f : Voice → Voice) (a : Nat) : (s.onVoice n f).rd a = s.rd a := rfl
@[simp] theorem State.onVoice_getF (n : Nat) (f : Voice → Voice) (b : Nat) (g : Fld) : (s.onVoice n f).getF b g = s.getF b g := rfl
@[simp] theorem State.onTone_rd (n : Nat) (f : Tone → Tone) (a : Nat) : (s.onTone n f).rd a = s.rd a := rfl
@[simp] theorem State.onTone_getF (n : Nat) (f : Tone → Tone) (b : Nat) (g : Fld) : (s.onTone n f).getF b g = s.getF b g := rfl
@[simp] theorem State.onMadc_rd (n : Nat) (f : Madc → Madc) (a : Nat) : (s.onMadc n f).rd a = s.rd a := rfl
@[simp] theorem State.onMadc_getF (n : Nat) (f : Madc → Madc) (b : Nat) (g : Fld) : (s.onMadc n f).getF b g = s.getF b g := rfl

end Sys2Proof.Machine
end

