-- ==== Sys2Proof/Laws/Access.lean ====
section
/-! SUPPORT. What a served write and a served read do, said once (R26-R29, R35, R36, R434). -/

namespace Sys2Proof.Machine

/-- A served write whose action is done answers DONE in the state the action gives. -/
theorem hostWrite_served {s t : State} {r : Req} {a : Nat} {act : Act} (h : served s r a = true)
    (hd : act (s.wakeFor a) = (.done, t)) : hostWrite r a act s = t.answered .done := by
  simp only [served, Bool.and_eq_true, Bool.not_eq_true', Option.isNone_iff_eq_none] at h
  obtain ⟨⟨⟨⟨⟨h1, h2⟩, h3⟩, h4⟩, h5⟩, h6⟩ := h
  simp [hostWrite, serve, h1, h2, h3, h4, h5, h6, hd, State.answered]

/-- A served write whose action refuses answers the refusal, which the owner's page records (R46, R47). -/
theorem hostWrite_refused {s t : State} {r : Req} {a : Nat} {act : Act} {c : Code} (h : served s r a = true)
    (hd : act (s.wakeFor a) = (c, t)) (hc : c ≠ .done) : hostWrite r a act s = (t.refuseAt r 0xFF a c).answered c := by
  simp only [served, Bool.and_eq_true, Bool.not_eq_true', Option.isNone_iff_eq_none] at h
  obtain ⟨⟨⟨⟨⟨h1, h2⟩, h3⟩, h4⟩, h5⟩, h6⟩ := h
  simp [hostWrite, serve, h1, h2, h3, h4, hd, hc, State.answered]

/-- A served read answers its word and DONE. -/
theorem hostRead_readable {s : State} {r : Req} {a : Nat} (h : readable s r a = true) :
    hostRead r a s = (readShadowed (s.wakeFor a) r a).2.answeredWith (readShadowed (s.wakeFor a) r a).1 .done := by
  simp only [readable, Bool.and_eq_true, Option.isNone_iff_eq_none] at h
  obtain ⟨⟨⟨h1, h2⟩, h3⟩, h4⟩ := h
  have h4' : (resetting (s.wakeFor a) a && !readsInReset a) = false := by
    simpa only [Bool.not_eq_true'] using h4
  simp [hostRead, directRead, serveRead, h1, h2, h3, h4', State.answeredWith]

end Sys2Proof.Machine
end

