-- ==== Sys2Proof/Laws/Cores.lean ====
section
/-! SUPPORT. What a core does with an instruction that it issues, by how the instruction ends (R302, R307, R322). -/

namespace Sys2Proof.Machine

/-- An issued instruction is executed. -/
theorem coreIssue_issues {s : State} {c : Fin 20} {i : CoreInstr} (h : issues s c i = true) :
    coreIssue c i s = coreExec c i s := by
  simp only [issues, Bool.and_eq_true, decide_eq_true_eq, Bool.not_eq_true'] at h
  obtain ⟨⟨⟨hl, h0, h1⟩, hb⟩, hi⟩ := h
  have : ¬ ((s.core c).pc < 0 ∨ (pmWords c : Int) ≤ (s.core c).pc) := by omega
  simp only [coreIssue, hl, coreAt, this, hb, hi, if_true, if_false, Bool.false_eq_true]

/-- An instruction that passes. -/
theorem coreIssue_pass {s t : State} {c : Fin 20} {i : CoreInstr} (h : issues s c i = true)
    (ha : i.act c s = (t, .pass)) : coreIssue c i s = s.passed c i t := by
  rw [coreIssue_issues h]
  cases i <;> simp only [coreExec, ha, coreEnd, coreCycles, State.passed, State.retired, stalls, Nat.add_zero, Nat.add_assoc]

/-- An instruction that transfers control. -/
theorem coreIssue_jump {s t : State} {c : Fin 20} {i : CoreInstr} {dest : Int} (h : issues s c i = true)
    (ha : i.act c s = (t, .jump dest)) (hl : ∀ n l, i ≠ .loop n l) : coreIssue c i s = s.went c i dest t := by
  rw [coreIssue_issues h]
  have : ∀ a b : Nat, 1 + a + b + 2 = 3 + (a + b) := by omega
  cases i <;> first
    | exact absurd rfl (hl _ _)
    | simp only [coreExec, ha, coreEnd, coreCycles, State.went, State.retired, stalls, this]

/-- An instruction that faults. -/
theorem coreIssue_fault {s t : State} {c : Fin 20} {i : CoreInstr} {code : Nat} (h : issues s c i = true)
    (ha : i.act c s = (t, .fault code)) : coreIssue c i s = coreFault s c code := by
  rw [coreIssue_issues h]
  simp only [coreExec, ha]

/-- Two changes of one core. -/
theorem onCore_onCore (s : State) (c : Nat) (f g : CoreHid → CoreHid) :
    (s.onCore c f).onCore c g = s.onCore c fun k => g (f k) := by
  simp only [State.onCore]
  congr 1
  generalize s.cores = l
  induction l generalizing c with
  | nil => cases c <;> rfl
  | cons x l ih => cases c with
    | zero => rfl
    | succ c => simp only [modifyAt, ih]

end Sys2Proof.Machine
end

