-- ==== Sys2Proof/Laws/Frames.lean ====
section
/-! SUPPORT. What Swarm does to a frame or a byte where it has nothing to do with it (R197, R418). -/

namespace Sys2Proof.Machine

/-- A quiet Swarm meets no unit. -/
theorem swmUnit_quiet {s : State} (h : swarmQuiet s = true) (sel : Nat → Bool) (cnt : Option Nat) :
    swmUnit s sel cnt = (none, s) := by
  simp only [swarmQuiet, Bool.and_eq_true] at h
  have hn : (List.range 8).find? (fun r => ruleOn s r && sel r) = none := by
    rw [List.find?_eq_none]
    intro r hr
    have := List.all_eq_true.1 h.1.1 r hr
    simp_all
  simp [swmUnit, hn]

/-- A quiet Swarm lets a frame go on as it is. -/
theorem swarmFrame_quiet {s : State} (h : swarmQuiet s = true) (go : HeldFrame → State → State)
    (spoil : Word → HeldFrame → HeldFrame) (n : Nat) (tx : Bool) (cls : Nat) (f : HeldFrame) :
    swarmFrame go spoil n tx cls f s = go f s := by
  have hh : s.swarm.held = [] := by
    simp only [swarmQuiet, Bool.and_eq_true] at h
    simpa using h.1.2
  have hu : unhold s [] = s := by
    simp [unhold, State.onSwm, hh]
    cases hs : s.swarm
    simp_all
    cases s
    simp_all
  simp [swarmFrame, swmUnit_quiet h, passFrame, heldOf, hh, hu, forEach]

end Sys2Proof.Machine
end

