-- ==== Sys2Proof/Laws/Memory.lean ====
section
/-! SUPPORT. The memory: what a store changes, and that every memory operation keeps the canonical form. -/

namespace Sys2Proof.Machine

/-- Storing one byte leaves every other. -/
theorem byteAt_putByte_ne {a b : Nat} (h : b ≠ a) (v : Byte) : ∀ m, byteAt (putByte m a v) b = byteAt m b
  | [] => by
    unfold putByte
    split <;> simp [byteAt, Ne.symm h]
  | (c, y) :: t => by
    have ih := byteAt_putByte_ne h v t
    unfold putByte
    split
    · split <;> simp [byteAt, Ne.symm h]
    · split
      · rename_i hc
        subst hc
        split <;> simp [byteAt, Ne.symm h]
      · simp [byteAt, ih]

/-- A canonical memory holds 0 below its first address. -/
theorem byteAt_below : ∀ {m : List Host.Cell} {lo a : Nat}, Memory.wfFrom lo m = true → a < lo → byteAt m a = 0
  | [], _, _, _, _ => rfl
  | (b, w) :: t, lo, a, h, ha => by
    simp only [Memory.wfFrom, Bool.and_eq_true, decide_eq_true_eq] at h
    have : b ≠ a := by omega
    simp [byteAt, this, byteAt_below h.2 (show a < b + 1 by omega)]

/-- A canonical form from an address is one from any lower address. -/
theorem Memory.wfFrom_mono : ∀ {m : List Host.Cell} {lo lo' : Nat}, Memory.wfFrom lo m = true → lo' ≤ lo →
    Memory.wfFrom lo' m = true
  | [], _, _, _, _ => rfl
  | (b, w) :: t, lo, lo', h, hl => by
    simp only [Memory.wfFrom, Bool.and_eq_true, decide_eq_true_eq] at h ⊢
    exact ⟨⟨by omega, h.1.2⟩, h.2⟩

/-- Storing a byte in a canonical memory leaves it canonical, and the byte reads as stored. -/
theorem putByte_spec (a : Nat) (v : Byte) : ∀ {m : List Host.Cell} {lo : Nat}, Memory.wfFrom lo m = true → lo ≤ a →
    Memory.wfFrom lo (putByte m a v) = true ∧ byteAt (putByte m a v) a = v
  | [], lo, _, hl => by
    unfold putByte
    split
    · simp_all [Memory.wfFrom, byteAt]
    · simp_all [Memory.wfFrom, byteAt]
  | (b, y) :: t, lo, h, hl => by
    have h' := h
    simp only [Memory.wfFrom, Bool.and_eq_true, decide_eq_true_eq] at h
    unfold putByte
    split
    · rename_i hab
      split
      · rename_i hv
        have : b ≠ a := by omega
        exact ⟨h', by simp [byteAt, this, hv, byteAt_below h.2 (show a < b + 1 by omega)]⟩
      · rename_i hv
        simp only [Memory.wfFrom, byteAt, if_true, Bool.and_eq_true, decide_eq_true_eq, bne_iff_ne]
        exact ⟨⟨⟨hl, hv⟩, ⟨⟨by omega, by simpa using h.1.2⟩, h.2⟩⟩, trivial⟩
    · split
      · rename_i hab
        subst hab
        split
        · rename_i hv
          exact ⟨Memory.wfFrom_mono h.2 (by omega), by rw [hv]; exact byteAt_below h.2 (by omega)⟩
        · rename_i hv
          simp only [Memory.wfFrom, byteAt, if_true, Bool.and_eq_true, decide_eq_true_eq, bne_iff_ne]
          exact ⟨⟨⟨hl, hv⟩, h.2⟩, trivial⟩
      · have ih := putByte_spec a v h.2 (show b + 1 ≤ a by omega)
        have : b ≠ a := by omega
        simp only [Memory.wfFrom, byteAt, this, if_false, Bool.and_eq_true, decide_eq_true_eq]
        exact ⟨⟨h.1, ih.1⟩, ih.2⟩

/-- Storing one byte keeps the canonical form. -/
theorem putByte_wf {m : List Host.Cell} (h : Memory.wf m = true) (a : Nat) (v : Byte) : Memory.wf (putByte m a v) = true :=
  (putByte_spec a v h (Nat.zero_le a)).1

/-- Storing bytes keeps the canonical form. -/
theorem putBytes_wf : ∀ (bs : List Byte) {m : List Host.Cell}, Memory.wf m = true → ∀ a, Memory.wf (putBytes m a bs) = true
  | [], _, h, _ => h
  | v :: vs, _, h, a => putBytes_wf vs (putByte_wf h a v) (a + 1)

/-- Storing bytes leaves those outside. -/
theorem byteAt_putBytes_out : ∀ (bs : List Byte) (m : List Host.Cell) (a b : Nat), b < a ∨ a + bs.length ≤ b →
    byteAt (putBytes m a bs) b = byteAt m b
  | [], _, _, _, _ => rfl
  | v :: vs, m, a, b, h => by
    simp only [List.length_cons] at h
    rw [putBytes, byteAt_putBytes_out vs _ _ _ (by omega), byteAt_putByte_ne (by omega)]

/-- The bytes stored read as stored. -/
theorem byteAt_putBytes_in : ∀ (bs : List Byte) {m : List Host.Cell}, Memory.wf m = true → ∀ (a i : Nat) (h : i < bs.length),
    byteAt (putBytes m a bs) (a + i) = bs[i]
  | v :: vs, m, hm, a, 0, _ => by
    rw [putBytes, byteAt_putBytes_out vs _ _ _ (by omega)]
    exact (putByte_spec a v hm (Nat.zero_le a)).2
  | v :: vs, m, hm, a, i + 1, h => by
    have := byteAt_putBytes_in vs (putByte_wf hm a v) (a + 1) i (by simpa using h)
    simpa [putBytes, show a + 1 + i = a + (i + 1) by omega] using this

/-- Dropping cells of a canonical memory keeps the canonical form. -/
theorem Memory.wfFrom_filter (p : Host.Cell → Bool) : ∀ {m : List Host.Cell} {lo : Nat}, Memory.wfFrom lo m = true →
    Memory.wfFrom lo (m.filter p) = true
  | [], _, _ => rfl
  | (b, w) :: t, lo, h => by
    simp only [Memory.wfFrom, Bool.and_eq_true, decide_eq_true_eq] at h
    have ih := Memory.wfFrom_filter p h.2
    rw [List.filter_cons]
    split
    · simp only [Memory.wfFrom, Bool.and_eq_true, decide_eq_true_eq]
      exact ⟨h.1, ih⟩
    · exact Memory.wfFrom_mono ih (by omega)

/-- Storing a word keeps the canonical form. -/
theorem State.storeWord_wf {s : State} (h : Memory.wf s.mem = true) (a : Nat) (w : Word) :
    Memory.wf (s.storeWord a w).mem = true := putBytes_wf _ h a

/-- Clearing a range keeps the canonical form. -/
theorem State.zeroMem_wf {s : State} (h : Memory.wf s.mem = true) (lo hi : Nat) :
    Memory.wf (s.zeroMem lo hi).mem = true := Memory.wfFrom_filter _ h

/-- A word stored leaves every byte outside it. -/
theorem State.storeWord_out (s : State) {a b : Nat} (w : Word) (h : b < a ∨ a + 4 ≤ b) :
    byteAt (s.storeWord a w).mem b = byteAt s.mem b := byteAt_putBytes_out _ _ _ _ h

/-- The memory after reset is canonical. -/
theorem reset_memory_wf : Memory.wf State.reset.mem = true := rfl

end Sys2Proof.Machine
end

