-- ==== Sys2Proof/Laws/Paths.lean ====
section
/-! SUPPORT. What the operations of the signal paths and of a link's output can do, said once: gains stay in the bound of R95, the
correction in that of R259, and the frames of a period in the order of R195. -/

namespace Sys2Proof.Machine

/-! ### Gains -/

/-- The bounds of a gain are in order. -/
theorem gainAround_le (g : Fix) : (gainAround g).1 ≤ (gainAround g).2 := by
  simp only [gainAround]
  split
  · assumption
  · exact Int.le_add_one le_rfl

/-- The bounds of a code's gain are in order. -/
theorem gainBounds_le (c : Int) : (gainBounds c).1 ≤ (gainBounds c).2 := gainAround_le _

/-- R95: a gain that is not exact lies in its bounds. -/
theorem linOf16_bounds {c : Int} (h : c ≠ 2401 * 16) :
    (gainBounds c).1.toNat ≤ linOf16 c ∧ linOf16 c ≤ (gainBounds c).2.toNat := by
  have := gainBounds_le c
  simp only [linOf16, h, if_false]
  omega

/-- R95: 0.0 dB is exactly 1. -/
@[simp] theorem linOf_unity : linOf 2401 = 0x8000000 := by simp [linOf, linOf16]

/-- R95: code 0 is mute. -/
@[simp] theorem linOf_mute : linOf 0 = 0 := by simp [linOf]

/-- R97, R98: the last step of a way lands exactly on its target. -/
theorem Gain.step_last {g : Gain} {a b n i : Nat} (hs : g.slope = some (.amp a b n i)) (h : n ≤ i + 1) :
    g.step.lin = linOf g.target ∧ g.step.moving = false := by
  simp [Gain.step, hs, h, Gain.at_, Gain.moving]

/-- R97: the last step of a way in decibels lands exactly on its target. -/
theorem Gain.step_last_db {g : Gain} {a b : Int} {n i : Nat} (hs : g.slope = some (.db a b n i)) (h : n ≤ i + 1) :
    g.step.lin = linOf g.target ∧ g.step.moving = false := by
  simp [Gain.step, hs, h, Gain.at_, Gain.moving]

/-- A gain at rest stays. -/
theorem Gain.step_rest {g : Gain} (h : g.slope = none) : g.step = g := by simp [Gain.step, h]

/-! ### The speaker channels -/

/-- A limited number lies within its limit. -/
theorem within_abs {lim : Rat} (h : 0 ≤ lim) (x : Rat) : |within lim x| ≤ lim := by
  unfold within
  split
  · rw [abs_of_nonneg h]
  · split
    · rw [abs_neg, abs_of_nonneg h]
    · rw [abs_le]; constructor <;> linarith

/-- R259: the correction of a carrier period is at most 12.5 % of VFS, and 0 while the loop is open. -/
theorem carrierPeriod_corr {c : Carrier} (h : 0 ≤ c.vfs) (vs rail sense : Rat) (l : AmpLoop) :
    |(carrierPeriod c vs rail sense l).1.corr| ≤ c.vfs / 8 ∧
    (c.closed = false → (carrierPeriod c vs rail sense l).1.corr = 0) := by
  refine ⟨?_, fun hc => by simp [carrierPeriod, hc]⟩
  simp only [carrierPeriod]
  split
  · exact within_abs (by linarith) _
  · rw [abs_zero]; linarith

/-! ### Frames sent -/

/-- A frame is inserted, and nothing is lost. -/
theorem mem_insertSent (f x : Sent) (l : List Sent) : x ∈ insertSent f l ↔ x = f ∨ x ∈ l := by
  induction l with
  | nil => simp [insertSent]
  | cons y t ih =>
    simp only [insertSent]
    split <;> simp [ih, or_left_comm]

/-- R195: the frames of a period stay in order. -/
theorem insertSent_sorted (f : Sent) (l : List Sent) (h : l.Pairwise fun x y => x.rank ≤ y.rank) :
    (insertSent f l).Pairwise fun x y => x.rank ≤ y.rank := by
  induction l with
  | nil => simp [insertSent]
  | cons y t ih =>
    obtain ⟨hy, ht⟩ := List.pairwise_cons.1 h
    simp only [insertSent]
    split
    · rename_i hr
      refine List.pairwise_cons.2 ⟨fun x hx => ?_, ih ht⟩
      rcases (mem_insertSent f x t).1 hx with rfl | hx
      · exact hr
      · exact hy x hx
    · rename_i hr
      refine List.pairwise_cons.2 ⟨fun x hx => ?_, h⟩
      rcases List.mem_cons.1 hx with rfl | hx
      · omega
      · exact le_trans (by omega) (hy x hx)

/-- A quiet Swarm lets a link's frame leave as it is. -/
theorem sendFrame_quiet {s : State} (h : swarmQuiet s = true) (n : Nat) (f : Sent) : sendFrame s n f = emit n (.tx f) s :=
  swarmFrame_quiet h _ _ _ _ _ _

/-- A link that is not up sends nothing. -/
theorem emit_down {s : State} {n : Nat} (h : linkUp s n = false) (f : HeldFrame) : emit n f s = s := by
  cases f <;> simp [emit, h]

end Sys2Proof.Machine
end

