-- ==== Sys2Proof/Laws/Plosto.lean ====
section
/-! SUPPORT. What executing a Plosto command does, said once (R46, R47, R79-R82, R434). -/

namespace Sys2Proof.Machine

/-- A command whose body is done is answered DONE in the state the body gives. -/
theorem runPlosto_done {s : State} {cmd : Nat} {q : PlReq} {body : State → PlAns} (h : plServes s cmd q = true)
    (hd : (body s).code = .done) : runPlosto cmd q body s = (body s).st.plDone cmd q (body s).payload := by
  simp only [plServes, Bool.and_eq_true, Bool.or_eq_true, Bool.not_eq_true', Option.isNone_iff_eq_none] at h
  obtain ⟨⟨⟨⟨h1, h2⟩, h6⟩, h3⟩, h4⟩ := h
  have h5 : (s.sys.recovery && assigned cmd && !inRecovery cmd) = false := by
    rcases h3 with (h3 | h3) | h3 <;> simp [h3]
  simp [runPlosto, h1, h2, h6, h5, h4, hd, State.plDone]

/-- A command whose body refuses is answered its code, and the page it names records the refusal. -/
theorem runPlosto_refused {s : State} {cmd : Nat} {q : PlReq} {body : State → PlAns} (h : plServes s cmd q = true)
    (hd : (body s).code ≠ .done) :
    runPlosto cmd q body s = (body s).st.plRefuse (body s).page (body s).addr cmd q (body s).code (body s).payload := by
  simp only [plServes, Bool.and_eq_true, Bool.or_eq_true, Bool.not_eq_true', Option.isNone_iff_eq_none] at h
  obtain ⟨⟨⟨⟨h1, h2⟩, h6⟩, h3⟩, h4⟩ := h
  have h5 : (s.sys.recovery && assigned cmd && !inRecovery cmd) = false := by
    rcases h3 with (h3 | h3) | h3 <;> simp [h3]
  simp [runPlosto, h1, h2, h6, h5, h4, hd, State.plRefuse]

/-- A command on a page that serves it runs its body in the state the return from Idle leaves. -/
theorem onPage_serves {s : State} {page : Nat} {ch : Bool} {body : State → PlAns} (h : pageServes s page ch = true) :
    onPage page ch body s = body (s.wakeFor page) := by
  simp only [pageServes, Bool.and_eq_true, Bool.not_eq_true', Option.isNone_iff_eq_none] at h
  obtain ⟨⟨h1, h2⟩, h3⟩ := h
  simp [onPage, h1, h2, h3]

end Sys2Proof.Machine
end

