-- ==== Sys2Proof/Laws/Registers.lean ====
section
/-! SUPPORT. The register file: what a store changes, and that it keeps the canonical form. -/

namespace Sys2Proof.Machine

/-- Setting one address leaves the listed value of every other. -/
theorem look_place_ne {a b : Nat} (h : b ≠ a) (w : Option Word) : ∀ l, look (place l a w) b = look l b
  | [] => by cases w <;> simp [place, look, Ne.symm h]
  | (c, y) :: t => by
    have ih := look_place_ne h w t
    unfold place
    split
    · cases w <;> simp [look, Ne.symm h]
    · split
      · rename_i hc
        subst hc
        cases w <;> simp [look, Ne.symm h]
      · simp [look, ih]

/-- R26: a store of one register leaves every other. -/
theorem State.rd_wr_ne {a b : Nat} (h : b ≠ a) (s : State) (w : Word) : (s.wr a w).rd b = s.rd b := by
  simp [State.rd, State.wr, look_place_ne h]

/-- A canonical list holds nothing below its first address. -/
theorem look_below : ∀ {l : List (Nat × Word)} {lo a : Nat}, regsWfFrom lo l = true → a < lo → look l a = none
  | [], _, _, _, _ => rfl
  | (b, w) :: t, lo, a, h, ha => by
    simp only [regsWfFrom, Bool.and_eq_true, decide_eq_true_eq] at h
    have : b ≠ a := by omega
    simp [look, this, look_below h.2 (show a < b + 1 by omega)]

/-- A canonical form from an address is one from any lower address. -/
theorem regsWfFrom_mono : ∀ {l : List (Nat × Word)} {lo lo' : Nat}, regsWfFrom lo l = true → lo' ≤ lo →
    regsWfFrom lo' l = true
  | [], _, _, _, _ => rfl
  | (b, w) :: t, lo, lo', h, hl => by
    simp only [regsWfFrom, Bool.and_eq_true, decide_eq_true_eq] at h ⊢
    exact ⟨⟨by omega, h.1.2⟩, h.2⟩

/-- Setting an address in a canonical list to a value that is not its reset value, or unlisting it, leaves the list canonical,
and the address then has that value. -/
theorem place_spec (a : Nat) (w : Option Word) (hw : ∀ x, w = some x → x ≠ regReset a) :
    ∀ {l : List (Nat × Word)} {lo : Nat}, regsWfFrom lo l = true → lo ≤ a →
      regsWfFrom lo (place l a w) = true ∧ look (place l a w) a = w
  | [], lo, _, hl => by
    cases w with
    | none => exact ⟨rfl, rfl⟩
    | some x => simp [place, look, regsWfFrom, hl, hw x rfl]
  | (b, y) :: t, lo, h, hl => by
    have h' := h
    simp only [regsWfFrom, Bool.and_eq_true, decide_eq_true_eq] at h
    unfold place
    split
    · rename_i hab
      cases w with
      | none =>
        have : b ≠ a := by omega
        exact ⟨h', by simp [look, this, look_below h.2 (show a < b + 1 by omega)]⟩
      | some x =>
        simp only [regsWfFrom, look, if_true, Bool.and_eq_true, decide_eq_true_eq, bne_iff_ne]
        exact ⟨⟨⟨hl, hw x rfl⟩, ⟨⟨by omega, by simpa using h.1.2⟩, h.2⟩⟩, trivial⟩
    · split
      · rename_i hab
        subst hab
        cases w with
        | none => exact ⟨regsWfFrom_mono h.2 (by omega), look_below h.2 (by omega)⟩
        | some x =>
          simp only [regsWfFrom, look, if_true, Bool.and_eq_true, decide_eq_true_eq, bne_iff_ne]
          exact ⟨⟨⟨hl, hw x rfl⟩, h.2⟩, trivial⟩
      · have ih := place_spec a w hw h.2 (show b + 1 ≤ a by omega)
        have : b ≠ a := by omega
        simp only [regsWfFrom, look, this, if_false, Bool.and_eq_true, decide_eq_true_eq]
        exact ⟨⟨h.1, ih.1⟩, ih.2⟩

/-- A store of a register keeps the canonical form of the register file. -/
theorem State.wr_regsWf {s : State} (h : regsWf s.regs) (a : Nat) (w : Word) : regsWf (s.wr a w).regs := by
  refine (place_spec a _ ?_ h (Nat.zero_le a)).1
  intro x hx
  split at hx
  · simp at hx
  · simp_all

/-- A register reads what was stored. -/
theorem State.rd_wr_same {s : State} (h : regsWf s.regs) (a : Nat) (w : Word) : (s.wr a w).rd a = w := by
  have := (place_spec a (if w = regReset a then none else some w) (by
    intro x hx
    split at hx
    · simp at hx
    · simp_all) h (Nat.zero_le a)).2
  simp only [State.rd, State.wr, this]
  split <;> simp_all

/-- Setting a field leaves every field of another register. -/
theorem State.getF_setF_ne {b c : Nat} {f g : Fld} (h : c + g.off ≠ b + f.off) (s : State) (v : Nat) :
    (s.setF b f v).getF c g = s.getF c g := by
  simp [State.getF, State.setF, State.rd_wr_ne h]

/-- The register file after reset is canonical. -/
theorem reset_regsWf : regsWf State.reset.regs := by decide

end Sys2Proof.Machine
end

