-- ==== Sys2Proof/WellFormed.lean ====
section
/-! DEFINITION. Well-formed commands: the limits on operands that the manual sets and a type does not. -/

namespace Sys2Proof

/-- R77, R87: a Plosto payload has at most 244 bytes, and a key index is a byte. -/
def reqWf (q : PlReq) : Bool :=
  decide (q.payload.length ≤ 244) && (match q.via with
    | .udp _ key _ _ _ => decide (key ≤ 255)
    | .spi => true
    | .tw0 => true)

/-- XF_CTRL, R69: a slot's buffer holds 64 bytes. -/
def outcomeWf : TwOutcome → Bool
  | .answered l _ => decide (l.length ≤ 64)
  | .addrNack _ => true
  | .dataNack n => decide (n ≤ 64)

/-- A command whose operands are within the manual's limits: a period lists each source, port, boost, channel and input once, and a time
since the last fabric period is at most 1/48,000 s. The meanings are total: each answers a next state for any operand. -/
def Instr.wf : Instr → Bool
  | .fabricPeriod x => decide ((x.samples.map (·.1)).Nodup ∧ (x.tdm.map (·.1)).Nodup ∧ (x.rails.map (·.1)).Nodup ∧
      (x.senses.map (·.1)).Nodup ∧ (x.mics.map (·.1)).Nodup ∧ (x.ibias.map (·.1)).Nodup ∧ (x.micF.map (·.1)).Nodup)
  | .registerWrite _ _ _ => true
  | .readLoShadow _ _ => true
  | .readHiShadow _ _ => true
  | .writeLoHold _ _ _ => true
  | .writeHiCommit _ _ _ => true
  | .eventClear _ _ _ _ => true
  | .evtForce _ _ _ => true
  | .counterClear _ _ _ _ => true
  | .snapTake _ _ _ => true
  | .snapRelease _ _ => true
  | .softReset _ _ => true
  | .softResetDone _ => true
  | .pageLock _ _ => true
  | .blockEnable _ _ _ => true
  | .devrst _ _ => true
  | .resetN => true
  | .powerOn _ => true
  | .porRelease => true
  | .brownOut => true
  | .avbiasLow => true
  | .resetAfterStop => true
  | .watchdogReset => true
  | .dieLinkLoss => true
  | .linkRecovery => true
  | .powerFail => true
  | .powerFailEnd => true
  | .spiRead _ _ => true
  | .spiReadTimeout _ _ => true
  | .spiWrite _ _ => true
  | .spiPlostoReq _ _ => true
  | .spiPlostoRsp _ _ => true
  | .spiStatus _ => true
  | .spiUnknownOpcode _ _ => true
  | .spiWakeMatch _ => true
  | .twSetAddr _ _ => true
  | .twReadWord _ => true
  | .twReadBlock _ _ => true
  | .twWriteWord _ _ => true
  | .twWriteBlock _ _ => true
  | .twPlosto _ _ _ => true
  | .twStatus => true
  | .twFetchTimeout n => decide (1 ≤ n ∧ n ≤ 64)
  | .sclTmo => true
  | .twProto _ => true
  | .tw1Go _ _ _ => true
  | .tw1Transfer => true
  | .tw1TransferDone o => outcomeWf o
  | .arbLost => true
  | .tw1ArbRetry => true
  | .sclStuck => true
  | .tw1Busclr _ _ => true
  | .tw1ClrFault _ _ => true
  | .tw1SdaLowDetect _ => true
  | .busClearRetry _ => true
  | .udpFrame _ _ => true
  | .plostoUnknown _ q => reqWf q
  | .ping q => reqWf q
  | .read q => reqWf q
  | .write q => reqWf q
  | .modify q => reqWf q
  | .events q => reqWf q
  | .keySet q => reqWf q
  | .nonceRenew q => reqWf q
  | .xpMapWrite _ _ _ => true
  | .xpGainWrite _ _ _ => true
  | .xpDelWrite _ _ _ => true
  | .xpSet q => reqWf q
  | .xpSetSwap q => reqWf q
  | .xpRemove q => reqWf q
  | .xpQuery q => reqWf q
  | .crosspointRampEnd _ => true
  | .crossfadeEnd _ => true
  | .releaseEnd _ => true
  | .trimWrite _ _ _ => true
  | .trimRampEnd _ => true
  | .delayChange _ _ _ => true
  | .delayXfadeEnd _ => true
  | .bqLoad _ _ => true
  | .bqRead _ => true
  | .sinkSet q => reqWf q
  | .sinkQuery q => reqWf q
  | .zlaEnable _ _ _ => true
  | .zlaDisable _ _ _ => true
  | .zlaDecide _ => true
  | .keeperToReference => true
  | .refFail => true
  | .refRecovery => true
  | .refStartTimeout => true
  | .refFailInSleep => true
  | .pllFail _ => true
  | .pllRestart _ => true
  | .servoUpdate _ _ => true
  | .fabricStepResume _ => true
  | .holdoverExpiry => true
  | .clkMediaCfgWrite _ _ => true
  | .refModeChange _ _ => true
  | .asrcGroupLock _ _ => true
  | .asrcQuery q => reqWf q
  | .tdmStart _ _ _ => true
  | .tdmStop _ _ _ => true
  | .tdmStarted _ => true
  | .frameSyncError _ _ => true
  | .tdmClockLoss _ => true
  | .tdmRelock _ => true
  | .driveFault _ => true
  | .ethUp _ _ _ => true
  | .ethDown _ _ _ => true
  | .phyPoll _ _ => true
  | .sgmiiLinkDown _ => true
  | .mdioGo _ _ _ => true
  | .mdioDone _ _ => true
  | .ethFrameDiscard _ _ => true
  | .arpFrame _ _ => true
  | .arpAge _ _ => true
  | .arpRetry _ => true
  | .echoFrame _ _ => true
  | .igmpFrame _ _ => true
  | .igmpReport _ _ => true
  | .ptpSync _ t _ => decide (t ≤ 20834)
  | .announceFrame _ _ => true
  | .announceTimeout _ => true
  | .ptpDelayMsg _ t _ => decide (t ≤ 20834)
  | .ptpTimer _ _ t => decide (t ≤ 20834)
  | .ptpSyncTimeout _ => true
  | .ptpCfgWrite _ _ _ _ => true
  | .ptpTimeWrite _ _ _ => true
  | .streamEnable _ _ _ _ => true
  | .streamDisable _ _ _ _ => true
  | .rtpReceive _ _ => true
  | .streamStall _ => true
  | .streamPacketTx _ => true
  | .streamSet q => reqWf q
  | .streamClear q => reqWf q
  | .streamQuery q => reqWf q
  | .pdmGoOn => true
  | .pdmSwitch => true
  | .pdmSettleEnd => true
  | .pdmClkFault _ => true
  | .micAbsent _ => true
  | .micSat _ => true
  | .micOk _ => true
  | .pdmClrFlt _ _ => true
  | .bzSample _ _ => true
  | .knockRearm _ => true
  | .scoutFrameEnd => true
  | .vadOff => true
  | .sealTimeout => true
  | .sctClose _ _ => true
  | .sctStart _ _ => true
  | .sctStop _ _ => true
  | .sctMicWrite _ _ => true
  | .slotEnable _ _ _ => true
  | .modelEccError _ => true
  | .modelLoadBegin q => reqWf q
  | .modelLoadData q => reqWf q
  | .modelLoadEnd q => reqWf q
  | .modelLoadErase q => reqWf q
  | .ringRead q => reqWf q
  | .ainEnable _ _ _ => true
  | .ainSettled _ => true
  | .ainGainStep _ => true
  | .ainClip _ => true
  | .ainClipEnd _ => true
  | .ainOpen _ _ => true
  | .ainShort _ _ => true
  | .ainShortRetry _ => true
  | .ainRecover _ _ => true
  | .ainDisable _ _ _ => true
  | .ainOff _ => true
  | .loStart _ _ _ => true
  | .loStartDone _ => true
  | .loStop _ _ _ => true
  | .loStopDone _ => true
  | .loMute _ _ _ => true
  | .loUnmute _ _ _ => true
  | .loMuteDone _ => true
  | .loShort _ => true
  | .loClr _ _ => true
  | .hsEnable _ _ _ => true
  | .hsDisable _ _ _ => true
  | .jackDetChange _ _ => true
  | .hsDebounceEnd _ => true
  | .hsClassifyEnd _ _ _ _ => true
  | .hsRemove _ => true
  | .hsOutShort _ => true
  | .hsButtonEdge _ _ => true
  | .hsButton _ _ => true
  | .hsOutmute _ _ _ _ => true
  | .ampStart _ _ _ => true
  | .ampStartDone _ => true
  | .ampStop _ _ _ => true
  | .ampStopDone _ => true
  | .fastStopDone _ => true
  | .ampMute _ _ _ => true
  | .ampUnmute _ _ _ => true
  | .ampMuteDone _ => true
  | .ampLimitRun _ => true
  | .ampTrip _ _ _ => true
  | .ampRetry _ => true
  | .ampClr _ _ _ => true
  | .ampClear q => reqWf q
  | .ampDcFault _ _ => true
  | .loopsat _ => true
  | .senseOpen _ => true
  | .senseRecover _ => true
  | .powerLimitUpdate _ _ _ => true
  | .thermalUpdate t => t.length == 8
  | .ampOverTemp _ _ => true
  | .ampOtRestart _ _ => true
  | .boostPrechargeDone _ => true
  | .boostPrechargeTimeout _ _ _ => true
  | .boostHoldExpire _ => true
  | .boostOvp _ => true
  | .boostOvpEnd _ => true
  | .railOvpTrip _ => true
  | .railLow _ _ _ => true
  | .boostClr _ _ => true
  | .pvinOut _ _ => true
  | .pvinOk _ _ => true
  | .pvinCollapse _ => true
  | .coreNop _ => true
  | .coreAdd _ _ _ _ => true
  | .coreSub _ _ _ _ => true
  | .coreAdds _ _ _ _ => true
  | .coreSubs _ _ _ _ => true
  | .coreAnd _ _ _ _ => true
  | .coreOr _ _ _ _ => true
  | .coreXor _ _ _ _ => true
  | .coreShl _ _ _ _ => true
  | .coreShr _ _ _ _ => true
  | .coreSar _ _ _ _ => true
  | .coreShls _ _ _ _ => true
  | .coreMin _ _ _ _ => true
  | .coreMax _ _ _ _ => true
  | .coreAbs _ _ _ => true
  | .coreMul _ _ _ _ => true
  | .coreAddi _ _ _ _ => true
  | .coreAndi _ _ _ _ => true
  | .coreOri _ _ _ _ => true
  | .coreXori _ _ _ _ => true
  | .coreLui _ _ _ => true
  | .coreExp _ _ _ => true
  | .coreExpa _ _ _ => true
  | .coreNorm _ _ _ _ => true
  | .coreNorma _ _ _ => true
  | .coreDivs _ _ _ => true
  | .coreMva _ _ _ _ _ => true
  | .coreMvd _ _ _ _ => true
  | .coreAccClr _ _ => true
  | .coreAccMov _ _ _ => true
  | .coreAccAdd _ _ _ => true
  | .coreAccSub _ _ _ => true
  | .coreAccNeg _ _ _ => true
  | .coreAccShift _ _ _ _ => true
  | .coreLd _ _ _ _ => true
  | .coreSt _ _ _ _ => true
  | .coreLdg _ _ _ _ => true
  | .coreStg _ _ _ _ => true
  | .coreLdx _ _ _ _ _ => true
  | .coreStx _ _ _ _ _ => true
  | .corePadv _ _ _ => true
  | .coreMvc _ _ _ => true
  | .coreMvcs _ _ _ => true
  | .coreB _ _ _ _ _ => true
  | .coreJmp _ _ => true
  | .coreCall _ _ => true
  | .coreRet _ => true
  | .coreLoop _ _ _ => true
  | .coreWait _ _ => true
  | .coreSigCore _ _ _ => true
  | .coreSigForager _ _ => true
  | .coreSigKeeper _ _ => true
  | .coreDone _ => true
  | .coreHalt _ => true
  | .coreMac _ _ => true
  | .coreMsu _ _ => true
  | .coreMpy _ _ => true
  | .coreMacx _ _ => true
  | .coreStart _ _ _ => true
  | .coreStop _ _ _ => true
  | .corePause _ _ _ => true
  | .coreResume _ _ _ => true
  | .coreStep _ _ _ => true
  | .coreClrFlt _ _ _ => true
  | .coreWatchdog _ => true
  | .evtSetHost _ _ _ => true
  | .fabInTransfer => true
  | .fabInDone _ => true
  | .fabOutCheck => true
  | .frgGo _ _ _ => true
  | .memDone _ => true
  | .frgAlloc _ => true
  | .frgFree _ _ _ => true
  | .wagStart _ _ => true
  | .wagStop _ _ => true
  | .odoEdge _ => true
  | .odoWindow => true
  | .deadReckonExpiry => true
  | .fixTimeout => true
  | .posFix q => reqWf q
  | .wagValueWrite _ _ => true
  | .waggleQuery q => reqWf q
  | .cueWordWrite _ _ _ _ => true
  | .cueCommit _ _ _ => true
  | .cueFree _ _ _ => true
  | .cueArm _ _ _ => true
  | .cueDisarm _ _ _ => true
  | .cueSet q => reqWf q
  | .cueClearFree q => reqWf q
  | .cueClearDisarm q => reqWf q
  | .deferredActions => true
  | .clipStart q => reqWf q
  | .clipPrime q => reqWf q
  | .clipStop q => reqWf q
  | .toneStart q => reqWf q
  | .clipQuery q => reqWf q
  | .clipHeadArrive _ _ => true
  | .voiceRefillDone _ _ => true
  | .clipEnd _ => true
  | .voiceFadeEnd _ => true
  | .toneSegmentEnd _ => true
  | .sectorEraseDone _ _ => true
  | .madcTimerTrigger _ _ => true
  | .madcPwmTrigger _ _ => true
  | .madcSwtrig _ _ _ _ => true
  | .adcTrigger q => reqWf q
  | .madcPassStart _ _ _ _ _ => true
  | .madcPassDone _ _ => true
  | .madcFifoRead _ _ => true
  | .madcFlush _ _ _ => true
  | .madcClrPlaus _ _ => true
  | .madcRefOk _ => true
  | .lsvEnable _ _ => true
  | .lsvDisable _ _ => true
  | .lsvWindow m => m.length == 8
  | .lsvLearn _ _ _ => true
  | .lsvQuery q => reqWf q
  | .selftestStart q => reqWf q
  | .selftestLearn q => reqWf q
  | .selftestAbort q => reqWf q
  | .selftestZone _ => true
  | .boot _ => true
  | .imgBegin q => reqWf q
  | .imgData _ q => reqWf q
  | .imgCommit q => reqWf q
  | .imgVerify q => reqWf q
  | .imgVerifyDone _ => true
  | .imgReboot => true
  | .imgSessionTimeout => true
  | .imgConfirm _ q => reqWf q
  | .otpProg _ _ => true
  | .otpProgDone _ => true
  | .otpRevoke _ _ => true
  | .bbxRecordWrite _ => true
  | .bbxMirrorPass _ => true
  | .bbxRead q => reqWf q
  | .bbxPin q => reqWf q
  | .bbxUnpin q => reqWf q
  | .bbxUnpinAll q => reqWf q
  | .eccScrub _ => true
  | .sensorPoll _ _ _ _ => true
  | .supplyAlarm _ _ => true
  | .senseGainCal _ _ => true
  | .telemetryFrame _ => true
  | .telemetry q => reqWf q
  | .swmChallenge q => reqWf q
  | .swmRespond q => reqWf q
  | .swmSet q => reqWf q
  | .swmStop q => reqWf q
  | .swmRelock q => reqWf q
  | .swarmExpiry => true
  | .idleTimer => true
  | .escalation => true
  | .pwrReqGo _ _ => true
  | .pwrRequest q => reqWf q
  | .pwrTolerance q => reqWf q
  | .pwrQuery q => reqWf q
  | .entryPrepare => true
  | .drainTimeout => true
  | .entryCommit => true
  | .wakeIn _ => true
  | .idleExit _ => true
  | .wakeSequence _ => true
  | .wakeStepTimeout _ => true
  | .boostCurrentLimit _ => true
  | .avbiasInRange => true
  | .converterCalibration _ _ _ _ _ => true
  | .swarmRelease h => (match h with | .frame _ _ _ t => decide (t ≤ 20834) | .lines _ => true)
  | .qualificationTimeout _ => true

end Sys2Proof
end

