-- ==== Sys2Proof/Tests/Slice0.lean ====
section
/-! SUPPORT. Tests: ill-formed commands that the check refuses, words of the DSP cores written out from the manual's formats,
the manual's worked examples, and for every statement states and operands that meet its hypotheses, clause by clause. -/

namespace Sys2Proof.Tests

set_option Elab.async false
set_option linter.unusedVariables false

open Sys2Proof.Machine

/-! ### Well-formed commands: one ill-formed term for each check -/

theorem test_wf_payload : (Instr.ping ⟨.spi, 1, List.replicate 245 0⟩).wf = false := by decide +kernel
theorem test_wf_key : (Instr.ping ⟨.udp 0 256 0 0 0, 1, []⟩).wf = false := by decide +kernel
theorem test_wf_ping : (Instr.ping ⟨.spi, 1, []⟩).wf = true := by decide +kernel
theorem test_wf_fetch : (Instr.twFetchTimeout 0).wf = false ∧ (Instr.twFetchTimeout 65).wf = false := by decide +kernel
theorem test_wf_buffer : (Instr.tw1TransferDone (.answered (List.replicate 65 0) 0)).wf = false := by decide +kernel
theorem test_wf_dataNack : (Instr.tw1TransferDone (.dataNack 65)).wf = false := by decide +kernel
theorem test_wf_samples : (Instr.fabricPeriod ⟨[(5, 0), (5, 1)], [], [], [], [], [], [], [], [], none⟩).wf = false := by decide +kernel
theorem test_wf_tdm : (Instr.fabricPeriod ⟨[], [(5, []), (5, [])], [], [], [], [], [], [], [], none⟩).wf = false := by decide +kernel
theorem test_wf_rails : (Instr.fabricPeriod ⟨[], [], [], [], [(3, []), (3, [])], [], [], [], [], none⟩).wf = false := by decide +kernel
theorem test_wf_senses : (Instr.fabricPeriod ⟨[], [], [], [], [], [(3, []), (3, [])], [], [], [], none⟩).wf = false := by decide +kernel
theorem test_wf_mics : (Instr.fabricPeriod ⟨[], [], [], [], [], [], [(3, []), (3, [])], [], [], none⟩).wf = false := by decide +kernel
theorem test_wf_ibias : (Instr.fabricPeriod ⟨[], [], [], [], [], [], [], [(3, 0), (3, 0)], [], none⟩).wf = false := by decide +kernel
theorem test_wf_micF : (Instr.fabricPeriod ⟨[], [], [], [], [], [], [], [], [(3, 0), (3, 0)], none⟩).wf = false := by decide +kernel
theorem test_wf_syncTime : (Instr.ptpSync 0 20835 []).wf = false := by decide +kernel
theorem test_wf_delayTime : (Instr.ptpDelayMsg 0 20835 []).wf = false := by decide +kernel
theorem test_wf_timerTime : (Instr.ptpTimer 0 0 20835).wf = false := by decide +kernel
theorem test_wf_releaseTime : (Instr.swarmRelease (.frame 0 true 0 20835)).wf = false := by decide +kernel
theorem test_wf_sensors : (Instr.thermalUpdate []).wf = false := by decide +kernel
theorem test_wf_lines : (Instr.lsvWindow []).wf = false := by decide +kernel

/-! ### Words of the DSP cores, field by field from the formats of R303 and the opcodes of R305 -/

/-- 0x01, Dd 3, Ds 1, Dt 2. -/
theorem test_word_add : decodeCore 0b000001_00011_00001_00010_0_00000_00000#32 = some (.add 3 1 2) := by decide +kernel
/-- 0x08, Dd 4, Ds 5, IMMSH 1, SH5 7. -/
theorem test_word_shl : decodeCore 0b001000_00100_00101_00000_1_00000_00111#32 = some (.shl 4 5 (.imm 7)) := by decide +kernel
/-- 0x10, Dd 1, Ds 2, IMM16 0xFFFF. -/
theorem test_word_addi : decodeCore 0b010000_00001_00010_1111111111111111#32 = some (.addi 1 2 0xFFFF) := by decide +kernel
/-- 0x18, Dd 6 the result, Dt 8 the count, Ds 7. -/
theorem test_word_norm : decodeCore 0b011000_00110_00111_01000_0_00000_00000#32 = some (.norm 6 8 7) := by decide +kernel
/-- 0x1B, D 9, An 2, PART 1, RND 1. -/
theorem test_word_mva : decodeCore 0b011011_01001_010_000_01_1_0000_00000000#32 = some (.mva 9 2 1 true) := by decide +kernel
/-- 0x1D, An 1, Am 3, FN 5, IMM8 -4. -/
theorem test_word_acc : decodeCore 0b011101_00000_001_011_00_0_0101_11111100#32 = some (.accShift 1 3 0xFC) := by decide +kernel
/-- 0x1E, D 1, U 3, TSEL 1. -/
theorem test_word_ld : decodeCore 0b011110_00001_011_1_00000000000000000#32 = some (.ld 1 3 .unit) := by decide +kernel
/-- 0x25, D 2, CREG 7. -/
theorem test_word_mvc : decodeCore 0b100101_00010_000111_000000000000000#32 = some (.mvc 2 7) := by decide +kernel
/-- 0x27, Ds 1, Dt 2, COND NE, OFF12 -4. -/
theorem test_word_b : decodeCore 0b100111_00001_00010_0001_111111111100#32 = some (.b 1 2 1 0xFFC) := by decide +kernel
/-- 0x29, TARGET 0x1234. -/
theorem test_word_call : decodeCore 0b101001_0000000000_0001001000110100#32 = some (.call 0x1234) := by decide +kernel
/-- 0x2B, IMMF 1, CNT10 64, LEN 5. -/
theorem test_word_loop : decodeCore 0b101011_00000_1_0001000000_0000000101#32 = some (.loop (.imm 64) 5) := by decide +kernel
/-- 0x2D, TGT 0, CORE 17, BITS 0x81. -/
theorem test_word_sig : decodeCore 0b101101_00_10001_00000000000_10000001#32 = some (.sigCore 17 0x81) := by decide +kernel
/-- The worked example under R309: MAC A0:A1 += D0:D1 × D2:D3 with two loads is 0xC030_2490. -/
theorem test_word_mac : decodeCore 0xC0302490#32 = some (.mac ⟨0, 0, 1, true, 0, 0, true, 1, 1, 0, true, false⟩) := by
  decide +kernel
/-- Opcode 0x15 is reserved (R305). -/
theorem test_word_reserved : decodeCore 0x54000000#32 = none := by decide +kernel

/-! ### Worked examples of the manual -/

/-- Under R57: PG_STAT of AMP2 stands at 0x05_E008 and reads 0x0000_0031 with READY = 1 and STATE = 0x3. -/
theorem test_pgStat : P.amp 2 + 8 = 0x05E008 ∧
    ((State.reset.setF (P.amp 2) F.PG_STAT_READY 1).setSt (P.amp 2) 3).rd (P.amp 2 + 8) = 0x31#32 := by decide +kernel
/-- Under R299: H0 0x0100, Z0 32 and P0 48 read word 0x0110. -/
theorem test_pointer : agAddr { CoreHid.reset with h := [0x100], z := [32] } 0 48 0 = 0x110 := by decide +kernel
/-- In the scope file: gain code 2401 is 0 dB, and code 0 is mute. -/
theorem test_gain : linOf 2401 = 0x8000000 ∧ linOf 0 = 0 := by decide +kernel
/-- No word spells a command, since the table gives no row any bits. -/
theorem test_word_none : decodeTableWord 32 0 = none := rfl
/-- After reset the queue is empty, and an empty queue idles. -/
theorem test_idle : step State.reset = .next State.reset := rfl

/-! ### States that meet the hypotheses of the statements -/

def ready : State := { State.reset with sys := { State.reset.sys with service := true, opening := 0 }, clk := { State.reset.clk with halt := none } }
def mov : Gain := { Gain.unity with slope := some (.amp 0 0x8000000 240 0) }
def ent (st : XpSt) (g : Gain) (old : Option (Nat × Gain)) : XpEntry := ⟨1, 0x40, st, 0, g, old⟩
def withEnt (e : XpEntry) : State := setXp ready 3 (some e)
def plo (l : List Byte) : PlReq := ⟨.spi, 1, l⟩
def frgSet : State := (((setFrg (ready.setSt P.frg 2) 0 1).wr (frgBase 0 + 0x404) 0x800000).wr (frgBase 0 + 0x408) 0x840000).wr (frgBase
  0 + 0x40C) 0x01000004
def zst : State := ready.wr (zBase 0 + 0x404) 0x80#32
def zon : State := { zst with img := { zst.img with zlaCore := some 19 } }
def portSet : State := (((ready.setF (P.tdm 0) F.PG_CTRL_EN 1).setSt (P.tdm 0) 2).wr (P.tdm 0 + 0x44) 3).setF P.asrc F.PG_CTRL_EN 1
def chansTaken : State := { portSet with regs := portSet.regs ++ (List.range 256).map fun k => (chAddr k, 0x80000000#32) }
def eth4 : State := let s := ready.setSt (P.eth 0) 4; { s with regs := s.regs ++ [(P.eth 0 + 0x44, 1), (P.eth 0 + 0x48, 0x0200)] }
def ptpAt (v : Nat) : State := (eth4.setF (P.eth 0) F.ETH_PTP_CFG_EN 1).setF (P.eth 0) F.ETH_PTP_STAT_PORT v
def annc : Announce := ⟨128, 248, 0xFE, 0xFFFF, 128, 1, 0, 1⟩
def strSet : State := (ready.wr (P.eth 0 + 0x4C) 0xC0A80001).wr (P.tx 0 + 8) 0xEF000001
def txBuf : State := (((eth4.setF (P.tx 0) F.STR_TX_CTRL_PTIME 0).wr (P.tx 0 + 4) 0).wr (P.tx 0 + 8) 0xEF000001).onTx 0 fun x => { x with buf := List.replicate 6 [] }
def slotLoad (st : Nat) (l : List (Option Byte)) : State := (ready.onSlot 0 fun x => { x with load := some l }).setF (slotBase 0)
  F.SCT_SLOT_CFG_STATE st
def imgHead (crc : Word) : List Byte := [0x53,0x43,0x54,0x4D,1,1,40,0,30,0,1,1] ++ leBytes 4 124 ++ List.replicate 44 0 ++ wordBytes crc
  ++ [0,0,1,1] ++ leBytes 2 40 ++ leBytes 2 1 ++ leBytes 3 80 ++ [0] ++ leBytes 3 120 ++ [0] ++ List.replicate 44 0
def img0 : List Byte := imgHead 3046030780#32
def mic1 : State := ready.wr (P.sct + 0x44) 0x80
def vad (h : Nat) : State := ((ready.setSt P.sct 3).setF P.sct F.SCT_STAT_VAD 1).setF P.sct F.SCT_VAD_HANG h
def bz (k : Knock) : State := ((ready.setSt P.sct 3).wr (P.sct + 0xC0) 0x80).onSct fun z => { z with bz := [k, k] }
def ain (v : Nat) : State := ((ready.setF P.ain F.PG_CTRL_EN 1).setF (ainBase 7) F.AIN_CFG_EN 1).setF (ainBase 7) F.AIN_STAT_STATE v
def ainB (v : Nat) : State := (ain v).onAn fun a => { a with biasOn := [7] }
def lob (en st : Nat) : State := ((ready.setF P.lo F.PG_CTRL_EN 1).setF (loBase 7) F.LO_CFG_EN en).setF (loBase 7) F.LO_STAT_STATE st
def hss (en st : Nat) : State := ((ready.setF P.hs F.PG_CTRL_EN 1).setF (hsBase 3) F.HS_CFG_EN en).setF (hsBase 3) F.HS_JACK_STATE st
def plug (b : Bool) (s : State) : State := s.onAn fun a => { a with det := [b, b, b, b] }
def mic4 : State := (hss 1 4).setF (hsBase 3) F.HS_JACK_CLASS 2
def amp (en st : Nat) : State := (((ready.setF (P.amp 7) F.PG_CTRL_EN 1).setF (P.bst 3) F.PG_CTRL_EN 1).setF (P.amp 7) F.AMP_CTRL_EN
  en).setSt (P.amp 7) st
def fast (en : Nat) (a : AmpAfter) : State := (amp en 7).onAmp 7 fun h => { h with fast := true, after := a }
def run : State := ready.setSt (P.core 0) 3
def m0 : MacOps := ⟨0, 0, 0, false, 0, 0, false, 0, 0, 0, false, false⟩
def m1 : MacOps := ⟨0, 0, 0, true, 0, 0, true, 1, 1, 0, false, false⟩
def frgB : State := ((setFrg (ready.setSt P.frg 2) 0 2).wr (frgBase 0 + 0x408) 0x400000).wr (frgBase 0 + 0x40C) 0x01000004
def wg (run : Bool) (src qual cnt : Nat) (f : Wag → Wag) : State := ((((ready.setF P.wag F.PG_CTRL_EN 1).setF P.wag F.WAG_CFG_SRC
  src).setF P.wag F.WAG_STAT_QUAL qual).set64 (P.clk + 0x68) (BitVec.ofNat 64 cnt)).onWag fun w => f { w with run := run }
def tmo : State := (wg true 1 1 0x4000000 fun w => { w with fixK := some 0 })
def pf (k : Nat) (v : Word) : PlReq := plo (leBytes 8 1000 ++ leBytes 8 k ++ wordBytes v ++ [0, 0, 0, 0])
def wj (f : Nat) : PlReq := plo (leBytes 8 1000000 ++ leBytes 8 100 ++ leBytes 4 0 ++ [BitVec.ofNat 8 f, 0, 0, 0])
def cu (st : Nat) (hold : List (Nat × Word)) : State := setCue (wg true 0 1 100 fun w => { w with holds := if hold = [] then [] else [(.spi, ⟨0, hold⟩)] })
  0 { Cue.free with st := st }
def w3 : List (Nat × Word) := [(0, 0), (1, 0), (4, 0)]
def allCues : State := (ready.setF P.wag F.PG_CTRL_EN 1).onWag fun w => { w with cues := (List.range 1024).map fun k => (k, { Cue.free with st := 1 }) }
def cs (i : Nat) : PlReq := plo (leBytes 2 i ++ [0, 0] ++ List.replicate 24 0 ++ wordBytes 0)
def def1 (o : Option Deferred) : State := wg true 0 1 100 fun w => { w with deferred := o.toList }
def clipEntry : List Byte := leBytes 4 0 ++ leBytes 4 4 ++ [0, 0, 0, 0] ++ leBytes 4 2 ++ List.replicate 16 0
def lib : List Byte := List.replicate 6 0 ++ [1, 0] ++ List.replicate 16 0 ++ leBytes 4 1 ++ List.replicate 36 0 ++ clipEntry ++
  List.replicate 4000 0
def cl (b : Nat) : State := (((({ ready with flash := { blankFlash with libs := [lib, []] } } : State).setF P.clip F.CLIP_LIB_VALID
  b).setF P.clip F.CLIP_LIB_NCLIP 1).setF P.clip F.PG_CTRL_EN 1)
def vo (n : Nat) (v : Voice) : State := (cl 1).onVoice n fun _ => v
def seg : ToneSeg := ⟨440, 0, 0x1000, 0, false, 0⟩
def tn (n : Nat) (x : Tone) : State := ({ (cl 1) with img := { Image.empty with tones := [⟨[seg, seg], 1⟩] } } : State).onTone n fun _ => x
def runTone : Tone := { Tone.idle with run := true }
def mad (f : Madc → Madc) : State := (((ready.setF (P.madc 1) F.PG_CTRL_EN 1).setF (seqBase 1 3) F.MADC_SEQ_CFG_EN 1).onMadc 1 f)
def trg (k : Nat) : State := (mad id).setF (seqBase 1 3) F.MADC_SEQ_TRIG_TRIG k
def ps : Pass := ⟨3, 0, false, false⟩
def lv : State := ready.setF P.lsv F.PG_CTRL_EN 1
def lvw : Word := 0x01105100
def lvOn : State := (lv.setF P.lsv F.LSV_CFG_EN 1)
def z1 : SelfTest := ⟨false, 20, [1], some (0, 0)⟩
def im0 : State := (ready.setSt P.fls 3)
def hdr0 : List Byte := [0x46, 0x4C, 0x59, 0x54, 0x01, 7, 0, 0] ++ (List.range 7).flatMap fun i => [BitVec.ofNat 8 (i + 1), 0] ++
  leBytes 3 (16 * i) ++ leBytes 3 16
def hdr : List Byte := hdr0 ++ wordBytes (crc32 hdr0)
def flashed : FlashImage := { blankFlash with hdr := hdr }
def im1 : State := { im0 with flash := flashed }
def imR (f : Keeper → Keeper) : State := im0.onKpr f
def ses : Session := ⟨.spi, 0xFF, 0, 1, 128, [1, 2, 3]⟩
def ses1 : Session := ⟨.spi, 0xFF, 0, 1, 3, [1, 2, 3]⟩
def imS (e : Session) : State := (imR fun k => { k with session := some e }).setF P.kpr F.KPR_IMG_BYTES_BYTES 3
def vf : Verify := ⟨false, 0, 1, false, [], .spi⟩
def rec0 : BbxRec := { seq := 1, st := .valid, sev := 0, swarm := false, forced := false, uptime := 0, waggle := 0, wq := 0, unit := 0, code := 0, src := 0, payload := [], crc := 0 }
def recOk : BbxRec := { rec0 with crc := recCrc rec0 }
def bb (l : List (Nat × BbxRec)) : State := { (ready.setSt P.fls 3) with mram := { Mram.empty with ring := l } }
def bbm : State := ({ bb ((List.range 64).map fun i => (i, { rec0 with seq := i + 1 })) with flash := { blankFlash with bbx := (List.range 8).map fun i => ⟨i, 0, false, []⟩ } }).setF
  P.bbx F.BBX_CFG_MIRROR 1
def kp (f : Keeper → Keeper) : State := ready.onKpr f
def key3 : UdpKey := ⟨3, [1, 2], none, []⟩
def sw : State := { ((ready.setF P.swm F.PG_CTRL_EN 1).onSwm fun w => { w with challenge := some (3, 7) }) with ports := { ready.ports with udp := { ready.ports.udp with keys := [key3] } } }
def swOn : State := sw.setF P.swm F.SWM_STAT_UNLOCKED 1
def pw (f : Sys → Sys) : State := ((ready.setF P.pwr F.PG_CTRL_EN 1).onSys fun y => f { y with wakeIn := false })
def en0 (t : PwrMode) (k : Nat) (p : Bool) (src : Option Nat) : Entry := ⟨t, k, .run, p, src, .spi, 0x50, 0⟩
def ent0 (e : Entry) : State := (pw id).onSys fun y => { y with entry := some e }
def dr (e : Entry) : State := (setFrg (ent0 e) 31 2)
def idl (n a tol : Nat) : State := (((pw id).setF P.pwr F.PWR_CFG_IDLE_TMR n).setF P.pwr F.PWR_CFG_AUTO_MAX a).setF P.pwr F.PWR_TOL_TOL tol
def pm (m : PwrMode) : State := pw fun y => { y with mode := m }
def wk (m : PwrMode) (f : Sys → Sys) : State := pw fun y => f { y with mode := m }
def hold3 (v : Word) (s : State) : State := { s with holds := [(⟨.spi, P.cmb⟩, 0x020018, v)] }
def full64 : State := forEach (List.range 64) (fun i s => setXp s (100 + i) (some ⟨2 + i, 0x40, .steady, 0, Gain.unity, none⟩)) ready
def due0 (m : List (Option (Nat × Nat))) (h : Bool) : State := onZone (((zst.setF (zBase 0) F.ZLA_CFG_EN 1).setSt P.cmb 2).setF (zBase
  0) F.ZLA_CFG_MIC_MIN 1) 0 fun y => { y with due := some ⟨m, 8000, h⟩ }
def tapsTaken : State := forEach (List.range 64) (fun i s => setXp s (100 + i) (some ⟨2, 0x3C0 + i, .steady, 0, Gain.unity, none⟩)) zon
def eth4ip : State := eth4.wr (P.eth 0 + 0x4C) 0xC0A80001
def frame (dst : Nat) (etype : Nat) (data : List Byte) : List Byte := let g := beBytes 6 dst ++ beBytes 6 2 ++ beBytes 2 etype ++ data;
  g ++ wordBytes (crc32 g)
def ipHead (p src dst n c : Nat) : List Byte := beBytes 2 0x4500 ++ beBytes 2 (20 + n) ++ [0, 0, 0, 0, 64] ++ beBytes 1 p ++ beBytes 2 c
  ++ beBytes 4 src ++ beBytes 4 dst
def ipFrame (p dst : Nat) (data : List Byte) : List Byte := frame 0xFFFFFFFFFFFF 0x0800 (ipHead p 0xC0A80002 dst data.length (65535 -
  sum16 (ipHead p 0xC0A80002 dst data.length 0) % 65535) ++ data)
def udpFrame (dst port c : Nat) (data : List Byte) : List Byte := ipFrame 17 dst (beBytes 2 5000 ++ beBytes 2 port ++ beBytes 2 (8 +
  data.length) ++ beBytes 2 c ++ data)
def rtpBytes0 : List Byte := [0x80, 96] ++ beBytes 2 1 ++ beBytes 4 0 ++ beBytes 4 7
def summed (l : List Byte) : List Byte := l.take 2 ++ beBytes 2 (65535 - sum16 l % 65535) ++ l.drop 4
def ptpBytes (type dom flags port : Nat) (rest : List Byte) : List Byte := [BitVec.ofNat 8 type, 2] ++ beBytes 2 (44 + rest.length) ++
  [BitVec.ofNat 8 dom, 0, BitVec.ofNat 8 flags, 0] ++ List.replicate 12 0 ++ beBytes 10 port ++ beBytes 2 0 ++ [0, 0] ++ beBytes 6 0 ++
  beBytes 4 0 ++ rest
def ptpUdp (type flags port : Nat) (rest : List Byte) : List Byte := udpFrame 0xE0000181 320 0 (ptpBytes type 0 flags port rest)
def rtpSt (v : Word) : State := ((eth4ip.wr (P.rx 0) v).wr (P.rx 0 + 8) 0xEF000001).setF (P.rx 0) F.STR_RX_PORT_DPORT 5004 |>.wr (P.rx 0
  + 4) 0
def arpF (op sip smac tip : Nat) : List Byte := frame 0xFFFFFFFFFFFF 0x0806 (beBytes 6 0x000108000604 ++ beBytes 2 op ++ beBytes 6 smac
  ++ beBytes 4 sip ++ beBytes 6 0 ++ beBytes 4 tip)
def followed (v : Nat) : State := (ptpAt v).onLink 0 fun l => { l with ptp := { l.ptp with parent := some { annc with sender := 2 } } }
def udpSt : State := (eth4ip.setF P.kpr F.KPR_UDP_CFG_EN 1).setF P.kpr F.KPR_UDP_CFG_LINKS 15
def ptpM (t : Nat) (two : Bool) (req : BitVec 80) (seq : BitVec 16) : PtpMsg := ⟨t, 0, two, 0, 2, seq, 0, 0, req, annc⟩
def strOnAll : State := forEach (List.range 32) (fun j s => s.wr (P.tx j) 0x80000000) strSet
def heard (g : Bool) (vad : Nat) : State := (((ready.setSt P.sct 3).setF P.sct F.SCT_STAT_VAD vad).setF P.sct F.SCT_VAD_MIN 0).onSct fun
  x => { x with fresh := 160, mean := [(0, g)] }
def ampOk (en st : Nat) : State := (amp en st).setF (P.bst 3) F.BST_PVIN_PV_OK 1
def pwrLow (s : State) : State := s.onSys fun y => { y with pwrFailN := false }
def runH (l : List Nat) : State := run.onCore 0 fun k => { k with h := l }
def madP (p : Nat) (f : Madc → Madc) : State := (mad f).setF (seqBase 1 3) F.MADC_SEQ_CFG_POLICY p
def lvT : State := lv.onLsv fun l => { l with test := some z1 }
def lvFull : State := forEach (List.range 64) (fun i s => setXp s (100 + i) (some ⟨2, 0x3C0 + i, .steady, 0, Gain.unity, none⟩))
  (lv.setF (lineBase 0) F.LSV_REF_EN 1)
def imV (s : State) : State := s.onKpr fun k => { k with verify := some vf }
def dat (off : Nat) (l : List Byte) : PlReq := plo (leBytes 4 off ++ l)
def sesP : Session := ⟨.plostoSpi, 0xFF, 0, 1, 128, [1, 2, 3]⟩
def sesQ : Session := ⟨.plostoSpi, 0xFF, 0, 1, 3, [1, 2, 3]⟩
def logged : State := { ready.setSt P.fls 3 with flash := { blankFlash with log := [⟨0, 0, false, []⟩] } }
def lvFull3 : State := lvFull.setF P.lsv F.LSV_INFO_CORE 3
def noRef (s : State) : State := s.onClk fun c => { c with halt := some .ref }

/-! ### One theorem for each statement: for each of its clauses a state and operands that meet the hypotheses -/

/-- The number that the four bytes of a word spell. -/
theorem leNat_wordBytes (w : Word) : leNat (wordBytes w) = w.toNat := by
  simp only [wordBytes, leNat, BitVec.toNat_setWidth, BitVec.toNat_ushiftRight, Nat.shiftRight_eq_div_pow]
  have := w.isLt
  omega

/-- How many bytes a number is written in. -/
theorem leBytes_length (n v : Nat) : (leBytes n v).length = n := by
  induction n generalizing v with
  | zero => rfl
  | succ n ih => simp [leBytes, ih]

/-- A frame built with its FCS has it right. -/
theorem frame_sound (d e : Nat) (l : List Byte) : fcsOk (frame d e l) = true := by
  have h (g : List Byte) (hg : 14 ≤ g.length) : fcsOk (g ++ wordBytes (crc32 g)) = true := by
    have h4 : (wordBytes (crc32 g)).length = 4 := rfl
    have hl : (g ++ wordBytes (crc32 g)).length - 4 = g.length := by simp [h4]
    simp only [fcsOk, hl, List.drop_left, List.take_left, leNat_wordBytes]
    simp [h4, hg]
  apply h
  simp [beBytes, leBytes_length]
  omega

/-- What such a frame is for a link, its FCS left out. -/
theorem netIn_frame {s : State} {n d t : Nat} {l : List Byte} {k : NetIn}
    (h : (let f := frame d t l; let e := ethIn f
      if !macTaken s n e.dst then .filtered
      else if 1522 < f.length ∨ !tagTaken s n e.vid then .drop
      else if e.etype = 0x0806 then arpOf e.data
      else if e.etype = 0x0800 then ((ipIn s n e.data).map (ipFor s n)).getD .drop
      else if e.etype = 0x88F7 ∧ e.dst = 0x0180C200000E ∧ ptpOn s n 1 then ptpOrDrop e.data
      else if e.etype = 0x8808 then .ignored
      else .drop) = k) : netIn s n (frame d t l) = k := by
  rw [netIn, frame_sound]
  exact h

/-- A message of another port in the domain of a port that runs is taken. -/
theorem fits {s : State} {n : Nat} {m : PtpMsg} (h : ptpRuns s n = true) (hd : m.dom = s.getF (P.eth n) F.ETH_PTP_CFG_DOMAIN)
    (hp : m.port = 2#80) : ptpFits s n m = true := by
  have h1 : ((2#80) != ownPort n) = true := by
    have : (ownPort n).setWidth 16 = 1#16 := BitVec.setWidth_append_eq_right
    simp only [bne_iff_ne]
    intro e
    rw [← e] at this
    exact absurd this (by decide)
  simp [ptpFits, h, hd, hp, h1]


theorem witness_StepRunsTheFrontCommand :
  (let s : State := ready; decide (s.pending = [])) := by
  decide +kernel

theorem witness_ResetLeavesTheTablesValues :
  (let a : ℕ := 0; decide ((a ≠ 80))) := by
  decide +kernel

theorem witness_CoreWordsRoundTrip :
  (let w : Word := 0xC0000000#32;
   decide ((48 ≤ (w >>> 26).toNat ∨ (w >>> 26).toNat ≤ 47 ∧ (w >>> 26).toNat ≠ 21 ∧ (w >>> 26).toNat ≠ 29 ∧ (w >>> 26).toNat ≠ 45))) ∧
  (let w : Word := 0x54000000#32; decide ((w >>> 26).toNat = 21)) := by
  refine ⟨?_, ?_⟩ <;> decide +kernel

theorem witness_WritesAreServedRefusedOrNotPerformed :
  (let s : State := ready; let r : Req := .spi; let a : BitVec 24 := 0x0F0000#24; let n := a.toNat; let t := s.wakeFor n;
   let why : BadReason := .unmapped; decide (reaches s r = true ∧ opened s r n = true ∧ writeBad t n = some why)) ∧
  (let s : State := ready.setF P.pdm F.PG_CTRL_LOCK 1; let r : Req := .spi; let a : BitVec 24 := 0x057004#24; let n := a.toNat;
   let t := s.wakeFor n; decide (reaches s r = true ∧ opened s r n = true ∧ writeBad t n = none ∧ lockedOut t n = true)) ∧
  (let c : Code := .unknown; decide ((checkRank c < checkRank Code.locked))) ∧
  (let c : Code := .range; decide ((checkRank Code.locked ≤ checkRank c))) ∧
  (let s : State := ready; let r : Req := .spi; let a : BitVec 24 := 0x00004C#24; let v : Word := 0; let n := a.toNat;
      let t := s.wakeFor n;
   let o := regWrite r n v t; decide (served s r n = true ∧ o.1 = Code.done)) ∧
  (let s : State := ready; let r : Req := .spi; let a : BitVec 24 := 0x000054#24; let v : Word := 1; let n := a.toNat;
      let t := s.wakeFor n;
   let o := regWrite r n v t; decide (served s r n = true ∧ (o.1 ≠ Code.done))) := by
  refine ⟨?_, ?_, ?_, ?_, ?_, ?_⟩ <;> decide +kernel

theorem witness_FrameWordsAreStored :
  (let s : State := ready; let r : Req := .spi; let a : BitVec 24 := 0x800000#24; let k : ℕ := 0; let off : ℕ := 0; let n := a.toNat;
   let t := s.wakeFor n;
   decide (Memory.wf s.mem = true ∧ served s r n = true ∧ regionOf n = Region.frame k off ∧ t.ports.spi.srstNext = false)) := by
  decide +kernel

theorem witness_HeaderWritesAct :
  (let s : State := ready; let r : Req := .spi; let p : Fin 77 := 0; let pg : ℕ := pageOfIndex ↑p; decide (served s r (pg + 12) = true)) ∧
  (let s : State := ready; let r : Req := .spi; let p : Fin 77 := 0; let pg : ℕ := pageOfIndex ↑p; decide (served s r (pg + 24) = true)) ∧
  (let s : State := ready; let r : Req := .spi; let p : Fin 77 := 0; let pg : ℕ := pageOfIndex ↑p; let a : BitVec 24 := 0x20#24;
   decide (a.toNat = pg + 32 ∧ served s r (pg + 32) = true)) ∧
  (let s : State := ready; let r : Req := .spi; let p : Fin 77 := 0; let pg : ℕ := pageOfIndex ↑p; decide (served s r (pg +
      36) = true)) := by
  refine ⟨?_, ?_, ?_, ?_⟩ <;> decide +kernel

theorem witness_PagesAreEnabledLockedAndReset :
  (let s : State := ready; let r : Req := .spi; let p : Fin 77 := 0; let pg : ℕ := pageOfIndex ↑p; let t := s.wakeFor (pg + 4);
   let en : Bool := true; decide ((rowOf pg).isSome = true ∧ served s r (pg + 4) = true ∧ t.en pg = en)) ∧
  (let s : State := ready; let r : Req := .spi; let p : Fin 77 := 14;
   let row : PageRow := { kind := PageKind.asrc, base := 262144, count := 1, typeCode := 17, index := 14, dom := Dom.core, en := false };
   let inst : ℕ := 0; let pg : ℕ := pageOfIndex ↑p; let t := s.wakeFor (pg + 4); let en : Bool := true;
   decide (rowOf pg = some (row, inst) ∧ served s r (pg + 4) = true ∧ t.en pg = !en ∧ (¬(en = false ∧ (speaksBy r row.kind inst = true ∨
      row.kind = PageKind.bst ∧ pairOff t inst = false))))) ∧
  (let s : State := ready; let r : Req := .spi; let p : Fin 77 := 3;
   let row : PageRow := { kind := PageKind.spi, base := 12288, count := 1, typeCode := 4, index := 3, dom := Dom.keeper, en := true };
   let inst : ℕ := 0; let pg : ℕ := pageOfIndex ↑p; let t := s.wakeFor (pg + 4); let en : Bool := false;
   decide (rowOf pg = some (row, inst) ∧ served s r (pg + 4) = true ∧ t.en pg = true ∧ en = false ∧ (speaksBy r row.kind inst = true ∨
      row.kind = PageKind.bst ∧ pairOff t inst = false))) ∧
  (let s : State := (ready.setF (P.bst 3) F.PG_CTRL_EN 1).setSt (P.amp 7) 4; let r : Req := .spi; let p : Fin 77 := 51;
   let row : PageRow := { kind := PageKind.bst, base := 409600, count := 4, typeCode := 33, index := 48, dom := Dom.core, en := false };
   let inst : ℕ := 3; let pg : ℕ := pageOfIndex ↑p; let t := s.wakeFor (pg + 4);
   decide (rowOf pg = some (row, inst) ∧ served s r (pg + 4) = true ∧ (row.kind = PageKind.bst ∧ pairOff t inst = false))) ∧
  (let s : State := ready; let r : Req := .spi; let p : Fin 77 := 3;
   let row : PageRow := { kind := PageKind.spi, base := 12288, count := 1, typeCode := 4, index := 3, dom := Dom.keeper, en := true };
   let inst : ℕ := 0; let pg : ℕ := pageOfIndex ↑p; let t := s.wakeFor (pg + 4);
   decide (rowOf pg = some (row, inst) ∧ served s r (pg + 4) = true ∧ (¬(row.kind = PageKind.bst ∧ pairOff t inst = false)) ∧
      row.kind = PageKind.spi ∧ r = Req.spi)) ∧
  (let s : State := ready; let r : Req := .spi; let p : Fin 77 := 0;
   let row : PageRow := { kind := PageKind.sys, base := 0, count := 1, typeCode := 1, index := 0, dom := Dom.aon, en := true };
   let inst : ℕ := 0; let pg : ℕ := pageOfIndex ↑p; let t := s.wakeFor (pg + 4);
   decide (rowOf pg = some (row, inst) ∧ served s r (pg + 4) = true ∧ (¬(row.kind = PageKind.bst ∧ pairOff t inst = false)) ∧
      (¬(row.kind = PageKind.spi ∧ r = Req.spi)))) ∧
  (let p : Fin 77 := 0;
   let row : PageRow := { kind := PageKind.sys, base := 0, count := 1, typeCode := 1, index := 0, dom := Dom.aon, en := true };
   let inst : ℕ := 0; let pg : ℕ := pageOfIndex ↑p; let u : State := ready;
   decide (rowOf pg = some (row, inst) ∧ outputLive row.kind inst u = false)) ∧
  (let p : Fin 77 := 47;
   let row : PageRow := { kind := PageKind.amp, base := 376832, count := 8, typeCode := 32, index := 40, dom := Dom.core, en := false };
   let inst : ℕ := 7; let pg : ℕ := pageOfIndex ↑p; let u : State := amp 1 4;
   decide (rowOf pg = some (row, inst) ∧ outputLive row.kind inst u = true)) ∧
  (let s : State := ready; let p : Fin 77 := 0; let pg : ℕ := pageOfIndex ↑p;
   decide ((rowOf pg).isSome = true ∧ s.isSet pg F.PG_CTRL_SRST = false)) ∧
  (let s : State := ready.setF P.frm F.PG_CTRL_SRST 1; let p : Fin 77 := 76; let pg : ℕ := pageOfIndex ↑p;
   decide ((rowOf pg).isSome = true ∧ s.isSet pg F.PG_CTRL_SRST = true ∧ s.sys.muting.contains pg = false)) ∧
  (let s : State := (((amp 1 4).setF (P.amp 7) F.PG_CTRL_SRST 1).onSys fun y => { y with muting := [P.amp 7] }); let p : Fin 77 := 47;
   let row : PageRow := { kind := PageKind.amp, base := 376832, count := 8, typeCode := 32, index := 40, dom := Dom.core, en := false };
   let inst : ℕ := 7; let pg : ℕ := pageOfIndex ↑p;
   decide (rowOf pg = some (row, inst) ∧ s.isSet pg F.PG_CTRL_SRST = true ∧ s.sys.muting.contains pg = true ∧
      outputLive row.kind inst s = true)) ∧
  (let s : State := (((amp 1 2).setF (P.amp 7) F.PG_CTRL_SRST 1).onSys fun y => { y with muting := [P.amp 7] }); let p : Fin 77 := 47;
   let row : PageRow := { kind := PageKind.amp, base := 376832, count := 8, typeCode := 32, index := 40, dom := Dom.core, en := false };
   let inst : ℕ := 7; let pg : ℕ := pageOfIndex ↑p;
   decide (rowOf pg = some (row, inst) ∧ s.isSet pg F.PG_CTRL_SRST = true ∧ s.sys.muting.contains pg = true ∧
      outputLive row.kind inst s = false)) ∧
  (let p : Fin 77 := 0;
   let row : PageRow := { kind := PageKind.sys, base := 0, count := 1, typeCode := 1, index := 0, dom := Dom.aon, en := true };
   let pg : ℕ := pageOfIndex ↑p; let u : State := ready;
   decide ((rowOf pg).isSome = true ∧ (regsWf u.regs) ∧ (row.kind ∈ [PageKind.sys, PageKind.spi, PageKind.bbx, PageKind.nrs, PageKind.swm,
      PageKind.asrc, PageKind.bst, PageKind.frm]))) := by
  refine ⟨?_, ?_, ?_, ?_, ?_, ?_, ?_, ?_, ?_, ?_, ?_, ?_, ?_⟩ <;> decide +kernel

theorem witness_WideQuantitiesAndFifosMove :
  (let r : Req := .spi; let a : BitVec 24 := 0x044#24; let v : Word := 0; let n := a.toNat;
   let e : Instr × Bool := (Instr.writeHiCommit r a v, isHi n); decide (e.2 = false)) ∧
  (let s : State := ready; let r : Req := .spi; let a : BitVec 24 := 0x044#24; let v : Word := 0; let n := a.toNat; let t := s.wakeFor n;
   let o := regWrite r n v t; let e : Instr × Bool := (Instr.writeLoHold r a v, isLo n);
   decide (e.2 = true ∧ served s r n = true ∧ o.1 = Code.done)) ∧
  (let s : State := ready.setSt (P.eth 3) 4; let r : Req := .spi; let a : BitVec 24 := 0x054048#24; let v : Word := 0; let n := a.toNat;
   let t := s.wakeFor n; let o := regWrite r n v t; let e : Instr × Bool := (Instr.writeHiCommit r a v, isHi n);
   decide (e.2 = true ∧ served s r n = true ∧ (o.1 ≠ Code.done))) ∧
  (let s : State := ready; let r : Req := .spi; let a : BitVec 24 := 0x044#24; let n := a.toNat;
   let row : PageRow := ⟨.sys, 0, 1, 1, 0, .aon, true⟩; let inst : ℕ := 0; let off : ℕ := 0x44;
   decide (regionOf n = Region.page row inst off ∧ isLo n = true ∧ served s r n = true)) ∧
  (let s : State := ready; let r : Req := .spi; let a : BitVec 24 := 0x054048#24; let n := a.toNat; let t := s.wakeFor n;
      let k : Fin 4 := 3;
   decide (n = P.eth ↑k + 72 ∧ served s r n = true ∧ (t.st (P.eth ↑k) ≤ 2))) ∧
  (let s : State := ready.setSt (P.eth 3) 4; let r : Req := .spi; let a : BitVec 24 := 0x054048#24; let n := a.toNat;
      let t := s.wakeFor n;
   let k : Fin 4 := 3; decide (n = P.eth ↑k + 72 ∧ served s r n = true ∧ (2 < t.st (P.eth ↑k)))) ∧
  (let s : State := ready; let r : Req := .spi; let a : BitVec 24 := 0x00A050#24; let n := a.toNat; let t := s.wakeFor n;
   decide (n = P.wag + 80 ∧ served s r n = true ∧ t.wag.run = false)) ∧
  (let s : State := (ready.setF P.wag F.WAG_CFG_SRC 2).onWag fun w => { w with run := true }; let r : Req := .spi;
   let a : BitVec 24 := 0x00A050#24; let n := a.toNat; let t := s.wakeFor n;
   decide (n = P.wag + 80 ∧ served s r n = true ∧ t.wag.run = true ∧ wagSrc t = 2)) ∧
  (let s : State := ready.onWag fun w => { w with run := true }; let r : Req := .spi; let a : BitVec 24 := 0x00A050#24; let n := a.toNat;
   let t := s.wakeFor n; decide (n = P.wag + 80 ∧ served s r n = true ∧ t.wag.run = true ∧ (wagSrc t ≠ 2))) ∧
  (let s : State := { ready with holds := [(holdKey .spi 0x054048, 0x054044, 7)] }; let r : Req := .spi; let a : BitVec 24 := 0x054048#24;
   let n := a.toNat; let t := s.wakeFor n; let w : Word := 7; decide (alGet t.holds (holdKey r n) = some (n - 4, w))) ∧
  (let a : BitVec 24 := 0x054048#24; let n := a.toNat; decide (isLo n = false)) ∧
  (let a : BitVec 24 := 0x044#24; let n := a.toNat; decide (isHi n = false)) ∧
  (let s : State := ready; let r : Req := .spi; let a : BitVec 24 := 0x044#24; let n := a.toNat;
   decide (isLo n = true ∧ readable s r n = true ∧ hasShadow r = true)) ∧
  (let s : State := { ready with shadows := [(holdKey .spi 0x48, 0x44, 7)] }; let r : Req := .spi; let a : BitVec 24 := 0x048#24;
   let n := a.toNat; let t := s.wakeFor n; let w : Word := 7;
   decide (isHi n = true ∧ isLo n = false ∧ readable s r n = true ∧ hasShadow r = true ∧ alGet t.shadows (holdKey r n) = some (n - 4,
      w))) ∧
  (let s : State := { ready with shadows := [(holdKey .spi 0x48, 0x4C, 7)] }; let r : Req := .spi; let a : BitVec 24 := 0x048#24;
   let n := a.toNat; let t := s.wakeFor n; let b : ℕ := 0x4C; let w : Word := 7;
   decide (isHi n = true ∧ isLo n = false ∧ readable s r n = true ∧ hasShadow r = true ∧ (b ≠ n - 4) ∧
      alGet t.shadows (holdKey r n) = some (b, w))) ∧
  (let s : State := ready; let r : Req := .spi; let a : BitVec 24 := 0x054048#24; let n := a.toNat; let t := s.wakeFor n;
   decide (isHi n = true ∧ isLo n = false ∧ readable s r n = true ∧ hasShadow r = true ∧ alGet t.shadows (holdKey r n) = none)) ∧
  (let s : State := ready; let r : Req := .keeper; let a : BitVec 24 := 0x044#24; let n := a.toNat; let t := s.wakeFor n;
   decide (readable s r n = true ∧ hasShadow r = false ∧ t.bad.contains n = false ∧ (n ≠ P.tw 0 + 76) ∧ (n ≠ P.madc 0 + 80) ∧
      (n ≠ P.madc 1 + 80) ∧ isLo n = true)) ∧
  (let s : State := ready; let r : Req := .keeper; let a : BitVec 24 := 0x048#24; let n := a.toNat; let t := s.wakeFor n;
   decide (readable s r n = true ∧ hasShadow r = false ∧ t.bad.contains n = false ∧ (n ≠ P.tw 0 + 76) ∧ (n ≠ P.madc 0 + 80) ∧
      (n ≠ P.madc 1 + 80) ∧ isHi n = true)) ∧
  (let s : State := ready; let r : Req := .spi; let n : Fin 2 := 0; let a : ℕ := P.madc ↑n + 80; let t := s.wakeFor a;
   decide (readable s r a = true ∧ t.bad.contains a = false ∧ (t.conv ↑n).fifo = [])) ∧
  (let s : State := ready.onMadc 1 fun m => { m with fifo := [5] }; let r : Req := .spi; let n : Fin 2 := 1; let a : ℕ := P.madc ↑n + 80;
   let t := s.wakeFor a; let w : Word := 5; let l : List Word := [];
   decide (readable s r a = true ∧ t.bad.contains a = false ∧ (t.conv ↑n).fifo = w :: l)) := by
  refine ⟨?_, ?_, ?_, ?_, ?_, ?_, ?_, ?_, ?_, ?_, ?_, ?_, ?_, ?_, ?_, ?_, ?_, ?_, ?_, ?_⟩ <;> decide +kernel

theorem witness_SpiFramesAreServed :
  (let s : State := ready; let d : Byte := 0xA0; let args : List Byte := [0,0,0]; let t := spiState 3 s;
   let crc := t.isSet P.spi F.SPI_CFG_CRC; decide (dselHit s d = true ∧ reaches s Req.spi = true ∧ crc = false ∧ (args.length < 4))) ∧
  (let s : State := ready; let d : Byte := 0xA0; let args : List Byte := [0,0,0,65]; let t := spiState 3 s; let n := field args 3 1;
   let crc := t.isSet P.spi F.SPI_CFG_CRC;
   decide (dselHit s d = true ∧ reaches s Req.spi = true ∧ crc = false ∧ (4 ≤ args.length) ∧ (n = 0 ∨ 64 < n))) ∧
  (let s : State := ready; let d : Byte := 0xA0; let args : List Byte := [0,0,0,1,0]; let t := spiState 3 s; let n := field args 3 1;
   let crc := t.isSet P.spi F.SPI_CFG_CRC;
   decide (dselHit s d = true ∧ reaches s Req.spi = true ∧ crc = false ∧ (4 ≤ args.length) ∧ (1 ≤ n) ∧ (n ≤ 64) ∧ (args.length < 4 +
      4 * n))) ∧
  (let s : State := ready; let d : Byte := 0xA0; let args : List Byte := [0,0,0,1,0,0,0,0,0]; let t := spiState 3 s;
      let n := field args 3 1;
   let crc := t.isSet P.spi F.SPI_CFG_CRC;
   decide (dselHit s d = true ∧ reaches s Req.spi = true ∧ crc = false ∧ (4 ≤ args.length) ∧ (1 ≤ n) ∧ (n ≤ 64) ∧ (4 +
      4 * n < args.length))) ∧
  (let s : State := ready; let d : Byte := 0xA0; let args : List Byte := [0,0,0,1,0,0,0,0]; let t := spiState 3 s;
      let n := field args 3 1;
   let crc := t.isSet P.spi F.SPI_CFG_CRC;
   decide (dselHit s d = true ∧ reaches s Req.spi = true ∧ crc = false ∧ (4 ≤ args.length) ∧ (1 ≤ n) ∧ (n ≤ 64) ∧ args.length = 4 +
      4 * n)) ∧
  (let s : State := ready.setF P.spi F.SPI_CFG_CRC 1; let d : Byte := 0xA0; let args : List Byte := [0]; let t := spiState 3 s;
   let crc := t.isSet P.spi F.SPI_CFG_CRC; decide (dselHit s d = true ∧ reaches s Req.spi = true ∧ crc = true ∧ (args.length < 4))) ∧
  (let s : State := ready.setF P.spi F.SPI_CFG_CRC 1; let d : Byte := 0xA0; let args : List Byte := [0,0,0,0]; let t := spiState 3 s;
   let n := field args 3 1; let crc := t.isSet P.spi F.SPI_CFG_CRC;
   decide (dselHit s d = true ∧ reaches s Req.spi = true ∧ crc = true ∧ (4 ≤ args.length) ∧ (n = 0 ∨ 64 < n))) ∧
  (let s : State := ready.setF P.spi F.SPI_CFG_CRC 1; let d : Byte := 0xA0;
   let args : List Byte := [0,0,0,1,0,0,0,0,crc8 [0xA0,0x30,0,0,0,1,0,0,0,0]]; let t := spiState 3 s; let n := field args 3 1;
   let crc := t.isSet P.spi F.SPI_CFG_CRC;
   decide (dselHit s d = true ∧ reaches s Req.spi = true ∧ crc = true ∧ (1 ≤ n) ∧ (n ≤ 64) ∧ args.length = 5 + 4 * n ∧
      crc8 (d :: 48 :: List.take (4 + 4 * n) args) = (List.drop (4 + 4 * n) args).headD 0)) ∧
  (let s : State := ready.setF P.spi F.SPI_CFG_CRC 1; let d : Byte := 0xA0; let args : List Byte := [0,0,0,1,0,0,0,0,0xE2];
   let t := spiState 3 s; let n := field args 3 1; let crc := t.isSet P.spi F.SPI_CFG_CRC;
   decide (dselHit s d = true ∧ reaches s Req.spi = true ∧ crc = true ∧ (4 ≤ args.length) ∧ (1 ≤ n) ∧ (n ≤ 64) ∧ (args.length ≠ 5 +
      4 * n ∨ crc8 (d :: 48 :: List.take (4 + 4 * n) args) ≠ (List.drop (4 + 4 * n) args).headD 0))) ∧
  (let s : State := ready.onSys fun y => { y with service := false }; let d : Byte := 0xA0; let t := spiState 3 s;
   decide (dselHit s d = true ∧ reaches s Req.spi = true ∧ t.sys.service = false)) ∧
  (let s : State := ready; let d : Byte := 0xA0; let args : List Byte := [1,1,0,0,0,0,0,0] ++ wordBytes (crc32 [1,1,0,0,0,0,0,0]);
   let t := spiState 3 s; let c : ℕ := 1; let g : BitVec 16 := 0; let p : List Byte := [];
   decide (dselHit s d = true ∧ reaches s Req.spi = true ∧ t.sys.service = true ∧ t.ports.spi.mb.req = none ∧
      frameCheck args = FrameIn.good c g p)) ∧
  (let s : State := ready; let d : Byte := 0xA0; let args : List Byte := [0,0,0,1,0]; let t := spiState 3 s; let c : ℕ := 0;
   let g : BitVec 16 := 0x0100#16;
   decide (dselHit s d = true ∧ reaches s Req.spi = true ∧ t.sys.service = true ∧ t.ports.spi.mb.req = none ∧
      frameCheck args = FrameIn.check c g)) ∧
  (let s : State := ready; let d : Byte := 0xA0; let args : List Byte := [2,1,0,0,0,0,0,0] ++ wordBytes (crc32 [2,1,0,0,0,0,0,0]);
   let t := spiState 3 s; let c : ℕ := 1; let g : BitVec 16 := 0;
   decide (dselHit s d = true ∧ reaches s Req.spi = true ∧ t.sys.service = true ∧ t.ports.spi.mb.req = none ∧
      frameCheck args = FrameIn.badVer c g)) ∧
  (let s : State := ready.onSpi fun x => { x with mb := { x.mb with req := some (1, 0, []) } }; let d : Byte := 0xA0;
      let t := spiState 3 s;
   decide (dselHit s d = true ∧ reaches s Req.spi = true ∧ t.sys.service = true ∧ t.ports.spi.mb.req.isSome = true)) ∧
  (let s : State := ready; let d : Byte := 0xA0; let op : BitVec 8 := 0;
   decide (dselHit s d = true ∧ reaches s Req.spi = true ∧ (op ≠ 32#8) ∧ (op ≠ 48#8) ∧ (op ≠ 64#8) ∧ (op ≠ 65#8) ∧ (op ≠ 80#8))) ∧
  (let s : State := ready; let d : Byte := 0xA0; decide ((dselHit s d = false ∨ asleep s = false))) ∧
  (let s : State := ready; let d : Byte := 0; let op : BitVec 8 := 0;
   decide ((op ≠ 32#8 ∧ op ≠ 48#8 ∧ op ≠ 64#8 ∧ op ≠ 65#8 ∧ op ≠ 80#8) ∧ dselHit s d = false)) ∧
  (let s : State := { ready with sys := { ready.sys with mode := .sleep } }; let d : Byte := 0xA0; let op : BitVec 8 := 0;
   decide ((op ≠ 32#8 ∧ op ≠ 48#8 ∧ op ≠ 64#8 ∧ op ≠ 65#8 ∧ op ≠ 80#8) ∧ dselHit s d = true ∧ reaches s Req.spi = false ∧
      asleep s = true)) := by
  refine ⟨?_, ?_, ?_, ?_, ?_, ?_, ?_, ?_, ?_, ?_, ?_, ?_, ?_, ?_, ?_, ?_, ?_, ?_⟩ <;> decide +kernel

theorem witness_TwoWireTargetCommandsAct :
  (let s : State := ready; let args : List Byte := [0,0,0,1]; decide (twServed s = true ∧ (3 ≤ args.length))) ∧
  (let s : State := ready; let args : List Byte := []; decide (twServed s = true ∧ (args.length < 3))) ∧
  (let s : State := ready; let args : List Byte := []; decide (twServed s = true ∧ (args.length < 4))) ∧
  (let s : State := ready; let n : Byte := 64; decide (twServed s = true ∧ (1 ≤ BitVec.toNat n) ∧ (BitVec.toNat n ≤ 64))) ∧
  (let s : State := ready; let n : Byte := 0; decide (twServed s = true ∧ (BitVec.toNat n = 0 ∨ 64 < BitVec.toNat n))) ∧
  (let s : State := ready; let args : List Byte := [0,0,0,1];
   let held := fun op l c => (twOpen s op l).onTw0 fun p => { p with held := p.held ++ [c] }; let b : Byte := 0;
   let x := held 48 (List.take 4 args) (TwCmd.write (toWords (List.take 4 args)));
   decide (twServed s = true ∧ (4 ≤ args.length) ∧ twPartial x = false ∧ twCode b = false)) ∧
  (let s : State := ready; let args : List Byte := [0,0,0,1];
   let held := fun op l c => (twOpen s op l).onTw0 fun p => { p with held := p.held ++ [c] };
   let x := held 48 (List.take 4 args) (TwCmd.write (toWords (List.take 4 args)));
   decide (twServed s = true ∧ (4 ≤ args.length) ∧ twPartial x = false ∧ pecOn x = false)) ∧
  (let s : State := ready.setF (P.tw 0) F.TW_CFG_PEC 1; let args : List Byte := [0,0,0,1];
   let held := fun op l c => (twOpen s op l).onTw0 fun p => { p with held := p.held ++ [c] };
   let x := held 48 (List.take 4 args) (TwCmd.write (toWords (List.take 4 args)));
   decide (twServed s = true ∧ (4 ≤ args.length) ∧ twPartial x = false ∧ pecOn x = true)) ∧
  (let s : State := ready; let args : List Byte := [0,0,0,1]; decide (twServed s = true ∧ (args ≠ []))) ∧
  (let s : State := ready.setF (P.tw 0) F.TW_CFG_PEC 1; let k : ℕ := 2; let u := twTurn (twOpen s 64 []);
   decide (twServed s = true ∧ (0 < k) ∧ u.2.ports.tw0.mb.rsp = none)) ∧
  (let s : State := ready.onTw0 fun p => { p with mb := { p.mb with rsp := some [1, 2] } }; let k : ℕ := 2;
      let u := twTurn (twOpen s 64 []);
   decide (twServed s = true ∧ (0 < k) ∧ u.2.ports.tw0.mb.rsp.isSome = true)) ∧
  (let s : State := ready; let n : ℕ := 64; decide (twServed s = true ∧ (1 ≤ n) ∧ (n ≤ 64))) ∧
  (let s : State := ready; let n : ℕ := 0; decide (twServed s = true ∧ (n = 0 ∨ 64 < n))) ∧
  (let s : State := ready; let n : ℕ := 64; decide (twServed s = true ∧ (twGlitch s ≤ n))) ∧
  (let s : State := ready; let n : ℕ := 0; decide (twServed s = true ∧ (n < twGlitch s))) ∧
  (let s : State := ready.onSys fun y => { y with mode := .off }; decide (twServed s = false)) := by
  refine ⟨?_, ?_, ?_, ?_, ?_, ?_, ?_, ?_, ?_, ?_, ?_, ?_, ?_, ?_, ?_, ?_⟩ <;> decide +kernel

theorem witness_TwoWireControllerActs :
  (let s : State := ready; let r : Req := .spi; let k : Fin 4 := 0; let v : Word := 0x00007F00; let a : ℕ := xfBase ↑k + 512;
   let w := setField v 31 31 1; decide (served s r a = true ∧ (64 < getField w 14 8 ∨ 64 < getField w 6 0))) ∧
  (let s : State := ready; let r : Req := .spi; let k : Fin 4 := 3; let v : Word := 0; let a : ℕ := xfBase ↑k + 512;
   let w := setField v 31 31 1; let t := s.wakeFor a;
   decide (served s r a = true ∧ (getField w 14 8 ≤ 64) ∧ (getField w 6 0 ≤ 64) ∧ (tw1St t = 0 ∨ tw1St t = 5))) ∧
  (let s : State := (ready.setSt (P.tw 1) 2).setF (xfBase 0) F.XF_STAT_SLOT 1; let r : Req := .spi; let k : Fin 4 := 0; let v : Word := 0;
   let a : ℕ := xfBase ↑k + 512; let w := setField v 31 31 1; let t := s.wakeFor a;
   decide (served s r a = true ∧ (getField w 14 8 ≤ 64) ∧ (getField w 6 0 ≤ 64) ∧ (tw1St t ≠ 0) ∧ (tw1St t ≠ 5) ∧ xfBusy t ↑k = true)) ∧
  (let s : State := (ready.setSt (P.tw 1) 2).onTw1 fun p => { p with queue := [3] }; let r : Req := .spi; let k : Fin 4 := 3;
   let v : Word := 0; let a : ℕ := xfBase ↑k + 512; let w := setField v 31 31 1; let t := s.wakeFor a;
   decide (served s r a = true ∧ (getField w 14 8 ≤ 64) ∧ (getField w 6 0 ≤ 64) ∧ (tw1St t ≠ 0) ∧ (tw1St t ≠ 5) ∧ xfBusy t ↑k = false)) ∧
  (let s : State := (ready.setSt (P.tw 1) 2).onTw1 fun p => { p with queue := [3] }; let k : ℕ := 3; let rest : List ℕ := [];
   decide (s.ports.tw1.queue = k :: rest ∧ (tw1St s = 2 ∧ s.domOn Dom.keeper = true ∧ s.sys.held = false) ∧ (¬(s.ports.tw1.dirty = true ∧
      s.ports.tw1.sda = false)))) ∧
  (let s : State := (ready.setSt (P.tw 1) 2).onTw1 fun p => { p with queue := [3], dirty := true, sda := false };
   decide (s.ports.tw1.queue.isEmpty = false ∧ (tw1St s = 2 ∧ s.domOn Dom.keeper = true ∧ s.sys.held = false) ∧
      (s.ports.tw1.dirty = true ∧ s.ports.tw1.sda = false))) ∧
  (let s : State := (ready.setSt (P.tw 1) 4).onTw1 fun p => { p with queue := [3] };
   decide (s.ports.tw1.queue.isEmpty = false ∧ (¬(tw1St s = 2 ∧ s.domOn Dom.keeper = true ∧ s.sys.held = false)))) ∧
  (let s : State := ready; decide (s.ports.tw1.queue = [])) ∧
  (let s : State := ((ready.setSt (P.tw 1) 3).onTw1 fun p => { p with active := some 0 }).setF (xfBase 0) F.XF_CTRL_RLEN 2;
      let k : ℕ := 0;
   let r := s.getF (xfBase k) F.XF_CTRL_RLEN; decide (s.ports.tw1.active = some k ∧ tw1St s = 3 ∧ s.ports.tw1.waiting = false ∧
      (r ≠ 0))) ∧
  (let s : State := (ready.setSt (P.tw 1) 3).onTw1 fun p => { p with active := some 3 }; let k : ℕ := 3;
   decide (s.ports.tw1.active = some k ∧ tw1St s = 3 ∧ s.ports.tw1.waiting = false ∧ s.ports.tw1.retries = 0)) ∧
  (let s : State := (ready.setSt (P.tw 1) 3).onTw1 fun p => { p with active := some 3, retries := 1 }; let k : ℕ := 3;
   decide (s.ports.tw1.active = some k ∧ tw1St s = 3 ∧ s.ports.tw1.waiting = false ∧ (0 < s.ports.tw1.retries))) ∧
  (let s : State := ready; decide ((s.ports.tw1.active = none ∨ tw1St s ≠ 3 ∨ s.ports.tw1.waiting = true))) ∧
  (let s : State := (ready.setSt (P.tw 1) 3).onTw1 fun p => { p with waiting := true }; decide (tw1St s = 3 ∧
      s.ports.tw1.waiting = true)) ∧
  (let s : State := ready; decide ((tw1St s ≠ 3 ∨ s.ports.tw1.waiting = false))) ∧
  (let s : State := (ready.setSt (P.tw 1) 2).onTw1 fun p => { p with queue := [3] }; let r : Req := .spi; let t := s.wakeFor (P.tw 1 +
      72);
   decide (served s r (P.tw 1 + 72) = true ∧ (tw1St s ≠ 4) ∧ tw1St t = 2)) ∧
  (let s : State := ready; let r : Req := .spi; let t := s.wakeFor (P.tw 1 + 72);
   decide (served s r (P.tw 1 + 72) = true ∧ (tw1St s ≠ 4) ∧ (tw1St t = 0 ∨ tw1St t = 5))) ∧
  (let s : State := (ready.setSt (P.tw 1) 3).onTw1 fun p => { p with active := some 3 }; let r : Req := .spi;
   let t := s.wakeFor (P.tw 1 + 72); decide (served s r (P.tw 1 + 72) = true ∧ (tw1St t = 3 ∨ tw1St s = 4 ∧ tw1St t = 4))) ∧
  (let s : State := (ready.setSt (P.tw 1) 5); let r : Req := .spi; let t := s.wakeFor (P.tw 1 + 72);
   decide (served s r (P.tw 1 + 72) = true ∧ (tw1St s ≠ 4) ∧ tw1St t = 5)) ∧
  (let s : State := ready; let r : Req := .spi; let t := s.wakeFor (P.tw 1 + 72);
   decide (served s r (P.tw 1 + 72) = true ∧ (tw1St t ≠ 5) ∧ (tw1St s = 4 ∨ tw1St t ≠ 4))) ∧
  (let s : State := (ready.setSt (P.tw 1) 2).onTw1 fun p => { p with queue := [3] };
   decide (((tw1St s = 2 ∨ tw1St s = 3 ∧ s.ports.tw1.waiting = true) ∧ s.domOn Dom.keeper = true ∧ s.sys.held = false))) ∧
  (let s : State := ready;
   decide ((¬((tw1St s = 2 ∨ tw1St s = 3 ∧ s.ports.tw1.waiting = true) ∧ s.domOn Dom.keeper = true ∧ s.sys.held = false)))) ∧
  (let s : State := ready.setSt (P.tw 1) 4; decide (tw1St s = 4 ∧ (s.ports.tw1.clears < 3))) ∧
  (let s : State := (ready.setSt (P.tw 1) 4).onTw1 fun p => { p with clears := 3 }; decide (tw1St s = 4 ∧ (3 ≤ s.ports.tw1.clears))) := by
  refine ⟨?_, ?_, ?_, ?_, ?_, ?_, ?_, ?_, ?_, ?_, ?_, ?_, ?_, ?_, ?_, ?_, ?_, ?_, ?_, ?_, ?_, ?_, ?_⟩ <;> decide +kernel

theorem witness_PlostoCommandsAct :
  (let s : State := (ready).arrive 1 (⟨.spi, 1, []⟩); let q : PlReq := ⟨.spi, 1, []⟩; let p := q.payload;
   decide (plServes s 1 q = true ∧ p = [])) ∧
  (let s : State := (ready).arrive 1 (⟨.spi, 1, [0x44,0,0,0,1,0]⟩); let q : PlReq := ⟨.spi, 1, [0x44,0,0,0,1,0]⟩; let p := q.payload;
   decide (plServes s 1 q = true ∧ (p ≠ []))) ∧
  (let s : State := (ready).arrive 2 (⟨.spi, 1, [0x44,0,0,0,1,0]⟩); let q : PlReq := ⟨.spi, 1, [0x44,0,0,0,1,0]⟩; let p := q.payload;
   let a := field p 0 4; let n := field p 4 2; decide (plServes s 2 q = true ∧ p.length = 6 ∧ (a ≤ 16777215) ∧ (1 ≤ n) ∧ (n ≤ 61))) ∧
  (let s : State := (ready).arrive 2 (⟨.spi, 1, []⟩); let q : PlReq := ⟨.spi, 1, []⟩; let p := q.payload; let a := field p 0 4;
   let n := field p 4 2; decide (plServes s 2 q = true ∧ (p.length ≠ 6 ∨ 16777215 < a ∨ n = 0 ∨ 61 < n))) ∧
  (let s : State := (ready).arrive 3 (⟨.spi, 1, [0x58,0,0,0,1,0,0,0,1,0,0,0]⟩); let q : PlReq := ⟨.spi, 1, [0x58,0,0,0,1,0,0,0,1,0,0,0]⟩;
   let p := q.payload; let a := field p 0 4; let n := field p 4 2;
   decide (plServes s 3 q = true ∧ p.length = 8 + 4 * n ∧ (a ≤ 16777215) ∧ (1 ≤ n) ∧ (n ≤ 59) ∧ field p 6 2 = 0)) ∧
  (let s : State := (ready).arrive 3 (⟨.spi, 1, []⟩); let q : PlReq := ⟨.spi, 1, []⟩; let p := q.payload; let a := field p 0 4;
   let n := field p 4 2;
   decide (plServes s 3 q = true ∧ (p.length < 8 ∨ 16777215 < a ∨ n = 0 ∨ 59 < n ∨ field p 6 2 ≠ 0 ∨ p.length ≠ 8 + 4 * n))) ∧
  (let s : State := (ready).arrive 4 (plo [0,0,0x0F,0,1,0,0,0,1,0,0,0]); let q : PlReq := plo [0,0,0x0F,0,1,0,0,0,1,0,0,0];
   let p := q.payload; let r := q.via.req; let a := field p 0 4; let u := s.wakeFor a; let o := plReadWord r a u;
   decide (plServes s 4 q = true ∧ p.length = 12 ∧ (a ≤ 16777215) ∧ (o.2.1 ≠ Code.done))) ∧
  (let s : State := (ready).arrive 4 (⟨.spi, 1, [0x58,0,0,0,1,0,0,0,1,0,0,0]⟩); let q : PlReq := ⟨.spi, 1, [0x58,0,0,0,1,0,0,0,1,0,0,0]⟩;
   let p := q.payload; let r := q.via.req; let a := field p 0 4; let m := BitVec.ofNat 32 (field p 4 4); let u := s.wakeFor a;
   let o := plReadWord r a u; let v := o.1 &&& ~~~m ||| BitVec.ofNat 32 (field p 8 4) &&& m; let w := plWriteWord r a v o.2.2;
   decide (plServes s 4 q = true ∧ p.length = 12 ∧ (a ≤ 16777215) ∧ o.2.1 = Code.done ∧ w.1 = Code.done)) ∧
  (let s : State := (ready).arrive 4 (⟨.spi, 1, [0x54,0,0,0,1,0,0,0,1,0,0,0]⟩); let q : PlReq := ⟨.spi, 1, [0x54,0,0,0,1,0,0,0,1,0,0,0]⟩;
   let p := q.payload; let r := q.via.req; let a := field p 0 4; let m := BitVec.ofNat 32 (field p 4 4); let u := s.wakeFor a;
   let o := plReadWord r a u; let v := o.1 &&& ~~~m ||| BitVec.ofNat 32 (field p 8 4) &&& m; let w := plWriteWord r a v o.2.2;
   decide (plServes s 4 q = true ∧ p.length = 12 ∧ (a ≤ 16777215) ∧ o.2.1 = Code.done ∧ (w.1 ≠ Code.done))) ∧
  (let s : State := (ready).arrive 4 (⟨.spi, 1, []⟩); let q : PlReq := ⟨.spi, 1, []⟩; let p := q.payload; let a := field p 0 4;
   decide (plServes s 4 q = true ∧ (p.length ≠ 12 ∨ 16777215 < a))) ∧
  (let s : State := (ready).arrive 5 (⟨.spi, 1, []⟩); let q : PlReq := ⟨.spi, 1, []⟩; let p := q.payload;
   decide (plServes s 5 q = true ∧ p = [])) ∧
  (let s : State := (ready).arrive 5 (⟨.spi, 1, [0x44,0,0,0,1,0]⟩); let q : PlReq := ⟨.spi, 1, [0x44,0,0,0,1,0]⟩; let p := q.payload;
   decide (plServes s 5 q = true ∧ (p ≠ []))) ∧
  (let s : State := (ready).arrive 0 (⟨.spi, 1, []⟩); let q : PlReq := ⟨.spi, 1, []⟩; let cmd : Byte := 0;
   decide (plServes s cmd.toNat q = true ∧ assigned cmd.toNat = false)) ∧
  (let cmd : Byte := 1; decide (assigned cmd.toNat = true)) ∧
  (let s : State := ready.onSys fun y => { y with service := false }; decide ((s.sys.service = false ∨ reaches s Req.keeper = false))) ∧
  (let s : State := ready; let q : PlReq := ⟨.spi, 1, []⟩; let cmd : ℕ := 0;
   decide (s.sys.service = true ∧ reaches s Req.keeper = true ∧ nextReq s cmd q = false)) ∧
  (let s : State := (ready.onSys fun y => { y with recovery := true }).arrive (72) (plo []); let q : PlReq := plo []; let cmd : ℕ := 0x48;
   decide (s.sys.service = true ∧ reaches s Req.keeper = true ∧ nextReq s cmd q = true ∧ s.sys.recovery = true ∧ assigned cmd = true ∧
      inRecovery cmd = false)) ∧
  (let s : State := (ready.onSys fun y => { y with entry := some (en0 .sleep 0 false none) }).arrive (1) (plo []);
      let q : PlReq := plo [];
   let cmd : ℕ := 1; let body : State → PlAns := fun s => ok s [];
   decide (s.sys.service = true ∧ reaches s Req.keeper = true ∧ nextReq s cmd q = true ∧ s.sys.recovery = false ∧
      s.sys.entry.isSome = true ∧ (body s).code = Code.done)) := by
  refine ⟨?_, ?_, ?_, ?_, ?_, ?_, ?_, ?_, ?_, ?_, ?_, ?_, ?_, ?_, ?_, ?_, ?_, ?_⟩ <;> decide +kernel

theorem witness_KeysAndNonceAreRenewed :
  (let s : State := (ready).arrive 6 (⟨.spi, 1, 3 :: List.replicate 35 0⟩); let q : PlReq := ⟨.spi, 1, 3 :: List.replicate 35 0⟩;
   let p := q.payload;
   decide (plServes s 6 q = true ∧ pageServes s P.kpr false = true ∧ (q.via.req ≠ Req.plostoUdp) ∧ p.length = 36 ∧ (field p 0 1 ≤ 3) ∧
      field p 1 3 = 0)) ∧
  (let s : State := (ready).arrive 6 (⟨.spi, 1, []⟩); let q : PlReq := ⟨.spi, 1, []⟩; let p := q.payload;
   decide (plServes s 6 q = true ∧ pageServes s P.kpr false = true ∧ (q.via.req ≠ Req.plostoUdp) ∧ (p.length ≠ 36 ∨ 3 < field p 0 1 ∨
      field p 1 3 ≠ 0))) ∧
  (let s : State := (ready).arrive 6 (⟨.udp 0 0 0 0 0, 1, []⟩); let q : PlReq := ⟨.udp 0 0 0 0 0, 1, []⟩;
   decide (plServes s 6 q = true ∧ pageServes s P.kpr false = true ∧ q.via.req = Req.plostoUdp)) ∧
  (let s : State := (ready).arrive 7 (⟨.spi, 1, []⟩); let q : PlReq := ⟨.spi, 1, []⟩; let p := q.payload;
   decide (plServes s 7 q = true ∧ pageServes s P.kpr false = true ∧ p = [])) ∧
  (let s : State := (ready).arrive 7 (⟨.spi, 1, 3 :: List.replicate 35 0⟩); let q : PlReq := ⟨.spi, 1, 3 :: List.replicate 35 0⟩;
   let p := q.payload; decide (plServes s 7 q = true ∧ pageServes s P.kpr false = true ∧ (p ≠ []))) ∧
  (let s : State := ready.onUdp fun u => { u with renew := some 5 }; decide (s.ports.udp.renew.isSome = true)) ∧
  (let s : State := ready; decide (s.ports.udp.renew = none)) := by
  refine ⟨?_, ?_, ?_, ?_, ?_, ?_, ?_⟩ <;> decide +kernel

theorem witness_RequestFramesRoundTrip :
  (let p : List Byte := []; let ver : Byte := 2; decide ((p.length ≤ 244) ∧ (ver ≠ 1))) := by
  decide +kernel

theorem witness_ForagerMovesBlocks :
  (let s : State := ready.onCore 19 fun x => { x with owes := true }; let r : Req := .spi; let a := P.frg + 64; let t := s.wakeFor a;
   decide (served s r a = true ∧ frgOn t = false)) ∧
  (let s : State := frgSet; let r : Req := .spi; let a := P.frg + 64; let t := s.wakeFor a;
   decide (served s r a = true ∧ frgOn t = true ∧
      (List.find? (fun c => !t.isSet (frgBase c) F.FRG_CTRL_ALLOC) (List.range 32)).isSome = true)) ∧
  (let s : State := forEach (List.range 32) (fun c s => s.setF (frgBase c) F.FRG_CTRL_ALLOC 1) (ready.setSt P.frg 2); let r : Req := .spi;
   let a := P.frg + 64; let t := s.wakeFor a;
   decide (served s r a = true ∧ frgOn t = true ∧ List.find? (fun c => !t.isSet (frgBase c) F.FRG_CTRL_ALLOC) (List.range 32) = none)) ∧
  (let s : State := frgSet; let r : Req := .spi; let c : Fin 32 := 0; let v : Word := 0; let a : ℕ := frgBase ↑c + 1024;
      let t := s.wakeFor a;
   let w := setField v 30 30 1; let m := getField w 29 28; let u := t.wr a (t.rd a &&& 1207959552#32 ||| w &&& 2969501696#32);
   let held : Bool := t.isSet (frgBase ↑c) F.FRG_CTRL_EN || frgSt t ↑c == 2;
   let arm : Code := if bit w 31 = true ∧ m ≠ 0 ∧ held = false then fabCheck u (↑c) m else Code.done; let k : Code := memCheck u ↑c;
   let code : Code := if m = 3 ∨ 20 ≤ getField w 23 19 ∧ getField w 23 19 ≤ 30 ∨
      getField w 18 16 = 7 then Code.range else if arm = Code.range ∨ arm = Code.locked then arm else if m ≠ frgMode t ↑c ∧
      held = true then Code.state else if k = Code.locked ∨ k = Code.range then k else if frgSt u ↑c = 0 ∨ frgMode u ↑c ≠ 0 ∨
      frgOn u = false then Code.state else if k ≠ Code.done then k else if frgSt u ↑c = 2 ∨
      u.sys.entry.isSome = true then Code.busy else if bit w 26 = true then Code.state else Code.done;
   decide (served s r a = true ∧ code = Code.done)) ∧
  (let s : State := ((frgSet.onDsp fun d => { d with outDue := true }).wr (frgBase 0 + 0x400) 0xA0F80000); let r : Req := .spi;
   let c : Fin 32 := 0; let v : Word := 0; let a : ℕ := frgBase ↑c + 1024; let t := s.wakeFor a; let w := setField v 30 30 1;
   let m := getField w 29 28; let u := t.wr a (t.rd a &&& 1207959552#32 ||| w &&& 2969501696#32);
   let held : Bool := t.isSet (frgBase ↑c) F.FRG_CTRL_EN || frgSt t ↑c == 2;
   let arm : Code := if bit w 31 = true ∧ m ≠ 0 ∧ held = false then fabCheck u (↑c) m else Code.done; let k : Code := memCheck u ↑c;
   let code : Code := if m = 3 ∨ 20 ≤ getField w 23 19 ∧ getField w 23 19 ≤ 30 ∨
      getField w 18 16 = 7 then Code.range else if arm = Code.range ∨ arm = Code.locked then arm else if m ≠ frgMode t ↑c ∧
      held = true then Code.state else if k = Code.locked ∨ k = Code.range then k else if frgSt u ↑c = 0 ∨ frgMode u ↑c ≠ 0 ∨
      frgOn u = false then Code.state else if k ≠ Code.done then k else if frgSt u ↑c = 2 ∨
      u.sys.entry.isSome = true then Code.busy else if bit w 26 = true then Code.state else Code.done;
   decide (served s r a = true ∧ (code ≠ Code.done))) ∧
  (let s : State := frgSet; let r : Req := .spi; let c : Fin 32 := 0; let v : Word := 0; let a : ℕ := frgBase ↑c + 1024;
      let t := s.wakeFor a;
   let w := setField (setField v 30 30 0) 26 26 1; let m := getField w 29 28;
   let u := t.wr a (t.rd a &&& 1207959552#32 ||| w &&& 2969501696#32);
   let held : Bool := t.isSet (frgBase ↑c) F.FRG_CTRL_EN || frgSt t ↑c == 2;
   let arm : Code := if bit w 31 = true ∧ m ≠ 0 ∧ held = false then fabCheck u (↑c) m else Code.done;
   let code : Code := if m = 3 ∨ 20 ≤ getField w 23 19 ∧ getField w 23 19 ≤ 30 ∨
      getField w 18 16 = 7 then Code.range else if arm = Code.range ∨ arm = Code.locked then arm else if frgSt t ↑c = 0 ∨ held = true ∨
      arm ≠ Code.done ∨ bit w 31 = true ∧ frgOn t = false then Code.state else Code.done;
   decide (served s r a = true ∧ code = Code.done)) ∧
  (let s : State := ((frgSet.onDsp fun d => { d with outDue := true }).wr (frgBase 0 + 0x400) 0xA0F80000); let r : Req := .spi;
   let c : Fin 32 := 0; let v : Word := 0; let a : ℕ := frgBase ↑c + 1024; let t := s.wakeFor a;
   let w := setField (setField v 30 30 0) 26 26 1; let m := getField w 29 28;
   let u := t.wr a (t.rd a &&& 1207959552#32 ||| w &&& 2969501696#32);
   let held : Bool := t.isSet (frgBase ↑c) F.FRG_CTRL_EN || frgSt t ↑c == 2;
   let arm : Code := if bit w 31 = true ∧ m ≠ 0 ∧ held = false then fabCheck u (↑c) m else Code.done;
   let code : Code := if m = 3 ∨ 20 ≤ getField w 23 19 ∧ getField w 23 19 ≤ 30 ∨
      getField w 18 16 = 7 then Code.range else if arm = Code.range ∨ arm = Code.locked then arm else if frgSt t ↑c = 0 ∨ held = true ∨
      arm ≠ Code.done ∨ bit w 31 = true ∧ frgOn t = false then Code.state else Code.done;
   decide (served s r a = true ∧ (code ≠ Code.done))) ∧
  (let s : State := setFrg frgSet 0 2; let c : Fin 32 := 0; decide (frgSt s ↑c = 2 ∧ frgOn s = true)) ∧
  (let s : State := frgSet; let c : Fin 32 := 0; decide ((frgSt s ↑c ≠ 2 ∨ frgOn s = false))) ∧
  (let s : State := (ready.setSt P.frg 2).onDsp fun d => { d with inDue := true, outDue := true };
   decide ((s.dsp.inDue = true ∧ frgOn s = true ∧ s.sys.mode = PwrMode.run) ∧ s.sys.entry = none)) ∧
  (let s : State := (ready.setSt P.frg 2).onDsp (fun d => { d with inDue := true }) |>.onSys fun y => { y with entry := some (en0 .sleep 0 false none) };
   decide ((s.dsp.inDue = true ∧ frgOn s = true ∧ s.sys.mode = PwrMode.run) ∧ s.sys.entry.isSome = true)) ∧
  (let s : State := frgSet; decide ((¬(s.dsp.inDue = true ∧ frgOn s = true ∧ s.sys.mode = PwrMode.run)))) ∧
  (let s : State := ready.onCore 19 fun x => { x with owes := true }; let k : Fin 20 := 19; decide ((s.core ↑k).owes = true)) ∧
  (let s : State := frgSet; let k : Fin 20 := 0; decide ((s.core ↑k).owes = false)) ∧
  (let s : State := ((frgSet.onDsp fun d => { d with outDue := true }).wr (frgBase 0 + 0x400) 0xA0F80000);
   decide ((s.dsp.outDue = true ∧ frgOn s = true ∧ s.sys.mode = PwrMode.run))) ∧
  (let s : State := frgSet; decide ((¬(s.dsp.outDue = true ∧ frgOn s = true ∧ s.sys.mode = PwrMode.run)))) := by
  refine ⟨?_, ?_, ?_, ?_, ?_, ?_, ?_, ?_, ?_, ?_, ?_, ?_, ?_, ?_, ?_, ?_⟩ <;> decide +kernel

theorem witness_CrosspointWritesCommit :
  (let s : State := ready; let r : Req := .spi; let k : Fin 8192 := 3; let a : ℕ := 131072 + 8 * ↑k; decide (served s r a = true)) ∧
  (let s : State := { ready with holds := [(⟨.spi, P.cmb⟩, 0x020018, 0x10001#32)] }; let r : Req := .spi; let k : Fin 8192 := 3;
   let a : ℕ := 131076 + 8 * ↑k; let t := s.wakeFor a; let m : Word := 0x10001#32; let src := getField m 9 0;
      let sink := getField m 19 10;
   decide (served s r a = true ∧ heldMap t r ↑k = some m ∧ xpSeen t ↑k = none ∧ badSource src = false ∧ badSink sink = false ∧
      findXp t src sink = none ∧ ((contribs t sink).length < 64))) ∧
  (let s : State := hold3 0x10001 full64; let r : Req := .spi; let k : Fin 8192 := 3; let a : ℕ := 131076 + 8 * ↑k; let t := s.wakeFor a;
   let m : Word := 0x00010001#32; let src := getField m 9 0; let sink := getField m 19 10;
   decide (served s r a = true ∧ heldMap t r ↑k = some m ∧ xpSeen t ↑k = none ∧ badSource src = false ∧ badSink sink = false ∧
      findXp t src sink = none ∧ (64 ≤ (contribs t sink).length))) ∧
  (let s : State := hold3 0x10001 (setXp ready 4 (some (ent .steady Gain.unity none))); let r : Req := .spi; let k : Fin 8192 := 3;
   let a : ℕ := 131076 + 8 * ↑k; let t := s.wakeFor a; let m : Word := 0x00010001#32; let src := getField m 9 0;
   let sink := getField m 19 10;
   decide (served s r a = true ∧ heldMap t r ↑k = some m ∧ xpSeen t ↑k = none ∧ badSource src = false ∧ badSink sink = false ∧
      (findXp t src sink ≠ none))) ∧
  (let s : State := { ready with holds := [(⟨.spi, P.cmb⟩, 0x020018, 0x1022E#32)] }; let r : Req := .spi; let k : Fin 8192 := 3;
   let a : ℕ := 131076 + 8 * ↑k; let t := s.wakeFor a; let m : Word := 0x1022E#32; let src := getField m 9 0;
      let sink := getField m 19 10;
   decide (served s r a = true ∧ heldMap t r ↑k = some m ∧ xpSeen t ↑k = none ∧ (badSource src = true ∨ badSink sink = true))) ∧
  (let s : State := ready; let r : Req := .spi; let k : Fin 8192 := 3; let a : ℕ := 131076 + 8 * ↑k; let t := s.wakeFor a;
   decide (served s r a = true ∧ heldMap t r ↑k = none ∧ xpSeen t ↑k = none)) ∧
  (let s : State := withEnt (ent .steady Gain.unity none); let r : Req := .spi; let k : Fin 8192 := 3; let a : ℕ := 131076 + 8 * ↑k;
   let t := s.wakeFor a; let e : XpEntry := ent .steady Gain.unity none;
   decide (served s r a = true ∧ heldMap t r ↑k = none ∧ xpSeen t ↑k = some e)) ∧
  (let s : State := hold3 0x1022E (withEnt (ent .steady Gain.unity none)); let r : Req := .spi; let k : Fin 8192 := 3;
   let a : ℕ := 131076 + 8 * ↑k; let t := s.wakeFor a; let e : XpEntry := ent .steady Gain.unity none; let m : Word := 0x0001022e#32;
   let src := getField m 9 0; let sink := getField m 19 10;
   decide (served s r a = true ∧ heldMap t r ↑k = some m ∧ xpSeen t ↑k = some e ∧ (badSource src = true ∨ badSink sink = true))) ∧
  (let s : State := hold3 0x10001 (withEnt (ent .steady Gain.unity none)); let r : Req := .spi; let k : Fin 8192 := 3;
   let a : ℕ := 131076 + 8 * ↑k; let t := s.wakeFor a; let e : XpEntry := ent .steady Gain.unity none; let m : Word := 0x00010001#32;
   let src := getField m 9 0; let sink := getField m 19 10;
   decide (served s r a = true ∧ heldMap t r ↑k = some m ∧ xpSeen t ↑k = some e ∧ badSource src = false ∧ badSink sink = false ∧
      sink = e.sink ∧ src = e.src)) ∧
  (let s : State := { withEnt (ent .steady Gain.unity none) with holds := [(⟨.spi, P.cmb⟩, 0x020018, 0x10002#32)] }; let r : Req := .spi;
   let k : Fin 8192 := 3; let a : ℕ := 131076 + 8 * ↑k; let t := s.wakeFor a; let e : XpEntry := ent .steady Gain.unity none;
   let m : Word := 0x10002#32; let src := getField m 9 0; let sink := getField m 19 10;
   decide (served s r a = true ∧ heldMap t r ↑k = some m ∧ xpSeen t ↑k = some e ∧ badSource src = false ∧ badSink sink = false ∧
      sink = e.sink ∧ (src ≠ e.src) ∧ findXp t src sink = none)) ∧
  (let s : State := hold3 0x10401 (withEnt (ent .steady Gain.unity none)); let r : Req := .spi; let k : Fin 8192 := 3;
   let a : ℕ := 131076 + 8 * ↑k; let t := s.wakeFor a; let e : XpEntry := ent .steady Gain.unity none; let m : Word := 0x00010401#32;
   let src := getField m 9 0; let sink := getField m 19 10;
   decide (served s r a = true ∧ heldMap t r ↑k = some m ∧ xpSeen t ↑k = some e ∧ badSource src = false ∧ badSink sink = false ∧
      (sink ≠ e.sink ∨ src ≠ e.src ∧ findXp t src sink ≠ none))) ∧
  (let s : State := withEnt (ent .steady Gain.unity none); let r : Req := .spi; let k : Fin 8192 := 3; let a : ℕ := 131076 + 8 * ↑k;
   let t := s.wakeFor a; let m : Option Word := heldMap t r ↑k; let e : XpEntry := ent .steady Gain.unity none;
   decide (served s r a = true ∧ heldMap t r ↑k = m ∧ xpSeen t ↑k = some e)) ∧
  (let s : State := ready; let r : Req := .spi; let k : Fin 8192 := 3; let a : ℕ := 131076 + 8 * ↑k; let t := s.wakeFor a;
   let m : Option Word := heldMap t r ↑k; decide (served s r a = true ∧ heldMap t r ↑k = m ∧ xpSeen t ↑k = none)) ∧
  (let u : State := ready; decide (u.comb.due = [])) ∧
  (let N : ℕ := 5; decide ((N ≠ 0))) := by
  refine ⟨?_, ?_, ?_, ?_, ?_, ?_, ?_, ?_, ?_, ?_, ?_, ?_, ?_, ?_, ?_⟩ <;> decide +kernel

theorem witness_SinkWritesAct :
  (let s : State := ready; let r : Req := .spi; let k : Fin 1024 := 1023; let a : ℕ := P.sink ↑k + 4; decide (served s r a = true)) ∧
  (let s : State := ready; let r : Req := .spi; let k : Fin 1024 := 1023; let v : Word := 1000; let a : ℕ := P.sink ↑k + 12;
   let d := getField v 14 0; let xf := getField v 19 16; decide (served s r a = true ∧ (24000 < d ∨ xf = 0 ∨ xf = 15))) ∧
  (let s : State := ready; let r : Req := .spi; let k : Fin 1024 := 0; let v : Word := 0x10000; let a : ℕ := P.sink ↑k + 12;
   let t := s.wakeFor a; let d := getField v 14 0; let xf := getField v 19 16; let c := planned t;
   decide (served s r a = true ∧ (d ≤ 24000) ∧ (xf ≠ 0) ∧ (xf ≠ 15) ∧ d = (c.sink ↑k).delay)) ∧
  (let s : State := ready.setF P.cmb F.CMB_DLY_CFG_NFRM 1; let r : Req := .spi; let k : Fin 1024 := 5; let v : Word := 0x15DC0#32;
   let a : ℕ := P.sink ↑k + 12; let t := s.wakeFor a; let d := getField v 14 0; let xf := getField v 19 16; let c := planned t;
   let now : ℕ := heldGranules (c.sink ↑k); let then_ : ℕ := heldGranules ((c.sink ↑k).delayTo d (stepsOf t xf));
   decide (served s r a = true ∧ (d ≤ 24000) ∧ (xf ≠ 0) ∧ (xf ≠ 15) ∧ (d ≠ (c.sink ↑k).delay) ∧ (then_ ≤ now ∨ c.used - now +
      then_ ≤ allGranules t))) ∧
  (let s : State := ready; let r : Req := .spi; let k : Fin 1024 := 0; let v : Word := 0x10001; let a : ℕ := P.sink ↑k + 12;
   let t := s.wakeFor a; let d := getField v 14 0; let xf := getField v 19 16; let c := planned t;
      let now : ℕ := heldGranules (c.sink ↑k);
   let then_ : ℕ := heldGranules ((c.sink ↑k).delayTo d (stepsOf t xf));
   decide (served s r a = true ∧ (d ≤ 24000) ∧ (xf ≠ 0) ∧ (xf ≠ 15) ∧ (d ≠ (c.sink ↑k).delay) ∧ (now < then_) ∧
      (allGranules t < c.used - now + then_))) ∧
  (let s : State := ready; let r : Req := .spi; let a := P.cmb + 120; let t := s.wakeFor a; let j := t.getF P.cmb F.CMB_BQ_SEL_STAGE;
   decide (served s r a = true ∧ (j < 8))) ∧
  (let s : State := ready.setF P.cmb F.CMB_BQ_SEL_STAGE 8; let r : Req := .spi; let a := P.cmb + 120; let t := s.wakeFor a;
   let j := t.getF P.cmb F.CMB_BQ_SEL_STAGE; decide (served s r a = true ∧ (8 ≤ j))) ∧
  (let u : State := ready; let n : ℕ := 5; decide (u.comb.due = [] ∧ (n ≠ 0))) ∧
  (let u : State := ready; decide (u.comb.due = [] ∧ (regsWf u.regs))) := by
  refine ⟨?_, ?_, ?_, ?_, ?_, ?_, ?_, ?_, ?_⟩ <;> decide +kernel

theorem witness_CombRampsEnd :
  (let s : State := onSink ready 1023 fun h => { h with trim := { Gain.unity with slope := some (.amp 0 0x8000000 240 240) } };
   let k : Fin 8192 := 0; decide ((xpAt s ↑k = none ∨ xpWaits s.comb ↑k = true))) ∧
  (let s : State := withEnt (ent .xfade Gain.unity (some (2, Gain.unity))); let k : Fin 8192 := 3;
   let e : XpEntry := ent .xfade Gain.unity (some (2, Gain.unity));
   decide (xpAt s ↑k = some e ∧ xpWaits s.comb ↑k = false ∧ (e.st ≠ XpSt.ramp ∨ e.g.moving = true))) ∧
  (let s : State := withEnt (ent .ramp Gain.unity none); let k : Fin 8192 := 3; let e : XpEntry := ent .ramp Gain.unity none;
   decide (xpAt s ↑k = some e ∧ xpWaits s.comb ↑k = false ∧ e.st = XpSt.ramp ∧ e.g.moving = false)) ∧
  (let s : State := withEnt (ent .ramp Gain.unity none); let k : Fin 8192 := 3; let e : XpEntry := ent .ramp Gain.unity none;
   decide (xpAt s ↑k = some e ∧ xpWaits s.comb ↑k = false ∧ (e.st ≠ XpSt.xfade))) ∧
  (let s : State := withEnt (ent .xfade Gain.unity (some (1, mov))); let k : Fin 8192 := 3;
   let e : XpEntry := { src := 1, sink := 64, st := XpSt.xfade, rampIdx := 0, g := { lin := 134217728, code := some 157351936, target := 2401, slope := none }, old := some (1, { lin := 134217728, code := some 157351936, target := 2401, slope := some (Slope.amp 0 134217728 240 0) }) };
   let o : ℕ × Gain := (1, { lin := 134217728, code := some 157351936, target := 2401, slope := some (Slope.amp 0 134217728 240 0) });
   decide (xpAt s ↑k = some e ∧ xpWaits s.comb ↑k = false ∧ e.st = XpSt.xfade ∧ e.old = some o ∧ o.2.moving = true)) ∧
  (let s : State := withEnt (ent .xfade Gain.unity (some (2, Gain.unity))); let k : Fin 8192 := 3;
   let e : XpEntry := ent .xfade Gain.unity (some (2, Gain.unity)); let o : ℕ × Gain := (2, Gain.unity);
   decide (xpAt s ↑k = some e ∧ xpWaits s.comb ↑k = false ∧ e.st = XpSt.xfade ∧ e.old = some o ∧ o.2.moving = false ∧
      e.g.moving = false)) ∧
  (let s : State := withEnt (ent .xfade mov (some (2, Gain.unity))); let k : Fin 8192 := 3;
   let e : XpEntry := ent .xfade mov (some (2, Gain.unity)); let o : ℕ × Gain := (2, Gain.unity);
   decide (xpAt s ↑k = some e ∧ xpWaits s.comb ↑k = false ∧ e.st = XpSt.xfade ∧ e.old = some o ∧ o.2.moving = false ∧
      e.g.moving = true)) ∧
  (let s : State := withEnt (ent .xfade Gain.unity none); let k : Fin 8192 := 3;
   let e : XpEntry := { src := 1, sink := 64, st := XpSt.xfade, rampIdx := 0, g := { lin := 134217728, code := some 157351936, target := 2401, slope := none }, old := none };
   decide (xpAt s ↑k = some e ∧ xpWaits s.comb ↑k = false ∧ e.st = XpSt.xfade ∧ e.old = none)) ∧
  (let s : State := withEnt (ent .ramp Gain.unity none); let k : Fin 8192 := 3; let e : XpEntry := ent .ramp Gain.unity none;
   decide (xpAt s ↑k = some e ∧ xpWaits s.comb ↑k = false ∧ (e.st ≠ XpSt.release ∨ e.g.moving = true ∨ ∃ o, e.old = some o ∧
      o.2.moving = true))) ∧
  (let s : State := withEnt (ent .release Gain.unity none); let k : Fin 8192 := 3; let e : XpEntry := ent .release Gain.unity none;
   decide (xpAt s ↑k = some e ∧ xpWaits s.comb ↑k = false ∧ e.st = XpSt.release ∧ e.g.moving = false ∧ (∀ (o : ℕ × Gain),
      e.old = some o → o.2.moving = false))) ∧
  (let s : State := onSink ready 1023 fun h => { h with trim := { Gain.unity with slope := some (.amp 0 0x8000000 240 240) } };
   let j : Fin 1024 := 1023; let h : SinkHid := sinkHid s ↑j; decide (h.trim.slope.isSome = true ∧ h.trim.moving = false)) ∧
  (let s : State := withEnt (ent .ramp Gain.unity none); let j : Fin 1024 := 0; let h : SinkHid := sinkHid s ↑j;
   decide ((h.trim.slope = none ∨ h.trim.moving = true))) ∧
  (let s : State := withEnt (ent .ramp Gain.unity none); let j : Fin 1024 := 0; let h : SinkHid := sinkHid s ↑j; decide (h.fade = none)) ∧
  (let s : State := onSink ready 1023 fun h => { h with fade := some ⟨[], 240, 240⟩ }; let j : Fin 1024 := 1023;
   let h : SinkHid := sinkHid s ↑j; let f : DlyFade := ⟨[], 240, 240⟩; decide (h.fade = some f ∧ (f.n ≤ f.i))) ∧
  (let s : State := onSink ready 1023 fun h => { h with fade := some ⟨[], 240, 1⟩ }; let j : Fin 1024 := 1023;
   let h : SinkHid := sinkHid s ↑j; let f : DlyFade := ⟨[], 240, 1⟩; decide (h.fade = some f ∧ (f.i < f.n))) := by
  refine ⟨?_, ?_, ?_, ?_, ?_, ?_, ?_, ?_, ?_, ?_, ?_, ?_, ?_, ?_, ?_⟩ <;> decide +kernel

theorem witness_CombCommandsAnswer :
  (let s : State := (withEnt (ent .steady Gain.unity none)).arrive 16 (plo [1,0,0x40,0,0x61,9,0,0,0,0]);
   let q : PlReq := plo [1,0,0x40,0,0x61,9,0,0,0,0]; let t := s.wakeFor P.cmb; let p := q.payload; let src := field p 0 2;
   let sink := field p 2 2; let code := field p 4 2; let n := field p 6 1; let k : ℕ := 3;
   decide (plServes s 16 q = true ∧ pageServes s P.cmb true = true ∧ p.length = 10 ∧ badSource src = false ∧ badSink sink = false ∧
      (code < 4096) ∧ (n < 16) ∧ field p 7 1 = 0 ∧ findXp t src sink = some k)) ∧
  (let s : State := (ready).arrive 16 (plo [1,0,0x40,0,0x61,9,0,0,0,0]); let q : PlReq := plo [1,0,0x40,0,0x61,9,0,0,0,0];
   let t := s.wakeFor P.cmb; let p := q.payload; let src := field p 0 2; let sink := field p 2 2; let code := field p 4 2;
   let n := field p 6 1; let k : ℕ := 0;
   decide (plServes s 16 q = true ∧ pageServes s P.cmb true = true ∧ p.length = 10 ∧ badSource src = false ∧ badSink sink = false ∧
      (code < 4096) ∧ (n < 16) ∧ field p 7 1 = 0 ∧ findXp t src sink = none ∧ ((contribs t sink).length < 64) ∧ freeXp t = some k)) ∧
  (let s : State := (forEach (List.range 64) (fun i s => setXp s i (some { ent .steady Gain.unity none with src := 0x100 + i })) ready).arrive 16 (plo [1,0,0x40,0,0x61,9,0,0,0,0]);
   let q : PlReq := plo [1,0,0x40,0,0x61,9,0,0,0,0]; let t := s.wakeFor P.cmb; let p := q.payload; let src := field p 0 2;
   let sink := field p 2 2; let code := field p 4 2; let n := field p 6 1;
   decide (plServes s 16 q = true ∧ pageServes s P.cmb true = true ∧ p.length = 10 ∧ badSource src = false ∧ badSink sink = false ∧
      (code < 4096) ∧ (n < 16) ∧ field p 7 1 = 0 ∧ findXp t src sink = none ∧ (64 ≤ (contribs t sink).length ∨ freeXp t = none))) ∧
  (let s : State := (withEnt (ent .steady Gain.unity none)).arrive 16 (plo [2,0,0x40,0,0x61,9,0,1,1,0]);
   let q : PlReq := plo [2,0,0x40,0,0x61,9,0,1,1,0]; let t := s.wakeFor P.cmb; let p := q.payload; let src := field p 0 2;
   let sink := field p 2 2; let code := field p 4 2; let n := field p 6 1; let k : ℕ := 3;
   decide (plServes s 16 q = true ∧ pageServes s P.cmb true = true ∧ p.length = 10 ∧ badSource src = false ∧ badSink sink = false ∧
      badSource (field p 8 2) = false ∧ (code < 4096) ∧ (n < 16) ∧ field p 7 1 = 1 ∧ findXp t (field p 8 2) sink = some k ∧
      findXp t src sink = none)) ∧
  (let s : State := (setXp (setXp ready 3 (some ⟨2, 0x40, .steady, 0, Gain.unity, none⟩)) 4 (some ⟨1, 0x40, .steady, 0, Gain.unity,
      none⟩)).arrive 16 (plo [1,0,0x40,0,0x61,9,0,1,2,0]);
   let q : PlReq := plo [1,0,0x40,0,0x61,9,0,1,2,0]; let t := s.wakeFor P.cmb; let p := q.payload; let src := field p 0 2;
   let sink := field p 2 2; let code := field p 4 2; let n := field p 6 1;
   decide (plServes s 16 q = true ∧ pageServes s P.cmb true = true ∧ p.length = 10 ∧ badSource src = false ∧ badSink sink = false ∧
      badSource (field p 8 2) = false ∧ (code < 4096) ∧ (n < 16) ∧ field p 7 1 = 1 ∧ (findXp t (field p 8 2) sink ≠ none) ∧
      (findXp t src sink ≠ none))) ∧
  (let s : State := (ready).arrive 16 (plo [1,0,0x40,0,0x61,9,0,1,2,0]); let q : PlReq := plo [1,0,0x40,0,0x61,9,0,1,2,0];
   let t := s.wakeFor P.cmb; let p := q.payload; let src := field p 0 2; let sink := field p 2 2; let code := field p 4 2;
   let n := field p 6 1;
   decide (plServes s 16 q = true ∧ pageServes s P.cmb true = true ∧ p.length = 10 ∧ badSource src = false ∧ badSink sink = false ∧
      badSource (field p 8 2) = false ∧ (code < 4096) ∧ (n < 16) ∧ field p 7 1 = 1 ∧ findXp t (field p 8 2) sink = none)) ∧
  (let s : State := (withEnt (ent .steady Gain.unity none)).arrive 16 (plo [0xFF,0xFF,0x40,0,0,0,0,0]);
   let q : PlReq := plo [0xFF,0xFF,0x40,0,0,0,0,0]; let p := q.payload; let src := field p 0 2; let sink := field p 2 2;
   let code := field p 4 2; let n := field p 6 1;
   decide (plServes s 16 q = true ∧ pageServes s P.cmb true = true ∧ (p.length ≠ 10 ∨ badSource src = true ∨ badSink sink = true ∨
      4096 ≤ code ∨ 16 ≤ n ∨ 2 ≤ field p 7 1 ∨ field p 7 1 = 1 ∧ badSource (field p 8 2) = true))) ∧
  (let s : State := (withEnt (ent .steady Gain.unity none)).arrive 17 (plo [0xFF,0xFF,0x40,0,0,0,0,0]);
   let q : PlReq := plo [0xFF,0xFF,0x40,0,0,0,0,0]; let t := s.wakeFor P.cmb; let p := q.payload; let src := field p 0 2;
   let sink := field p 2 2; let ks := if src = 65535 then contribs t sink else (findXp t src sink).toList;
   decide (plServes s 17 q = true ∧ pageServes s P.cmb true = true ∧ p.length = 8 ∧ badSink sink = false ∧ (field p 4 1 < 16) ∧
      field p 5 3 = 0 ∧ (src = 65535 ∨ badSource src = false) ∧ (ks ≠ []))) ∧
  (let s : State := (ready).arrive 17 (plo [0,0,3,0,0,0,0,0]); let q : PlReq := plo [0,0,3,0,0,0,0,0]; let t := s.wakeFor P.cmb;
   let p := q.payload; let src := field p 0 2; let sink := field p 2 2;
   let ks := if src = 65535 then contribs t sink else (findXp t src sink).toList;
   decide (plServes s 17 q = true ∧ pageServes s P.cmb true = true ∧ p.length = 8 ∧ badSink sink = false ∧ (field p 4 1 < 16) ∧
      field p 5 3 = 0 ∧ (src = 65535 ∨ badSource src = false) ∧ ks = [])) ∧
  (let s : State := (ready).arrive 17 (plo [1,0,0x40,0,0x61,9,0,0,0,0]); let q : PlReq := plo [1,0,0x40,0,0x61,9,0,0,0,0];
      let p := q.payload;
   let src := field p 0 2; let sink := field p 2 2;
   decide (plServes s 17 q = true ∧ pageServes s P.cmb true = true ∧ (p.length ≠ 8 ∨ src ≠ 65535 ∧ badSource src = true ∨
      badSink sink = true ∨ 16 ≤ field p 4 1 ∨ field p 5 3 ≠ 0))) ∧
  (let s : State := (ready).arrive 18 (plo [0,0,3,0,0,0,0,0]); let q : PlReq := plo [0,0,3,0,0,0,0,0]; let p := q.payload;
   decide (plServes s 18 q = true ∧ pageServes s P.cmb false = true ∧ p.length = 8 ∧ field p 1 1 = 0 ∧ field p 0 1 = 0 ∧
      (field p 2 2 < 8192))) ∧
  (let s : State := (withEnt (ent .steady Gain.unity none)).arrive 18 (plo [1,0,0,0,1,0,0x40,0]);
      let q : PlReq := plo [1,0,0,0,1,0,0x40,0];
   let t := s.wakeFor P.cmb; let p := q.payload; let code := field p 4 2;
   let l := List.find? (fun e => e.2.src == code && e.2.sink == field p 6 2) t.comb.xps;
   decide (plServes s 18 q = true ∧ pageServes s P.cmb false = true ∧ p.length = 8 ∧ field p 1 1 = 0 ∧ field p 0 1 = 1 ∧
      badSource code = false ∧ badSink (field p 6 2) = false ∧ l.isSome = true)) ∧
  (let s : State := (withEnt (ent .steady Gain.unity none)).arrive 18 (plo [1,0,0x40,0,0,0,0,0]);
      let q : PlReq := plo [1,0,0x40,0,0,0,0,0];
   let t := s.wakeFor P.cmb; let p := q.payload; let code := field p 4 2;
   let l := List.find? (fun e => e.2.src == code && e.2.sink == field p 6 2) t.comb.xps;
   decide (plServes s 18 q = true ∧ pageServes s P.cmb false = true ∧ p.length = 8 ∧ field p 1 1 = 0 ∧ field p 0 1 = 1 ∧
      badSource code = false ∧ badSink (field p 6 2) = false ∧ l = none)) ∧
  (let s : State := (ready).arrive 18 (plo [2,0,0,0,0,0,0x40,0]); let q : PlReq := plo [2,0,0,0,0,0,0x40,0]; let p := q.payload;
   decide (plServes s 18 q = true ∧ pageServes s P.cmb false = true ∧ p.length = 8 ∧ field p 1 1 = 0 ∧ field p 0 1 = 2 ∧
      badSink (field p 6 2) = false)) ∧
  (let s : State := (ready).arrive 18 (plo [1,0,0x40,0,0x61,9,0,0,0,0]); let q : PlReq := plo [1,0,0x40,0,0x61,9,0,0,0,0];
      let p := q.payload;
   let code := field p 4 2;
   decide (plServes s 18 q = true ∧ pageServes s P.cmb false = true ∧ (p.length ≠ 8 ∨ 2 < field p 0 1 ∨ field p 1 1 ≠ 0 ∨
      field p 0 1 = 0 ∧ 8192 ≤ field p 2 2 ∨ field p 0 1 = 1 ∧ badSource code = true ∨ field p 0 1 ≠ 0 ∧ badSink (field p 6 2) = true))) ∧
  (let s : State := (withEnt (ent .steady Gain.unity none)).arrive 19 (plo [1,0,0,0,1,0,0x40,0]);
      let q : PlReq := plo [1,0,0,0,1,0,0x40,0];
   let t := s.wakeFor P.cmb; let p := q.payload; let src := field p 0 2; let o := sinkItem src (field p 2 1) (List.drop 4 p) t;
   decide (plServes s 19 q = true ∧ pageServes s P.cmb true = true ∧ (4 ≤ p.length) ∧ p.length % 4 = 0 ∧ (src < 1024) ∧ field p 3 1 = 0 ∧
      o.1 = Code.done)) ∧
  (let s : State := (withEnt (ent .steady Gain.unity none)).arrive 19 (plo [1,0,0x40,0,0,0,0,0]);
      let q : PlReq := plo [1,0,0x40,0,0,0,0,0];
   let t := s.wakeFor P.cmb; let p := q.payload; let src := field p 0 2; let o := sinkItem src (field p 2 1) (List.drop 4 p) t;
   decide (plServes s 19 q = true ∧ pageServes s P.cmb true = true ∧ (4 ≤ p.length) ∧ p.length % 4 = 0 ∧ (src < 1024) ∧ field p 3 1 = 0 ∧
      (o.1 ≠ Code.done))) ∧
  (let s : State := (ready).arrive 19 (plo [1,0,0x40,0,0x61,9,0,0,0,0]); let q : PlReq := plo [1,0,0x40,0,0x61,9,0,0,0,0];
      let p := q.payload;
   let src := field p 0 2;
   decide (plServes s 19 q = true ∧ pageServes s P.cmb true = true ∧ (p.length < 4 ∨ p.length % 4 ≠ 0 ∨ 1024 ≤ src ∨ field p 3 1 ≠ 0))) ∧
  (let d : List Byte := [0,0,0,0]; decide ((toWords d).isEmpty = false)) ∧
  (let h : Word := 0; let d : List Byte := [0,0,0,0]; decide ((toWords d).isEmpty = false ∧ (getField h 7 0 < 8) ∧
      (getField h 31 8 < 2))) ∧
  (let h : Word := 8; let d : List Byte := wordsBytes [8,0,0,0,0,0];
   decide ((toWords d).isEmpty = false ∧ (8 ≤ getField h 7 0 ∨ 2 ≤ getField h 31 8))) ∧
  (let s : State := ready; let q : PlReq := plo [0,2]; let t := s.wakeFor P.cmb; let p := q.payload; let src := field p 0 2;
   let cfg : Word := 0x01000501; let mic : Word := 0; let band : Word := 0; let rate : Word := 0x0101;
   let d : List Byte := wordsBytes [0x01000501,0,0,0x0101]; let z := src - 512;
   let good := micWordOk mic && bandWordOk band && rateWordOk rate;
   let x := ((t.store (zBase z + 1028) mic).store (zBase z + 1032) band).store (zBase z + 1036) rate; let o := zoneCfgWrite z cfg mic x;
   decide (toWords d = [cfg, mic, band, rate] ∧ (512 ≤ src) ∧ (src < 528) ∧ good = true ∧ o.1 = Code.done)) ∧
  (let s : State := ready; let q : PlReq := plo [0,2]; let t := s.wakeFor P.cmb; let p := q.payload; let src := field p 0 2;
   let cfg : Word := 0x81000501; let mic : Word := 0; let band : Word := 0; let rate : Word := 0x0101;
   let d : List Byte := wordsBytes [0x81000501,0,0,0x0101]; let z := src - 512;
   let good := micWordOk mic && bandWordOk band && rateWordOk rate;
   let x := ((t.store (zBase z + 1028) mic).store (zBase z + 1032) band).store (zBase z + 1036) rate; let o := zoneCfgWrite z cfg mic x;
   decide (toWords d = [cfg, mic, band, rate] ∧ (512 ≤ src) ∧ (src < 528) ∧ good = true ∧ (o.1 ≠ Code.done))) ∧
  (let q : PlReq := plo [0,2]; let p := q.payload; let src := field p 0 2; let mic : Word := 0; let band : Word := 0;
      let rate : Word := 0;
   let d : List Byte := wordsBytes [0x01000501,0,0,0x0101]; let good := micWordOk mic && bandWordOk band && rateWordOk rate;
   decide ((toWords d).isEmpty = false ∧ (512 ≤ src) ∧ (src < 528) ∧ good = false)) ∧
  (let item : ℕ := 0; let d : List Byte := []; decide ((item < 5) ∧ ((toWords d).length ≠ 1))) ∧
  (let item : ℕ := 5; let d : List Byte := []; decide (item = 5 ∧ ((toWords d).length ≠ 6))) ∧
  (let q : PlReq := plo []; let p := q.payload; let src := field p 0 2; let item : ℕ := 6; let d : List Byte := [];
   decide (item = 6 ∧ ((toWords d).length ≠ 4 ∨ src < 512 ∨ 528 ≤ src))) ∧
  (let item : ℕ := 7; decide ((6 < item))) ∧
  (let s : State := (ready).arrive 20 (plo [5,0,0,0]); let q : PlReq := plo [5,0,0,0]; let p := q.payload; let src := field p 0 2;
   decide (plServes s 20 q = true ∧ pageServes s P.cmb false = true ∧ p.length = 4 ∧ (src < 1024) ∧ field p 3 1 = 0 ∧ field p 2 1 = 0)) ∧
  (let s : State := (ready).arrive 20 (plo [5,0,1,0]); let q : PlReq := plo [5,0,1,0]; let p := q.payload; let src := field p 0 2;
   decide (plServes s 20 q = true ∧ pageServes s P.cmb false = true ∧ p.length = 4 ∧ (src < 1024) ∧ field p 3 1 = 0 ∧ field p 2 1 = 1)) ∧
  (let s : State := (ready).arrive 20 (plo [1,0,0x40,0,0x61,9,0,0,0,0]); let q : PlReq := plo [1,0,0x40,0,0x61,9,0,0,0,0];
      let p := q.payload;
   let src := field p 0 2;
   decide (plServes s 20 q = true ∧ pageServes s P.cmb false = true ∧ (p.length ≠ 4 ∨ 1024 ≤ src ∨ 1 < field p 2 1 ∨
      field p 3 1 ≠ 0))) := by
  refine ⟨?_, ?_, ?_, ?_, ?_, ?_, ?_, ?_, ?_, ?_, ?_, ?_, ?_, ?_, ?_, ?_, ?_, ?_, ?_, ?_, ?_, ?_, ?_, ?_, ?_, ?_, ?_, ?_, ?_, ?_,
      ?_⟩ <;> decide +kernel

theorem witness_ZoneLevelAdaptationActs :
  (let s : State := (((zst.setF (zBase 0) F.ZLA_CFG_EN 1).setSt P.cmb 2).setF (zBase 0) F.ZLA_CFG_MIC_MIN 1); let z : Fin 16 := 0;
   let b : ℕ := zBase ↑z; let r : Req := .spi; let v : Word := 0; let a := b + 1024; let w := setField v 31 31 1;
   decide (served s r a = true ∧ cfgWordOk w = false)) ∧
  (let s : State := zst.setF (zBase 0) F.ZLA_CFG_EN 1; let z : Fin 16 := 0; let b : ℕ := zBase ↑z; let r : Req := .spi;
   let v : Word := 0x01000501#32; let a := b + 1024; let w := setField v 31 31 1; let t := s.wakeFor a;
   decide (served s r a = true ∧ cfgWordOk w = true ∧ t.isSet b F.ZLA_CFG_EN = true)) ∧
  (let s : State := ready; let z : Fin 16 := 0; let b : ℕ := zBase ↑z; let r : Req := .spi; let v : Word := 0x01000501; let a := b + 1024;
   let w := setField v 31 31 1; let t := s.wakeFor a; let srcs := zoneMics (t.rd (b + 1028));
   decide (served s r a = true ∧ cfgWordOk w = true ∧ t.isSet b F.ZLA_CFG_EN = false ∧ srcs = [])) ∧
  (let s : State := { zon with img := { zon.img with zlaCore := none } }; let z : Fin 16 := 0; let b : ℕ := zBase ↑z; let r : Req := .spi;
   let v : Word := 0x01000501; let a := b + 1024; let w := setField v 31 31 1; let t := s.wakeFor a; let srcs := zoneMics (t.rd (b +
      1028));
   decide (served s r a = true ∧ cfgWordOk w = true ∧ t.isSet b F.ZLA_CFG_EN = false ∧ (srcs ≠ []) ∧ (t.img.zlaCore = none ∨
      t.stopped = true))) ∧
  (let s : State := zon; let z : Fin 16 := 0; let b : ℕ := zBase ↑z; let r : Req := .spi; let v : Word := 0x01000501#32; let a := b +
      1024;
   let w := setField v 31 31 1; let t := s.wakeFor a; let srcs := zoneMics (t.rd (b + 1028));
   let want : List ℕ := (960 + ↑z) :: List.filter (fun n => !(tapped t).contains n) srcs.dedup;
   decide (served s r a = true ∧ cfgWordOk w = true ∧ t.isSet b F.ZLA_CFG_EN = false ∧ (srcs ≠ []) ∧ (t.img.zlaCore ≠ none) ∧
      t.stopped = false ∧ (tapAll want (t, [])).isSome = true)) ∧
  (let s : State := tapsTaken; let z : Fin 16 := 0; let b : ℕ := zBase ↑z; let r : Req := .spi; let v : Word := 0x01000501; let a := b +
      1024;
   let w := setField v 31 31 1; let t := s.wakeFor a; let srcs := zoneMics (t.rd (b + 1028));
   let want : List ℕ := (960 + ↑z) :: List.filter (fun n => !(tapped t).contains n) srcs.dedup;
   decide (served s r a = true ∧ cfgWordOk w = true ∧ t.isSet b F.ZLA_CFG_EN = false ∧ (srcs ≠ []) ∧ (t.img.zlaCore ≠ none) ∧
      t.stopped = false ∧ tapAll want (t, []) = none)) ∧
  (let s : State := (((zst.setF (zBase 0) F.ZLA_CFG_EN 1).setSt P.cmb 2).setF (zBase 0) F.ZLA_CFG_MIC_MIN 1); let z : Fin 16 := 0;
   let b : ℕ := zBase ↑z; let r : Req := .spi; let v : Word := 0; let a := b + 1024; let w := setField v 31 31 0;
   decide (served s r a = true ∧ cfgWordOk w = false)) ∧
  (let s : State := zst.setF (zBase 0) F.ZLA_CFG_EN 1; let z : Fin 16 := 0; let b : ℕ := zBase ↑z; let r : Req := .spi;
   let v : Word := 0x01000501#32; let a := b + 1024; let w := setField v 31 31 0; let t := s.wakeFor a;
   decide (served s r a = true ∧ cfgWordOk w = true ∧ t.isSet b F.ZLA_CFG_EN = true)) ∧
  (let s : State := zon; let z : Fin 16 := 0; let b : ℕ := zBase ↑z; let r : Req := .spi; let v : Word := 0x01000501#32; let a := b +
      1024;
   let w := setField v 31 31 0; let t := s.wakeFor a; decide (served s r a = true ∧ cfgWordOk w = true ∧
      t.isSet b F.ZLA_CFG_EN = false)) ∧
  (let s : State := zon; let z : Fin 16 := 0; decide ((zoneAt s ↑z).due = none)) ∧
  (let s : State := onZone ready 0 fun y => { y with due := some ⟨[], 8000, false⟩ }; let z : Fin 16 := 0; let b : ℕ := zBase ↑z;
   decide ((zoneAt s ↑z).due.isSome = true ∧ (s.isSet b F.ZLA_CFG_EN = false ∨ s.st P.cmb ≠ 2))) ∧
  (let s : State := due0 [] true; let z : Fin 16 := 0; let b : ℕ := zBase ↑z;
      let w : ZlaWindow := { mics := [], n := 8000, heard := true };
   let live := List.filterMap id w.mics; decide ((zoneAt s ↑z).due = some w ∧ s.isSet b F.ZLA_CFG_EN = true ∧ s.st P.cmb = 2 ∧
      live = [])) ∧
  (let s : State := due0 [some (2^100, 2^40)] false; let z : Fin 16 := 0; let b : ℕ := zBase ↑z;
   let w : ZlaWindow := { mics := [some (1267650600228229401496703205376, 1099511627776)], n := 8000, heard := false };
   let x : State := onZone s ↑z fun y => { y with due := none }; let live := List.filterMap id w.mics;
   let erle := if w.heard = true then zoneErle live else none; let reason : ℕ := freezeReason x (↑z) live.length w.heard erle;
   let valid := List.foldl (fun m i => m + if (w.mics.getD i none).isSome = true then 2 ^ i else 0) 0 (List.range 4);
   let was := x.getF b F.ZLA_STAT_REASON;
   let f : State := if was ≠ reason then freezeNote (freezeNote x (↑z) was false) (↑z) reason true else x;
   let h := (f.setF b F.ZLA_STAT_REASON reason).setF b F.ZLA_STAT_VALID valid;
   let o : State × List ℚ := List.foldl (fun o e => residualLevel w.n e o) (if w.heard = true then showErle h (↑z) erle else h, []) live;
   decide ((zoneAt s ↑z).due = some w ∧ s.isSet b F.ZLA_CFG_EN = true ∧ s.st P.cmb = 2 ∧
      (zoneNoise (o.2.mergeSort fun x y => decide (x ≤ y))).isSome = true ∧ (reason ≠ 0))) ∧
  (let s : State := due0 [some (2^100, 2^80)] true; let z : Fin 16 := 0; let b : ℕ := zBase ↑z;
   let w : ZlaWindow := { mics := [some (1267650600228229401496703205376, 1208925819614629174706176)], n := 8000, heard := true };
   let x : State := onZone s ↑z fun y => { y with due := none }; let live := List.filterMap id w.mics;
   let erle := if w.heard = true then zoneErle live else none; let reason : ℕ := freezeReason x (↑z) live.length w.heard erle;
   let valid := List.foldl (fun m i => m + if (w.mics.getD i none).isSome = true then 2 ^ i else 0) 0 (List.range 4);
   let was := x.getF b F.ZLA_STAT_REASON;
   let f : State := if was ≠ reason then freezeNote (freezeNote x (↑z) was false) (↑z) reason true else x;
   let h := (f.setF b F.ZLA_STAT_REASON reason).setF b F.ZLA_STAT_VALID valid;
   let o : State × List ℚ := List.foldl (fun o e => residualLevel w.n e o) (if w.heard = true then showErle h (↑z) erle else h, []) live;
   decide ((zoneAt s ↑z).due = some w ∧ s.isSet b F.ZLA_CFG_EN = true ∧ s.st P.cmb = 2 ∧
      (zoneNoise (o.2.mergeSort fun x y => decide (x ≤ y))).isSome = true ∧ reason = 0)) ∧
  (let n : ℕ := 0; decide ((n ∉ [2, 3, 4]))) := by
  refine ⟨?_, ?_, ?_, ?_, ?_, ?_, ?_, ?_, ?_, ?_, ?_, ?_, ?_, ?_, ?_⟩ <;> decide +kernel

theorem witness_ClocksFailAndRecover :
  (let s : State := ready.setF P.clk F.CLK_REF_STAT_ON_RC 1;
   decide (s.isSet P.clk F.CLK_REF_STAT_ON_RC = true ∧ s.stopped = false ∧ s.sys.held = false)) ∧
  (let s : State := (ready.setF P.clk F.CLK_REF_STAT_REF_OK 1).onClk fun c => { c with halt := some .pll, down := [2] };
   decide ((s.isSet P.clk F.CLK_REF_STAT_ON_RC = false ∨ s.stopped = true ∨ s.sys.held = true))) ∧
  (let s : State := ready.onClk fun c => { c with halt := some .ref }; decide ((awake s = false ∨ s.clk.halt = some Halt.ref))) ∧
  (let s : State := ready.setF P.clk F.CLK_REF_STAT_ON_RC 1;
   decide (awake s = true ∧ (s.clk.halt ≠ some Halt.ref) ∧ s.isSet P.clk F.CLK_REF_STAT_REF_OK = false)) ∧
  (let s : State := (ready.setF P.clk F.CLK_REF_STAT_REF_OK 1).onClk fun c => { c with halt := some .pll, down := [2] };
   decide (s.isSet P.clk F.CLK_REF_STAT_REF_OK = true)) ∧
  (let s : State := ready.onClk fun c => { c with halt := some .ref };
   decide (awake s = true ∧ (s.clk.halt = some Halt.ref ∨ s.clk.halt = some Halt.mode))) ∧
  (let s : State := ready.setF P.clk F.CLK_REF_STAT_ON_RC 1; decide ((awake s = false ∨ s.clk.halt = none ∨
      s.clk.halt = some Halt.pll))) ∧
  (let s : State := ready.setF P.clk F.CLK_REF_STAT_ON_RC 1; decide (awake s = true ∧ s.clk.halt = none)) ∧
  (let s : State := (ready.setF P.clk F.CLK_REF_STAT_REF_OK 1).onClk fun c => { c with halt := some .pll, down := [2] };
   decide (awake s = true ∧ s.clk.halt = some Halt.pll)) ∧
  (let s : State := ready.onClk fun c => { c with halt := some .ref };
   decide ((awake s = false ∨ s.clk.halt = some Halt.ref ∨ s.clk.halt = some Halt.mode))) ∧
  (let s : State := (ready.setF P.clk F.CLK_REF_STAT_REF_OK 1).onClk fun c => { c with halt := some .pll, down := [2] };
      let up : Fin 8 := 4;
   let t : State := (s.wr (P.clk + 72) (s.rd (P.clk +
      72) ||| BitVec.ofNat 32 ↑up)).onClk fun c => { c with down := List.filter (fun p => ↑up / 2 ^ p % 2 == 0) c.down };
   decide (s.clk.halt = some Halt.pll ∧ t.clk.down = [] ∧ t.isSet P.clk F.CLK_REF_STAT_REF_OK = true)) ∧
  (let s : State := (ready.setF P.clk F.CLK_REF_STAT_REF_OK 1).onClk fun c => { c with halt := some .pll, down := [2] };
      let up : Fin 8 := 2;
   let t : State := (s.wr (P.clk + 72) (s.rd (P.clk +
      72) ||| BitVec.ofNat 32 ↑up)).onClk fun c => { c with down := List.filter (fun p => ↑up / 2 ^ p % 2 == 0) c.down };
   decide (s.clk.halt = some Halt.pll ∧ (t.clk.down ≠ [] ∨ t.isSet P.clk F.CLK_REF_STAT_REF_OK = false))) ∧
  (let s : State := ready.setF P.clk F.CLK_REF_STAT_ON_RC 1; decide ((s.clk.halt ≠ some Halt.pll))) ∧
  (let s : State := ready.setF P.clk F.CLK_REF_STAT_ON_RC 1; decide (awake s = true ∧ s.stopped = false)) ∧
  (let s : State := (ready.setF P.clk F.CLK_REF_STAT_REF_OK 1).onClk fun c => { c with halt := some .pll, down := [2] };
   decide ((awake s = false ∨ s.stopped = true))) ∧
  (let s : State := ready.onClk fun c => { c with st := 5 }; decide (s.clk.st = 5)) ∧
  (let s : State := ready.setF P.clk F.CLK_REF_STAT_ON_RC 1; decide ((s.clk.st ≠ 5))) := by
  refine ⟨?_, ?_, ?_, ?_, ?_, ?_, ?_, ?_, ?_, ?_, ?_, ?_, ?_, ?_, ?_, ?_, ?_⟩ <;> decide +kernel

theorem witness_ClockWritesAct :
  (let s : State := ready; let r : Req := .spi; let v : Word := 0x01000000#32; let a := P.clk + 76; let t := s.wakeFor a;
   let u := t.store a v;
   decide (served s r a = true ∧ (getField v 31 24 ≠ 0) ∧ (getField v 17 16 ≠ 3) ∧ (getField v 1 0 ≠ 3) ∧ (¬((clkCfg u).1 = 2 ∧
      ((clkCfg t).1 ≠ 2 ∨ (clkCfg t).2.2 ≠ (clkCfg u).2.2) ∧ tdmValid u (clkCfg u).2.2 = false)))) ∧
  (let s : State := ready; let r : Req := .spi; let v : Word := 0x01000002#32; let a := P.clk + 76; let t := s.wakeFor a;
   let u := t.store a v;
   decide (served s r a = true ∧ (getField v 31 24 ≠ 0) ∧ (getField v 17 16 ≠ 3) ∧ (getField v 1 0 ≠ 3) ∧ ((clkCfg u).1 = 2 ∧
      ((clkCfg t).1 ≠ 2 ∨ (clkCfg t).2.2 ≠ (clkCfg u).2.2) ∧ tdmValid u (clkCfg u).2.2 = false))) ∧
  (let s : State := ready; let r : Req := .spi; let v : Word := 0; let a := P.clk + 76;
   decide (served s r a = true ∧ (getField v 31 24 = 0 ∨ getField v 17 16 = 3 ∨ getField v 1 0 = 3))) ∧
  (let s : State := ready.onClk fun c => { c with st := 4 }; let r : Req := .spi; let a := P.clk + 64; let t := s.wakeFor a;
   decide (served s r a = true ∧ (t.clk.st ≠ 2) ∧ (t.clk.st ≠ 7))) ∧
  (let s : State := ready.onClk fun c => { c with st := 7 }; let r : Req := .spi; let a := P.clk + 64; let t := s.wakeFor a;
   decide (served s r a = true ∧ t.clk.st = 7)) ∧
  (let s : State := ready; let r : Req := .spi; let v : Word := 0x01000000#32; let a := P.clk + 64; let t := s.wakeFor a;
   let u := t.store a v;
   decide (served s r a = true ∧ t.clk.st = 2 ∧ (u.stopped = true ∨ u.getF P.clk F.CLK_REF_CFG_MODE = t.getF P.clk F.CLK_REF_CFG_MODE))) ∧
  (let s : State := ready; let r : Req := .spi; let v : Word := 0x01000001#32; let a := P.clk + 64; let t := s.wakeFor a;
   let u := t.store a v;
   decide (served s r a = true ∧ t.clk.st = 2 ∧ u.stopped = false ∧
      (¬u.getF P.clk F.CLK_REF_CFG_MODE = t.getF P.clk F.CLK_REF_CFG_MODE))) := by
  refine ⟨?_, ?_, ?_, ?_, ?_, ?_, ?_⟩ <;> decide +kernel

theorem witness_TdmPortsFollowTheirClocks :
  (let s : State := ready; let n : Fin 16 := 0; let p : ℕ := P.tdm ↑n; let r : Req := .spi; let v : Word := 3; let a := p + 72;
   let w := setField v 0 0 1; decide (served s r a = true ∧ bit w 1 = true)) ∧
  (let s : State := ready.setF (P.tdm 0) F.TDM_CFG_MODE 1; let n : Fin 16 := 0; let p : ℕ := P.tdm ↑n; let r : Req := .spi;
      let v : Word := 0;
   let a := p + 72; let w := setField v 0 0 1; let t := s.wakeFor a; let need : ℕ := chansNeeded t ↑n;
   decide (served s r a = true ∧ bit w 1 = false ∧ (t.en p = false ∨ t.st p ≠ 2 ∨ need ≠ 0 ∧ t.en P.asrc = false))) ∧
  (let s : State := ((ready.setF (P.tdm 0) F.PG_CTRL_EN 1).setSt (P.tdm 0) 2); let n : Fin 16 := 0; let p : ℕ := P.tdm ↑n;
   let r : Req := .spi; let v : Word := 0; let a := p + 72; let w := setField v 0 0 1; let t := s.wakeFor a;
   let need : ℕ := chansNeeded t ↑n; decide (served s r a = true ∧ bit w 1 = false ∧ t.en p = true ∧ t.st p = 2 ∧ need = 0)) ∧
  (let s : State := (((ready.setF (P.tdm 0) F.PG_CTRL_EN 1).setSt (P.tdm 0) 2).wr (P.tdm 0 + 0x44) 3).setF P.asrc F.PG_CTRL_EN 1;
   let n : Fin 16 := 0; let p : ℕ := P.tdm ↑n; let r : Req := .spi; let v : Word := 0; let a := p + 72; let w := setField v 0 0 1;
   let t := s.wakeFor a; let need : ℕ := chansNeeded t ↑n;
   decide (served s r a = true ∧ bit w 1 = false ∧ t.en p = true ∧ t.st p = 2 ∧ (need ≠ 0) ∧ t.en P.asrc = true ∧
      (need ≤ (freeChans t).length))) ∧
  (let s : State := chansTaken; let n : Fin 16 := 0; let p : ℕ := P.tdm ↑n; let r : Req := .spi; let v : Word := 0; let a := p + 72;
   let w := setField v 0 0 1; let t := s.wakeFor a; let need : ℕ := chansNeeded t ↑n;
   decide (served s r a = true ∧ bit w 1 = false ∧ t.en p = true ∧ t.st p = 2 ∧ (need ≠ 0) ∧ t.en P.asrc = true ∧
      ((freeChans t).length < need))) ∧
  (let s : State := ((ready.setF (P.tdm 0) F.PG_CTRL_EN 1).setSt (P.tdm 0) 2); let n : Fin 16 := 0; let p : ℕ := P.tdm ↑n;
   let t : State := (s.setSt p 3).onTdm ↑n fun x => TdmHid.reset; decide (t.isSet p F.TDM_CFG_MODE = false)) ∧
  (let s : State := ready.setF (P.tdm 0) F.TDM_CFG_MODE 1; let n : Fin 16 := 0; let p : ℕ := P.tdm ↑n;
   let t : State := (s.setSt p 3).onTdm ↑n fun x => TdmHid.reset; decide (t.isSet p F.TDM_CFG_MODE = true)) ∧
  (let s : State := ready; let n : Fin 16 := 0; let p : ℕ := P.tdm ↑n; let r : Req := .spi; let v : Word := 3; let a := p + 72;
   let w := setField v 1 1 1; decide (served s r a = true ∧ bit w 0 = true)) ∧
  (let s : State := ready.setSt (P.tdm 0) 3; let n : Fin 16 := 0; let p : ℕ := P.tdm ↑n; let r : Req := .spi; let v : Word := 0;
   let a := p + 72; let w := setField v 1 1 1; let t := s.wakeFor a; decide (served s r a = true ∧ bit w 0 = false ∧ (2 < t.st p))) ∧
  (let s : State := ((ready.setF (P.tdm 0) F.PG_CTRL_EN 1).setSt (P.tdm 0) 2); let n : Fin 16 := 0; let p : ℕ := P.tdm ↑n;
   let r : Req := .spi; let v : Word := 0; let a := p + 72; let w := setField v 1 1 1; let t := s.wakeFor a;
   decide (served s r a = true ∧ bit w 0 = false ∧ (t.st p ≤ 2))) ∧
  (let s : State := ready.setSt (P.tdm 0) 3; let n : Fin 16 := 0; let p : ℕ := P.tdm ↑n; decide (s.st p = 3)) ∧
  (let s : State := ((ready.setF (P.tdm 0) F.PG_CTRL_EN 1).setSt (P.tdm 0) 2); let n : Fin 16 := 0; let p : ℕ := P.tdm ↑n;
   decide ((s.st p ≠ 3))) ∧
  (let s : State := ready.setSt (P.tdm 0) 5; let n : Fin 16 := 0; let p : ℕ := P.tdm ↑n; decide (s.st p = 5)) ∧
  (let s : State := ((ready.setF (P.tdm 0) F.PG_CTRL_EN 1).setSt (P.tdm 0) 2); let n : Fin 16 := 0; let p : ℕ := P.tdm ↑n;
   decide ((s.st p ≠ 5))) ∧
  (let s : State := ready.setSt (P.tdm 0) 4; let n : Fin 16 := 0; let p : ℕ := P.tdm ↑n; let why : ℕ := 2;
   decide (s.st p = 4 ∧ s.isSet p F.TDM_CFG_MODE = false ∧ why = 2)) ∧
  (let s : State := ready.setSt (P.tdm 0) 4; let n : Fin 16 := 0; let p : ℕ := P.tdm ↑n; let why : ℕ := 3;
   decide (s.st p = 4 ∧ s.isSet p F.TDM_CFG_MODE = false ∧ why = 3)) ∧
  (let s : State := ((ready.setF (P.tdm 0) F.PG_CTRL_EN 1).setSt (P.tdm 0) 2); let n : Fin 16 := 0; let p : ℕ := P.tdm ↑n;
   decide ((s.st p ≠ 4 ∨ s.isSet p F.TDM_CFG_MODE = true))) ∧
  (let s : State := ((ready.setF (P.tdm 0) F.PG_CTRL_EN 1).setSt (P.tdm 0) 2); let n : Fin 16 := 0; let p : ℕ := P.tdm ↑n;
   decide ((s.st p < 3 ∨ 5 < s.st p ∨ s.isSet p F.TDM_CFG_MODE = true))) ∧
  (let s : State := ready.setSt (P.tdm 0) 3; let n : Fin 16 := 0; let p : ℕ := P.tdm ↑n; let len := 32 * s.getF p F.TDM_CFG_SLOTS;
   let b : ℕ := 0; let gone : Bool := false;
   decide ((3 ≤ s.st p) ∧ (s.st p ≤ 5) ∧ s.isSet p F.TDM_CFG_MODE = false ∧ (b ≠ len) ∧ gone = decide (len + 2 ≤ b))) ∧
  (let s : State := ready.setSt (P.tdm 0) 3; let n : Fin 16 := 0; let p : ℕ := P.tdm ↑n; let len := 32 * s.getF p F.TDM_CFG_SLOTS;
   let b : ℕ := 66; let gone : Bool := true;
   decide ((3 ≤ s.st p) ∧ (s.st p ≤ 5) ∧ s.isSet p F.TDM_CFG_MODE = false ∧ b = len + 2 ∧ gone = true)) ∧
  (let s : State := (ready.setSt (P.tdm 0) 4).setF (P.tdm 0) F.TDM_CFG_MODE 1; let n : Fin 16 := 0; let p : ℕ := P.tdm ↑n;
   decide (s.st p = 4 ∧ s.isSet p F.TDM_CFG_MODE = true)) ∧
  (let s : State := ((ready.setF (P.tdm 0) F.PG_CTRL_EN 1).setSt (P.tdm 0) 2); let n : Fin 16 := 0; let p : ℕ := P.tdm ↑n;
   decide ((s.st p ≠ 4 ∨ s.isSet p F.TDM_CFG_MODE = false))) ∧
  (let s : State := (ready.setF (grpBase 0) F.ASRC_GRP_STAT_STATE 1); let n : Fin 16 := 0;
   decide (grpSt s ↑n = 1 ∧ (s.grp ↑n).fromLost = false)) ∧
  (let s : State := ((ready.setF (grpBase 0) F.ASRC_GRP_STAT_STATE 1).onGrp 0 fun _ => ⟨0, true, 0⟩); let n : Fin 16 := 0;
   decide (grpSt s ↑n = 1 ∧ (s.grp ↑n).fromLost = true)) ∧
  (let s : State := ((ready.setF (P.tdm 0) F.PG_CTRL_EN 1).setSt (P.tdm 0) 2); let n : Fin 16 := 0; decide ((grpSt s ↑n ≠ 1))) ∧
  (let s : State := (((ready.setF (P.tdm 0) F.PG_CTRL_EN 1).setSt (P.tdm 0) 2)).arrive 24 (plo []); let q : PlReq := plo [];
   decide (plServes s 24 q = true ∧ pageServes s P.asrc false = true ∧ (q.payload.length ≠ 4))) ∧
  (let s : State := (ready).arrive 24 (plo [0,0,0,0]); let q : PlReq := plo [0,0,0,0];
   decide (plServes s 24 q = true ∧ pageServes s P.asrc false = true ∧ q.payload.length = 4 ∧ field q.payload 0 1 = 0 ∧
      field q.payload 1 3 = 0)) ∧
  (let s : State := (ready).arrive 24 (plo [1,15,0,0]); let q : PlReq := plo [1,15,0,0]; let g := field q.payload 1 1;
   decide (plServes s 24 q = true ∧ pageServes s P.asrc false = true ∧ q.payload.length = 4 ∧ field q.payload 0 1 = 1 ∧ (g ≤ 15) ∧
      field q.payload 2 2 = 0)) ∧
  (let s : State := (ready).arrive 24 (plo [2,0,0,0]); let q : PlReq := plo [2,0,0,0]; let g := field q.payload 1 1;
   decide (plServes s 24 q = true ∧ pageServes s P.asrc false = true ∧ q.payload.length = 4 ∧ (1 < field q.payload 0 1 ∨
      field q.payload 0 1 = 0 ∧ field q.payload 1 3 ≠ 0 ∨ field q.payload 0 1 = 1 ∧ (15 < g ∨ field q.payload 2 2 ≠ 0)))) := by
  refine ⟨?_, ?_, ?_, ?_, ?_, ?_, ?_, ?_, ?_, ?_, ?_, ?_, ?_, ?_, ?_, ?_, ?_, ?_, ?_, ?_, ?_, ?_, ?_, ?_, ?_, ?_, ?_, ?_,
      ?_⟩ <;> decide +kernel

theorem witness_LinksComeUpAndGoDown :
  (let s : State := ready; let n : Fin 4 := 0; let b : ℕ := P.eth ↑n; let r : Req := .spi; let v : Word := 2; let a := b + 92;
   let w := setField v 0 0 1; decide (served s r a = true ∧ bit w 1 = true)) ∧
  (let s : State := (ready.setF (P.eth 0) F.PG_CTRL_EN 1).setSt (P.eth 0) 2; let n : Fin 4 := 0; let b : ℕ := P.eth ↑n;
      let r : Req := .spi;
   let v : Word := 0; let a := b + 92; let w := setField v 0 0 1; let t := s.wakeFor a;
   decide (served s r a = true ∧ bit w 1 = false ∧ t.en b = true ∧ t.st b = 2)) ∧
  (let s : State := (ready.setF (P.eth 0) F.PG_CTRL_EN 1); let n : Fin 4 := 0; let b : ℕ := P.eth ↑n; let r : Req := .spi;
      let v : Word := 0;
   let a := b + 92; let w := setField v 0 0 1; let t := s.wakeFor a;
   decide (served s r a = true ∧ bit w 1 = false ∧ (t.en b = false ∨ t.st b ≠ 2))) ∧
  (let s : State := ready; let n : Fin 4 := 0; let b : ℕ := P.eth ↑n; let r : Req := .spi; let v : Word := 1; let a := b + 92;
   let w := setField v 1 1 1; decide (served s r a = true ∧ bit w 0 = true)) ∧
  (let s : State := eth4; let n : Fin 4 := 0; let b : ℕ := P.eth ↑n; let r : Req := .spi; let v : Word := 0; let a := b + 92;
   let w := setField v 1 1 1; let t := s.wakeFor a; decide (served s r a = true ∧ bit w 0 = false ∧ (2 < t.st b))) ∧
  (let s : State := (ready.setF (P.eth 0) F.PG_CTRL_EN 1).setSt (P.eth 0) 2; let n : Fin 4 := 0; let b : ℕ := P.eth ↑n;
      let r : Req := .spi;
   let v : Word := 0; let a := b + 92; let w := setField v 1 1 1; let t := s.wakeFor a;
   decide (served s r a = true ∧ bit w 0 = false ∧ (t.st b ≤ 2))) ∧
  (let s : State := (ready.setF (P.eth 0) F.PG_CTRL_EN 1).setSt (P.eth 0) 2; let n : Fin 4 := 0; let b : ℕ := P.eth ↑n;
   decide ((netOn s = false ∨ s.st b < 3))) ∧
  (let s : State := eth4; let n : Fin 4 := 0; let b : ℕ := P.eth ↑n; decide (netOn s = true ∧ (3 ≤ s.st b) ∧ ((s.link ↑n).polls +
      1 ≠ 3))) ∧
  (let s : State := eth4.onLink 0 fun l => { l with polls := 2 }; let n : Fin 4 := 0; let b : ℕ := P.eth ↑n;
   decide (netOn s = true ∧ (3 ≤ s.st b) ∧ (s.link ↑n).polls + 1 = 3)) ∧
  (let s : State := eth4; let n : Fin 4 := 0; let b : ℕ := P.eth ↑n; let x : PhyAnswer := ⟨0, 0, 0, 0, 0⟩;
   decide (netOn s = true ∧ (3 ≤ s.st b) ∧ phyLink x = false)) ∧
  (let s : State := eth4; let n : Fin 4 := 0; let b : ℕ := P.eth ↑n; let x : PhyAnswer := ⟨4, 0, 0, 0, 0⟩;
   decide (netOn s = true ∧ (3 ≤ s.st b) ∧ phyLink x = true ∧ (phyMode x ≠ (2, true)))) ∧
  (let s : State := ready.setSt (P.eth 0) 3; let n : Fin 4 := 0; let b : ℕ := P.eth ↑n; let x : PhyAnswer := ⟨4, 0, 0, 0x200, 0x800⟩;
   let t : State := (((s.onLink ↑n fun l => { l with polls := 0 }).setF b F.ETH_LINK_LINK (b2n (phyLink x))).setF b F.ETH_LINK_FDX (b2n (phyMode x).2)).setF b F.ETH_LINK_SPEED (phyMode x).1;
   decide (netOn s = true ∧ (3 ≤ s.st b) ∧ phyLink x = true ∧ phyMode x = (2, true) ∧ linkUp t ↑n = false)) ∧
  (let s : State := eth4; let n : Fin 4 := 0; let b : ℕ := P.eth ↑n; let x : PhyAnswer := ⟨4, 0, 0, 0x200, 0x800⟩;
   let t : State := (((s.onLink ↑n fun l => { l with polls := 0 }).setF b F.ETH_LINK_LINK (b2n (phyLink x))).setF b F.ETH_LINK_FDX (b2n (phyMode x).2)).setF b F.ETH_LINK_SPEED (phyMode x).1;
   decide (netOn s = true ∧ (3 ≤ s.st b) ∧ phyLink x = true ∧ phyMode x = (2, true) ∧ linkUp t ↑n = true)) ∧
  (let s : State := eth4.setF (P.eth 0) F.ETH_CFG_IF 1; let n : Fin 4 := 0; let b : ℕ := P.eth ↑n;
   decide (s.isSet b F.ETH_CFG_IF = true ∧ linkUp s ↑n = true)) ∧
  (let s : State := (ready.setF (P.eth 0) F.PG_CTRL_EN 1).setSt (P.eth 0) 2; let n : Fin 4 := 0; let b : ℕ := P.eth ↑n;
   decide ((s.isSet b F.ETH_CFG_IF = false ∨ linkUp s ↑n = false))) ∧
  (let s : State := (ready.setF (P.eth 0) F.PG_CTRL_EN 1).setSt (P.eth 0) 2; let n : Fin 4 := 0; let b : ℕ := P.eth ↑n;
      let r : Req := .spi;
   let a := b + 100; decide (served s r a = true)) ∧
  (let s : State := (ready.setF (P.eth 0) F.PG_CTRL_EN 1).setSt (P.eth 0) 2; let n : Fin 4 := 0; let b : ℕ := P.eth ↑n;
   decide (s.isSet b F.ETH_MDIO_GO = false)) ∧
  (let s : State := eth4.setF (P.eth 0) F.ETH_MDIO_GO 1; let n : Fin 4 := 0; let b : ℕ := P.eth ↑n;
      decide (s.isSet b F.ETH_MDIO_GO = true)) ∧
  (let s : State := eth4; let n : Fin 4 := 0; decide (linkUp s ↑n = true ∧ netOn s = true)) ∧
  (let s : State := (ready.setF (P.eth 0) F.PG_CTRL_EN 1).setSt (P.eth 0) 2; let n : Fin 4 := 0;
   decide ((linkUp s ↑n = false ∨ netOn s = false))) ∧
  (let s : State := eth4.onLink 0 fun l => { l with reports := [5] }; let n : Fin 4 := 0; let g : Word := 5;
   decide (netOn s = true ∧ (s.link ↑n).reports.contains g = true)) ∧
  (let s : State := (ready.setF (P.eth 0) F.PG_CTRL_EN 1).setSt (P.eth 0) 2; let n : Fin 4 := 0; let g : Word := 0;
   decide ((netOn s = false ∨ (s.link ↑n).reports.contains g = false))) := by
  refine ⟨?_, ?_, ?_, ?_, ?_, ?_, ?_, ?_, ?_, ?_, ?_, ?_, ?_, ?_, ?_, ?_, ?_, ?_, ?_, ?_, ?_, ?_⟩ <;> decide +kernel

theorem witness_PtpTimersAndWritesAct :
  (let s : State := (ptpAt 4).setF (P.eth 0) F.ETH_PTP_CFG_ROLE 0; let n : Fin 4 := 0; let b : ℕ := P.eth ↑n;
   let t : State := onPtp s ↑n fun p => { p with heard := [], parent := none };
   decide (ptpRuns s ↑n = true ∧ (ptpSt s ↑n = 4 ∨ 7 ≤ ptpSt s ↑n) ∧ t.getF b F.ETH_PTP_CFG_ROLE = 0)) ∧
  (let s : State := (ptpAt 9).setF (P.eth 0) F.ETH_PTP_CFG_ROLE 1; let n : Fin 4 := 0; let b : ℕ := P.eth ↑n;
   let t : State := onPtp s ↑n fun p => { p with heard := [], parent := none };
   decide (ptpRuns s ↑n = true ∧ (ptpSt s ↑n = 4 ∨ 7 ≤ ptpSt s ↑n) ∧ (t.getF b F.ETH_PTP_CFG_ROLE ≠ 0))) ∧
  (let s : State := ptpAt 5; let n : Fin 4 := 0; decide ((ptpRuns s ↑n = false ∨ ptpSt s ↑n ≠ 4 ∧ ptpSt s ↑n < 7))) ∧
  (let s : State := ptpAt 5; let n : Fin 4 := 0; decide (ptpRuns s ↑n = true ∧ ptpSt s ↑n = 5)) ∧
  (let s : State := (ptpAt 4).setF (P.eth 0) F.ETH_PTP_CFG_ROLE 0; let n : Fin 4 := 0; decide ((ptpRuns s ↑n = false ∨ ptpSt s ↑n ≠ 5))) ∧
  (let s : State := (ptpAt 9).setF (P.eth 0) F.ETH_PTP_STAT_GOOD 1; let n : Fin 4 := 0; let b : ℕ := P.eth ↑n;
   decide (ptpSt s ↑n = 9 ∧ s.isSet b F.ETH_PTP_STAT_GOOD = true)) ∧
  (let s : State := (ptpAt 4).setF (P.eth 0) F.ETH_PTP_CFG_ROLE 0; let n : Fin 4 := 0; let b : ℕ := P.eth ↑n;
   decide ((ptpSt s ↑n ≠ 9 ∨ s.isSet b F.ETH_PTP_STAT_GOOD = false))) ∧
  (let s : State := ptpAt 6; let n : Fin 4 := 0; decide (ptpRuns s ↑n = true ∧ ptpSt s ↑n = 6)) ∧
  (let s : State := (ptpAt 9).setF (P.eth 0) F.ETH_PTP_CFG_ROLE 1; let n : Fin 4 := 0; let b : ℕ := P.eth ↑n;
   decide (ptpRuns s ↑n = true ∧ (s.getF b F.ETH_PTP_CFG_PROFILE = 1 ∨ ptpSt s ↑n = 8 ∨ ptpSt s ↑n = 9))) ∧
  (let s : State := (ptpAt 4).setF (P.eth 0) F.ETH_PTP_CFG_ROLE 0; let n : Fin 4 := 0; decide ((ptpRuns s ↑n = false ∨ ptpSt s ↑n ≠ 6))) ∧
  (let s : State := (ptpAt 4).setF (P.eth 0) F.ETH_PTP_CFG_ROLE 0; let n : Fin 4 := 0; let b : ℕ := P.eth ↑n;
   decide ((ptpRuns s ↑n = false ∨ ¬s.getF b F.ETH_PTP_CFG_PROFILE = 1 ∧ ptpSt s ↑n ≠ 8 ∧ ptpSt s ↑n ≠ 9))) ∧
  (let s : State := ptpAt 6; let n : Fin 4 := 0; let b : ℕ := P.eth ↑n; let r : Req := .spi; let v : Word := 0x00000200#32; let a := b +
      108;
   decide (served s r a = true ∧ ptpCfgOk v = true)) ∧
  (let s : State := (ptpAt 4).setF (P.eth 0) F.ETH_PTP_CFG_ROLE 0; let n : Fin 4 := 0; let b : ℕ := P.eth ↑n; let r : Req := .spi;
   let v : Word := 0; let a := b + 108; decide (served s r a = true ∧ ptpCfgOk v = false)) ∧
  (let s : State := (ptpAt 4).setF (P.eth 0) F.ETH_PTP_CFG_ROLE 0; let n : Fin 4 := 0; let b : ℕ := P.eth ↑n; let r : Req := .spi;
   let a := b + 112; decide (served s r a = true)) ∧
  (let s : State := ready; let n : Fin 4 := 0; let f : State → State := id; decide (groupsOf (f s) ↑n = groupsOf s ↑n)) ∧
  (let s : State := ptpAt 6; let n : Fin 4 := 0; let b : ℕ := P.eth ↑n; let r : Req := .spi; let a := b + 144; let t := s.wakeFor a;
   decide (served s r a = true ∧ (ptpSt t ↑n = 6 ∨ t.isSet b F.ETH_PTP_CFG_EN = false))) ∧
  (let s : State := (ptpAt 4).setF (P.eth 0) F.ETH_PTP_CFG_ROLE 0; let n : Fin 4 := 0; let b : ℕ := P.eth ↑n; let r : Req := .spi;
   let a := b + 144; let t := s.wakeFor a; decide (served s r a = true ∧ (ptpSt t ↑n ≠ 6) ∧ t.isSet b F.ETH_PTP_CFG_EN = true)) := by
  refine ⟨?_, ?_, ?_, ?_, ?_, ?_, ?_, ?_, ?_, ?_, ?_, ?_, ?_, ?_, ?_, ?_, ?_⟩ <;> decide +kernel

theorem witness_ReceivedFramesReachTheirUnits_0 :
  (let s : State := eth4; let n : Fin 4 := 0; let f : List Byte := []; let k : NetIn := netIn s (↑n) f;
   ((linkUp s ↑n = false ∨ netOn s = false) ∨ k.row ≠ RxRow.rtp)) ∧
  (let s : State := eth4; let n : Fin 4 := 0; let f : List Byte := []; let k : NetIn := netIn s (↑n) f;
   ((linkUp s ↑n = false ∨ netOn s = false) ∨ k.row ≠ RxRow.sync)) ∧
  (let s : State := eth4; let n : Fin 4 := 0; let f : List Byte := []; let k : NetIn := netIn s (↑n) f;
   ((linkUp s ↑n = false ∨ netOn s = false) ∨ k.row ≠ RxRow.announce)) ∧
  (let s : State := eth4; let n : Fin 4 := 0; let f : List Byte := []; let k : NetIn := netIn s (↑n) f;
   ((linkUp s ↑n = false ∨ netOn s = false) ∨ k.row ≠ RxRow.delay)) ∧
  (let s : State := State.reset; let n : Fin 4 := 0; let f : List Byte := []; let k : NetIn := netIn s (↑n) f;
   ((linkUp s ↑n = false ∨ netOn s = false) ∨ k.row ≠ RxRow.discard)) ∧
  (let s : State := eth4; let n : Fin 4 := 0; let f : List Byte := []; let k : NetIn := netIn s (↑n) f;
   ((linkUp s ↑n = false ∨ netOn s = false) ∨ k.row ≠ RxRow.arp)) ∧
  (let s : State := eth4; let n : Fin 4 := 0; let f : List Byte := []; let k : NetIn := netIn s (↑n) f;
   ((linkUp s ↑n = false ∨ netOn s = false) ∨ k.row ≠ RxRow.echo)) ∧
  (let s : State := eth4; let n : Fin 4 := 0; let f : List Byte := []; let k : NetIn := netIn s (↑n) f;
   ((linkUp s ↑n = false ∨ netOn s = false) ∨ k.row ≠ RxRow.igmp)) :=
  ⟨by decide +kernel,
   by decide +kernel,
   by decide +kernel,
   by decide +kernel,
   by decide +kernel,
   by decide +kernel,
   by decide +kernel,
   by decide +kernel⟩

theorem witness_ReceivedFramesReachTheirUnits_1 :
  (let s : State := eth4; let n : Fin 4 := 0; let f : List Byte := []; let k : NetIn := netIn s (↑n) f;
   ((linkUp s ↑n = false ∨ netOn s = false) ∨ k.row ≠ RxRow.udp)) ∧
  (let s : State := rtpSt 0x80000000; let n : Fin 4 := 0; let f : List Byte := udpFrame 0xEF000001 5004 1 rtpBytes0;
   let k : NetIn := netIn s (↑n) f;
   let p : RtpPacket := { src := 0xc0a80002#32, dst := 0xef000001#32, dport := 0x138c#16, badSum := true, version := 2, pt := 96, ts := 0x00000000#32, ssrc := 0x00000007#32, payload := [] };
   swarmQuiet s = true ∧ linkUp s ↑n = true ∧ netOn s = true ∧ k = NetIn.rtp p ∧ p.badSum = true) ∧
  (let s : State := rtpSt 0x80000000; let n : Fin 4 := 0; let f : List Byte := udpFrame 0xEF000001 5004 0 rtpBytes0;
      let b : ℕ := P.eth ↑n;
   let x := s.inc64 (b + 148); let k : NetIn := netIn s (↑n) f;
   let p : RtpPacket := { src := 0xc0a80002#32, dst := 0xef000001#32, dport := 0x138c#16, badSum := false, version := 2, pt := 96, ts := 0x00000000#32, ssrc := 0x00000007#32, payload := [] };
   let j : ℕ := 0;
   swarmQuiet s = true ∧ linkUp s ↑n = true ∧ netOn s = true ∧ k = NetIn.rtp p ∧ p.badSum = false ∧
      List.find? (rxMatch x (↑n) p) (List.range 32) = some j) ∧
  (let s : State := rtpSt 0x80000000; let n : Fin 4 := 0; let f : List Byte := udpFrame 0xEF000001 5005 0 rtpBytes0;
      let b : ℕ := P.eth ↑n;
   let x := s.inc64 (b + 148); let k : NetIn := netIn s (↑n) f;
   let p : RtpPacket := { src := 0xc0a80002#32, dst := 0xef000001#32, dport := 0x138d#16, badSum := false, version := 2, pt := 96, ts := 0x00000000#32, ssrc := 0x00000007#32, payload := [] };
   swarmQuiet s = true ∧ linkUp s ↑n = true ∧ netOn s = true ∧ k = NetIn.rtp p ∧ p.badSum = false ∧
      List.find? (rxMatch x (↑n) p) (List.range 32) = none) ∧
  (let s : State := ptpAt 8; let n : Fin 4 := 0; let f : List Byte := ptpUdp 0 0 2 []; let b : ℕ := P.eth ↑n; let x := s.inc64 (b + 148);
   let k : NetIn := netIn s (↑n) f;
   let m : PtpMsg := { type := 0, dom := 0, two := false, corr := 0, port := 0x00000000000000000002#80, seq := 0x0000#16, log := 0, ts := 0x0000000000000000#64, req := 0x00000000000000000000#80, ann := { prio1 := 0x00#8, cls := 0x00#8, acc := 0x00#8, var := 0x0000#16, prio2 := 0x00#8, gm := 0x0000000000000000#64, steps := 0x0000#16, sender := 0x00000000000000000002#80 } };
   swarmQuiet s = true ∧ linkUp s ↑n = true ∧ netOn s = true ∧ k = NetIn.ptp m ∧ (m.type = 0 ∨ m.type = 8) ∧ (¬(ptpFits x (↑n) m = true ∧
      (ptpSt x ↑n = 8 ∨ ptpSt x ↑n = 9) ∧ Option.map (fun x => x.sender) (x.link ↑n).ptp.parent = some m.port ∧ -7 ≤ m.log ∧
      m.log ≤ 4))) ∧
  (let s : State := followed 8; let n : Fin 4 := 0; let f : List Byte := ptpUdp 0 0 2 []; let b : ℕ := P.eth ↑n; let x := s.inc64 (b +
      148);
   let k : NetIn := netIn s (↑n) f;
   let m : PtpMsg := { type := 0, dom := 0, two := false, corr := 0, port := 0x00000000000000000002#80, seq := 0x0000#16, log := 0, ts := 0x0000000000000000#64, req := 0x00000000000000000000#80, ann := { prio1 := 0x00#8, cls := 0x00#8, acc := 0x00#8, var := 0x0000#16, prio2 := 0x00#8, gm := 0x0000000000000000#64, steps := 0x0000#16, sender := 0x00000000000000000002#80 } };
   swarmQuiet s = true ∧ linkUp s ↑n = true ∧ netOn s = true ∧ k = NetIn.ptp m ∧ (m.type = 0 ∨ m.type = 8) ∧ (ptpFits x (↑n) m = true ∧
      (ptpSt x ↑n = 8 ∨ ptpSt x ↑n = 9) ∧ Option.map (fun x => x.sender) (x.link ↑n).ptp.parent = some m.port ∧ -7 ≤ m.log ∧ m.log ≤ 4) ∧
      m.type = 0 ∧ m.two = false) ∧
  (let s : State := followed 8; let n : Fin 4 := 0; let f : List Byte := ptpUdp 0 2 2 []; let b : ℕ := P.eth ↑n; let x := s.inc64 (b +
      148);
   let k : NetIn := netIn s (↑n) f;
   let m : PtpMsg := { type := 0, dom := 0, two := true, corr := 0, port := 0x00000000000000000002#80, seq := 0x0000#16, log := 0, ts := 0x0000000000000000#64, req := 0x00000000000000000000#80, ann := { prio1 := 0x00#8, cls := 0x00#8, acc := 0x00#8, var := 0x0000#16, prio2 := 0x00#8, gm := 0x0000000000000000#64, steps := 0x0000#16, sender := 0x00000000000000000002#80 } };
   swarmQuiet s = true ∧ linkUp s ↑n = true ∧ netOn s = true ∧ k = NetIn.ptp m ∧ (m.type = 0 ∨ m.type = 8) ∧ (ptpFits x (↑n) m = true ∧
      (ptpSt x ↑n = 8 ∨ ptpSt x ↑n = 9) ∧ Option.map (fun x => x.sender) (x.link ↑n).ptp.parent = some m.port ∧ -7 ≤ m.log ∧ m.log ≤ 4) ∧
      m.type = 0 ∧ m.two = true) ∧
  (let s : State := (followed 8).onLink 0 fun l => { l with ptp := { l.ptp with sync := some (0, 5, 0) } }; let n : Fin 4 := 0;
   let f : List Byte := ptpUdp 8 0 2 []; let b : ℕ := P.eth ↑n; let x := s.inc64 (b + 148); let k : NetIn := netIn s (↑n) f;
   let m : PtpMsg := { type := 8, dom := 0, two := false, corr := 0, port := 0x00000000000000000002#80, seq := 0x0000#16, log := 0, ts := 0x0000000000000000#64, req := 0x00000000000000000000#80, ann := { prio1 := 0x00#8, cls := 0x00#8, acc := 0x00#8, var := 0x0000#16, prio2 := 0x00#8, gm := 0x0000000000000000#64, steps := 0x0000#16, sender := 0x00000000000000000002#80 } };
   swarmQuiet s = true ∧ linkUp s ↑n = true ∧ netOn s = true ∧ k = NetIn.ptp m ∧ (m.type = 0 ∨ m.type = 8) ∧ (ptpFits x (↑n) m = true ∧
      (ptpSt x ↑n = 8 ∨ ptpSt x ↑n = 9) ∧ Option.map (fun x => x.sender) (x.link ↑n).ptp.parent = some m.port ∧ -7 ≤ m.log ∧ m.log ≤ 4) ∧
      m.type = 8 ∧ (x.link ↑n).ptp.sync.isSome = true) :=
  ⟨by decide +kernel,
   ⟨by decide +kernel, by decide +kernel, by decide +kernel, netIn_frame (by decide +kernel), by decide +kernel⟩,
   ⟨by decide +kernel, by decide +kernel, by decide +kernel, netIn_frame (by decide +kernel), by decide +kernel, by decide +kernel⟩,
   ⟨by decide +kernel, by decide +kernel, by decide +kernel, netIn_frame (by decide +kernel), by decide +kernel, by decide +kernel⟩,
   ⟨by decide +kernel, by decide +kernel, by decide +kernel, netIn_frame (by decide +kernel), by decide +kernel, fun h => absurd
    h.2.2.1 (by decide +kernel)⟩,
   ⟨by decide +kernel, by decide +kernel, by decide +kernel, netIn_frame (by decide +kernel), by decide +kernel, ⟨fits
    (by decide +kernel) (by decide +kernel) (by decide +kernel), by decide +kernel⟩, by decide +kernel, by decide +kernel⟩,
   ⟨by decide +kernel, by decide +kernel, by decide +kernel, netIn_frame (by decide +kernel), by decide +kernel, ⟨fits
    (by decide +kernel) (by decide +kernel) (by decide +kernel), by decide +kernel⟩, by decide +kernel, by decide +kernel⟩,
   ⟨by decide +kernel, by decide +kernel, by decide +kernel, netIn_frame (by decide +kernel), by decide +kernel, ⟨fits
    (by decide +kernel) (by decide +kernel) (by decide +kernel), by decide +kernel⟩, by decide +kernel, by decide +kernel⟩⟩

theorem witness_ReceivedFramesReachTheirUnits_2 :
  (let s : State := followed 8; let n : Fin 4 := 0; let f : List Byte := ptpUdp 8 0 2 []; let b : ℕ := P.eth ↑n; let x := s.inc64 (b +
      148);
   let k : NetIn := netIn s (↑n) f;
   let m : PtpMsg := { type := 8, dom := 0, two := false, corr := 0, port := 0x00000000000000000002#80, seq := 0x0000#16, log := 0, ts := 0x0000000000000000#64, req := 0x00000000000000000000#80, ann := { prio1 := 0x00#8, cls := 0x00#8, acc := 0x00#8, var := 0x0000#16, prio2 := 0x00#8, gm := 0x0000000000000000#64, steps := 0x0000#16, sender := 0x00000000000000000002#80 } };
   swarmQuiet s = true ∧ linkUp s ↑n = true ∧ netOn s = true ∧ k = NetIn.ptp m ∧ (m.type = 0 ∨ m.type = 8) ∧ (ptpFits x (↑n) m = true ∧
      (ptpSt x ↑n = 8 ∨ ptpSt x ↑n = 9) ∧ Option.map (fun x => x.sender) (x.link ↑n).ptp.parent = some m.port ∧ -7 ≤ m.log ∧ m.log ≤ 4) ∧
      m.type = 8 ∧ (Option.map (fun x => x.1) (x.link ↑n).ptp.sync ≠ some m.seq)) ∧
  (let s : State := ptpAt 8; let n : Fin 4 := 0; let f : List Byte := ptpUdp 11 0 2 (List.replicate 20 0); let b : ℕ := P.eth ↑n;
   let x := s.inc64 (b + 148); let k : NetIn := netIn s (↑n) f;
   let m : PtpMsg := { type := 11, dom := 0, two := false, corr := 0, port := 0x00000000000000000002#80, seq := 0x0000#16, log := 0, ts := 0x0000000000000000#64, req := 0x00000000000000000000#80, ann := { prio1 := 0x00#8, cls := 0x00#8, acc := 0x00#8, var := 0x0000#16, prio2 := 0x00#8, gm := 0x0000000000000000#64, steps := 0x0000#16, sender := 0x00000000000000000002#80 } };
   swarmQuiet s = true ∧ linkUp s ↑n = true ∧ netOn s = true ∧ k = NetIn.ptp m ∧ m.type = 11 ∧ ptpFits x (↑n) m = true ∧
      (4 ≤ ptpSt x ↑n)) ∧
  (let s : State := ptpAt 3; let n : Fin 4 := 0; let f : List Byte := ptpUdp 11 0 2 (List.replicate 20 0); let b : ℕ := P.eth ↑n;
   let x := s.inc64 (b + 148); let k : NetIn := netIn s (↑n) f;
   let m : PtpMsg := { type := 11, dom := 0, two := false, corr := 0, port := 0x00000000000000000002#80, seq := 0x0000#16, log := 0, ts := 0x0000000000000000#64, req := 0x00000000000000000000#80, ann := { prio1 := 0x00#8, cls := 0x00#8, acc := 0x00#8, var := 0x0000#16, prio2 := 0x00#8, gm := 0x0000000000000000#64, steps := 0x0000#16, sender := 0x00000000000000000002#80 } };
   swarmQuiet s = true ∧ linkUp s ↑n = true ∧ netOn s = true ∧ k = NetIn.ptp m ∧ m.type = 11 ∧ (ptpFits x (↑n) m = false ∨
      ptpSt x ↑n < 4)) ∧
  (let s : State := (ptpAt 6).setF (P.eth 0) F.ETH_PTP_CFG_DOMAIN 5; let n : Fin 4 := 0; let f : List Byte := ptpUdp 1 0 2 [];
   let b : ℕ := P.eth ↑n; let x := s.inc64 (b + 148); let k : NetIn := netIn s (↑n) f;
   let m : PtpMsg := { type := 1, dom := 0, two := false, corr := 0, port := 0x00000000000000000002#80, seq := 0x0000#16, log := 0, ts := 0x0000000000000000#64, req := 0x00000000000000000000#80, ann := { prio1 := 0x00#8, cls := 0x00#8, acc := 0x00#8, var := 0x0000#16, prio2 := 0x00#8, gm := 0x0000000000000000#64, steps := 0x0000#16, sender := 0x00000000000000000002#80 } };
   swarmQuiet s = true ∧ linkUp s ↑n = true ∧ netOn s = true ∧ k = NetIn.ptp m ∧ (m.type ≠ 0) ∧ (m.type ≠ 8) ∧ (m.type ≠ 11) ∧
      ptpFits x (↑n) m = false) ∧
  (let s : State := ptpAt 6; let n : Fin 4 := 0; let f : List Byte := ptpUdp 1 0 2 []; let b : ℕ := P.eth ↑n; let x := s.inc64 (b + 148);
   let k : NetIn := netIn s (↑n) f;
   let m : PtpMsg := { type := 1, dom := 0, two := false, corr := 0, port := 0x00000000000000000002#80, seq := 0x0000#16, log := 0, ts := 0x0000000000000000#64, req := 0x00000000000000000000#80, ann := { prio1 := 0x00#8, cls := 0x00#8, acc := 0x00#8, var := 0x0000#16, prio2 := 0x00#8, gm := 0x0000000000000000#64, steps := 0x0000#16, sender := 0x00000000000000000002#80 } };
   swarmQuiet s = true ∧ linkUp s ↑n = true ∧ netOn s = true ∧ k = NetIn.ptp m ∧ (m.type ≠ 0) ∧ (m.type ≠ 8) ∧ (m.type ≠ 11) ∧
      ptpFits x (↑n) m = true ∧ (x.getF b F.ETH_PTP_CFG_PROFILE ≠ 1) ∧ m.type = 1 ∧ ptpSt x ↑n = 6) ∧
  (let s : State := ptpAt 8; let n : Fin 4 := 0; let f : List Byte := ptpUdp 2 0 2 (List.replicate 10 0); let b : ℕ := P.eth ↑n;
   let x := s.inc64 (b + 148); let k : NetIn := netIn s (↑n) f;
   let m : PtpMsg := { type := 2, dom := 0, two := false, corr := 0, port := 0x00000000000000000002#80, seq := 0x0000#16, log := 0, ts := 0x0000000000000000#64, req := 0x00000000000000000000#80, ann := { prio1 := 0x00#8, cls := 0x00#8, acc := 0x00#8, var := 0x0000#16, prio2 := 0x00#8, gm := 0x0000000000000000#64, steps := 0x0000#16, sender := 0x00000000000000000002#80 } };
   swarmQuiet s = true ∧ linkUp s ↑n = true ∧ netOn s = true ∧ k = NetIn.ptp m ∧ (m.type ≠ 0) ∧ (m.type ≠ 8) ∧ (m.type ≠ 11) ∧
      ptpFits x (↑n) m = true ∧ (¬(x.getF b F.ETH_PTP_CFG_PROFILE = 1 ↔ ¬(m.type = 1 ∨ m.type = 9)))) ∧
  (let s : State := ptpAt 8; let n : Fin 4 := 0; let f : List Byte := ptpUdp 1 0 2 []; let b : ℕ := P.eth ↑n; let x := s.inc64 (b + 148);
   let k : NetIn := netIn s (↑n) f;
   let m : PtpMsg := { type := 1, dom := 0, two := false, corr := 0, port := 0x00000000000000000002#80, seq := 0x0000#16, log := 0, ts := 0x0000000000000000#64, req := 0x00000000000000000000#80, ann := { prio1 := 0x00#8, cls := 0x00#8, acc := 0x00#8, var := 0x0000#16, prio2 := 0x00#8, gm := 0x0000000000000000#64, steps := 0x0000#16, sender := 0x00000000000000000002#80 } };
   swarmQuiet s = true ∧ linkUp s ↑n = true ∧ netOn s = true ∧ k = NetIn.ptp m ∧ (m.type ≠ 0) ∧ (m.type ≠ 8) ∧ (m.type ≠ 11) ∧
      ptpFits x (↑n) m = true ∧ (x.getF b F.ETH_PTP_CFG_PROFILE = 1 ↔ ¬(m.type = 1 ∨ m.type = 9)) ∧ m.type = 1 ∧ (ptpSt x ↑n ≠ 6)) ∧
  (let s : State := (ptpAt 8).setF (P.eth 0) F.ETH_PTP_CFG_PROFILE 1; let n : Fin 4 := 0;
   let f : List Byte := frame 0x0180C200000E 0x88F7 (ptpBytes 2 0 0 2 (List.replicate 10 0)); let b : ℕ := P.eth ↑n;
   let x := s.inc64 (b + 148); let k : NetIn := netIn s (↑n) f;
   let m : PtpMsg := { type := 2, dom := 0, two := false, corr := 0, port := 0x00000000000000000002#80, seq := 0x0000#16, log := 0, ts := 0x0000000000000000#64, req := 0x00000000000000000000#80, ann := { prio1 := 0x00#8, cls := 0x00#8, acc := 0x00#8, var := 0x0000#16, prio2 := 0x00#8, gm := 0x0000000000000000#64, steps := 0x0000#16, sender := 0x00000000000000000002#80 } };
   swarmQuiet s = true ∧ linkUp s ↑n = true ∧ netOn s = true ∧ k = NetIn.ptp m ∧ (m.type ≠ 0) ∧ (m.type ≠ 8) ∧ (m.type ≠ 11) ∧
      ptpFits x (↑n) m = true ∧ (x.getF b F.ETH_PTP_CFG_PROFILE = 1 ↔ ¬(m.type = 1 ∨ m.type = 9)) ∧ m.type = 2) :=
  ⟨⟨by decide +kernel, by decide +kernel, by decide +kernel, netIn_frame (by decide +kernel), by decide +kernel, ⟨fits
    (by decide +kernel) (by decide +kernel) (by decide +kernel), by decide +kernel⟩, by decide +kernel, by decide +kernel⟩,
   ⟨by decide +kernel, by decide +kernel, by decide +kernel, netIn_frame (by decide +kernel), by decide +kernel, fits
    (by decide +kernel) (by decide +kernel) (by decide +kernel), by decide +kernel⟩,
   ⟨by decide +kernel, by decide +kernel, by decide +kernel, netIn_frame (by decide +kernel), by decide +kernel, Or.inr
    (by decide +kernel)⟩,
   ⟨by decide +kernel, by decide +kernel, by decide +kernel, netIn_frame (by decide +kernel), by decide +kernel, by decide +kernel,
    by decide +kernel, by decide +kernel⟩,
   ⟨by decide +kernel, by decide +kernel, by decide +kernel, netIn_frame (by decide +kernel), by decide +kernel, by decide +kernel,
    by decide +kernel, fits (by decide +kernel) (by decide +kernel) (by decide +kernel), by decide +kernel, by decide +kernel,
    by decide +kernel⟩,
   ⟨by decide +kernel, by decide +kernel, by decide +kernel, netIn_frame (by decide +kernel), by decide +kernel, by decide +kernel,
    by decide +kernel, fits (by decide +kernel) (by decide +kernel) (by decide +kernel), by decide +kernel⟩,
   ⟨by decide +kernel, by decide +kernel, by decide +kernel, netIn_frame (by decide +kernel), by decide +kernel, by decide +kernel,
    by decide +kernel, fits (by decide +kernel) (by decide +kernel) (by decide +kernel), by decide +kernel, by decide +kernel,
    by decide +kernel⟩,
   ⟨by decide +kernel, by decide +kernel, by decide +kernel, netIn_frame (by decide +kernel), by decide +kernel, by decide +kernel,
    by decide +kernel, fits (by decide +kernel) (by decide +kernel) (by decide +kernel), by decide +kernel, by decide +kernel⟩⟩

theorem witness_ReceivedFramesReachTheirUnits_3 :
  (let s : State := ptpAt 8; let n : Fin 4 := 0; let f : List Byte := ptpUdp 9 0 2 (List.replicate 10 0); let b : ℕ := P.eth ↑n;
   let x := s.inc64 (b + 148); let k : NetIn := netIn s (↑n) f;
   let m : PtpMsg := { type := 9, dom := 0, two := false, corr := 0, port := 0x00000000000000000002#80, seq := 0x0000#16, log := 0, ts := 0x0000000000000000#64, req := 0x00000000000000000000#80, ann := { prio1 := 0x00#8, cls := 0x00#8, acc := 0x00#8, var := 0x0000#16, prio2 := 0x00#8, gm := 0x0000000000000000#64, steps := 0x0000#16, sender := 0x00000000000000000002#80 } };
   swarmQuiet s = true ∧ linkUp s ↑n = true ∧ netOn s = true ∧ k = NetIn.ptp m ∧ (m.type ≠ 0) ∧ (m.type ≠ 8) ∧ (m.type ≠ 11) ∧
      ptpFits x (↑n) m = true ∧ (x.getF b F.ETH_PTP_CFG_PROFILE = 1 ↔ ¬(m.type = 1 ∨ m.type = 9)) ∧ (m.type ≠ 1) ∧ (m.type ≠ 2) ∧
      (x.link ↑n).ptp.req = none) ∧
  (let s : State := (ptpAt 8).onLink 0 fun l => { l with ptp := { l.ptp with req := some (0, 5) } }; let n : Fin 4 := 0;
   let f : List Byte := ptpUdp 9 0 2 (List.replicate 10 0); let b : ℕ := P.eth ↑n; let x := s.inc64 (b + 148);
   let k : NetIn := netIn s (↑n) f;
   let m : PtpMsg := { type := 9, dom := 0, two := false, corr := 0, port := 0x00000000000000000002#80, seq := 0x0000#16, log := 0, ts := 0x0000000000000000#64, req := 0x00000000000000000000#80, ann := { prio1 := 0x00#8, cls := 0x00#8, acc := 0x00#8, var := 0x0000#16, prio2 := 0x00#8, gm := 0x0000000000000000#64, steps := 0x0000#16, sender := 0x00000000000000000002#80 } };
   swarmQuiet s = true ∧ linkUp s ↑n = true ∧ netOn s = true ∧ k = NetIn.ptp m ∧ (m.type ≠ 0) ∧ (m.type ≠ 8) ∧ (m.type ≠ 11) ∧
      ptpFits x (↑n) m = true ∧ (x.getF b F.ETH_PTP_CFG_PROFILE = 1 ↔ ¬(m.type = 1 ∨ m.type = 9)) ∧ (m.type ≠ 1) ∧ (m.type ≠ 2) ∧
      (x.link ↑n).ptp.req.isSome = true) ∧
  (let s : State := eth4; let n : Fin 4 := 0; let m : PtpMsg := ptpM 9 false 0 1; let q : BitVec 16 := 0;
   swarmQuiet s = true ∧ linkUp s ↑n = true ∧ netOn s = true ∧ (m.req ≠ ownPort ↑n ∨ m.seq ≠ q)) ∧
  (let s : State := (followed 8).onLink 0 fun l => { l with ptp := { l.ptp with ms := some 5, parent := some { annc with sender := 2 } } };
   let n : Fin 4 := 0; let b : ℕ := P.eth ↑n; let x := s.inc64 (b + 148); let m : PtpMsg := ptpM 9 false (ownPort 0) 0;
   let q : BitVec 16 := 0; let p : Ptp := (x.link ↑n).ptp;
   swarmQuiet s = true ∧ linkUp s ↑n = true ∧ netOn s = true ∧ m.req = ownPort ↑n ∧ m.seq = q ∧ m.type = 9 ∧ p.ms.isSome = true ∧
      (ptpSt x ↑n = 8 ∨ ptpSt x ↑n = 9) ∧ Option.map (fun x => x.sender) p.parent = some m.port) ∧
  (let s : State := eth4; let n : Fin 4 := 0; let b : ℕ := P.eth ↑n; let x := s.inc64 (b + 148);
      let m : PtpMsg := ptpM 9 false (ownPort 0) 0;
   let q : BitVec 16 := 0; let p : Ptp := (x.link ↑n).ptp;
   swarmQuiet s = true ∧ linkUp s ↑n = true ∧ netOn s = true ∧ m.req = ownPort ↑n ∧ m.seq = q ∧ m.type = 9 ∧ (p.ms = none ∨
      ptpSt x ↑n ≠ 8 ∧ ptpSt x ↑n ≠ 9 ∨ Option.map (fun x => x.sender) p.parent ≠ some m.port)) ∧
  (let s : State := eth4; let n : Fin 4 := 0; let m : PtpMsg := ptpM 3 true (ownPort 0) 0; let q : BitVec 16 := 0;
   swarmQuiet s = true ∧ linkUp s ↑n = true ∧ netOn s = true ∧ m.req = ownPort ↑n ∧ m.seq = q ∧ m.type = 3 ∧ m.two = true) ∧
  (let s : State := eth4; let n : Fin 4 := 0; let m : PtpMsg := ptpM 3 false (ownPort 0) 0; let q : BitVec 16 := 0;
   swarmQuiet s = true ∧ linkUp s ↑n = true ∧ netOn s = true ∧ m.req = ownPort ↑n ∧ m.seq = q ∧ m.type = 3 ∧ m.two = false) ∧
  (let s : State := eth4.onLink 0 fun l => { l with ptp := { l.ptp with resp := some (0, 5, 6, 7) } }; let n : Fin 4 := 0;
   let b : ℕ := P.eth ↑n; let x := s.inc64 (b + 148); let m : PtpMsg := ptpM 10 false (ownPort 0) 0; let q : BitVec 16 := 0;
   let p : Ptp := (x.link ↑n).ptp;
   swarmQuiet s = true ∧ linkUp s ↑n = true ∧ netOn s = true ∧ m.req = ownPort ↑n ∧ m.seq = q ∧ (m.type ≠ 9) ∧ (m.type ≠ 3) ∧
      p.resp.isSome = true) :=
  ⟨⟨by decide +kernel, by decide +kernel, by decide +kernel, netIn_frame (by decide +kernel), by decide +kernel, by decide +kernel,
    by decide +kernel, fits (by decide +kernel) (by decide +kernel) (by decide +kernel), by decide +kernel, by decide +kernel,
    by decide +kernel, by decide +kernel⟩,
   ⟨by decide +kernel, by decide +kernel, by decide +kernel, netIn_frame (by decide +kernel), by decide +kernel, by decide +kernel,
    by decide +kernel, fits (by decide +kernel) (by decide +kernel) (by decide +kernel), by decide +kernel, by decide +kernel,
    by decide +kernel, by decide +kernel⟩,
   ⟨by decide +kernel, by decide +kernel, by decide +kernel, Or.inr (by decide +kernel)⟩,
   ⟨by decide +kernel, by decide +kernel, by decide +kernel, rfl, by decide +kernel, by decide +kernel, by decide +kernel,
    by decide +kernel, by decide +kernel⟩,
   ⟨by decide +kernel, by decide +kernel, by decide +kernel, rfl, by decide +kernel, by decide +kernel, by decide +kernel⟩,
   ⟨by decide +kernel, by decide +kernel, by decide +kernel, rfl, by decide +kernel, by decide +kernel, by decide +kernel⟩,
   ⟨by decide +kernel, by decide +kernel, by decide +kernel, rfl, by decide +kernel, by decide +kernel, by decide +kernel⟩,
   ⟨by decide +kernel, by decide +kernel, by decide +kernel, rfl, by decide +kernel, by decide +kernel, by decide +kernel,
    by decide +kernel⟩⟩

theorem witness_ReceivedFramesReachTheirUnits_4 :
  (let s : State := eth4; let n : Fin 4 := 0; let b : ℕ := P.eth ↑n; let x := s.inc64 (b + 148);
   let m : PtpMsg := ptpM 10 false (ownPort 0) 0; let q : BitVec 16 := 0; let p : Ptp := (x.link ↑n).ptp;
   swarmQuiet s = true ∧ linkUp s ↑n = true ∧ netOn s = true ∧ m.req = ownPort ↑n ∧ m.seq = q ∧ (m.type ≠ 9) ∧ (m.type ≠ 3) ∧
      (Option.map (fun x => x.1) p.resp ≠ some m.seq)) ∧
  (let s : State := eth4; let n : Fin 4 := 0; let f : List Byte := []; let k : NetIn := netIn s (↑n) f;
   swarmQuiet s = true ∧ linkUp s ↑n = true ∧ netOn s = true ∧ k = NetIn.fcs) ∧
  (let s : State := eth4; let n : Fin 4 := 0; let f : List Byte := frame 0x010203040506 0x0800 []; let k : NetIn := netIn s (↑n) f;
   swarmQuiet s = true ∧ linkUp s ↑n = true ∧ netOn s = true ∧ k = NetIn.filtered) ∧
  (let s : State := eth4; let n : Fin 4 := 0; let f : List Byte := frame 0xFFFFFFFFFFFF 0x0801 []; let k : NetIn := netIn s (↑n) f;
   swarmQuiet s = true ∧ linkUp s ↑n = true ∧ netOn s = true ∧ k = NetIn.drop) ∧
  (let s : State := ptpAt 8; let n : Fin 4 := 0; let f : List Byte := udpFrame 0xE0000181 320 1 []; let k : NetIn := netIn s (↑n) f;
   swarmQuiet s = true ∧ linkUp s ↑n = true ∧ netOn s = true ∧ k = NetIn.csum) ∧
  (let s : State := eth4; let n : Fin 4 := 0; let f : List Byte := frame 0xFFFFFFFFFFFF 0x8808 []; let k : NetIn := netIn s (↑n) f;
   swarmQuiet s = true ∧ linkUp s ↑n = true ∧ netOn s = true ∧ k = NetIn.ignored) ∧
  (let s : State := eth4ip; let n : Fin 4 := 0; let f : List Byte := arpF 1 0xC0A80002 2 0xC0A80001; let b : ℕ := P.eth ↑n;
   let x := s.inc64 (b + 148); let k : NetIn := netIn s (↑n) f; let reply : Bool := false; let sip : Word := 0xc0a80002#32;
   let smac : BitVec 48 := 0x000000000002#48; let tip : Word := 0xc0a80001#32;
   swarmQuiet s = true ∧ linkUp s ↑n = true ∧ netOn s = true ∧ k = NetIn.arp reply sip smac tip ∧ (linkIp x ↑n ≠ 0) ∧
      (sip ≠ linkIp x ↑n) ∧ tip = linkIp x ↑n ∧ reply = false) ∧
  (let s : State := eth4; let n : Fin 4 := 0; let f : List Byte := arpF 1 0xC0A80002 2 0xC0A80001; let b : ℕ := P.eth ↑n;
   let x := s.inc64 (b + 148); let k : NetIn := netIn s (↑n) f; let reply : Bool := false; let sip : Word := 0xc0a80002#32;
   let smac : BitVec 48 := 0x000000000002#48; let tip : Word := 0xc0a80001#32;
   swarmQuiet s = true ∧ linkUp s ↑n = true ∧ netOn s = true ∧ k = NetIn.arp reply sip smac tip ∧ (linkIp x ↑n = 0 ∨ sip = linkIp x ↑n ∧
      smac = linkMac x ↑n)) :=
  ⟨⟨by decide +kernel, by decide +kernel, by decide +kernel, rfl, by decide +kernel, by decide +kernel, by decide +kernel,
    by decide +kernel⟩,
   ⟨by decide +kernel, by decide +kernel, by decide +kernel, by decide +kernel⟩,
   ⟨by decide +kernel, by decide +kernel, by decide +kernel, netIn_frame (by decide +kernel)⟩,
   ⟨by decide +kernel, by decide +kernel, by decide +kernel, netIn_frame (by decide +kernel)⟩,
   ⟨by decide +kernel, by decide +kernel, by decide +kernel, netIn_frame (by decide +kernel)⟩,
   ⟨by decide +kernel, by decide +kernel, by decide +kernel, netIn_frame (by decide +kernel)⟩,
   ⟨by decide +kernel, by decide +kernel, by decide +kernel, netIn_frame (by decide +kernel), by decide +kernel, by decide +kernel,
    by decide +kernel, by decide +kernel⟩,
   ⟨by decide +kernel, by decide +kernel, by decide +kernel, netIn_frame (by decide +kernel), by decide +kernel⟩⟩

theorem witness_ReceivedFramesReachTheirUnits_5 :
  (let s : State := eth4ip; let n : Fin 4 := 0; let f : List Byte := arpF 1 0xC0A80001 2 0xC0A80001; let b : ℕ := P.eth ↑n;
   let x := s.inc64 (b + 148); let k : NetIn := netIn s (↑n) f; let reply : Bool := false; let sip : Word := 0xc0a80001#32;
   let smac : BitVec 48 := 0x000000000002#48; let tip : Word := 0xc0a80001#32;
   swarmQuiet s = true ∧ linkUp s ↑n = true ∧ netOn s = true ∧ k = NetIn.arp reply sip smac tip ∧ (linkIp x ↑n ≠ 0) ∧ sip = linkIp x ↑n ∧
      (smac ≠ linkMac x ↑n)) ∧
  (let s : State := eth4ip; let n : Fin 4 := 0; let f : List Byte := arpF 2 0xC0A80002 2 0xC0A80001; let b : ℕ := P.eth ↑n;
   let x := s.inc64 (b + 148); let k : NetIn := netIn s (↑n) f; let reply : Bool := true; let sip : Word := 0xc0a80002#32;
   let smac : BitVec 48 := 0x000000000002#48; let tip : Word := 0xc0a80001#32;
   swarmQuiet s = true ∧ linkUp s ↑n = true ∧ netOn s = true ∧ k = NetIn.arp reply sip smac tip ∧ (linkIp x ↑n ≠ 0) ∧
      (sip ≠ linkIp x ↑n) ∧ (tip ≠ linkIp x ↑n ∨ reply = true)) ∧
  (let s : State := eth4ip; let n : Fin 4 := 0; let f : List Byte := ipFrame 1 0xC0A80001 (summed [8,0,0,0,0,1,0,1]);
   let k : NetIn := netIn s (↑n) f; let src : Word := 0xc0a80002#32; let data : List Byte := [0x00#8, 0x01#8, 0x00#8, 0x01#8];
   swarmQuiet s = true ∧ linkUp s ↑n = true ∧ netOn s = true ∧ k = NetIn.echo src data) ∧
  (let s : State := eth4ip; let n : Fin 4 := 0; let f : List Byte := ipFrame 2 0xE0000001 (summed [0x11,1,0,0,0,0,0,0,0,0,0,0]);
   let k : NetIn := netIn s (↑n) f; let v2 : Bool := false; let group : Word := 0x00000000#32; let srcs : List Word := [];
   swarmQuiet s = true ∧ linkUp s ↑n = true ∧ netOn s = true ∧ k = NetIn.igmp v2 group srcs ∧ v2 = false) ∧
  (let s : State := eth4ip; let n : Fin 4 := 0; let f : List Byte := ipFrame 2 0xE0000001 (summed [0x11,1,0,0,0,0,0,0]);
   let k : NetIn := netIn s (↑n) f; let v2 : Bool := true; let group : Word := 0x00000000#32; let srcs : List Word := [];
   swarmQuiet s = true ∧ linkUp s ↑n = true ∧ netOn s = true ∧ k = NetIn.igmp v2 group srcs ∧ v2 = true) ∧
  (let s : State := eth4ip; let n : Fin 4 := 0; let f : List Byte := ipFrame 2 0xE0000001 (summed [0x16,0,0,0,0xEF,0,0,1]);
   let k : NetIn := netIn s (↑n) f; swarmQuiet s = true ∧ linkUp s ↑n = true ∧ netOn s = true ∧ k = NetIn.igmpOther) ∧
  (let s : State := udpSt; let n : Fin 4 := 0; let f : List Byte := udpFrame 0xC0A80001 41820 0 [1, 0xFF];
      let k : NetIn := netIn s (↑n) f;
   let ip : Word := 0xc0a80002#32; let port : BitVec 16 := 0x1388#16; let bytes : List Byte := [0x01#8, 0xff#8];
   let key := leNat (List.take 1 (List.drop 1 bytes)); let tail := if key = 255 then 0 else 16;
   swarmQuiet s = true ∧ linkUp s ↑n = true ∧ netOn s = true ∧ k = NetIn.plosto ip port bytes ∧ (bytes.length < 28 + tail ∨
      288 < bytes.length ∨ bytes.headD 0 ≠ 1)) ∧
  (let s : State := udpSt; let n : Fin 4 := 0; let f : List Byte := udpFrame 0xC0A80001 41820 0 ([1, 0xFF] ++ List.replicate 26 0);
   let k : NetIn := netIn s (↑n) f; let ip : Word := 0xc0a80002#32; let port : BitVec 16 := 0x1388#16;
   let bytes : List Byte := [0x01#8, 0xff#8, 0x00#8, 0x00#8, 0x00#8, 0x00#8, 0x00#8, 0x00#8, 0x00#8, 0x00#8, 0x00#8, 0x00#8, 0x00#8,
      0x00#8, 0x00#8, 0x00#8, 0x00#8, 0x00#8, 0x00#8, 0x00#8, 0x00#8, 0x00#8, 0x00#8, 0x00#8, 0x00#8, 0x00#8, 0x00#8, 0x00#8];
   let key := leNat (List.take 1 (List.drop 1 bytes)); let tail := if key = 255 then 0 else 16;
   swarmQuiet s = true ∧ linkUp s ↑n = true ∧ netOn s = true ∧ k = NetIn.plosto ip port bytes ∧ (28 + tail ≤ bytes.length) ∧
      (bytes.length ≤ 288) ∧ bytes.headD 0 = 1) :=
  ⟨⟨by decide +kernel, by decide +kernel, by decide +kernel, netIn_frame (by decide +kernel), by decide +kernel, by decide +kernel,
    by decide +kernel⟩,
   ⟨by decide +kernel, by decide +kernel, by decide +kernel, netIn_frame (by decide +kernel), by decide +kernel, by decide +kernel,
    by decide +kernel⟩,
   ⟨by decide +kernel, by decide +kernel, by decide +kernel, netIn_frame (by decide +kernel)⟩,
   ⟨by decide +kernel, by decide +kernel, by decide +kernel, netIn_frame (by decide +kernel), by decide +kernel⟩,
   ⟨by decide +kernel, by decide +kernel, by decide +kernel, netIn_frame (by decide +kernel), by decide +kernel⟩,
   ⟨by decide +kernel, by decide +kernel, by decide +kernel, netIn_frame (by decide +kernel)⟩,
   ⟨by decide +kernel, by decide +kernel, by decide +kernel, netIn_frame (by decide +kernel), by decide +kernel⟩,
   ⟨by decide +kernel, by decide +kernel, by decide +kernel, netIn_frame (by decide +kernel), by decide +kernel, by decide +kernel,
    by decide +kernel⟩⟩

theorem witness_ReceivedFramesReachTheirUnits :
  (let l : List Sent := []; decide ((List.Pairwise (fun y z => y.rank ≤ z.rank) l))) ∧
  (let s : State := eth4; let n : Fin 4 := 0; let tx : Bool := false; let c : Fin 34 := 0;
   let l : List SwmHeld := List.dropWhile (fun h => !h.delayed) (heldOf s (↑n) tx ↑c); decide (l = [])) ∧
  (let s : State := eth4.onSwm fun w => { w with held := [⟨0, true, 0, true, false, .tx (arpGratuitous eth4 0)⟩] }; let n : Fin 4 := 0;
   let tx : Bool := true; let c : Fin 34 := 0; let l : List SwmHeld := List.dropWhile (fun h => !h.delayed) (heldOf s (↑n) tx ↑c);
   decide (l.isEmpty = false)) := by
  refine ⟨?_, ?_, ?_⟩ <;> decide +kernel

theorem witness_StreamsEnableSendAndStall :
  (let s : State := strSet; let r : Req := .spi; let tx : Bool := true; let j : Fin 32 := 0; let v : Word := 0x80000001#32;
   let a : ℕ := strAddr tx ↑j; let w := setField v 31 31 1; let t := s.wakeFor a; let d := b2n tx;
   let c : Code := strCheck t d (↑j) (w :: List.drop 1 (strWords t d ↑j));
   decide (served s r a = true ∧ strOn t d ↑j = false ∧ c = Code.done)) ∧
  (let s : State := strSet; let r : Req := .spi; let tx : Bool := false; let j : Fin 32 := 0; let v : Word := 0;
      let a : ℕ := strAddr tx ↑j;
   let w := setField v 31 31 1; let t := s.wakeFor a; let d := b2n tx;
   let c : Code := strCheck t d (↑j) (w :: List.drop 1 (strWords t d ↑j));
   decide (served s r a = true ∧ strOn t d ↑j = false ∧ (c ≠ Code.done))) ∧
  (let s : State := ready.wr (P.rx 0) 0x80000000; let r : Req := .spi; let tx : Bool := false; let j : Fin 32 := 0; let v : Word := 0;
   let a : ℕ := strAddr tx ↑j; let w := setField v 31 31 1; let t := s.wakeFor a; let d := b2n tx;
   decide (served s r a = true ∧ strOn t d ↑j = true ∧ Option.map (fun x => x.store (t.rd a) w) (regAt a) = some (t.rd a))) ∧
  (let s : State := strSet.wr (P.tx 0) 0x80000000; let r : Req := .spi; let tx : Bool := true; let j : Fin 32 := 0; let v : Word := 1;
   let a : ℕ := strAddr tx ↑j; let w := setField v 31 31 1; let t := s.wakeFor a; let d := b2n tx;
   decide (served s r a = true ∧ strOn t d ↑j = true ∧ (Option.map (fun x => x.store (t.rd a) w) (regAt a) ≠ some (t.rd a)))) ∧
  (let s : State := ready.wr (P.rx 0) 0x80000000; let r : Req := .spi; let tx : Bool := false; let j : Fin 32 := 0;
   let a : ℕ := strAddr tx ↑j; let t := s.wakeFor a; decide (served s r a = true ∧ strOn t (b2n tx) ↑j = true)) ∧
  (let s : State := strSet; let r : Req := .spi; let tx : Bool := true; let j : Fin 32 := 0; let a : ℕ := strAddr tx ↑j;
      let t := s.wakeFor a;
   decide (served s r a = true ∧ strOn t (b2n tx) ↑j = false)) ∧
  (let s : State := ((ready.wr (P.rx 0) 0x80000000).setF (P.rx 0) F.STR_RX_CTRL_STATE 2); let j : Fin 32 := 0; let b : ℕ := P.rx ↑j;
   decide (strOn s 0 ↑j = true ∧ s.getF b F.STR_RX_CTRL_STATE = 2)) ∧
  (let s : State := strSet; let j : Fin 32 := 0; let b : ℕ := P.rx ↑j; decide ((strOn s 0 ↑j = false ∨
      s.getF b F.STR_RX_CTRL_STATE ≠ 2))) ∧
  (let s : State := txBuf.setSt (P.eth 0) 3; let j : Fin 32 := 0; let b : ℕ := P.tx ↑j;
      let len := ptimeLen (s.getF b F.STR_TX_CTRL_PTIME);
   let t : State := txSettle s ↑j;
   decide ((strFirst s 1 ↑j ≠ 1023) ∧ awake s = true ∧ ((s.tx ↑j).buf.length = len ∨ s.stopped = true ∧ strOn s 1 ↑j = true) ∧
      (txHold t ↑j ≠ 0 ∨ t.getF b F.STR_TX_CTRL_STATE = 1))) ∧
  (let s : State := txBuf; let j : Fin 32 := 0; let b : ℕ := P.tx ↑j; let len := ptimeLen (s.getF b F.STR_TX_CTRL_PTIME);
   let t : State := txSettle s ↑j;
   decide ((strFirst s 1 ↑j ≠ 1023) ∧ awake s = true ∧ ((s.tx ↑j).buf.length = len ∨ s.stopped = true ∧ strOn s 1 ↑j = true) ∧
      txHold t ↑j = 0 ∧ (t.getF b F.STR_TX_CTRL_STATE ≠ 1))) ∧
  (let s : State := strSet; let j : Fin 32 := 0; let b : ℕ := P.tx ↑j; let len := ptimeLen (s.getF b F.STR_TX_CTRL_PTIME);
   decide ((strFirst s 1 ↑j = 1023 ∨ awake s = false ∨ ¬((s.tx ↑j).buf.length = len ∨ s.stopped = true ∧ strOn s 1 ↑j = true)))) ∧
  (let s : State := (strSet).arrive 32 (plo ([1,0,0,0] ++ wordsBytes [1, 0, 0xEF000001, 0, 0, 0, 0, 0]));
   let q : PlReq := plo ([1,0,0,0] ++ wordsBytes [1, 0, 0xEF000001, 0, 0, 0, 0, 0]); let t := s.wakeFor (P.eth 0);
   let dir := field q.payload 0 1; let j := field q.payload 1 1; let ws := toWords (List.drop 4 q.payload); let i : ℕ := 0;
   decide (plServes s 32 q = true ∧ pageServes s (P.eth 0) true = true ∧ q.payload.length = 36 ∧ (dir ≤ 1) ∧ field q.payload 2 2 = 0 ∧
      (j < 32 ∧ i = j ∧ strOn t dir j = false ∨ j = 255 ∧ freeEntry t dir = some i) ∧ strCheck t dir i ws = Code.done)) ∧
  (let s : State := (ready).arrive 32 (plo (List.replicate 36 0)); let q : PlReq := plo (List.replicate 36 0);
      let t := s.wakeFor (P.eth 0);
   let dir := field q.payload 0 1; let j := field q.payload 1 1; let ws := toWords (List.drop 4 q.payload); let i : ℕ := 0;
   decide (plServes s 32 q = true ∧ pageServes s (P.eth 0) true = true ∧ q.payload.length = 36 ∧ (dir ≤ 1) ∧ field q.payload 2 2 = 0 ∧
      (j < 32 ∧ i = j ∧ strOn t dir j = false ∨ j = 255 ∧ freeEntry t dir = some i) ∧ strCheck t dir i ws = Code.range)) ∧
  (let s : State := (ready).arrive 32 (plo ([1,0,0,0] ++ wordsBytes [1, 0, 0xEF000001, 0, 0, 0, 0, 0]));
   let q : PlReq := plo ([1,0,0,0] ++ wordsBytes [1, 0, 0xEF000001, 0, 0, 0, 0, 0]); let t := s.wakeFor (P.eth 0);
   let dir := field q.payload 0 1; let j := field q.payload 1 1; let ws := toWords (List.drop 4 q.payload); let i : ℕ := 0;
   decide (plServes s 32 q = true ∧ pageServes s (P.eth 0) true = true ∧ q.payload.length = 36 ∧ (dir ≤ 1) ∧ field q.payload 2 2 = 0 ∧
      (j < 32 ∧ i = j ∧ strOn t dir j = false ∨ j = 255 ∧ freeEntry t dir = some i) ∧ strCheck t dir i ws = Code.state)) ∧
  (let s : State := (forEach (List.range 4) (fun i s => (s.wr (P.tx (i+1)) 64).wr (P.tx (i+1) +
      4) (BitVec.ofNat 32 (i*64*65536))) strSet).arrive 32 (plo ([1,0,0,0] ++ wordsBytes [1, 0x3FF, 0xEF000001, 0, 0, 0, 0, 0]));
   let q : PlReq := plo ([1,0,0,0] ++ wordsBytes [1, 0x3FF, 0xEF000001, 0, 0, 0, 0, 0]); let t := s.wakeFor (P.eth 0);
   let dir := field q.payload 0 1; let j := field q.payload 1 1; let ws := toWords (List.drop 4 q.payload); let i : ℕ := 0;
   decide (plServes s 32 q = true ∧ pageServes s (P.eth 0) true = true ∧ q.payload.length = 36 ∧ (dir ≤ 1) ∧ field q.payload 2 2 = 0 ∧
      (j < 32 ∧ i = j ∧ strOn t dir j = false ∨ j = 255 ∧ freeEntry t dir = some i) ∧ strCheck t dir i ws = Code.full)) ∧
  (let s : State := (strSet).arrive 32 (plo []); let q : PlReq := plo []; let dir := field q.payload 0 1; let j := field q.payload 1 1;
   decide (plServes s 32 q = true ∧ pageServes s (P.eth 0) true = true ∧ (q.payload.length ≠ 36 ∨ 1 < dir ∨ 32 ≤ j ∧ j ≠ 255 ∨
      field q.payload 2 2 ≠ 0))) ∧
  (let s : State := (strSet.wr (P.tx 0) 0x80000000).arrive 32 (plo ([1,0,0,0] ++ wordsBytes [1, 0x3FF, 0xEF000001, 0, 0, 0, 0, 0]));
   let q : PlReq := plo ([1,0,0,0] ++ wordsBytes [1, 0x3FF, 0xEF000001, 0, 0, 0, 0, 0]); let t := s.wakeFor (P.eth 0);
   let dir := field q.payload 0 1; let j := field q.payload 1 1;
   decide (plServes s 32 q = true ∧ pageServes s (P.eth 0) true = true ∧ q.payload.length = 36 ∧ (dir ≤ 1) ∧ field q.payload 2 2 = 0 ∧
      (j < 32) ∧ strOn t dir j = true)) ∧
  (let s : State := (strOnAll).arrive 32 (plo ([1,0xFF,0,0] ++ wordsBytes [0, 0x3FF, 0xEF000001, 0, 0, 0, 0, 0]));
   let q : PlReq := plo ([1,0xFF,0,0] ++ wordsBytes [0, 0x3FF, 0xEF000001, 0, 0, 0, 0, 0]); let t := s.wakeFor (P.eth 0);
   let dir := field q.payload 0 1; let j := field q.payload 1 1; let ws := toWords (List.drop 4 q.payload); let c := strCheck t dir 32 ws;
   decide (plServes s 32 q = true ∧ pageServes s (P.eth 0) true = true ∧ q.payload.length = 36 ∧ (dir ≤ 1) ∧ field q.payload 2 2 = 0 ∧
      j = 255 ∧ freeEntry t dir = none ∧ (c = Code.range ∨ c = Code.state))) ∧
  (let s : State := (strOnAll).arrive 32 (plo ([1,0xFF,0,0] ++ wordsBytes [1, 0x3FF, 0xEF000001, 0, 0, 0, 0, 0]));
   let q : PlReq := plo ([1,0xFF,0,0] ++ wordsBytes [1, 0x3FF, 0xEF000001, 0, 0, 0, 0, 0]); let t := s.wakeFor (P.eth 0);
   let dir := field q.payload 0 1; let j := field q.payload 1 1; let ws := toWords (List.drop 4 q.payload); let c := strCheck t dir 32 ws;
   decide (plServes s 32 q = true ∧ pageServes s (P.eth 0) true = true ∧ q.payload.length = 36 ∧ (dir ≤ 1) ∧ field q.payload 2 2 = 0 ∧
      j = 255 ∧ freeEntry t dir = none ∧ (c ≠ Code.range) ∧ (c ≠ Code.state))) ∧
  (let s : State := (strSet).arrive 33 (plo []); let q : PlReq := plo []; let dir := field q.payload 0 1; let j := field q.payload 1 1;
   decide ((q.payload.length ≠ 4 ∨ 1 < dir ∨ 32 ≤ j ∧ j ≠ 255 ∨ field q.payload 2 2 ≠ 0) ∧ plServes s 33 q = true ∧
      pageServes s (P.eth 0) true = true)) ∧
  (let s : State := (strSet).arrive 34 (plo []); let q : PlReq := plo []; let dir := field q.payload 0 1; let j := field q.payload 1 1;
   decide ((q.payload.length ≠ 4 ∨ 1 < dir ∨ 32 ≤ j ∧ j ≠ 255 ∨ field q.payload 2 2 ≠ 0) ∧ plServes s 34 q = true ∧
      pageServes s (P.eth 0) false = true)) ∧
  (let s : State := (ready.wr (P.rx 0) 0x80000000).arrive 33 (plo [0,0xFF,0,0]); let q : PlReq := plo [0,0xFF,0,0];
   let t := s.wakeFor (P.eth 0); let dir := field q.payload 0 1; let j := field q.payload 1 1;
   let l := List.filter (fun i => strOn t dir i && (j == 255 || i == j)) (List.range 32);
   decide (plServes s 33 q = true ∧ pageServes s (P.eth 0) true = true ∧ q.payload.length = 4 ∧ (dir ≤ 1) ∧ (j < 32 ∨ j = 255) ∧
      field q.payload 2 2 = 0 ∧ (l ≠ []))) ∧
  (let s : State := (ready).arrive 33 (plo [0,0xFF,0,0]); let q : PlReq := plo [0,0xFF,0,0]; let t := s.wakeFor (P.eth 0);
   let dir := field q.payload 0 1; let j := field q.payload 1 1;
   let l := List.filter (fun i => strOn t dir i && (j == 255 || i == j)) (List.range 32);
   decide (plServes s 33 q = true ∧ pageServes s (P.eth 0) true = true ∧ q.payload.length = 4 ∧ (dir ≤ 1) ∧ (j < 32 ∨ j = 255) ∧
      field q.payload 2 2 = 0 ∧ l = [])) ∧
  (let s : State := (ready).arrive 34 (plo [0,31,0,0]); let q : PlReq := plo [0,31,0,0]; let dir := field q.payload 0 1;
   let j := field q.payload 1 1;
   decide (plServes s 34 q = true ∧ pageServes s (P.eth 0) false = true ∧ q.payload.length = 4 ∧ (dir ≤ 1) ∧ field q.payload 2 2 = 0 ∧
      (j < 32))) ∧
  (let s : State := (ready).arrive 34 (plo [0,0xFF,0,0]); let q : PlReq := plo [0,0xFF,0,0]; let dir := field q.payload 0 1;
   let j := field q.payload 1 1;
   decide (plServes s 34 q = true ∧ pageServes s (P.eth 0) false = true ∧ q.payload.length = 4 ∧ (dir ≤ 1) ∧ field q.payload 2 2 = 0 ∧
      j = 255)) := by
  refine ⟨?_, ?_, ?_, ?_, ?_, ?_, ?_, ?_, ?_, ?_, ?_, ?_, ?_, ?_, ?_, ?_, ?_, ?_, ?_, ?_, ?_, ?_, ?_, ?_, ?_⟩ <;> decide +kernel

theorem witness_MicrophonesAreGuardedAndSwitched :
  (let s : State := ready.setF P.pdm (micFld 0) 1; let i : Fin 32 := 0; decide (micChecked s ↑i = true ∧ (micSt s ↑i = 1 ∨
      micSt s ↑i = 3))) ∧
  (let s : State := (((ready.setF P.pdm F.PG_CTRL_EN 1).setF P.pdm F.PDM_CFG_CLK_EN 1).wr (P.pdm + 0x44) 1); let i : Fin 32 := 0;
   decide ((micChecked s ↑i = false ∨ micSt s ↑i = 0 ∨ micSt s ↑i = 2))) ∧
  (let s : State := ready.setF P.pdm (micFld 0) 1; let i : Fin 32 := 0; decide (micChecked s ↑i = true ∧ (micSt s ↑i = 1 ∨
      micSt s ↑i = 2))) ∧
  (let s : State := ready.setF P.pdm (micFld 0) 3; let i : Fin 32 := 0; decide ((micChecked s ↑i = false ∨ micSt s ↑i = 0 ∨
      micSt s ↑i = 3))) ∧
  (let s : State := ready.setF P.pdm (micFld 0) 3; let i : Fin 32 := 0; decide ((2 ≤ micSt s ↑i))) ∧
  (let s : State := ready.setF P.pdm (micFld 0) 1; let i : Fin 32 := 0; decide ((micSt s ↑i < 2))) ∧
  (let s : State := (((ready.setF P.pdm F.PG_CTRL_EN 1).setF P.pdm F.PDM_CFG_CLK_EN 1).wr (P.pdm + 0x44) 1); let g : Fin 4 := 0;
   decide (grpRuns s ↑g = true)) ∧
  (let s : State := ready.setF P.pdm (micFld 0) 1; let g : Fin 4 := 0; decide (grpRuns s ↑g = false)) ∧
  (let s : State := ready.setF P.pdm (micFld 0) 1; let r : Req := .spi; let a := P.pdm + 72; decide (served s r a = true)) ∧
  (let s : State := ready.onPdm fun p => { p with phase := .deferred }; let voice := s.isSet P.sct F.SCT_STAT_VAD;
   decide (s.pdm.phase = PdmPhase.deferred ∧ voice = false)) ∧
  (let s : State := ((ready.setF P.sct F.SCT_STAT_VAD 1).setF P.pdm F.PDM_STAT_DEFER 2000).onPdm fun p => { p with phase := .deferred };
   let voice := s.isSet P.sct F.SCT_STAT_VAD;
   decide (s.pdm.phase = PdmPhase.deferred ∧ voice = true ∧ (2000 ≤ s.getF P.pdm F.PDM_STAT_DEFER))) ∧
  (let s : State := ready.setF P.pdm (micFld 0) 1; let voice := s.isSet P.sct F.SCT_STAT_VAD;
   decide ((s.pdm.phase ≠ PdmPhase.deferred ∨ voice = true ∧ s.getF P.pdm F.PDM_STAT_DEFER < 2000))) ∧
  (let s : State := ready.onPdm fun p => { p with phase := .faded }; decide (s.pdm.phase = PdmPhase.faded)) ∧
  (let s : State := ready.setF P.pdm (micFld 0) 1; decide ((s.pdm.phase ≠ PdmPhase.faded))) ∧
  (let s : State := ready.onPdm fun p => { p with phase := .switching }; decide (s.pdm.phase = PdmPhase.switching ∧ s.pdm.next = none)) ∧
  (let s : State := ready.onPdm fun p => { p with phase := .switching, next := some true };
   decide (s.pdm.phase = PdmPhase.switching ∧ s.pdm.next.isSome = true)) ∧
  (let s : State := ready.setF P.pdm (micFld 0) 1; decide ((s.pdm.phase ≠ PdmPhase.switching))) := by
  refine ⟨?_, ?_, ?_, ?_, ?_, ?_, ?_, ?_, ?_, ?_, ?_, ?_, ?_, ?_, ?_, ?_, ?_⟩ <;> decide +kernel

theorem witness_ScoutCommandsAct :
  (let s : State := (slotLoad 1 (img0.map some)).arrive 40 (plo [2,0,0,0]); let q : PlReq := plo [2,0,0,0]; let t := s.wakeFor P.sct;
   let p := q.payload; let k := field p 1 1; let size := field p 4 4; let slot := beginSlot t k;
   let others := List.foldl (fun x1 x2 => x1 +
      x2) 0 (List.map (fun i => slotBytes (t.slot i)) (List.filter (fun i => slot != some i) (List.range 4)));
   decide (plServes s 40 q = true ∧ pageServes s P.sct true = true ∧ (p.length ≠ 8 ∨ field p 2 2 ≠ 0 ∨ 4 ≤ k ∧ k ≠ 255 ∨ size < 64 ∨
      131072 < others + size))) ∧
  (let s : State := (forEach (List.range 4) (fun i s => s.setF (slotBase i) F.SCT_SLOT_CFG_STATE 2) ready).arrive 40 (plo [0,0xFF,0,0,64,0,0,0]);
   let q : PlReq := plo [0,0xFF,0,0,64,0,0,0]; let t := s.wakeFor P.sct; let p := q.payload; let k := field p 1 1;
      let size := field p 4 4;
   let slot := beginSlot t k;
   let others := List.foldl (fun x1 x2 => x1 +
      x2) 0 (List.map (fun i => slotBytes (t.slot i)) (List.filter (fun i => slot != some i) (List.range 4)));
   decide (plServes s 40 q = true ∧ pageServes s P.sct true = true ∧ (¬(p.length ≠ 8 ∨ field p 2 2 ≠ 0 ∨ 4 ≤ k ∧ k ≠ 255 ∨ size < 64 ∨
      131072 < others + size)) ∧ slot = none)) ∧
  (let s : State := (ready.setF (slotBase 0) F.SCT_SLOT_CFG_STATE 3).arrive 40 (plo [0,0,0,0,64,0,0,0]);
   let q : PlReq := plo [0,0,0,0,64,0,0,0]; let t := s.wakeFor P.sct; let p := q.payload; let k := field p 1 1; let size := field p 4 4;
   let slot := beginSlot t k;
   let others := List.foldl (fun x1 x2 => x1 +
      x2) 0 (List.map (fun i => slotBytes (t.slot i)) (List.filter (fun i => slot != some i) (List.range 4)));
   let j : ℕ := 0;
   decide (plServes s 40 q = true ∧ pageServes s P.sct true = true ∧ (¬(p.length ≠ 8 ∨ field p 2 2 ≠ 0 ∨ 4 ≤ k ∧ k ≠ 255 ∨ size < 64 ∨
      131072 < others + size)) ∧ slot = some j ∧ slotSt t j = 3)) ∧
  (let s : State := (ready.setF (slotBase 1) F.SCT_SLOT_CFG_STATE 1).arrive 40 (plo [0,0,0,0,64,0,0,0]);
   let q : PlReq := plo [0,0,0,0,64,0,0,0]; let t := s.wakeFor P.sct; let p := q.payload; let k := field p 1 1; let size := field p 4 4;
   let slot := beginSlot t k;
   let others := List.foldl (fun x1 x2 => x1 +
      x2) 0 (List.map (fun i => slotBytes (t.slot i)) (List.filter (fun i => slot != some i) (List.range 4)));
   let j : ℕ := 0;
   decide (plServes s 40 q = true ∧ pageServes s P.sct true = true ∧ (¬(p.length ≠ 8 ∨ field p 2 2 ≠ 0 ∨ 4 ≤ k ∧ k ≠ 255 ∨ size < 64 ∨
      131072 < others + size)) ∧ slot = some j ∧ (slotSt t j ≠ 3) ∧ (∃ i : Fin 4, i.val ≠ j ∧ slotSt t i.val = 1))) ∧
  (let s : State := (ready).arrive 40 (plo [0,0,0,0,64,0,0,0]); let q : PlReq := plo [0,0,0,0,64,0,0,0]; let t := s.wakeFor P.sct;
   let p := q.payload; let k := field p 1 1; let size := field p 4 4; let slot := beginSlot t k;
   let others := List.foldl (fun x1 x2 => x1 +
      x2) 0 (List.map (fun i => slotBytes (t.slot i)) (List.filter (fun i => slot != some i) (List.range 4)));
   let j : ℕ := 0;
   decide (plServes s 40 q = true ∧ pageServes s P.sct true = true ∧ (¬(p.length ≠ 8 ∨ field p 2 2 ≠ 0 ∨ 4 ≤ k ∧ k ≠ 255 ∨ size < 64 ∨
      131072 < others + size)) ∧ slot = some j ∧ (slotSt t j ≠ 3) ∧ (∀ i : Fin 4, i.val ≠ j → slotSt t i.val ≠ 1))) ∧
  (let s : State := (slotLoad 1 (List.replicate 64 none)).arrive 40 (plo [1,0,0,0,0,0,0,0,1]); let q : PlReq := plo [1,0,0,0,0,0,0,0,1];
   let t := s.wakeFor P.sct; let p := q.payload; let k := field p 1 1; let l : List (Option Byte) := List.replicate 64 none;
   decide (plServes s 40 q = true ∧ pageServes s P.sct true = true ∧ field p 2 2 = 0 ∧ (k < 4) ∧ (9 ≤ p.length) ∧
      ((List.drop 8 p).length ≤ 236) ∧ (t.slot k).load = some l ∧ (field p 4 4 + (List.drop 8 p).length ≤ l.length))) ∧
  (let s : State := (slotLoad 1 (List.replicate 64 none)).arrive 40 (plo [1,0,0,0,64,0,0,0,5]); let q : PlReq := plo [1,0,0,0,64,0,0,0,5];
   let t := s.wakeFor P.sct; let p := q.payload; let k := field p 1 1; let l : List (Option Byte) := List.replicate 64 none;
   decide (plServes s 40 q = true ∧ pageServes s P.sct true = true ∧ field p 2 2 = 0 ∧ (k < 4) ∧ (9 ≤ p.length) ∧
      ((List.drop 8 p).length ≤ 236) ∧ (t.slot k).load = some l ∧ (l.length < field p 4 4 + (List.drop 8 p).length))) ∧
  (let s : State := (ready).arrive 40 (plo [2,0,0,0]); let q : PlReq := plo [2,0,0,0]; let t := s.wakeFor P.sct; let p := q.payload;
   let k := field p 1 1;
   decide (plServes s 40 q = true ∧ pageServes s P.sct true = true ∧ field p 2 2 = 0 ∧ (k < 4) ∧ p.length = 4 ∧ (t.slot k).load = none)) ∧
  (let s : State := (mic1).arrive 40 (plo [0,0,0,0,0,0,0,0,1,0,0,0]); let q : PlReq := plo [0,0,0,0,0,0,0,0,1,0,0,0];
   let t := s.wakeFor P.sct; let p := q.payload; let k := field p 1 1;
   decide (plServes s 40 q = true ∧ pageServes s P.sct true = true ∧ field p 2 2 = 0 ∧ (k < 4) ∧ (9 ≤ p.length) ∧
      ((List.drop 8 p).length ≤ 236) ∧ (t.slot k).load = none)) ∧
  (let s : State := (slotLoad 1 [some 0]).arrive 40 (plo [2,0,0,0]); let q : PlReq := plo [2,0,0,0]; let t := s.wakeFor P.sct;
   let p := q.payload; let k := field p 1 1; let l : List (Option Byte) := [some 0];
   let c := if (l.any fun x => x.isNone) = true then Code.check else modelCheck (List.filterMap id l);
   decide (plServes s 40 q = true ∧ pageServes s P.sct true = true ∧ field p 2 2 = 0 ∧ (k < 4) ∧ p.length = 4 ∧ (t.slot k).load = some l ∧
      (c ≠ Code.done))) ∧
  (let s : State := (slotLoad 1 (img0.map some)).arrive 40 (plo [2,0,0,0]); let q : PlReq := plo [2,0,0,0]; let t := s.wakeFor P.sct;
   let p := q.payload; let k := field p 1 1;
   decide (plServes s 40 q = true ∧ pageServes s P.sct true = true ∧ field p 2 2 = 0 ∧ (k < 4) ∧ p.length = 4 ∧ (slotSt t k ≠ 3))) ∧
  (let s : State := (slotLoad 3 []).arrive 40 (plo [3,0,0,0]); let q : PlReq := plo [3,0,0,0]; let t := s.wakeFor P.sct;
      let p := q.payload;
   let k := field p 1 1;
   decide (plServes s 40 q = true ∧ pageServes s P.sct true = true ∧ field p 2 2 = 0 ∧ (k < 4) ∧ p.length = 4 ∧ slotSt t k = 3)) ∧
  (let s : State := (slotLoad 1 (img0.map some)).arrive 40 (plo [2,0,0,0]); let q : PlReq := plo [2,0,0,0]; let p := q.payload;
   let k := field p 1 1;
   decide (plServes s 40 q = true ∧ pageServes s P.sct true = true ∧ (p.length < 9 ∨ 236 < (List.drop 8 p).length ∨ field p 2 2 ≠ 0 ∨
      4 ≤ k))) ∧
  (let s : State := (mic1).arrive 40 (plo [0,0,0,0,0,0,0,0,1,0,0,0]); let q : PlReq := plo [0,0,0,0,0,0,0,0,1,0,0,0]; let p := q.payload;
   let k := field p 1 1; decide (plServes s 40 q = true ∧ pageServes s P.sct true = true ∧ (p.length ≠ 4 ∨ field p 2 2 ≠ 0 ∨ 4 ≤ k))) ∧
  (let s : State := slotLoad 1 (img0.map some); let j : Fin 4 := 0; decide ((slotSt s ↑j ≠ 0))) ∧
  (let s : State := mic1; let j : Fin 4 := 0; decide (slotSt s ↑j = 0)) ∧
  (let s : State := slotLoad 1 (img0.map some); let j : Fin 4 := 0; let r : Req := .spi; let v : Word := 0; let a : ℕ := slotBase ↑j +
      128;
   let w := setField v 31 31 1; let u := s.wakeFor a;
   let macs : ℕ := List.foldl (fun x1 x2 => x1 +
      x2) 0 (List.map (fun i => modelMacs (u.slot i).model) (List.filter (fun i => i != ↑j && slotSt u i == 3) (List.range 4)));
   let was : Bool := u.isSet (slotBase ↑j) F.SCT_SLOT_CFG_EN;
   decide (served s r a = true ∧ (getField w 7 0 = 0 ∨ was = false ∧ slotSt u ↑j = 2 ∧ (ringLen u < 16000 +
      160 * (modelWindow (u.slot ↑j).model + 8) ∨ 3500000 < macs + modelMacs (u.slot ↑j).model)))) ∧
  (let s : State := (ready.setSt P.sct 4).wr (P.sct + 0x44) 0x80; let j : Fin 4 := 0; let r : Req := .spi; let v : Word := 0x80#32;
   let a : ℕ := slotBase ↑j + 128; let w := setField v 31 31 1; let u := s.wakeFor a;
   let was : Bool := u.isSet (slotBase ↑j) F.SCT_SLOT_CFG_EN;
   decide (served s r a = true ∧ (getField w 7 0 ≠ 0) ∧ was = false ∧ (slotSt u ↑j ≠ 2))) ∧
  (let s : State := ready.setF (slotBase 0) F.SCT_SLOT_CFG_STATE 2; let j : Fin 4 := 0; let r : Req := .spi; let v : Word := 0x1#32;
   let a : ℕ := slotBase ↑j + 128; let w := setField v 31 31 1; let u := s.wakeFor a;
   let macs : ℕ := List.foldl (fun x1 x2 => x1 +
      x2) 0 (List.map (fun i => modelMacs (u.slot i).model) (List.filter (fun i => i != ↑j && slotSt u i == 3) (List.range 4)));
   let was : Bool := u.isSet (slotBase ↑j) F.SCT_SLOT_CFG_EN;
   decide (served s r a = true ∧ (getField w 7 0 ≠ 0) ∧ was = false ∧ slotSt u ↑j = 2 ∧ (¬(ringLen u < 16000 +
      160 * (modelWindow (u.slot ↑j).model + 8) ∨ 3500000 < macs + modelMacs (u.slot ↑j).model)))) ∧
  (let s : State := ready.setF (slotBase 0) F.SCT_SLOT_CFG_EN 1; let j : Fin 4 := 0; let r : Req := .spi; let v : Word := 1;
   let a : ℕ := slotBase ↑j + 128; let w := setField v 31 31 1; let u := s.wakeFor a;
   let was : Bool := u.isSet (slotBase ↑j) F.SCT_SLOT_CFG_EN; decide (served s r a = true ∧ (getField w 7 0 ≠ 0) ∧ was = true)) ∧
  (let s : State := ready; let r : Req := .spi; let v : Word := 2; let a := P.sct + 64; let w := setField v 0 0 1;
   decide (served s r a = true ∧ (bit w 1 = true ∨ bit w 2 = true))) ∧
  (let s : State := (((ready.setF P.sct F.PG_CTRL_EN 1).setSt P.sct 2).wr (P.sct + 0x44) 0x80); let r : Req := .spi; let v : Word := 0;
   let a := P.sct + 64; let u := s.wakeFor a; let w := setField v 0 0 1;
   decide (served s r a = true ∧ bit w 1 = false ∧ bit w 2 = false ∧ (u.st P.sct = 2 ∧ scoutMics u ≠ [] ∧ u.en P.sct = true))) ∧
  (let s : State := slotLoad 1 (img0.map some); let r : Req := .spi; let v : Word := 0; let a := P.sct + 64; let u := s.wakeFor a;
   let w := setField v 0 0 1;
   decide (served s r a = true ∧ bit w 1 = false ∧ bit w 2 = false ∧ (¬(u.st P.sct = 2 ∧ scoutMics u ≠ [] ∧ u.en P.sct = true)))) ∧
  (let s : State := ready.setF (slotBase 0) F.SCT_SLOT_CFG_STATE 2; let r : Req := .spi; let v : Word := 0x1#32; let a := P.sct + 64;
   let w := setField v 1 1 1; decide (served s r a = true ∧ (bit w 0 = true ∨ bit w 2 = true))) ∧
  (let s : State := ready.setSt P.sct 3; let r : Req := .spi; let v : Word := 0; let a := P.sct + 64; let u := s.wakeFor a;
   let w := setField v 1 1 1; decide (served s r a = true ∧ bit w 0 = false ∧ bit w 2 = false ∧ u.st P.sct = 3)) ∧
  (let s : State := (mic1.setSt P.sct 4).setF P.sct F.SCT_OPEN_LEN_VALUE 1; let r : Req := .spi; let v : Word := 0; let a := P.sct + 64;
   let u := s.wakeFor a; let w := setField v 1 1 1; decide (served s r a = true ∧ bit w 0 = false ∧ bit w 2 = false ∧ u.st P.sct = 4)) ∧
  (let s : State := slotLoad 1 (img0.map some); let r : Req := .spi; let v : Word := 0; let a := P.sct + 64; let u := s.wakeFor a;
   let w := setField v 1 1 1; decide (served s r a = true ∧ bit w 0 = false ∧ bit w 2 = false ∧ (u.st P.sct ≠ 3) ∧ (u.st P.sct ≠ 4))) ∧
  (let s : State := ready.setF (slotBase 0) F.SCT_SLOT_CFG_STATE 2; let r : Req := .spi; let v : Word := 0x1#32; let a := P.sct + 64;
   let w := setField v 2 2 1; decide (served s r a = true ∧ (bit w 0 = true ∨ bit w 1 = true))) ∧
  (let s : State := (mic1.setSt P.sct 4).setF P.sct F.SCT_OPEN_LEN_VALUE 1; let r : Req := .spi; let v : Word := 0; let a := P.sct + 64;
   let u := s.wakeFor a; let w := setField v 2 2 1; decide (served s r a = true ∧ bit w 0 = false ∧ bit w 1 = false ∧ u.st P.sct = 4)) ∧
  (let s : State := slotLoad 1 (img0.map some); let r : Req := .spi; let v : Word := 0; let a := P.sct + 64; let u := s.wakeFor a;
   let w := setField v 2 2 1; decide (served s r a = true ∧ bit w 0 = false ∧ bit w 1 = false ∧ (u.st P.sct ≠ 4))) ∧
  (let s : State := slotLoad 1 (img0.map some); let r : Req := .spi; let v : Word := 0; let a := P.sct + 68; let u := s.wakeFor a;
   decide (served s r a = true ∧ micsOk v = true ∧ (u.st P.sct ≠ 4))) ∧
  (let s : State := (mic1.setSt P.sct 4).setF P.sct F.SCT_OPEN_LEN_VALUE 1; let r : Req := .spi; let v : Word := 0; let a := P.sct + 68;
   let u := s.wakeFor a; decide (served s r a = true ∧ micsOk v = true ∧ u.st P.sct = 4)) ∧
  (let s : State := ready; let r : Req := .spi; let v : Word := 0x8000; let a := P.sct + 68; decide (served s r a = true ∧
      micsOk v = false)) ∧
  (let s : State := ((mic1.setSt P.sct 4).setF P.sct F.SCT_OPEN_LEN_VALUE 1).arrive 41 (plo [0,0,0,0,0,0,0,0,1,0,0,0]);
   let q : PlReq := plo [0,0,0,0,0,0,0,0,1,0,0,0]; let t := s.wakeFor P.sct; let p := q.payload; let m := field p 0 1;
   let off := field p 4 4; let n := field p 8 2;
   decide (plServes s 41 q = true ∧ pageServes s P.sct false = true ∧ p.length = 12 ∧ field p 1 3 = 0 ∧ field p 10 2 = 0 ∧ (1 ≤ n) ∧
      (n ≤ 120) ∧ (m < (scoutMics t).length) ∧ t.st P.sct = 4 ∧ (off + n ≤ t.getF P.sct F.SCT_OPEN_LEN_VALUE))) ∧
  (let s : State := (mic1).arrive 41 (plo [0,0,0,0,0,0,0,0,1,0,0,0]); let q : PlReq := plo [0,0,0,0,0,0,0,0,1,0,0,0];
   let t := s.wakeFor P.sct; let p := q.payload; let m := field p 0 1; let n := field p 8 2;
   decide (plServes s 41 q = true ∧ pageServes s P.sct false = true ∧ p.length = 12 ∧ field p 1 3 = 0 ∧ field p 10 2 = 0 ∧ (1 ≤ n) ∧
      (n ≤ 120) ∧ (m < (scoutMics t).length) ∧ (t.st P.sct ≠ 4))) ∧
  (let s : State := ((ready.setSt P.sct 4).wr (P.sct + 0x44) 0x80).arrive 41 (plo [0,0,0,0,0,0,0,0,1,0,0,0]);
   let q : PlReq := plo [0,0,0,0,0,0,0,0,1,0,0,0]; let t := s.wakeFor P.sct; let p := q.payload; let m := field p 0 1;
   let off := field p 4 4; let n := field p 8 2;
   decide (plServes s 41 q = true ∧ pageServes s P.sct false = true ∧ p.length = 12 ∧ field p 1 3 = 0 ∧ field p 10 2 = 0 ∧ (1 ≤ n) ∧
      (n ≤ 120) ∧ (m < (scoutMics t).length) ∧ t.st P.sct = 4 ∧ (t.getF P.sct F.SCT_OPEN_LEN_VALUE < off + n))) ∧
  (let s : State := (slotLoad 1 (img0.map some)).arrive 41 (plo [2,0,0,0]); let q : PlReq := plo [2,0,0,0]; let t := s.wakeFor P.sct;
   let p := q.payload;
   decide (plServes s 41 q = true ∧ pageServes s P.sct false = true ∧ (p.length ≠ 12 ∨ field p 1 3 ≠ 0 ∨ field p 10 2 ≠ 0 ∨
      field p 8 2 < 1 ∨ 120 < field p 8 2 ∨ (scoutMics t).length ≤ field p 0 1))) := by
  refine ⟨?_, ?_, ?_, ?_, ?_, ?_, ?_, ?_, ?_, ?_, ?_, ?_, ?_, ?_, ?_, ?_, ?_, ?_, ?_, ?_, ?_, ?_, ?_, ?_, ?_, ?_, ?_, ?_, ?_, ?_, ?_, ?_,
      ?_, ?_, ?_, ?_, ?_⟩ <;> decide +kernel

theorem witness_ScoutHearsVoiceAndKnocks :
  (let s : State := heard true 1; decide (sctOn s = true ∧ (160 ≤ s.sct.fresh))) ∧
  (let s : State := bz ⟨0,0,0,0,true,0⟩; decide ((sctOn s = false ∨ s.sct.fresh < 160))) ∧
  (let s : State := heard true 1; let samples := List.map (fun x => x.1) s.sct.mean;
   let w := samples ++ List.replicate (400 - samples.length) 0; let gap := s.sct.mean.any fun x => x.2;
   let lv := Config.voiceDb (List.take 160 w);
   let voiced : Bool := ((scoutMics s).any fun i => micSt s i == 1) && decide (s.sct.floor + ↑(s.getF P.sct F.SCT_VAD_THR) * 2 ^ 63 < lv);
   let f := List.map (fun b => feature (Config.melDb w b) (s.sct.mel.getD b 0)) (List.range 40);
   let u := s.onSct fun x => { x with fresh := x.fresh - 160, frames := List.take 300 ((if gap = true then none else some f) :: x.frames), mel := if voiced = true then x.mel else List.mapIdx (fun b m => follow2s m (Config.melDb w b)) x.mel, floor := if voiced = true then x.floor else follow2s x.floor lv, voiced := if voiced = true then x.voiced + 1 else 0, since := if voiced = true then 0 else x.since + 1 };
   decide (u.isSet P.sct F.SCT_STAT_VAD = true ∧ gap = true)) ∧
  (let s : State := heard false 1; let samples := List.map (fun x => x.1) s.sct.mean;
   let w := samples ++ List.replicate (400 - samples.length) 0; let gap := s.sct.mean.any fun x => x.2;
   let lv := Config.voiceDb (List.take 160 w);
   let voiced : Bool := ((scoutMics s).any fun i => micSt s i == 1) && decide (s.sct.floor + ↑(s.getF P.sct F.SCT_VAD_THR) * 2 ^ 63 < lv);
   let f := List.map (fun b => feature (Config.melDb w b) (s.sct.mel.getD b 0)) (List.range 40);
   let u := s.onSct fun x => { x with fresh := x.fresh - 160, frames := List.take 300 ((if gap = true then none else some f) :: x.frames), mel := if voiced = true then x.mel else List.mapIdx (fun b m => follow2s m (Config.melDb w b)) x.mel, floor := if voiced = true then x.floor else follow2s x.floor lv, voiced := if voiced = true then x.voiced + 1 else 0, since := if voiced = true then 0 else x.since + 1 };
   decide (u.isSet P.sct F.SCT_STAT_VAD = true ∧ gap = false)) ∧
  (let s : State := (heard true 0).setF P.sct F.SCT_VAD_MIN 1; let samples := List.map (fun x => x.1) s.sct.mean;
   let w := samples ++ List.replicate (400 - samples.length) 0; let gap := s.sct.mean.any fun x => x.2;
   let lv := Config.voiceDb (List.take 160 w);
   let voiced : Bool := ((scoutMics s).any fun i => micSt s i == 1) && decide (s.sct.floor + ↑(s.getF P.sct F.SCT_VAD_THR) * 2 ^ 63 < lv);
   let f := List.map (fun b => feature (Config.melDb w b) (s.sct.mel.getD b 0)) (List.range 40);
   let u := s.onSct fun x => { x with fresh := x.fresh - 160, frames := List.take 300 ((if gap = true then none else some f) :: x.frames), mel := if voiced = true then x.mel else List.mapIdx (fun b m => follow2s m (Config.melDb w b)) x.mel, floor := if voiced = true then x.floor else follow2s x.floor lv, voiced := if voiced = true then x.voiced + 1 else 0, since := if voiced = true then 0 else x.since + 1 };
   decide (u.isSet P.sct F.SCT_STAT_VAD = false ∧ (u.sct.voiced < u.getF P.sct F.SCT_VAD_MIN) ∧ gap = true)) ∧
  (let s : State := (heard false 0).setF P.sct F.SCT_VAD_MIN 1; let samples := List.map (fun x => x.1) s.sct.mean;
   let w := samples ++ List.replicate (400 - samples.length) 0; let gap := s.sct.mean.any fun x => x.2;
   let lv := Config.voiceDb (List.take 160 w);
   let voiced : Bool := ((scoutMics s).any fun i => micSt s i == 1) && decide (s.sct.floor + ↑(s.getF P.sct F.SCT_VAD_THR) * 2 ^ 63 < lv);
   let f := List.map (fun b => feature (Config.melDb w b) (s.sct.mel.getD b 0)) (List.range 40);
   let u := s.onSct fun x => { x with fresh := x.fresh - 160, frames := List.take 300 ((if gap = true then none else some f) :: x.frames), mel := if voiced = true then x.mel else List.mapIdx (fun b m => follow2s m (Config.melDb w b)) x.mel, floor := if voiced = true then x.floor else follow2s x.floor lv, voiced := if voiced = true then x.voiced + 1 else 0, since := if voiced = true then 0 else x.since + 1 };
   decide (u.isSet P.sct F.SCT_STAT_VAD = false ∧ (u.sct.voiced < u.getF P.sct F.SCT_VAD_MIN) ∧ gap = false)) ∧
  (let s : State := heard true 0; let samples := List.map (fun x => x.1) s.sct.mean;
   let w := samples ++ List.replicate (400 - samples.length) 0; let gap := s.sct.mean.any fun x => x.2;
   let lv := Config.voiceDb (List.take 160 w);
   let voiced : Bool := ((scoutMics s).any fun i => micSt s i == 1) && decide (s.sct.floor + ↑(s.getF P.sct F.SCT_VAD_THR) * 2 ^ 63 < lv);
   let f := List.map (fun b => feature (Config.melDb w b) (s.sct.mel.getD b 0)) (List.range 40);
   let u := s.onSct fun x => { x with fresh := x.fresh - 160, frames := List.take 300 ((if gap = true then none else some f) :: x.frames), mel := if voiced = true then x.mel else List.mapIdx (fun b m => follow2s m (Config.melDb w b)) x.mel, floor := if voiced = true then x.floor else follow2s x.floor lv, voiced := if voiced = true then x.voiced + 1 else 0, since := if voiced = true then 0 else x.since + 1 };
   decide (u.isSet P.sct F.SCT_STAT_VAD = false ∧ (u.getF P.sct F.SCT_VAD_MIN ≤ u.sct.voiced) ∧ gap = true)) ∧
  (let s : State := heard false 0; let samples := List.map (fun x => x.1) s.sct.mean;
   let w := samples ++ List.replicate (400 - samples.length) 0; let gap := s.sct.mean.any fun x => x.2;
   let lv := Config.voiceDb (List.take 160 w);
   let voiced : Bool := ((scoutMics s).any fun i => micSt s i == 1) && decide (s.sct.floor + ↑(s.getF P.sct F.SCT_VAD_THR) * 2 ^ 63 < lv);
   let f := List.map (fun b => feature (Config.melDb w b) (s.sct.mel.getD b 0)) (List.range 40);
   let u := s.onSct fun x => { x with fresh := x.fresh - 160, frames := List.take 300 ((if gap = true then none else some f) :: x.frames), mel := if voiced = true then x.mel else List.mapIdx (fun b m => follow2s m (Config.melDb w b)) x.mel, floor := if voiced = true then x.floor else follow2s x.floor lv, voiced := if voiced = true then x.voiced + 1 else 0, since := if voiced = true then 0 else x.since + 1 };
   decide (u.isSet P.sct F.SCT_STAT_VAD = false ∧ (u.getF P.sct F.SCT_VAD_MIN ≤ u.sct.voiced) ∧ gap = false ∧ (regsWf s.regs))) ∧
  (let s : State := (vad 0).onSct fun x => { x with since := 5 };
   decide (s.isSet P.sct F.SCT_STAT_VAD = true ∧ (s.getF P.sct F.SCT_VAD_HANG ≤ s.sct.since))) ∧
  (let s : State := heard true 1; decide ((s.isSet P.sct F.SCT_STAT_VAD = false ∨ s.sct.since < s.getF P.sct F.SCT_VAD_HANG))) ∧
  (let s : State := bz ⟨0,0,0,0,true,0⟩; let n : Fin 2 := 0; decide (sctOn s = true ∧ bzOn s ↑n = true)) ∧
  (let s : State := heard true 1; let n : Fin 2 := 0; decide ((sctOn s = false ∨ bzOn s ↑n = false))) ∧
  (let s : State := bz ⟨0,0,-2^75,0,false,100000⟩; let n : Fin 2 := 0; let x : Knock := s.sct.bz.getD (↑n) Knock.reset;
   decide ((x.armed = false ∧ x.lvl < x.floor + knockAt s - 6 * 2 ^ 64 ∧ 160 * s.getF P.sct F.SCT_BZ_THR_DEAD ≤ x.age))) ∧
  (let s : State := heard true 1; let n : Fin 2 := 0; let x : Knock := s.sct.bz.getD (↑n) Knock.reset;
   decide ((¬(x.armed = false ∧ x.lvl < x.floor + knockAt s - 6 * 2 ^ 64 ∧ 160 * s.getF P.sct F.SCT_BZ_THR_DEAD ≤ x.age)))) := by
  refine ⟨?_, ?_, ?_, ?_, ?_, ?_, ?_, ?_, ?_, ?_, ?_, ?_, ?_, ?_⟩ <;> decide +kernel

theorem witness_SealTimeoutErasesTheRing :
  (let s : State := ready; decide ((s.st P.sct ≠ 4 ∨ s.getF P.sct F.SCT_STAT_REMAIN ≠ 0))) ∧
  (let s : State := ready.setSt P.sct 4; decide (s.st P.sct = 4 ∧ s.getF P.sct F.SCT_STAT_REMAIN = 0)) := by
  refine ⟨?_, ?_⟩ <;> decide +kernel

theorem witness_AnalogueInputsFollowTheirCommands :
  (let s : State := ready; let n : Fin 8 := 0; let b : ℕ := ainBase ↑n; let r : Req := .spi; let v : Word := 0xFF; let a := b + 64;
   let e : Instr × Word := (Instr.ainEnable r n v, setField v 31 31 1); let w := e.2;
   decide (served s r a = true ∧ (96 < getField w 6 0 ∨ 80 < getField w 23 16 ∨ bit w 29 = true ∧ bit w 30 = false))) ∧
  (let s : State := ((ain 3).setF (ainBase 7) F.AIN_CFG_MIC 1).setF (ainBase 7) F.AIN_CFG_BIAS_EN 1; let n : Fin 8 := 7;
   let b : ℕ := ainBase ↑n; let r : Req := .spi; let v : Word := 0; let a := b + 64; let t := s.wakeFor a;
   let was := t.isSet b F.AIN_CFG_EN; let e : Instr × Word := (Instr.ainEnable r n v, setField v 31 31 1); let w := e.2;
   decide (served s r a = true ∧ (¬(96 < getField w 6 0 ∨ 80 < getField w 23 16 ∨ bit w 29 = true ∧ bit w 30 = false)) ∧ (was = true ∧
      (bit w 30 ≠ bit (t.rd a) 30 ∨ bit w 29 ≠ bit (t.rd a) 29) ∨ bit w 31 = true ∧ was = false ∧ t.en P.ain = false))) ∧
  (let s : State := ready.setF P.ain F.PG_CTRL_EN 1; let n : Fin 8 := 7; let b : ℕ := ainBase ↑n; let r : Req := .spi; let v : Word := 0;
   let a := b + 64; let t := s.wakeFor a; let was := t.isSet b F.AIN_CFG_EN;
   let e : Instr × Word := (Instr.ainEnable r n v, setField v 31 31 1); let w := e.2;
   decide (served s r a = true ∧ (¬(96 < getField w 6 0 ∨ 80 < getField w 23 16 ∨ bit w 29 = true ∧ bit w 30 = false)) ∧ (¬(was = true ∧
      (bit w 30 ≠ bit (t.rd a) 30 ∨ bit w 29 ≠ bit (t.rd a) 29) ∨ bit w 31 = true ∧ was = false ∧ t.en P.ain = false)))) ∧
  (let s : State := ready.setF P.ain F.PG_CTRL_EN 1; let n : Fin 8 := 7; let st : ℕ := ainSt s ↑n; decide (st = 0)) ∧
  (let s : State := ain 2; let n : Fin 8 := 7; let st : ℕ := ainSt s ↑n; decide ((st ≠ 0) ∧ (st ≠ 5))) ∧
  (let s : State := ain 1; let n : Fin 8 := 7; let st : ℕ := ainSt s ↑n; decide (ainLive s ↑n = true ∧ st = 1)) ∧
  (let s : State := ready.setF P.ain F.PG_CTRL_EN 1; let n : Fin 8 := 7; let st : ℕ := ainSt s ↑n; decide ((ainLive s ↑n = false ∨
      st ≠ 1))) ∧
  (let s : State := (ain 2).setF (ainBase 7) F.AIN_CFG_GAIN 5; let n : Fin 8 := 7; let b : ℕ := ainBase ↑n; let st : ℕ := ainSt s ↑n;
   let cur := s.getF b F.AIN_STAT_GAIN_CUR; let goal := s.getF b F.AIN_CFG_GAIN; decide ((2 ≤ st) ∧ (cur < goal))) ∧
  (let s : State := (ain 2).setF (ainBase 7) F.AIN_STAT_GAIN_CUR 5; let n : Fin 8 := 7; let b : ℕ := ainBase ↑n; let st : ℕ := ainSt s ↑n;
   let cur := s.getF b F.AIN_STAT_GAIN_CUR; let goal := s.getF b F.AIN_CFG_GAIN; decide ((2 ≤ st) ∧ (goal < cur))) ∧
  (let s : State := ready.setF P.ain F.PG_CTRL_EN 1; let n : Fin 8 := 7; let st : ℕ := ainSt s ↑n; decide ((st < 2))) ∧
  (let s : State := ain 2; let n : Fin 8 := 7; let st : ℕ := ainSt s ↑n; decide (ainLive s ↑n = true ∧ st = 2)) ∧
  (let s : State := ready.setF P.ain F.PG_CTRL_EN 1; let n : Fin 8 := 7; let st : ℕ := ainSt s ↑n; decide ((ainLive s ↑n = false ∨
      st ≠ 2))) ∧
  (let s : State := ain 3; let n : Fin 8 := 7; let st : ℕ := ainSt s ↑n; decide (st = 3)) ∧
  (let s : State := ready.setF P.ain F.PG_CTRL_EN 1; let n : Fin 8 := 7; let st : ℕ := ainSt s ↑n; decide ((st ≠ 3))) ∧
  (let s : State := ((ain 3).setF (ainBase 7) F.AIN_CFG_MIC 1).setF (ainBase 7) F.AIN_CFG_BIAS_EN 1; let n : Fin 8 := 7;
   let b : ℕ := ainBase ↑n; let st : ℕ := ainSt s ↑n; let bias : Bool := s.an.biasOn.contains ↑n; let i : Byte := 1;
   decide ((ainLive s ↑n = true ∧ (st = 2 ∨ st = 3 ∨ st = 5 ∧ bias = true) ∧ s.isSet b F.AIN_CFG_MIC = true ∧
      s.isSet b F.AIN_CFG_BIAS_EN = true ∧ BitVec.toNat i < 2))) ∧
  (let s : State := ready.setF P.ain F.PG_CTRL_EN 1; let n : Fin 8 := 7; let b : ℕ := ainBase ↑n; let st : ℕ := ainSt s ↑n;
   let bias : Bool := s.an.biasOn.contains ↑n; let i : Byte := 0;
   decide ((¬(ainLive s ↑n = true ∧ (st = 2 ∨ st = 3 ∨ st = 5 ∧ bias = true) ∧ s.isSet b F.AIN_CFG_MIC = true ∧
      s.isSet b F.AIN_CFG_BIAS_EN = true ∧ BitVec.toNat i < 2)))) ∧
  (let s : State := ainB 2; let n : Fin 8 := 7; let bias : Bool := s.an.biasOn.contains ↑n; let u : State := ainBias s (↑n) false;
   decide (ainLive s ↑n = true ∧ bias = true ∧ (ainSt u ↑n ≠ 5))) ∧
  (let s : State := ainB 5; let n : Fin 8 := 7; let bias : Bool := s.an.biasOn.contains ↑n; let u : State := ainBias s (↑n) false;
   decide (ainLive s ↑n = true ∧ bias = true ∧ ainSt u ↑n = 5)) ∧
  (let s : State := ready.setF P.ain F.PG_CTRL_EN 1; let n : Fin 8 := 7; let bias : Bool := s.an.biasOn.contains ↑n;
   decide ((ainLive s ↑n = false ∨ bias = false))) ∧
  (let s : State := ain 5; let n : Fin 8 := 7; let st : ℕ := ainSt s ↑n; decide (ainLive s ↑n = true ∧ st = 5)) ∧
  (let s : State := ready.setF P.ain F.PG_CTRL_EN 1; let n : Fin 8 := 7; let st : ℕ := ainSt s ↑n; decide ((ainLive s ↑n = false ∨
      st ≠ 5))) ∧
  (let s : State := ainB 5; let n : Fin 8 := 7; let st : ℕ := ainSt s ↑n; let bias : Bool := s.an.biasOn.contains ↑n; let i : Byte := 2;
   decide ((ainLive s ↑n = true ∧ (st = 4 ∨ st = 5) ∧ bias = true ∧ 2 ≤ BitVec.toNat i ∧ BitVec.toNat i ≤ 160))) ∧
  (let s : State := ready.setF P.ain F.PG_CTRL_EN 1; let n : Fin 8 := 7; let st : ℕ := ainSt s ↑n;
      let bias : Bool := s.an.biasOn.contains ↑n;
   let i : Byte := 0; decide ((¬(ainLive s ↑n = true ∧ (st = 4 ∨ st = 5) ∧ bias = true ∧ 2 ≤ BitVec.toNat i ∧ BitVec.toNat i ≤ 160)))) ∧
  (let s : State := ready.setF P.ain F.PG_CTRL_EN 1; let n : Fin 8 := 7; let stop : Bool := s.an.ainStop.contains ↑n;
      decide (stop = false)) ∧
  (let s : State := ready.onAn fun a => { a with ainStop := [7] }; let n : Fin 8 := 7; let b : ℕ := ainBase ↑n;
   let stop : Bool := s.an.ainStop.contains ↑n;
   let u : State := ((ainBias s (↑n) false).onAn fun a => { a with ainStop := List.filter (fun x => x != ↑n) a.ainStop }).setF b F.AIN_STAT_STATE 0;
   decide (stop = true ∧ (¬(u.isSet b F.AIN_CFG_EN = true ∧ u.en P.ain = true ∧ u.sys.pwrFailN = true ∧ u.domOn Dom.analog = true ∧
      u.sys.entry = none ∧ u.sys.resetPending = none)))) ∧
  (let s : State := ((((ready.onAn fun a => { a with ainStop := [7] }).setF (ainBase 7) F.AIN_CFG_EN 1).setF P.ain F.PG_CTRL_EN 1)).onSys fun y => { y with pwrFailN := true, entry := none, resetPending := none };
   let n : Fin 8 := 7; let b : ℕ := ainBase ↑n; let stop : Bool := s.an.ainStop.contains ↑n;
   let u : State := ((ainBias s (↑n) false).onAn fun a => { a with ainStop := List.filter (fun x => x != ↑n) a.ainStop }).setF b F.AIN_STAT_STATE 0;
   decide (stop = true ∧ (u.isSet b F.AIN_CFG_EN = true ∧ u.en P.ain = true ∧ u.sys.pwrFailN = true ∧ u.domOn Dom.analog = true ∧
      u.sys.entry = none ∧ u.sys.resetPending = none))) ∧
  (let s : State := ready.setF P.ain F.PG_CTRL_EN 1; decide (s.an.avbias = true)) := by
  refine ⟨?_, ?_, ?_, ?_, ?_, ?_, ?_, ?_, ?_, ?_, ?_, ?_, ?_, ?_, ?_, ?_, ?_, ?_, ?_, ?_, ?_, ?_, ?_, ?_, ?_, ?_, ?_⟩ <;> decide +kernel

theorem witness_LineOutputsFollowTheirCommands :
  (let s : State := ready.onSys fun y => { y with pwrFailN := false }; let n : Fin 8 := 0; let b : ℕ := loBase ↑n; let r : Req := .spi;
   let v : Word := 0; let a := b + 64; let t := s.wakeFor a; let was := t.isSet b F.LO_CFG_EN;
   let e : Instr × Word := (Instr.loStart r n v, setField v 31 31 1); let w := e.2;
   decide (served s r a = true ∧ (was = true ∧ bit w 24 ≠ bit (t.rd a) 24 ∨ bit w 31 = true ∧ was = false ∧ t.en P.lo = false))) ∧
  (let s : State := ready.onSys fun y => { y with pwrFailN := false }; let n : Fin 8 := 0; let b : ℕ := loBase ↑n; let r : Req := .spi;
   let v : Word := 0; let a := b + 64; let t := s.wakeFor a; let was := t.isSet b F.LO_CFG_EN;
   let e : Instr × Word := (Instr.loStop r n v, setField v 31 31 0); let w := e.2; let u := t.store a w;
   decide (served s r a = true ∧ (¬(was = true ∧ bit w 24 ≠ bit (t.rd a) 24 ∨ bit w 31 = true ∧ was = false ∧ t.en P.lo = false)) ∧
      u.sys.pwrFailN = false)) ∧
  (let s : State := lob 0 0; let n : Fin 8 := 7; let b : ℕ := loBase ↑n; let r : Req := .spi; let v : Word := 0; let a := b + 64;
   let t := s.wakeFor a; let was := t.isSet b F.LO_CFG_EN; let e : Instr × Word := (Instr.loStart r n v, setField v 31 31 1);
      let w := e.2;
   let u := t.store a w;
   decide (served s r a = true ∧ (¬(was = true ∧ bit w 24 ≠ bit (t.rd a) 24 ∨ bit w 31 = true ∧ was = false ∧ t.en P.lo = false)) ∧
      u.sys.pwrFailN = true)) ∧
  (let s : State := lob 0 0; decide (s.sys.pwrFailN = true ∧ s.stopped = false)) ∧
  (let s : State := lob 1 2; let n : Fin 8 := 7; let st : ℕ := loSt s ↑n; decide ((1 ≤ st) ∧ (st ≤ 4))) ∧
  (let s : State := lob 0 0; let n : Fin 8 := 7; let st : ℕ := loSt s ↑n; decide ((st = 0 ∨ 5 ≤ st))) ∧
  (let s : State := lob 1 2; let n : Fin 8 := 7; let b : ℕ := loBase ↑n; let why : ℕ := loReason s ↑n; let c : ℕ := 0;
   let u : State := (s.setF b F.LO_STAT_REASON (addCause why c)).stopRamp (Ramp.loUnmute ↑n);
   decide (loSt (s.setF b F.LO_STAT_REASON (addCause why c)) ↑n = 2 ∧ loSt u ↑n = 2)) ∧
  (let s : State := ((lob 1 4).setF (loBase 7) F.LO_CFG_MUTE 1).setF (loBase 7) F.LO_STAT_REASON 1; let n : Fin 8 := 7;
   let b : ℕ := loBase ↑n; let why : ℕ := loReason s ↑n; let c : ℕ := 0; let u := s.setF b F.LO_STAT_REASON (dropCause why c);
   decide ((why ≠ 0 ∧ loReason u ↑n = 0 ∧ (loSt u ↑n = 3 ∨ loSt u ↑n = 4)))) ∧
  (let s : State := lob 0 0; let n : Fin 8 := 7; let b : ℕ := loBase ↑n; let why : ℕ := loReason s ↑n; let c : ℕ := 0;
   let u := s.setF b F.LO_STAT_REASON (dropCause why c); decide ((¬(why ≠ 0 ∧ loReason u ↑n = 0 ∧ (loSt u ↑n = 3 ∨ loSt u ↑n = 4))))) ∧
  (let s : State := (lob 1 1).setF (loBase 7) F.LO_STAT_REASON 0; let n : Fin 8 := 7; let b : ℕ := loBase ↑n; let st : ℕ := loSt s ↑n;
   let u : State := ((s.setF b F.LO_CTRL_CLR 0).raise P.lo 0).onLo ↑n fun h => { h with cm := 1920 }; decide (st = 1 ∧
      loReason u ↑n = 0)) ∧
  (let s : State := (lob 1 1).setF (loBase 7) F.LO_STAT_REASON 1; let n : Fin 8 := 7; let b : ℕ := loBase ↑n; let st : ℕ := loSt s ↑n;
   let u : State := ((s.setF b F.LO_CTRL_CLR 0).raise P.lo 0).onLo ↑n fun h => { h with cm := 1920 }; decide (st = 1 ∧
      (loReason u ↑n ≠ 0))) ∧
  (let s : State := lob 0 0; let n : Fin 8 := 7; let st : ℕ := loSt s ↑n; decide ((st ≠ 1))) ∧
  (let s : State := (lob 1 5).setF P.lo F.PG_CTRL_EN 0; let n : Fin 8 := 7; let st : ℕ := loSt s ↑n; decide (st = 5)) ∧
  (let s : State := lob 0 0; let n : Fin 8 := 7; let st : ℕ := loSt s ↑n; decide ((st ≠ 5))) ∧
  (let s : State := (lob 1 3).setF (loBase 7) F.LO_STAT_REASON 1; let n : Fin 8 := 7; let st : ℕ := loSt s ↑n;
      let why : ℕ := loReason s ↑n;
   decide (st = 3 ∧ (why ≠ 0))) ∧
  (let s : State := lob 0 0; let n : Fin 8 := 7; let st : ℕ := loSt s ↑n; let why : ℕ := loReason s ↑n; decide ((st ≠ 3 ∨ why = 0))) ∧
  (let s : State := lob 1 2; let n : Fin 8 := 7; let st : ℕ := loSt s ↑n; decide ((1 ≤ st) ∧ (st ≤ 5))) ∧
  (let s : State := lob 0 0; let n : Fin 8 := 7; let st : ℕ := loSt s ↑n; decide ((st = 0 ∨ 6 ≤ st))) ∧
  (let s : State := lob 0 0; let n : Fin 8 := 7; let b : ℕ := loBase ↑n; let r : Req := .spi; let a := b + 68; let t := s.wakeFor a;
   decide (served s r a = true ∧ (loSt t ↑n ≠ 6 ∨ t.isSet b F.LO_CFG_EN = true ∧ t.en P.lo = false))) ∧
  (let s : State := lob 1 6; let n : Fin 8 := 7; let b : ℕ := loBase ↑n; let r : Req := .spi; let a := b + 68; let t := s.wakeFor a;
   let u := loFault (t.setF b F.LO_STAT_STATE 0);
   decide (served s r a = true ∧ (¬(loSt t ↑n ≠ 6 ∨ t.isSet b F.LO_CFG_EN = true ∧ t.en P.lo = false)) ∧ u.isSet b F.LO_CFG_EN = true)) ∧
  (let s : State := lob 0 6; let n : Fin 8 := 7; let b : ℕ := loBase ↑n; let r : Req := .spi; let a := b + 68; let t := s.wakeFor a;
   let u := loFault (t.setF b F.LO_STAT_STATE 0);
   decide (served s r a = true ∧ (¬(loSt t ↑n ≠ 6 ∨ t.isSet b F.LO_CFG_EN = true ∧ t.en P.lo = false)) ∧
      u.isSet b F.LO_CFG_EN = false)) := by
  refine ⟨?_, ?_, ?_, ?_, ?_, ?_, ?_, ?_, ?_, ?_, ?_, ?_, ?_, ?_, ?_, ?_, ?_, ?_, ?_, ?_, ?_⟩ <;> decide +kernel

theorem witness_HeadsetsFollowTheirCommands :
  (let s : State := ready; let n : Fin 4 := 0; let b : ℕ := hsBase ↑n; let r : Req := .spi; let v : Word := 0x0F000000; let a := b + 64;
   let e : Instr × Word := (Instr.hsEnable r n v, setField v 31 31 1); let w := e.2;
   decide (served s r a = true ∧ (8 < getField w 27 24 ∨ 72 < getField w 22 16))) ∧
  (let s : State := ready.onSys fun y => { y with pwrFailN := false }; let n : Fin 4 := 0; let b : ℕ := hsBase ↑n; let r : Req := .spi;
   let v : Word := 0; let a := b + 64; let t := s.wakeFor a; let was := t.isSet b F.HS_CFG_EN;
   let e : Instr × Word := (Instr.hsEnable r n v, setField v 31 31 1); let w := e.2;
   decide (served s r a = true ∧ (¬(8 < getField w 27 24 ∨ 72 < getField w 22 16)) ∧ (was = true ∧ bit w 28 ≠ bit (t.rd a) 28 ∨
      bit w 31 = true ∧ was = false ∧ t.en P.hs = false))) ∧
  (let s : State := ready.onSys fun y => { y with pwrFailN := false }; let n : Fin 4 := 0; let b : ℕ := hsBase ↑n; let r : Req := .spi;
   let v : Word := 0; let a := b + 64; let t := s.wakeFor a; let was := t.isSet b F.HS_CFG_EN;
   let e : Instr × Word := (Instr.hsDisable r n v, setField v 31 31 0); let w := e.2; let u := t.store a w;
   decide (served s r a = true ∧ (¬(8 < getField w 27 24 ∨ 72 < getField w 22 16)) ∧ (¬(was = true ∧ bit w 28 ≠ bit (t.rd a) 28 ∨
      bit w 31 = true ∧ was = false ∧ t.en P.hs = false)) ∧ u.sys.pwrFailN = false)) ∧
  (let s : State := hss 0 0; let n : Fin 4 := 3; let b : ℕ := hsBase ↑n; let r : Req := .spi; let v : Word := 0; let a := b + 64;
   let t := s.wakeFor a; let was := t.isSet b F.HS_CFG_EN; let e : Instr × Word := (Instr.hsEnable r n v, setField v 31 31 1);
      let w := e.2;
   let u := t.store a w;
   decide (served s r a = true ∧ (¬(8 < getField w 27 24 ∨ 72 < getField w 22 16)) ∧ (¬(was = true ∧ bit w 28 ≠ bit (t.rd a) 28 ∨
      bit w 31 = true ∧ was = false ∧ t.en P.hs = false)) ∧ u.sys.pwrFailN = true)) ∧
  (let s : State := hss 1 1; let n : Fin 4 := 3; let level : Bool := false;
   let t : State := s.onAn fun a => { a with det := modifyAt (fun x => level) (↑n) a.det };
   decide ((t.domOn Dom.analog = true ∧ hsSt t ↑n = 1 ∧ plugged t ↑n = true ∧ (alGet t.an.ramps (Ramp.hsGone ↑n)).isNone = true))) ∧
  (let s : State := hss 0 0; let n : Fin 4 := 3; let level : Bool := false;
   let t : State := s.onAn fun a => { a with det := modifyAt (fun x => level) (↑n) a.det };
   decide ((¬(t.domOn Dom.analog = true ∧ hsSt t ↑n = 1 ∧ plugged t ↑n = true ∧ (alGet t.an.ramps (Ramp.hsGone ↑n)).isNone = true)))) ∧
  (let s : State := plug false (hss 1 2); let n : Fin 4 := 3; let st : ℕ := hsSt s ↑n; let on := s.domOn Dom.analog;
   decide (on = true ∧ st = 2 ∧ plugged s ↑n = true)) ∧
  (let s : State := hss 0 0; let n : Fin 4 := 3; let st : ℕ := hsSt s ↑n; let on := s.domOn Dom.analog;
   decide ((on = false ∨ st ≠ 2 ∨ plugged s ↑n = false))) ∧
  (let s : State := hss 1 3; let n : Fin 4 := 3; let st : ℕ := hsSt s ↑n; let on := s.domOn Dom.analog; let zl : BitVec 16 := 32;
   let zr : BitVec 16 := 32; let f : BitVec 16 := 0; let z := min zl.toNat zr.toNat;
   let c := if z < 8 then 4 else if 1000 < z then 3 else if 35 * 65536 ≤ 1000 * f.toNat ∧ 100 * f.toNat ≤ 95 * 65536 then 2 else 1;
   decide (on = true ∧ st = 3 ∧ (c ≠ 4))) ∧
  (let s : State := hss 1 3; let n : Fin 4 := 3; let st : ℕ := hsSt s ↑n; let on := s.domOn Dom.analog; let zl : BitVec 16 := 7;
   let zr : BitVec 16 := 32; let f : BitVec 16 := 0; let z := min zl.toNat zr.toNat;
   let c := if z < 8 then 4 else if 1000 < z then 3 else if 35 * 65536 ≤ 1000 * f.toNat ∧ 100 * f.toNat ≤ 95 * 65536 then 2 else 1;
   decide (on = true ∧ st = 3 ∧ c = 4)) ∧
  (let s : State := hss 0 0; let n : Fin 4 := 3; let st : ℕ := hsSt s ↑n; let on := s.domOn Dom.analog; decide ((on = false ∨ st ≠ 3))) ∧
  (let s : State := (hss 1 4).setF (hsBase 3) F.HS_CFG_OUTMUTE 1; let n : Fin 4 := 3; let st : ℕ := hsSt s ↑n;
      let on := s.domOn Dom.analog;
   decide ((on = true ∧ 2 ≤ st ∧ st ≤ 5 ∧ plugged s ↑n = false) ∧ (4 ≤ st))) ∧
  (let s : State := plug true (hss 1 2); let n : Fin 4 := 3; let st : ℕ := hsSt s ↑n; let on := s.domOn Dom.analog;
   decide ((on = true ∧ 2 ≤ st ∧ st ≤ 5 ∧ plugged s ↑n = false) ∧ (st < 4))) ∧
  (let s : State := hss 0 0; let n : Fin 4 := 3; let st : ℕ := hsSt s ↑n; let on := s.domOn Dom.analog;
   decide ((¬(on = true ∧ 2 ≤ st ∧ st ≤ 5 ∧ plugged s ↑n = false)))) ∧
  (let s : State := (hss 1 4).setF (hsBase 3) F.HS_CFG_OUTMUTE 1; let n : Fin 4 := 3; let b : ℕ := hsBase ↑n; let st : ℕ := hsSt s ↑n;
   let on := s.domOn Dom.analog;
   let m : State := ((((micOff s ↑n).stopRamp (Ramp.earUp ↑n)).stopRamp (Ramp.earMute ↑n)).stopRamp (Ramp.earOff ↑n)).onHs ↑n fun h => { h with ear := Fader.at 0 };
   let t := hsFault ((m.setF b F.HS_JACK_STATE 5).setF b F.HS_STAT_OUT 0);
   let u : State := (sideTones ((t.raise P.hs 24).err P.hs)).log 67 3 23 0 [BitVec.ofNat 8 ↑n];
   decide ((on = true ∧ (st = 4 ∨ 2 ≤ earSt s ↑n)) ∧ u.isSet b F.HS_CFG_EN = true)) ∧
  (let s : State := (hss 0 4); let n : Fin 4 := 3; let b : ℕ := hsBase ↑n; let st : ℕ := hsSt s ↑n; let on := s.domOn Dom.analog;
   let m : State := ((((micOff s ↑n).stopRamp (Ramp.earUp ↑n)).stopRamp (Ramp.earMute ↑n)).stopRamp (Ramp.earOff ↑n)).onHs ↑n fun h => { h with ear := Fader.at 0 };
   let t := hsFault ((m.setF b F.HS_JACK_STATE 5).setF b F.HS_STAT_OUT 0);
   let u : State := (sideTones ((t.raise P.hs 24).err P.hs)).log 67 3 23 0 [BitVec.ofNat 8 ↑n];
   decide ((on = true ∧ (st = 4 ∨ 2 ≤ earSt s ↑n)) ∧ u.isSet b F.HS_CFG_EN = false)) ∧
  (let s : State := hss 0 0; let n : Fin 4 := 3; let st : ℕ := hsSt s ↑n; let on := s.domOn Dom.analog;
   decide ((¬(on = true ∧ (st = 4 ∨ 2 ≤ earSt s ↑n))))) ∧
  (let s : State := plug false mic4; let n : Fin 4 := 3; let b : ℕ := hsBase ↑n; let st : ℕ := hsSt s ↑n; let on := s.domOn Dom.analog;
   let f : BitVec 16 := 0; decide ((on = true ∧ st = 4 ∧ s.getF b F.HS_JACK_CLASS = 2) ∧ (100 * f.toNat < 43 * 65536))) ∧
  (let s : State := hss 0 0; let n : Fin 4 := 3; let b : ℕ := hsBase ↑n; let st : ℕ := hsSt s ↑n; let on := s.domOn Dom.analog;
   decide ((¬(on = true ∧ st = 4 ∧ s.getF b F.HS_JACK_CLASS = 2)))) ∧
  (let s : State := plug false mic4; let n : Fin 4 := 3; let b : ℕ := hsBase ↑n; let st : ℕ := hsSt s ↑n; let on := s.domOn Dom.analog;
   let f : BitVec 16 := 0; let k : ℕ := 0;
   decide ((on = true ∧ st = 4 ∧ s.getF b F.HS_JACK_CLASS = 2) ∧ plugged s ↑n = true ∧ buttonOf f.toNat = some k ∧
      (s.getF b F.HS_JACK_BTN ≠ 2 ^ k))) ∧
  (let s : State := (plug false mic4).setF (hsBase 3) F.HS_JACK_BTN 1; let n : Fin 4 := 3; let b : ℕ := hsBase ↑n;
      let st : ℕ := hsSt s ↑n;
   let on := s.domOn Dom.analog; let f : BitVec 16 := 0; let k : ℕ := 0;
   decide ((on = true ∧ st = 4 ∧ s.getF b F.HS_JACK_CLASS = 2) ∧ plugged s ↑n = true ∧ buttonOf f.toNat = some k ∧
      s.getF b F.HS_JACK_BTN = 2 ^ k)) ∧
  (let s : State := (plug false mic4).setF (hsBase 3) F.HS_JACK_BTN 1; let n : Fin 4 := 3; let b : ℕ := hsBase ↑n;
      let st : ℕ := hsSt s ↑n;
   let on := s.domOn Dom.analog; let f : BitVec 16 := 65535;
   decide ((on = true ∧ st = 4 ∧ s.getF b F.HS_JACK_CLASS = 2) ∧ plugged s ↑n = true ∧ (43 * 65536 ≤ 100 * f.toNat))) ∧
  (let s : State := hss 0 0; let n : Fin 4 := 3; let b : ℕ := hsBase ↑n; let st : ℕ := hsSt s ↑n; let on := s.domOn Dom.analog;
   decide ((¬(on = true ∧ st = 4 ∧ s.getF b F.HS_JACK_CLASS = 2) ∨ plugged s ↑n = false))) := by
  refine ⟨?_, ?_, ?_, ?_, ?_, ?_, ?_, ?_, ?_, ?_, ?_, ?_, ?_, ?_, ?_, ?_, ?_, ?_, ?_, ?_, ?_, ?_, ?_⟩ <;> decide +kernel

theorem witness_SpeakerChannelsObeyTheHost :
  (let s : State := (amp 0 2).setF (P.bst 3) F.BST_PVIN_PV_OK 1; let r : Req := .spi; let n : Fin 8 := 7; let v : Word := 0;
   let b : ℕ := P.amp ↑n; let a := b + 68; let t := s.wakeFor a; let was := t.isSet b F.AMP_CTRL_EN;
   let e : Instr × Word := (Instr.ampClr r n v, setField v 2 2 1); let w := e.2;
   decide (served s r a = true ∧ (bit w 2 = true ∧ t.st b ≠ 10 ∨ bit w 0 = true ∧ was = false ∧ (t.en b = false ∨
      t.en (P.bst (↑n / 2)) = false)))) ∧
  (let s : State := pwrLow (amp 1 2); let r : Req := .spi; let n : Fin 8 := 7; let v : Word := 0; let b : ℕ := P.amp ↑n; let a := b + 68;
   let t := s.wakeFor a; let was := t.isSet b F.AMP_CTRL_EN; let e : Instr × Word := (Instr.ampStart r n v, setField v 0 0 1);
      let w := e.2;
   let u := t.store a w;
   decide (served s r a = true ∧ (¬(bit w 2 = true ∧ t.st b ≠ 10 ∨ bit w 0 = true ∧ was = false ∧ (t.en b = false ∨
      t.en (P.bst (↑n / 2)) = false))) ∧ u.sys.pwrFailN = false ∧ bit w 2 = false)) ∧
  (let s : State := (amp 0 2).setF (P.bst 3) F.BST_PVIN_PV_OK 1; let r : Req := .spi; let n : Fin 8 := 7; let v : Word := 0;
   let b : ℕ := P.amp ↑n; let a := b + 68; let t := s.wakeFor a; let was := t.isSet b F.AMP_CTRL_EN;
   let e : Instr × Word := (Instr.ampStart r n v, setField v 0 0 1); let w := e.2; let u := t.store a w;
   decide (served s r a = true ∧ (¬(bit w 2 = true ∧ t.st b ≠ 10 ∨ bit w 0 = true ∧ was = false ∧ (t.en b = false ∨
      t.en (P.bst (↑n / 2)) = false))) ∧ (u.sys.pwrFailN = true ∨ bit w 2 = true))) ∧
  (let s : State := (amp 0 2).setF (P.bst 3) F.BST_PVIN_PV_OK 1; let n : ℕ := 7;
   let d := (s.stopRamp (Ramp.ampUnmute n)).onAmp n fun h => { h with senseOpen := false, age := 0, cm := 0, gain := Fader.at 0, loop := AmpLoop.reset };
   decide (d.sys.pwrFailN = true ∧ ampCause d n = 0)) ∧
  (let s : State := amp 1 4; let n : ℕ := 7;
   let d := (s.stopRamp (Ramp.ampUnmute n)).onAmp n fun h => { h with senseOpen := false, age := 0, cm := 0, gain := Fader.at 0, loop := AmpLoop.reset };
   decide (d.sys.pwrFailN = true ∧ (ampCause d n ≠ 0))) ∧
  (let s : State := pwrLow (amp 1 2); let n : ℕ := 7;
   let d := (s.stopRamp (Ramp.ampUnmute n)).onAmp n fun h => { h with senseOpen := false, age := 0, cm := 0, gain := Fader.at 0, loop := AmpLoop.reset };
   decide (d.sys.pwrFailN = false)) ∧
  (let s : State := amp 1 4; let n : ℕ := 7; decide (ampOn s n = true)) ∧
  (let s : State := amp 0 8; let n : ℕ := 7; let b := P.amp n; decide ((s.st b = 8 ∨ s.st b = 9))) ∧
  (let s : State := (amp 0 2).setF (P.bst 3) F.BST_PVIN_PV_OK 1; let n : ℕ := 7; let b := P.amp n;
   decide (ampOn s n = false ∧ (s.st b ≠ 8) ∧ (s.st b ≠ 9))) ∧
  (let s : State := amp 1 4; let n : ℕ := 7; let c : ℕ := 0; let b := P.amp n;
   let u := (s.setF b F.AMP_STAT_MUTE (addCause (ampMutes s n) c)).stopRamp (Ramp.ampUnmute n);
   let going := (alGet s.an.ramps (Ramp.ampUnmute n)).isSome; decide ((u.st b = 4 ∨ going = true ∧ u.st b = 6))) ∧
  (let s : State := amp 1 3; let n : ℕ := 7; let c : ℕ := 0; let b := P.amp n;
   let u := (s.setF b F.AMP_STAT_MUTE (addCause (ampMutes s n) c)).stopRamp (Ramp.ampUnmute n); decide (u.st b = 3)) ∧
  (let s : State := (amp 0 2).setF (P.bst 3) F.BST_PVIN_PV_OK 1; let n : ℕ := 7; let c : ℕ := 0; let b := P.amp n;
   let u := (s.setF b F.AMP_STAT_MUTE (addCause (ampMutes s n) c)).stopRamp (Ramp.ampUnmute n);
   let going := (alGet s.an.ramps (Ramp.ampUnmute n)).isSome; decide ((u.st b ≠ 3) ∧ (u.st b ≠ 4) ∧ (¬(going = true ∧ u.st b = 6)))) ∧
  (let s : State := ((amp 1 6).setF (P.amp 7) F.AMP_CTRL_MUTE 1).setF (P.amp 7) F.AMP_STAT_MUTE 1; let n : ℕ := 7; let c : ℕ := 0;
   let b := P.amp n; let u := s.setF b F.AMP_STAT_MUTE (dropCause (ampMutes s n) c);
   decide ((ampMutes s n ≠ 0 ∧ ampMutes u n = 0 ∧ (u.st b = 5 ∨ u.st b = 6)))) ∧
  (let s : State := (amp 0 2).setF (P.bst 3) F.BST_PVIN_PV_OK 1; let n : ℕ := 7; let c : ℕ := 0; let b := P.amp n;
   let u := s.setF b F.AMP_STAT_MUTE (dropCause (ampMutes s n) c);
   decide ((¬(ampMutes s n ≠ 0 ∧ ampMutes u n = 0 ∧ (u.st b = 5 ∨ u.st b = 6))))) ∧
  (let s : State := (amp 0 2).setF (P.bst 3) F.BST_PVIN_PV_OK 1; let n : ℕ := 7; let b := P.amp n;
   let u := (setRetries s n []).setF b F.PG_STAT_FAULT 0; decide (u.isSet b F.AMP_CTRL_EN = false)) ∧
  (let s : State := amp 1 4; let n : ℕ := 7; let b := P.amp n; let u := (setRetries s n []).setF b F.PG_STAT_FAULT 0;
   decide (u.isSet b F.AMP_CTRL_EN = true)) ∧
  (let s : State := ready.setSt (P.bst 3) 7; let r : Req := .spi; let p : Fin 4 := 3; let b : ℕ := P.bst ↑p; let a := b + 84;
   let t := s.wakeFor a; decide (served s r a = true ∧ t.st b = 7)) ∧
  (let s : State := (amp 0 2).setF (P.bst 3) F.BST_PVIN_PV_OK 1; let r : Req := .spi; let p : Fin 4 := 0; let b : ℕ := P.bst ↑p;
   let a := b + 84; let t := s.wakeFor a; decide (served s r a = true ∧ (t.st b ≠ 7))) ∧
  (let s : State := ((amp 0 10).setF (P.amp 7) F.PG_CTRL_LOCK 1).arrive 72 (plo [0x80, 0, 0, 0]); let q : PlReq := plo [0x80, 0, 0, 0];
   let cm := field q.payload 0 1; let bm := field q.payload 1 1; let page := ampClearPage cm bm; let t := s.wakeFor page;
   decide (plServes s 72 q = true ∧ ((∃ n : Fin 8, cm / 2 ^ n.val % 2 = 1 ∧ t.isSet (P.amp n.val) F.PG_CTRL_LOCK = true) ∨ ∃ p : Fin 4,
      bm / 2 ^ p.val % 2 = 1 ∧ t.isSet (P.bst p.val) F.PG_CTRL_LOCK = true))) ∧
  (let s : State := ((amp 0 2).setF (P.bst 3) F.BST_PVIN_PV_OK 1).arrive 72 (plo []); let q : PlReq := plo [];
      let cm := field q.payload 0 1;
   let bm := field q.payload 1 1; let page := ampClearPage cm bm; let t := s.wakeFor page;
   decide (plServes s 72 q = true ∧ (¬((∃ n : Fin 8, cm / 2 ^ n.val % 2 = 1 ∧ t.isSet (P.amp n.val) F.PG_CTRL_LOCK = true) ∨ ∃ p : Fin 4,
      bm / 2 ^ p.val % 2 = 1 ∧ t.isSet (P.bst p.val) F.PG_CTRL_LOCK = true)) ∧ (q.payload.length ≠ 4 ∨ field q.payload 2 2 ≠ 0 ∨
      16 ≤ bm))) ∧
  (let s : State := (amp 0 4).arrive 72 (plo [0x80, 0, 0, 0]); let q : PlReq := plo [0x80, 0, 0, 0]; let cm := field q.payload 0 1;
   let bm := field q.payload 1 1; let page := ampClearPage cm bm; let t := s.wakeFor page;
   let cc := List.filter (fun n => cm / 2 ^ n % 2 == 1 && t.st (P.amp n) == 10) (List.range 8);
   let bc := List.filter (fun p => bm / 2 ^ p % 2 == 1 && t.st (P.bst p) == 7) (List.range 4);
   decide (plServes s 72 q = true ∧ (¬((∃ n : Fin 8, cm / 2 ^ n.val % 2 = 1 ∧ t.isSet (P.amp n.val) F.PG_CTRL_LOCK = true) ∨ ∃ p : Fin 4,
      bm / 2 ^ p.val % 2 = 1 ∧ t.isSet (P.bst p.val) F.PG_CTRL_LOCK = true)) ∧ (¬(q.payload.length ≠ 4 ∨ field q.payload 2 2 ≠ 0 ∨
      16 ≤ bm)) ∧ bc = [] ∧ cc = [])) ∧
  (let s : State := (amp 1 10).arrive 72 (plo [0x80,0,0,0]); let q : PlReq := plo [0x80,0,0,0]; let cm := field q.payload 0 1;
   let bm := field q.payload 1 1; let page := ampClearPage cm bm; let t := s.wakeFor page;
   let cc := List.filter (fun n => cm / 2 ^ n % 2 == 1 && t.st (P.amp n) == 10) (List.range 8);
   let bc := List.filter (fun p => bm / 2 ^ p % 2 == 1 && t.st (P.bst p) == 7) (List.range 4);
   decide (plServes s 72 q = true ∧ (¬((∃ n : Fin 8, cm / 2 ^ n.val % 2 = 1 ∧ t.isSet (P.amp n.val) F.PG_CTRL_LOCK = true) ∨ ∃ p : Fin 4,
      bm / 2 ^ p.val % 2 = 1 ∧ t.isSet (P.bst p.val) F.PG_CTRL_LOCK = true)) ∧ (¬(q.payload.length ≠ 4 ∨ field q.payload 2 2 ≠ 0 ∨
      16 ≤ bm)) ∧ (bc ≠ [] ∨ cc ≠ []))) := by
  refine ⟨?_, ?_, ?_, ?_, ?_, ?_, ?_, ?_, ?_, ?_, ?_, ?_, ?_, ?_, ?_, ?_, ?_, ?_, ?_, ?_, ?_, ?_⟩ <;> decide +kernel

theorem witness_SpeakerChannelsEndTheirRamps :
  (let s : State := ((amp 1 3).setSt (P.bst 3) 4).setF (P.amp 7) F.AMP_STAT_MUTE 0; let n : Fin 8 := 7; let b : ℕ := P.amp ↑n;
   let st := s.st b;
   let t : State := ((s.setF b F.AMP_CTRL_CLR 0).raise b 0).onAmp ↑n fun h => { h with age := 1296, cm := 960, gain := Fader.at (if ampMutes ((s.setF b F.AMP_CTRL_CLR 0).raise b 0) ↑n = 0 then 1 else 0) };
   decide ((st = 3 ∧ railUp s (↑n / 2) = true) ∧ ampMutes t ↑n = 0)) ∧
  (let s : State := ((amp 1 3).setSt (P.bst 3) 4).setF (P.amp 7) F.AMP_STAT_MUTE 1; let n : Fin 8 := 7; let b : ℕ := P.amp ↑n;
   let st := s.st b;
   let t : State := ((s.setF b F.AMP_CTRL_CLR 0).raise b 0).onAmp ↑n fun h => { h with age := 1296, cm := 960, gain := Fader.at (if ampMutes ((s.setF b F.AMP_CTRL_CLR 0).raise b 0) ↑n = 0 then 1 else 0) };
   decide ((st = 3 ∧ railUp s (↑n / 2) = true) ∧ (ampMutes t ↑n ≠ 0))) ∧
  (let s : State := (amp 1 4).onAmp 7 fun h => { h with recover := true }; let n : Fin 8 := 7; let b : ℕ := P.amp ↑n; let st := s.st b;
   decide ((¬(st = 3 ∧ railUp s (↑n / 2) = true)))) ∧
  (let s : State := ((amp 1 3).setSt (P.bst 3) 4).setF (P.amp 7) F.AMP_STAT_MUTE 0; let n : Fin 8 := 7;
      decide ((s.amp ↑n).recover = false)) ∧
  (let s : State := (amp 1 4).onAmp 7 fun h => { h with recover := true }; let n : Fin 8 := 7; decide ((s.amp ↑n).recover = true)) ∧
  (let s : State := ampOk 1 7; let n : Fin 8 := 7; let b : ℕ := P.amp ↑n; let st := s.st b;
   let again : State → Prop := fun x => ampWanted x ↑n = true ∧ x.en (P.bst (↑n / 2)) = true ∧ x.sys.pwrFailN = true ∧
      x.domOn Dom.power = true ∧ x.sys.entry = none ∧ x.sys.resetPending = none;
   let u : State := ampToOff s ↑n; decide ((st = 7 ∧ (s.amp ↑n).fast = false) ∧ (again u))) ∧
  (let s : State := { amp 1 7 with sys := { (amp 1 7).sys with pwrFailN := false } }; let n : Fin 8 := 7; let b : ℕ := P.amp ↑n;
   let st := s.st b;
   let again : State → Prop := fun x => ampWanted x ↑n = true ∧ x.en (P.bst (↑n / 2)) = true ∧ x.sys.pwrFailN = true ∧
      x.domOn Dom.power = true ∧ x.sys.entry = none ∧ x.sys.resetPending = none;
   let u : State := ampToOff s ↑n; decide ((st = 7 ∧ (s.amp ↑n).fast = false) ∧ (¬again u))) ∧
  (let s : State := ((amp 1 3).setSt (P.bst 3) 4).setF (P.amp 7) F.AMP_STAT_MUTE 0; let n : Fin 8 := 7; let b : ℕ := P.amp ↑n;
   let st := s.st b; decide ((¬(st = 7 ∧ (s.amp ↑n).fast = false)))) ∧
  (let s : State := fast 1 .latched; let n : Fin 8 := 7; let b : ℕ := P.amp ↑n; let st := s.st b; let k : AmpAfter := (s.amp ↑n).after;
   decide (st = 7 ∧ (s.amp ↑n).fast = true ∧ k = AmpAfter.latched)) ∧
  (let s : State := fast 1 .retry; let n : Fin 8 := 7; let b : ℕ := P.amp ↑n; let st := s.st b; let k : AmpAfter := (s.amp ↑n).after;
   decide (st = 7 ∧ (s.amp ↑n).fast = true ∧ k = AmpAfter.retry ∧ ampWanted s ↑n = true)) ∧
  (let s : State := (fast 1 .blocked).setF (P.bst 3) F.BST_PVIN_PV_OK 1; let n : Fin 8 := 7; let b : ℕ := P.amp ↑n; let st := s.st b;
   let d : State := (s.stopRamp (Ramp.ampUnmute ↑n)).onAmp ↑n fun h => { h with senseOpen := false, age := 0, cm := 0, gain := Fader.at 0, loop := AmpLoop.reset };
   let t : State := d.onAmp ↑n fun h => { h with fast := false, after := AmpAfter.off }; let k : AmpAfter := (s.amp ↑n).after;
   decide (st = 7 ∧ (s.amp ↑n).fast = true ∧ k = AmpAfter.blocked ∧ ampWanted s ↑n = true ∧ ampCause t ↑n = 0)) ∧
  (let s : State := fast 1 .blocked; let n : Fin 8 := 7; let b : ℕ := P.amp ↑n; let st := s.st b;
   let d : State := (s.stopRamp (Ramp.ampUnmute ↑n)).onAmp ↑n fun h => { h with senseOpen := false, age := 0, cm := 0, gain := Fader.at 0, loop := AmpLoop.reset };
   let t : State := d.onAmp ↑n fun h => { h with fast := false, after := AmpAfter.off }; let k : AmpAfter := (s.amp ↑n).after;
   decide (st = 7 ∧ (s.amp ↑n).fast = true ∧ k = AmpAfter.blocked ∧ ampWanted s ↑n = true ∧ (ampCause t ↑n ≠ 0))) ∧
  (let s : State := fast 0 .retry; let n : Fin 8 := 7; let b : ℕ := P.amp ↑n; let st := s.st b; let k : AmpAfter := (s.amp ↑n).after;
   decide (st = 7 ∧ (s.amp ↑n).fast = true ∧ (k = AmpAfter.retry ∨ k = AmpAfter.blocked) ∧ ampWanted s ↑n = false)) ∧
  (let s : State := (fast 1 .off).setF (P.bst 3) F.BST_PVIN_PV_OK 1; let n : Fin 8 := 7; let b : ℕ := P.amp ↑n; let st := s.st b;
   let again : State → Prop := fun x => ampWanted x ↑n = true ∧ x.en (P.bst (↑n / 2)) = true ∧ x.sys.pwrFailN = true ∧
      x.domOn Dom.power = true ∧ x.sys.entry = none ∧ x.sys.resetPending = none;
   let d : State := (s.stopRamp (Ramp.ampUnmute ↑n)).onAmp ↑n fun h => { h with senseOpen := false, age := 0, cm := 0, gain := Fader.at 0, loop := AmpLoop.reset };
   let t : State := d.onAmp ↑n fun h => { h with fast := false, after := AmpAfter.off }; let k : AmpAfter := (s.amp ↑n).after;
   let u : State := ampToOff t ↑n; decide (st = 7 ∧ (s.amp ↑n).fast = true ∧ k = AmpAfter.off ∧ (again u))) ∧
  (let s : State := { fast 1 .off with sys := { ready.sys with pwrFailN := false } }; let n : Fin 8 := 7; let b : ℕ := P.amp ↑n;
   let st := s.st b;
   let again : State → Prop := fun x => ampWanted x ↑n = true ∧ x.en (P.bst (↑n / 2)) = true ∧ x.sys.pwrFailN = true ∧
      x.domOn Dom.power = true ∧ x.sys.entry = none ∧ x.sys.resetPending = none;
   let d : State := (s.stopRamp (Ramp.ampUnmute ↑n)).onAmp ↑n fun h => { h with senseOpen := false, age := 0, cm := 0, gain := Fader.at 0, loop := AmpLoop.reset };
   let t : State := d.onAmp ↑n fun h => { h with fast := false, after := AmpAfter.off }; let k : AmpAfter := (s.amp ↑n).after;
   let u : State := ampToOff t ↑n; decide (st = 7 ∧ (s.amp ↑n).fast = true ∧ k = AmpAfter.off ∧ (¬again u))) ∧
  (let s : State := ((amp 1 3).setSt (P.bst 3) 4).setF (P.amp 7) F.AMP_STAT_MUTE 0; let n : Fin 8 := 7; let b : ℕ := P.amp ↑n;
   let st := s.st b; decide ((st ≠ 7 ∨ (s.amp ↑n).fast = false))) ∧
  (let s : State := (amp 1 5).setF (P.amp 7) F.AMP_STAT_MUTE 1; let n : Fin 8 := 7; let b : ℕ := P.amp ↑n; let st := s.st b;
   decide (st = 5 ∧ (ampMutes s ↑n ≠ 0))) ∧
  (let s : State := ((amp 1 3).setSt (P.bst 3) 4).setF (P.amp 7) F.AMP_STAT_MUTE 0; let n : Fin 8 := 7; let b : ℕ := P.amp ↑n;
   let st := s.st b; decide ((st ≠ 5 ∨ ampMutes s ↑n = 0))) := by
  refine ⟨?_, ?_, ?_, ?_, ?_, ?_, ?_, ?_, ?_, ?_, ?_, ?_, ?_, ?_, ?_, ?_, ?_, ?_⟩ <;> decide +kernel

theorem witness_SpeakerProtectionActs :
  (let s : State := amp 1 4; let n : Fin 8 := 7; let live : Bool := ampLive s ↑n; decide (live = true ∧ (4800 ≤ (s.amp ↑n).calm))) ∧
  (let s : State := (amp 1 4).onAmp 7 fun h => { h with calm := 5 }; let n : Fin 8 := 7; let live : Bool := ampLive s ↑n;
   decide (live = true ∧ ((s.amp ↑n).calm < 4800))) ∧
  (let s : State := amp 1 8; let n : Fin 8 := 7; let live : Bool := ampLive s ↑n; decide (live = false)) ∧
  (let s : State := (amp 1 4).onAmp 7 fun h => { h with retries := [0, 0, 0] }; let n : Fin 8 := 7; let a : ℕ := P.amp ↑n;
      let kind : ℕ := 0;
   let cls : ℕ := 0; let peak : ℕ := 0; let vp : ℕ := 0; let vn : ℕ := 0;
   let t := (((((s.setF a F.AMP_STAT_LASTFLT kind).setF a F.AMP_STAT_CLASS cls).setF a F.AMP_STAT_BLOCK 0).setF a F.AMP_TRIP_IPK peak).setF a F.AMP_TRIP_VP vp).setF a F.AMP_TRIP_VN vn;
   let e := [BitVec.ofNat 8 kind, BitVec.ofNat 8 cls] ++ leBytes 2 peak ++ [BitVec.ofNat 8 vp, BitVec.ofNat 8 vn];
   let u : State := (((t.bump a F.AMP_TRIP_CNT_COUNT).err a).log 80 3 32 (↑n) e).raise a (if kind = 3 then 28 else 24);
   let x : State := (ampDark u ↑n).onAmp ↑n fun h => { h with fast := false, after := AmpAfter.off, counting := false, due := false };
   let y : State := setRetries x (↑n) (retriesNow x ↑n); decide ((3 ≤ (retriesNow y ↑n).length))) ∧
  (let s : State := amp 1 4; let n : Fin 8 := 7; let a : ℕ := P.amp ↑n; let kind : ℕ := 0; let cls : ℕ := 0; let peak : ℕ := 0;
   let vp : ℕ := 0; let vn : ℕ := 0;
   let t := (((((s.setF a F.AMP_STAT_LASTFLT kind).setF a F.AMP_STAT_CLASS cls).setF a F.AMP_STAT_BLOCK 0).setF a F.AMP_TRIP_IPK peak).setF a F.AMP_TRIP_VP vp).setF a F.AMP_TRIP_VN vn;
   let e := [BitVec.ofNat 8 kind, BitVec.ofNat 8 cls] ++ leBytes 2 peak ++ [BitVec.ofNat 8 vp, BitVec.ofNat 8 vn];
   let u : State := (((t.bump a F.AMP_TRIP_CNT_COUNT).err a).log 80 3 32 (↑n) e).raise a (if kind = 3 then 28 else 24);
   let x : State := (ampDark u ↑n).onAmp ↑n fun h => { h with fast := false, after := AmpAfter.off, counting := false, due := false };
   let y : State := setRetries x (↑n) (retriesNow x ↑n); decide (((retriesNow y ↑n).length < 3) ∧ ampWanted y ↑n = true)) ∧
  (let s : State := ready; let n : Fin 8 := 0; let a : ℕ := P.amp ↑n; let kind : ℕ := 0; let cls : ℕ := 0; let peak : ℕ := 0;
      let vp : ℕ := 0;
   let vn : ℕ := 0;
   let t := (((((s.setF a F.AMP_STAT_LASTFLT kind).setF a F.AMP_STAT_CLASS cls).setF a F.AMP_STAT_BLOCK 0).setF a F.AMP_TRIP_IPK peak).setF a F.AMP_TRIP_VP vp).setF a F.AMP_TRIP_VN vn;
   let e := [BitVec.ofNat 8 kind, BitVec.ofNat 8 cls] ++ leBytes 2 peak ++ [BitVec.ofNat 8 vp, BitVec.ofNat 8 vn];
   let u : State := (((t.bump a F.AMP_TRIP_CNT_COUNT).err a).log 80 3 32 (↑n) e).raise a (if kind = 3 then 28 else 24);
   let x : State := (ampDark u ↑n).onAmp ↑n fun h => { h with fast := false, after := AmpAfter.off, counting := false, due := false };
   let y : State := setRetries x (↑n) (retriesNow x ↑n); decide (((retriesNow y ↑n).length < 3) ∧ ampWanted y ↑n = false)) ∧
  (let s : State := amp 1 8; let n : Fin 8 := 7; let a : ℕ := P.amp ↑n;
   decide ((s.st a = 8 ∧ s.getF a F.AMP_STAT_LASTFLT ≠ 6) ∧ (¬(s.sys.pwrFailN = false ∨ s.an.linkLost = true)))) ∧
  (let s : State := pwrLow (amp 1 8); let n : Fin 8 := 7; let a : ℕ := P.amp ↑n;
   decide ((s.st a = 8 ∧ s.getF a F.AMP_STAT_LASTFLT ≠ 6) ∧ (s.sys.pwrFailN = false ∨ s.an.linkLost = true))) ∧
  (let s : State := amp 1 4; let n : Fin 8 := 7; let a : ℕ := P.amp ↑n; decide ((¬(s.st a = 8 ∧ s.getF a F.AMP_STAT_LASTFLT ≠ 6)))) ∧
  (let s : State := amp 1 4; let n : Fin 8 := 7; let a : ℕ := P.amp ↑n; decide ((ampOn s ↑n = true ∧
      s.isSet a F.AMP_CFG_DCPROT = true))) ∧
  (let s : State := amp 1 8; let n : Fin 8 := 7; let a : ℕ := P.amp ↑n; decide ((¬(ampOn s ↑n = true ∧
      s.isSet a F.AMP_CFG_DCPROT = true)))) ∧
  (let s : State := ((amp 1 4).setF (P.amp 7) F.AMP_CFG_LOOP 1).onAmp 7 fun h => { h with loop := { h.loop with satRun := 48 } };
   let n : Fin 8 := 7; let a : ℕ := P.amp ↑n; let loop : AmpLoop := (s.amp ↑n).loop;
   decide ((ampOn s ↑n = true ∧ s.isSet a F.AMP_CFG_LOOP = true ∧ 48 ≤ loop.satRun ∧ loop.told = false))) ∧
  (let s : State := amp 1 4; let n : Fin 8 := 7; let a : ℕ := P.amp ↑n; let loop : AmpLoop := (s.amp ↑n).loop;
   decide ((¬(ampOn s ↑n = true ∧ s.isSet a F.AMP_CFG_LOOP = true ∧ 48 ≤ loop.satRun ∧ loop.told = false)))) ∧
  (let s : State := ((amp 1 4).setF (P.amp 7) F.AMP_CFG_LOOP 1).onAmp 7 fun h => { h with loop := { h.loop with lowRun := 480 } };
   let n : Fin 8 := 7; let a : ℕ := P.amp ↑n; let loop : AmpLoop := (s.amp ↑n).loop;
   decide ((ampOn s ↑n = true ∧ s.isSet a F.AMP_CFG_LOOP = true ∧ 480 ≤ loop.lowRun ∧ (s.amp ↑n).senseOpen = false))) ∧
  (let s : State := amp 1 4; let n : Fin 8 := 7; let a : ℕ := P.amp ↑n; let loop : AmpLoop := (s.amp ↑n).loop;
   decide ((¬(ampOn s ↑n = true ∧ s.isSet a F.AMP_CFG_LOOP = true ∧ 480 ≤ loop.lowRun ∧ (s.amp ↑n).senseOpen = false)))) ∧
  (let s : State := ((amp 1 4).setF (P.amp 7) F.AMP_CFG_LOOP 1).onAmp 7 fun h => { h with senseOpen := true, loop := { h.loop with agreeRun := 480 } };
   let n : Fin 8 := 7; let loop : AmpLoop := (s.amp ↑n).loop; decide ((480 ≤ loop.agreeRun))) ∧
  (let s : State := amp 1 4; let n : Fin 8 := 7; let loop : AmpLoop := (s.amp ↑n).loop; decide ((loop.agreeRun < 480))) ∧
  (let s : State := (((amp 1 4).setF (P.amp 7) F.AMP_LIMIT_EN 1).setF (P.amp 7) F.AMP_LIMIT_PLIM 10).onAmp 7 fun h => { h with pavg := 50 };
   let n : Fin 8 := 7; let a : ℕ := P.amp ↑n; let pm : ℤ := 50000000;
   let pavg : ℚ := (s.amp ↑n).pavg + (↑pm / 1000000 - (s.amp ↑n).pavg) / (1000 * ↑(s.getF a F.AMP_LIMIT_TAU));
   let plim := s.getF a F.AMP_LIMIT_PLIM; decide ((s.isSet a F.AMP_LIMIT_EN = true ∧ ↑plim / 10 < pavg))) ∧
  (let s : State := amp 1 4; let n : Fin 8 := 7; let a : ℕ := P.amp ↑n; let pm : ℤ := 0;
   let pavg : ℚ := (s.amp ↑n).pavg + (↑pm / 1000000 - (s.amp ↑n).pavg) / (1000 * ↑(s.getF a F.AMP_LIMIT_TAU));
   let plim := s.getF a F.AMP_LIMIT_PLIM; decide ((¬(s.isSet a F.AMP_LIMIT_EN = true ∧ ↑plim / 10 < pavg)) ∧ (pavg < ↑plim * 9 / 100))) ∧
  (let s : State := ((amp 1 4).setF (P.amp 7) F.AMP_LIMIT_PLIM 10).onAmp 7 fun h => { h with pavg := 1 }; let n : Fin 8 := 7;
   let a : ℕ := P.amp ↑n; let pm : ℤ := 1000000;
   let pavg : ℚ := (s.amp ↑n).pavg + (↑pm / 1000000 - (s.amp ↑n).pavg) / (1000 * ↑(s.getF a F.AMP_LIMIT_TAU));
   let plim := s.getF a F.AMP_LIMIT_PLIM; decide ((¬(s.isSet a F.AMP_LIMIT_EN = true ∧ ↑plim / 10 < pavg)) ∧ (¬pavg < ↑plim * 9 / 100))) ∧
  (let ts : List (BitVec 16) := []; let temp := fun k => (ts.getD k 0).toInt;
   let sum := List.foldl (fun x1 x2 => x1 + x2) 0 (List.map temp (List.range 8)); decide (sum % 8 = 0)) ∧
  (let ts : List (BitVec 16) := [1]; let temp := fun k => (ts.getD k 0).toInt;
   let sum := List.foldl (fun x1 x2 => x1 + x2) 0 (List.map temp (List.range 8)); decide ((sum % 8 ≠ 0))) ∧
  (let s : State := amp 1 4; let n : Fin 8 := 7; let a : ℕ := P.amp ↑n; let t : BitVec 16 := 1450;
      let u := s.setS a F.AMP_TEMP_CH t.toInt;
   decide ((ampOn u ↑n = true ∧ 1450 ≤ t.toInt))) ∧
  (let s : State := amp 1 4; let n : Fin 8 := 7; let a : ℕ := P.amp ↑n; let t : BitVec 16 := 0; let u := s.setS a F.AMP_TEMP_CH t.toInt;
   decide ((¬(ampOn u ↑n = true ∧ 1450 ≤ t.toInt)))) ∧
  (let s : State := (amp 1 8).setF (P.amp 7) F.AMP_STAT_LASTFLT 6; let n : Fin 8 := 7; let a : ℕ := P.amp ↑n; let t : BitVec 16 := 1249;
   let u := s.setS a F.AMP_TEMP_CH t.toInt;
   decide ((u.st a = 8 ∧ u.getF a F.AMP_STAT_LASTFLT = 6 ∧ t.toInt < 1250 ∧ u.sys.pwrFailN = true))) ∧
  (let s : State := amp 1 4; let n : Fin 8 := 7; let a : ℕ := P.amp ↑n; let t : BitVec 16 := 0; let u := s.setS a F.AMP_TEMP_CH t.toInt;
   decide ((¬(u.st a = 8 ∧ u.getF a F.AMP_STAT_LASTFLT = 6 ∧ t.toInt < 1250 ∧ u.sys.pwrFailN = true)))) ∧
  (let s : State := ready; let t : ℤ := 1580; decide ((1580 ≤ t) ∧ s.sys.resetPending = none)) ∧
  (let s : State := amp 1 4; let t : ℤ := 0; decide ((t < 1580 ∨ s.sys.resetPending ≠ none))) := by
  refine ⟨?_, ?_, ?_, ?_, ?_, ?_, ?_, ?_, ?_, ?_, ?_, ?_, ?_, ?_, ?_, ?_, ?_, ?_, ?_, ?_, ?_, ?_, ?_, ?_, ?_, ?_, ?_,
      ?_⟩ <;> decide +kernel

theorem witness_BoostsFollowRailAndSupply :
  (let s : State := ready.setSt (P.bst 3) 3; let p : Fin 4 := 3; let b : ℕ := P.bst ↑p; let st := s.st b; decide (st = 3)) ∧
  (let s : State := ready.setSt (P.bst 3) 4; let p : Fin 4 := 3; let b : ℕ := P.bst ↑p; let st := s.st b; decide ((st ≠ 3))) ∧
  (let s : State := ready.setSt (P.bst 3) 4; let p : Fin 4 := 3; decide (railUp s ↑p = true)) ∧
  (let s : State := ready.setSt (P.bst 3) 3; let p : Fin 4 := 3; decide (railUp s ↑p = false)) ∧
  (let s : State := amp 1 4; let n : ℕ := 7; let d := (ampDark s n).onAmp n fun h => { h with fast := false, after := AmpAfter.off };
   decide (ampLive s n = true ∧ ampWanted d n = true)) ∧
  (let s : State := amp 0 4; let n : ℕ := 7; let d := (ampDark s n).onAmp n fun h => { h with fast := false, after := AmpAfter.off };
   decide (ampLive s n = true ∧ ampWanted d n = false)) ∧
  (let s : State := ready.setSt (P.bst 3) 3; let n : ℕ := 0; decide (ampLive s n = false)) ∧
  (let s : State := ampOk 1 9; let n : ℕ := 7; decide (s.st (P.amp n) = 9 ∧ ampCause s n = 0)) ∧
  (let s : State := amp 1 9; let n : ℕ := 7; decide (s.st (P.amp n) = 9 ∧ (ampCause s n ≠ 0))) ∧
  (let s : State := ready.setSt (P.bst 3) 3; let n : ℕ := 0; decide ((s.st (P.amp n) ≠ 9))) ∧
  (let s : State := (ready.setSt (P.bst 3) 5).onBst 3 fun h => { h with held := 1000000 }; let p : Fin 4 := 3; let b : ℕ := P.bst ↑p;
   decide ((48 * s.getF b F.BST_TRACK_HOLD ≤ (s.bst ↑p).held))) ∧
  (let s : State := ready.setSt (P.bst 3) 3; let p : Fin 4 := 3; let b : ℕ := P.bst ↑p;
   decide (((s.bst ↑p).held < 48 * s.getF b F.BST_TRACK_HOLD))) ∧
  (let s : State := ready.setSt (P.bst 3) 5; let p : Fin 4 := 3; let b : ℕ := P.bst ↑p; let st := s.st b; decide (st = 5)) ∧
  (let s : State := ready.setSt (P.bst 3) 3; let p : Fin 4 := 3; let b : ℕ := P.bst ↑p; let st := s.st b; decide ((st ≠ 5))) := by
  refine ⟨?_, ?_, ?_, ?_, ?_, ?_, ?_, ?_, ?_, ?_, ?_, ?_, ?_, ?_⟩ <;> decide +kernel

theorem witness_DataInstructionsWriteTheirResult :
  (let s : State := run; let c : Fin 20 := 0; decide (issues s (↑c) CoreInstr.nop = true)) ∧
  (let s : State := run; let c : Fin 20 := 0; let d : BitVec 5 := 0; let x : BitVec 5 := 0; let y : BitVec 5 := 0;
   decide (issues s (↑c) (CoreInstr.add d x y) = true)) ∧
  (let s : State := run; let c : Fin 20 := 0; let d : BitVec 5 := 0; let x : BitVec 5 := 0; let y : BitVec 5 := 0;
   decide (issues s (↑c) (CoreInstr.sub d x y) = true)) ∧
  (let s : State := run; let c : Fin 20 := 0; let d : BitVec 5 := 0; let x : BitVec 5 := 0; let y : BitVec 5 := 0;
   decide (issues s (↑c) (CoreInstr.adds d x y) = true)) ∧
  (let s : State := run; let c : Fin 20 := 0; let d : BitVec 5 := 0; let x : BitVec 5 := 0; let y : BitVec 5 := 0;
   decide (issues s (↑c) (CoreInstr.subs d x y) = true)) ∧
  (let s : State := run; let c : Fin 20 := 0; let d : BitVec 5 := 0; let x : BitVec 5 := 0; let y : BitVec 5 := 0;
   decide (issues s (↑c) (CoreInstr.and d x y) = true)) ∧
  (let s : State := run; let c : Fin 20 := 0; let d : BitVec 5 := 0; let x : BitVec 5 := 0; let y : BitVec 5 := 0;
   decide (issues s (↑c) (CoreInstr.or d x y) = true)) ∧
  (let s : State := run; let c : Fin 20 := 0; let d : BitVec 5 := 0; let x : BitVec 5 := 0; let y : BitVec 5 := 0;
   decide (issues s (↑c) (CoreInstr.xor d x y) = true)) ∧
  (let s : State := run; let c : Fin 20 := 0; let d : BitVec 5 := 0; let x : BitVec 5 := 0; let n : ShiftBy := .imm 31;
   decide (issues s (↑c) (CoreInstr.shl d x n) = true)) ∧
  (let s : State := run; let c : Fin 20 := 0; let d : BitVec 5 := 0; let x : BitVec 5 := 0; let n : ShiftBy := .imm 31;
   decide (issues s (↑c) (CoreInstr.shr d x n) = true)) ∧
  (let s : State := run; let c : Fin 20 := 0; let d : BitVec 5 := 0; let x : BitVec 5 := 0; let n : ShiftBy := .imm 31;
   decide (issues s (↑c) (CoreInstr.sar d x n) = true)) ∧
  (let s : State := run; let c : Fin 20 := 0; let d : BitVec 5 := 0; let x : BitVec 5 := 0; let n : ShiftBy := .imm 31;
   decide (issues s (↑c) (CoreInstr.shls d x n) = true)) ∧
  (let s : State := run; let c : Fin 20 := 0; let d : BitVec 5 := 0; let x : BitVec 5 := 0; let y : BitVec 5 := 0;
   decide (issues s (↑c) (CoreInstr.min d x y) = true)) ∧
  (let s : State := run; let c : Fin 20 := 0; let d : BitVec 5 := 0; let x : BitVec 5 := 0; let y : BitVec 5 := 0;
   decide (issues s (↑c) (CoreInstr.max d x y) = true)) ∧
  (let s : State := run; let c : Fin 20 := 0; let d : BitVec 5 := 0; let x : BitVec 5 := 0;
      decide (issues s (↑c) (CoreInstr.abs d x) = true)) ∧
  (let s : State := run; let c : Fin 20 := 0; let d : BitVec 5 := 0; let x : BitVec 5 := 0; let y : BitVec 5 := 0;
   decide (issues s (↑c) (CoreInstr.mul d x y) = true)) ∧
  (let s : State := run; let c : Fin 20 := 0; let d : BitVec 5 := 0; let x : BitVec 5 := 0; let imm : BitVec 16 := 0;
   decide (issues s (↑c) (CoreInstr.addi d x imm) = true)) ∧
  (let s : State := run; let c : Fin 20 := 0; let d : BitVec 5 := 0; let x : BitVec 5 := 0; let imm : BitVec 16 := 0;
   decide (issues s (↑c) (CoreInstr.andi d x imm) = true)) ∧
  (let s : State := run; let c : Fin 20 := 0; let d : BitVec 5 := 0; let x : BitVec 5 := 0; let imm : BitVec 16 := 0;
   decide (issues s (↑c) (CoreInstr.ori d x imm) = true)) ∧
  (let s : State := run; let c : Fin 20 := 0; let d : BitVec 5 := 0; let x : BitVec 5 := 0; let imm : BitVec 16 := 0;
   decide (issues s (↑c) (CoreInstr.xori d x imm) = true)) ∧
  (let s : State := run; let c : Fin 20 := 0; let d : BitVec 5 := 0; let imm : BitVec 16 := 0;
   decide (issues s (↑c) (CoreInstr.lui d imm) = true)) ∧
  (let s : State := run; let c : Fin 20 := 0; let d : BitVec 5 := 0; let x : BitVec 5 := 0;
      decide (issues s (↑c) (CoreInstr.exp d x) = true)) ∧
  (let s : State := run; let c : Fin 20 := 0; let d : BitVec 5 := 0; let x : BitVec 5 := 0; let y : BitVec 5 := 0;
   decide (issues s (↑c) (CoreInstr.norm d y x) = true)) := by
  refine ⟨?_, ?_, ?_, ?_, ?_, ?_, ?_, ?_, ?_, ?_, ?_, ?_, ?_, ?_, ?_, ?_, ?_, ?_, ?_, ?_, ?_, ?_, ?_⟩ <;> decide +kernel

theorem witness_AccumulatorInstructionsFollowTheDatapath :
  (let s : State := run; let c : Fin 20 := 0; let d : BitVec 5 := 0; let a : BitVec 3 := 0;
   decide (issues s (↑c) (CoreInstr.expa d a) = true)) ∧
  (let s : State := run; let c : Fin 20 := 0; let d : BitVec 5 := 0; let a : BitVec 3 := 0;
   decide (issues s (↑c) (CoreInstr.norma a d) = true)) ∧
  (let s : State := ready.setSt (P.core 19) 3; let c : Fin 20 := 19; let x : BitVec 5 := 0; let a : BitVec 3 := 0;
   decide (issues s (↑c) (CoreInstr.divs a x) = true)) ∧
  (let s : State := run; let c : Fin 20 := 0; let d : BitVec 5 := 0; let a : BitVec 3 := 0; let rnd : Bool := false;
   decide (issues s (↑c) (CoreInstr.mva d a 0 rnd) = true)) ∧
  (let s : State := run; let c : Fin 20 := 0; let d : BitVec 5 := 0; let a : BitVec 3 := 0; let part : BitVec 2 := 1;
      let rnd : Bool := false;
   decide ((part ≠ 0) ∧ issues s (↑c) (CoreInstr.mva d a part rnd) = true)) ∧
  (let s : State := run; let c : Fin 20 := 0; let x : BitVec 5 := 0; let a : BitVec 3 := 0; let part : BitVec 2 := 1;
   decide (issues s (↑c) (CoreInstr.mvd a x part) = true)) ∧
  (let s : State := run; let c : Fin 20 := 0; let a : BitVec 3 := 0; decide (issues s (↑c) (CoreInstr.accClr a) = true)) ∧
  (let s : State := run; let c : Fin 20 := 0; let a : BitVec 3 := 0; let e : BitVec 3 := 0;
   decide (issues s (↑c) (CoreInstr.accMov a e) = true)) ∧
  (let s : State := run; let c : Fin 20 := 0; let a : BitVec 3 := 0; let e : BitVec 3 := 0;
   decide (issues s (↑c) (CoreInstr.accAdd a e) = true)) ∧
  (let s : State := run; let c : Fin 20 := 0; let a : BitVec 3 := 0; let e : BitVec 3 := 0;
   decide (issues s (↑c) (CoreInstr.accSub a e) = true)) ∧
  (let s : State := run; let c : Fin 20 := 0; let a : BitVec 3 := 0; let e : BitVec 3 := 0;
   decide (issues s (↑c) (CoreInstr.accNeg a e) = true)) ∧
  (let s : State := run; let c : Fin 20 := 0; let a : BitVec 3 := 0; let e : BitVec 3 := 0; let imm : BitVec 8 := 79;
   decide ((-79 ≤ imm.toInt) ∧ (imm.toInt ≤ 79) ∧ issues s (↑c) (CoreInstr.accShift a e imm) = true)) ∧
  (let s : State := run; let c : Fin 20 := 0; let a : BitVec 3 := 0; let e : BitVec 3 := 0; let imm : BitVec 8 := -80;
   decide ((imm.toInt < -79 ∨ 79 < imm.toInt) ∧ issues s (↑c) (CoreInstr.accShift a e imm) = true)) ∧
  (let s : State := runH [24576]; let c : Fin 20 := 0; let m : MacOps := m1; let w : ℕ := accW ↑c; let g : ℕ := grpSize ↑c;
   let acc := fun k n v => { k with a := modifyAt (fun x => (BitVec.ofInt w v).toInt) n k.a, sr := if -2 ^ (w - 1) ≤ v ∧ v < 2 ^ (w - 1) then k.sr else k.sr ||| 1#32 <<< n };
   let mul := fun f swap k => forEach (List.range g) (fun i t => acc t (g * m.aq.toNat + i) (f (k.ac (g * m.aq.toNat +
      i)) (macProduct k g m i (if swap = true then i.xor 1 else i)))) k;
   let k1 : CoreHid := mul (fun old p => old + p) false (s.core ↑c); let f : ℕ := 3;
   decide (issues s (↑c) (CoreInstr.mac m) = true ∧ m.l1 = true ∧ dmRead s (↑c) (agAddrs k1 m.l1u.toNat g 0) = Except.error f)) ∧
  (let s : State := runH [0, 24576]; let c : Fin 20 := 0; let m : MacOps := m1; let w : ℕ := accW ↑c; let g : ℕ := grpSize ↑c;
   let acc := fun k n v => { k with a := modifyAt (fun x => (BitVec.ofInt w v).toInt) n k.a, sr := if -2 ^ (w - 1) ≤ v ∧ v < 2 ^ (w - 1) then k.sr else k.sr ||| 1#32 <<< n };
   let mul := fun f swap k => forEach (List.range g) (fun i t => acc t (g * m.aq.toNat + i) (f (k.ac (g * m.aq.toNat +
      i)) (macProduct k g m i (if swap = true then i.xor 1 else i)))) k;
   let k1 : CoreHid := mul (fun old p => old + p) false (s.core ↑c);
   let k2 : CoreHid := if m.l1 = true then agStep k1 m.l1u.toNat (if m.s1 = true then ↑g else k1.t.getD m.l1u.toNat 0) else k1;
   let w1 : List Word := [0, 0]; let f : ℕ := 3;
   decide (issues s (↑c) (CoreInstr.mac m) = true ∧
      (if m.l1 = true then dmRead s (↑c) (agAddrs k1 m.l1u.toNat g 0) = Except.ok w1 else w1 = []) ∧ m.l2 = true ∧
      dmRead s (↑c) (agAddrs k2 m.l2u.toNat g 0) = Except.error f)) ∧
  (let s : State := run; let c : Fin 20 := 0; let m : MacOps := m0; let w : ℕ := accW ↑c; let g : ℕ := grpSize ↑c;
   let acc := fun k n v => { k with a := modifyAt (fun x => (BitVec.ofInt w v).toInt) n k.a, sr := if -2 ^ (w - 1) ≤ v ∧ v < 2 ^ (w - 1) then k.sr else k.sr ||| 1#32 <<< n };
   let mul := fun f swap k => forEach (List.range g) (fun i t => acc t (g * m.aq.toNat + i) (f (k.ac (g * m.aq.toNat +
      i)) (macProduct k g m i (if swap = true then i.xor 1 else i)))) k;
   let k1 : CoreHid := mul (fun old p => old + p) false (s.core ↑c);
   let k2 : CoreHid := if m.l1 = true then agStep k1 m.l1u.toNat (if m.s1 = true then ↑g else k1.t.getD m.l1u.toNat 0) else k1;
   let w1 : List Word := []; let w2 : List Word := [];
   decide (issues s (↑c) (CoreInstr.mac m) = true ∧
      (if m.l1 = true then dmRead s (↑c) (agAddrs k1 m.l1u.toNat g 0) = Except.ok w1 else w1 = []) ∧
      (if m.l2 = true then dmRead s (↑c) (agAddrs k2 m.l2u.toNat g 0) = Except.ok w2 else w2 = []))) ∧
  (let s : State := runH [24576]; let c : Fin 20 := 0; let m : MacOps := m1; let w : ℕ := accW ↑c; let g : ℕ := grpSize ↑c;
   let acc := fun k n v => { k with a := modifyAt (fun x => (BitVec.ofInt w v).toInt) n k.a, sr := if -2 ^ (w - 1) ≤ v ∧ v < 2 ^ (w - 1) then k.sr else k.sr ||| 1#32 <<< n };
   let mul := fun f swap k => forEach (List.range g) (fun i t => acc t (g * m.aq.toNat + i) (f (k.ac (g * m.aq.toNat +
      i)) (macProduct k g m i (if swap = true then i.xor 1 else i)))) k;
   let k1 : CoreHid := mul (fun old p => old - p) false (s.core ↑c); let f : ℕ := 3;
   decide (issues s (↑c) (CoreInstr.msu m) = true ∧ m.l1 = true ∧ dmRead s (↑c) (agAddrs k1 m.l1u.toNat g 0) = Except.error f)) ∧
  (let s : State := runH [0, 24576]; let c : Fin 20 := 0; let m : MacOps := m1; let w : ℕ := accW ↑c; let g : ℕ := grpSize ↑c;
   let acc := fun k n v => { k with a := modifyAt (fun x => (BitVec.ofInt w v).toInt) n k.a, sr := if -2 ^ (w - 1) ≤ v ∧ v < 2 ^ (w - 1) then k.sr else k.sr ||| 1#32 <<< n };
   let mul := fun f swap k => forEach (List.range g) (fun i t => acc t (g * m.aq.toNat + i) (f (k.ac (g * m.aq.toNat +
      i)) (macProduct k g m i (if swap = true then i.xor 1 else i)))) k;
   let k1 : CoreHid := mul (fun old p => old - p) false (s.core ↑c);
   let k2 : CoreHid := if m.l1 = true then agStep k1 m.l1u.toNat (if m.s1 = true then ↑g else k1.t.getD m.l1u.toNat 0) else k1;
   let w1 : List Word := [0, 0]; let f : ℕ := 3;
   decide (issues s (↑c) (CoreInstr.msu m) = true ∧
      (if m.l1 = true then dmRead s (↑c) (agAddrs k1 m.l1u.toNat g 0) = Except.ok w1 else w1 = []) ∧ m.l2 = true ∧
      dmRead s (↑c) (agAddrs k2 m.l2u.toNat g 0) = Except.error f)) ∧
  (let s : State := run; let c : Fin 20 := 0; let m : MacOps := m0; let w : ℕ := accW ↑c; let g : ℕ := grpSize ↑c;
   let acc := fun k n v => { k with a := modifyAt (fun x => (BitVec.ofInt w v).toInt) n k.a, sr := if -2 ^ (w - 1) ≤ v ∧ v < 2 ^ (w - 1) then k.sr else k.sr ||| 1#32 <<< n };
   let mul := fun f swap k => forEach (List.range g) (fun i t => acc t (g * m.aq.toNat + i) (f (k.ac (g * m.aq.toNat +
      i)) (macProduct k g m i (if swap = true then i.xor 1 else i)))) k;
   let k1 : CoreHid := mul (fun old p => old - p) false (s.core ↑c);
   let k2 : CoreHid := if m.l1 = true then agStep k1 m.l1u.toNat (if m.s1 = true then ↑g else k1.t.getD m.l1u.toNat 0) else k1;
   let w1 : List Word := []; let w2 : List Word := [];
   decide (issues s (↑c) (CoreInstr.msu m) = true ∧
      (if m.l1 = true then dmRead s (↑c) (agAddrs k1 m.l1u.toNat g 0) = Except.ok w1 else w1 = []) ∧
      (if m.l2 = true then dmRead s (↑c) (agAddrs k2 m.l2u.toNat g 0) = Except.ok w2 else w2 = []))) ∧
  (let s : State := runH [24576]; let c : Fin 20 := 0; let m : MacOps := m1; let w : ℕ := accW ↑c; let g : ℕ := grpSize ↑c;
   let acc := fun k n v => { k with a := modifyAt (fun x => (BitVec.ofInt w v).toInt) n k.a, sr := if -2 ^ (w - 1) ≤ v ∧ v < 2 ^ (w - 1) then k.sr else k.sr ||| 1#32 <<< n };
   let mul := fun f swap k => forEach (List.range g) (fun i t => acc t (g * m.aq.toNat + i) (f (k.ac (g * m.aq.toNat +
      i)) (macProduct k g m i (if swap = true then i.xor 1 else i)))) k;
   let k1 : CoreHid := mul (fun x p => p) false (s.core ↑c); let f : ℕ := 3;
   decide (issues s (↑c) (CoreInstr.mpy m) = true ∧ m.l1 = true ∧ dmRead s (↑c) (agAddrs k1 m.l1u.toNat g 0) = Except.error f)) ∧
  (let s : State := runH [0, 24576]; let c : Fin 20 := 0; let m : MacOps := m1; let w : ℕ := accW ↑c; let g : ℕ := grpSize ↑c;
   let acc := fun k n v => { k with a := modifyAt (fun x => (BitVec.ofInt w v).toInt) n k.a, sr := if -2 ^ (w - 1) ≤ v ∧ v < 2 ^ (w - 1) then k.sr else k.sr ||| 1#32 <<< n };
   let mul := fun f swap k => forEach (List.range g) (fun i t => acc t (g * m.aq.toNat + i) (f (k.ac (g * m.aq.toNat +
      i)) (macProduct k g m i (if swap = true then i.xor 1 else i)))) k;
   let k1 : CoreHid := mul (fun x p => p) false (s.core ↑c);
   let k2 : CoreHid := if m.l1 = true then agStep k1 m.l1u.toNat (if m.s1 = true then ↑g else k1.t.getD m.l1u.toNat 0) else k1;
   let w1 : List Word := [0, 0]; let f : ℕ := 3;
   decide (issues s (↑c) (CoreInstr.mpy m) = true ∧
      (if m.l1 = true then dmRead s (↑c) (agAddrs k1 m.l1u.toNat g 0) = Except.ok w1 else w1 = []) ∧ m.l2 = true ∧
      dmRead s (↑c) (agAddrs k2 m.l2u.toNat g 0) = Except.error f)) ∧
  (let s : State := run; let c : Fin 20 := 0; let m : MacOps := m0; let w : ℕ := accW ↑c; let g : ℕ := grpSize ↑c;
   let acc := fun k n v => { k with a := modifyAt (fun x => (BitVec.ofInt w v).toInt) n k.a, sr := if -2 ^ (w - 1) ≤ v ∧ v < 2 ^ (w - 1) then k.sr else k.sr ||| 1#32 <<< n };
   let mul := fun f swap k => forEach (List.range g) (fun i t => acc t (g * m.aq.toNat + i) (f (k.ac (g * m.aq.toNat +
      i)) (macProduct k g m i (if swap = true then i.xor 1 else i)))) k;
   let k1 : CoreHid := mul (fun x p => p) false (s.core ↑c);
   let k2 : CoreHid := if m.l1 = true then agStep k1 m.l1u.toNat (if m.s1 = true then ↑g else k1.t.getD m.l1u.toNat 0) else k1;
   let w1 : List Word := []; let w2 : List Word := [];
   decide (issues s (↑c) (CoreInstr.mpy m) = true ∧
      (if m.l1 = true then dmRead s (↑c) (agAddrs k1 m.l1u.toNat g 0) = Except.ok w1 else w1 = []) ∧
      (if m.l2 = true then dmRead s (↑c) (agAddrs k2 m.l2u.toNat g 0) = Except.ok w2 else w2 = []))) ∧
  (let s : State := runH [24576]; let c : Fin 20 := 0; let m : MacOps := m1; let w : ℕ := accW ↑c; let g : ℕ := grpSize ↑c;
   let acc := fun k n v => { k with a := modifyAt (fun x => (BitVec.ofInt w v).toInt) n k.a, sr := if -2 ^ (w - 1) ≤ v ∧ v < 2 ^ (w - 1) then k.sr else k.sr ||| 1#32 <<< n };
   let mul := fun f swap k => forEach (List.range g) (fun i t => acc t (g * m.aq.toNat + i) (f (k.ac (g * m.aq.toNat +
      i)) (macProduct k g m i (if swap = true then i.xor 1 else i)))) k;
   let k1 : CoreHid := mul (fun old p => old + p) true (s.core ↑c); let f : ℕ := 3;
   decide (issues s (↑c) (CoreInstr.macx m) = true ∧ m.l1 = true ∧ dmRead s (↑c) (agAddrs k1 m.l1u.toNat g 0) = Except.error f)) ∧
  (let s : State := runH [0, 24576]; let c : Fin 20 := 0; let m : MacOps := m1; let w : ℕ := accW ↑c; let g : ℕ := grpSize ↑c;
   let acc := fun k n v => { k with a := modifyAt (fun x => (BitVec.ofInt w v).toInt) n k.a, sr := if -2 ^ (w - 1) ≤ v ∧ v < 2 ^ (w - 1) then k.sr else k.sr ||| 1#32 <<< n };
   let mul := fun f swap k => forEach (List.range g) (fun i t => acc t (g * m.aq.toNat + i) (f (k.ac (g * m.aq.toNat +
      i)) (macProduct k g m i (if swap = true then i.xor 1 else i)))) k;
   let k1 : CoreHid := mul (fun old p => old + p) true (s.core ↑c);
   let k2 : CoreHid := if m.l1 = true then agStep k1 m.l1u.toNat (if m.s1 = true then ↑g else k1.t.getD m.l1u.toNat 0) else k1;
   let w1 : List Word := [0, 0]; let f : ℕ := 3;
   decide (issues s (↑c) (CoreInstr.macx m) = true ∧
      (if m.l1 = true then dmRead s (↑c) (agAddrs k1 m.l1u.toNat g 0) = Except.ok w1 else w1 = []) ∧ m.l2 = true ∧
      dmRead s (↑c) (agAddrs k2 m.l2u.toNat g 0) = Except.error f)) ∧
  (let s : State := run; let c : Fin 20 := 0; let m : MacOps := m0; let w : ℕ := accW ↑c; let g : ℕ := grpSize ↑c;
   let acc := fun k n v => { k with a := modifyAt (fun x => (BitVec.ofInt w v).toInt) n k.a, sr := if -2 ^ (w - 1) ≤ v ∧ v < 2 ^ (w - 1) then k.sr else k.sr ||| 1#32 <<< n };
   let mul := fun f swap k => forEach (List.range g) (fun i t => acc t (g * m.aq.toNat + i) (f (k.ac (g * m.aq.toNat +
      i)) (macProduct k g m i (if swap = true then i.xor 1 else i)))) k;
   let k1 : CoreHid := mul (fun old p => old + p) true (s.core ↑c);
   let k2 : CoreHid := if m.l1 = true then agStep k1 m.l1u.toNat (if m.s1 = true then ↑g else k1.t.getD m.l1u.toNat 0) else k1;
   let w1 : List Word := []; let w2 : List Word := [];
   decide (issues s (↑c) (CoreInstr.macx m) = true ∧
      (if m.l1 = true then dmRead s (↑c) (agAddrs k1 m.l1u.toNat g 0) = Except.ok w1 else w1 = []) ∧
      (if m.l2 = true then dmRead s (↑c) (agAddrs k2 m.l2u.toNat g 0) = Except.ok w2 else w2 = []))) := by
  refine ⟨?_, ?_, ?_, ?_, ?_, ?_, ?_, ?_, ?_, ?_, ?_, ?_, ?_, ?_, ?_, ?_, ?_, ?_, ?_, ?_, ?_, ?_, ?_, ?_, ?_⟩ <;> decide +kernel

theorem witness_MemoryAndFlowInstructionsAct :
  (let s : State := run; let c : Fin 20 := 0; let d : BitVec 5 := 0; let u : BitVec 3 := 0; let m : StepBy := .unit;
   let k : CoreHid := s.core ↑c; let home : CoreHid → ℤ → ℕ := fun k j => agAddr k u.toNat (↑(k.p.getD u.toNat 0)) j; let w : Word := 0;
   decide (issues s (↑c) (CoreInstr.ld d u m) = true ∧ dmRead s ↑c [home k 0] = Except.ok [w])) ∧
  (let s : State := run; let c : Fin 20 := 0; let d : BitVec 5 := 0; let u : BitVec 3 := 0; let off17 : BitVec 17 := 0;
   let tsel : Bool := false; let k : CoreHid := s.core ↑c;
   let home : CoreHid → ℤ → ℕ := fun k j => agAddr k u.toNat (↑(k.p.getD u.toNat 0)) j; let w : Word := 0;
   decide (issues s (↑c) (CoreInstr.ldx d u tsel off17) = true ∧ dmRead s ↑c [home k off17.toInt] = Except.ok [w])) ∧
  (let s : State := run; let c : Fin 20 := 0; let d : BitVec 5 := 0; let u : BitVec 3 := 0; let m : StepBy := .unit;
   let k : CoreHid := s.core ↑c; let g : ℕ := grpSize ↑c;
   let home : CoreHid → ℤ → ℕ := fun k j => agAddr k u.toNat (↑(k.p.getD u.toNat 0)) j;
   let group : List ℕ := (List.range g).map fun i => home k i;
   decide (issues s (↑c) (CoreInstr.ldg d u m) = true ∧ (dmRead s (↑c) group).toBool = true)) ∧
  (let s : State := runH [24576]; let c : Fin 20 := 0; let d : BitVec 5 := 0; let u : BitVec 3 := 0; let m : StepBy := .unit;
   let k : CoreHid := s.core ↑c; let home : CoreHid → ℤ → ℕ := fun k j => agAddr k u.toNat (↑(k.p.getD u.toNat 0)) j; let f : ℕ := 3;
   decide (issues s (↑c) (CoreInstr.ld d u m) = true ∧ dmRead s ↑c [home k 0] = Except.error f)) ∧
  (let s : State := runH [24576]; let c : Fin 20 := 0; let d : BitVec 5 := 0; let u : BitVec 3 := 0; let off17 : BitVec 17 := 0;
   let tsel : Bool := false; let k : CoreHid := s.core ↑c;
   let home : CoreHid → ℤ → ℕ := fun k j => agAddr k u.toNat (↑(k.p.getD u.toNat 0)) j; let f : ℕ := 3;
   decide (issues s (↑c) (CoreInstr.ldx d u tsel off17) = true ∧ dmRead s ↑c [home k off17.toInt] = Except.error f)) ∧
  (let s : State := runH [24576]; let c : Fin 20 := 0; let d : BitVec 5 := 0; let u : BitVec 3 := 0; let m : StepBy := .unit;
   let k : CoreHid := s.core ↑c; let g : ℕ := grpSize ↑c;
   let home : CoreHid → ℤ → ℕ := fun k j => agAddr k u.toNat (↑(k.p.getD u.toNat 0)) j;
   let group : List ℕ := (List.range g).map fun i => home k i; let f : ℕ := 3;
   decide (issues s (↑c) (CoreInstr.ldg d u m) = true ∧ dmRead s (↑c) group = Except.error f)) ∧
  (let s : State := runH [24576]; let c : Fin 20 := 0; let x : BitVec 5 := 0; let u : BitVec 3 := 0; let m : StepBy := .unit;
   let k : CoreHid := s.core ↑c; let home : CoreHid → ℤ → ℕ := fun k j => agAddr k u.toNat (↑(k.p.getD u.toNat 0)) j;
   let inDm : List ℕ → Prop := fun l => ∀ a ∈ l, a < dmWords ↑c; decide (issues s (↑c) (CoreInstr.st x u m) = true ∧
      (¬inDm [home k 0]))) ∧
  (let s : State := runH [24576]; let c : Fin 20 := 0; let x : BitVec 5 := 0; let u : BitVec 3 := 0; let off17 : BitVec 17 := 0;
   let tsel : Bool := false; let k : CoreHid := s.core ↑c;
   let home : CoreHid → ℤ → ℕ := fun k j => agAddr k u.toNat (↑(k.p.getD u.toNat 0)) j;
   let inDm : List ℕ → Prop := fun l => ∀ a ∈ l, a < dmWords ↑c;
   decide (issues s (↑c) (CoreInstr.stx x u tsel off17) = true ∧ (¬inDm [home k off17.toInt]))) ∧
  (let s : State := runH [24576]; let c : Fin 20 := 0; let x : BitVec 5 := 0; let u : BitVec 3 := 0; let m : StepBy := .unit;
   let k : CoreHid := s.core ↑c; let g : ℕ := grpSize ↑c;
   let home : CoreHid → ℤ → ℕ := fun k j => agAddr k u.toNat (↑(k.p.getD u.toNat 0)) j;
   let inDm : List ℕ → Prop := fun l => ∀ a ∈ l, a < dmWords ↑c; let group : List ℕ := (List.range g).map fun i => home k i;
   decide (issues s (↑c) (CoreInstr.stg x u m) = true ∧ (¬inDm group))) ∧
  (let c : Fin 20 := 0; let a : ℕ := 24576; decide ((dmWords ↑c ≤ a))) ∧
  (let s : State := { run with bad := [dmByte 0 0] }; let c : Fin 20 := 0; let a : ℕ := 0;
   decide ((a < dmWords ↑c) ∧ s.bad.contains (dmByte (↑c) a) = true)) ∧
  (let s : State := run; let c : Fin 20 := 0; let a : ℕ := 0; decide ((a < dmWords ↑c) ∧ s.bad.contains (dmByte (↑c) a) = false)) ∧
  (let s : State := run; let c : Fin 20 := 0; let x : BitVec 5 := 0; let u : BitVec 3 := 0; let m : StepBy := .unit;
   let k : CoreHid := s.core ↑c; let home : CoreHid → ℤ → ℕ := fun k j => agAddr k u.toNat (↑(k.p.getD u.toNat 0)) j;
   let inDm : List ℕ → Prop := fun l => ∀ a ∈ l, a < dmWords ↑c; decide (issues s (↑c) (CoreInstr.st x u m) = true ∧ (inDm [home k 0]))) ∧
  (let s : State := run; let c : Fin 20 := 0; let x : BitVec 5 := 0; let u : BitVec 3 := 0; let off17 : BitVec 17 := 0;
   let tsel : Bool := false; let k : CoreHid := s.core ↑c;
   let home : CoreHid → ℤ → ℕ := fun k j => agAddr k u.toNat (↑(k.p.getD u.toNat 0)) j;
   let inDm : List ℕ → Prop := fun l => ∀ a ∈ l, a < dmWords ↑c;
   decide (issues s (↑c) (CoreInstr.stx x u tsel off17) = true ∧ (inDm [home k off17.toInt]))) ∧
  (let s : State := run; let c : Fin 20 := 0; let x : BitVec 5 := 0; let u : BitVec 3 := 0; let m : StepBy := .unit;
   let k : CoreHid := s.core ↑c; let g : ℕ := grpSize ↑c;
   let home : CoreHid → ℤ → ℕ := fun k j => agAddr k u.toNat (↑(k.p.getD u.toNat 0)) j;
   let inDm : List ℕ → Prop := fun l => ∀ a ∈ l, a < dmWords ↑c; let group : List ℕ := (List.range g).map fun i => home k i;
   decide (issues s (↑c) (CoreInstr.stg x u m) = true ∧ (inDm group))) ∧
  (let s : State := run; let c : Fin 20 := 0; let u : BitVec 3 := 0; let m : StepBy := .unit;
   decide (issues s (↑c) (CoreInstr.padv u m) = true)) ∧
  (let s : State := run; let c : Fin 20 := 0; let d : BitVec 5 := 0; let reg : BitVec 6 := 0x07#6;
   decide (issues s (↑c) (CoreInstr.mvc d reg) = true)) ∧
  (let s : State := run; let c : Fin 20 := 0; let x : BitVec 5 := 0; decide (issues s (↑c) (CoreInstr.mvcs x 0#6) = true)) ∧
  (let s : State := run; let c : Fin 20 := 0; let x : BitVec 5 := 0; decide (issues s (↑c) (CoreInstr.mvcs x 1#6) = true)) ∧
  (let s : State := run; let c : Fin 20 := 0; let x : BitVec 5 := 0; decide (issues s (↑c) (CoreInstr.mvcs x 2#6) = true)) ∧
  (let s : State := run; let c : Fin 20 := 0; let x : BitVec 5 := 0; decide (issues s (↑c) (CoreInstr.mvcs x 7#6) = true)) ∧
  (let s : State := run; let c : Fin 20 := 0; let x : BitVec 5 := 0; let reg : BitVec 6 := 0x1F#6;
   decide ((3 ≤ reg.toNat) ∧ (reg.toNat < 32) ∧ (reg ≠ 7#6) ∧ issues s (↑c) (CoreInstr.mvcs x reg) = true)) ∧
  (let s : State := run; let c : Fin 20 := 0; let x : BitVec 5 := 0; let reg : BitVec 6 := 0x3F#6;
   decide ((32 ≤ reg.toNat) ∧ issues s (↑c) (CoreInstr.mvcs x reg) = true)) ∧
  (let s : State := run; let c : Fin 20 := 0; let x : BitVec 5 := 0; let y : BitVec 5 := 0; let cond : BitVec 4 := 15;
   let off : BitVec 12 := 0; decide (issues s (↑c) (CoreInstr.b x y cond off) = true)) ∧
  (let s : State := run; let c : Fin 20 := 0; let t : BitVec 16 := 0; decide (issues s (↑c) (CoreInstr.jmp t) = true)) ∧
  (let s : State := run; let c : Fin 20 := 0; let k : CoreHid := s.core ↑c; let t : BitVec 16 := 0;
   decide (issues s (↑c) (CoreInstr.call t) = true ∧ (k.calls.length < 8))) ∧
  (let s : State := run.onCore 0 fun k => { k with calls := List.replicate 8 5 }; let c : Fin 20 := 0; let k : CoreHid := s.core ↑c;
   let t : ℤ := 5; let l : List ℤ := List.replicate 7 5; decide (issues s (↑c) CoreInstr.ret = true ∧ k.calls = t :: l)) ∧
  (let s : State := run; let c : Fin 20 := 0; let k : CoreHid := s.core ↑c; let n : LoopBy := .imm 0; let len : BitVec 10 := 1;
   let count := match n with | LoopBy.imm v => v.toNat | LoopBy.reg r => BitVec.toNat (k.r r);
   decide (issues s (↑c) (CoreInstr.loop n len) = true ∧ count = 0)) ∧
  (let s : State := run; let c : Fin 20 := 0; let k : CoreHid := s.core ↑c; let n : LoopBy := .imm 1; let len : BitVec 10 := 1;
   let count := match n with | LoopBy.imm v => v.toNat | LoopBy.reg r => BitVec.toNat (k.r r);
   decide (issues s (↑c) (CoreInstr.loop n len) = true ∧ (count ≠ 0) ∧ (k.loops.length < 4))) ∧
  (let s : State := run; let c : Fin 20 := 0; let x : BitVec 5 := 0; decide (issues s (↑c) (CoreInstr.wait x) = true)) ∧
  (let s : State := run; let c : Fin 20 := 0; let t : BitVec 5 := 0; let bits : Byte := 0;
   decide (issues s (↑c) (CoreInstr.sigCore t bits) = true)) ∧
  (let s : State := run; let c : Fin 20 := 0; let bits : Byte := 0; decide (issues s (↑c) (CoreInstr.sigForager bits) = true)) ∧
  (let s : State := run; let c : Fin 20 := 0; let bits : Byte := 0; decide (issues s (↑c) (CoreInstr.sigKeeper bits) = true)) ∧
  (let s : State := run; let c : Fin 20 := 0; decide (issues s (↑c) CoreInstr.done = true)) ∧
  (let s : State := run; let c : Fin 20 := 0; decide (issues s (↑c) CoreInstr.halt = true)) ∧
  (let s : State := run; let c : Fin 20 := 0; let k : CoreHid := s.core ↑c; decide (k.loops = [])) ∧
  (let s : State := run.onCore 0 fun k => { k with loops := [⟨1, 9, 5⟩], pc := 9 }; let c : Fin 20 := 0; let k : CoreHid := s.core ↑c;
   let l : CoreLoop := ⟨1, 9, 5⟩; let t : List CoreLoop := []; decide (k.loops = l :: t ∧ l.last = k.pc ∧ (2 ≤ l.count))) ∧
  (let s : State := run.onCore 0 fun k => { k with loops := [⟨1, 9, 5⟩], pc := 8 }; let c : Fin 20 := 0; let k : CoreHid := s.core ↑c;
   let l : CoreLoop := ⟨1, 9, 5⟩; let t : List CoreLoop := []; decide (k.loops = l :: t ∧ (l.last ≠ k.pc))) := by
  refine ⟨?_, ?_, ?_, ?_, ?_, ?_, ?_, ?_, ?_, ?_, ?_, ?_, ?_, ?_, ?_, ?_, ?_, ?_, ?_, ?_, ?_, ?_, ?_, ?_, ?_, ?_, ?_, ?_, ?_, ?_, ?_, ?_,
      ?_, ?_, ?_, ?_, ?_, ?_⟩ <;> decide +kernel

theorem witness_CoresFaultAndObeyTheirCommands :
  (let s : State := ready; let c : Fin 20 := 0; let live : Bool := coreLive s ↑c; decide (live = false)) ∧
  (let s : State := run.onCore 0 fun k => { k with pc := 8192 }; let c : Fin 20 := 0; let live : Bool := coreLive s ↑c;
   decide (live = true ∧ (¬(0 ≤ (s.core ↑c).pc ∧ (s.core ↑c).pc < ↑(pmWords ↑c))))) ∧
  (let s : State := { run with bad := [pmBase 0] }; let c : Fin 20 := 0; let live : Bool := coreLive s ↑c;
   let bad : Bool := s.bad.contains (pmBase ↑c + 4 * (s.core ↑c).pc.toNat);
   decide (live = true ∧ (0 ≤ (s.core ↑c).pc ∧ (s.core ↑c).pc < ↑(pmWords ↑c)) ∧ bad = true)) ∧
  (let s : State := run; let c : Fin 20 := 0; let live : Bool := coreLive s ↑c; let d : BitVec 5 := 16; let x : BitVec 5 := 0;
   let y : BitVec 5 := 0; let j : Instr × CoreInstr := (Instr.coreAdd c d x y, CoreInstr.add d x y);
   let bad : Bool := s.bad.contains (pmBase ↑c + 4 * (s.core ↑c).pc.toNat);
   decide (live = true ∧ (0 ≤ (s.core ↑c).pc ∧ (s.core ↑c).pc < ↑(pmWords ↑c)) ∧ bad = false ∧ CoreInstr.legal (↑c) j.2 = false)) ∧
  (let c : Fin 20 := 0; let d : BitVec 5 := 16; let x : BitVec 5 := 0; let y : BitVec 5 := 0;
   decide (isQueen ↑c = false ∧ (16 ≤ d.toNat ∨ 16 ≤ x.toNat ∨ 16 ≤ y.toNat))) ∧
  (let s : State := ready; let c : Fin 20 := 0; let p : ℕ := P.core ↑c; let r : Req := .spi; let v : Word := 3; let a := p + 68;
   let t := s.wakeFor a;
   let begun : State := t.onCore ↑c fun k => { k with sr := 0, pc := ↑(t.getF p F.W_CFG_ENTRY), calls := [], loops := [], busy := 0, loaded := [], summed := [] };
   let e : Instr × ℕ × List ℕ × State := (Instr.coreStart r c v, 0, [2, 6], (begun.wr (p + 76) 0).setSt p 3);
   decide (served s r a = true ∧ (∃ b : Fin 6, b.val ≠ e.2.1 ∧ bit v b.val = true))) ∧
  (let s : State := ready; let c : Fin 20 := 0; let p : ℕ := P.core ↑c; let r : Req := .spi; let v : Word := 0; let a := p + 68;
   let t := s.wakeFor a;
   let begun : State := t.onCore ↑c fun k => { k with sr := 0, pc := ↑(t.getF p F.W_CFG_ENTRY), calls := [], loops := [], busy := 0, loaded := [], summed := [] };
   let e : Instr × ℕ × List ℕ × State := (Instr.coreStart r c v, 0, [2, 6], (begun.wr (p + 76) 0).setSt p 3);
   decide (served s r a = true ∧ (¬∃ b : Fin 6, b.val ≠ e.2.1 ∧ bit v b.val = true) ∧ (¬((isHost r = false ∨
      t.isSet p F.W_CFG_SVC = false) ∧ coreSt t ↑c ∈ e.2.2.1)))) ∧
  (let s : State := ((frgB.setSt (P.core 0) 2)); let c : Fin 20 := 0; let p : ℕ := P.core ↑c; let r : Req := .spi; let v : Word := 0;
   let a := p + 68; let t := s.wakeFor a;
   let begun : State := t.onCore ↑c fun k => { k with sr := 0, pc := ↑(t.getF p F.W_CFG_ENTRY), calls := [], loops := [], busy := 0, loaded := [], summed := [] };
   let e : Instr × ℕ × List ℕ × State := (Instr.coreStart r c v, 0, [2, 6], (begun.wr (p + 76) 0).setSt p 3);
   decide (served s r a = true ∧ (¬∃ b : Fin 6, b.val ≠ e.2.1 ∧ bit v b.val = true) ∧ ((isHost r = false ∨
      t.isSet p F.W_CFG_SVC = false) ∧ coreSt t ↑c ∈ e.2.2.1) ∧ (e.2.1 = 0 ∧ pmBusy t ↑c = true))) ∧
  (let s : State := run.onCore 0 fun k => { k with pc := 8192 }; let c : Fin 20 := 0; let p : ℕ := P.core ↑c; let r : Req := .spi;
   let v : Word := 0; let a := p + 68; let t := s.wakeFor a;
   let e : Instr × ℕ × List ℕ × State := (Instr.coreStop r c v, 1, [3, 4, 5, 6], t.setSt p 2);
   decide (served s r a = true ∧ (¬∃ b : Fin 6, b.val ≠ e.2.1 ∧ bit v b.val = true) ∧ ((isHost r = false ∨
      t.isSet p F.W_CFG_SVC = false) ∧ coreSt t ↑c ∈ e.2.2.1) ∧ (¬(e.2.1 = 0 ∧ pmBusy t ↑c = true)))) ∧
  (let s : State := (run.setF (P.core 0) F.W_CFG_WDOG 1).onCore 0 fun k => { k with busy := 1 }; let c : Fin 20 := 0;
      let p : ℕ := P.core ↑c;
   let live : Bool := coreLive s ↑c; let dog := s.getF p F.W_CFG_WDOG; decide (live = true ∧ (dog ≠ 0) ∧ (dog ≤ (s.core ↑c).busy))) ∧
  (let s : State := ready; let c : Fin 20 := 0; let p : ℕ := P.core ↑c; let live : Bool := coreLive s ↑c;
      let dog := s.getF p F.W_CFG_WDOG;
   decide ((live = false ∨ dog = 0 ∨ (s.core ↑c).busy < dog))) ∧
  (let s : State := run.onCore 0 fun k => { k with pc := 8192 }; let c : Fin 20 := 0; let p : ℕ := P.core ↑c; let r : Req := .spi;
   let t := s.wakeFor (p + 80); decide (served s r (p + 80) = true ∧ (t.st p ≠ 0))) ∧
  (let s : State := ready; let c : Fin 20 := 0; let p : ℕ := P.core ↑c; let r : Req := .spi; let t := s.wakeFor (p + 80);
   decide (served s r (p + 80) = true ∧ t.st p = 0)) := by
  refine ⟨?_, ?_, ?_, ?_, ?_, ?_, ?_, ?_, ?_, ?_, ?_, ?_, ?_⟩ <;> decide +kernel

theorem witness_WaggleFollowsTheRide :
  (let s : State := wg true 0 0 479 id;
   let alive := !s.sys.held && (s.sys.mode == PwrMode.run || s.sys.mode == PwrMode.idle || s.sys.mode == PwrMode.sleep) && s.clk.halt != some Halt.ref;
   let g := s.wag; decide (alive = true ∧ g.run = true ∧ wagSrc s = 0)) ∧
  (let s : State := tmo;
   let alive := !s.sys.held && (s.sys.mode == PwrMode.run || s.sys.mode == PwrMode.idle || s.sys.mode == PwrMode.sleep) && s.clk.halt != some Halt.ref;
   let g := s.wag; decide ((alive = false ∨ g.run = false ∨ wagSrc s ≠ 0))) ∧
  (let s : State := (wg true 0 0 0 id).onClk fun c => { c with halt := some .ref };
   let alive := !s.sys.held && (s.sys.mode == PwrMode.run || s.sys.mode == PwrMode.idle || s.sys.mode == PwrMode.sleep) && s.clk.halt != some Halt.ref;
   decide (alive = false)) ∧
  (let s : State := wg true 0 0 479 id; let g := s.wag; decide ((g.run = true ∧ wagSrc s = 0 ∧ fabCnt s % 480 = 479 ∧
      g.judged = false))) ∧
  (let s : State := tmo; let g := s.wag; decide ((¬(g.run = true ∧ wagSrc s = 0 ∧ fabCnt s % 480 = 479 ∧ g.judged = false)))) ∧
  (let s : State := tmo; let g := s.wag;
   let due := fun f => g.run = true ∧ wagSrc s = 1 ∧ wagQual s = 1 ∧ f + 4800 * s.getF P.wag F.WAG_GUARD_T_FIX_TMO ≤ fabCnt s;
   let f : ℕ := 0; decide (g.fixK = some f ∧ (due f))) ∧
  (let s : State := wg true 0 0 479 id; let g := s.wag;
   let due := fun f => g.run = true ∧ wagSrc s = 1 ∧ wagQual s = 1 ∧ f + 4800 * s.getF P.wag F.WAG_GUARD_T_FIX_TMO ≤ fabCnt s;
   decide ((∀ (f : ℕ), g.fixK = some f → ¬due f))) ∧
  (let s : State := tmo.setF P.wag F.WAG_STAT_QUAL 2; let g := s.wag; let from_ := if wagSrc s = 0 then some g.failK else g.fixK;
   let due := fun f => g.run = true ∧ wagSrc s ≠ 2 ∧ wagQual s = 2 ∧ f + 48000 * s.getF P.wag F.WAG_GUARD_T_DR ≤ fabCnt s; let f : ℕ := 0;
   decide (from_ = some f ∧ (due f))) ∧
  (let s : State := wg true 0 0 479 id; let g := s.wag; let from_ := if wagSrc s = 0 then some g.failK else g.fixK;
   let due := fun f => g.run = true ∧ wagSrc s ≠ 2 ∧ wagQual s = 2 ∧ f + 48000 * s.getF P.wag F.WAG_GUARD_T_DR ≤ fabCnt s;
   decide ((∀ (f : ℕ), from_ = some f → ¬due f))) ∧
  (let s : State := wg false 0 0 0 id; let r : Req := .spi; let t := s.wakeFor (P.wag + 80);
   decide (served s r (P.wag + 80) = true ∧ t.wag.run = false)) ∧
  (let s : State := wg true 0 0 479 id; let r : Req := .spi; let t := s.wakeFor (P.wag + 80);
   decide (served s r (P.wag + 80) = true ∧ t.wag.run = true ∧ (wagSrc t ≠ 2))) ∧
  (let s : State := wg true 2 1 0 id; let r : Req := .spi; let t := s.wakeFor (P.wag + 80);
   decide (served s r (P.wag + 80) = true ∧ t.wag.run = true ∧ wagSrc t = 2)) ∧
  (let s : State := wg true 0 0 0 id; let r : Req := .spi; let v : Word := 3; let a := P.wag + 68;
   decide (served s r a = true ∧ bit v 1 = true)) ∧
  (let s : State := wg false 0 0 0 id; let r : Req := .spi; let v : Word := 0; let a := P.wag + 68; let t := s.wakeFor a;
   decide (served s r a = true ∧ bit v 1 = false ∧ (t.en P.wag = true ∧ t.wag.run = false ∧
      (wagSrc t = 2 → t.getF P.clk F.CLK_MEDIA_CFG_SRC = 1)))) ∧
  (let s : State := wg true 0 0 479 id; let r : Req := .spi; let v : Word := 0; let a := P.wag + 68; let t := s.wakeFor a;
   decide (served s r a = true ∧ bit v 1 = false ∧ (¬(t.en P.wag = true ∧ t.wag.run = false ∧
      (wagSrc t = 2 → t.getF P.clk F.CLK_MEDIA_CFG_SRC = 1))))) ∧
  (let s : State := wg true 0 0 0 id; let r : Req := .spi; let v : Word := 3; let a := P.wag + 68;
   decide (served s r a = true ∧ bit v 0 = true)) ∧
  (let s : State := wg true 0 0 479 id; let r : Req := .spi; let v : Word := 0; let a := P.wag + 68; let t := s.wakeFor a;
   decide (served s r a = true ∧ bit v 0 = false ∧ t.wag.run = true)) ∧
  (let s : State := wg false 0 0 0 id; let r : Req := .spi; let v : Word := 0; let a := P.wag + 68; let t := s.wakeFor a;
   decide (served s r a = true ∧ bit v 0 = false ∧ t.wag.run = false)) := by
  refine ⟨?_, ?_, ?_, ?_, ?_, ?_, ?_, ?_, ?_, ?_, ?_, ?_, ?_, ?_, ?_, ?_, ?_, ?_⟩ <;> decide +kernel

theorem witness_PositionFixesAreJudged :
  (let s : State := (wg false 0 0 100 id).arrive 50 (pf 200 0); let q : PlReq := pf 200 0; let p := q.payload; let t := s.wakeFor P.wag;
   let k := nextPeriod t; let at_ := field p 8 8; let flags := field p 20 1;
   decide (plServes s 50 q = true ∧ pageServes s P.wag true = true ∧ (¬(p.length = 24 ∧ flags < 4 ∧ field p 21 3 = 0 ∧ at_ ≤ k ∧
      k - at_ ≤ 480 * t.getF P.wag F.WAG_GUARD_T_MAXAGE)))) ∧
  (let s : State := (wg false 0 0 100 id).arrive 50 (pf 100 0); let q : PlReq := pf 100 0; let p := q.payload; let t := s.wakeFor P.wag;
   let k := nextPeriod t; let at_ := field p 8 8; let flags := field p 20 1;
   decide (plServes s 50 q = true ∧ pageServes s P.wag true = true ∧ (p.length = 24 ∧ flags < 4 ∧ field p 21 3 = 0 ∧ at_ ≤ k ∧
      k - at_ ≤ 480 * t.getF P.wag F.WAG_GUARD_T_MAXAGE) ∧ (t.wag.run = false ∨ wagSrc t = 2))) ∧
  (let s : State := (wg true 1 1 100 fun w => { w with fix := some (0, 99) }).arrive 50 (pf 100 0); let q : PlReq := pf 100 0;
   let p := q.payload; let t := s.wakeFor P.wag; let k := nextPeriod t; let at_ := field p 8 8; let flags := field p 20 1;
   let pos := signed 64 (field p 0 8); let fix := wagSrc t = 1; let v := if fix then fixSpeed t pos at_ else none;
   decide (plServes s 50 q = true ∧ pageServes s P.wag true = true ∧ (p.length = 24 ∧ flags < 4 ∧ field p 21 3 = 0 ∧ at_ ≤ k ∧
      k - at_ ≤ 480 * t.getF P.wag F.WAG_GUARD_T_MAXAGE) ∧ t.wag.run = true ∧ (wagSrc t ≠ 2) ∧ fixTooFast t v at_ = true)) ∧
  (let s : State := ((wg true 0 1 100 fun w => { w with spd := 1 }).setF P.wag F.WAG_FIX_CFG_JUMPTHR 1000).arrive 50 (pf 100 0);
   let q : PlReq := pf 100 0; let p := q.payload; let t := s.wakeFor P.wag; let k := nextPeriod t; let at_ := field p 8 8;
   let flags := field p 20 1; let pos := signed 64 (field p 0 8); let fix := wagSrc t = 1;
   let v := if fix then fixSpeed t pos at_ else none;
   let spd : ℚ := if wagSrc t = 0 then t.wag.spd else if flags % 2 = 1 then ↑(signed 32 (field p 16 4)) else match v with | some v => (v + t.wag.spd) / 2 | none => t.wag.spd;
   let target : ℚ := ↑pos + spd * ↑(k - at_) / 48000; let dev : ℚ := target - ↑(t.wag.v + slewed t (plainAdvance t)).floor;
   let thr : ℚ := ↑(10 * t.getF P.wag F.WAG_FIX_CFG_JUMPTHR);
   decide (plServes s 50 q = true ∧ pageServes s P.wag true = true ∧ (p.length = 24 ∧ flags < 4 ∧ field p 21 3 = 0 ∧ at_ ≤ k ∧
      k - at_ ≤ 480 * t.getF P.wag F.WAG_GUARD_T_MAXAGE) ∧ t.wag.run = true ∧ (wagSrc t ≠ 2) ∧ fixTooFast t v at_ = false ∧
      (|dev| ≤ thr) ∧ (spd ≠ 0))) ∧
  (let s : State := ((wg true 0 1 100 id).setF P.wag F.WAG_FIX_CFG_JUMPTHR 1000).arrive 50 (pf 100 0); let q : PlReq := pf 100 0;
   let p := q.payload; let t := s.wakeFor P.wag; let k := nextPeriod t; let at_ := field p 8 8; let flags := field p 20 1;
   let pos := signed 64 (field p 0 8); let fix := wagSrc t = 1; let v := if fix then fixSpeed t pos at_ else none;
   let spd : ℚ := if wagSrc t = 0 then t.wag.spd else if flags % 2 = 1 then ↑(signed 32 (field p 16 4)) else match v with | some v => (v + t.wag.spd) / 2 | none => t.wag.spd;
   let target : ℚ := ↑pos + spd * ↑(k - at_) / 48000; let dev : ℚ := target - ↑(t.wag.v + slewed t (plainAdvance t)).floor;
   let thr : ℚ := ↑(10 * t.getF P.wag F.WAG_FIX_CFG_JUMPTHR);
   decide (plServes s 50 q = true ∧ pageServes s P.wag true = true ∧ (p.length = 24 ∧ flags < 4 ∧ field p 21 3 = 0 ∧ at_ ≤ k ∧
      k - at_ ≤ 480 * t.getF P.wag F.WAG_GUARD_T_MAXAGE) ∧ t.wag.run = true ∧ (wagSrc t ≠ 2) ∧ fixTooFast t v at_ = false ∧
      (|dev| ≤ thr) ∧ spd = 0)) ∧
  (let s : State := (wg true 0 1 100 id).arrive 50 (wj 2); let q : PlReq := wj 2; let p := q.payload; let t := s.wakeFor P.wag;
   let k := nextPeriod t; let at_ := field p 8 8; let flags := field p 20 1; let pos := signed 64 (field p 0 8); let fix := wagSrc t = 1;
   let v := if fix then fixSpeed t pos at_ else none;
   let spd : ℚ := if wagSrc t = 0 then t.wag.spd else if flags % 2 = 1 then ↑(signed 32 (field p 16 4)) else match v with | some v => (v + t.wag.spd) / 2 | none => t.wag.spd;
   let target : ℚ := ↑pos + spd * ↑(k - at_) / 48000; let dev : ℚ := target - ↑(t.wag.v + slewed t (plainAdvance t)).floor;
   let thr : ℚ := ↑(10 * t.getF P.wag F.WAG_FIX_CFG_JUMPTHR);
   decide (plServes s 50 q = true ∧ pageServes s P.wag true = true ∧ (p.length = 24 ∧ flags < 4 ∧ field p 21 3 = 0 ∧ at_ ≤ k ∧
      k - at_ ≤ 480 * t.getF P.wag F.WAG_GUARD_T_MAXAGE) ∧ t.wag.run = true ∧ (wagSrc t ≠ 2) ∧ fixTooFast t v at_ = false ∧
      (thr < |dev|) ∧ flags / 2 % 2 = 1)) ∧
  (let s : State := (wg true 0 1 100 id).arrive 50 (wj 0); let q : PlReq := wj 0; let p := q.payload; let t := s.wakeFor P.wag;
   let k := nextPeriod t; let at_ := field p 8 8; let flags := field p 20 1; let pos := signed 64 (field p 0 8); let fix := wagSrc t = 1;
   let v := if fix then fixSpeed t pos at_ else none;
   let spd : ℚ := if wagSrc t = 0 then t.wag.spd else if flags % 2 = 1 then ↑(signed 32 (field p 16 4)) else match v with | some v => (v + t.wag.spd) / 2 | none => t.wag.spd;
   let target : ℚ := ↑pos + spd * ↑(k - at_) / 48000; let dev : ℚ := target - ↑(t.wag.v + slewed t (plainAdvance t)).floor;
   let thr : ℚ := ↑(10 * t.getF P.wag F.WAG_FIX_CFG_JUMPTHR);
   decide (plServes s 50 q = true ∧ pageServes s P.wag true = true ∧ (p.length = 24 ∧ flags < 4 ∧ field p 21 3 = 0 ∧ at_ ≤ k ∧
      k - at_ ≤ 480 * t.getF P.wag F.WAG_GUARD_T_MAXAGE) ∧ t.wag.run = true ∧ (wagSrc t ≠ 2) ∧ fixTooFast t v at_ = false ∧
      (thr < |dev|) ∧ flags / 2 % 2 = 0)) := by
  refine ⟨?_, ?_, ?_, ?_, ?_, ?_, ?_⟩ <;> decide +kernel

theorem witness_CuesAreCommittedAndCommanded :
  (let s : State := cu 0 w3; let r : Req := .spi; let k : Fin 64 := 0; let w : Fin 6 := 0; let a : ℕ := cueAddr ↑k ↑w;
   decide (served s r a = true)) ∧
  (let s : State := cu 0 w3; let r : Req := .spi; let k : Fin 64 := 0; let v : Word := 0x08000000; let a : ℕ := cueAddr (↑k) 7;
   let t := s.wakeFor a; let j : ℕ := 64 * bankOf t r + ↑k; let h := cueHeld t r j;
   let u := if h = [] then t else t.onWag fun g => { g with holds := alDel g.holds r }; let e : Instr × Word := (Instr.cueCommit r k v,
      v);
   decide (served s r a = true ∧ cueJudge (cueAt u j) e.2 h = Code.done)) ∧
  (let s : State := cu 0 w3; let r : Req := .spi; let k : Fin 64 := 0; let v : Word := 0x08000000; let a : ℕ := cueAddr (↑k) 7;
   let t := s.wakeFor a; let j : ℕ := 64 * bankOf t r + ↑k; let h := cueHeld t r j;
   let u := if h = [] then t else t.onWag fun g => { g with holds := alDel g.holds r };
   let e : Instr × Word := (Instr.cueFree r k v, setField v 28 28 1); let c : Code := cueJudge (cueAt u j) e.2 h;
   decide (served s r a = true ∧ (c ≠ Code.done) ∧ cueJudge (cueAt u j) e.2 h = c)) ∧
  (let s : State := cu 1 []; let r : Req := .spi; let k : Fin 64 := 0; let v : Word := 0x10000000; let a : ℕ := cueAddr (↑k) 7;
   decide (served s r a = true ∧ v &&& 201326592 = 0)) ∧
  (let s : State := cu 1 []; let r : Req := .spi; let k : Fin 64 := 0; let v : Word := 0x08000000; let a : ℕ := cueAddr (↑k) 7;
   let t := s.wakeFor a; let j : ℕ := 64 * bankOf t r + ↑k; let h := cueHeld t r j;
   decide (served s r a = true ∧ h = [] ∧ v &&& 335544371 = 0 ∧ ((cueAt t j).st ≠ 0) ∧ ((cueAt t j).st ≠ 2) ∧
      badAction (cueAt t j).act (cueAt t j).arg = false)) ∧
  (let s : State := cu 1 []; let r : Req := .spi; let k : Fin 64 := 0; let v : Word := 0x04000000; let a : ℕ := cueAddr (↑k) 7;
   let t := s.wakeFor a; let j : ℕ := 64 * bankOf t r + ↑k; let h := cueHeld t r j;
   decide (served s r a = true ∧ h = [] ∧ v &&& 402653235 = 0 ∧ ((cueAt t j).st ≠ 0) ∧
      badAction (cueAt t j).act (cueAt t j).arg = false)) ∧
  (let s : State := (cu 0 w3).arrive 48 (plo []); let q : PlReq := plo []; let p := q.payload; let i := field p 0 2;
   decide (plServes s 48 q = true ∧ pageServes s P.wag true = true ∧ (¬(p.length = 32 ∧ field p 2 2 = 0 ∧ (i < 1024 ∨ i = 65535))))) ∧
  (let s : State := (cu 0 []).arrive 48 (plo (leBytes 2 3 ++ [0, 0] ++ List.replicate 24 0 ++ wordBytes 3));
   let q : PlReq := plo (leBytes 2 3 ++ [0, 0] ++ List.replicate 24 0 ++ wordBytes 3); let p := q.payload; let t := s.wakeFor P.wag;
   let i := field p 0 2; let h := List.map (fun n => (n, BitVec.ofNat 32 (field p (4 + 4 * n) 4))) (List.range 6);
   let v := BitVec.ofNat 32 (field p 28 4); let k := if i = 65535 then freeCue t else some i;
   let c := (Option.map (cueAt t) k).getD Cue.free; let j := cueJudge c v h;
   decide (plServes s 48 q = true ∧ pageServes s P.wag true = true ∧ (p.length = 32 ∧ field p 2 2 = 0 ∧ (i < 1024 ∨ i = 65535)) ∧
      (j ≠ Code.done))) ∧
  (let s : State := (cu 0 []).arrive 48 (cs 3); let q : PlReq := cs 3; let p := q.payload; let t := s.wakeFor P.wag; let i := field p 0 2;
   let h := List.map (fun n => (n, BitVec.ofNat 32 (field p (4 + 4 * n) 4))) (List.range 6); let v := BitVec.ofNat 32 (field p 28 4);
   let k := if i = 65535 then freeCue t else some i; let c := (Option.map (cueAt t) k).getD Cue.free; let j := cueJudge c v h;
   decide (plServes s 48 q = true ∧ pageServes s P.wag true = true ∧ (p.length = 32 ∧ field p 2 2 = 0 ∧ (i < 1024 ∨ i = 65535)) ∧
      j = Code.done ∧ k.isSome = true)) ∧
  (let s : State := (cu 0 w3).arrive 49 (plo []); let q : PlReq := plo []; let p := q.payload; let i := field p 0 2;
      let op := field p 2 1;
   decide (plServes s 49 q = true ∧ pageServes s P.wag true = true ∧ (¬(p.length = 4 ∧ op ≤ 1 ∧ field p 3 1 = 0 ∧ (i < 1024 ∨
      i = 65535))))) ∧
  (let s : State := (cu 0 []).arrive 49 (plo [0,0,0,0]); let q : PlReq := plo [0,0,0,0]; let p := q.payload; let t := s.wakeFor P.wag;
   let i := field p 0 2; let ks := List.filter (fun k => i == 65535 || k == i) (cuesDefined t); let op := field p 2 1;
   decide (plServes s 49 q = true ∧ pageServes s P.wag true = true ∧ (p.length = 4 ∧ op ≤ 1 ∧ field p 3 1 = 0 ∧ (i < 1024 ∨ i = 65535)) ∧
      ks = [])) ∧
  (let s : State := (cu 1 []).arrive 49 (plo [0,0,0,0]); let q : PlReq := plo [0,0,0,0]; let p := q.payload; let t := s.wakeFor P.wag;
   let i := field p 0 2; let ks := List.filter (fun k => i == 65535 || k == i) (cuesDefined t); let op := field p 2 1;
   decide (plServes s 49 q = true ∧ pageServes s P.wag true = true ∧ (p.length = 4 ∧ op ≤ 1 ∧ field p 3 1 = 0 ∧ (i < 1024 ∨ i = 65535)) ∧
      (ks ≠ []) ∧ op = 0)) ∧
  (let s : State := (cu 1 []).arrive 49 (plo [0,0,1,0]); let q : PlReq := plo [0,0,1,0]; let p := q.payload; let t := s.wakeFor P.wag;
   let i := field p 0 2; let ks := List.filter (fun k => i == 65535 || k == i) (cuesDefined t); let op := field p 2 1;
   decide (plServes s 49 q = true ∧ pageServes s P.wag true = true ∧ (p.length = 4 ∧ op ≤ 1 ∧ field p 3 1 = 0 ∧ (i < 1024 ∨ i = 65535)) ∧
      (ks ≠ []) ∧ op = 1)) ∧
  (let s : State := (cu 0 w3).arrive 51 (plo []); let q : PlReq := plo []; let p := q.payload;
   decide (plServes s 51 q = true ∧ pageServes s P.wag false = true ∧ p = [])) ∧
  (let s : State := (cu 0 []).arrive 51 (cs 3); let q : PlReq := cs 3; let p := q.payload;
   decide (plServes s 51 q = true ∧ pageServes s P.wag false = true ∧ (p ≠ []))) ∧
  (let s : State := cu 0 w3; decide (s.sys.mode = PwrMode.run ∧ s.sys.held = false ∧ s.wag.deferred = [])) ∧
  (let s : State := def1 (some ⟨7, 0x80000000, 3⟩); let k : ℕ := 7; let arg : Word := 3;
   decide (s.sys.mode = PwrMode.run ∧ s.sys.held = false ∧ s.wag.deferred = [{ cue := k, act := 2147483648#32, arg := arg }] ∧
      bit arg 16 = false)) ∧
  (let s : State := ready.onSys fun y => { y with mode := .idle }; decide ((s.sys.mode ≠ PwrMode.run ∨ s.sys.held = true))) := by
  refine ⟨?_, ?_, ?_, ?_, ?_, ?_, ?_, ?_, ?_, ?_, ?_, ?_, ?_, ?_, ?_, ?_, ?_, ?_⟩ <;> decide +kernel

theorem witness_ClipPlayersAct :
  (let s : State := (cl 1).arrive 56 (plo [0,0,0,0]); let q : PlReq := plo [0,0,0,0]; let p := q.payload; let v := field p 0 1;
   decide (plServes s 56 q = true ∧ pageServes s P.clip true = true ∧ (¬(p.length = 8 ∧ v < 64 ∧ field p 1 1 < 2 ∧ field p 5 3 = 0)))) ∧
  (let s : State := (cl 1).arrive 56 (plo [0,0,0,0,0,0,0,0]); let q : PlReq := plo [0,0,0,0,0,0,0,0]; let p := q.payload;
   let t := s.wakeFor P.clip; let v := field p 0 1; let w := voiceSeen t v; let prime := field p 1 1 == 1;
   let c := startCheck t v (field p 2 2) prime w.1 w.2.1;
   decide (plServes s 56 q = true ∧ pageServes s P.clip true = true ∧ (p.length = 8 ∧ v < 64 ∧ field p 1 1 < 2 ∧ field p 5 3 = 0) ∧
      c = Code.done)) ∧
  (let s : State := (cl 1).arrive 56 (plo [0,0,5,0,0,0,0,0]); let q : PlReq := plo [0,0,5,0,0,0,0,0]; let p := q.payload;
   let t := s.wakeFor P.clip; let v := field p 0 1; let w := voiceSeen t v; let prime := field p 1 1 == 1;
   let c := startCheck t v (field p 2 2) prime w.1 w.2.1;
   decide (plServes s 56 q = true ∧ pageServes s P.clip true = true ∧ (p.length = 8 ∧ v < 64 ∧ field p 1 1 < 2 ∧ field p 5 3 = 0) ∧
      (c ≠ Code.done))) ∧
  (let s : State := (cl 1).arrive 57 (plo [0,0,0,0,0,0,0,0]); let q : PlReq := plo [0,0,0,0,0,0,0,0]; let p := q.payload;
   let v := field p 0 1;
   decide (plServes s 57 q = true ∧ pageServes s P.clip true = true ∧ (¬(p.length = 4 ∧ (v < 64 ∨ v = 255) ∧ field p 1 1 < 16 ∧
      field p 2 2 = 0)))) ∧
  (let s : State := (cl 1).arrive 57 (plo [0,0,0,0]); let q : PlReq := plo [0,0,0,0]; let p := q.payload; let v := field p 0 1;
   decide (plServes s 57 q = true ∧ pageServes s P.clip true = true ∧ (p.length = 4 ∧ (v < 64 ∨ v = 255) ∧ field p 1 1 < 16 ∧
      field p 2 2 = 0) ∧ (v < 64))) ∧
  (let s : State := (cl 1).arrive 57 (plo [0xFF,0,0,0]); let q : PlReq := plo [0xFF,0,0,0]; let p := q.payload; let v := field p 0 1;
   decide (plServes s 57 q = true ∧ pageServes s P.clip true = true ∧ (p.length = 4 ∧ (v < 64 ∨ v = 255) ∧ field p 1 1 < 16 ∧
      field p 2 2 = 0) ∧ v = 255)) ∧
  (let s : State := (cl 1).arrive 58 (plo [0,0,0,0,0,0,0,0]); let q : PlReq := plo [0,0,0,0,0,0,0,0]; let p := q.payload;
   let v := field p 0 1; decide (plServes s 58 q = true ∧ pageServes s P.clip true = true ∧ (¬(p.length = 4 ∧ v < 64 ∧
      field p 3 1 < 2)))) ∧
  (let s : State := (cl 1).arrive 58 (plo [0,0,0,0]); let q : PlReq := plo [0,0,0,0]; let p := q.payload; let t := s.wakeFor P.clip;
   let v := field p 0 1; let m := field p 1 1; let pat := tonePat t m;
   decide (plServes s 58 q = true ∧ pageServes s P.clip true = true ∧ (p.length = 4 ∧ v < 64 ∧ field p 3 1 < 2) ∧ (m ≠ 255) ∧
      pat = none)) ∧
  (let s : State := ((cl 1).setF P.clip F.PG_CTRL_EN 0).arrive 58 (plo [0,0xFF,0,0]); let q : PlReq := plo [0,0xFF,0,0];
      let p := q.payload;
   let t := s.wakeFor P.clip; let v := field p 0 1; let m := field p 1 1; let pat := tonePat t m;
   decide (plServes s 58 q = true ∧ pageServes s P.clip true = true ∧ (p.length = 4 ∧ v < 64 ∧ field p 3 1 < 2) ∧ (m = 255 ∨
      pat.isSome = true) ∧ t.en P.clip = false)) ∧
  (let s : State := (cl 1).arrive 58 (plo [0,0xFF,0,0]); let q : PlReq := plo [0,0xFF,0,0]; let p := q.payload; let t := s.wakeFor P.clip;
   let v := field p 0 1; let m := field p 1 1; let pat := tonePat t m;
   decide (plServes s 58 q = true ∧ pageServes s P.clip true = true ∧ (p.length = 4 ∧ v < 64 ∧ field p 3 1 < 2) ∧ (m = 255 ∨
      pat.isSome = true) ∧ t.en P.clip = true)) ∧
  (let s : State := (cl 1).arrive 59 (plo [0,0,0,0]); let q : PlReq := plo [0,0,0,0]; let p := q.payload; let v := field p 0 1;
   let i := field p 2 2;
   decide (plServes s 59 q = true ∧ pageServes s P.clip false = true ∧ (p.length = 4 ∧ field p 1 1 = 0) ∧ v = 0 ∧ (i < 64))) ∧
  (let s : State := (cl 0).arrive 59 (plo [1,0,0,0]); let q : PlReq := plo [1,0,0,0]; let p := q.payload; let t := s.wakeFor P.clip;
   let v := field p 0 1; let i := field p 2 2;
   decide (plServes s 59 q = true ∧ pageServes s P.clip false = true ∧ (p.length = 4 ∧ field p 1 1 = 0) ∧ v = 1 ∧ (i < 4096) ∧
      libValid t = false)) ∧
  (let s : State := (cl 1).arrive 59 (plo [1,0,5,0]); let q : PlReq := plo [1,0,5,0]; let p := q.payload; let t := s.wakeFor P.clip;
   let v := field p 0 1; let i := field p 2 2;
   decide (plServes s 59 q = true ∧ pageServes s P.clip false = true ∧ (p.length = 4 ∧ field p 1 1 = 0) ∧ v = 1 ∧ (i < 4096) ∧
      libValid t = true ∧ clipThere t i = false)) ∧
  (let s : State := (cl 1).arrive 59 (plo [1,0,0,0]); let q : PlReq := plo [1,0,0,0]; let p := q.payload; let t := s.wakeFor P.clip;
   let v := field p 0 1; let i := field p 2 2;
   decide (plServes s 59 q = true ∧ pageServes s P.clip false = true ∧ (p.length = 4 ∧ field p 1 1 = 0) ∧ v = 1 ∧ (i < 4096) ∧
      libValid t = true ∧ clipThere t i = true)) ∧
  (let s : State := (cl 1).arrive 59 (plo [2,0,0,0]); let q : PlReq := plo [2,0,0,0]; let p := q.payload; let v := field p 0 1;
   let i := field p 2 2;
   decide (plServes s 59 q = true ∧ pageServes s P.clip false = true ∧ (p.length = 4 ∧ field p 1 1 = 0) ∧ v = 2 ∧ (i < 64))) ∧
  (let s : State := (cl 1).arrive 59 (plo [3,0,0,0]); let q : PlReq := plo [3,0,0,0]; let p := q.payload; let v := field p 0 1;
   decide (plServes s 59 q = true ∧ pageServes s P.clip false = true ∧ (p.length = 4 ∧ field p 1 1 = 0) ∧ v = 3)) ∧
  (let s : State := (cl 1).arrive 59 (plo [0,0,0,0,0,0,0,0]); let q : PlReq := plo [0,0,0,0,0,0,0,0]; let p := q.payload;
   let v := field p 0 1; let i := field p 2 2;
   decide (plServes s 59 q = true ∧ pageServes s P.clip false = true ∧ (¬(p.length = 4 ∧ field p 1 1 = 0) ∨ 4 ≤ v ∨ v = 1 ∧ 4096 ≤ i ∨
      v ≠ 1 ∧ v ≠ 3 ∧ 64 ≤ i))) ∧
  (let s : State := (cl 1).onClip fun c => { c with heads := [(63, .own)] }; let u : Fin 64 := 63;
   let due : HeadFor → Prop := fun h => s.clip.heads.head? = some (↑u, h) ∧ s.domOn Dom.core = true ∧ pfMirror s = false;
   let h : HeadFor := .own; decide ((due h))) ∧
  (let s : State := cl 1; let u : Fin 64 := 0;
   decide ((Option.map (fun x => x.1) s.clip.heads.head? ≠ some ↑u ∨ s.domOn Dom.core = false ∨ pfMirror s = true))) ∧
  (let s : State := vo 63 { Voice.idle with st := 3 }; let u : Fin 64 := 63; let x : Voice := s.voice ↑u; let c := clipOf s x.clip;
   decide (((x.st = 3 ∨ x.st = 4) ∧ x.held = none ∧ s.domOn Dom.core = true ∧ x.got +
      1024 ≤ needed s c (x.pos * clipRate c.rate / 48000) + ringBytes s) ∧ pfMirror s = false)) ∧
  (let s : State := cl 1; let u : Fin 64 := 0; let x : Voice := s.voice ↑u; let c := clipOf s x.clip;
   decide ((¬((x.st = 3 ∨ x.st = 4) ∧ x.held = none ∧ s.domOn Dom.core = true ∧ x.got +
      1024 ≤ needed s c (x.pos * clipRate c.rate / 48000) + ringBytes s) ∨ pfMirror s = true))) ∧
  (let s : State := vo 63 { Voice.idle with st := 3, pos := 20 }; let u : Fin 64 := 63; let x : Voice := s.voice ↑u;
      let c := clipOf s x.clip;
   decide (((x.st = 3 ∨ x.st = 4) ∧ x.held = none ∧ (c.n = 0 ∨ ∃ m, playLen c x.rep = some m ∧ m ≤ x.pos * clipRate c.rate / 48000)))) ∧
  (let s : State := cl 1; let u : Fin 64 := 0; let x : Voice := s.voice ↑u; let c := clipOf s x.clip;
   decide ((¬((x.st = 3 ∨ x.st = 4) ∧ x.held = none ∧ (c.n = 0 ∨ ∃ m, playLen c x.rep = some m ∧
      m ≤ x.pos * clipRate c.rate / 48000))))) ∧
  (let s : State := vo 63 { Voice.idle with st := 4, after := some ⟨3, 4, true, none⟩ }; let u : Fin 64 := 63;
      let x : Voice := s.voice ↑u;
   let n : ClipNext := ⟨3, 4, true, none⟩; decide ((x.st = 4 ∧ ∀ (f : Fade), x.fade = some f → f.n ≤ f.i) ∧ x.after = some n)) ∧
  (let s : State := vo 63 { Voice.idle with st := 4, queue := some ⟨3, 4, true, none⟩ }; let u : Fin 64 := 63;
      let x : Voice := s.voice ↑u;
   let n : ClipNext := ⟨3, 4, true, none⟩;
   decide ((x.st = 4 ∧ ∀ (f : Fade), x.fade = some f → f.n ≤ f.i) ∧ x.after = none ∧ x.queue = some n)) ∧
  (let s : State := vo 63 { Voice.idle with st := 4, fade := some ⟨1, 2, 2⟩ }; let u : Fin 64 := 63; let x : Voice := s.voice ↑u;
   decide ((x.st = 4 ∧ ∀ (f : Fade), x.fade = some f → f.n ≤ f.i) ∧ x.after = none ∧ x.queue = none)) ∧
  (let s : State := cl 1; let u : Fin 64 := 0; let x : Voice := s.voice ↑u;
   decide ((¬(x.st = 4 ∧ ∀ (f : Fade), x.fade = some f → f.n ≤ f.i)))) ∧
  (let s : State := tn 63 runTone; let g : Fin 64 := 63; let x : Tone := s.tone ↑g;
   let n := (Option.map (fun x => x.segs.length) (tonePat s x.pat)).getD 0;
   decide ((x.run = true ∧ ∀ (e : ToneSeg), toneSeg s ↑g = some e → 48 * e.dur ≤ x.t) ∧ (x.seg + 1 < n))) ∧
  (let s : State := tn 63 { runTone with seg := 1, left := 3 }; let g : Fin 64 := 63; let x : Tone := s.tone ↑g;
   let n := (Option.map (fun x => x.segs.length) (tonePat s x.pat)).getD 0;
   decide ((x.run = true ∧ ∀ (e : ToneSeg), toneSeg s ↑g = some e → 48 * e.dur ≤ x.t) ∧ (n ≤ x.seg + 1) ∧ (x.left ≠ 0) ∧ (n ≠ 0))) ∧
  (let s : State := tn 63 { runTone with seg := 1, left := 0 }; let g : Fin 64 := 63; let x : Tone := s.tone ↑g;
   let n := (Option.map (fun x => x.segs.length) (tonePat s x.pat)).getD 0;
   decide ((x.run = true ∧ ∀ (e : ToneSeg), toneSeg s ↑g = some e → 48 * e.dur ≤ x.t) ∧ (n ≤ x.seg + 1) ∧ (x.left = 0 ∨ n = 0))) ∧
  (let s : State := cl 1; let g : Fin 64 := 0; let x : Tone := s.tone ↑g;
   decide ((¬(x.run = true ∧ ∀ (e : ToneSeg), toneSeg s ↑g = some e → 48 * e.dur ≤ x.t)))) := by
  refine ⟨?_, ?_, ?_, ?_, ?_, ?_, ?_, ?_, ?_, ?_, ?_, ?_, ?_, ?_, ?_, ?_, ?_, ?_, ?_, ?_, ?_, ?_, ?_, ?_, ?_, ?_, ?_, ?_, ?_, ?_,
      ?_⟩ <;> decide +kernel

theorem witness_ConvertersMeasure :
  (let s : State := trg 1; let n : Fin 2 := 1; let k : Fin 4 := 3; let trig : ℕ := s.getF (seqBase ↑n ↑k) F.MADC_SEQ_TRIG_TRIG;
   decide (seqOn s ↑n ↑k = true ∧ trig = 1)) ∧
  (let s : State := (trg 2).setSt (P.amp 0) 7; let n : Fin 2 := 1; let k : Fin 4 := 3;
   let trig : ℕ := s.getF (seqBase ↑n ↑k) F.MADC_SEQ_TRIG_TRIG; decide ((seqOn s ↑n ↑k = false ∨ trig ≠ 1))) ∧
  (let s : State := (trg 2).setSt (P.amp 0) 7; let n : Fin 2 := 1; let k : Fin 4 := 3;
   let trig : ℕ := s.getF (seqBase ↑n ↑k) F.MADC_SEQ_TRIG_TRIG;
   decide (seqOn s ↑n ↑k = true ∧ (trig = 2 ∧ ampLive s (getField (s.rd (seqBase ↑n ↑k + 260)) 26 24) = true))) ∧
  (let s : State := trg 1; let n : Fin 2 := 1; let k : Fin 4 := 3; let trig : ℕ := s.getF (seqBase ↑n ↑k) F.MADC_SEQ_TRIG_TRIG;
   decide ((seqOn s ↑n ↑k = false ∨ ¬(trig = 2 ∧ ampLive s (getField (s.rd (seqBase ↑n ↑k + 260)) 26 24) = true)))) ∧
  (let s : State := ((mad id).setF (seqBase 1 3) F.MADC_SEQ_CFG_DEST 2).onSys fun y => { y with mode := .idle }; let n : Fin 2 := 1;
   let k : ℕ := 3; decide ((s.sys.mode = PwrMode.idle ∧ seqDest s (↑n) k = 2))) ∧
  (let s : State := trg 1; let n : Fin 2 := 1; let k : ℕ := 3;
   decide ((¬(s.sys.mode = PwrMode.idle ∧ seqDest s (↑n) k = 2)) ∧ seqBusy s (↑n) k = false)) ∧
  (let s : State := mad fun m => { m with active := some ps }; let n : Fin 2 := 1; let k : ℕ := 3;
   let pol : ℕ := s.getF (seqBase (↑n) k) F.MADC_SEQ_CFG_POLICY;
   decide ((¬(s.sys.mode = PwrMode.idle ∧ seqDest s (↑n) k = 2)) ∧ seqBusy s (↑n) k = true ∧ (pol ≠ 1) ∧ (pol ≠ 2))) ∧
  (let s : State := madP 1 fun m => { m with active := some ps, held := [(3, false)] }; let n : Fin 2 := 1; let k : ℕ := 3;
   let pol : ℕ := s.getF (seqBase (↑n) k) F.MADC_SEQ_CFG_POLICY; let held : Bool := (s.conv ↑n).held.any fun h => h.1 == k;
   decide ((¬(s.sys.mode = PwrMode.idle ∧ seqDest s (↑n) k = 2)) ∧ seqBusy s (↑n) k = true ∧ pol = 1 ∧ held = true)) ∧
  (let s : State := madP 1 fun m => { m with active := some ps }; let n : Fin 2 := 1; let k : ℕ := 3;
   let pol : ℕ := s.getF (seqBase (↑n) k) F.MADC_SEQ_CFG_POLICY; let held : Bool := (s.conv ↑n).held.any fun h => h.1 == k;
   decide ((¬(s.sys.mode = PwrMode.idle ∧ seqDest s (↑n) k = 2)) ∧ seqBusy s (↑n) k = true ∧ pol = 1 ∧ held = false)) ∧
  (let s : State := madP 2 fun m => { m with active := some ps }; let n : Fin 2 := 1; let k : ℕ := 3;
   let pol : ℕ := s.getF (seqBase (↑n) k) F.MADC_SEQ_CFG_POLICY;
   decide ((¬(s.sys.mode = PwrMode.idle ∧ seqDest s (↑n) k = 2)) ∧ seqBusy s (↑n) k = true ∧ pol = 2)) ∧
  (let s : State := trg 1; let n : Fin 2 := 1; let r : Req := .spi; let a : ℕ := P.madc ↑n + 72; decide (served s r a = true)) ∧
  (let s : State := trg 1; let r : Req := .spi; let v : Word := 0; let a := P.madc 0 + 72; let t := s.wakeFor a;
      let w := setField v 8 8 1;
   decide (served s r a = true ∧ maskOn t 0 (getField w 3 0) = true)) ∧
  (let s : State := ready; let r : Req := .spi; let v : Word := 8; let a := P.madc 0 + 72; let t := s.wakeFor a;
      let w := setField v 8 8 1;
   decide (served s r a = true ∧ maskOn t 0 (getField w 3 0) = false)) ∧
  (let s : State := (trg 1).arrive 64 (plo []); let q : PlReq := plo []; let m := field q.payload 0 1; let k := field q.payload 1 1;
   let pg := P.madc (m % 2);
   decide (plServes s 64 q = true ∧ pageServes s pg true = true ∧ (¬(q.payload.length = 4 ∧ m < 2 ∧ k < 16 ∧ field q.payload 2 2 = 0)))) ∧
  (let s : State := (mad id).arrive 64 (plo [1, 8, 0, 0]); let q : PlReq := plo [1, 8, 0, 0]; let m := field q.payload 0 1;
   let k := field q.payload 1 1; let pg := P.madc (m % 2); let t := s.wakeFor pg;
   decide (plServes s 64 q = true ∧ pageServes s pg true = true ∧ (q.payload.length = 4 ∧ m < 2 ∧ k < 16 ∧ field q.payload 2 2 = 0) ∧
      maskOn t m k = true)) ∧
  (let s : State := (mad id).arrive 64 (plo [1, 7, 0, 0]); let q : PlReq := plo [1, 7, 0, 0]; let m := field q.payload 0 1;
   let k := field q.payload 1 1; let pg := P.madc (m % 2); let t := s.wakeFor pg;
   decide (plServes s 64 q = true ∧ pageServes s pg true = true ∧ (q.payload.length = 4 ∧ m < 2 ∧ k < 16 ∧ field q.payload 2 2 = 0) ∧
      maskOn t m k = false)) ∧
  (let s : State := mad fun m => { m with waiting := [(3, false)] }; let n : Fin 2 := 1; let m : Madc := s.conv ↑n;
   let w : ℕ × Bool := (3, false); decide (m.active = none ∧ m.susp = none ∧ nextSeq m.waiting = some w)) ∧
  (let s : State := trg 1; let n : Fin 2 := 1; let m : Madc := s.conv ↑n; decide (m.active = none ∧ m.susp = none ∧
      nextSeq m.waiting = none)) ∧
  (let s : State := mad fun m => { m with active := some ps, waiting := [(0, false)] }; let n : Fin 2 := 1; let m : Madc := s.conv ↑n;
   let p : Pass := ps; let ns : Bool := false; decide (m.active = some p ∧ m.susp = none ∧ nextSeq m.waiting = some (0, ns) ∧
      (p.seq ≠ 0))) ∧
  (let s : State := mad fun m => { m with active := some ps }; let n : Fin 2 := 1; let m : Madc := s.conv ↑n;
   let p : Pass := { seq := 3, entry := 0, ns := false, ending := false };
   decide (m.active = some p ∧ m.susp = none ∧ (p.seq = 0 ∨ ∀ (ns : Bool), nextSeq m.waiting ≠ some (0, ns)))) ∧
  (let s : State := mad fun m => { m with susp := some ps }; let n : Fin 2 := 1; let m : Madc := s.conv ↑n;
      decide (m.susp.isSome = true)) ∧
  (let s : State := trg 1; let n : Fin 2 := 1; decide ((s.conv ↑n).active = none)) ∧
  (let s : State := mad fun m => { m with active := some { ps with ending := true } }; let n : Fin 2 := 1;
   let p : Pass := { ps with ending := true }; decide ((s.conv ↑n).active = some p ∧ p.ending = true)) ∧
  (let s : State := (mad fun m => { m with active := some ps }).setF (seqBase 1 3) F.MADC_SEQ_CFG_LEN 1; let n : Fin 2 := 1;
   let codes : List (BitVec 14) := [0#14]; let p : Pass := ps; let left : ℕ := s.getF (seqBase (↑n) p.seq) F.MADC_SEQ_CFG_LEN - p.entry;
   decide ((s.conv ↑n).active = some p ∧ p.ending = false ∧ codes.length = left)) ∧
  (let s : State := mad fun m => { m with active := some ps }; let n : Fin 2 := 1; let codes : List (BitVec 14) := [];
   let p : Pass := { seq := 3, entry := 0, ns := false, ending := false };
   let left : ℕ := s.getF (seqBase (↑n) p.seq) F.MADC_SEQ_CFG_LEN - p.entry;
   decide ((s.conv ↑n).active = some p ∧ p.ending = false ∧ (codes.length ≠ left))) ∧
  (let s : State := trg 1; let n : Fin 2 := 1; decide ((refOk s ↑n = false ∧ s.domOn Dom.analog = true ∧ s.sys.held = false))) ∧
  (let s : State := (mad id).setF (P.madc 1) F.MADC_REF_REF_OK 1; let n : Fin 2 := 1;
   decide ((¬(refOk s ↑n = false ∧ s.domOn Dom.analog = true ∧ s.sys.held = false)))) ∧
  (let s : State := trg 1; let n : Fin 2 := 1;
   decide ((s.isSet (P.madc ↑n) F.MADC_CFG_CAL = true ∧ s.en (P.madc ↑n) = true ∧ s.domOn Dom.analog = true ∧ ∀ k : Fin 4,
      seqBusy s (↑n) k.val = false))) ∧
  (let s : State := mad fun m => { m with active := some ps }; let n : Fin 2 := 1;
   decide ((¬(s.isSet (P.madc ↑n) F.MADC_CFG_CAL = true ∧ s.en (P.madc ↑n) = true ∧ s.domOn Dom.analog = true ∧ ∀ k : Fin 4,
      seqBusy s (↑n) k.val = false)))) := by
  refine ⟨?_, ?_, ?_, ?_, ?_, ?_, ?_, ?_, ?_, ?_, ?_, ?_, ?_, ?_, ?_, ?_, ?_, ?_, ?_, ?_, ?_, ?_, ?_, ?_, ?_, ?_, ?_, ?_,
      ?_⟩ <;> decide +kernel

theorem witness_LinesAreSupervised :
  (let s : State := lv.setSt P.lsv 3; let r : Req := .spi; let v : Word := 0; let a := P.lsv + 64;
   let good := fun w => 1 ≤ getField w 27 24 ∧ getField w 27 24 ≤ 10 ∧ 1 ≤ getField w 23 20 ∧ getField w 23 20 ≤ 10 ∧
      5 ≤ getField w 19 12 ∧ 1 ≤ getField w 11 8;
   let on := setField v 31 31 1; decide (served s r a = true ∧ (¬good on))) ∧
  (let s : State := lv.setSt P.lsv 3; let r : Req := .spi; let v : Word := 0; let a := P.lsv + 64;
   let good := fun w => 1 ≤ getField w 27 24 ∧ getField w 27 24 ≤ 10 ∧ 1 ≤ getField w 23 20 ∧ getField w 23 20 ≤ 10 ∧
      5 ≤ getField w 19 12 ∧ 1 ≤ getField w 11 8;
   let off := setField v 31 31 0; decide (served s r a = true ∧ (¬good off))) ∧
  (let s : State := lvT; let r : Req := .spi; let v : Word := lvw; let a := P.lsv + 64; let t := s.wakeFor a;
   let good := fun w => 1 ≤ getField w 27 24 ∧ getField w 27 24 ≤ 10 ∧ 1 ≤ getField w 23 20 ∧ getField w 23 20 ≤ 10 ∧
      5 ≤ getField w 19 12 ∧ 1 ≤ getField w 11 8;
   let on := setField v 31 31 1; decide (served s r a = true ∧ (good on) ∧ t.lsv.test.isSome = true)) ∧
  (let s : State := lvT; let r : Req := .spi; let v : Word := lvw; let a := P.lsv + 64; let t := s.wakeFor a;
   let good := fun w => 1 ≤ getField w 27 24 ∧ getField w 27 24 ≤ 10 ∧ 1 ≤ getField w 23 20 ∧ getField w 23 20 ≤ 10 ∧
      5 ≤ getField w 19 12 ∧ 1 ≤ getField w 11 8;
   let off := setField v 31 31 0; decide (served s r a = true ∧ (good off) ∧ t.lsv.test.isSome = true)) ∧
  (let s : State := lv.setF P.lsv F.LSV_INFO_CORE 3; let r : Req := .spi; let v : Word := lvw; let a := P.lsv + 64; let t := s.wakeFor a;
   let was := t.isSet P.lsv F.LSV_CFG_EN;
   let good := fun w => 1 ≤ getField w 27 24 ∧ getField w 27 24 ≤ 10 ∧ 1 ≤ getField w 23 20 ∧ getField w 23 20 ≤ 10 ∧
      5 ≤ getField w 19 12 ∧ 1 ≤ getField w 11 8;
   let on := setField v 31 31 1; decide (served s r a = true ∧ (good on) ∧ t.lsv.test = none ∧ was = false ∧
      (lsvStart t).1 = Code.done)) ∧
  (let s : State := lv.setF P.lsv F.LSV_INFO_CORE 31; let r : Req := .spi; let v : Word := lvw; let a := P.lsv + 64; let t := s.wakeFor a;
   let was := t.isSet P.lsv F.LSV_CFG_EN;
   let good := fun w => 1 ≤ getField w 27 24 ∧ getField w 27 24 ≤ 10 ∧ 1 ≤ getField w 23 20 ∧ getField w 23 20 ≤ 10 ∧
      5 ≤ getField w 19 12 ∧ 1 ≤ getField w 11 8;
   let on := setField v 31 31 1; decide (served s r a = true ∧ (good on) ∧ t.lsv.test = none ∧ was = false ∧
      ((lsvStart t).1 ≠ Code.done))) ∧
  (let s : State := lvOn; let r : Req := .spi; let v : Word := lvw; let a := P.lsv + 64; let t := s.wakeFor a;
   let was := t.isSet P.lsv F.LSV_CFG_EN;
   let good := fun w => 1 ≤ getField w 27 24 ∧ getField w 27 24 ≤ 10 ∧ 1 ≤ getField w 23 20 ∧ getField w 23 20 ≤ 10 ∧
      5 ≤ getField w 19 12 ∧ 1 ≤ getField w 11 8;
   let on := setField v 31 31 1; decide (served s r a = true ∧ (good on) ∧ t.lsv.test = none ∧ was = true)) ∧
  (let s : State := lv.setF P.lsv F.LSV_INFO_CORE 3; let r : Req := .spi; let v : Word := lvw; let a := P.lsv + 64; let t := s.wakeFor a;
   let good := fun w => 1 ≤ getField w 27 24 ∧ getField w 27 24 ≤ 10 ∧ 1 ≤ getField w 23 20 ∧ getField w 23 20 ≤ 10 ∧
      5 ≤ getField w 19 12 ∧ 1 ≤ getField w 11 8;
   let off := setField v 31 31 0; decide (served s r a = true ∧ (good off) ∧ t.lsv.test = none)) ∧
  (let s : State := lv.setF P.lsv F.LSV_INFO_CORE 31;
   decide ((s.getF P.lsv F.LSV_INFO_CORE = 31 ∨ s.en P.lsv = false ∨ s.isSet (seqBase 0 3) F.MADC_SEQ_CFG_EN = true ∨
      s.isSet (seqBase 1 3) F.MADC_SEQ_CFG_EN = true))) ∧
  (let s : State := lvFull3; let taps := tapAll (List.map (fun x => 960 + x) (List.filter (supervised s) (List.range 8))) (s, []);
   decide ((¬(s.getF P.lsv F.LSV_INFO_CORE = 31 ∨ s.en P.lsv = false ∨ s.isSet (seqBase 0 3) F.MADC_SEQ_CFG_EN = true ∨
      s.isSet (seqBase 1 3) F.MADC_SEQ_CFG_EN = true)) ∧ taps = none)) ∧
  (let s : State := lv.setF P.lsv F.LSV_INFO_CORE 3;
   let taps := tapAll (List.map (fun x => 960 + x) (List.filter (supervised s) (List.range 8))) (s, []);
   decide ((¬(s.getF P.lsv F.LSV_INFO_CORE = 31 ∨ s.en P.lsv = false ∨ s.isSet (seqBase 0 3) F.MADC_SEQ_CFG_EN = true ∨
      s.isSet (seqBase 1 3) F.MADC_SEQ_CFG_EN = true)) ∧ taps.isSome = true)) ∧
  (let s : State := lv.setSt P.lsv 3; decide (s.st P.lsv = 3 ∧ s.sys.mode = PwrMode.run)) ∧
  (let s : State := lv.setF P.lsv F.LSV_INFO_CORE 3; decide ((s.st P.lsv ≠ 3 ∨ s.sys.mode ≠ PwrMode.run))) ∧
  (let s : State := lv; let r : Req := .spi; let c : Fin 8 := 7; let v : Word := 0x01000000; let a : ℕ := lineBase ↑c + 128;
   let w := setField v 30 30 1;
   decide (served s r a = true ∧ ((getField w 15 0 = 0 ∨ 100 ≤ getField w 15 0 ∧ getField w 15 0 ≤ 10000) ∧ 1 ≤ getField w 27 24 ∧
      getField w 27 24 ≤ 8))) ∧
  (let s : State := lv.setF P.lsv F.LSV_INFO_CORE 3; let r : Req := .spi; let c : Fin 8 := 0; let v : Word := lvw;
   let a : ℕ := lineBase ↑c + 128; let w := setField v 30 30 1;
   decide (served s r a = true ∧ (¬((getField w 15 0 = 0 ∨ 100 ≤ getField w 15 0 ∧ getField w 15 0 ≤ 10000) ∧ 1 ≤ getField w 27 24 ∧
      getField w 27 24 ≤ 8)))) ∧
  (let s : State := (lv.setF P.lsv F.LSV_INFO_CORE 3).arrive 65 (plo []); let q : PlReq := plo []; let p := q.payload;
      let c := field p 0 1;
   decide (plServes s 65 q = true ∧ pageServes s P.lsv false = true ∧ (¬(p.length = 4 ∧ field p 1 3 = 0 ∧ (c < 8 ∨ c = 255))))) ∧
  (let s : State := (lv).arrive 65 (plo [7,0,0,0]); let q : PlReq := plo [7,0,0,0]; let p := q.payload; let c := field p 0 1;
   decide (plServes s 65 q = true ∧ pageServes s P.lsv false = true ∧ (p.length = 4 ∧ field p 1 3 = 0 ∧ (c < 8 ∨ c = 255)) ∧ (c < 8))) ∧
  (let s : State := (lv).arrive 65 (plo [0xFF,0,0,0]); let q : PlReq := plo [0xFF,0,0,0]; let p := q.payload; let c := field p 0 1;
   decide (plServes s 65 q = true ∧ pageServes s P.lsv false = true ∧ (p.length = 4 ∧ field p 1 3 = 0 ∧ (c < 8 ∨ c = 255)) ∧ c = 255)) ∧
  (let s : State := (lv.setF P.lsv F.LSV_INFO_CORE 3).arrive 66 (plo []); let q : PlReq := plo []; let p := q.payload;
      let c := field p 0 1;
   let m := field p 1 1; let lev := field p 2 1;
   decide (plServes s 66 q = true ∧ pageServes s P.lsv true = true ∧ (¬(p.length = 4 ∧ c ≤ 2 ∧ (c = 1 ∨ m ≠ 0) ∧ 6 ≤ lev ∧ lev ≤ 40 ∧
      field p 3 1 = 0)))) ∧
  (let s : State := (lv.setSt P.lsv 3).arrive 66 (plo [1,0,6,0]); let q : PlReq := plo [1,0,6,0]; let p := q.payload;
      let c := field p 0 1;
   let m := field p 1 1; let lev := field p 2 1; let t := s.wakeFor P.lsv; let need := if c = 1 then 4 else 3;
   decide (plServes s 66 q = true ∧ pageServes s P.lsv true = true ∧ (p.length = 4 ∧ c ≤ 2 ∧ (c = 1 ∨ m ≠ 0) ∧ 6 ≤ lev ∧ lev ≤ 40 ∧
      field p 3 1 = 0) ∧ (t.st P.lsv ≠ need))) ∧
  (let s : State := (lv.setSt P.lsv 3).arrive 66 (plo [0,1,6,0]); let q : PlReq := plo [0,1,6,0]; let p := q.payload;
      let c := field p 0 1;
   let m := field p 1 1; let lev := field p 2 1; let t := s.wakeFor P.lsv; let need := if c = 1 then 4 else 3;
   decide (plServes s 66 q = true ∧ pageServes s P.lsv true = true ∧ (p.length = 4 ∧ c ≤ 2 ∧ (c = 1 ∨ m ≠ 0) ∧ 6 ≤ lev ∧ lev ≤ 40 ∧
      field p 3 1 = 0) ∧ t.st P.lsv = need)) ∧
  (let s : State := lv.onLsv fun l => { l with test := some z1 }; let x : SelfTest := z1; let z : ℕ := 0; let cnt : ℕ := 0;
   decide (s.lsv.test = some x ∧ x.zone = some (z, cnt))) ∧
  (let s : State := lv.setF P.lsv F.LSV_INFO_CORE 3; decide ((s.lsv.test = none ∨ ∃ x, s.lsv.test = some x ∧ x.zone = none))) := by
  refine ⟨?_, ?_, ?_, ?_, ?_, ?_, ?_, ?_, ?_, ?_, ?_, ?_, ?_, ?_, ?_, ?_, ?_, ?_, ?_, ?_, ?_, ?_, ?_⟩ <;> decide +kernel

theorem witness_ImagesAreUpdated :
  (let s : State := (imS ses).arrive 98 (plo [3,0,0,0,9]); let q : PlReq := plo [3,0,0,0,9]; let p := q.payload; let t := s.wakeFor P.kpr;
   let tg := field p 0 1; let d := sessionDest t tg; let n := field p 4 4;
   let code := if p.length ≠ 8 ∨ 1 < tg ∨ field p 1 3 ≠ 0 then Code.range else if flsReady t = true ∧ (n < 128 ∨
      sizeMax t tg d < n) then Code.range else if t.sys.recovery = false ∧
      t.isSet P.kpr F.KPR_BOOT_TRIAL = true then Code.state else if flsReady t = false then Code.state else if t.kpr.session.isSome = true ∨
      t.kpr.verify.isSome = true then Code.busy else Code.done;
   decide (plServes s 98 q = true ∧ pageServes s P.kpr true = true ∧ (code ≠ Code.done))) ∧
  (let s : State := (im1).arrive 98 (plo ([0,0,0,0] ++ leBytes 4 128)); let q : PlReq := plo ([0,0,0,0] ++ leBytes 4 128);
      let p := q.payload;
   let t := s.wakeFor P.kpr; let tg := field p 0 1; let d := sessionDest t tg; let n := field p 4 4;
   let code := if p.length ≠ 8 ∨ 1 < tg ∨ field p 1 3 ≠ 0 then Code.range else if flsReady t = true ∧ (n < 128 ∨
      sizeMax t tg d < n) then Code.range else if t.sys.recovery = false ∧
      t.isSet P.kpr F.KPR_BOOT_TRIAL = true then Code.state else if flsReady t = false then Code.state else if t.kpr.session.isSome = true ∨
      t.kpr.verify.isSome = true then Code.busy else Code.done;
   decide (plServes s 98 q = true ∧ pageServes s P.kpr true = true ∧ code = Code.done)) ∧
  (let s : State := (im0).arrive 99 (plo [1,0,0,0]); let q : PlReq := plo [1,0,0,0]; let p := q.payload; let t := s.wakeFor P.kpr;
   decide (plServes s 99 q = true ∧ pageServes s P.kpr true = true ∧ t.kpr.session = none ∧ (p.length < 5 ∨ 240 < p.length))) ∧
  (let s : State := (im1).arrive 99 (plo ([0,0,0,0] ++ leBytes 4 128)); let q : PlReq := plo ([0,0,0,0] ++ leBytes 4 128);
      let p := q.payload;
   let t := s.wakeFor P.kpr;
   decide (plServes s 99 q = true ∧ pageServes s P.kpr true = true ∧ t.kpr.session = none ∧ (¬(p.length < 5 ∨ 240 < p.length)))) ∧
  (let s : State := (imS ses1).arrive 99 (plo [0,0,0,0]); let q : PlReq := plo [0,0,0,0]; let p := q.payload; let t := s.wakeFor P.kpr;
   let n := t.getF P.kpr F.KPR_IMG_BYTES_BYTES; let off := field p 0 4; let d := List.drop 4 p; let e : Session := ses1;
   decide (plServes s 99 q = true ∧ pageServes s P.kpr true = true ∧ t.kpr.session = some e ∧ (¬(¬(p.length < 5 ∨ 240 < p.length) ∧ (off +
      d.length ≤ n ∧ List.take d.length (List.drop off e.data) = d ∨ off = n ∧ n + d.length ≤ e.size))))) ∧
  (let s : State := (imS ses).arrive 99 (plo [3,0,0,0,9]); let q : PlReq := plo [3,0,0,0,9]; let p := q.payload; let t := s.wakeFor P.kpr;
   let o := viaOwner q.via; let n := t.getF P.kpr F.KPR_IMG_BYTES_BYTES; let off := field p 0 4; let d := List.drop 4 p;
   let e : Session := ses;
   decide (plServes s 99 q = true ∧ pageServes s P.kpr true = true ∧ t.kpr.session = some e ∧ (¬(p.length < 5 ∨ 240 < p.length) ∧ (off +
      d.length ≤ n ∧ List.take d.length (List.drop off e.data) = d ∨ off = n ∧ n + d.length ≤ e.size)) ∧ (o ≠ (e.req, e.key)))) ∧
  (let s : State := (imS sesP).arrive 99 (dat 0 [1, 2]); let q : PlReq := dat 0 [1, 2]; let p := q.payload; let t := s.wakeFor P.kpr;
   let o := viaOwner q.via; let n := t.getF P.kpr F.KPR_IMG_BYTES_BYTES; let off := field p 0 4; let d := List.drop 4 p;
   let e : Session := sesP;
   decide (plServes s 99 q = true ∧ pageServes s P.kpr true = true ∧ t.kpr.session = some e ∧ (¬(p.length < 5 ∨ 240 < p.length) ∧ (off +
      d.length ≤ n ∧ List.take d.length (List.drop off e.data) = d ∨ off = n ∧ n + d.length ≤ e.size)) ∧ o = (e.req, e.key) ∧ (off +
      d.length ≤ n ∧ List.take d.length (List.drop off e.data) = d))) ∧
  (let s : State := (imS sesP).arrive 99 (dat 3 [9]); let q : PlReq := dat 3 [9]; let p := q.payload; let t := s.wakeFor P.kpr;
   let o := viaOwner q.via; let n := t.getF P.kpr F.KPR_IMG_BYTES_BYTES; let off := field p 0 4; let d := List.drop 4 p;
   let er : Bool := true; let e : Session := sesP;
   decide (plServes s 99 q = true ∧ pageServes s P.kpr true = true ∧ t.kpr.session = some e ∧ (¬(p.length < 5 ∨ 240 < p.length) ∧ (off +
      d.length ≤ n ∧ List.take d.length (List.drop off e.data) = d ∨ off = n ∧ n + d.length ≤ e.size)) ∧ o = (e.req, e.key) ∧ (¬(off +
      d.length ≤ n ∧ List.take d.length (List.drop off e.data) = d)) ∧ er = true)) ∧
  (let s : State := (imS sesP).arrive 99 (dat 3 [9]); let q : PlReq := dat 3 [9]; let p := q.payload; let t := s.wakeFor P.kpr;
   let o := viaOwner q.via; let n := t.getF P.kpr F.KPR_IMG_BYTES_BYTES; let off := field p 0 4; let d := List.drop 4 p;
   let er : Bool := false; let e : Session := sesP;
   decide (plServes s 99 q = true ∧ pageServes s P.kpr true = true ∧ t.kpr.session = some e ∧ (¬(p.length < 5 ∨ 240 < p.length) ∧ (off +
      d.length ≤ n ∧ List.take d.length (List.drop off e.data) = d ∨ off = n ∧ n + d.length ≤ e.size)) ∧ o = (e.req, e.key) ∧ (¬(off +
      d.length ≤ n ∧ List.take d.length (List.drop off e.data) = d)) ∧ er = false)) ∧
  (let s : State := (im1).arrive 100 (plo ([0,0,0,0] ++ leBytes 4 128)); let q : PlReq := plo ([0,0,0,0] ++ leBytes 4 128);
   let p := q.payload;
   decide (plServes s 100 q = true ∧ pageServes s P.kpr true = true ∧ (¬(p.length = 4 ∧ field p 0 1 ≤ 1 ∧ field p 1 1 ≤ 1 ∧
      field p 2 1 ≤ 1 ∧ field p 3 1 ≤ 1)))) ∧
  (let s : State := (im0).arrive 100 (plo [0,0,0,0]); let q : PlReq := plo [0,0,0,0]; let p := q.payload; let t := s.wakeFor P.kpr;
   decide (plServes s 100 q = true ∧ pageServes s P.kpr true = true ∧ (p.length = 4 ∧ field p 0 1 ≤ 1 ∧ field p 1 1 ≤ 1 ∧
      field p 2 1 ≤ 1 ∧ field p 3 1 ≤ 1) ∧ field p 0 1 = 0 ∧ t.kpr.session = none)) ∧
  (let s : State := (imS ses1).arrive 100 (plo [0,0,0,0]); let q : PlReq := plo [0,0,0,0]; let p := q.payload; let t := s.wakeFor P.kpr;
   let o := viaOwner q.via; let e : Session := ses1;
   decide (plServes s 100 q = true ∧ pageServes s P.kpr true = true ∧ (p.length = 4 ∧ field p 0 1 ≤ 1 ∧ field p 1 1 ≤ 1 ∧
      field p 2 1 ≤ 1 ∧ field p 3 1 ≤ 1) ∧ field p 0 1 = 0 ∧ t.kpr.session = some e ∧ (o ≠ (e.req, e.key)))) ∧
  (let s : State := (imV (imS sesP)).arrive 100 (plo [0,0,0,0]); let q : PlReq := plo [0,0,0,0]; let p := q.payload;
      let t := s.wakeFor P.kpr;
   let o := viaOwner q.via; let e : Session := sesP;
   decide (plServes s 100 q = true ∧ pageServes s P.kpr true = true ∧ (p.length = 4 ∧ field p 0 1 ≤ 1 ∧ field p 1 1 ≤ 1 ∧
      field p 2 1 ≤ 1 ∧ field p 3 1 ≤ 1) ∧ field p 0 1 = 0 ∧ t.kpr.session = some e ∧ o = (e.req, e.key) ∧ t.kpr.verify.isSome = true)) ∧
  (let s : State := (imS sesP).arrive 100 (plo [0,0,0,0]); let q : PlReq := plo [0,0,0,0]; let p := q.payload; let t := s.wakeFor P.kpr;
   let o := viaOwner q.via; let e : Session := sesP;
   decide (plServes s 100 q = true ∧ pageServes s P.kpr true = true ∧ (p.length = 4 ∧ field p 0 1 ≤ 1 ∧ field p 1 1 ≤ 1 ∧
      field p 2 1 ≤ 1 ∧ field p 3 1 ≤ 1) ∧ field p 0 1 = 0 ∧ t.kpr.session = some e ∧ o = (e.req, e.key) ∧ t.kpr.verify = none ∧
      (e.data.length ≠ e.size))) ∧
  (let s : State := (imS sesQ).arrive 100 (plo [0,0,0,0]); let q : PlReq := plo [0,0,0,0]; let p := q.payload; let t := s.wakeFor P.kpr;
   let o := viaOwner q.via; let e : Session := sesQ;
   decide (plServes s 100 q = true ∧ pageServes s P.kpr true = true ∧ (p.length = 4 ∧ field p 0 1 ≤ 1 ∧ field p 1 1 ≤ 1 ∧
      field p 2 1 ≤ 1 ∧ field p 3 1 ≤ 1) ∧ field p 0 1 = 0 ∧ t.kpr.session = some e ∧ o = (e.req, e.key) ∧ t.kpr.verify = none ∧
      e.data.length = e.size)) ∧
  (let s : State := (imV im0).arrive 100 (plo [1,0,0,0]); let q : PlReq := plo [1,0,0,0]; let p := q.payload; let t := s.wakeFor P.kpr;
   decide (plServes s 100 q = true ∧ pageServes s P.kpr true = true ∧ (p.length = 4 ∧ field p 0 1 ≤ 1 ∧ field p 1 1 ≤ 1 ∧
      field p 2 1 ≤ 1 ∧ field p 3 1 ≤ 1) ∧ field p 0 1 = 1 ∧ t.kpr.verify.isSome = true)) ∧
  (let s : State := (ready.setSt P.fls 2).arrive 100 (plo [1,0,0,0]); let q : PlReq := plo [1,0,0,0]; let p := q.payload;
   let t := s.wakeFor P.kpr;
   decide (plServes s 100 q = true ∧ pageServes s P.kpr true = true ∧ (p.length = 4 ∧ field p 0 1 ≤ 1 ∧ field p 1 1 ≤ 1 ∧
      field p 2 1 ≤ 1 ∧ field p 3 1 ≤ 1) ∧ field p 0 1 = 1 ∧ t.kpr.verify = none ∧ flsReady t = false)) ∧
  (let s : State := (im0).arrive 100 (plo [1,0,0,0]); let q : PlReq := plo [1,0,0,0]; let p := q.payload; let t := s.wakeFor P.kpr;
   decide (plServes s 100 q = true ∧ pageServes s P.kpr true = true ∧ (p.length = 4 ∧ field p 0 1 ≤ 1 ∧ field p 1 1 ≤ 1 ∧
      field p 2 1 ≤ 1 ∧ field p 3 1 ≤ 1) ∧ field p 0 1 = 1 ∧ t.kpr.verify = none ∧ flsReady t = true)) ∧
  (let s : State := im1; decide ((s.kpr.verify = none ∨ keeperRuns s = false))) ∧
  (let s : State := imR fun k => { k with verify := some vf }; let v : Verify := vf; decide (s.kpr.verify = some v ∧
      keeperRuns s = true)) ∧
  (let s : State := imS ses; let e : Session := ses; decide (keeperRuns s = true ∧ s.kpr.session = some e)) ∧
  (let s : State := im1; decide ((keeperRuns s = false ∨ s.kpr.session = none))) ∧
  (let s : State := (im1).arrive 101 (plo ([0,0,0,0] ++ leBytes 4 128)); let q : PlReq := plo ([0,0,0,0] ++ leBytes 4 128);
   let p := q.payload; decide (plServes s 101 q = true ∧ pageServes s P.kpr true = true ∧ (p ≠ []))) ∧
  (let s : State := (imR fun k => { k with verify := some vf }).arrive 101 (plo []); let q : PlReq := plo []; let p := q.payload;
   let t := s.wakeFor P.kpr;
   decide (plServes s 101 q = true ∧ pageServes s P.kpr true = true ∧ p = [] ∧ t.isSet P.kpr F.KPR_BOOT_TRIAL = false)) ∧
  (let s : State := (im0.setF P.kpr F.KPR_BOOT_TRIAL 1).arrive 101 (plo []); let q : PlReq := plo []; let p := q.payload;
   let t := s.wakeFor P.kpr;
   decide (plServes s 101 q = true ∧ pageServes s P.kpr true = true ∧ p = [] ∧ t.isSet P.kpr F.KPR_BOOT_TRIAL = true)) ∧
  (let s : State := im0; let r : Req := .plostoUdp; let a := P.kpr + 144; decide (served s r a = true ∧ (3 < r.code))) ∧
  (let s : State := im1; let r : Req := .spi; let v : Word := 0; let a := P.kpr + 144; let w := setField v 9 8 1; let k := getField w 1 0;
   decide (served s r a = true ∧ (r.code ≤ 3) ∧ (¬(getField w 31 24 = 92 ∧ k ≠ 0)))) ∧
  (let s : State := { im0 with otp := { im0.otp with prog := 2 } }; let r : Req := .spi; let v : Word := 0x5C000001; let a := P.kpr + 144;
   let t := s.wakeFor a; let w := setField v 9 8 1; let k := getField w 1 0;
   decide (served s r a = true ∧ (r.code ≤ 3) ∧ (getField w 31 24 = 92 ∧ k ≠ 0) ∧ otpBit t.otp.prog k = true)) ∧
  (let s : State := im0.setF P.kpr F.KPR_OTP_CTRL_BUSY 1; let r : Req := .spi; let v : Word := 0x5C000001; let a := P.kpr + 144;
   let t := s.wakeFor a; let busy := t.isSet P.kpr F.KPR_OTP_CTRL_BUSY; let w := setField v 9 8 1; let k := getField w 1 0;
   decide (served s r a = true ∧ (r.code ≤ 3) ∧ (getField w 31 24 = 92 ∧ k ≠ 0) ∧ otpBit t.otp.prog k = false ∧ busy = true)) ∧
  (let s : State := im0; let r : Req := .spi; let v : Word := 0x5C000001; let a := P.kpr + 144; let t := s.wakeFor a;
   let busy := t.isSet P.kpr F.KPR_OTP_CTRL_BUSY; let w := setField v 9 8 1; let k := getField w 1 0;
   decide (served s r a = true ∧ (r.code ≤ 3) ∧ (getField w 31 24 = 92 ∧ k ≠ 0) ∧ otpBit t.otp.prog k = false ∧ busy = false)) ∧
  (let s : State := im1; let r : Req := .spi; let v : Word := 0; let a := P.kpr + 144; let w := setField v 9 8 2; let k := getField w 1 0;
   decide (served s r a = true ∧ (r.code ≤ 3) ∧ (¬(getField w 31 24 = 92 ∧ k ≠ 0)))) ∧
  (let s : State := im0.setF P.kpr F.KPR_BOOT_KEYSLOT 1; let r : Req := .spi; let v : Word := 0x5C000001; let a := P.kpr + 144;
   let t := s.wakeFor a; let w := setField v 9 8 2; let k := getField w 1 0;
   decide (served s r a = true ∧ (r.code ≤ 3) ∧ (getField w 31 24 = 92 ∧ k ≠ 0) ∧ t.getF P.kpr F.KPR_BOOT_KEYSLOT = k)) ∧
  (let s : State := im0.setF P.kpr F.KPR_OTP_CTRL_BUSY 1; let r : Req := .spi; let v : Word := 0x5C000001; let a := P.kpr + 144;
   let t := s.wakeFor a; let busy := t.isSet P.kpr F.KPR_OTP_CTRL_BUSY; let w := setField v 9 8 2; let k := getField w 1 0;
   decide (served s r a = true ∧ (r.code ≤ 3) ∧ (getField w 31 24 = 92 ∧ k ≠ 0) ∧ (t.getF P.kpr F.KPR_BOOT_KEYSLOT ≠ k) ∧ busy = true)) ∧
  (let s : State := im0; let r : Req := .spi; let v : Word := 0x5C000001; let a := P.kpr + 144; let t := s.wakeFor a;
   let busy := t.isSet P.kpr F.KPR_OTP_CTRL_BUSY; let w := setField v 9 8 2; let k := getField w 1 0;
   decide (served s r a = true ∧ (r.code ≤ 3) ∧ (getField w 31 24 = 92 ∧ k ≠ 0) ∧ (t.getF P.kpr F.KPR_BOOT_KEYSLOT ≠ k) ∧ busy = false)) ∧
  (let s : State := im1; decide (s.kpr.otpOp = none)) ∧
  (let s : State := imR fun k => { k with otpOp := some (3, []) }; let k : ℕ := 3; let h : List Byte := [];
   decide (s.kpr.otpOp = some (k, h))) := by
  refine ⟨?_, ?_, ?_, ?_, ?_, ?_, ?_, ?_, ?_, ?_, ?_, ?_, ?_, ?_, ?_, ?_, ?_, ?_, ?_, ?_, ?_, ?_, ?_, ?_, ?_, ?_, ?_, ?_, ?_, ?_, ?_, ?_,
      ?_, ?_, ?_, ?_⟩ <;> decide +kernel

theorem witness_TheKeeperBoots :
  (let s : State := ready; decide ((s.sys.held = true ∨ s.sys.service = true ∨ s.sys.mode ≠ PwrMode.run))) := by
  decide +kernel

theorem witness_TheBlackBoxKeepsRecords :
  (let s : State := { ready with bbxQueue := [rec0] }; decide (keeperRuns s = true ∧ s.bbxQueue.isEmpty = false)) ∧
  (let s : State := bbm; decide ((keeperRuns s = false ∨ s.bbxQueue = []))) ∧
  (let s : State := bbm;
   decide ((keeperRuns s = true ∧ mirrors s = true ∧ (s.mram.mirDue = true ∨ 64 ≤ (mirWaiting s).length) ∧ mirWaiting s ≠ [] ∧
      (pfMirror s = true ∨ writeTurn s = true)))) ∧
  (let s : State := { ready with bbxQueue := [rec0] };
   decide ((¬(keeperRuns s = true ∧ mirrors s = true ∧ (s.mram.mirDue = true ∨ 64 ≤ (mirWaiting s).length) ∧ mirWaiting s ≠ [] ∧
      (pfMirror s = true ∨ writeTurn s = true))))) ∧
  (let s : State := bbm; decide (keeperRuns s = true ∧ flsReady s = true ∧ writeTurn s = true)) ∧
  (let s : State := { ready with bbxQueue := [rec0] }; decide ((keeperRuns s = false ∨ flsReady s = false ∨ writeTurn s = false))) ∧
  (let s : State := ({ ready with bbxQueue := [rec0] }).arrive 96 (plo []); let q : PlReq := plo []; let p := q.payload;
   let mode := field p 0 1;
   decide (plServes s 96 q = true ∧ pageServes s P.bbx false = true ∧ (¬(p.length = 12 ∧ mode ≤ 2 ∧ field p 1 1 ≤ 1 ∧ 1 ≤ field p 2 1 ∧
      field p 2 1 ≤ 3 ∧ field p 3 1 = 0 ∧ field p 10 2 = 0)))) ∧
  (let s : State := (bb []).arrive 96 (plo ([0,0,1,0] ++ leBytes 8 1)); let q : PlReq := plo ([0,0,1,0] ++ leBytes 8 1);
      let p := q.payload;
   let t := s.wakeFor P.bbx; let mode := field p 0 1;
   let all := List.foldl (fun l r => putSeq r l) [] (if field p 1 1 = 0 then ringRecs t else mirrorRecs t);
   let l := if mode = 1 then all.reverse else List.filter (fun r => decide (field p 4 8 ≤ r.seq) && (mode == 0 || r.st == RecState.pinned)) all;
   let o := takeSound (field p 2 1) l; let got := if mode = 1 then o.1.reverse else o.1;
   decide (plServes s 96 q = true ∧ pageServes s P.bbx false = true ∧ (p.length = 12 ∧ mode ≤ 2 ∧ field p 1 1 ≤ 1 ∧ 1 ≤ field p 2 1 ∧
      field p 2 1 ≤ 3 ∧ field p 3 1 = 0 ∧ field p 10 2 = 0) ∧ got = [])) ∧
  (let s : State := (bb [(0, recOk)]).arrive 96 (plo ([0,0,3,0] ++ leBytes 8 1)); let q : PlReq := plo ([0,0,3,0] ++ leBytes 8 1);
   let p := q.payload; let t := s.wakeFor P.bbx; let mode := field p 0 1;
   let all := List.foldl (fun l r => putSeq r l) [] (if field p 1 1 = 0 then ringRecs t else mirrorRecs t);
   let l := if mode = 1 then all.reverse else List.filter (fun r => decide (field p 4 8 ≤ r.seq) && (mode == 0 || r.st == RecState.pinned)) all;
   let o := takeSound (field p 2 1) l; let got := if mode = 1 then o.1.reverse else o.1;
   decide (plServes s 96 q = true ∧ pageServes s P.bbx false = true ∧ (p.length = 12 ∧ mode ≤ 2 ∧ field p 1 1 ≤ 1 ∧ 1 ≤ field p 2 1 ∧
      field p 2 1 ≤ 3 ∧ field p 3 1 = 0 ∧ field p 10 2 = 0) ∧ (got ≠ []))) ∧
  (let l : List BbxRec := []; decide ((∀ r ∈ l, recSound r = true))) ∧
  (let s : State := ({ ready with bbxQueue := [rec0] }).arrive 97 (plo []); let q : PlReq := plo []; let p := q.payload;
   let op := field p 0 1;
   decide (plServes s 97 q = true ∧ pageServes s P.bbx true = true ∧ (¬(p.length = 12 ∧ op ≤ 2 ∧ field p 1 3 = 0 ∧ field p 10 2 = 0)))) ∧
  (let s : State := (bb []).arrive 97 (plo ([1,0,0,0] ++ leBytes 8 1)); let q : PlReq := plo ([1,0,0,0] ++ leBytes 8 1);
      let p := q.payload;
   let t := s.wakeFor P.bbx; let n := field p 4 8; let op := field p 0 1;
   let there := (List.find? (fun r => r.seq == n) (ringRecs t)).isSome;
   decide (plServes s 97 q = true ∧ pageServes s P.bbx true = true ∧ (p.length = 12 ∧ op ≤ 2 ∧ field p 1 3 = 0 ∧ field p 10 2 = 0) ∧
      (op < 2) ∧ there = false)) ∧
  (let s : State := (bb [(0, recOk)]).arrive 97 (plo ([0,0,0,0] ++ leBytes 8 1)); let q : PlReq := plo ([0,0,0,0] ++ leBytes 8 1);
   let p := q.payload; let t := s.wakeFor P.bbx; let n := field p 4 8; let op := field p 0 1;
   let there := (List.find? (fun r => r.seq == n) (ringRecs t)).isSome;
   decide (plServes s 97 q = true ∧ pageServes s P.bbx true = true ∧ (p.length = 12 ∧ op ≤ 2 ∧ field p 1 3 = 0 ∧ field p 10 2 = 0) ∧
      op = 0 ∧ there = true)) ∧
  (let s : State := (bb [(0, recOk)]).arrive 97 (plo ([1,0,0,0] ++ leBytes 8 1)); let q : PlReq := plo ([1,0,0,0] ++ leBytes 8 1);
   let p := q.payload; let t := s.wakeFor P.bbx; let n := field p 4 8; let op := field p 0 1;
   let there := (List.find? (fun r => r.seq == n) (ringRecs t)).isSome;
   decide (plServes s 97 q = true ∧ pageServes s P.bbx true = true ∧ (p.length = 12 ∧ op ≤ 2 ∧ field p 1 3 = 0 ∧ field p 10 2 = 0) ∧
      op = 1 ∧ there = true)) ∧
  (let s : State := (bb [(0, recOk)]).arrive 97 (plo ([2,0,0,0] ++ leBytes 8 1)); let q : PlReq := plo ([2,0,0,0] ++ leBytes 8 1);
   let p := q.payload; let op := field p 0 1;
   decide (plServes s 97 q = true ∧ pageServes s P.bbx true = true ∧ (p.length = 12 ∧ op ≤ 2 ∧ field p 1 3 = 0 ∧ field p 10 2 = 0) ∧
      op = 2)) := by
  refine ⟨?_, ?_, ?_, ?_, ?_, ?_, ?_, ?_, ?_, ?_, ?_, ?_, ?_, ?_, ?_⟩ <;> decide +kernel

theorem witness_TheNurseWatches :
  (let s : State := ready.setF P.nrs F.NRS_CE_CNT_COUNT 1; let sp : ScrubSpace := .space; let a : ℕ := 0;
      decide (scrubbed s sp a = true)) ∧
  (let s : State := State.reset; let sp : ScrubSpace := .space; let a : ℕ := 0; decide (scrubbed s sp a = false)) ∧
  (let s : State := ready.setF P.nrs F.NRS_CE_CNT_COUNT 1; let ms : ℕ := 0; decide (keeperRuns s = true ∧ (ms ≤ 10000))) ∧
  (let s : State := ready; let ms : ℕ := 10001; decide (keeperRuns s = true ∧ (10000 < ms))) ∧
  (let s : State := State.reset; decide (keeperRuns s = false)) ∧
  (let s : State := ready.setF P.nrs F.NRS_CE_CNT_COUNT 1; let t0 : BitVec 16 := 0; let t1 : BitVec 16 := 0; let t2 : BitVec 16 := 0;
   let t3 : BitVec 16 := 0; let x := max (max (max t0.toInt t1.toInt) t2.toInt) t3.toInt; decide (keeperRuns s = true ∧ (x < 1100))) ∧
  (let s : State := ready; let t0 : BitVec 16 := 0; let t1 : BitVec 16 := 0; let t2 : BitVec 16 := 0; let t3 : BitVec 16 := 1200;
   let x := max (max (max t0.toInt t1.toInt) t2.toInt) t3.toInt;
   decide (keeperRuns s = true ∧ (1100 ≤ x) ∧ (x < 1240 ∨ s.sys.resetPending ≠ none))) ∧
  (let s : State := kp fun k => { k with hot := true }; let t0 : BitVec 16 := 0; let t1 : BitVec 16 := 0; let t2 : BitVec 16 := 0;
   let t3 : BitVec 16 := 1240; let x := max (max (max t0.toInt t1.toInt) t2.toInt) t3.toInt;
   decide (keeperRuns s = true ∧ (1240 ≤ x) ∧ s.sys.resetPending = none)) ∧
  (let s : State := ready.setSt (P.amp 7) 4; let n : Fin 8 := 7; decide (keeperRuns s = true ∧ s.st (P.amp ↑n) = 4)) ∧
  (let s : State := ready.setF P.nrs F.NRS_CE_CNT_COUNT 1; let n : Fin 8 := 0; decide ((keeperRuns s = false ∨ s.st (P.amp ↑n) ≠ 4))) ∧
  (let s : State := ready.setF P.nrs F.NRS_CE_CNT_COUNT 1; decide ((keeperRuns s = true ∧ s.isSet P.nrs F.NRS_TLM_CFG_EN = true))) ∧
  (let s : State := State.reset; decide ((¬(keeperRuns s = true ∧ s.isSet P.nrs F.NRS_TLM_CFG_EN = true)))) ∧
  (let s : State := ready.setF P.nrs F.NRS_CE_CNT_COUNT 1; let now := (s.get64 (P.kpr + 104)).toNat;
   decide ((¬(flsReady s = true ∧ (logPick s.flash.log).isSome = true ∧ ¬(s.sys.mode = PwrMode.sleep ∧ ∃ t, s.kpr.tlmAt = some t ∧
      now < t + 60000))))) ∧
  (let s : State := logged.onClip fun c => { c with heads := [(63, .own)] }; let b : List Byte := [];
   let now := (s.get64 (P.kpr + 104)).toNat; let u := s.onKpr fun k => { k with tlmAt := some now, logDue := k.logDue ++ [b] };
   decide ((flsReady s = true ∧ (logPick s.flash.log).isSome = true ∧ ¬(s.sys.mode = PwrMode.sleep ∧ ∃ t, s.kpr.tlmAt = some t ∧ now < t +
      60000)) ∧ writeTurn u = false)) ∧
  (let s : State := logged; let b : List Byte := []; let now := (s.get64 (P.kpr + 104)).toNat;
   let u := s.onKpr fun k => { k with tlmAt := some now, logDue := k.logDue ++ [b] };
   decide ((flsReady s = true ∧ (logPick s.flash.log).isSome = true ∧ ¬(s.sys.mode = PwrMode.sleep ∧ ∃ t, s.kpr.tlmAt = some t ∧ now < t +
      60000)) ∧ writeTurn u = true)) ∧
  (let s : State := (ready.setF P.nrs F.NRS_CE_CNT_COUNT 1).arrive 102 (plo []); let q : PlReq := plo []; let p := q.payload;
   decide (plServes s 102 q = true ∧ pageServes s P.nrs false = true ∧ (¬(p.length = 12 ∧ field p 0 1 ≤ 1 ∧ field p 1 3 = 0)))) ∧
  (let s : State := (ready).arrive 102 (plo (List.replicate 12 0)); let q : PlReq := plo (List.replicate 12 0); let p := q.payload;
   let t := s.wakeFor P.nrs;
   let found := if field p 0 1 = 0 then if t.kpr.tlm = [] then none else some t.kpr.tlm else (List.filter (fun b => leNat (List.take 6 (List.drop 8 b)) == field p 4 8) (if flsReady t = true then List.flatMap (fun x => x.frames) t.flash.log else [])).getLast?;
   decide (plServes s 102 q = true ∧ pageServes s P.nrs false = true ∧ (p.length = 12 ∧ field p 0 1 ≤ 1 ∧ field p 1 3 = 0) ∧
      found = none)) ∧
  (let s : State := (kp fun k => { k with tlm := [1] }).arrive 102 (plo (List.replicate 12 0));
      let q : PlReq := plo (List.replicate 12 0);
   let p := q.payload; let t := s.wakeFor P.nrs;
   let found := if field p 0 1 = 0 then if t.kpr.tlm = [] then none else some t.kpr.tlm else (List.filter (fun b => leNat (List.take 6 (List.drop 8 b)) == field p 4 8) (if flsReady t = true then List.flatMap (fun x => x.frames) t.flash.log else [])).getLast?;
   decide (plServes s 102 q = true ∧ pageServes s P.nrs false = true ∧ (p.length = 12 ∧ field p 0 1 ≤ 1 ∧ field p 1 3 = 0) ∧
      found.isSome = true)) := by
  refine ⟨?_, ?_, ?_, ?_, ?_, ?_, ?_, ?_, ?_, ?_, ?_, ?_, ?_, ?_, ?_, ?_, ?_, ?_⟩ <;> decide +kernel

theorem witness_SwarmIsGuarded :
  (let s : State := (sw.setF P.swm F.SWM_STAT_LOCKOUT 1).arrive 104 (plo []); let q : PlReq := plo []; let t := s.wakeFor P.swm;
   let locked := t.isSet P.swm F.SWM_STAT_LOCKOUT; decide (plServes s 104 q = true ∧ pageServes s P.swm true = true ∧ locked = true)) ∧
  (let s : State := (sw).arrive 104 (plo [0,3,0,0,9]); let q : PlReq := plo [0,3,0,0,9]; let p := q.payload; let t := s.wakeFor P.swm;
   let key := field p 1 1; let locked := t.isSet P.swm F.SWM_STAT_LOCKOUT; let op := field p 0 1;
   decide (plServes s 104 q = true ∧ pageServes s P.swm true = true ∧ locked = false ∧ (¬(op ≤ 1 ∧ (p.length = if op = 0 then 4 else 20) ∧
      key ≤ 3 ∧ field p 2 2 = 0)))) ∧
  (let s : State := (sw).arrive 104 (plo [0,3,0,0]); let q : PlReq := plo [0,3,0,0]; let p := q.payload; let t := s.wakeFor P.swm;
   let key := field p 1 1; let locked := t.isSet P.swm F.SWM_STAT_LOCKOUT; let op := field p 0 1;
   decide (plServes s 104 q = true ∧ pageServes s P.swm true = true ∧ locked = false ∧ (op ≤ 1 ∧ (p.length = if op = 0 then 4 else 20) ∧
      key ≤ 3 ∧ field p 2 2 = 0) ∧ op = 0)) ∧
  (let s : State := (sw).arrive 104 (plo [1,3,0,0,9,9,9,9,9,9,9,9,9,9,9,9,9,9,9,9]);
   let q : PlReq := plo [1,3,0,0,9,9,9,9,9,9,9,9,9,9,9,9,9,9,9,9]; let p := q.payload; let t := s.wakeFor P.swm; let key := field p 1 1;
   let locked := t.isSet P.swm F.SWM_STAT_LOCKOUT; let op := field p 0 1;
   decide (plServes s 104 q = true ∧ pageServes s P.swm true = true ∧ locked = false ∧ (op ≤ 1 ∧ (p.length = if op = 0 then 4 else 20) ∧
      key ≤ 3 ∧ field p 2 2 = 0) ∧ op = 1)) ∧
  (let s : State := (sw).arrive 105 (plo [0,3,0,0]); let q : PlReq := plo [0,3,0,0]; let t := s.wakeFor P.swm;
   decide (plServes s 105 q = true ∧ pageServes s P.swm true = true ∧ t.swarmOn = false)) ∧
  (let s : State := (swOn).arrive 105 (plo []); let q : PlReq := plo []; let p := q.payload; let t := s.wakeFor P.swm;
   let w := fun i => BitVec.ofNat 32 (field p (4 + 4 * i) 4); let r := field p 0 1;
   decide (plServes s 105 q = true ∧ pageServes s P.swm true = true ∧ t.swarmOn = true ∧ (¬(p.length = 24 ∧ r ≤ 7 ∧ field p 1 3 = 0 ∧
      (bit (w 0) 31 = true → ruleValid (w 0) (w 1) (w 2) = true))))) ∧
  (let s : State := (swOn).arrive 105 (plo (List.replicate 24 0)); let q : PlReq := plo (List.replicate 24 0); let p := q.payload;
   let t := s.wakeFor P.swm; let w := fun i => BitVec.ofNat 32 (field p (4 + 4 * i) 4); let r := field p 0 1;
   decide (plServes s 105 q = true ∧ pageServes s P.swm true = true ∧ t.swarmOn = true ∧ (p.length = 24 ∧ r ≤ 7 ∧ field p 1 3 = 0 ∧
      (bit (w 0) 31 = true → ruleValid (w 0) (w 1) (w 2) = true)))) ∧
  (let s : State := (sw).arrive 106 (plo [0,3,0,0]); let q : PlReq := plo [0,3,0,0]; let p := q.payload;
   decide (plServes s 106 q = true ∧ pageServes s P.swm true = true ∧ (¬(p.length = 4 ∧ field p 0 1 ≤ 1 ∧ field p 1 3 = 0)))) ∧
  (let s : State := (sw).arrive 106 (plo [0,0,0,0]); let q : PlReq := plo [0,0,0,0]; let p := q.payload;
   decide (plServes s 106 q = true ∧ pageServes s P.swm true = true ∧ (p.length = 4 ∧ field p 0 1 ≤ 1 ∧ field p 1 3 = 0))) ∧
  (let s : State := swOn; decide (s.swarmOn = true)) ∧
  (let s : State := sw; decide (s.swarmOn = false)) := by
  refine ⟨?_, ?_, ?_, ?_, ?_, ?_, ?_, ?_, ?_, ?_, ?_⟩ <;> decide +kernel

theorem witness_PowerStatesAreEntered :
  (let c : ℕ := 0; decide (targetOf c = none)) ∧
  (let c : ℕ := 1; let force : Bool := true; let m : PwrMode := .idle; decide (targetOf c = some m ∧ (force = true ∧ m = PwrMode.idle))) ∧
  (let s : State := pw fun y => { y with wakeIn := true }; let c : ℕ := 2; let force : Bool := false; let m : PwrMode := .sleep;
   let x : Refuser := ⟨2, 0, 0, 5⟩; decide (targetOf c = some m ∧ (¬(force = true ∧ m = PwrMode.idle)) ∧ refuser s m force = some x)) ∧
  (let s : State := ent0 (en0 .sleep 0 false none); let c : ℕ := 2; let force : Bool := false; let m : PwrMode := .sleep;
   decide (targetOf c = some m ∧ (¬(force = true ∧ m = PwrMode.idle)) ∧ refuser s m force = none ∧ s.sys.entry.isSome = true)) ∧
  (let s : State := pm .idle; let c : ℕ := 1; let force : Bool := false; let m : PwrMode := .idle;
   decide (targetOf c = some m ∧ (¬(force = true ∧ m = PwrMode.idle)) ∧ refuser s m force = none ∧ s.sys.entry = none ∧
      (m = PwrMode.idle ∧ s.sys.mode = PwrMode.idle))) ∧
  (let s : State := pw id; let c : ℕ := 2; let force : Bool := false; let m : PwrMode := .sleep;
   decide (targetOf c = some m ∧ (¬(force = true ∧ m = PwrMode.idle)) ∧ refuser s m force = none ∧ s.sys.entry = none ∧
      (m ≠ PwrMode.idle ∨ s.sys.mode ≠ PwrMode.idle))) ∧
  (let s : State := pw id; let c : ℕ := 0; let force : Bool := false; let h : Req := .spi; let cmd : ℕ := 0; let addr : ℕ := 0;
   let o := powerAsk s c force h cmd addr; decide ((o.1 = Code.range ∨ o.1 = Code.busy))) ∧
  (let s : State := pw fun y => { y with wakeIn := true }; let c : ℕ := 2; let force : Bool := false; let h : Req := .spi;
      let cmd : ℕ := 0;
   let addr : ℕ := 0; let o := powerAsk s c force h cmd addr; decide ((o.1 = Code.done ∨ o.1 = Code.state))) ∧
  (let s : State := (pw id).arrive 80 (plo []); let q : PlReq := plo []; let p := q.payload;
   decide (plServes s 80 q = true ∧ pageServes s P.pwr true = true ∧ (p.length ≠ 4 ∨ 1 < field p 1 1 ∨ field p 2 2 ≠ 0))) ∧
  (let s : State := (pw id).arrive 80 (plo [2,0,0,0]); let q : PlReq := plo [2,0,0,0]; let p := q.payload; let t := s.wakeFor P.pwr;
   let r := q.via.req; let o := powerAsk t (field p 0 1) (field p 1 1 == 1) r 80 0;
   decide (plServes s 80 q = true ∧ pageServes s P.pwr true = true ∧ (¬(p.length ≠ 4 ∨ 1 < field p 1 1 ∨ field p 2 2 ≠ 0)) ∧
      o.1 = Code.done)) ∧
  (let s : State := (pw fun y => { y with wakeIn := true }).arrive 80 (plo [2,0,0,0]); let q : PlReq := plo [2,0,0,0]; let p := q.payload;
   let t := s.wakeFor P.pwr; let r := q.via.req; let o := powerAsk t (field p 0 1) (field p 1 1 == 1) r 80 0;
   decide (plServes s 80 q = true ∧ pageServes s P.pwr true = true ∧ (¬(p.length ≠ 4 ∨ 1 < field p 1 1 ∨ field p 2 2 ≠ 0)) ∧
      (o.1 ≠ Code.done))) ∧
  (let s : State := pw id; let h : Req := .spi; let v : Word := 3; let u := s.wakeFor pwrReqAt; let w := setField v 31 31 1;
   let o := powerAsk u (getField w 2 0) (bit w 8) h 255 pwrReqAt; decide (served s h pwrReqAt = true ∧ o.1 = Code.done)) ∧
  (let s : State := pw id; let h : Req := .spi; let v : Word := 0; let u := s.wakeFor pwrReqAt; let w := setField v 31 31 1;
   let o := powerAsk u (getField w 2 0) (bit w 8) h 255 pwrReqAt; decide (served s h pwrReqAt = true ∧ (o.1 ≠ Code.done))) ∧
  (let s : State := (pw id).arrive 81 (plo [2,0,0,0]); let q : PlReq := plo [2,0,0,0]; let p := q.payload;
   decide (plServes s 81 q = true ∧ pageServes s P.pwr true = true ∧ (p.length ≠ 8 ∨ 16777215 < field p 0 4 ∨ 4 < field p 6 1))) ∧
  (let s : State := (pw id).arrive 81 (plo [0,0,1,0,0,0,4,1]); let q : PlReq := plo [0,0,1,0,0,0,4,1]; let p := q.payload;
   decide (plServes s 81 q = true ∧ pageServes s P.pwr true = true ∧ (¬(p.length ≠ 8 ∨ 16777215 < field p 0 4 ∨ 4 < field p 6 1)))) ∧
  (let s : State := (pw id).arrive 82 (plo [2,0,0,0]); let q : PlReq := plo [2,0,0,0]; let p := q.payload;
   decide (plServes s 82 q = true ∧ pageServes s P.pwr false = true ∧ (p.length ≠ 4 ∨ 1 < field p 0 1 ∨ field p 1 3 ≠ 0))) ∧
  (let s : State := (pw id).arrive 82 (plo [1,0,0,0]); let q : PlReq := plo [1,0,0,0]; let p := q.payload;
   decide (plServes s 82 q = true ∧ pageServes s P.pwr false = true ∧ (¬(p.length ≠ 4 ∨ 1 < field p 0 1 ∨ field p 1 3 ≠ 0)))) ∧
  (let s : State := ent0 (en0 .sleep 0 true none); let e : Entry := en0 .sleep 0 true none; decide (s.sys.entry = some e ∧
      e.prepared = true)) ∧
  (let s : State := ent0 (en0 .sleep 0 false (some 1)); let e : Entry := en0 .sleep 0 false (some 1);
   decide (s.sys.entry = some e ∧ e.prepared = false ∧ (e.source.isSome = true ∨ e.target = PwrMode.idle ∧ activeCount s ≠ 0))) ∧
  (let s : State := dr (en0 .sleep 2 false none); let e : Entry := en0 .sleep 2 false none;
   decide (s.sys.entry = some e ∧ e.prepared = false ∧ (¬(e.source.isSome = true ∨ e.target = PwrMode.idle ∧ activeCount s ≠ 0)) ∧
      (undrained s ≠ []))) ∧
  (let s : State := ent0 (en0 .sleep 0 false none); let e : Entry := en0 .sleep 0 false none;
   decide (s.sys.entry = some e ∧ e.prepared = false ∧ (¬(e.source.isSome = true ∨ e.target = PwrMode.idle ∧ activeCount s ≠ 0)) ∧
      undrained s = [])) ∧
  (let s : State := ent0 (en0 .sleep 0 false none); let e : Entry := en0 .sleep 0 false none;
   decide (s.sys.entry = some e ∧ (e.prepared = false ∨ e.target ≠ PwrMode.idle ∧ outputsDone s = false))) ∧
  (let s : State := ent0 (en0 .sleep 0 true (some 1)); let e : Entry := en0 .sleep 0 true (some 1);
   decide (s.sys.entry = some e ∧ (¬(e.prepared = false ∨ e.target ≠ PwrMode.idle ∧ outputsDone s = false)) ∧ (e.source.isSome = true ∨
      e.target = PwrMode.idle ∧ activeCount s ≠ 0))) ∧
  (let s : State := ent0 (en0 .sleep 0 true none); let e : Entry := en0 .sleep 0 true none;
   decide (s.sys.entry = some e ∧ (¬(e.prepared = false ∨ e.target ≠ PwrMode.idle ∧ outputsDone s = false)) ∧ (¬(e.source.isSome = true ∨
      e.target = PwrMode.idle ∧ activeCount s ≠ 0)))) ∧
  (let s : State := ent0 (en0 .sleep 0 false none); let e : Entry := en0 .sleep 0 false none;
   decide (s.sys.entry = some e ∧ (e.prepared = true ∨ undrained s = []))) ∧
  (let s : State := dr (en0 .sleep 2 false none); let e : Entry := en0 .sleep 2 false none; let c : Fin 32 := 31;
      let l : List (Fin 32) := [];
   decide (s.sys.entry = some e ∧ e.prepared = false ∧ undrained s = c :: l ∧ e.kind = 2)) ∧
  (let s : State := dr (en0 .sleep 0 false none); let e : Entry := en0 .sleep 0 false none; let c : Fin 32 := 31;
      let l : List (Fin 32) := [];
   decide (s.sys.entry = some e ∧ e.prepared = false ∧ undrained s = c :: l ∧ e.kind = 0)) ∧
  (let s : State := dr (en0 .sleep 1 false none); let e : Entry := en0 .sleep 1 false none; let c : Fin 32 := 31;
      let l : List (Fin 32) := [];
   decide (s.sys.entry = some e ∧ e.prepared = false ∧ undrained s = c :: l ∧ e.kind = 1)) ∧
  (let s : State := dr (en0 .sleep 3 false none); let e : Entry := en0 .sleep 3 false none; let c : Fin 32 := 31;
      let l : List (Fin 32) := [];
   decide (s.sys.entry = some e ∧ e.prepared = false ∧ undrained s = c :: l ∧ (3 ≤ e.kind))) ∧
  (let e : Entry := en0 .sleep 0 false none; decide ((e.target ≠ PwrMode.run))) ∧
  (let s : State := idl 1 1 100; let m : PwrMode := .idle;
   decide ((s.sys.mode = PwrMode.run ∧ s.sys.service = true ∧ s.sys.held = false ∧ s.sys.entry = none ∧ s.en P.pwr = true ∧
      s.getF P.pwr F.PWR_CFG_IDLE_TMR ≠ 0 ∧ activeCount s = 0) ∧
      List.find? (fun m => (refuser s m false).isNone) (autoCands s) = some m)) ∧
  (let s : State := idl 1 0 0;
   decide ((s.sys.mode = PwrMode.run ∧ s.sys.service = true ∧ s.sys.held = false ∧ s.sys.entry = none ∧ s.en P.pwr = true ∧
      s.getF P.pwr F.PWR_CFG_IDLE_TMR ≠ 0 ∧ activeCount s = 0) ∧ List.find? (fun m => (refuser s m false).isNone) (autoCands s) = none)) ∧
  (let s : State := pw id;
   decide ((¬(s.sys.mode = PwrMode.run ∧ s.sys.service = true ∧ s.sys.held = false ∧ s.sys.entry = none ∧ s.en P.pwr = true ∧
      s.getF P.pwr F.PWR_CFG_IDLE_TMR ≠ 0 ∧ activeCount s = 0)))) ∧
  (let s : State := (pm .sleep).setF P.pwr F.PWR_CFG_ESCALATE 1;
   decide ((s.sys.mode = PwrMode.sleep ∧ s.sys.held = false ∧ s.sys.waking = none ∧ s.sys.entry = none ∧
      s.getF P.pwr F.PWR_CFG_ESCALATE ≠ 0 ∧ refuser s PwrMode.deep false = none))) ∧
  (let s : State := pw id;
   decide ((¬(s.sys.mode = PwrMode.sleep ∧ s.sys.held = false ∧ s.sys.waking = none ∧ s.sys.entry = none ∧
      s.getF P.pwr F.PWR_CFG_ESCALATE ≠ 0 ∧ refuser s PwrMode.deep false = none)))) := by
  refine ⟨?_, ?_, ?_, ?_, ?_, ?_, ?_, ?_, ?_, ?_, ?_, ?_, ?_, ?_, ?_, ?_, ?_, ?_, ?_, ?_, ?_, ?_, ?_, ?_, ?_, ?_, ?_, ?_, ?_, ?_, ?_, ?_,
      ?_, ?_, ?_⟩ <;> decide +kernel

theorem witness_PowerStatesAreLeft :
  (let s : State := wk .off id; let level : Bool := false; decide ((¬(level = true ∧ s.sys.wakeIn = false ∧ s.sys.held = false)))) ∧
  (let s : State := wk .run fun y => { y with lockout := true, lowSeen := true }; let level : Bool := true;
   decide ((level = true ∧ s.sys.wakeIn = false ∧ s.sys.held = false) ∧ s.sys.lockout = true ∧ s.sys.lowSeen = true)) ∧
  (let s : State := wk .run fun y => { y with lockout := true, lowSeen := false }; let level : Bool := true;
   decide ((level = true ∧ s.sys.wakeIn = false ∧ s.sys.held = false) ∧ s.sys.lockout = true ∧ s.sys.lowSeen = false)) ∧
  (let s : State := ent0 (en0 .sleep 0 true none); let level : Bool := true; let e : Entry := en0 .sleep 0 true none;
   decide ((level = true ∧ s.sys.wakeIn = false ∧ s.sys.held = false) ∧ s.sys.lockout = false ∧ s.sys.entry = some e ∧ e.source = none)) ∧
  (let s : State := ent0 (en0 .sleep 0 false (some 1)); let level : Bool := true; let e : Entry := en0 .sleep 0 false (some 1);
   decide ((level = true ∧ s.sys.wakeIn = false ∧ s.sys.held = false) ∧ s.sys.lockout = false ∧ s.sys.entry = some e ∧
      (e.source ≠ none))) ∧
  (let s : State := wk .run id; let level : Bool := true;
   decide ((level = true ∧ s.sys.wakeIn = false ∧ s.sys.held = false) ∧ s.sys.lockout = false ∧ s.sys.entry = none ∧
      s.sys.mode = PwrMode.run)) ∧
  (let s : State := wk .idle id; let level : Bool := true;
   decide ((level = true ∧ s.sys.wakeIn = false ∧ s.sys.held = false) ∧ s.sys.lockout = false ∧ s.sys.entry = none ∧
      s.sys.mode = PwrMode.idle)) ∧
  (let s : State := wk .off id; let level : Bool := true;
   decide ((level = true ∧ s.sys.wakeIn = false ∧ s.sys.held = false) ∧ s.sys.lockout = false ∧ s.sys.entry = none ∧
      (s.sys.mode ≠ PwrMode.run) ∧ (s.sys.mode ≠ PwrMode.idle) ∧ s.sys.waking = none)) ∧
  (let s : State := wk .deep fun y => { y with waking := some 1 }; let level : Bool := true;
   decide ((level = true ∧ s.sys.wakeIn = false ∧ s.sys.held = false) ∧ s.sys.lockout = false ∧ s.sys.entry = none ∧
      (s.sys.mode ≠ PwrMode.run) ∧ (s.sys.mode ≠ PwrMode.idle) ∧ (s.sys.waking ≠ none))) ∧
  (let s : State := wk .off id; decide ((s.sys.mode ≠ PwrMode.idle ∨ s.sys.entry ≠ none))) ∧
  (let s : State := wk .off id; decide ((s.sys.waking = none ∨ s.sys.held = true))) ∧
  (let s : State := wk .deep fun y => { y with waking := some 1 }; let src : ℕ := 1;
   decide (s.sys.waking = some src ∧ s.sys.held = false ∧ (s.sys.mode ≠ PwrMode.off))) ∧
  (let s : State := wk .off fun y => { y with waking := some 1 }; let src : ℕ := 1;
   decide (s.sys.waking = some src ∧ s.sys.held = false ∧ s.sys.mode = PwrMode.off)) ∧
  (let s : State := wk .off id; let k : Fin 10 := 0; let n : ℕ := ↑k + 1; decide ((s.sys.waking = none ∨ stepRuns s n = false))) ∧
  (let s : State := wk .deep fun y => { y with waking := some 1 }; let k : Fin 10 := 0; let n : ℕ := ↑k + 1; let src : ℕ := 1;
   decide (s.sys.waking = some src ∧ stepRuns s n = true ∧ (s.sys.retried ≠ some n))) ∧
  (let s : State := wk .deep fun y => { y with waking := some 1, retried := some 5 }; let k : Fin 10 := 4; let n : ℕ := ↑k + 1;
   let src : ℕ := 1; decide (s.sys.waking = some src ∧ stepRuns s n = true ∧ s.sys.retried = some n ∧ (n = 5 ∨ n = 8))) ∧
  (let s : State := wk .deep fun y => { y with waking := some 1, retried := some 10 }; let k : Fin 10 := 9; let n : ℕ := ↑k + 1;
   let src : ℕ := 1; decide (s.sys.waking = some src ∧ stepRuns s n = true ∧ s.sys.retried = some n ∧ (n ≠ 5) ∧ (n ≠ 8))) ∧
  (let s : State := wk .sleep id;
   decide ((s.sys.mode = PwrMode.sleep ∧ s.sys.held = false ∧ s.clk.halt ≠ some Halt.ref) ∧ s.sys.entry = none)) ∧
  (let s : State := (ent0 (en0 .sleep 0 false none)).onSys fun y => { y with mode := .sleep }; let e : Entry := en0 .sleep 0 false none;
   decide ((s.sys.mode = PwrMode.sleep ∧ s.sys.held = false ∧ s.clk.halt ≠ some Halt.ref) ∧ s.sys.entry = some e)) ∧
  (let s : State := wk .off id; decide ((¬(s.sys.mode = PwrMode.sleep ∧ s.sys.held = false ∧ s.clk.halt ≠ some Halt.ref)))) := by
  refine ⟨?_, ?_, ?_, ?_, ?_, ?_, ?_, ?_, ?_, ?_, ?_, ?_, ?_, ?_, ?_, ?_, ?_, ?_, ?_, ?_⟩ <;> decide +kernel

theorem witness_ResetsAndSuppliesAct :
  (let s : State := ready; decide ((s.sys.mode ≠ PwrMode.off))) ∧
  (let s : State := pm .off; decide (s.sys.mode = PwrMode.off)) ∧
  (let s : State := ready; let r : Req := .spi; let v : Word := 0xA500; let a := 84; let w := setField v 0 0 1;
   decide (served s r a = true ∧ getField w 15 8 = 165)) ∧
  (let s : State := ready; let r : Req := .spi; let v : Word := 0; let a := 84; let w := setField v 0 0 1;
   decide (served s r a = true ∧ (getField w 15 8 ≠ 165))) ∧
  (let s : State := ready;
   decide ((s.sys.held = false ∧ (s.sys.mode = PwrMode.run ∨ s.sys.mode = PwrMode.idle ∨ s.sys.mode = PwrMode.sleep)))) ∧
  (let s : State := pm .off;
   decide ((¬(s.sys.held = false ∧ (s.sys.mode = PwrMode.run ∨ s.sys.mode = PwrMode.idle ∨ s.sys.mode = PwrMode.sleep))))) ∧
  (let s : State := pw fun y => { y with resetPending := some 3 }; let c : ℕ := 3;
   decide (s.sys.resetPending = some c ∧ outputsDone s = true)) ∧
  (let s : State := (pw fun y => { y with resetPending := some 3 }).setSt (P.amp 7) 7; let c : ℕ := 3;
   decide (s.sys.resetPending = some c ∧ outputsDone s = false)) ∧
  (let s : State := ready; decide (s.sys.resetPending = none)) ∧
  (let s : State := kp fun k => { k with rebootDue := true }; decide (s.kpr.rebootDue = true)) ∧
  (let s : State := ready; decide (s.kpr.rebootDue = false)) ∧
  (let s : State := ready.onClk fun c => { c with halt := some .ref }; decide (awake s = true ∧ s.clk.halt = some Halt.ref)) ∧
  (let s : State := ready; decide (awake s = true ∧ (s.clk.halt ≠ some Halt.ref))) ∧
  (let s : State := pm .off; decide (awake s = false)) ∧
  (let s : State := ready; let t := s.onSys fun y => { y with pwrFailN := false }; decide (s.sys.pwrFailN = true ∧ awake t = true)) ∧
  (let s : State := pm .off; let t := s.onSys fun y => { y with pwrFailN := false }; decide (s.sys.pwrFailN = true ∧ awake t = false)) ∧
  (let s : State := ready; decide (keeperRuns s = true)) ∧
  (let s : State := pm .off; decide (keeperRuns s = false)) ∧
  (let s : State := pw fun y => { y with pwrFailN := false, mode := .off }; let t := s.onSys fun y => { y with pwrFailN := true };
   decide (s.sys.pwrFailN = false ∧ (¬(awake t = true ∧ t.sys.entry = none ∧ t.sys.resetPending = none)))) ∧
  (let s : State := pw fun y => { y with pwrFailN := false }; let t := s.onSys fun y => { y with pwrFailN := true };
   let u := outputsPwrBack t;
   decide (s.sys.pwrFailN = false ∧ (awake t = true ∧ t.sys.entry = none ∧ t.sys.resetPending = none) ∧ u.sys.pwrFailN = true ∧
      u.an.linkLost = false)) ∧
  (let s : State := (pw fun y => { y with pwrFailN := false }).onAn fun a => { a with linkLost := true };
   let t := s.onSys fun y => { y with pwrFailN := true }; let u := outputsPwrBack t;
   decide (s.sys.pwrFailN = false ∧ (awake t = true ∧ t.sys.entry = none ∧ t.sys.resetPending = none) ∧ u.an.linkLost = true)) := by
  refine ⟨?_, ?_, ?_, ?_, ?_, ?_, ?_, ?_, ?_, ?_, ?_, ?_, ?_, ?_, ?_, ?_, ?_, ?_, ?_, ?_, ?_⟩ <;> decide +kernel

theorem witness_FabricPeriodsPass :
  (let s : State := State.reset.onSys fun y => { y with held := true }; decide ((s.sys.held = true ∨ s.sys.mode = PwrMode.off))) ∧
  (let s : State := wk .deep id; decide (s.sys.held = false ∧ s.sys.mode = PwrMode.deep)) ∧
  (let s : State := noRef (wk .sleep id); decide (s.sys.held = false ∧ s.sys.mode = PwrMode.sleep ∧ s.clk.halt = some Halt.ref)) ∧
  (let s : State := wk .sleep id; decide (s.sys.held = false ∧ s.sys.mode = PwrMode.sleep ∧ (s.clk.halt ≠ some Halt.ref))) ∧
  (let s : State := (wk .idle id).onClk fun c => { c with step := 2 };
   decide (s.sys.held = false ∧ s.sys.mode = PwrMode.idle ∧ (s.stopped = true ∨ s.clk.step = 2))) ∧
  (let s : State := wk .idle id; decide (s.sys.held = false ∧ s.sys.mode = PwrMode.idle ∧ (¬(s.stopped = true ∨ s.clk.step = 2)))) ∧
  (let s : State := (wk .run id).onClk fun c => { c with step := 2 };
   decide (s.sys.held = false ∧ s.sys.mode = PwrMode.run ∧ (s.stopped = true ∨ s.clk.step = 2))) ∧
  (let s : State := wk .run id; decide (s.sys.held = false ∧ s.sys.mode = PwrMode.run ∧ (¬(s.stopped = true ∨ s.clk.step = 2)))) ∧
  (let s : State := noRef (wk .sleep id); decide (s.stopped = true ∧ s.clk.halt = some Halt.ref)) ∧
  (let s : State := ready.onClk fun c => { c with halt := some .pll }; decide (s.stopped = true ∧ (s.clk.halt ≠ some Halt.ref))) ∧
  (let s : State := State.reset.onSys fun y => { y with held := true }; decide (s.stopped = false)) ∧
  (let s : State := State.reset.onSys fun y => { y with held := true }; decide ((s.sys.uptimeSub < 47))) ∧
  (let s : State := pw fun y => { y with uptimeSub := 47 }; decide ((47 ≤ s.sys.uptimeSub))) ∧
  (let s : State := State.reset.onSys fun y => { y with held := true }; decide (s.clk.fresh = false)) ∧
  (let s : State := ready.onClk fun c => { c with fresh := true }; decide (s.clk.fresh = true)) ∧
  (let s : State := ready.onClk fun c => { c with step := 1 }; let k : ℕ := 31; decide (s.clk.step = 1 ∧ (k + 1) % 32 = 0)) ∧
  (let s : State := State.reset.onSys fun y => { y with held := true }; let k : ℕ := 0; decide ((s.clk.step ≠ 1 ∨ (k + 1) % 32 ≠ 0))) ∧
  (let s : State := (wg true 2 1 0 id).onClk fun c => { c with step := 2 }; let e : ℤ := 0;
   let u := rxRecentre ((((s.set64 (P.clk + 104) (BitVec.ofNat 64 (resumeAt (fabCnt s +
      1) e))).onClk fun c => { c with step := 0, fresh := true }).bump P.clk F.CLK_STEP_CNT_COUNT).raise P.clk 4);
   decide ((s.clk.step = 2 ∧ awake s = true) ∧ (wagSrc u = 2 ∧ u.wag.run = true))) ∧
  (let s : State := (wk .run id).onClk fun c => { c with step := 2 }; let e : ℤ := 0;
   let u := rxRecentre ((((s.set64 (P.clk + 104) (BitVec.ofNat 64 (resumeAt (fabCnt s +
      1) e))).onClk fun c => { c with step := 0, fresh := true }).bump P.clk F.CLK_STEP_CNT_COUNT).raise P.clk 4);
   decide ((s.clk.step = 2 ∧ awake s = true) ∧ (¬(wagSrc u = 2 ∧ u.wag.run = true)))) ∧
  (let s : State := State.reset.onSys fun y => { y with held := true }; decide ((¬(s.clk.step = 2 ∧ awake s = true)))) ∧
  (let c : ℕ := 0; let e : ℤ := 0; let num : ℤ := 62500 * ↑c + 3 * e + 300000; decide ((0 ≤ num))) := by
  refine ⟨?_, ?_, ?_, ?_, ?_, ?_, ?_, ?_, ?_, ?_, ?_, ?_, ?_, ?_, ?_, ?_, ?_, ?_, ?_, ?_, ?_⟩ <;> decide +kernel

/-! ### Clauses whose hypotheses meet a value that is opaque, or a long table -/

/-- A steady entry at a gain above code 1 ramps to another gain. -/
theorem witness_CrosspointWritesCommit_regain :
    let e := ent .steady { Gain.unity with lin := linOf 1 + 1 } none
    e.st = .steady ∧ (2401 : Nat) ≠ 0 ∧ linOf 1 ≤ e.g.lin ∧ e.g.lin ≠ 0 ∧ stepsOf ready (rampIndex ready e.sink 5) ≠ 0 :=
  ⟨rfl, by decide, Nat.le_succ _, Nat.succ_ne_zero _, by decide +kernel⟩

/-- The CRC-32 of a list in two parts. -/
theorem crc32From_append (c : Word) (x y : List Byte) : crc32From c (x ++ y) = crc32From (crc32From c x) y := by
  induction x generalizing c with
  | nil => rfl
  | cons b t ih => exact ih _

/-- The CRC-32 of the smallest phrase model, its CRC field 0. -/
theorem modelHead_crc : crc32 (imgHead 0) = 3046030780#32 := by
  have h : imgHead 0 = (imgHead 0).take 31 ++ (((imgHead 0).drop 31).take 31 ++ (((imgHead 0).drop 62).take 31 ++
    (imgHead 0).drop 93)) := by decide +kernel
  have h1 : crc32From 0xFFFFFFFF#32 ((imgHead 0).take 31) = 1668457817#32 := by decide +kernel
  have h2 : crc32From 1668457817#32 (((imgHead 0).drop 31).take 31) = 1015946787#32 := by decide +kernel
  have h3 : crc32From 1015946787#32 (((imgHead 0).drop 62).take 31) = 2455576513#32 := by decide +kernel
  have h4 : crc32From 2455576513#32 ((imgHead 0).drop 93) = 1248936515#32 := by decide +kernel
  rw [h]
  unfold crc32
  rw [crc32From_append, crc32From_append, crc32From_append, h1, h2, h3, h4]
  decide

/-- A phrase model that passes the checks of END. -/
theorem model_passes : modelCheck img0 = .done := by
  have h : modelCrc img0 = 3046030780#32 := by
    rw [modelCrc, show img0.take 60 ++ [0, 0, 0, 0] ++ img0.drop 64 = imgHead 0 by decide +kernel, modelHead_crc]
  unfold modelCheck
  rw [h]
  decide +kernel

theorem witness_ScoutCommandsAct_end :
    let q := plo [2, 0, 0, 0]; let s := (slotLoad 1 (img0.map some)).arrive 40 q; let t := s.wakeFor P.sct; let k := field q.payload 1 1
    plServes s 40 q = true ∧ pageServes s P.sct true = true ∧ field q.payload 2 2 = 0 ∧ k < 4 ∧ q.payload.length = 4 ∧
      (t.slot k).load = some (img0.map some) ∧ ((img0.map some).any fun x => x.isNone) = false ∧
      modelCheck ((img0.map some).filterMap id) = .done := by
  refine ⟨by decide +kernel, by decide +kernel, by decide +kernel, by decide +kernel, by decide +kernel, by decide +kernel,
    by decide +kernel, ?_⟩
  rw [show (img0.map some).filterMap id = img0 by decide +kernel]
  exact model_passes

/-- The state in which BOOT chooses a slot. -/
def booting (f : FlashProbe) (s : State) : State :=
  let n : State := { s.onUdp (fun u => { u with nonce := Config.random64 s.free }) with free := s.free + 1 }
  let b := bbxScan (flashProbe f n)
  aonFlush (if swarmOpen b then swarmEnd b 2 else b)

theorem witness_TheKeeperBoots_flash :
    (State.reset.sys.held = false ∧ State.reset.sys.service = false ∧ State.reset.sys.mode = .run) ∧
      flsReady (booting .noAnswer State.reset) = false ∧
      flsReady (booting (.found 1 16 (some flashed)) State.reset) = true ∧
      bootList (booting (.found 1 16 (some flashed)) State.reset) = [] := by
  refine ⟨by decide +kernel, by decide +kernel, by decide +kernel, by decide +kernel⟩

/-- A table of consecutive keys holds each of them. -/
theorem alGet_filled {β : Type} (c : β) : ∀ (n a k : Nat), a ≤ k → k < a + n →
    alGet ((List.range' a n).map fun j => (j, c)) k = some c
  | 0, _, _, _, _ => by omega
  | n + 1, a, k, h1, h2 => by
    rw [List.range'_succ, List.map_cons, alGet]
    split
    · rfl
    · exact alGet_filled c n (a + 1) k (by omega) (by omega)

theorem witness_CuesAreCommittedAndCommanded_full : let q := cs 0xFFFF; let s := allCues.arrive 48 q; let p := q.payload
    plServes s 48 q = true ∧ pageServes s P.wag true = true ∧ (p.length = 32 ∧ field p 2 2 = 0 ∧ field p 0 2 = 65535) ∧
      cueJudge Cue.free 0 ((List.range 6).map fun n => (n, BitVec.ofNat 32 (field p (4 + 4 * n) 4))) = .done ∧
      BitVec.ofNat 32 (field p 28 4) = 0#32 ∧ freeCue (s.wakeFor P.wag) = none := by
  refine ⟨by decide +kernel, by decide +kernel, by decide +kernel, by decide +kernel, by decide +kernel, ?_⟩
  have h : ((allCues.arrive 48 (cs 0xFFFF)).wakeFor P.wag).wag.cues =
      (List.range' 0 1024).map fun k => (k, { Cue.free with st := 1 }) := by
    have h1 : (allCues.arrive 48 (cs 0xFFFF)).wakeFor P.wag = allCues.arrive 48 (cs 0xFFFF) := by
      unfold State.wakeFor
      split
      · exact if_neg fun h => absurd h.2.1 (by decide +kernel)
      · rfl
    rw [h1, ← List.range_eq_range']
    simp only [allCues, State.arrive, State.onOrder, State.onWag]
  rw [freeCue, List.find?_eq_none]
  intro k hk
  rw [cueAt, h, alGet_filled _ 1024 0 k (by omega) (by simpa using hk)]
  decide

theorem witness_StacksAreBounded : ready.inForm ∧
    (let s := run.onCore 0 fun k => { k with calls := List.replicate 8 5 };
      s.inForm ∧ issues s 0 (.call 5) = true ∧ 8 ≤ (s.core 0).calls.length) ∧
    (issues run 0 (.call 5) = true ∧ (run.core 0).calls.length < 8) ∧ (issues run 0 .ret = true ∧ (run.core 0).calls = []) ∧
    (let s := run.onCore 0 fun k => { k with calls := [5] };
      s.inForm ∧ issues s 0 .ret = true ∧ (s.core 0).calls = [5]) ∧
    (let s := run.onCore 0 fun k => { k with loops := List.replicate 4 ⟨1, 9, 5⟩ };
      s.inForm ∧ (1023#10).toNat ≠ 0 ∧ issues s 0 (.loop (.imm 1023) 1) = true ∧ 4 ≤ (s.core 0).loops.length) ∧
    (run.inForm ∧ issues run 0 (.loop (.imm 1) 1) = true ∧ (1#10).toNat ≠ 0 ∧ (run.core 0).loops.length < 4) ∧
    (let s := run.onCore 0 fun k => k.setD 3 1;
      s.inForm ∧ issues s 0 (.loop (.reg 3) 1) = true ∧ ((s.core 0).r 3#5).toNat ≠ 0 ∧ (s.core 0).loops.length < 4) := by
  unfold State.inForm regsWf
  decide +kernel

theorem witness_StepsKeepTheForm : State.reset.inForm ∧ step State.reset = .next State.reset := by
  refine ⟨?_, rfl⟩
  unfold State.inForm regsWf
  decide +kernel


end Sys2Proof.Tests
end

section
/-! PROOFS. The data instructions of a core (R295, R296, R305): the shifts and immediates as arithmetic, the one
saturating write, and that each instruction is a change of its core's registers that passes. -/

namespace Sys2Proof.Machine

/-! ### Words as numbers -/

/-- R295: a left shift multiplies by a power of two and wraps. -/
theorem shiftLeft_eq_ofNat_mul (x : Word) (n : Nat) : x <<< n = BitVec.ofNat 32 (x.toNat * 2 ^ n) := by
  apply BitVec.eq_of_toNat_eq
  simp [Nat.shiftLeft_eq]

/-- R295: a logical right shift divides by a power of two. -/
theorem ushiftRight_eq_ofNat_div (x : Word) (n : Nat) : x >>> n = BitVec.ofNat 32 (x.toNat / 2 ^ n) := by
  apply BitVec.eq_of_toNat_eq
  rw [BitVec.toNat_ushiftRight, Nat.shiftRight_eq_div_pow, BitVec.toNat_ofNat, Nat.mod_eq_of_lt]
  exact (Nat.div_le_self _ _).trans_lt x.isLt

/-- R295: an arithmetic right shift divides the signed number, rounding down. -/
theorem sshiftRight_eq_ofInt_div (x : Word) (n : Nat) : x.sshiftRight n = BitVec.ofInt 32 (x.toInt / 2 ^ n) := by
  rw [BitVec.sshiftRight, Int.shiftRight_eq_div_pow, Nat.cast_pow, Nat.cast_ofNat]

/-- R295: MUL keeps the low word of the product. -/
theorem mul_eq_ofNat_mul (x y : Word) : x * y = BitVec.ofNat 32 (x.toNat * y.toNat) := rfl

/-- R295: LUI. -/
theorem upper_eq_ofNat_mul (imm : BitVec 16) : imm.setWidth 32 <<< 16 = BitVec.ofNat 32 (imm.toNat * 2 ^ 16) := by
  rw [shiftLeft_eq_ofNat_mul, BitVec.toNat_setWidth_of_le (by omega)]

/-! ### Saturation -/

/-- What R295 keeps of a number that saturates to the signed 32-bit range. -/
theorem toWord_satS (v : Int) : toWord (satS 32 v) =
    if v < -(2 ^ 31) then 0x80000000#32 else if 2 ^ 31 ≤ v then 0x7FFFFFFF#32 else BitVec.ofInt 32 v := by
  unfold satS toWord
  rcases lt_or_ge v (-(2 ^ 31)) with hlow | hlow
  · rw [if_pos (by omega), if_pos hlow]
    rfl
  · rcases lt_or_ge v (2 ^ 31) with hhigh | hhigh
    · rw [if_neg (by omega), if_neg (by omega), if_neg (by omega), if_neg (by omega)]
    · rw [if_neg (by omega), if_pos (by omega), if_neg (by omega), if_pos (by omega)]
      rfl

/-- A number is its own saturation exactly when it lies in the signed 32-bit range. -/
theorem satS_eq_self_iff (v : Int) : satS 32 v = v ↔ -(2 ^ 31) ≤ v ∧ v < 2 ^ 31 := by
  unfold satS
  split_ifs <;> omega

/-- R295: the saturating write of a data register changes that register, and DS when the number lies outside the range. -/
theorem CoreHid.setSat_eq (k : CoreHid) (d : Nat) (v : Int) : k.setSat d v =
    { k with
      sr := if -(2 ^ 31) ≤ v ∧ v < 2 ^ 31 then k.sr else k.sr ||| 0x10000#32
      d := modifyAt (fun _ => if v < -(2 ^ 31) then 0x80000000#32 else if 2 ^ 31 ≤ v then 0x7FFFFFFF#32 else BitVec.ofInt 32 v)
        d k.d } := by
  simp only [CoreHid.setSat, satS_eq_self_iff, toWord_satS]
  by_cases hv : -(2 ^ 31) ≤ v ∧ v < 2 ^ 31
  · simp only [if_pos hv, CoreHid.setD]
  · simp only [if_neg hv, CoreHid.setD, CoreHid.flag]
    rfl

/-- R295: ABS takes the number or its negative. -/
theorem natAbs_eq_ite (v : Int) : (v.natAbs : Int) = if 0 ≤ v then v else -v := by
  split <;> omega

/-! ### An instruction that works on the registers alone -/

/-- R302: an issued instruction that works on its core's registers alone changes them and passes to the next instruction. -/
theorem exec_onRegs {s : State} {c : Fin 20} {j : Instr} {i : CoreInstr} {f g : CoreHid → CoreHid}
    (hexec : exec j s = .next (coreIssue c i s)) (hact : i.act = onRegs f) (hfg : ∀ k, f k = g k)
    (h : issues s c i = true) : exec j s = .next (s.passed c i (s.onCore c g)) := by
  obtain rfl : f = g := funext hfg
  rw [hexec, coreIssue_pass h (congrFun (congrFun hact c) s)]

/-- R302: an issued instruction that writes one data register. -/
theorem exec_toD {s : State} {c : Fin 20} {j : Instr} {i : CoreInstr} {d : BitVec 5} {f g : CoreHid → Word}
    (hexec : exec j s = .next (coreIssue c i s)) (hact : i.act = toD d f) (hfg : ∀ k, f k = g k)
    (h : issues s c i = true) : exec j s = .next (s.passed c i (s.onCore c fun k => k.setD d.toNat (g k))) :=
  exec_onRegs hexec hact (fun k => by rw [hfg k]) h

/-- Settles O41: each data instruction is a change of its core's registers that passes; its value, where the manual gives it as
arithmetic, is one of the equations above. -/
theorem dataInstructionsWriteTheirResult : Obligations.DataInstructionsWriteTheirResult := by
  unfold Obligations.DataInstructionsWriteTheirResult
  intro s c d x y n imm sets sat
  have setSat_sat (k : CoreHid) (v : Int) : k.setSat d.toNat v = sat k v := k.setSat_eq d.toNat v
  refine ⟨?nop, ?add, ?sub, ?adds, ?subs, ?and, ?or, ?xor, ?shl, ?shr, ?sar, ?shls, ?min, ?max, ?abs, ?mul, ?addi, ?andi,
    ?ori, ?xori, ?lui, ?exp, ?norm⟩
  case nop => exact exec_onRegs rfl rfl fun _ => rfl
  case add => exact exec_toD rfl rfl fun _ => rfl
  case sub => exact exec_toD rfl rfl fun _ => rfl
  case adds => exact exec_onRegs rfl rfl fun k => setSat_sat k _
  case subs => exact exec_onRegs rfl rfl fun k => setSat_sat k _
  case and => exact exec_toD rfl rfl fun _ => rfl
  case or => exact exec_toD rfl rfl fun _ => rfl
  case xor => exact exec_toD rfl rfl fun _ => rfl
  case shl => exact exec_toD rfl rfl fun k => shiftLeft_eq_ofNat_mul (k.r x) (shiftAmt k n)
  case shr => exact exec_toD rfl rfl fun k => ushiftRight_eq_ofNat_div (k.r x) (shiftAmt k n)
  case sar => exact exec_toD rfl rfl fun k => sshiftRight_eq_ofInt_div (k.r x) (shiftAmt k n)
  case shls => exact exec_onRegs rfl rfl fun k => setSat_sat k _
  case min => exact exec_toD rfl rfl fun _ => rfl
  case max => exact exec_toD rfl rfl fun _ => rfl
  case abs => exact exec_onRegs rfl rfl fun k => by rw [setSat_sat, natAbs_eq_ite]
  case mul => exact exec_toD rfl rfl fun k => mul_eq_ofNat_mul (k.r x) (k.r y)
  case addi => exact exec_toD rfl rfl fun _ => rfl
  case andi => exact exec_toD rfl rfl fun k => by rw [BitVec.ofNat_toNat]
  case ori => exact exec_toD rfl rfl fun k => by rw [BitVec.ofNat_toNat]
  case xori => exact exec_toD rfl rfl fun k => by rw [BitVec.ofNat_toNat]
  case lui => exact exec_toD rfl rfl fun _ => upper_eq_ofNat_mul imm
  case exp => exact exec_toD rfl rfl fun _ => rfl
  case norm => exact exec_onRegs rfl rfl fun k => by simp only [shiftLeft_eq_ofNat_mul]

end Sys2Proof.Machine
end

section
/-! PROOFS. The stacks of a core (R307, R308, R322): what a field reads after a store of it, what a core holds after a change of
it, how CALL, RET and LOOP end, and what the fault STACK leaves. -/

namespace Sys2Proof.Machine

/-! ### Fields and registers -/

/-- R4: a field reads the low bits of what was stored in it. -/
theorem getField_setField_same {hi : Nat} (hhi : hi < 32) (w : Word) (lo v : Nat) :
    getField (setField w hi lo v) hi lo = v % 2 ^ (hi + 1 - lo) := by
  apply Nat.eq_of_testBit_eq
  intro i
  simp only [getField, setField, fieldMask, Nat.testBit_mod_two_pow, Nat.testBit_shiftRight, BitVec.testBit_toNat,
    BitVec.getLsbD_or, BitVec.getLsbD_and, BitVec.getLsbD_not, BitVec.getLsbD_ofNat, Nat.testBit_shiftLeft,
    Nat.testBit_two_pow_sub_one]
  by_cases hin : i < hi + 1 - lo
  · have hbit : lo + i < 32 := by omega
    simp [hin, hbit]
  · simp [hin]

/-- A field reads the low bits of what was stored in it. -/
theorem State.getF_setF_same {s : State} (h : regsWf s.regs) (base : Nat) {f : Fld} (hf : f.hi < 32) (v : Nat) :
    (s.setF base f v).getF base f = v % 2 ^ (f.hi + 1 - f.lo) := by
  rw [State.getF, State.setF, State.rd_wr_same h, getField_setField_same hf]

/-- A store of a field keeps the canonical form of the register file. -/
theorem State.setF_regsWf {s : State} (h : regsWf s.regs) (base : Nat) (f : Fld) (v : Nat) : regsWf (s.setF base f v).regs :=
  State.wr_regsWf h _ _

/-- An event leaves every field outside the page's EVT_RAW. -/
theorem State.getF_raise_ne {base page : Nat} {f : Fld} (h : base + f.off ≠ page + 0x00C) (s : State) (b : Nat) :
    (s.raise page b).getF base f = s.getF base f := by
  simp only [State.getF, State.raise, State.rd_wr_ne h]

/-- A count of ERR_CNT leaves every other field. -/
theorem State.getF_err_ne {base page : Nat} {f : Fld} (h : base + f.off ≠ page + 0x020) (s : State) :
    (s.err page).getF base f = s.getF base f := by
  simp only [State.getF, State.err, State.count, State.rd_wr_ne h]

/-- R406: a black-box record counts in two registers of page BBX at most. -/
theorem State.getF_log_ne {base : Nat} {f : Fld} (herr : base + f.off ≠ P.bbx + 0x020)
    (hdrop : base + f.off ≠ P.bbx + F.BBX_DROP_CNT_COUNT.off) (s : State) (code sev src unit : Nat) (payload : List Byte) :
    (s.log code sev src unit payload).getF base f = s.getF base f := by
  have hcounts (t : State) : ((t.bump P.bbx F.BBX_DROP_CNT_COUNT).err P.bbx).getF base f = t.getF base f := by
    rw [State.getF_err_ne herr]
    simp only [State.getF, State.bump, State.count, State.rd_wr_ne hdrop]
  unfold State.log State.queueRec
  split
  · rfl
  · dsimp only
    split
    · exact hcounts s
    · exact hcounts s

/-- A 64-bit store leaves every field outside its two registers. -/
theorem State.getF_set64_ne {base lo : Nat} {f : Fld} (hlo : base + f.off ≠ lo) (hhi : base + f.off ≠ lo + 4) (s : State)
    (v : BitVec 64) : (s.set64 lo v).getF base f = s.getF base f := by
  simp only [State.getF, State.set64, State.rd_wr_ne hhi, State.rd_wr_ne hlo]

/-- R30: the pages of the cores lie above those of the black box. -/
theorem bbx_lt_core (c : Nat) : P.bbx + 0x1000 ≤ P.core c := by
  unfold P.bbx P.core
  split <;> omega

/-! ### A core after a change of it -/

/-- A change of one element of a list is the library's. -/
theorem modifyAt_eq_modify {α : Type} (f : α → α) : ∀ (n : Nat) (l : List α), modifyAt f n l = l.modify n f
  | n, [] => by cases n <;> rfl
  | 0, _ :: _ => rfl
  | n + 1, x :: t => by rw [modifyAt, modifyAt_eq_modify f n t, List.modify_succ_cons]

/-- A change of a core that exists applies to what it holds. -/
theorem State.core_onCore {s : State} {c : Nat} (h : c < s.cores.length) (f : CoreHid → CoreHid) :
    (s.onCore c f).core c = f (s.core c) := by
  simp only [State.core, State.onCore, modifyAt_eq_modify, List.getD_eq_getElem?_getD, List.getElem?_modify_eq,
    List.getElem?_eq_getElem h, Option.map_eq_map, Option.map_some, Option.getD_some]

/-- A change of a core adds none and removes none. -/
theorem State.onCore_cores_length (s : State) (c : Nat) (f : CoreHid → CoreHid) :
    (s.onCore c f).cores.length = s.cores.length := by
  rw [State.onCore, modifyAt_eq_modify, List.length_modify]

/-- R302: what a core holds once it has retired an instruction. -/
theorem State.core_retired {t : State} {c : Nat} (h : c < t.cores.length) (s : State) (i : CoreInstr) (n : Nat) :
    (s.retired c i n t).core c = { t.core c with loaded := i.loads (grpSize c), summed := i.sums (grpSize c) } :=
  State.core_onCore h _

/-- R302: retiring an instruction writes CYC, and not the core's state. -/
theorem State.coreSt_retired (s t : State) (c : Nat) (i : CoreInstr) (n : Nat) : coreSt (s.retired c i n t) c = coreSt t c := by
  simp only [coreSt, State.st, State.retired]
  rw [State.getF_set64_ne (by simp only [F.PG_STAT_STATE]; omega) (by simp only [F.PG_STAT_STATE]; omega), State.onCore_getF]

/-- A change of what a core holds beside its page leaves the state of every core. -/
theorem coreSt_onCore (s : State) (n c : Nat) (f : CoreHid → CoreHid) : coreSt (s.onCore n f) c = coreSt s c :=
  State.onCore_getF s n f _ _

/-- A core that issues an instruction is RUNNING. -/
theorem coreSt_of_issues {s : State} {c : Nat} {i : CoreInstr} (h : issues s c i = true) : coreSt s c = 3 := by
  simp only [issues, coreLive, Bool.and_eq_true, beq_iff_eq] at h
  obtain ⟨⟨⟨⟨⟨hst, -⟩, -⟩, -⟩, -⟩, -⟩ := h
  exact hst

/-- R302: a core that retires an instruction by changes of what it holds stays RUNNING, and holds what the changes made. -/
theorem core_retired_onCore {s : State} {c : Nat} {i : CoreInstr} (hc : c < s.cores.length) (h : issues s c i = true) (n : Nat)
    (f g : CoreHid → CoreHid) :
    let u := s.retired c i n ((s.onCore c f).onCore c g)
    coreSt u c = 3 ∧
      u.core c = { g (f (s.core c)) with loaded := i.loads (grpSize c), summed := i.sums (grpSize c) } := by
  refine ⟨?_, ?_⟩
  · rw [State.coreSt_retired, coreSt_onCore, coreSt_onCore, coreSt_of_issues h]
  · rw [onCore_onCore, State.core_retired (by rwa [State.onCore_cores_length]), State.core_onCore hc]

/-! ### A fault (R322) -/

/-- R322: a fault puts the core's state to FAULT. -/
theorem coreSt_coreFault {s : State} (h : regsWf s.regs) (c code : Nat) : coreSt (coreFault s c code) c = 7 := by
  have hbbx := bbx_lt_core c
  simp only [coreSt, State.st, coreFault, State.setSt]
  rw [State.getF_log_ne (by omega) (by simp only [F.BBX_DROP_CNT_COUNT]; omega),
    State.getF_err_ne (by simp [F.PG_STAT_STATE]), State.getF_raise_ne (by simp [F.PG_STAT_STATE]),
    State.getF_setF_same (State.setF_regsWf (State.setF_regsWf h _ _ _) _ _ _) _ (by decide)]
  rfl

/-- R322: a fault shows its code in W_n_STAT. -/
theorem getF_flt_coreFault {s : State} (h : regsWf s.regs) (c code : Nat) :
    (coreFault s c code).getF (P.core c) F.W_STAT_FLT = code % 16 := by
  have hbbx := bbx_lt_core c
  simp only [coreFault, State.setSt]
  rw [State.getF_log_ne (by omega) (by simp only [F.BBX_DROP_CNT_COUNT]; omega),
    State.getF_err_ne (by simp [F.W_STAT_FLT]), State.getF_raise_ne (by simp [F.W_STAT_FLT]),
    State.getF_setF_ne (by simp [F.W_STAT_FLT, F.PG_STAT_STATE]), State.getF_setF_ne (by simp [F.W_STAT_FLT, F.PG_STAT_FAULT]),
    State.getF_setF_same h _ (by decide)]
  rfl

/-- R322: a fault leaves what every core holds beside its page. -/
@[simp] theorem coreFault_core (s : State) (c code n : Nat) : (coreFault s c code).core n = s.core n := by
  simp only [State.core, coreFault, State.log_cores, State.err_cores, State.raise_cores, State.setSt_cores, State.setF_cores]

/-! ### Calls and loops -/

/-- R302: an instruction other than LOOP that goes on at a target as a call does takes three cycles. -/
theorem coreIssue_call {s t : State} {c : Fin 20} {i : CoreInstr} {dest : Int} (h : issues s c i = true)
    (ha : i.act c s = (t, .call dest)) (hl : ∀ n l, i ≠ .loop n l) :
    coreIssue c i s = s.retired c i 3 (t.onCore c fun k => { k with pc := dest }) := by
  rw [coreIssue_issues h]
  have hcycles (a b : Nat) : 1 + a + b + 2 = 3 + (a + b) := by omega
  cases i
  case loop n l => exact absurd rfl (hl n l)
  all_goals simp only [coreExec, ha, coreEnd, coreCycles, State.retired, stalls, hcycles]

/-- R302: a LOOP that enters its body takes one cycle. -/
theorem coreIssue_loop {s t : State} {c : Fin 20} {n : LoopBy} {len : BitVec 10} {dest : Int}
    (h : issues s c (.loop n len) = true) (ha : opLoop n len c s = (t, .call dest)) :
    coreIssue c (.loop n len) s = s.retired c (.loop n len) 1 (t.onCore c fun k => { k with pc := dest }) := by
  rw [coreIssue_issues h]
  simp only [coreExec, CoreInstr.act, ha, coreEnd, coreCycles, State.retired, stalls, Nat.add_zero, Nat.add_assoc]

/-- R307: the count that a LOOP names. -/
def loopCount (k : CoreHid) : LoopBy → Nat
  | .imm v => v.toNat
  | .reg x => (k.r x).toNat

/-- R307, R308: a LOOP with a count nests, or faults where four loops are active. -/
theorem opLoop_of_count {s : State} {c : Nat} {n : LoopBy} (h : loopCount (s.core c) n ≠ 0) (len : BitVec 10) :
    opLoop n len c s =
      if 4 ≤ (s.core c).loops.length then (s, .fault 6)
      else (s.onCore c fun k =>
        { k with loops := ⟨k.pc + 1, k.pc + len.toNat, loopCount (s.core c) n⟩ :: k.loops }, .call ((s.core c).pc + 1)) := by
  cases n with
  | imm v => exact if_neg h
  | reg x => exact if_neg h

section
variable {s : State} {c : Fin 20}

/-- R308: a ninth CALL faults. -/
theorem exec_coreCall_full {t : BitVec 16} (h : issues s c (.call t) = true) (hfull : 8 ≤ (s.core c).calls.length) :
    exec (.coreCall c t) s = .next (coreFault s c 6) := by
  have hact : (CoreInstr.call t).act c s = (s, .fault 6) := if_pos hfull
  exact congrArg _ (coreIssue_fault h hact)

/-- R308: a CALL with room stacks the address after it and goes to its target. -/
theorem exec_coreCall_room {t : BitVec 16} (h : issues s c (.call t) = true) (hroom : (s.core c).calls.length < 8) :
    exec (.coreCall c t) s = .next (s.retired c (.call t) 3
      ((s.onCore c fun k => { k with calls := (k.pc + 1) :: k.calls }).onCore c fun k => { k with pc := t.toNat })) := by
  have hact : (CoreInstr.call t).act c s =
      (s.onCore c fun k => { k with calls := (k.pc + 1) :: k.calls }, .call t.toNat) := if_neg (Nat.not_le.mpr hroom)
  exact congrArg _ (coreIssue_call h hact nofun)

/-- R308: a RET with the stack empty faults. -/
theorem exec_coreRet_empty (h : issues s c .ret = true) (hempty : (s.core c).calls = []) :
    exec (.coreRet c) s = .next (coreFault s c 6) := by
  have hact : CoreInstr.ret.act c s = (s, .fault 6) := by simp only [CoreInstr.act, opRet, hempty]
  exact congrArg _ (coreIssue_fault h hact)

/-- R305, R307: a RET goes to the newest return address and takes it off the stack. -/
theorem exec_coreRet_top {t : Int} {l : List Int} (h : issues s c .ret = true) (htop : (s.core c).calls = t :: l) :
    exec (.coreRet c) s = .next (s.retired c .ret 3 ((s.onCore c fun k => { k with calls := k.calls.tail }).onCore c
      fun k => { k with loops := loopsFor t k.loops, pc := t })) := by
  have hact : CoreInstr.ret.act c s = (s.onCore c fun k => { k with calls := k.calls.tail }, .jump t) := by
    simp only [CoreInstr.act, opRet, htop]
  exact congrArg _ (coreIssue_jump h hact nofun)

/-- R308: a fifth nested LOOP faults. -/
theorem exec_coreLoop_full {n : LoopBy} {len : BitVec 10} (h : issues s c (.loop n len) = true)
    (hcount : loopCount (s.core c) n ≠ 0) (hfull : 4 ≤ (s.core c).loops.length) :
    exec (.coreLoop c n len) s = .next (coreFault s c 6) := by
  have hact : (CoreInstr.loop n len).act c s = (s, .fault 6) := (opLoop_of_count hcount len).trans (if_pos hfull)
  exact congrArg _ (coreIssue_fault h hact)

/-- R307: a LOOP with room nests a loop of its count and goes on at the body's first instruction. -/
theorem exec_coreLoop_room {n : LoopBy} {len : BitVec 10} (h : issues s c (.loop n len) = true)
    (hcount : loopCount (s.core c) n ≠ 0) (hroom : (s.core c).loops.length < 4) :
    exec (.coreLoop c n len) s = .next (s.retired c (.loop n len) 1 ((s.onCore c fun k =>
      { k with loops := ⟨k.pc + 1, k.pc + len.toNat, loopCount (s.core c) n⟩ :: k.loops }).onCore c
        fun k => { k with pc := (s.core c).pc + 1 })) := by
  have hact := (opLoop_of_count hcount len).trans (if_neg (Nat.not_le.mpr hroom))
  exact congrArg _ (coreIssue_loop h hact)

end

/-- Settles O44: each instruction's two sides are the rules above, and the fault is R322's. -/
theorem stacksAreBounded : Obligations.StacksAreBounded := by
  unfold Obligations.StacksAreBounded
  intro s c hform k stack
  obtain ⟨hregs, -, hcores, -⟩ := hform
  have hc : c.val < s.cores.length := c.isLt.trans_eq hcores.symm
  refine ⟨fun t h => ⟨exec_coreCall_full h, fun hroom => ?callRoom⟩,
    fun h => ⟨exec_coreRet_empty h, fun t l htop => ?retTop⟩,
    ?loop, coreSt_coreFault hregs c 6, ?pc, getF_flt_coreFault hregs c 6⟩
  case callRoom =>
    obtain ⟨hst, hcore⟩ := core_retired_onCore hc h 3 (fun k => { k with calls := (k.pc + 1) :: k.calls })
      (fun k => { k with pc := t.toNat })
    exact ⟨_, exec_coreCall_room h hroom, hst, congrArg CoreHid.calls hcore, congrArg CoreHid.pc hcore⟩
  case retTop =>
    obtain ⟨hst, hcore⟩ := core_retired_onCore hc h 3 (fun k => { k with calls := k.calls.tail })
      (fun k => { k with loops := loopsFor t k.loops, pc := t })
    have hcalls : (s.core c).calls.tail = l := by rw [htop, List.tail_cons]
    exact ⟨_, exec_coreRet_top h htop, hst, (congrArg CoreHid.calls hcore).trans hcalls, congrArg CoreHid.pc hcore⟩
  case loop =>
    intro n len h count hcount
    have hloop : loopCount (s.core c) n ≠ 0 := by
      cases n with
      | imm v => exact hcount
      | reg x => exact hcount
    refine ⟨exec_coreLoop_full h hloop, fun hroom => ?_⟩
    obtain ⟨hst, hcore⟩ := core_retired_onCore hc h 1
      (fun k => { k with loops := ⟨k.pc + 1, k.pc + len.toNat, loopCount (s.core c) n⟩ :: k.loops })
      (fun k => { k with pc := (s.core c).pc + 1 })
    exact ⟨_, exec_coreLoop_room h hloop hroom, hst, congrArg (fun k => k.loops.length) hcore⟩
  case pc => exact congrArg CoreHid.pc (coreFault_core s c 6 c)

end Sys2Proof.Machine
end

section
/-! PROOFS. The words of a core's instructions (R303-R305): a field of a word reads what was put there, so decoding undoes encoding. -/

namespace Sys2Proof.Machine

/-! ### Fields of an instruction word -/

/-- A field of two words joined is the join of their fields. -/
@[simp] theorem fld_or (v w : Word) (lo n : Nat) : fld (v ||| w) lo n = fld v lo n ||| fld w lo n := by
  simp only [fld, BitVec.ushiftRight_or_distrib, BitVec.setWidth_or]

/-- A field reads what was put in it. -/
theorem fld_put_same {n lo : Nat} (h : lo + n ≤ 32) (v : BitVec n) : fld (put lo v) lo n = v := by
  ext i hi
  simp only [fld, put, BitVec.getElem_setWidth, BitVec.getLsbD_ushiftRight, BitVec.getLsbD_shiftLeft, BitVec.getLsbD_setWidth]
  have hlo : lo + i < 32 := by omega
  have hi32 : i < 32 := by omega
  simp [hlo, hi32, BitVec.getLsbD_eq_getElem hi]

/-- A field reads nothing of what was put beside it. -/
theorem fld_put_apart {m n lo at_ : Nat} (h : at_ + n ≤ lo ∨ lo + m ≤ at_) (v : BitVec m) : fld (put lo v) at_ n = 0#n := by
  ext i hi
  simp only [fld, put, BitVec.getElem_setWidth, BitVec.getLsbD_ushiftRight, BitVec.getLsbD_shiftLeft, BitVec.getLsbD_setWidth,
    BitVec.getElem_zero, Bool.and_eq_false_iff, Bool.not_eq_false', decide_eq_true_eq, decide_eq_false_iff_not]
  rcases h with h | h
  · exact .inl (.inr (by omega))
  · exact .inr (.inr (BitVec.getLsbD_of_ge v _ (by omega)))

/-- A bit reads what was put in it. -/
theorem getLsbD_putB_same {i : Nat} (h : i < 32) (b : Bool) : (putB i b).getLsbD i = b := by
  cases b <;> simp [putB, put, h]

/-- A bit reads nothing of what was put beside it. -/
theorem getLsbD_put_apart {n lo i : Nat} (h : i < lo ∨ lo + n ≤ i) (v : BitVec n) : (put lo v).getLsbD i = false := by
  simp only [put, BitVec.getLsbD_shiftLeft, BitVec.getLsbD_setWidth, Bool.and_eq_false_iff, Bool.not_eq_false', decide_eq_true_eq,
    decide_eq_false_iff_not]
  rcases h with h | h
  · exact .inl (.inr h)
  · exact .inr (.inr (BitVec.getLsbD_of_ge v _ (by omega)))

/-- A bit reads nothing of a bit beside it. -/
theorem getLsbD_putB_apart {lo i : Nat} (h : i < lo ∨ lo + 1 ≤ i) (b : Bool) : (putB lo b).getLsbD i = false :=
  getLsbD_put_apart h _

/-- A field reads nothing of a bit beside it. -/
theorem fld_putB_apart {n lo at_ : Nat} (h : at_ + n ≤ lo ∨ lo + 1 ≤ at_) (b : Bool) : fld (putB lo b) at_ n = 0#n :=
  fld_put_apart h _

/-- Formats A to S: a word is of format M where its opcode is 0x30 or above. -/
theorem formatM_iff (w : Word) : (w.getLsbD 31 && w.getLsbD 30) = decide (0x30 ≤ (fld w 26 6).toNat) := by
  have h : ∀ v : BitVec 6, (v.getLsbD 5 && v.getLsbD 4) = decide (0x30 ≤ v.toNat) := by decide
  rw [← h]
  simp [fld]

/-- An opcode reads back. -/
@[simp] theorem opc_op (n : Nat) : fld (opc n) 26 6 = BitVec.ofNat 6 n := fld_put_same (by omega) _

/-! #### Format A. -/
section
variable (n : Nat) (d x y : BitVec 5)
@[simp] theorem encA_op : fld (encA n d x y) 26 6 = BitVec.ofNat 6 n := by
  simp (disch := omega) [encA, opc, fld_put_same, fld_put_apart]
@[simp] theorem encA_d : fld (encA n d x y) 21 5 = d := by
  simp (disch := omega) [encA, opc, fld_put_same, fld_put_apart]
@[simp] theorem encA_x : fld (encA n d x y) 16 5 = x := by
  simp (disch := omega) [encA, opc, fld_put_same, fld_put_apart]
@[simp] theorem encA_y : fld (encA n d x y) 11 5 = y := by
  simp (disch := omega) [encA, opc, fld_put_same, fld_put_apart]
end
/-! #### Format I. -/
section
variable (n : Nat) (d x : BitVec 5) (imm : BitVec 16)
@[simp] theorem encI_op : fld (encI n d x imm) 26 6 = BitVec.ofNat 6 n := by
  simp (disch := omega) [encI, opc, fld_put_same, fld_put_apart]
@[simp] theorem encI_d : fld (encI n d x imm) 21 5 = d := by
  simp (disch := omega) [encI, opc, fld_put_same, fld_put_apart]
@[simp] theorem encI_x : fld (encI n d x imm) 16 5 = x := by
  simp (disch := omega) [encI, opc, fld_put_same, fld_put_apart]
@[simp] theorem encI_imm : fld (encI n d x imm) 0 16 = imm := by
  simp (disch := omega) [encI, opc, fld_put_same, fld_put_apart]
end
/-! #### Format X. -/
section
variable (n : Nat) (d : BitVec 5) (a e : BitVec 3)
@[simp] theorem encX_op : fld (encX n d a e) 26 6 = BitVec.ofNat 6 n := by
  simp (disch := omega) [encX, opc, fld_put_same, fld_put_apart]
@[simp] theorem encX_d : fld (encX n d a e) 21 5 = d := by
  simp (disch := omega) [encX, opc, fld_put_same, fld_put_apart]
@[simp] theorem encX_a : fld (encX n d a e) 18 3 = a := by
  simp (disch := omega) [encX, opc, fld_put_same, fld_put_apart]
@[simp] theorem encX_e : fld (encX n d a e) 15 3 = e := by
  simp (disch := omega) [encX, opc, fld_put_same, fld_put_apart]
@[simp] theorem encX_part : fld (encX n d a e) 13 2 = 0 := by
  simp (disch := omega) [encX, opc, fld_put_apart]
end
/-! #### Format X of ACC. -/
section
variable (fn : Nat) (a e : BitVec 3) (imm : BitVec 8)
@[simp] theorem encAcc_op : fld (encAcc fn a e imm) 26 6 = 0x1D#6 := by
  simp (disch := omega) [encAcc, encX, opc, fld_put_same, fld_put_apart]
@[simp] theorem encAcc_fn : fld (encAcc fn a e imm) 8 4 = BitVec.ofNat 4 fn := by
  simp (disch := omega) [encAcc, encX, opc, fld_put_same, fld_put_apart]
@[simp] theorem encAcc_a : fld (encAcc fn a e imm) 18 3 = a := by
  simp (disch := omega) [encAcc, encX, opc, fld_put_same, fld_put_apart]
@[simp] theorem encAcc_e : fld (encAcc fn a e imm) 15 3 = e := by
  simp (disch := omega) [encAcc, encX, opc, fld_put_same, fld_put_apart]
@[simp] theorem encAcc_imm : fld (encAcc fn a e imm) 0 8 = imm := by
  simp (disch := omega) [encAcc, encX, opc, fld_put_same, fld_put_apart]
end
/-! #### Format L. -/
section
variable (n : Nat) (d : BitVec 5) (u : BitVec 3) (t : Bool) (imm : BitVec 17)
@[simp] theorem encL_op : fld (encL n d u t imm) 26 6 = BitVec.ofNat 6 n := by
  simp (disch := omega) [encL, opc, fld_put_same, fld_put_apart, fld_putB_apart]
@[simp] theorem encL_d : fld (encL n d u t imm) 21 5 = d := by
  simp (disch := omega) [encL, opc, fld_put_same, fld_put_apart, fld_putB_apart]
@[simp] theorem encL_u : fld (encL n d u t imm) 18 3 = u := by
  simp (disch := omega) [encL, opc, fld_put_same, fld_put_apart, fld_putB_apart]
@[simp] theorem encL_imm : fld (encL n d u t imm) 0 17 = imm := by
  simp (disch := omega) [encL, opc, fld_put_same, fld_put_apart, fld_putB_apart]
end
/-! #### Format S. -/
section
variable (n tgt : Nat) (k : BitVec 5) (bits : Byte)
@[simp] theorem encS_op : fld (encS n tgt k bits) 26 6 = BitVec.ofNat 6 n := by
  simp (disch := omega) [encS, opc, fld_put_same, fld_put_apart]
@[simp] theorem encS_tgt : fld (encS n tgt k bits) 24 2 = BitVec.ofNat 2 tgt := by
  simp (disch := omega) [encS, opc, fld_put_same, fld_put_apart]
@[simp] theorem encS_k : fld (encS n tgt k bits) 19 5 = k := by
  simp (disch := omega) [encS, opc, fld_put_same, fld_put_apart]
@[simp] theorem encS_bits : fld (encS n tgt k bits) 0 8 = bits := by
  simp (disch := omega) [encS, opc, fld_put_same, fld_put_apart]
end

/-- Format L: TSEL reads back. -/
theorem encL_tsel (n : Nat) (d : BitVec 5) (u : BitVec 3) (t : Bool) (imm : BitVec 17) : (encL n d u t imm).getLsbD 17 = t := by
  simp (disch := omega) only [encL, opc, BitVec.getLsbD_or, getLsbD_put_apart, getLsbD_putB_same, Bool.or_false, Bool.false_or]

/-- Format L: a step reads back. -/
theorem decStep_encStep (n : Nat) (d : BitVec 5) (u : BitVec 3) (m : StepBy) : decStep (encStep n d u m) = m := by
  cases m with
  | unit => simp only [decStep, encStep, encL_tsel, if_true]
  | imm v => simp only [decStep, encStep, encL_tsel, encL_imm, Bool.false_eq_true, if_false]

/-- Format A: a shift amount reads back. -/
theorem decShift_encShift (n : Nat) (d x : BitVec 5) (k : ShiftBy) : decShift (encShift n d x k) = k := by
  cases k with
  | imm v => simp (disch := omega) only [decShift, encShift, encA, opc, fld_or, fld_put_same, fld_put_apart, fld_putB_apart, BitVec.getLsbD_or,
      getLsbD_put_apart, getLsbD_putB_same, Bool.or_false, Bool.false_or, if_true, BitVec.zero_or]
  | reg y => simp (disch := omega) only [decShift, encShift, encA, opc, BitVec.getLsbD_or, getLsbD_put_apart, Bool.or_false,
      Bool.false_eq_true, if_false, fld_or, fld_put_same, fld_put_apart, BitVec.zero_or]
/-- Format M: the two top bits are 1, and FN reads back. -/
theorem encM_top (op : Nat) (m : MacOps) : ((encM op m).getLsbD 31 && (encM op m).getLsbD 30) = true := by
  have h : (put 30 3#2).getLsbD 31 = true ∧ (put 30 3#2).getLsbD 30 = true := by decide
  simp only [encM, BitVec.getLsbD_or, h, Bool.true_or, Bool.and_self]

theorem encM_fn (op : Nat) (m : MacOps) : fld (encM op m) 28 2 = BitVec.ofNat 2 op := by
  simp (disch := omega) [encM, fld_put_same, fld_put_apart, fld_putB_apart]

/-- Format M: the operands read back. -/
theorem decMac_encM (op : Nat) (m : MacOps) : decMac (encM op m) = m := by
  simp (disch := omega) only [decMac, encM, fld_or, fld_put_same, fld_put_apart, fld_putB_apart, BitVec.getLsbD_or,
      getLsbD_put_apart, getLsbD_putB_same, getLsbD_putB_apart, Bool.or_false, Bool.false_or, BitVec.zero_or, BitVec.or_zero]

/-- Format A with a shift amount: the fields beside it. -/
@[simp] theorem encShift_op (n : Nat) (d x : BitVec 5) (k : ShiftBy) : fld (encShift n d x k) 26 6 = BitVec.ofNat 6 n := by
  cases k <;> simp (disch := omega) [encShift, fld_put_apart, fld_putB_apart]
@[simp] theorem encShift_d (n : Nat) (d x : BitVec 5) (k : ShiftBy) : fld (encShift n d x k) 21 5 = d := by
  cases k <;> simp (disch := omega) [encShift, fld_put_apart, fld_putB_apart]
@[simp] theorem encShift_x (n : Nat) (d x : BitVec 5) (k : ShiftBy) : fld (encShift n d x k) 16 5 = x := by
  cases k <;> simp (disch := omega) [encShift, fld_put_apart, fld_putB_apart]

/-- Format L with a step: the fields beside it. -/
@[simp] theorem encStep_op (n : Nat) (d : BitVec 5) (u : BitVec 3) (m : StepBy) : fld (encStep n d u m) 26 6 = BitVec.ofNat 6 n := by
  cases m <;> exact encL_op ..
@[simp] theorem encStep_d (n : Nat) (d : BitVec 5) (u : BitVec 3) (m : StepBy) : fld (encStep n d u m) 21 5 = d := by
  cases m <;> exact encL_d ..
@[simp] theorem encStep_u (n : Nat) (d : BitVec 5) (u : BitVec 3) (m : StepBy) : fld (encStep n d u m) 18 3 = u := by
  cases m <;> exact encL_u ..

/-- R303, R305: format A with registers, sums and bits. -/
theorem decode_sums (d x y : BitVec 5) : ∀ i ∈ ([.add d x y, .sub d x y, .adds d x y, .subs d x y, .and d x y, .or d x y,
      .xor d x y] : List CoreInstr), decodeCore (encodeCore i) = some i := by
  simp only [List.forall_mem_cons, decodeCore, encodeCore, formatM_iff, encA_op]
  simp

/-- R303, R305: format A with registers, the others. -/
theorem decode_regs (d x y : BitVec 5) : ∀ i ∈ ([.min d x y, .max d x y, .abs d x, .mul d x y, .exp d x, .norm d y x,
      .wait x] : List CoreInstr), decodeCore (encodeCore i) = some i := by
  simp only [List.forall_mem_cons, decodeCore, encodeCore, formatM_iff, encA_op]
  simp

/-- R303, R305: format A with a shift amount. -/
theorem decode_shifts (d x : BitVec 5) (k : ShiftBy) : ∀ i ∈ ([.shl d x k, .shr d x k, .sar d x k, .shls d x k] : List CoreInstr),
    decodeCore (encodeCore i) = some i := by
  simp only [List.forall_mem_cons, decodeCore, encodeCore, formatM_iff, encShift_op]
  simp [decShift_encShift]

/-- R303, R305: format I. -/
theorem decode_imms (d x : BitVec 5) (imm : BitVec 16) :
    ∀ i ∈ ([.addi d x imm, .andi d x imm, .ori d x imm, .xori d x imm,
      .lui d imm, .jmp imm, .call imm] : List CoreInstr),
    decodeCore (encodeCore i) = some i := by
  simp only [List.forall_mem_cons, decodeCore, encodeCore, formatM_iff, encI_op]
  simp

/-- R303, R305: format X with a register. -/
theorem decode_expa_norma_divs (d : BitVec 5) (a : BitVec 3) :
    ∀ i ∈ ([.expa d a, .norma a d, .divs a d] : List CoreInstr), decodeCore (encodeCore i) = some i := by
  simp only [List.forall_mem_cons, decodeCore, encodeCore, formatM_iff, encX_op]
  simp

/-- R303, R305: format X of the accumulators. -/
theorem decode_accs (a e : BitVec 3) (v : BitVec 8) :
    ∀ i ∈ ([.accClr a, .accMov a e, .accAdd a e, .accSub a e, .accNeg a e, .accShift a e v] : List CoreInstr),
    decodeCore (encodeCore i) = some i := by
  simp only [List.forall_mem_cons, decodeCore, encodeCore, formatM_iff, encAcc_op, encAcc_fn]
  simp

/-- R303, R305: format L. -/
theorem decode_loads (d : BitVec 5) (u : BitVec 3) (m : StepBy) (t : Bool) (imm : BitVec 17) :
    ∀ i ∈ ([.ld d u m, .st d u m, .ldg d u m, .stg d u m, .padv u m,
      .ldx d u t imm, .stx d u t imm] : List CoreInstr),
    decodeCore (encodeCore i) = some i := by
  simp only [List.forall_mem_cons, decodeCore, encodeCore, formatM_iff, encStep_op, encL_op, encL_tsel]
  simp [decStep_encStep]

/-- R303, R305: the instructions without operands. -/
theorem decode_bare : ∀ i ∈ ([.nop, .ret, .done, .halt] : List CoreInstr), decodeCore (encodeCore i) = some i := by
  decide

/-- R303, R305: format S. -/
theorem decode_signals (k : BitVec 5) (bits : Byte) :
    ∀ i ∈ ([.sigCore k bits, .sigForager bits, .sigKeeper bits] : List CoreInstr), decodeCore (encodeCore i) = some i := by
  simp only [List.forall_mem_cons, decodeCore, encodeCore, formatM_iff, encS_op, encS_tgt]
  simp

/-- R303, R304: format M. -/
theorem decode_macs (m : MacOps) : ∀ i ∈ ([.mac m, .msu m, .mpy m, .macx m] : List CoreInstr),
    decodeCore (encodeCore i) = some i := by
  simp only [List.forall_mem_cons, decodeCore, encodeCore, encM_top, encM_fn, decMac_encM]
  simp

/-- R303, R305: MVA and MVD. -/
theorem decode_mva (d : BitVec 5) (a : BitVec 3) (part : BitVec 2) (r : Bool) :
    decodeCore (encodeCore (.mva d a part r)) = some (.mva d a part r) := by
  simp (disch := omega) only [decodeCore, encodeCore, formatM_iff, fld_or, encX_op, fld_put_apart, fld_putB_apart, BitVec.or_zero]
  simp (disch := omega) [fld_put_same, -BitVec.getLsbD_eq_getElem]
  simp (disch := omega) only [encX, opc, BitVec.getLsbD_or, getLsbD_put_apart, getLsbD_putB_same, Bool.or_false, Bool.false_or]

@[inherit_doc decode_mva] theorem decode_mvd (a : BitVec 3) (x : BitVec 5) (part : BitVec 2) :
    decodeCore (encodeCore (.mvd a x part)) = some (.mvd a x part) := by
  simp (disch := omega) only [decodeCore, encodeCore, formatM_iff, fld_or, encX_op, fld_put_apart, BitVec.or_zero]
  simp (disch := omega) [fld_put_same]

/-- R303, R305: the moves of control registers. -/
theorem decode_mvc (d : BitVec 5) (reg : BitVec 6) :
    decodeCore (encodeCore (.mvc d reg)) = some (.mvc d reg) := by
  simp (disch := omega) only [decodeCore, encodeCore, formatM_iff, fld_or, opc_op, fld_put_apart, BitVec.or_zero]
  simp (disch := omega) [fld_put_same, fld_put_apart, opc]

@[inherit_doc decode_mvc] theorem decode_mvcs (d : BitVec 5) (reg : BitVec 6) :
    decodeCore (encodeCore (.mvcs d reg)) = some (.mvcs d reg) := by
  simp (disch := omega) only [decodeCore, encodeCore, formatM_iff, fld_or, opc_op, fld_put_apart, BitVec.or_zero]
  simp (disch := omega) [fld_put_same, fld_put_apart, opc]

/-- R303, R305: B. -/
theorem decode_branch (x y : BitVec 5) (c : BitVec 4) (o : BitVec 12) :
    decodeCore (encodeCore (.b x y c o)) = some (.b x y c o) := by
  simp (disch := omega) only [decodeCore, encodeCore, formatM_iff, fld_or, opc_op, fld_put_apart, BitVec.or_zero]
  simp (disch := omega) [fld_put_same, fld_put_apart, opc]

/-- R303, R305: LOOP. -/
theorem decode_loop (n : LoopBy) (len : BitVec 10) : decodeCore (encodeCore (.loop n len)) = some (.loop n len) := by
  cases n with
  | imm k =>
    simp (disch := omega) only [decodeCore, encodeCore, formatM_iff, fld_or, opc_op, fld_put_apart, fld_putB_apart, BitVec.or_zero]
    simp (disch := omega) [BitVec.getLsbD_or, getLsbD_putB_same, fld_put_same, fld_put_apart, opc, -BitVec.getLsbD_eq_getElem]
  | reg x =>
    simp (disch := omega) only [decodeCore, encodeCore, formatM_iff, fld_or, opc_op, fld_put_apart, BitVec.or_zero]
    simp (disch := omega) [BitVec.getLsbD_or, getLsbD_put_apart, fld_put_same, fld_put_apart, opc, -BitVec.getLsbD_eq_getElem]

/-- R303-R305: decoding an instruction's word gives the instruction. -/
theorem decodeCore_encodeCore (i : CoreInstr) : decodeCore (encodeCore i) = some i := by
  cases i
  case add d x y | sub d x y | adds d x y | subs d x y | and d x y | or d x y | xor d x y =>
    exact decode_sums d x y _ (by simp)
  case min d x y | max d x y | mul d x y | norm d y x => exact decode_regs d x y _ (by simp)
  case abs d x | exp d x => exact decode_regs d x 0 _ (by simp)
  case wait x => exact decode_regs 0 x 0 _ (by simp)
  case shl d x k | shr d x k | sar d x k | shls d x k => exact decode_shifts d x k _ (by simp)
  case addi d x v | andi d x v | ori d x v | xori d x v => exact decode_imms d x v _ (by simp)
  case lui d v => exact decode_imms d 0 v _ (by simp)
  case jmp v | call v => exact decode_imms 0 0 v _ (by simp)
  case expa d a | norma a d | divs a d => exact decode_expa_norma_divs d a _ (by simp)
  case accMov a e | accAdd a e | accSub a e | accNeg a e => exact decode_accs a e 0 _ (by simp)
  case accClr a => exact decode_accs a 0 0 _ (by simp)
  case accShift a e v => exact decode_accs a e v _ (by simp)
  case ld d u m | st d u m | ldg d u m | stg d u m => exact decode_loads d u m false 0 _ (by simp)
  case padv u m => exact decode_loads 0 u m false 0 _ (by simp)
  case ldx d u t v | stx d u t v => exact decode_loads d u .unit t v _ (by simp)
  case nop | ret | done | halt => exact decode_bare _ (by simp)
  case sigCore k bits => exact decode_signals k bits _ (by simp)
  case sigForager bits | sigKeeper bits => exact decode_signals 0 bits _ (by simp)
  case mac m | msu m | mpy m | macx m => exact decode_macs m _ (by simp)
  case mva d a part r => exact decode_mva d a part r
  case mvd a x part => exact decode_mvd a x part
  case mvc d reg => exact decode_mvc d reg
  case mvcs d reg => exact decode_mvcs d reg
  case b x y c o => exact decode_branch x y c o
  case loop n len => exact decode_loop n len

/-! ### Words that spell an instruction, and words that do not -/

/-- An opcode is what stands above bit 25. -/
theorem toNat_opcode (w : Word) : (fld w 26 6).toNat = (w >>> 26).toNat := by
  have := w.isLt
  simp only [fld, BitVec.toNat_setWidth, BitVec.toNat_ushiftRight, Nat.shiftRight_eq_div_pow]
  omega

/-- R303: every word of format M spells an instruction. -/
theorem decodeCore_formatM {w : Word} (h : 0x30 ≤ (fld w 26 6).toNat) : (decodeCore w).isSome = true := by
  unfold decodeCore
  rw [formatM_iff, if_pos (decide_eq_true h)]
  split <;> rfl

/-- R305: every word of an opcode that is assigned and has no FN or TGT spells an instruction. -/
theorem decodeCore_assigned {w : Word} (h : (fld w 26 6).toNat ≤ 0x2F ∧ (fld w 26 6).toNat ≠ 0x15 ∧ (fld w 26 6).toNat ≠ 0x1D ∧
    (fld w 26 6).toNat ≠ 0x2D) : (decodeCore w).isSome = true := by
  unfold decodeCore
  rw [formatM_iff, if_neg (by simp; omega)]
  generalize (fld w 26 6).toNat = n at h
  obtain ⟨hle, h15, h1D, h2D⟩ := h
  interval_cases n <;> first | contradiction | rfl

/-- R305: opcode 0x15 is reserved. -/
theorem decodeCore_reserved {w : Word} (h : (fld w 26 6).toNat = 0x15) : decodeCore w = none := by
  unfold decodeCore
  rw [formatM_iff, if_neg (by simp; omega), h]
  rfl

/-- Settles O4. -/
theorem coreWordsRoundTrip : Obligations.CoreWordsRoundTrip := by
  unfold Obligations.CoreWordsRoundTrip
  refine ⟨decodeCore_encodeCore, fun w h => ?_, fun w h => decodeCore_reserved ((toNat_opcode w).trans h)⟩
  rw [← toNat_opcode] at h
  rcases h with h | h
  · exact decodeCore_formatM h
  · exact decodeCore_assigned h

end Sys2Proof.Machine
end

section
/-! PROOFS. Direct writes (R26-R47): how a served, a refused and a locked write end, what the header of a page does with its writes,
and a step and the reset state. -/

namespace Sys2Proof.Machine

/-! ### Ends of a write -/

/-- A served write whose action is done, as an outcome. -/
theorem next_hostWrite_done {s t : State} {r : Req} {a : Nat} {act : Act} (h : served s r a = true)
    (hd : act (s.wakeFor a) = (.done, t)) :
    (Host.Outcome.next (hostWrite r a act s) : Host.Outcome State Fault Refusal) = .next (t.answered .done) :=
  congrArg _ (hostWrite_served h hd)

/-- A served write whose action refuses, as an outcome. -/
theorem next_hostWrite_refused {s t : State} {r : Req} {a : Nat} {act : Act} {c : Code} (h : served s r a = true)
    (hd : act (s.wakeFor a) = (c, t)) (hc : c ≠ .done) :
    (Host.Outcome.next (hostWrite r a act s) : Host.Outcome State Fault Refusal) = .next ((t.refuseAt r 0xFF a c).answered c) :=
  congrArg _ (hostWrite_refused h hd hc)

/-- R26-R29: a write that reaches the part at an address that cannot be accessed. -/
theorem hostWrite_bad {s : State} {r : Req} {a : Nat} {act : Act} {why : BadReason} (hr : reaches s r = true)
    (ho : opened s r a = true) (hb : writeBad (s.wakeFor a) a = some why) :
    let t := s.wakeFor a
    let c := if lockedOut t a then lockCode why.code else why.code
    hostWrite r a act s = (((t.dropCommit r a).badAccess true why r a).refuseOwned r 0xFF a c).answered c := by
  simp only [hostWrite, hr, ho, Bool.and_self, if_true, serve, hb, State.answered]

/-- R36: a write that reaches a locked page. -/
theorem hostWrite_locked {s : State} {r : Req} {a : Nat} {act : Act} (hr : reaches s r = true) (ho : opened s r a = true)
    (hb : writeBad (s.wakeFor a) a = none) (hl : lockedOut (s.wakeFor a) a = true) :
    let t := s.wakeFor a
    let c := lockCode (act t).1
    hostWrite r a act s = ((t.dropCommit r a).refuseAt r 0xFF a c).answered c := by
  simp only [hostWrite, hr, ho, Bool.and_self, if_true, serve, hb, hl, State.answered]

/-- R46: what a locked page answers. -/
theorem lockCode_eq (c : Code) : (checkRank c < checkRank .locked → lockCode c = c) ∧
    (checkRank .locked ≤ checkRank c → lockCode c = .locked) :=
  ⟨fun h => if_pos h, fun h => if_neg (Nat.not_lt.mpr h)⟩

/-- A register write ends with the soft reset of the SPI page that it may have left due (R35). -/
theorem exec_registerWrite {s u : State} {r : Req} {a : BitVec 24} {v : Word}
    (h : hostWrite r a.toNat (regWrite r a.toNat v) s = u) : exec (.registerWrite r a v) s = .next u.srstDue :=
  h ▸ rfl

/-- Settles O5. -/
theorem writesAreServedRefusedOrNotPerformed : Obligations.WritesAreServedRefusedOrNotPerformed := by
  unfold Obligations.WritesAreServedRefusedOrNotPerformed
  intro s r a v n t o
  refine ⟨fun why hr ho hb => ?bad, fun hr ho hb hl => ?locked, lockCode_eq, fun h hd => ?done, fun h hd => ?refused⟩
  case bad => exact exec_registerWrite (hostWrite_bad hr ho hb)
  case locked => exact exec_registerWrite (hostWrite_locked hr ho hb hl)
  case done => exact exec_registerWrite (hostWrite_served h (Prod.ext hd rfl))
  case refused => exact exec_registerWrite (hostWrite_refused h (Prod.ext rfl rfl) hd)

/-! ### The header of a page -/

/-- R30: an address of a page's header lies in the page's row. -/
theorem regionOf_header : ∀ p : Fin 77, ∀ off ∈ [0x004, 0x00C, 0x018, 0x020, 0x024],
    ∃ row inst, regionOf (pageOfIndex p + off) = .page row inst off ∧ row.base + 0x1000 * inst = pageOfIndex p ∧
      rowOf (pageOfIndex p) = some (row, inst) ∧ row.index + inst = p.val := by
  have h : ∀ p : Fin 77, ∀ off ∈ [0x004, 0x00C, 0x018, 0x020, 0x024], (match rowOf (pageOfIndex p) with
      | some (row, inst) => decide (regionOf (pageOfIndex p + off) = .page row inst off ∧ row.base + 0x1000 * inst = pageOfIndex p ∧
          row.index + inst = p.val)
      | none => false) = true := by decide +kernel
  intro p off hoff
  have hp := h p off hoff
  split at hp
  case h_1 row inst hrow =>
    obtain ⟨h1, h2, h3⟩ := of_decide_eq_true hp
    exact ⟨row, inst, h1, h2, hrow, h3⟩
  case h_2 => exact absurd hp Bool.false_ne_true


/-- R31: a write of a header register other than PG_CTRL. -/
theorem regWrite_header {off : Nat} (hoff : off ∈ [0x00C, 0x018, 0x020, 0x024]) (p : Fin 77) (r : Req) (v : Word) :
    regWrite r (pageOfIndex p + off) v = headerWrite (pageOfIndex p) off v := by
  obtain ⟨row, inst, hreg, hbase, -, -⟩ := regionOf_header p off (by simp_all)
  have h1 : off ≠ 0x004 ∧ off < 0x40 := by simp at hoff; omega
  simp only [regWrite, hreg, hbase, h1, if_true, if_false]

/-- R30: the index of a page. -/
theorem pageIndexOf_page (p : Fin 77) : pageIndexOf (pageOfIndex p) = p.val := by
  revert p; decide +kernel

/-- R31: the registers of a page's header are those of its table. -/
theorem regAt_header {off : Nat} (hoff : off ∈ [0x00C, 0x018, 0x020, 0x024]) (p : Fin 77) :
    regAt (pageOfIndex p + off) = regIn RegTable.hdrRegs off := by
  obtain ⟨row, inst, hreg, -, -, -⟩ := regionOf_header p off (List.mem_cons_of_mem _ hoff)
  have hlow : off < 0x40 := by simp at hoff; omega
  simp only [regAt, hreg, hlow, if_true]

/-- R75: no header register has a field that the block lacks. -/
theorem absentBits_header : ∀ p : Fin 77, ∀ off ∈ [0x00C, 0x020], absentBits (pageOfIndex p + off) = 0 := by decide +kernel

/-- R37: a write of EVT_RAW clears the bits written 1. -/
theorem store_evtRaw (p : Fin 77) (t : State) (bits : Word) : t.store (pageOfIndex p + 0x00C) bits =
    t.wr (pageOfIndex p + 0x00C) (t.rd (pageOfIndex p + 0x00C) &&& ~~~ bits) := by
  have hreg : regAt (pageOfIndex p + 0x00C) = some ⟨0xC, 1, 4, 1, 0x4, 0, 0xFFFFFFFF, 0, 0, 0, .plain⟩ :=
    (regAt_header (by simp) p).trans (by rfl)
  have hones (w : Word) : w &&& 0xFFFFFFFF#32 = w := BitVec.and_allOnes
  simp [State.store, hreg, absentBits_header p 0x00C (by simp), RegDef.store, hones]

/-- R32: a write of ERR_CNT makes it 0. -/
theorem store_errCnt (p : Fin 77) (t : State) (v : Word) : t.store (pageOfIndex p + 0x020) v = t.wr (pageOfIndex p + 0x020) 0 := by
  have hreg : regAt (pageOfIndex p + 0x020) = some ⟨0x20, 1, 4, 1, 0x4, 0, 0, 0, 0, 0, .counter⟩ :=
    (regAt_header (by simp) p).trans (by rfl)
  simp [State.store, hreg, RegDef.store]

/-- Settles O7. -/
theorem headerWritesAct : Obligations.HeaderWritesAct := by
  unfold Obligations.HeaderWritesAct
  intro s r p pg
  refine ⟨?clear, ?force, ?counter, ?take, ?release⟩
  case clear =>
    intro bits hw t x h
    have hx : hostWrite r (pg + 0x00C) (regWrite r (pg + 0x00C) bits) s = x := by
      rw [regWrite_header (by simp)]
      exact hostWrite_served h (congrArg (Prod.mk Code.done) (store_evtRaw p t bits))
    simp only [exec, execEventClear, show pageOfIndex p = pg from rfl, hx]
  case force =>
    intro bits t h
    refine next_hostWrite_done h ?_
    rw [regWrite_header (by simp)]
    simp [headerWrite, yes, pageIndexOf_page, t, pg]
  case counter =>
    intro a v hit t x ha h
    have hx : hostWrite r (pg + 0x020) (regWrite r (pg + 0x020) v) s = x := by
      rw [regWrite_header (by simp)]
      exact hostWrite_served h (congrArg (Prod.mk Code.done) (store_errCnt p t v))
    have hc : isCounter (pg + 0x020) = true := by
      rw [isCounter, regAt_header (by simp)]
      rfl
    simp only [exec, execCounterClear, ha, hc, if_true, hx]
  case take =>
    intro clr t h
    refine next_hostWrite_done h ?_
    rw [regWrite_header (by simp)]
    cases clr
    · rfl
    · rfl
  case release =>
    intro h t
    refine next_hostWrite_done h ?_
    rw [regWrite_header (by simp)]
    rfl
/-! ### A step, and the reset state -/

/-- Settles O1. -/
theorem stepRunsTheFrontCommand : Obligations.StepRunsTheFrontCommand := by
  unfold Obligations.StepRunsTheFrontCommand
  refine ⟨fun c s => rfl, fun s h => ?_⟩
  simp only [step, h]

/-- R7: every register but SYS_RST_CAUSE holds its table's value after a power-on reset. -/
theorem reset_rd {a : Nat} (h : a ≠ 0x000050) : State.reset.rd a = regReset a := by
  have hlook : look State.reset.regs a = none := by simp [State.reset, look, Ne.symm h]
  simp only [State.rd, hlook, Option.getD_none]

/-- A core after reset. -/
theorem reset_core (c : Fin 20) : State.reset.core c = CoreHid.reset := by
  revert c; decide +kernel

/-- A list of copies of its default reads that value everywhere. -/
theorem getD_replicate_same {α : Type} (n i : Nat) (x : α) : (List.replicate n x).getD i x = x := by
  rw [List.getD_eq_getElem?_getD, List.getElem?_replicate]
  split <;> rfl

/-- Settles O2. -/
theorem resetLeavesTheTablesValues : Obligations.ResetLeavesTheTablesValues := by
  unfold Obligations.ResetLeavesTheTablesValues
  refine ⟨rfl, by decide +kernel, fun a h => reset_rd h, by decide +kernel, by decide +kernel, by decide +kernel, fun c => ?core, ?form⟩
  case core =>
    rw [reset_core]
    exact ⟨fun i => getD_replicate_same 32 i _, fun i => getD_replicate_same 8 i _, rfl, rfl, rfl⟩
  case form =>
    refine ⟨reset_regsWf, reset_memory_wf, rfl, fun k hk => ?_⟩
    obtain rfl : k = CoreHid.reset := List.eq_of_mem_replicate hk
    decide

end Sys2Proof.Machine
end

section
/-! PROOFS. The fields of a word and of a register (R4), and PG_CTRL of every page: LOCK, EN and soft reset (R34-R36). -/

namespace Sys2Proof.Machine

/-! ### Fields beside each other -/

/-- R4: a field reads nothing of what was stored beside it. -/
theorem getField_setField_apart {hi lo hi' lo' : Nat} (h : hi' < lo ∨ hi < lo') (w : Word) (v : Nat) :
    getField (setField w hi lo v) hi' lo' = getField w hi' lo' := by
  apply Nat.eq_of_testBit_eq
  intro i
  simp only [getField, setField, fieldMask, Nat.testBit_mod_two_pow, Nat.testBit_shiftRight, BitVec.testBit_toNat,
    BitVec.getLsbD_or, BitVec.getLsbD_and, BitVec.getLsbD_not, BitVec.getLsbD_ofNat, Nat.testBit_shiftLeft,
    Nat.testBit_two_pow_sub_one]
  by_cases hin : i < hi' + 1 - lo'
  · by_cases hbit : lo' + i < 32
    · have hout : ¬ (lo ≤ lo' + i ∧ lo' + i - lo < hi + 1 - lo) := by omega
      rcases Decidable.not_and_iff_not_or_not.mp hout with h | h <;> simp [hin, hbit, h]
    · simp [hbit, BitVec.getLsbD_of_ge w (lo' + i) (by omega)]
  · simp [hin]

/-- Setting a field leaves a field beside it in the same register. -/
theorem State.getF_setF_apart {s : State} (h : regsWf s.regs) {base : Nat} (f g : Fld) (hoff : g.off = f.off)
    (hf : g.hi < f.lo ∨ f.hi < g.lo) (v : Nat) : (s.setF base f v).getF base g = s.getF base g := by
  rw [State.getF, State.getF, State.setF, hoff, State.rd_wr_same h, getField_setField_apart hf]

/-- R4: a bit outside the field that was stored stays. -/
theorem bit_setField_apart {hi lo i : Nat} (h : i < lo ∨ hi < i) (w : Word) (v : Nat) : bit (setField w hi lo v) i = bit w i := by
  by_cases hi32 : i < 32
  · simp only [bit, setField, fieldMask, BitVec.getLsbD_or, BitVec.getLsbD_and, BitVec.getLsbD_not, BitVec.getLsbD_ofNat,
      Nat.testBit_shiftLeft, Nat.testBit_two_pow_sub_one]
    have hout : ¬ (lo ≤ i ∧ i - lo < hi + 1 - lo) := by omega
    rcases Decidable.not_and_iff_not_or_not.mp hout with h | h <;> simp [hi32, h]
  · simp only [bit, BitVec.getLsbD_of_ge _ i (Nat.not_lt.mp hi32)]

/-- R4: a bit that was stored alone reads back. -/
theorem bit_setField_same {i : Nat} (hi : i < 32) (w : Word) (v : Nat) : bit (setField w i i v) i = v.testBit 0 := by
  simp only [bit, setField, fieldMask, BitVec.getLsbD_or, BitVec.getLsbD_and, BitVec.getLsbD_not, BitVec.getLsbD_ofNat,
    Nat.testBit_shiftLeft, Nat.testBit_two_pow_sub_one]
  simp [hi]

/-- A page's field after a store of another of its fields, whichever register that is in. -/
theorem State.isSet_setF_same {s : State} (h : regsWf s.regs) (base : Nat) {f : Fld} (hf : f.hi < 32) (v : Nat) :
    (s.setF base f v).isSet base f = (v % 2 ^ (f.hi + 1 - f.lo) != 0) := by
  rw [State.isSet, State.getF_setF_same h base hf]

/-! ### PG_CTRL -/

/-- A write of PG_CTRL. -/
theorem regWrite_pgCtrl {p : Fin 77} {row : PageRow} {inst : Nat} (h : rowOf (pageOfIndex p) = some (row, inst)) (r : Req) (v : Word) :
    regWrite r (pageOfIndex p + 0x004) v = pgCtrlWrite r row.kind inst (pageOfIndex p) v := by
  obtain ⟨row', inst', hreg, hbase, hrow, -⟩ := regionOf_header p 0x004 (by simp)
  obtain ⟨rfl, rfl⟩ : row' = row ∧ inst' = inst := by
    have := hrow.symm.trans h
    simpa using this
  simp only [regWrite, hreg, hbase, if_true]

/-- R34: a write of PG_CTRL that leaves EN as it is has no effect but by LOCK and SRST. -/
theorem pgCtrlWrite_keeping_en (r : Req) (k : PageKind) (inst page : Nat) {v : Word} {t : State} (hen : bit v 0 = t.en page) :
    pgCtrlWrite r k inst page v t =
      if k = .bst ∧ bit v 1 = true ∧ pairOff t inst = false then (.state, t)
      else
        let u := if bit v 2 then t.lockPage page else t
        if bit v 1 = false then (.done, u)
        else if k = .spi ∧ r = .spi then (.done, u.onSpi fun x => { x with srstNext := true })
        else (.done, softReset k inst page u) := by
  have h1 : ¬ (t.en page = false ∧ t.en page = true ∧ speaksBy r k inst = true) := by simp +contextual
  have h2 : (t.en page = false ∧ t.en page = true ∨ bit v 1 = true) ↔ bit v 1 = true := by simp +contextual
  simp only [pgCtrlWrite, hen, Bool.not_eq_true', h1, if_false, blockEnable, if_true, h2]

/-- R34: a write of PG_CTRL of EN alone that changes it. -/
theorem pgCtrlWrite_changing_en (r : Req) (k : PageKind) (inst page : Nat) {v : Word} {t : State} (hen : t.en page = !(bit v 0))
    (h1 : bit v 1 = false) (h2 : bit v 2 = false) :
    pgCtrlWrite r k inst page v t =
      if bit v 0 = false ∧ (speaksBy r k inst = true ∨ (k = .bst ∧ pairOff t inst = false)) then (.state, t)
      else (.done, if bit v 0 then blockOn k inst (blockShow k inst page (t.setF page F.PG_CTRL_EN 1))
        else blockShow k inst page (blockOff k inst (t.setF page F.PG_CTRL_EN 0))) := by
  cases hb : bit v 0 with
  | true => simp [pgCtrlWrite, hen, hb, h1, h2, blockEnable, b2n]
  | false =>
    by_cases hs : speaksBy r k inst = true
    · simp [pgCtrlWrite, hen, hb, hs]
    · by_cases hp : k = .bst ∧ pairOff t inst = false
      · simp [pgCtrlWrite, hen, hb, hp]
      · have hp' : ¬ (k = .bst ∧ true = true ∧ pairOff t inst = false) := fun h => hp ⟨h.1, h.2.2⟩
        simp_all [pgCtrlWrite, blockEnable, b2n]

/-- R35: a page in soft reset shows it. -/
theorem softShow_shows {u : State} (h : regsWf u.regs) (page : Nat) :
    (softShow page u).isSet page F.PG_CTRL_SRST = true ∧ (softShow page u).st page = 1 ∧
      (softShow page u).isSet page F.PG_STAT_READY = false := by
  have h1 : regsWf (u.setF page F.PG_CTRL_SRST 1).regs := State.setF_regsWf h ..
  have h2 : regsWf ((u.setF page F.PG_CTRL_SRST 1).setSt page 1).regs := State.setF_regsWf h1 ..
  refine ⟨?_, ?_, ?_⟩
  · rw [softShow, State.isSet, State.getF_setF_ne (by simp [F.PG_CTRL_SRST, F.PG_STAT_READY]), State.setSt,
      State.getF_setF_ne (by simp [F.PG_CTRL_SRST, F.PG_STAT_STATE]), State.getF_setF_same h _ (by decide)]
    rfl
  · rw [softShow, State.st, State.getF_setF_apart h2 F.PG_STAT_READY F.PG_STAT_STATE rfl (by decide), State.setSt,
      State.getF_setF_same h1 _ (by decide)]
    rfl
  · rw [softShow, State.isSet_setF_same h2 _ (by decide)]
    rfl

/-- R33, R34: a page of no state beside its enable shows READY or OFF. -/
theorem blockShow_plain {k : PageKind} (hk : k ∈ [PageKind.sys, .spi, .bbx, .nrs, .swm, .asrc, .bst, .frm]) (inst page : Nat) (s : State) :
    blockShow k inst page s = s.setSt page (if s.en page then 2 else 0) := by
  fin_cases hk <;> · cases he : s.en page <;> simp [blockShow, he]

/-- R35: the end of a soft reset of a page of no state beside its enable. -/
theorem softResetEnd_shows {u : State} (h : regsWf u.regs) {k : PageKind}
    (hk : k ∈ [PageKind.sys, .spi, .bbx, .nrs, .swm, .asrc, .bst, .frm]) (inst page : Nat) :
    (softResetEnd k inst page u).isSet page F.PG_CTRL_SRST = false ∧
      (softResetEnd k inst page u).st page = (if u.en page then 2 else 0) ∧
      (softResetEnd k inst page u).isSet page F.PG_STAT_READY = true := by
  have h1 : regsWf (u.setF page F.PG_CTRL_SRST 0).regs := State.setF_regsWf h ..
  have h2 : regsWf ((u.setF page F.PG_CTRL_SRST 0).setSt page 0).regs := State.setF_regsWf h1 ..
  have hen : ((u.setF page F.PG_CTRL_SRST 0).setSt page 0).en page = u.en page := by
    rw [State.en, State.isSet, State.setSt, State.getF_setF_ne (by simp [F.PG_CTRL_EN, F.PG_STAT_STATE]),
      State.getF_setF_apart h F.PG_CTRL_SRST F.PG_CTRL_EN rfl (by decide), State.en, State.isSet]
  have h3 (v : Nat) : regsWf (((u.setF page F.PG_CTRL_SRST 0).setSt page 0).setSt page v).regs := State.setF_regsWf h2 ..
  simp only [softResetEnd, blockShow_plain hk, hen]
  refine ⟨?_, ?_, ?_⟩
  · rw [State.isSet, State.getF_setF_ne (by simp [F.PG_CTRL_SRST, F.PG_STAT_READY]), State.setSt,
      State.getF_setF_ne (by simp [F.PG_CTRL_SRST, F.PG_STAT_STATE]), State.setSt,
      State.getF_setF_ne (by simp [F.PG_CTRL_SRST, F.PG_STAT_STATE]), State.getF_setF_same h _ (by decide)]
    rfl
  · rw [State.st, State.getF_setF_apart (h3 _) F.PG_STAT_READY F.PG_STAT_STATE rfl (by decide), State.setSt,
      State.getF_setF_same h2 _ (by decide)]
    split <;> rfl
  · rw [State.isSet_setF_same (h3 _) _ (by decide)]
    rfl

/-- The bits of a word that are kept and those that are not make the word. -/
theorem and_not_or_and (w k : Word) : w &&& ~~~ k ||| w &&& k = w := by
  ext i hi
  simp only [BitVec.getElem_or, BitVec.getElem_and, BitVec.getElem_not]
  cases k[i] <;> simp

/-- R35: a register that holds its reset value keeps it. -/
theorem softValue_reset (a : Nat) : softValue a (regReset a) = regReset a := by
  unfold softValue
  split
  · rfl
  · dsimp only
    split
    · rfl
    · exact and_not_or_and _ _

/-! ### The clear of a page's registers -/

/-- A canonical list without some of its addresses is canonical. -/
theorem regsWfFrom_filter (p : Nat × Word → Bool) : ∀ {l : List (Nat × Word)} {lo : Nat}, regsWfFrom lo l = true →
    regsWfFrom lo (l.filter p) = true
  | [], _, _ => rfl
  | (b, w) :: t, lo, h => by
    simp only [regsWfFrom, Bool.and_eq_true, decide_eq_true_eq] at h
    have ih := regsWfFrom_filter p h.2
    rw [List.filter_cons]
    split
    · simp only [regsWfFrom, Bool.and_eq_true, decide_eq_true_eq]
      exact ⟨h.1, ih⟩
    · exact regsWfFrom_mono ih (by omega)

/-- What is listed of the addresses that are kept. -/
theorem look_filter (p : Nat → Bool) (a : Nat) : ∀ l : List (Nat × Word),
    look (l.filter fun e => p e.1) a = if p a then look l a else none
  | [] => by simp [look]
  | (b, w) :: t => by
    have ih := look_filter p a t
    rw [List.filter_cons]
    by_cases hb : b = a
    · subst hb
      cases hp : p b <;> simp [hp, look, ih]
    · cases hp : p b <;> simp [look, hb, ih]

/-- Storing every register of a canonical list anew: a listed one takes its new value, every other keeps its own. -/
theorem rd_forEach_wr (g : Nat → Word → Word) (a : Nat) : ∀ (l : List (Nat × Word)) {lo : Nat} {u : State}, regsWfFrom lo l = true →
    regsWf u.regs → (forEach l (fun e s => s.wr e.1 (g e.1 e.2)) u).rd a = ((look l a).map (g a)).getD (u.rd a)
  | [], _, _, _, _ => rfl
  | (b, w) :: t, lo, u, hl, hu => by
    simp only [regsWfFrom, Bool.and_eq_true, decide_eq_true_eq] at hl
    have ih := rd_forEach_wr g a t hl.2 (State.wr_regsWf hu b (g b w))
    simp only [forEach, List.foldl_cons] at ih ⊢
    rw [ih]
    by_cases hb : b = a
    · subst hb
      simp [look, look_below hl.2 (Nat.lt_succ_self b), State.rd_wr_same hu]
    · simp [look, hb, State.rd_wr_ne (Ne.symm hb)]

/-- R35: the clear of a page's registers. -/
theorem rd_pageClear {u : State} (h : regsWf u.regs) (page a : Nat) :
    (pageClear page u).rd a = if ownerBase a = some page then softValue a (u.rd a) else u.rd a := by
  have hwf := regsWfFrom_filter (fun e => ownerBase e.1 == some page) h
  refine (rd_forEach_wr softValue a _ hwf h).trans ?_
  rw [look_filter (fun b => ownerBase b == some page)]
  by_cases ho : ownerBase a = some page
  · cases hlook : look u.regs a with
    | none => simp [ho, hlook, State.rd, softValue_reset]
    | some w => simp [ho, hlook, State.rd]
  · simp [ho]

/-- R36: PAGE_LOCK writes LOCK and leaves EN. -/
theorem pgCtrlWrite_lock (r : Req) (k : PageKind) (inst page : Nat) (t : State) :
    pgCtrlWrite r k inst page (4 ||| BitVec.ofNat 32 (b2n (t.en page))) t = (.done, t.setF page F.PG_CTRL_LOCK 1) := by
  have hbits (e : Bool) : bit (4 ||| BitVec.ofNat 32 (b2n e)) 0 = e ∧ bit (4 ||| BitVec.ofNat 32 (b2n e)) 1 = false ∧
      bit (4 ||| BitVec.ofNat 32 (b2n e)) 2 = true := by cases e <;> decide
  obtain ⟨h0, h1, h2⟩ := hbits (t.en page)
  rw [pgCtrlWrite_keeping_en r k inst page h0]
  simp only [h1, h2, Bool.false_eq_true, false_and, and_false, if_false, if_true, State.lockPage]

/-- R35: SOFT_RESET writes SRST and leaves EN. -/
theorem pgCtrlWrite_srst (r : Req) (k : PageKind) (inst page : Nat) (t : State) :
    pgCtrlWrite r k inst page (2 ||| BitVec.ofNat 32 (b2n (t.en page))) t =
      if k = .bst ∧ pairOff t inst = false then (.state, t)
      else if k = .spi ∧ r = .spi then (.done, t.onSpi fun x => { x with srstNext := true })
      else (.done, softReset k inst page t) := by
  have hbits (e : Bool) : bit (2 ||| BitVec.ofNat 32 (b2n e)) 0 = e ∧ bit (2 ||| BitVec.ofNat 32 (b2n e)) 1 = true ∧
      bit (2 ||| BitVec.ofNat 32 (b2n e)) 2 = false := by cases e <;> decide
  obtain ⟨h0, h1, h2⟩ := hbits (t.en page)
  rw [pgCtrlWrite_keeping_en r k inst page h0]
  simp only [h1, h2, Bool.true_eq_false, Bool.false_eq_true, true_and, if_false]

/-- R34: BLOCK_ENABLE writes EN alone. -/
theorem enable_bits (e : Bool) : bit (BitVec.ofNat 32 (b2n e)) 0 = e ∧ bit (BitVec.ofNat 32 (b2n e)) 1 = false ∧
    bit (BitVec.ofNat 32 (b2n e)) 2 = false := by cases e <;> decide

/-- R35, R75: a soft reset ends with that of the SPI page that it may have left due. -/
theorem exec_softReset_of {s u : State} {r : Req} {p : Fin 77} (h : pgCtrlSet r p 2 s = u) :
    exec (.softReset r p) s = .next u.srstDue := h ▸ rfl

/-- R35: SOFT_RESET_DONE looks at SRST first. -/
theorem exec_softResetDone {p : Fin 77} {row : PageRow} {inst : Nat} (h : rowOf (pageOfIndex p) = some (row, inst)) (s : State) :
    exec (.softResetDone p) s = .next (if s.isSet (pageOfIndex p) F.PG_CTRL_SRST then softResetDone row.kind inst (pageOfIndex p) s
      else s) := by
  simp only [exec, execSoftResetDone, h]

/-- Settles O8: a write of PG_CTRL is judged by what it does to EN; a soft reset and its end show themselves on the page. -/
theorem pagesAreEnabledLockedAndReset : Obligations.PagesAreEnabledLockedAndReset := by
  unfold Obligations.PagesAreEnabledLockedAndReset
  intro s r p row inst pg t busy hrow
  have hact (v : Word) (u : State) := congrFun (regWrite_pgCtrl hrow r v) u
  refine ⟨?lock, ?enable, ?resetBusy, ?resetSpi, ?reset, ?soft, fun u a h => rd_pageClear h pg a, fun u h => softShow_shows h pg,
    ?notDone, ?done, ?sounding, ?silent, fun u h hk => softResetEnd_shows h hk inst pg⟩
  case lock => exact fun h => next_hostWrite_done h ((hact _ t).trans (pgCtrlWrite_lock r row.kind inst pg t))
  case enable =>
    intro en h
    obtain ⟨h0, h1, h2⟩ := enable_bits en
    refine ⟨fun hen => ?same, fun hen hok => ?change, fun hen hoff hbad => ?refused⟩
    case same =>
      refine next_hostWrite_done h ((hact _ t).trans ?_)
      rw [pgCtrlWrite_keeping_en r row.kind inst pg (h0.trans hen.symm)]
      simp [h1, h2]
    case change =>
      refine next_hostWrite_done h ((hact _ t).trans ?_)
      rw [pgCtrlWrite_changing_en r row.kind inst pg (hen.trans (congrArg _ h0.symm)) h1 h2, h0, if_neg hok]
    case refused =>
      refine next_hostWrite_refused h ((hact _ t).trans ?_) nofun
      rw [pgCtrlWrite_changing_en r row.kind inst pg (by rw [h0, hen, hoff]; rfl) h1 h2, h0, if_pos ⟨hoff, hbad⟩]
  case resetBusy =>
    intro h hb
    refine exec_softReset_of (hostWrite_refused h ((hact _ t).trans ?_) nofun)
    rw [pgCtrlWrite_srst, if_pos hb]
  case resetSpi =>
    intro h hb hk hr
    have hw : pgCtrlSet r p 2 s = (t.onSpi fun x => { x with srstNext := true }).answered .done := by
      refine hostWrite_served h ((hact _ t).trans ?_)
      rw [pgCtrlWrite_srst, if_neg hb, if_pos ⟨hk, hr⟩]
    exact exec_softReset_of hw
  case reset =>
    intro h hb hn
    refine exec_softReset_of (hostWrite_served h ((hact _ t).trans ?_))
    rw [pgCtrlWrite_srst, if_neg hb, if_neg hn]
  case soft => exact fun u => ⟨fun hl => by simp [softReset, hl], fun hl => by simp [softReset, hl]⟩
  case notDone =>
    intro hs
    rw [exec_softResetDone hrow, if_neg (Bool.eq_false_iff.mp hs)]
  case done =>
    intro hs hm
    rw [exec_softResetDone hrow, if_pos hs, softResetDone, hm]
    rfl
  case sounding =>
    intro hs hm hl
    rw [exec_softResetDone hrow, if_pos hs, softResetDone, hm]
    simp [hl]
  case silent =>
    intro hs hm hl
    rw [exec_softResetDone hrow, if_pos hs, softResetDone, hm]
    simp [hl, pg]

end Sys2Proof.Machine
end

section
/-! PROOFS. Plosto commands (R77-R83) and direct commands whose rules are stated in full: how a command that is served ends. -/

namespace Sys2Proof.Machine

/-- A condition that is true does not fail. -/
theorem not_bnot {b : Bool} (h : b = true) : ¬ (!b) = true := by simp [h]

/-- A condition that is false fails. -/
theorem bnot_true {b : Bool} (h : b = false) : (!b) = true := by simp [h]

/-! ### Ends of a Plosto command -/

/-- R79: a command on a page that serves it, whose body is done. -/
theorem next_plosto_done {s t : State} {cmd page pg a : Nat} {ch : Bool} {q : PlReq} {body : State → PlAns} {pl : List Byte}
    (h : plServes s cmd q = true) (hp : pageServes s page ch = true) (hb : body (s.wakeFor page) = ⟨.done, pl, pg, a, t⟩) :
    (Host.Outcome.next (runPlosto cmd q (onPage page ch body) s) : Host.Outcome State Fault Refusal) = .next (t.plDone cmd q pl) := by
  have hbody : onPage page ch body s = ⟨.done, pl, pg, a, t⟩ := (onPage_serves hp).trans hb
  rw [runPlosto_done h (by rw [hbody]), hbody]

/-- R79: a command on a page that serves it, whose body answers with a payload. -/
theorem next_plosto_ok {s t : State} {cmd page : Nat} {ch : Bool} {q : PlReq} {body : State → PlAns} {pl : List Byte}
    (h : plServes s cmd q = true) (hp : pageServes s page ch = true) (hb : body (s.wakeFor page) = ok t pl) :
    (Host.Outcome.next (runPlosto cmd q (onPage page ch body) s) : Host.Outcome State Fault Refusal) = .next (t.plDone cmd q pl) :=
  next_plosto_done h hp hb

/-- R46, R79: a command on a page that serves it, whose body refuses. -/
theorem next_plosto_refused {s t : State} {cmd page pg a : Nat} {ch : Bool} {q : PlReq} {body : State → PlAns} {pl : List Byte}
    {c : Code} (h : plServes s cmd q = true) (hp : pageServes s page ch = true)
    (hb : body (s.wakeFor page) = ⟨c, pl, pg, a, t⟩) (hc : c ≠ .done) :
    (Host.Outcome.next (runPlosto cmd q (onPage page ch body) s) : Host.Outcome State Fault Refusal) =
      .next (t.plRefuse pg a cmd q c pl) := by
  have hbody : onPage page ch body s = ⟨c, pl, pg, a, t⟩ := (onPage_serves hp).trans hb
  rw [runPlosto_refused h (by rwa [hbody]), hbody]

/-- R79: a command whose body answers with a payload. -/
theorem next_runPlosto_ok {s t : State} {cmd : Nat} {q : PlReq} {body : State → PlAns} {pl : List Byte}
    (h : plServes s cmd q = true) (hb : body s = ok t pl) :
    (Host.Outcome.next (runPlosto cmd q body s) : Host.Outcome State Fault Refusal) = .next (t.plDone cmd q pl) := by
  rw [runPlosto_done h (by rw [hb]; rfl), hb]
  rfl

/-- R46, R79: a command whose body refuses. -/
theorem next_runPlosto_refused {s t : State} {cmd pg a : Nat} {q : PlReq} {body : State → PlAns} {pl : List Byte} {c : Code}
    (h : plServes s cmd q = true) (hb : body s = ⟨c, pl, pg, a, t⟩) (hc : c ≠ .done) :
    (Host.Outcome.next (runPlosto cmd q body s) : Host.Outcome State Fault Refusal) = .next (t.plRefuse pg a cmd q c pl) := by
  rw [runPlosto_refused h (by rwa [hb]), hb]

/-! ### Keys and nonce -/

/-- Settles O15. -/
theorem keysAndNonceAreRenewed : Obligations.KeysAndNonceAreRenewed := by
  unfold Obligations.KeysAndNonceAreRenewed
  intro s q p t n
  refine ⟨fun h hp => ⟨?set, ?range, ?auth⟩, fun h hp => ⟨?renew, ?renewRange⟩, fun m hm => ?take, fun hm => ?none⟩
  case set =>
    intro hv hlen hidx hpad
    exact next_plosto_done h hp ((if_neg hv).trans ((if_neg (by simp [p] at *; omega)).trans rfl))
  case range => exact fun hv hl => next_plosto_refused h hp ((if_neg hv).trans ((if_pos hl).trans rfl)) nofun
  case auth => exact fun hv => next_plosto_refused h hp ((if_pos hv).trans rfl) nofun
  case renew =>
    intro hpl
    exact congrArg (Host.Outcome.next ∘ nonceTake)
      (Host.Outcome.next.inj (next_plosto_done h hp ((if_neg (not_not.mpr hpl)).trans rfl)))
  case renewRange =>
    intro hpl
    exact congrArg (Host.Outcome.next ∘ nonceTake)
      (Host.Outcome.next.inj (next_plosto_refused h hp ((if_pos hpl).trans rfl) nofun))
  case take => simp [nonceTake, hm]
  case none => simp [nonceTake, hm]

/-! ### The clock's configuration -/

/-- Settles O24. -/
theorem clockWritesAct : Obligations.ClockWritesAct := by
  unfold Obligations.ClockWritesAct
  intro s r v
  refine ⟨?media, ?mediaRange, ?ref⟩
  case media =>
    intro a t u fresh h h1 h2 h3
    have act : mediaCfgWrite v t = (.done, if (clkCfg u).1 = 2 ∧ ((clkCfg t).1 ≠ 2 ∨ (clkCfg t).2.2 ≠ (clkCfg u).2.2) ∧
        !tdmValid u (clkCfg u).2.2 then u.raise P.clk 5 else u) := if_neg (by simp [h1, h2, h3])
    refine ⟨fun hf => next_hostWrite_done h (act.trans ?_), fun hf => next_hostWrite_done h (act.trans ?_)⟩
    · rw [if_neg (by simpa [fresh] using hf)]
    · rw [if_pos (by simpa [fresh] using hf)]
  case mediaRange => exact fun h hr => next_hostWrite_refused h (if_pos hr) nofun
  case ref =>
    intro a t u same h
    have act : refCfgWrite v t = if t.clk.st ≠ 2 ∧ t.clk.st ≠ 7 then (.state, t)
        else if u.clk.st = 2 ∧ !u.stopped ∧ u.getF P.clk F.CLK_REF_CFG_MODE ≠ t.getF P.clk F.CLK_REF_CFG_MODE then
          (.done, ((fabricStop u .mode).setF P.clk F.CLK_REF_STAT_ON_RC 1).wr (P.clk + 0x48) 0) else (.done, u) := by
      simp only [refCfgWrite, u, a]
    have clk : u.clk.st = t.clk.st := by simp [u]
    refine ⟨fun h2 h7 => next_hostWrite_refused h (act.trans ?state) nofun, fun h7 => next_hostWrite_done h (act.trans ?degraded),
      fun h2 hs => next_hostWrite_done h (act.trans ?kept), fun h2 hs hm => next_hostWrite_done h (act.trans ?moved)⟩
    case state => exact if_pos ⟨h2, h7⟩
    case degraded => simp [clk, h7]
    case kept =>
      rw [if_neg (by simp [h2]), if_neg]
      rintro ⟨-, hr, hm⟩
      exact hs.elim (fun hs => by simp [hs] at hr) hm
    case moved => rw [if_neg (by simp [h2]), if_pos ⟨clk.trans h2, by simp [hs], hm⟩]

end Sys2Proof.Machine
end

section
/-! PROOFS. Write phases of TW0 (R62), request frames (R77, R78), the erasure of the Scout's ring (R227), the fixes of Waggle (R335)
and words of frames (R30). -/

namespace Sys2Proof.Machine

/-- Settles O12. -/
theorem writePhasesAreAppliedInOrder : Obligations.WritePhasesAreAppliedInOrder :=
  fun _ _ _ _ _ => ⟨rfl, rfl, fun _ => rfl, rfl⟩

/-! ### Request frames -/

/-- Two bytes that hold a number below 65,536 give it back. -/
theorem leNat_leBytes_two {v : Nat} (h : v < 65536) : leNat (leBytes 2 v) = v := by
  simp [leBytes, leNat]; omega

/-- The bytes of a word hold it, lowest first. -/
theorem leNat_wordBytes (w : Word) : BitVec.ofNat 32 (leNat (wordBytes w)) = w := by
  apply BitVec.eq_of_toNat_eq
  simp [wordBytes, leNat, Nat.shiftRight_eq_div_pow]
  omega

/-- R77: a request frame of the protocol's layout, with its CRC-32. -/
def requestFrame (ver cmd : Byte) (tag : BitVec 16) (p : List Byte) : List Byte :=
  [ver, cmd] ++ leBytes 2 tag.toNat ++ leBytes 2 p.length ++ [0#8, 0#8] ++ p

/-- R77, R78: a request frame with its CRC passes the checks but for its version. -/
theorem frameCheck_requestFrame (ver cmd : Byte) (tag : BitVec 16) {p : List Byte} (h : p.length ≤ 244) :
    let b := requestFrame ver cmd tag p
    frameCheck (b ++ wordBytes (crc32 b)) = if ver.toNat ≠ 1 then .badVer cmd.toNat tag else .good cmd.toNat tag p := by
  intro b
  have hb : b = ver :: cmd :: BitVec.ofNat 8 tag.toNat :: BitVec.ofNat 8 (tag.toNat / 256) :: BitVec.ofNat 8 p.length ::
      BitVec.ofNat 8 (p.length / 256) :: 0#8 :: 0#8 :: p := rfl
  have hlen : b.length = 8 + p.length := by simp [hb]; omega
  have htake : (b ++ wordBytes (crc32 b)).take (8 + p.length) = b := by rw [← hlen]; simp
  have hcrc : BitVec.ofNat 32 (field (b ++ wordBytes (crc32 b)) (8 + p.length) 4) = crc32 b := by
    have : ((b ++ wordBytes (crc32 b)).drop (8 + p.length)).take 4 = wordBytes (crc32 b) := by
      rw [← hlen]; simp [wordBytes]
    rw [field, this, leNat_wordBytes]
  have hfl : field (b ++ wordBytes (crc32 b)) 4 2 = p.length := by
    simp [hb, field, leNat]; omega
  have hft : BitVec.ofNat 16 (field (b ++ wordBytes (crc32 b)) 2 2) = tag := by
    apply BitVec.eq_of_toNat_eq
    simp [hb, field, leNat]; omega
  have hfc : field (b ++ wordBytes (crc32 b)) 1 1 = cmd.toNat := by simp [hb, field, leNat]
  have hfv : field (b ++ wordBytes (crc32 b)) 0 1 = ver.toNat := by simp [hb, field, leNat]
  have hff : field (b ++ wordBytes (crc32 b)) 6 1 = 0 := by simp [hb, field, leNat]
  have hp : ((b ++ wordBytes (crc32 b)).drop 8).take p.length = p := by simp [hb]
  have htot : (b ++ wordBytes (crc32 b)).length = 12 + p.length := by simp [hlen, wordBytes]; omega
  simp only [frameCheck, hfl, hft, hfc, hfv, hff, hp, htot, htake, hcrc]
  rw [if_neg (by simp; omega)]

/-- Settles O16. -/
theorem requestFramesRoundTrip : Obligations.RequestFramesRoundTrip := by
  unfold Obligations.RequestFramesRoundTrip
  intro cmd tag p h b
  refine ⟨frameCheck_requestFrame 1 cmd tag h, fun ver hv => ?_⟩
  have hne : ver.toNat ≠ 1 := fun hv' => hv (BitVec.eq_of_toNat_eq hv')
  exact (frameCheck_requestFrame ver cmd tag h).trans (if_pos hne)

/-! ### The Scout's ring -/

/-- The bytes of a range that was cleared are 0. -/
theorem byteAt_zeroMem_in (s : State) {lo hi a : Nat} (h : lo ≤ a ∧ a < hi) : byteAt (s.zeroMem lo hi).mem a = 0 := by
  simp only [State.zeroMem]
  induction s.mem with
  | nil => rfl
  | cons c m ih =>
    obtain ⟨b, v⟩ := c
    rw [List.filter_cons]
    split
    case isTrue hb =>
      have hba : b ≠ a := by rintro rfl; simp at hb; omega
      simpa [byteAt, hba] using ih
    case isFalse => exact ih

/-- Clearing a range leaves the bytes outside it. -/
theorem byteAt_zeroMem_out (s : State) {lo hi a : Nat} (h : a < lo ∨ hi ≤ a) :
    byteAt (s.zeroMem lo hi).mem a = byteAt s.mem a := by
  simp only [State.zeroMem]
  induction s.mem with
  | nil => rfl
  | cons c m ih =>
    obtain ⟨b, v⟩ := c
    rw [List.filter_cons]
    split
    case isTrue => simp only [byteAt, ih]
    case isFalse hb =>
      have hba : b ≠ a := by rintro rfl; simp at hb; omega
      simpa [byteAt, hba] using ih

/-- Settles O33. -/
theorem sealTimeoutErasesTheRing : Obligations.SealTimeoutErasesTheRing := by
  unfold Obligations.SealTimeoutErasesTheRing
  refine fun s => ⟨fun h => ?waits, fun h4 h0 => ⟨sealClose s 3, congrArg Host.Outcome.next (if_pos ⟨h4, h0⟩), ?inside, ?outside, rfl⟩⟩
  case waits => exact congrArg Host.Outcome.next (if_neg (by rintro ⟨h1, h2⟩; exact h.elim (· h1) (· h2)))
  case inside => exact fun a ha hb => byteAt_zeroMem_in _ ⟨ha, hb⟩
  case outside => exact fun a ha => byteAt_zeroMem_out _ ha

/-! ### Position fixes -/

/-- Settles O47. -/
theorem positionFixesAreJudged : Obligations.PositionFixesAreJudged := by
  unfold Obligations.PositionFixesAreJudged
  intro s q p t k at_ flags pos fix v spd target dev thr layout answer taken rejected d h hp
  have hthr : ((10 * t.getF P.wag F.WAG_FIX_CFG_JUMPTHR : Nat) : Rat) = 10 * t.getF P.wag F.WAG_FIX_CFG_JUMPTHR := by push_cast; rfl
  have act : posFixBody q t =
      if p.length ≠ 24 ∨ 4 ≤ flags ∨ field p 21 3 ≠ 0 ∨ k < at_ ∨ 480 * t.getF P.wag F.WAG_GUARD_T_MAXAGE < k - at_ then nak t P.wag .range
      else if wagSrc t = 2 ∨ !t.wag.run then nak t P.wag .state
      else if fixTooFast t v at_ then fixReject t.draw.2 t.draw.1.toInt
      else if decide (thr < |dev|) ∧ flags / 2 % 2 = 0 then fixReject t d
      else fixAnswer (taken (decide (thr < |dev|) || spd == 0)) d (b2n (decide (thr < |dev|) || spd == 0)) := by
    simp only [thr, hthr]
    rfl
  have keeps (hl : layout) :
      ¬(p.length ≠ 24 ∨ 4 ≤ flags ∨ field p 21 3 ≠ 0 ∨ k < at_ ∨ 480 * t.getF P.wag F.WAG_GUARD_T_MAXAGE < k - at_) := by
    simp only [layout] at hl; omega
  have runs (hr : t.wag.run = true) (h2 : wagSrc t ≠ 2) : ¬(wagSrc t = 2 ∨ (!t.wag.run) = true) := by simp [hr, h2]
  refine ⟨fun hl => ?range, fun hl hs => ?state, fun hl hr h2 => ⟨fun hf => ?fast, fun hf => ?judged⟩⟩
  case range => 
    exact next_plosto_refused h hp (act.trans (if_pos (by simp only [layout] at hl; omega))) nofun
  case state =>
    exact next_plosto_refused h hp (act.trans ((if_neg (keeps hl)).trans (if_pos (by simpa [or_comm] using hs)))) nofun
  case fast =>
    exact next_plosto_done h hp (act.trans ((if_neg (keeps hl)).trans ((if_neg (runs hr h2)).trans (if_pos hf))))
  case judged =>
    have judged := act.trans ((if_neg (keeps hl)).trans ((if_neg (runs hr h2)).trans (if_neg (by simp [hf]))))
    refine ⟨fun hd h0 => ?corr, fun hd h0 => ?still, fun hd hj => ?jump, fun hd hj => ?far⟩
    case corr =>
      have hb : decide (thr < |dev|) = false := decide_eq_false (not_lt.mpr hd)
      exact next_plosto_ok h hp (judged.trans (by rw [hb, beq_false_of_ne h0]; rfl))
    case still =>
      have hb : decide (thr < |dev|) = false := decide_eq_false (not_lt.mpr hd)
      exact next_plosto_ok h hp (judged.trans (by rw [hb, beq_iff_eq.mpr h0]; rfl))
    case jump =>
      exact next_plosto_ok h hp (judged.trans (by rw [decide_eq_true hd, if_neg (by omega)]; rfl))
    case far =>
      exact next_plosto_ok h hp (judged.trans (by rw [if_pos ⟨decide_eq_true hd, hj⟩]; rfl))

/-! ### Words of frames -/

/-- What every pass of a loop keeps, the loop keeps. -/
theorem forEach_keeps {α σ β : Type} (g : σ → β) {f : α → σ → σ} (h : ∀ x s, g (f x s) = g s) (l : List α) (s : σ) :
    g (forEach l f s) = g s := by
  induction l generalizing s with
  | nil => rfl
  | cons x l ih => exact (ih (f x s)).trans (h x s)

/-- R441: the way back from Idle stores nothing in memory. -/
@[simp] theorem State.idleExit_mem (s : State) (src : Nat) : (s.idleExit src).mem = s.mem := by
  have hlo (n : Nat) (s : State) : (loUnmute s n muteIdle).mem = s.mem := by
    simp only [loUnmute]; split <;> rfl
  have hamp (n : Nat) (s : State) : (ampUnmute s n muteIdle).mem = s.mem := by
    simp only [ampUnmute]; split <;> rfl
  have hside (s : State) : (sideTones s).mem = s.mem := forEach_keeps State.mem (fun _ s => s.setF_mem _ _ _) _ _
  have hup (n : Nat) (s : State) : (earsUp s n 5).mem = s.mem := by
    simp only [earsUp]; split
    · exact hside _
    · rfl
  have hears (n : Nat) (s : State) : (earsUnmute s n muteIdle 5).mem = s.mem := by
    simp only [earsUnmute]; split
    · exact hup _ _
    · rfl
  have hdoms (s : State) : (s.setDoms .run).mem = s.mem := forEach_keeps State.mem (fun _ s => s.setDom_mem _ _) _ _
  have hauto (s : State) : (s.autoWake .idle src).mem = s.mem := by simp only [State.autoWake]; split <;> rfl
  have hcmb (s : State) : (cmbShow s).mem = s.mem := by simp only [cmbShow]; split <;> rfl
  simp only [State.idleExit, State.idleUnmuteAll, forEach_keeps State.mem hlo, forEach_keeps State.mem hears,
    forEach_keeps State.mem hamp, hcmb, hauto, State.onNet_mem, State.setF_mem, State.setSt_mem, hdoms]

/-- R26: an access that wakes the part stores nothing in memory. -/
@[simp] theorem State.wakeFor_mem (s : State) (a : Nat) : (s.wakeFor a).mem = s.mem := by
  simp only [State.wakeFor]
  split
  · split
    · exact s.idleExit_mem 6
    · rfl
  · rfl

/-- A word stored in a canonical memory reads back. -/
theorem wordAt_storeWord {s : State} (h : Memory.wf s.mem = true) (a : Nat) (w : Word) : wordAt (s.storeWord a w).mem a = w := by
  have hb (i : Nat) (hi : i < 4) : byteAt (s.storeWord a w).mem (a + i) = (wordBytes w)[i]'(by simpa [wordBytes] using hi) :=
    byteAt_putBytes_in _ h a i _
  have h0 := hb 0 (by omega)
  simp only [wordAt, Nat.add_zero] at h0 ⊢
  rw [h0, hb 1 (by omega), hb 2 (by omega), hb 3 (by omega)]
  exact leNat_wordBytes w

/-- Settles O6. -/
theorem frameWordsAreStored : Obligations.FrameWordsAreStored := by
  unfold Obligations.FrameWordsAreStored
  intro s r a v k off n t hwf h hreg hspi
  have hact : regWrite r n v t = (.done, t.storeWord n v) := by simp only [regWrite, hreg]; rfl
  have hmem : t.mem = s.mem := s.wakeFor_mem n
  refine ⟨(t.storeWord n v).answered .done, ?run, ?reads, fun b hb => ?out, rfl⟩
  case run =>
    refine (exec_registerWrite (hostWrite_served h hact)).trans (congrArg Host.Outcome.next (if_neg ?_))
    simpa [State.storeWord] using hspi
  case reads => exact wordAt_storeWord (hmem ▸ hwf) n v
  case out => exact (State.storeWord_out t v hb).trans (by rw [hmem])

end Sys2Proof.Machine
end

section
/-! PROOFS. The sink chain and the crosspoints of the Comb (R97-R113). -/

namespace Sys2Proof.Machine

/-! ### Ends of ways -/

/-- R97-R100: an entry that an accepted change waits for, or none, ends nothing. -/
theorem xpArrive_waits {s : State} {k : Nat} (st : XpSt) (h : xpAt s k = none ∨ xpWaits s.comb k = true) : xpArrive s k st = s := by
  simp only [xpArrive]
  split
  next e he => rw [if_neg (by simp_all)]
  next => rfl

/-- R97-R100: what the end of a way of an entry's kind leaves. -/
theorem xpArrive_entry {s : State} {k : Nat} {e : XpEntry} (st : XpSt) (h : xpAt s k = some e) (hw : xpWaits s.comb k = false) :
    xpArrive s k st = if e.st = st ∧ e.arrive ≠ some e then setXp s k e.arrive else s := by
  simp [xpArrive, h, hw]

/-- R97-R100: an end of another kind of way changes nothing. -/
theorem xpArrive_other {s : State} {k : Nat} {e : XpEntry} {st : XpSt} (h : xpAt s k = some e) (hs : e.st ≠ st) :
    xpArrive s k st = s := by
  simp [xpArrive, h, hs]

/-- R97-R100: a way that has not ended changes nothing. -/
theorem xpArrive_under_way {s : State} {k : Nat} {e : XpEntry} (st : XpSt) (h : xpAt s k = some e) (ha : e.arrive = some e) :
    xpArrive s k st = s := by
  simp [xpArrive, h, ha]

/-- R97-R100: a way that has ended. -/
theorem xpArrive_ended {s : State} {k : Nat} {e : XpEntry} {o : Option XpEntry} (h : xpAt s k = some e)
    (hw : xpWaits s.comb k = false) (ha : e.arrive = o) (hn : o ≠ some e) : xpArrive s k e.st = setXp s k o := by
  simp [xpArrive, h, hw, ha, hn]

/-- Settles O20. -/
theorem combRampsEnd : Obligations.CombRampsEnd := by
  unfold Obligations.CombRampsEnd
  refine fun s k => ⟨fun h => ?none, fun e he hw => ⟨fun h => ?ramps, fun hs hm => ?ramped, fun h => ?other, fun o hs ho => ?fades,
    fun hs ho => ?alone, fun h => ?releases, fun hs hm ho => ?released⟩, fun j => ?sink⟩
  case none => 
    exact ⟨congrArg _ (xpArrive_waits .ramp h), congrArg _ (xpArrive_waits .xfade h), congrArg _ (xpArrive_waits .release h)⟩
  case ramps =>
    by_cases hs : e.st = .ramp
    · have hm : e.g.moving = true := h.resolve_left (not_not.mpr hs)
      exact congrArg _ (xpArrive_under_way .ramp he (by simp [XpEntry.arrive, hs, hm]))
    · exact congrArg _ (xpArrive_other he hs)
  case ramped =>
    have ha : e.arrive = some { e with st := .steady, g := e.g.rest } := by simp [XpEntry.arrive, hs, hm]
    exact congrArg _ (hs ▸ xpArrive_ended he hw ha (by grind))
  case other => exact congrArg _ (xpArrive_other he h)
  case fades =>
    refine ⟨fun hm => ?_, fun hm hg => ?_, fun hm hg => ?_⟩
    · exact congrArg _ (xpArrive_under_way .xfade he (by simp [XpEntry.arrive, hs, ho, hm]))
    · have ha : e.arrive = some { e with st := .steady, g := e.g.rest, old := none } := by simp [XpEntry.arrive, hs, ho, hm, hg]
      exact congrArg _ (hs ▸ xpArrive_ended he hw ha (by grind))
    · have ha : e.arrive = some { e with st := .ramp, old := none } := by simp [XpEntry.arrive, hs, ho, hm, hg]
      exact congrArg _ (hs ▸ xpArrive_ended he hw ha (by grind))
  case alone =>
    have ha : e.arrive = some { e with st := if e.g.moving then .ramp else .steady } := by simp [XpEntry.arrive, hs, ho, restSt]
    exact congrArg _ (hs ▸ xpArrive_ended he hw ha (by grind))
  case releases =>
    by_cases hs : e.st = .release
    · have ha : e.arrive = some e := by
        rcases h with h | h | ⟨o, ho, hm⟩
        · exact absurd hs h
        · simp [XpEntry.arrive, hs, h]
        · simp [XpEntry.arrive, hs, ho, hm]
      exact congrArg _ (xpArrive_under_way .release he ha)
    · exact congrArg _ (xpArrive_other he hs)
  case released =>
    have ha : e.arrive = none := by
      cases h : e.old with
      | none => simp [XpEntry.arrive, hs, hm, h]
      | some o => simp [XpEntry.arrive, hs, hm, h, ho o h]
    exact congrArg _ (hs ▸ xpArrive_ended he hw ha nofun)
  case sink =>
    intro h u
    refine ⟨fun hs hm => ?trim, fun hs => ?rests, fun hf => ?still, fun f hf => ⟨fun hn => ?faded, fun hn => ?fading⟩⟩
    case trim => exact congrArg _ (if_pos ⟨hs, by simp [hm, h]⟩)
    case rests => exact congrArg _ (if_neg (by rcases hs with hs | hs <;> simp [h] at hs <;> simp [hs]))
    all_goals refine congrArg Host.Outcome.next ?_; simp only [delayArrive]
    case still => simp [h] at hf; simp [hf]
    case faded => simp [h] at hf; simp [hf, hn]
    case fading => simp [h] at hf; simp [hf, hn]

/-! ### Writes of a sink -/

/-- R107, R108: a trim is accepted. -/
theorem exec_trimWrite_served {s : State} {r : Req} {k : Fin 1024} {v : Word} (h : served s r (P.sink k + 0x04) = true) :
    exec (.trimWrite r k v) s = .next ((trimSet (s.wakeFor (P.sink k + 0x04)) k v).answered .done) :=
  next_hostWrite_done h rfl

/-- R15: a change accepted with nothing else waiting is what the next period takes. -/
theorem combTake_accept {u : State} (d : CombDue) (h : u.comb.due = []) :
    (combTake (u.accept d)).comb = { u.comb.take d with due := [] } := by
  simp [combTake, State.accept, State.onComb, State.setF, State.wr, Comb.plan, h]
  cases d <;> exact ⟨rfl, rfl, rfl, rfl, rfl⟩

/-- Settles O19. -/
theorem sinkWritesAct : Obligations.SinkWritesAct := by
  unfold Obligations.SinkWritesAct
  refine fun s r => ⟨?trim, ?delay, ?bq, ?taken⟩
  case trim => exact fun k v h => exec_trimWrite_served h
  case delay =>
    intro k v a t d xf c now then_ h
    have act : sinkDlyWrite k v t = if 24000 < d ∨ xf = 0 ∨ xf = 15 then (.range, t)
        else if d = (c.sink k).delay then (.done, t.store a v)
        else if allGranules t < c.used - now + then_ ∧ now < then_ then (.full, t)
        else (.done, (t.store a v).accept (.delay k d (stepsOf t xf))) := rfl
    refine ⟨fun hr => ?range, fun hd h0 h15 => ?inRange⟩
    case range => exact next_hostWrite_refused h (act.trans (if_pos hr)) nofun
    case inRange =>
      have act := act.trans (if_neg (by omega))
      refine ⟨fun hs => ?same, fun hs hf => ?fits, fun hs hl hf => ?full⟩
      case same => exact next_hostWrite_done h (act.trans (if_pos hs))
      case fits => exact next_hostWrite_done h (act.trans ((if_neg hs).trans (if_neg (by omega))))
      case full => exact next_hostWrite_refused h (act.trans ((if_neg hs).trans (if_pos ⟨hf, hl⟩))) nofun
  case bq =>
    intro a t k j h
    refine ⟨fun clr hj => next_hostWrite_done h ?load, fun clr hj => next_hostWrite_refused h ?loadRange nofun,
      fun hj => next_hostWrite_done h ?read, fun hj => next_hostWrite_refused h ?readRange nofun⟩
    case load => cases clr <;> exact (if_neg fun hb => absurd hb.2 (Nat.not_le.mpr hj)).trans rfl
    case loadRange => cases clr <;> exact if_pos ⟨by decide, hj⟩
    case read => exact (if_neg fun hb => absurd hb.2 (Nat.not_le.mpr hj)).trans rfl
    case readRange => exact if_pos ⟨by decide, hj⟩
  case taken =>
    intro u k hdue h after
    refine ⟨fun d => rfl, fun c n => ?trim, fun d n hn => ?delay, fun j coef => ?keep, fun j coef => ?clear, fun hwf d => ?load⟩
    case trim => exact (combTake_accept (.trim k c n) hdue).trans (by rw [← hdue]; rfl)
    case delay =>
      have hd : h.delayTo d n = { h with delay := d, fade := some ⟨presentTaps h, n, 0⟩ } := if_neg hn
      exact (combTake_accept (.delay k d n) hdue).trans (by rw [← hd, ← hdue]; rfl)
    case keep => exact (combTake_accept (.biquad k j coef false) hdue).trans (by rw [← hdue]; rfl)
    case clear => exact (combTake_accept (.biquad k j coef true) hdue).trans (by rw [← hdue]; rfl)
    case load =>
      have hne : (u.accept d).comb.due ≠ [] := by simp [State.accept, State.onComb]
      have hwf' : regsWf ((u.accept d).onComb Comb.plan).regs := hwf
      rw [combTake, if_neg hne]
      exact State.isSet_setF_same (State.setF_regsWf hwf' _ _ _) P.cmb (f := F.CMB_BQ_CMD_LOAD) (by decide) 0

end Sys2Proof.Machine
end

section
/-! PROOFS. Swarm's lock (R417-R420). -/

namespace Sys2Proof.Machine

/-- R417: a locked-out Swarm answers LOCKED to every command of its lock. -/
theorem swmUnlockBody_lockout {t : State} (q : PlReq) (h : t.isSet P.swm F.SWM_STAT_LOCKOUT = true) :
    swmUnlockBody q t = nak t P.swm .locked := by
  unfold swmUnlockBody
  split
  · exact if_pos h
  · exact if_pos h
  · rw [if_pos h]

/-- R417: the layout of a command of Swarm's lock. -/
theorem swmUnlockBody_range {t : State} (q : PlReq) (h : t.isSet P.swm F.SWM_STAT_LOCKOUT = false)
    (hl : ¬(field q.payload 0 1 ≤ 1 ∧ q.payload.length = (if field q.payload 0 1 = 0 then 4 else 20) ∧ field q.payload 1 1 ≤ 3 ∧
      field q.payload 2 2 = 0)) : swmUnlockBody q t = nak t P.swm .range := by
  have hn : ¬ t.isSet P.swm F.SWM_STAT_LOCKOUT = true := by simp [h]
  unfold swmUnlockBody
  split
  next h0 => 
    simp only [h0, if_true] at hl
    exact (if_neg hn).trans (if_pos (by omega))
  next h1 =>
    simp only [h1, one_ne_zero, if_false] at hl
    exact (if_neg hn).trans (if_pos (by omega))
  next => rw [if_neg hn]

/-- R417: OP 0 is a challenge. -/
theorem swmUnlockBody_challenge {q : PlReq} (h : field q.payload 0 1 = 0) (t : State) : swmUnlockBody q t = swmChallenge q t := by
  unfold swmUnlockBody
  rw [h]
  rfl

/-- R417: OP 1 is a response. -/
theorem swmUnlockBody_respond {q : PlReq} (h : field q.payload 0 1 = 1) (t : State) : swmUnlockBody q t = swmRespond q t := by
  unfold swmUnlockBody
  rw [h]
  rfl

/-- R417: an answer fits the challenge that stands for its key. -/
def swmFits (t : State) (key : Nat) (answer : List Byte) : Bool :=
  match t.swarm.challenge with
  | some (n, c) => n == key && (match keyOf t key with
    | some k => answer == swmExpected k.key c
    | none => false)
  | none => false

/-- R417: what the answer that fits leaves. -/
def swmUnlocked (t : State) (q : PlReq) (key : Nat) : State :=
  let u := t.onSwm fun w => { w with challenge := none, until_ := (t.get64 (P.kpr + 0x68)).toNat + 60000 * t.getF P.swm F.SWM_CFG_UNLOCK_TIME }
  let x := ((u.setF P.swm F.SWM_STAT_UNLOCKED 1).setF P.swm F.SWM_STAT_REQ q.via.req.code).setF P.swm F.SWM_STAT_KEY key
  (x.log 0x000E 1 0x0009 0 [BitVec.ofNat 8 q.via.req.code, BitVec.ofNat 8 key]).raise P.swm 0

/-- R417: an answer of its layout, while Swarm is not locked out. -/
theorem swmRespond_eq {q : PlReq} {t : State} (h : ¬ t.isSet P.swm F.SWM_STAT_LOCKOUT = true)
    (hl : ¬(q.payload.length ≠ 20 ∨ 3 < field q.payload 1 1 ∨ field q.payload 2 2 ≠ 0)) :
    swmRespond q t = if swmFits t (field q.payload 1 1) ((q.payload.drop 4).take 16) then
        ok (swmUnlocked t q (field q.payload 1 1)) [BitVec.ofNat 8 (t.getF P.swm F.SWM_CFG_UNLOCK_TIME), 0, 0, 0]
      else nak (swmWrong t) P.swm .auth := by
  unfold swmRespond
  refine (if_neg h).trans ((if_neg hl).trans ?_)
  cases hc : t.swarm.challenge with
  | none => simp only [swmFits, hc]; rfl
  | some c =>
    cases hk : keyOf t (field q.payload 1 1) with
    | none => simp only [swmFits, hc, hk, Bool.and_false]; rfl
    | some k =>
      simp only [swmFits, hc, hk]
      cases c.1 == field q.payload 1 1 && List.take 16 (List.drop 4 q.payload) == swmExpected k.key c.2 <;> rfl

/-- R417: a wrong answer. -/
theorem swmWrong_eq (t : State) : let y := (t.onSwm fun w => { w with challenge := none, wrong := w.wrong + 1 }).err P.swm
    swmWrong t = if 2 ≤ t.swarm.wrong then y.setF P.swm F.SWM_STAT_LOCKOUT 1 else y := by
  simp only [swmWrong, State.err_swarm]
  exact if_congr (by simp [State.onSwm]) rfl rfl

/-- Settles O56. -/
theorem swarmIsGuarded : Obligations.SwarmIsGuarded := by
  unfold Obligations.SwarmIsGuarded
  intro s q p t key
  refine ⟨?unlock, ?set, ?stop, fun why => ⟨fun h => if_pos h, fun h => if_neg (by simp [h])⟩,
    fun h => congrArg Host.Outcome.next (if_pos h), fun h => congrArg Host.Outcome.next (if_neg (by simp [h]))⟩
  case unlock =>
    intro h hp i hi locked op no layout right
    have run : exec i s = .next (runPlosto 0x68 q (onPage P.swm true (swmUnlockBody q)) s) := by
      rcases List.mem_pair.mp hi with rfl | rfl <;> rfl
    rw [run]
    refine ⟨fun hl => ?locked, fun hl hr => ?range, fun hl hr h0 => ?challenge, fun hl hr h1 => ?respond⟩
    case locked => exact next_plosto_refused h hp (swmUnlockBody_lockout q hl) nofun
    case range => exact next_plosto_refused h hp (swmUnlockBody_range q hl hr) nofun
    case challenge =>
      have hn : ¬ t.isSet P.swm F.SWM_STAT_LOCKOUT = true := by simpa [locked] using hl
      have body := swmUnlockBody_challenge (show field q.payload 0 1 = 0 from h0) t
      simp only [layout, h0, if_true] at hr
      exact next_plosto_done h hp (body.trans ((if_neg hn).trans (if_neg (by simp only [key, p] at hr; omega))))
    case respond =>
      intro m u x y
      have hn : ¬ t.isSet P.swm F.SWM_STAT_LOCKOUT = true := by simpa [locked] using hl
      simp only [layout, h1, one_ne_zero, if_false] at hr
      have body := (swmUnlockBody_respond (show field q.payload 0 1 = 1 from h1) t).trans
        (swmRespond_eq hn (by simp only [key, p] at hr; omega))
      change swmUnlockBody q t = if right = true then _ else _ at body
      cases hright : right with
      | false =>
        rw [hright] at body
        have hw := swmWrong_eq t
        exact (next_plosto_refused h hp body nofun).trans (by rw [hw]; rfl)
      | true =>
        rw [hright] at body
        exact next_plosto_ok h hp body
  case set =>
    intro h hp w r good
    have act : swmSetBody q t = if !t.swarmOn then nak t P.swm .locked
        else if p.length ≠ 24 ∨ 7 < r ∨ field p 1 3 ≠ 0 ∨ (bit (w 0) 31 ∧ !ruleValid (w 0) (w 1) (w 2)) then nak t P.swm .range
        else ok (ruleFresh ((forEach (List.range 4) (fun i s => s.store (ruleBase r + 0x100 + 4 * i) (w i)) t).store
          (ruleBase r + 0x118) (w 4)) r) [] := rfl
    have bad : (p.length ≠ 24 ∨ 7 < r ∨ field p 1 3 ≠ 0 ∨ (bit (w 0) 31 ∧ !ruleValid (w 0) (w 1) (w 2))) ↔ ¬good := by
      simp only [good]; grind
    refine ⟨fun ho => ?closed, fun ho hg => ?range, fun ho hg => ?set⟩
    case closed => exact next_plosto_refused h hp (act.trans (if_pos (by simp [ho]))) nofun
    case range => exact next_plosto_refused h hp (act.trans ((if_neg (by simp [ho])).trans (if_pos (bad.mpr hg)))) nofun
    case set => exact next_plosto_ok h hp (act.trans ((if_neg (by simp [ho])).trans (if_neg fun hb => bad.mp hb hg)))
  case stop =>
    intro h hp layout u i hi
    have run : exec i s = .next (runPlosto 0x6A q (onPage P.swm true (swmStopBody q)) s) := by
      rcases List.mem_pair.mp hi with rfl | rfl <;> rfl
    rw [run]
    refine ⟨fun hl => next_plosto_refused h hp (if_pos ?_) nofun, fun hl => next_plosto_ok h hp ((if_neg ?_).trans rfl)⟩
    · simp only [layout, p] at hl; omega
    · simp only [layout, p] at hl; omega

end Sys2Proof.Machine
end

section
/-! PROOFS. The speaker channels and the boosts (R259-R277). -/

namespace Sys2Proof.Machine

/-! ### Ends of ramps -/

/-- R266, R268: what a channel that is off starts again for. -/
theorem ampAgain_iff (s : State) (n : Nat) : ampAgain s n = true ↔ ampWanted s n = true ∧ s.en (P.bst (n / 2)) = true ∧
    s.sys.pwrFailN = true ∧ s.domOn .power = true ∧ s.sys.entry = none ∧ s.sys.resetPending = none := by
  simp only [ampAgain, Bool.and_eq_true, Option.isNone_iff_eq_none, and_assoc]

/-- Settles O38. -/
theorem speakerChannelsEndTheirRamps : Obligations.SpeakerChannelsEndTheirRamps := by
  unfold Obligations.SpeakerChannelsEndTheirRamps
  intro s n b st again
  refine ⟨?start, ?plain, ?recovers, ?stop, ?fast, ?mute, ?muteNot⟩
  case start =>
    intro go t
    refine ⟨fun h hm => (if_pos h).trans (if_pos hm), fun h hm => (if_pos h).trans (if_neg hm), fun h => if_neg h⟩
  case plain => exact fun h => if_neg (show ¬ (s.amp n).recover = true by simp [h])
  case recovers => exact fun h => if_pos h
  case stop =>
    intro go u
    have act : exec (.ampStopDone n) s = if st = 7 ∧ !(s.amp n).fast then (if ampAgain u n then .next (ampBegin u n) else .next u)
        else .next s := rfl
    have hgo : (st = 7 ∧ (!(s.amp n).fast) = true) ↔ go := by simp [go]
    exact ⟨fun h ha => act.trans ((if_pos (hgo.mpr h)).trans (if_pos ((ampAgain_iff u n).mpr ha))),
      fun h ha => act.trans ((if_pos (hgo.mpr h)).trans (if_neg (ha ∘ (ampAgain_iff u n).mp))),
      fun h => act.trans (if_neg (h ∘ hgo.mp))⟩
  case fast =>
    intro d t k u
    have act (h : st = 7) (hf : (s.amp n).fast = true) : exec (.fastStopDone n) s = match k with
        | .latched => .next ((t.setSt b 10).setF b F.PG_STAT_FAULT 1)
        | .retry => if ampWanted s n then .next ((t.setSt b 8).raise b 6) else .next u
        | .blocked => if !ampWanted s n then .next u
          else if ampCause t n = 0 then .next (ampBegin (t.onAmp n fun h => { h with recover := true }) n)
          else .next (ampBlock t n (ampCause t n))
        | .off => if ampAgain u n then .next (ampBegin u n) else .next u := (if_pos ⟨h, hf⟩).trans rfl
    refine ⟨fun h hf => ?run, fun h => if_neg fun hb => h.elim (· hb.1) fun hf => by simp [hf] at hb⟩
    have act := act h hf
    refine ⟨fun hk => ?toLatched, fun hk hw => ?toRetry, fun hk hw hc => ?toStart, fun hk hw hc => ?toBlocked, fun hk hw => ?unwanted,
      fun hk ha => ?toAgain, fun hk ha => ?toOff⟩
    case toLatched => rw [act, hk]
    case toRetry => rw [act, hk]; exact if_pos hw
    case toStart => rw [act, hk]; exact (if_neg (by simp [hw])).trans (if_pos hc)
    case toBlocked => rw [act, hk]; exact (if_neg (by simp [hw])).trans (if_neg hc)
    case unwanted =>
      rw [act]
      rcases hk with hk | hk
      · rw [hk]; exact if_neg (by simp [hw])
      · rw [hk]; exact if_pos (by simp [hw])
    case toAgain => rw [act, hk]; exact if_pos ((ampAgain_iff u n).mpr ha)
    case toOff => rw [act, hk]; exact if_neg (ha ∘ (ampAgain_iff u n).mp)
  case mute => exact fun h hm => if_pos ⟨h, hm⟩
  case muteNot => exact fun h => if_neg fun hb => h.elim (· hb.1) (hb.2 ·)

/-! ### Boosts -/

/-- Settles O40. -/
theorem boostsFollowRailAndSupply : Obligations.BoostsFollowRailAndSupply := by
  unfold Obligations.BoostsFollowRailAndSupply
  intro s p b st both
  refine ⟨fun h => if_pos h, fun h => if_neg h, ?faults, ?cut, ?unblock, fun h => ?held, fun h => ?holds, fun h => if_pos h,
    fun h => if_neg h, ⟨rfl, rfl⟩, fun n k => rfl, rfl, fun pvin => rfl, fun pvin => rfl, fun pvin => rfl⟩
  case faults =>
    exact fun vrail pvin => ⟨fun h => if_pos h, fun h => if_neg h, fun h => if_pos h, fun h => if_neg (by simp [h])⟩
  case cut =>
    exact fun n c => ⟨fun h hw => (if_pos h).trans (if_pos hw), fun h hw => (if_pos h).trans (if_neg (by simp [hw])),
      fun h => if_neg (by simp [h])⟩
  case unblock =>
    exact fun n => ⟨fun h hc => (if_neg (by simp [h])).trans (if_pos hc), fun h hc => (if_neg (by simp [h])).trans (if_neg hc),
      fun h => if_pos h⟩
  case held => exact congrArg Host.Outcome.next (if_pos (decide_eq_true h))
  case holds => exact congrArg Host.Outcome.next (if_neg (by simpa [holdOver] using h))

/-! ### Commands of the host -/

/-- An action that is done in both cases of a condition is done. -/
theorem done_ite {c : Prop} [Decidable c] {a b : State} {x y : Code × State} (ha : (Code.done, a) = x) (hb : (Code.done, b) = y) :
    (Code.done, if c then a else b) = if c then x else y := by
  rw [← ha, ← hb, apply_ite (Prod.mk Code.done)]

/-- R266-R268: a write of a channel's control word that its checks accept. -/
theorem ampCtrlWrite_accepted {n : Nat} {w : Word} {t : State} (h : ¬((bit w 2 ∧ t.st (P.amp n) ≠ 10) ∨
      (bit w 0 ∧ t.isSet (P.amp n) F.AMP_CTRL_EN = false ∧ (t.en (P.amp n) = false ∨ t.en (P.bst (n / 2)) = false)))) :
    let was := t.isSet (P.amp n) F.AMP_CTRL_EN
    let wasMute := t.isSet (P.amp n) F.AMP_CTRL_MUTE
    let u := t.store (P.amp n + 0x44) w
    let x := if bit w 1 ∧ wasMute = false then ampMute u n muteHost
      else if bit w 1 = false ∧ wasMute then ampUnmute u n muteHost else u
    ampCtrlWrite n w t = (.done, if u.sys.pwrFailN = false ∧ bit w 2 = false then u
      else if bit w 2 then ampClear (x.setF (P.amp n) F.AMP_CTRL_CLR 1) n
      else if bit w 0 ∧ was = false ∧ x.st (P.amp n) = 2 then ampBegin x n
      else if bit w 0 = false ∧ was then ampStop x n else x) := by
  intro was wasMute u x
  simp only [ampCtrlWrite, Bool.not_eq_true']
  rw [if_neg (by tauto), if_neg (by tauto)]
  exact (done_ite rfl (done_ite rfl (done_ite rfl (done_ite rfl rfl)))).symm

/-- Settles O37. -/
theorem speakerChannelsObeyTheHost : Obligations.SpeakerChannelsObeyTheHost := by
  unfold Obligations.SpeakerChannelsObeyTheHost
  refine fun s r => ⟨?ctrl, ?begins, ?stop, ?mute, ?unmute, ?clr, ?boost, ?clear⟩
  case ctrl =>
    intro n v b a t was wasMute h e he w u bad x
    have run : exec e.1 s = .next (hostWrite r a (ampCtrlWrite n w) s) := by
      simp only [List.mem_cons, List.not_mem_nil, or_false] at he
      rcases he with rfl | rfl | rfl | rfl | rfl <;> rfl
    rw [run]
    refine ⟨fun hb => next_hostWrite_refused h ?_ nofun, fun hb hp hc => next_hostWrite_done h ?_, fun hb hp => next_hostWrite_done h ?_⟩
    · show ampCtrlWrite n w t = (.state, t)
      simp only [ampCtrlWrite, Bool.not_eq_true']
      rcases hb with hb | hb
      · exact if_pos hb
      · exact ite_eq_left_iff.mpr fun _ => if_pos hb
    · exact (ampCtrlWrite_accepted hb).trans (by rw [if_pos ⟨hp, hc⟩])
    · have hn : ¬ (u.sys.pwrFailN = false ∧ bit w 2 = false) := by rcases hp with hp | hp <;> simp [hp]
      exact (ampCtrlWrite_accepted hb).trans (by rw [if_neg hn])
  case begins =>
    intro n b d u x
    exact ⟨fun hp hc => (if_neg (not_bnot hp)).trans (if_neg (not_not.mpr hc)), fun hp hc => (if_neg (not_bnot hp)).trans (if_pos hc),
      fun hp => if_pos (bnot_true hp)⟩
  case stop =>
    refine fun n => ⟨fun h => if_pos h, fun h => (if_neg ?_).trans (if_pos h),
      fun h h8 h9 => (if_neg (ne_true_of_eq_false h)).trans (if_neg (not_or.mpr ⟨h8, h9⟩))⟩
    rcases h with h | h <;> simp [ampOn, h]
  case mute =>
    intro n c b u down going
    exact ⟨fun h => if_pos h, fun h => (if_neg (by rw [h]; simp)).trans (if_pos h),
      fun h3 h4 hg => (if_neg (not_or.mpr ⟨h4, hg⟩)).trans (if_neg h3)⟩
  case unmute =>
    intro n c b u last
    exact ⟨fun h => if_pos h, fun h => if_neg h⟩
  case clr =>
    intro n b u
    exact ⟨fun h => if_neg (ne_true_of_eq_false h), fun h => if_pos h⟩
  case boost =>
    intro p b a t u h
    exact ⟨fun h7 => next_hostWrite_done h ((if_neg (by decide)).trans (if_neg (not_not.mpr h7))),
      fun h7 => next_hostWrite_refused h ((if_neg (by decide)).trans (if_pos h7)) nofun⟩
  case clear =>
    intro q cm bm page t bad locked cc bc mask h
    have hc : ((List.range 8).filter fun n => cm / 2 ^ n % 2 == 1).filter (fun n => t.st (P.amp n) == 10) = cc := by
      simp only [cc, List.filter_filter, Bool.and_comm]
    have hb : ((List.range 4).filter fun p => bm / 2 ^ p % 2 == 1).filter (fun p => t.st (P.bst p) == 7) = bc := by
      simp only [bc, List.filter_filter, Bool.and_comm]
    have hl : ((((List.range 8).filter fun n => cm / 2 ^ n % 2 == 1).any fun n => t.isSet (P.amp n) F.PG_CTRL_LOCK) ||
        ((List.range 4).filter fun p => bm / 2 ^ p % 2 == 1).any fun p => t.isSet (P.bst p) F.PG_CTRL_LOCK) = true ↔ locked := by
      simp only [locked, Bool.or_eq_true, List.any_eq_true, List.mem_filter, List.mem_range, beq_iff_eq, and_assoc]
    have act : ampClearBody q s = if locked then nak t page .locked else if bad then nak t page .range
        else if bc = [] ∧ cc = [] then nak t page .state
        else ok (forEach cc (fun n u => ampClear u n) (forEach bc (fun p u => boostClear u p) t)) [mask cc, mask bc, 0, 0] := by
      rw [← hc, ← hb, ← if_congr hl rfl rfl]
      rfl
    refine ⟨fun hL => ?locked, fun hL hB => ?range, fun hL hB h1 h2 => ?state, fun hL hB hn => ?clears⟩
    case locked => exact next_runPlosto_refused h (act.trans (if_pos hL)) nofun
    case range => exact next_runPlosto_refused h (act.trans ((if_neg hL).trans (if_pos hB))) nofun
    case state => exact next_runPlosto_refused h (act.trans ((if_neg hL).trans ((if_neg hB).trans (if_pos ⟨h1, h2⟩)))) nofun
    case clears =>
      exact next_runPlosto_ok h (act.trans ((if_neg hL).trans ((if_neg hB).trans (if_neg fun hb => hn.elim (· hb.1) (· hb.2)))))

end Sys2Proof.Machine
end

section
/-! PROOFS. The protection of the speaker channels (R259, R270-R277). -/

namespace Sys2Proof.Machine

/-- Settles O39. -/
theorem speakerProtectionActs : Obligations.SpeakerProtectionActs := by
  unfold Obligations.SpeakerProtectionActs
  intro s n a live loop
  refine ⟨?limit, fun h => if_neg (ne_true_of_eq_false h), ?trips, ?trip, ?retry, ?dc, ?loopsat, ?sense,
    fun h => ?recovers, fun h => ?recoversNot,
    ?power, ?thermal, ?hot, ?cool, ?reset⟩
  case limit => 
    exact fun h => ⟨fun hc => (if_pos h).trans (congrArg Host.Outcome.next (if_pos hc)),
      fun hc => (if_pos h).trans (congrArg Host.Outcome.next (if_neg (Nat.not_le.mpr hc)))⟩
  case trips => exact fun hard x => ⟨fun h => if_pos h, fun h => if_neg (ne_true_of_eq_false h)⟩
  case trip =>
    intro kind cls peak vp vn t e u x y
    exact ⟨fun h => if_pos h, fun h hw => (if_neg (Nat.not_le.mpr h)).trans (if_pos hw), 
      fun h hw => (if_neg (Nat.not_le.mpr h)).trans (if_neg (ne_true_of_eq_false hw))⟩
  case retry =>
    intro waits held
    have hh : ((!s.sys.pwrFailN) = true ∨ s.an.linkLost = true) ↔ held := by simp [held]
    exact ⟨fun h hn => (if_pos h).trans (if_neg (hn ∘ hh.mp)), fun h hd => (if_pos h).trans (if_pos (hh.mpr hd)), fun h => if_neg h⟩
  case dc => exact fun dc => ⟨fun h => if_pos h, fun h => if_neg h⟩
  case loopsat =>
    intro hit
    have hh : (ampOn s n ∧ s.isSet a F.AMP_CFG_LOOP ∧ 48 ≤ loop.satRun ∧ (!loop.told) = true) ↔ hit := by simp [hit]
    exact ⟨fun h => if_pos (hh.mpr h), fun h => if_neg (h ∘ hh.mp)⟩
  case sense =>
    intro hit
    have hh : (ampOn s n ∧ s.isSet a F.AMP_CFG_LOOP ∧ 480 ≤ loop.lowRun ∧ (!(s.amp n).senseOpen) = true) ↔ hit := by simp [hit]
    exact ⟨fun h => if_pos (hh.mpr h), fun h => if_neg (h ∘ hh.mp)⟩
  case recovers => exact congrArg Host.Outcome.next (if_pos h)
  case recoversNot => exact congrArg Host.Outcome.next (if_neg (Nat.not_le.mpr h))
  case power => 
    intro pm ipk pavg plim old next more less
    have act {att : Nat} (h : powerAtt (s.isSet a F.AMP_LIMIT_EN) pavg plim old = att) :
        exec (.powerLimitUpdate n pm ipk) s = .next (next att) := h ▸ rfl
    exact ⟨fun h => act (if_pos h), fun h hl => act ((if_neg h).trans (if_pos hl)), fun h hl => act ((if_neg h).trans (if_neg hl))⟩
  case thermal => 
    intro ts temp sum next
    have act {mean : Int} (h : (if sum % 8 = 0 then sum / 8 else sum / 8 + (if Config.roundUp sum 8 then 1 else 0)) = mean) :
        exec (.thermalUpdate ts) s = .next (next mean) := h ▸ rfl
    refine ⟨fun h => act (if_pos h), fun h => ?_⟩
    cases hr : Config.roundUp sum 8 with
    | false => exact Or.inl (act ((if_neg h).trans (by simp [hr])))
    | true => exact Or.inr (act ((if_neg h).trans (by simp [hr])))
  case hot => exact fun t => ⟨fun h => if_pos h, fun h => if_neg h⟩
  case cool => exact fun t => ⟨fun h => if_pos h, fun h => if_neg h⟩
  case reset =>
    exact fun t => ⟨fun h hr => if_pos ⟨h, hr⟩, fun h => if_neg fun hb => h.elim (fun h => absurd hb.1 (Int.not_le.mpr h)) (· hb.2)⟩

end Sys2Proof.Machine
end

section
/-! PROOFS. Analogue inputs, line outputs and headsets (R232-R256). -/

namespace Sys2Proof.Machine

/-! ### Analogue inputs -/

/-- R234: what a write of an input's configuration leaves of its bias. -/
def ainRebiased (u : State) (n : Nat) (v : Word) (was : Nat) : State :=
  if getField v 23 16 ≠ was ∧ u.an.biasOn.contains n ∧ ainLive u n ∧ ainSt u n ≠ 1 then biasTo u n (biasVolts u n) 10 else u

/-- R234: an input's start reads its configuration, which the start leaves. -/
theorem ainBegin_eq (x : State) (n : Nat) : let y := x.setF (ainBase n) F.AIN_STAT_STATE 1
    ainBegin x n = ainBias y n (y.isSet (ainBase n) F.AIN_CFG_BIAS_EN) := by
  intro y
  have h : y.isSet (ainBase n) F.AIN_CFG_BIAS_EN = x.isSet (ainBase n) F.AIN_CFG_BIAS_EN := by
    simp only [State.isSet, y]
    rw [State.getF_setF_ne (by simp [F.AIN_CFG_BIAS_EN, F.AIN_STAT_STATE])]
  rw [h]
  rfl

/-- R234: a write of an input's configuration with its fields in range. -/
theorem ainCfgWrite_inRange {n : Nat} {v : Word} {t : State}
    (h : ¬(96 < getField v 6 0 ∨ 80 < getField v 23 16 ∨ (bit v 29 ∧ bit v 30 = false))) :
    let b := ainBase n
    let was := t.isSet b F.AIN_CFG_EN
    let fixed := (was ∧ (bit v 30 ≠ bit (t.rd (b + 0x40)) 30 ∨ bit v 29 ≠ bit (t.rd (b + 0x40)) 29)) ∨
      (bit v 31 ∧ was = false ∧ t.en P.ain = false)
    let x := ainRebiased (t.store (b + 0x40) v) n v (t.getF b F.AIN_CFG_BIAS)
    (fixed → ainCfgWrite n v t = (.state, t)) ∧
    (¬fixed → ainCfgWrite n v t = (.done, if bit v 31 ∧ ainSt x n = 0 ∧ x.sys.pwrFailN then ainBegin x n
      else if bit v 31 = false ∧ was then ainStopping x n else x)) := by
  intro b was fixed x
  have hx : (if (decide (getField v 23 16 ≠ t.getF b F.AIN_CFG_BIAS) && (t.store (b + 0x40) v).an.biasOn.contains n &&
      ainLive (t.store (b + 0x40) v) n && ainSt (t.store (b + 0x40) v) n != 1) = true then
      biasTo (t.store (b + 0x40) v) n (biasVolts (t.store (b + 0x40) v) n) 10 else t.store (b + 0x40) v) = x :=
    if_congr (by simp [and_assoc]) rfl rfl
  simp only [ainCfgWrite, Bool.not_eq_true']
  rw [if_neg h]
  refine ⟨fun hf => ?_, fun hf => ?_⟩
  · rcases hf with hf | hf
    · exact if_pos hf
    · exact ite_eq_left_iff.mpr fun _ => if_pos hf
  · rw [if_neg fun hb => hf (.inl hb), if_neg fun hb => hf (.inr hb), hx]
    exact (done_ite rfl (done_ite rfl rfl)).symm

/-- Settles O34. -/
theorem analogueInputsFollowTheirCommands : Obligations.AnalogueInputsFollowTheirCommands := by
  unfold Obligations.AnalogueInputsFollowTheirCommands
  intro s n b st bias
  have idle {k : Nat} (h : ainLive s n = false ∨ st ≠ k) : ¬(ainLive s n = true ∧ st = k) := fun hb =>
    h.elim (fun h => ne_true_of_eq_false h hb.1) fun h => h hb.2
  refine ⟨?write, fun h => if_pos h, fun h => (if_neg (by simp only [st] at h; simp [h])).trans (if_pos h),
    fun h0 h5 => (if_neg h0).trans (if_neg h5), fun hl h => if_pos ⟨hl, h⟩, fun h => if_neg (idle h), ?gain,
    fun hl h => if_pos ⟨hl, h⟩, fun h => if_neg (idle h), fun h => if_pos h, fun h => if_neg h,
    fun i => ⟨fun h => if_pos h, fun h => if_neg h⟩, ?short, fun hl h => if_pos ⟨hl, h⟩, fun h => if_neg (idle h),
    fun i => ⟨fun h => if_pos h, fun h => if_neg h⟩, ?off, ?bias⟩
  case write =>
    intro r v a t was refused h e he w bad fixed u x
    have run : exec e.1 s = .next (hostWrite r a (ainCfgWrite n w) s) := by
      rcases List.mem_pair.mp he with rfl | rfl <;> rfl
    rw [run]
    have hx : ainRebiased u n w (t.getF b F.AIN_CFG_BIAS) = x := rfl
    refine ⟨fun hb => next_hostWrite_refused h ?_ nofun, fun hb hf => next_hostWrite_refused h ((ainCfgWrite_inRange hb).1 hf) nofun,
      fun hb hf => next_hostWrite_done h ?_⟩
    · exact if_pos (by simpa [bad] using hb)
    · have accepted := (ainCfgWrite_inRange hb).2 hf
      rw [hx, ainBegin_eq] at accepted
      exact accepted
  case gain =>
    intro cur goal
    refine ⟨fun h hc => (if_pos h).trans (congrArg Host.Outcome.next (congrArg _ (if_pos hc))),
      fun h hc => (if_pos h).trans (congrArg Host.Outcome.next (congrArg _ ((if_neg (Nat.lt_asymm hc)).trans (if_pos hc)))),
      fun h => if_neg (Nat.not_le.mpr h)⟩
  case short =>
    intro i u
    refine ⟨fun h hb h5 => (if_pos ⟨h, hb⟩).trans (if_neg h5), fun h hb h5 => (if_pos ⟨h, hb⟩).trans (if_pos h5),
      fun h => if_neg fun hb => ?_⟩
    exact h.elim (fun h => by simp [h] at hb) fun h => ne_true_of_eq_false h hb.2
  case off =>
    intro stop u again
    refine ⟨fun h => if_neg (ne_true_of_eq_false h), fun h ha => (if_pos h).trans (if_neg ha), fun h ha => ?_⟩
    exact ((if_pos h).trans (if_pos ha)).trans (congrArg Host.Outcome.next (ainBegin_eq u n))
  case bias =>
    intro u h
    exact if_pos (show (true && s.an.avbias) = true by simp [h])

/-! ### Line outputs -/

/-- R251, R252: a write of a line output's configuration that its checks accept. -/
theorem loCfgWrite_accepted {n : Nat} {w : Word} {t : State} (h : ¬((t.isSet (loBase n) F.LO_CFG_EN ∧
      bit w 24 ≠ bit (t.rd (loBase n + 0x40)) 24) ∨ (bit w 31 ∧ t.isSet (loBase n) F.LO_CFG_EN = false ∧ t.en P.lo = false))) :
    let was := t.isSet (loBase n) F.LO_CFG_EN
    let wasMute := t.isSet (loBase n) F.LO_CFG_MUTE
    let u := t.store (loBase n + 0x40) w
    let x := if bit w 30 ∧ wasMute = false then loMute u n muteHost
      else if bit w 30 = false ∧ wasMute then loUnmute u n muteHost else u
    loCfgWrite n w t = (.done, if u.sys.pwrFailN = false then u
      else if bit w 31 ∧ was = false ∧ loSt x n = 0 then loBegin x n
      else if bit w 31 = false ∧ was then loStop x n else x) := by
  intro was wasMute u x
  simp only [loCfgWrite, Bool.not_eq_true']
  rw [if_neg fun hb => h (.inl hb), if_neg fun hb => h (.inr hb)]
  exact (done_ite rfl (done_ite rfl (done_ite rfl rfl))).symm

/-- Settles O35. -/
theorem lineOutputsFollowTheirCommands : Obligations.LineOutputsFollowTheirCommands := by
  unfold Obligations.LineOutputsFollowTheirCommands
  intro s n b st why
  refine ⟨?write, fun hp hs => (if_pos hp).trans (if_neg (ne_true_of_eq_false hs)), fun h1 h4 => if_pos (decide_eq_true ⟨h1, h4⟩),
    fun h => if_neg ?stopped, ?mute, fun c => ⟨fun h => if_pos h, fun h => if_neg h⟩, ?started, ?stops, fun h hw => if_pos ⟨h, hw⟩,
    fun h => if_neg fun hb => h.elim (· hb.1) hb.2, ?short, ?clr⟩
  case write =>
    intro r v a t was wasMute h e he w u bad x
    have run : exec e.1 s = .next (hostWrite r a (loCfgWrite n w) s) := by
      simp only [List.mem_cons, List.not_mem_nil, or_false] at he
      rcases he with rfl | rfl | rfl | rfl <;> rfl
    rw [run]
    refine ⟨fun hb => next_hostWrite_refused h ?_ nofun, fun hb hp => next_hostWrite_done h ?_, fun hb hp => next_hostWrite_done h ?_⟩
    · show loCfgWrite n w t = (.state, t)
      simp only [loCfgWrite, Bool.not_eq_true']
      rcases hb with hb | hb
      · exact if_pos hb
      · exact ite_eq_left_iff.mpr fun _ => if_pos hb
    · exact (loCfgWrite_accepted hb).trans (by rw [if_pos hp])
    · exact (loCfgWrite_accepted hb).trans (by rw [if_neg (ne_false_of_eq_true hp)])
  case stopped => simp only [st] at h; simp only [loOn, decide_eq_true_eq]; omega
  case mute =>
    intro c u _ h2
    exact if_pos (.inl h2)
  case started =>
    intro u
    exact ⟨fun h hr => (if_pos h).trans (if_pos hr), fun h hr => (if_pos h).trans (if_neg hr), fun h => if_neg h⟩
  case stops =>
    intro d c u again
    refine ⟨fun h => (if_pos h).trans ?_, fun h => if_neg h⟩
    have hagain : (u.isSet b F.LO_CFG_EN ∧ u.en P.lo ∧ (!u.isSet P.lo F.PG_CTRL_SRST) = true ∧ u.sys.pwrFailN ∧ u.domOn .analog ∧
        u.sys.entry = none ∧ u.sys.resetPending = none) ↔ again := by simp only [again, Bool.not_eq_true']
    rw [apply_ite Host.Outcome.next]
    exact if_congr hagain rfl rfl
  case short =>
    intro d
    exact ⟨fun h1 h5 => if_pos ⟨h1, h5⟩, fun h => if_neg fun hb => by simp only [st] at h; omega⟩
  case clr =>
    intro r a t u bad h
    have hbad : (loSt t n ≠ 6 ∨ (t.isSet b F.LO_CFG_EN ∧ (!t.en P.lo) = true)) ↔ bad := by simp [bad]
    refine ⟨fun hb => next_hostWrite_refused h ((if_neg (by decide)).trans (if_pos (hbad.mpr hb))) nofun,
      fun hb he => next_hostWrite_done h ?_, fun hb he => next_hostWrite_done h ?_⟩
    · exact (if_neg (by decide)).trans ((if_neg (hb ∘ hbad.mp)).trans (if_pos he))
    · exact (if_neg (by decide)).trans ((if_neg (hb ∘ hbad.mp)).trans (if_neg (ne_true_of_eq_false he)))

/-! ### Headsets -/

/-- R254: a write of a headset's configuration with its fields in range. -/
theorem hsCfgWrite_accepted {n : Nat} {w : Word} {t : State} (hb : ¬(8 < getField w 27 24 ∨ 72 < getField w 22 16))
    (h : ¬((t.isSet (hsBase n) F.HS_CFG_EN ∧ bit w 28 ≠ bit (t.rd (hsBase n + 0x40)) 28) ∨
      (bit w 31 ∧ t.isSet (hsBase n) F.HS_CFG_EN = false ∧ t.en P.hs = false))) :
    let was := t.isSet (hsBase n) F.HS_CFG_EN
    let wasMute := t.isSet (hsBase n) F.HS_CFG_OUTMUTE
    let u := t.store (hsBase n + 0x40) w
    let x := if bit w 30 ∧ wasMute = false then earsMute u n muteHost 5
      else if bit w 30 = false ∧ wasMute then earsUnmute u n muteHost 5 else u
    hsCfgWrite n w t = (.done, if u.sys.pwrFailN = false then u
      else if bit w 31 ∧ was = false then hsBegin x n
      else if bit w 31 = false ∧ was then hsStop x n else x) := by
  intro was wasMute u x
  simp only [hsCfgWrite, Bool.not_eq_true']
  rw [if_neg hb, if_neg fun hb => h (.inl hb), if_neg fun hb => h (.inr hb)]
  exact (done_ite rfl (done_ite rfl (done_ite rfl rfl))).symm

/-- R256: a reading below 0.43 is a button's. -/
theorem buttonOf_isSome (f : Nat) : (buttonOf f).isSome = true ↔ 100 * f < 43 * 65536 := by
  unfold buttonOf
  split_ifs <;> simp <;> omega

/-- Settles O36. -/
theorem headsetsFollowTheirCommands : Obligations.HeadsetsFollowTheirCommands := by
  unfold Obligations.HeadsetsFollowTheirCommands
  intro s n b st on
  refine ⟨?write, ?jack, fun h1 h2 h3 => if_pos ⟨h1, h2, h3⟩, fun h => if_neg fun hb => ?notDebounced, ?classed, ?gone, ?short, ?button⟩
  case write =>
    intro r v a t was wasMute refused h e he w u bad fixed x
    have run : exec e.1 s = .next (hostWrite r a (hsCfgWrite n w) s) := by
      simp only [List.mem_cons, List.not_mem_nil, or_false] at he
      rcases he with rfl | rfl | rfl | rfl <;> rfl
    rw [run]
    refine ⟨fun hb => next_hostWrite_refused h (if_pos hb) nofun, fun hb hf => next_hostWrite_refused h ?_ nofun,
      fun hb hf hp => next_hostWrite_done h ?_, fun hb hf hp => next_hostWrite_done h ?_⟩
    · show hsCfgWrite n w t = (.state, t)
      simp only [hsCfgWrite, Bool.not_eq_true']
      rw [if_neg hb]
      rcases hf with hf | hf
      · exact if_pos hf
      · exact ite_eq_left_iff.mpr fun _ => if_pos hf
    · exact (hsCfgWrite_accepted hb hf).trans (by rw [if_pos hp])
    · exact (hsCfgWrite_accepted hb hf).trans (by rw [if_neg (ne_false_of_eq_true hp)])
  case jack =>
    intro level t shows
    exact ⟨fun h => if_pos h, fun h => if_neg h⟩
  case notDebounced =>
    obtain ⟨h1, h2, h3⟩ := hb
    rcases h with h | h | h
    · exact ne_true_of_eq_false h h1
    · exact h h2
    · exact ne_true_of_eq_false h h3
  case classed =>
    intro zl zr f z c t u x
    refine ⟨fun h1 h3 hc => (if_pos ⟨h1, h3⟩).trans (if_neg hc), fun h1 h3 hc => (if_pos ⟨h1, h3⟩).trans (if_pos hc),
      fun h => if_neg fun hb => ?_⟩
    exact h.elim (fun h => ne_true_of_eq_false h hb.1) fun h => h hb.2
  case gone =>
    intro gone t u x
    have hgone : (on ∧ 2 ≤ st ∧ st ≤ 5 ∧ (!plugged s n) = true) ↔ gone := by simp only [gone, Bool.not_eq_true']
    have act (h : gone) {y : State} (hy : (if decide (4 ≤ st) = true then t.startRamp (.hsGone n) 48 else t) = y) :
        exec (.hsRemove n) s = .next (sideTones
          (if decide (4 ≤ st) then (if earSt y n = 0 then y.setF b F.HS_STAT_OUT 1 else y).raise P.hs 1
          else if earSt y n = 0 then y.setF b F.HS_STAT_OUT 1 else y)) := hy ▸ (if_pos (hgone.mpr h)).trans rfl
    have hu : (if decide (4 ≤ st) = true then t.startRamp (.hsGone n) 48 else t) = u := if_congr decide_eq_true_iff rfl rfl
    exact ⟨fun h h4 => (act h hu).trans (by rw [if_pos (decide_eq_true h4)]),
      fun h h4 => (act h hu).trans (by rw [if_neg (by simpa using h4)]), fun h => if_neg (h ∘ hgone.mp)⟩
  case short =>
    intro short m t u
    exact ⟨fun h hu => (if_pos h).trans (congrArg Host.Outcome.next (if_pos hu)),
      fun h hu => (if_pos h).trans (congrArg Host.Outcome.next (if_neg (ne_true_of_eq_false hu))), fun h => if_neg h⟩
  case button =>
    intro live f t
    refine ⟨fun h hf => ?_, fun h hf => ?_, fun h => if_neg h, fun h hp => ?pressed, fun h => if_neg fun hb => ?idle⟩
    · exact (if_pos h).trans (if_pos ((buttonOf_isSome _).mpr hf))
    · exact (if_pos h).trans (if_neg fun hb => absurd ((buttonOf_isSome _).mp hb) (Nat.not_lt.mpr hf))
    case idle => exact h.elim (fun h => h ⟨hb.1, hb.2.1, hb.2.2.1⟩) fun h => ne_true_of_eq_false h hb.2.2.2
    case pressed =>
      have on : hsPowered s ∧ hsSt s n = 4 ∧ s.getF (hsBase n) F.HS_JACK_CLASS = 2 ∧ plugged s n := ⟨h.1, h.2.1, h.2.2, hp⟩
      refine ⟨fun k hk hh => (if_pos on).trans ?_, fun k hk hh => (if_pos on).trans ?_, fun hf => (if_pos on).trans ?_⟩
      · rw [hk]; exact if_neg hh
      · rw [hk]; exact if_pos hh
      · have hk : buttonOf f.toNat = none := by
          rw [← Option.not_isSome_iff_eq_none, buttonOf_isSome]; omega
        rw [hk]

end Sys2Proof.Machine
end

section
/-! PROOFS. Microphones and the Scout (R205-R229). -/

namespace Sys2Proof.Machine

/-! ### Microphones -/

/-- Settles O30. -/
theorem microphonesAreGuardedAndSwitched : Obligations.MicrophonesAreGuardedAndSwitched := by
  unfold Obligations.MicrophonesAreGuardedAndSwitched
  intro s
  refine ⟨fun i => ?guard, fun g => ⟨fun h => if_pos h, fun h => if_neg (ne_true_of_eq_false h)⟩,
    fun r v h => next_hostWrite_done h rfl, ?deferred, fun h => congrArg Host.Outcome.next (if_pos h),
    fun h => congrArg Host.Outcome.next (if_neg h), ?settled⟩
  case guard =>
    have still {k l : Nat} (hkl : k ≠ 0 ∧ l ≠ 0) {m : Nat} (hm : m ≠ k ∧ m ≠ l) (h : micChecked s i = false ∨ micSt s i = 0 ∨ micSt s i = m) :
        ¬((micSt s i = k ∨ micSt s i = l) ∧ micChecked s i = true) := by
      rintro ⟨hst, hc⟩
      rcases h with h | h | h
      · exact ne_true_of_eq_false h hc
      · omega
      · omega
    exact ⟨fun hc h => if_pos ⟨h, hc⟩, fun h => if_neg (still (by decide) (by decide) h), fun hc h => if_pos ⟨h, hc⟩,
      fun h => if_neg (still (by decide) (by decide) h), fun h => if_pos h, fun h => if_neg (Nat.not_le.mpr h)⟩
  case deferred =>
    intro t voice
    refine ⟨fun h hv => congrArg Host.Outcome.next ?quiet, fun h hv hd => congrArg Host.Outcome.next ?forced,
      fun h => congrArg Host.Outcome.next (if_neg fun hb => ?waits)⟩
    case quiet =>
      have go : pdmDefer s = pdmProceed s voice := if_pos ⟨h, .inl (bnot_true hv)⟩
      rw [go, hv]
      rfl
    case forced =>
      have go : pdmDefer s = pdmProceed s voice := if_pos ⟨h, .inr hd⟩
      rw [go, hv]
      rfl
    case waits =>
      rcases h with h | ⟨hv, hd⟩
      · exact h hb.1
      · exact hb.2.elim (not_bnot hv) (Nat.not_le.mpr hd)
  case settled =>
    intro t u
    refine ⟨fun h hn => (if_pos h).trans ?_, fun full h hn => (if_pos h).trans ?_, fun h => if_neg h⟩
    · show (match s.pdm.next with | some f => Host.Outcome.next (pdmRequest u f) | none => .next u) = _
      rw [hn]
    · show (match s.pdm.next with | some f => Host.Outcome.next (pdmRequest u f) | none => .next u) = _
      rw [hn]

/-! ### Models -/

/-- R223, R224: a load of a model begins in a slot that it may use. -/
theorem modelBeginBody_slot {q : PlReq} {t : State} {j : Nat} (hl : ¬(q.payload.length ≠ 8 ∨ field q.payload 2 2 ≠ 0 ∨
      (4 ≤ field q.payload 1 1 ∧ field q.payload 1 1 ≠ 0xFF) ∨ field q.payload 4 4 < 64 ∨ 131072 < field q.payload 4 4 ∨
      131072 < (((List.range 4).filter fun i => beginSlot t (field q.payload 1 1) != some i).map fun i =>
        slotBytes (t.slot i)).foldl (· + ·) 0 + field q.payload 4 4)) (hj : beginSlot t (field q.payload 1 1) = some j) :
    modelBeginBody q t = if slotSt t j = 3 then nak t P.sct .state
      else if (List.range 4).any (fun i => i != j && slotSt t i == 1) then nak t P.sct .busy
      else ok (modelUsed ((t.onSlot j fun x => { x with load := some (List.replicate (field q.payload 4 4) none) }).setF (slotBase j)
        F.SCT_SLOT_CFG_STATE 1)) [BitVec.ofNat 8 j, 0, 0, 0] := by
  refine (if_neg hl).trans ?_
  rw [hj]

/-- R224: the end of a load, once its slot and layout are in order. -/
theorem modelEndBody_load {q : PlReq} {t : State} {l : List (Option Byte)} (hl : ¬(q.payload.length ≠ 4 ∨ field q.payload 2 2 ≠ 0 ∨
      4 ≤ field q.payload 1 1)) (hs : (t.slot (field q.payload 1 1)).load = some l) :
    let k := field q.payload 1 1
    let c := if l.any (·.isNone) then .check else modelCheck (l.filterMap id)
    modelEndBody q t = if c = .done then ok ((slotTake t k (l.filterMap id)).raise P.sct 7) [] else nak (slotEmpty t k) P.sct c := by
  refine (if_neg hl).trans ?_
  rw [hs]

/-- R224: a piece of a load, once its slot and layout are in order. -/
theorem modelDataBody_load {q : PlReq} {t : State} {l : List (Option Byte)} (hl : ¬(q.payload.length < 9 ∨
      236 < (q.payload.drop 8).length ∨ field q.payload 2 2 ≠ 0 ∨ 4 ≤ field q.payload 1 1))
    (hs : (t.slot (field q.payload 1 1)).load = some l) :
    modelDataBody q t = if l.length < field q.payload 4 4 + (q.payload.drop 8).length then nak t P.sct .range
      else ok (t.onSlot (field q.payload 1 1) fun x => { x with load := some (putImage l (field q.payload 4 4) (q.payload.drop 8)) })
        [] := by
  refine (if_neg hl).trans ?_
  rw [hs]

/-- R224: a slot without a load takes no piece and no end. -/
theorem modelBodies_none {q : PlReq} {t : State} (hs : (t.slot (field q.payload 1 1)).load = none) :
    (¬(q.payload.length < 9 ∨ 236 < (q.payload.drop 8).length ∨ field q.payload 2 2 ≠ 0 ∨ 4 ≤ field q.payload 1 1) →
      modelDataBody q t = nak t P.sct .state) ∧
    (¬(q.payload.length ≠ 4 ∨ field q.payload 2 2 ≠ 0 ∨ 4 ≤ field q.payload 1 1) → modelEndBody q t = nak t P.sct .state) := by
  refine ⟨fun hl => (if_neg hl).trans ?_, fun hl => (if_neg hl).trans ?_⟩
  · rw [hs]
  · rw [hs]

/-- R226: the control of the Scout with two of START, STOP and CLOSE. -/
theorem sctCtrlWrite_many {w : Word} {u : State}
    (h : (bit w 0 = true ∧ bit w 1 = true) ∨ (bit w 0 = true ∧ bit w 2 = true) ∨ (bit w 1 = true ∧ bit w 2 = true)) :
    sctCtrlWrite w u = (.range, u) := if_pos (by simpa [or_assoc] using h)

/-- R226: the control of the Scout with one of START, STOP and CLOSE. -/
theorem sctCtrlWrite_one {w : Word} {u : State} (h : ¬((bit w 0 && bit w 1) || (bit w 0 && bit w 2) || (bit w 1 && bit w 2)) = true) :
    sctCtrlWrite w u = if bit w 0 then
        (if u.st P.sct = 2 ∧ scoutMics u ≠ [] ∧ u.en P.sct then (.done, (ringClear (sctFresh u)).setSt P.sct 3) else (.state, u))
      else if bit w 1 then (if u.st P.sct = 3 ∨ u.st P.sct = 4 then (.done, sctHalt u) else (.state, u))
      else if bit w 2 then (if u.st P.sct = 4 then (.done, sealClose u 3) else (.state, u))
      else (.done, u) := if_neg h

/-- R229: the read of the ring of a layout and of fields in range. -/
theorem ringReadBody_inRange {q : PlReq} {t : State} (hl : ¬(q.payload.length ≠ 12 ∨ field q.payload 1 3 ≠ 0 ∨
      field q.payload 10 2 ≠ 0 ∨ field q.payload 8 2 < 1 ∨ 120 < field q.payload 8 2 ∨ (scoutMics t).length ≤ field q.payload 0 1)) :
    let off := field q.payload 4 4
    let n := field q.payload 8 2
    (t.st P.sct = 4 → t.getF P.sct F.SCT_OPEN_LEN_VALUE < off + n → ringReadBody q t = nak t P.sct .range) ∧
    (t.st P.sct = 4 → off + n ≤ t.getF P.sct F.SCT_OPEN_LEN_VALUE → ringReadBody q t = ok t ((List.range n).flatMap fun i =>
      let a := 0xFC0000 + field q.payload 0 1 * (2 * ringLen t) + 2 * ((t.getF P.sct F.SCT_OPEN_BEGIN_VALUE + off + i) % ringLen t)
      [byteAt t.mem a, byteAt t.mem (a + 1)])) ∧
    (t.st P.sct ≠ 4 → ringReadBody q t = nak ((t.bump P.sct F.SCT_SEALED_CNT_COUNT).err P.sct) P.sct .sealed) := by
  intro off n
  have last (hb : q.payload.length ≠ 12 ∨ field q.payload 1 3 ≠ 0 ∨ field q.payload 10 2 ≠ 0 ∨ n < 1 ∨ 120 < n ∨
      (scoutMics t).length ≤ field q.payload 0 1 ∨ ((!decide (t.st P.sct ≠ 4)) = true ∧
        t.getF P.sct F.SCT_OPEN_LEN_VALUE < off + n)) : t.st P.sct = 4 ∧ t.getF P.sct F.SCT_OPEN_LEN_VALUE < off + n := by
    have h : (!decide (t.st P.sct ≠ 4)) = true ∧ t.getF P.sct F.SCT_OPEN_LEN_VALUE < off + n := by tauto
    simpa using h
  refine ⟨fun h4 hn => if_pos ?_, fun h4 hn => (if_neg fun hb => ?_).trans (if_neg (not_not.mpr h4)),
    fun h4 => (if_neg fun hb => ?_).trans (if_pos h4)⟩
  · simp only [h4, not_true_eq_false, decide_false, Bool.not_false, true_and, ne_eq]
    tauto
  · exact absurd (last hb).2 (Nat.not_lt.mpr hn)
  · exact h4 (last hb).1

/-- Settles O31. -/
theorem scoutCommandsAct : Obligations.ScoutCommandsAct := by
  unfold Obligations.ScoutCommandsAct
  intro s q t p k
  refine ⟨fun h hp => ?begins, fun h hp h2 hk => ?pieces, fun h hp => ?layouts, fun j => ⟨fun h => if_pos h, fun h => if_neg (not_not.mpr h)⟩,
    fun j r v => ?slots, fun r v => ?ctrl, fun r v => ?mics, ?ring, fun h hp hl => ?ringLayout⟩
  case begins =>
    intro size slot others bad
    have hbad : (p.length ≠ 8 ∨ field p 2 2 ≠ 0 ∨ (4 ≤ k ∧ k ≠ 0xFF) ∨ size < 64 ∨ 131072 < size ∨ 131072 < others + size) ↔ bad := by
      simp only [bad]; omega
    refine ⟨fun hb => next_plosto_refused h hp (if_pos (hbad.mpr hb)) nofun, fun hb hs => ?full, fun j hb hj => ?slot⟩
    case full =>
      refine next_plosto_refused h hp ((if_neg (hb ∘ hbad.mp)).trans ?_) nofun
      rw [show beginSlot (s.wakeFor P.sct) (field q.payload 1 1) = none from hs]
      rfl
    case slot =>
      have act := modelBeginBody_slot (hb ∘ hbad.mp) hj
      have hany : (List.range 4).any (fun i => i != j && slotSt t i == 1) = true ↔ ∃ i < 4, i ≠ j ∧ slotSt t i = 1 := by
        simp only [List.any_eq_true, List.mem_range, Bool.and_eq_true, bne_iff_ne, beq_iff_eq]
      refine ⟨fun h3 => next_plosto_refused h hp (act.trans (if_pos h3)) nofun,
        fun h3 hi => next_plosto_refused h hp (act.trans ((if_neg h3).trans (if_pos (hany.mpr hi)))) nofun,
        fun h3 hi => next_plosto_ok h hp (act.trans ((if_neg h3).trans (if_neg fun ha => ?_)))⟩
      obtain ⟨i, h4, hne, h1⟩ := hany.mp ha
      exact hi i h4 hne h1
  case pieces =>
    have data (h9 : 9 ≤ p.length) (hl : (p.drop 8).length ≤ 236) :
        ¬(p.length < 9 ∨ 236 < (p.drop 8).length ∨ field p 2 2 ≠ 0 ∨ 4 ≤ k) := by omega
    have four (h4 : p.length = 4) : ¬(p.length ≠ 4 ∨ field p 2 2 ≠ 0 ∨ 4 ≤ k) := by omega
    refine ⟨fun l h9 hd hl hf => next_plosto_ok h hp ((modelDataBody_load (data h9 hd) hl).trans (if_neg (Nat.not_lt.mpr hf))),
      fun l h9 hd hl hf => next_plosto_refused h hp ((modelDataBody_load (data h9 hd) hl).trans (if_pos hf)) nofun,
      fun h4 hl => next_plosto_refused h hp ((modelBodies_none hl).2 (four h4)) nofun,
      fun h9 hd hl => next_plosto_refused h hp ((modelBodies_none hl).1 (data h9 hd)) nofun,
      fun l h4 hl => ⟨fun hc => ?taken, fun hc => ?emptied⟩,
      fun h4 h3 => next_plosto_ok h hp ((if_neg (four h4)).trans (if_neg h3)),
      fun h4 h3 => next_plosto_refused h hp ((if_neg (four h4)).trans (if_pos h3)) nofun⟩
    case taken => exact next_plosto_ok h hp ((modelEndBody_load (four h4) hl).trans (if_pos hc))
    case emptied => exact next_plosto_refused h hp ((modelEndBody_load (four h4) hl).trans (if_neg hc)) hc
  case layouts =>
    exact ⟨fun hl => next_plosto_refused h hp (if_pos hl) nofun, 
      fun hl => ⟨next_plosto_refused h hp (if_pos hl) nofun, next_plosto_refused h hp (if_pos hl) nofun⟩⟩
  case slots =>
    intro a w u macs short was h
    have hw : bit w 31 = true := bit_setField_same (by decide) v 1
    have act : slotCfgWrite j w u = if getField w 7 0 = 0 then (.range, u)
        else if bit w 31 ∧ !was ∧ slotSt u j = 2 ∧ short then (.range, u)
        else if bit w 31 ∧ !was ∧ slotSt u j ≠ 2 then (.state, u)
        else if bit w 31 ∧ !was then
          (.done, ((u.store a w).onSlot j fun x => { x with scores := [], holdoff := 0 }).setF (slotBase j) F.SCT_SLOT_CFG_STATE 3)
        else if !bit w 31 ∧ was then (.done, (u.store a w).setF (slotBase j) F.SCT_SLOT_CFG_STATE 2)
        else (.done, u.store a w) := rfl
    simp only [hw, true_and, Bool.not_eq_true', Bool.true_eq_false, false_and, if_false] at act
    refine ⟨fun hr => next_hostWrite_refused h (act.trans ?_) nofun, fun hr hn h2 => next_hostWrite_refused h (act.trans ?_) nofun,
      fun hr hn h2 hs => next_hostWrite_done h (act.trans ?_), fun hr ho => next_hostWrite_done h (act.trans ?_)⟩
    · rcases hr with hr | hr
      · exact if_pos hr
      · exact ite_eq_left_iff.mpr fun _ => if_pos hr
    · rw [if_neg hr, if_neg fun hb => h2 hb.2.1, if_pos ⟨hn, h2⟩]
    · rw [if_neg hr, if_neg fun hb => hs hb.2.2, if_neg fun hb => hb.2 h2, if_pos hn]
    · have hn := ne_false_of_eq_true ho
      rw [if_neg hr, if_neg fun hb => hn hb.1, if_neg fun hb => hn hb.1, if_neg hn]
  case ctrl =>
    intro a u refused
    refine ⟨?starts, ?stops, ?closes⟩
    case starts =>
      intro w can h
      have hw : bit w 0 = true := bit_setField_same (by decide) v 1
      have one (h1 : bit w 1 = false) (h2 : bit w 2 = false) := sctCtrlWrite_one (w := w) (u := u) (by simp [h1, h2])
      exact ⟨fun hb => next_hostWrite_refused h (sctCtrlWrite_many (hb.elim (fun h1 => .inl ⟨hw, h1⟩) fun h2 => .inr (.inl ⟨hw, h2⟩))) nofun,
        fun h1 h2 hc => next_hostWrite_done h ((one h1 h2).trans ((if_pos hw).trans (if_pos hc))),
        fun h1 h2 hc => next_hostWrite_refused h ((one h1 h2).trans ((if_pos hw).trans (if_neg hc))) nofun⟩
    case stops =>
      intro w h
      have hw : bit w 1 = true := bit_setField_same (by decide) v 1
      refine ⟨fun hb => next_hostWrite_refused h (sctCtrlWrite_many (hb.elim (fun h0 => .inl ⟨h0, hw⟩) fun h2 => .inr (.inr ⟨hw, h2⟩))) nofun,
        fun h0 h2 => ?_⟩
      have one := ((sctCtrlWrite_one (w := w) (u := u) (by simp [h0, h2])).trans (if_neg (ne_true_of_eq_false h0))).trans (if_pos hw)
      refine ⟨fun h3 => next_hostWrite_done h (one.trans ((if_pos (.inl h3)).trans ?_)),
        fun h4 => next_hostWrite_done h (one.trans ((if_pos (.inr h4)).trans ?_)),
        fun h3 h4 => next_hostWrite_refused h (one.trans (if_neg (not_or.mpr ⟨h3, h4⟩))) nofun⟩
      · rw [sctHalt, if_neg (by rw [h3]; decide)]
      · rw [sctHalt, if_pos h4]
    case closes =>
      intro w h
      have hw : bit w 2 = true := bit_setField_same (by decide) v 1
      refine ⟨fun hb => next_hostWrite_refused h (sctCtrlWrite_many (hb.elim (fun h0 => .inr (.inl ⟨h0, hw⟩)) fun h1 => .inr (.inr ⟨h1, hw⟩))) nofun,
        fun h0 h1 => ?_⟩
      have one := (((sctCtrlWrite_one (w := w) (u := u) (by simp [h0, h1])).trans (if_neg (ne_true_of_eq_false h0))).trans
        (if_neg (ne_true_of_eq_false h1))).trans (if_pos hw)
      exact ⟨fun h4 => next_hostWrite_done h (one.trans (if_pos h4)), fun h4 => next_hostWrite_refused h (one.trans (if_neg h4)) nofun⟩
  case mics => 
    intro a u x h
    exact ⟨fun hm h4 => next_hostWrite_done h ((if_neg (not_bnot hm)).trans (if_neg h4)),
      fun hm h4 => next_hostWrite_refused h ((if_neg (not_bnot hm)).trans (if_pos h4)) nofun,
      fun hm => next_hostWrite_refused h (if_pos (bnot_true hm)) nofun⟩
  case ring =>
    intro m off n l h hp h12 h1 h10 hn hn' hm
    have hl : ¬(p.length ≠ 12 ∨ field p 1 3 ≠ 0 ∨ field p 10 2 ≠ 0 ∨ n < 1 ∨ 120 < n ∨ (scoutMics t).length ≤ m) := by omega
    obtain ⟨hrange, hdone, hsealed⟩ := ringReadBody_inRange hl
    exact ⟨fun h4 hf => next_plosto_ok h hp (hdone h4 hf), fun h4 => next_plosto_refused h hp (hsealed h4) nofun,
      fun h4 hf => next_plosto_refused h hp (hrange h4 hf) nofun⟩
  case ringLayout =>
    refine next_plosto_refused h hp (if_pos ?_) nofun
    simp only [p, t] at hl
    tauto

end Sys2Proof.Machine
end

section
/-! PROOFS. What the Scout hears (R212, R215-R220). -/

namespace Sys2Proof.Machine

/-- R216: running the models over the frames before the onset changes no register. -/
theorem primeSlots_isSet (s : State) (base : Nat) (f : Fld) : (scoutFrame.primeSlots s).isSet base f = s.isSet base f := by
  unfold scoutFrame.primeSlots
  refine forEach_keeps (fun s => s.isSet base f) (fun k s => ?_) _ s
  split
  · rfl
  · rfl

/-- R215: the voice bit shows when voice begins. -/
theorem voiceBegins_isSet {u : State} (h : regsWf u.regs) (run : List (List Int)) :
    (((u.setF P.sct F.SCT_STAT_VAD 1).raise P.sct 5).onSct fun x => { x with run := run }).isSet P.sct F.SCT_STAT_VAD = true := by
  have hset : (u.setF P.sct F.SCT_STAT_VAD 1).isSet P.sct F.SCT_STAT_VAD = true := State.isSet_setF_same h _ (by decide) 1
  have hraise : ((u.setF P.sct F.SCT_STAT_VAD 1).raise P.sct 5).getF P.sct F.SCT_STAT_VAD =
      (u.setF P.sct F.SCT_STAT_VAD 1).getF P.sct F.SCT_STAT_VAD := State.getF_raise_ne (by decide) ..
  simp only [State.isSet, State.onSct_getF] at hset ⊢
  rw [hraise, hset]

/-- Settles O32. -/
theorem scoutHearsVoiceAndKnocks : Obligations.ScoutHearsVoiceAndKnocks := by
  unfold Obligations.ScoutHearsVoiceAndKnocks
  intro s
  refine ⟨fun h hf => congrArg Host.Outcome.next (if_pos ⟨h, hf⟩), fun h => congrArg Host.Outcome.next (if_neg fun hb => ?quiet), ?frame,
    fun h hh => if_pos ⟨h, hh⟩, fun h => if_neg fun hb => ?voice, fun n v => ?sample, fun n => ?rearm⟩
  case quiet => exact h.elim (fun h => ne_true_of_eq_false h hb.1) fun h => absurd hb.2 (Nat.not_le.mpr h)
  case voice => exact h.elim (fun h => ne_true_of_eq_false h hb.1) fun h => absurd hb.2 (Nat.not_le.mpr h)
  case frame =>
    intro samples w gap lv voiced f u on judged
    have act {y : State} (hy : (if (!u.isSet P.sct F.SCT_STAT_VAD && decide (u.getF P.sct F.SCT_VAD_MIN ≤ u.sct.voiced)) = true then
          scoutFrame.primeSlots on else u) = y) :
        scoutFrame s = if gap then y else if y.isSet P.sct F.SCT_STAT_VAD then judged y
          else y.onSct fun x => { x with slots := x.slots.map fun z => { z with holdoff := z.holdoff - 1 } } := by
      subst hy
      rfl
    refine ⟨fun hv => ⟨fun hg => ?_, fun hg => ?_⟩, fun hv hm => ⟨fun hg => ?_, fun hg => ?_⟩, fun hv hm => ⟨fun hg => ?_, fun hg hwf => ?_⟩⟩
    · exact (act (y := u) (if_neg (by simp [hv]))).trans (if_pos hg)
    · exact (act (y := u) (if_neg (by simp [hv]))).trans ((if_neg (ne_true_of_eq_false hg)).trans (if_pos hv))
    · exact (act (y := u) (if_neg (by simp [hm]))).trans (if_pos hg)
    · exact (act (y := u) (if_neg (by simp [hm]))).trans ((if_neg (ne_true_of_eq_false hg)).trans (if_neg (ne_true_of_eq_false hv)))
    · exact (act (y := scoutFrame.primeSlots on) (if_pos (by simp [hv, hm]))).trans (if_pos hg)
    · have hon : (scoutFrame.primeSlots on).isSet P.sct F.SCT_STAT_VAD = true := by
        have hu : regsWf u.regs := (congrArg regsWf (State.onSct_regs s _)).mpr hwf
        rw [primeSlots_isSet]
        exact voiceBegins_isSet hu _
      exact (act (y := scoutFrame.primeSlots on) (if_pos (by simp [hv, hm]))).trans ((if_neg (ne_true_of_eq_false hg)).trans (if_pos hon))
  case sample =>
    intro u x b l t lvl floor put
    refine ⟨fun h hn => ?_, fun h => if_neg fun hb => ?_⟩
    · have act {blows knocks : Bool} (hb : (x.armed && decide (-(blowAt t) ≤ lvl)) = blows)
          (hk : (x.armed && !blows && decide (floor + knockAt t ≤ lvl)) = knocks) : exec (.bzSample n v) s =
            .next (if blows then blow (put (x.armed && !blows && !knocks) (if blows || knocks then 0 else x.age + 1)) n lvl
              else if knocks then knock (put (x.armed && !blows && !knocks) (if blows || knocks then 0 else x.age + 1)) n lvl
              else put (x.armed && !blows && !knocks) (if blows || knocks then 0 else x.age + 1)) := by
        subst hb hk
        exact (if_pos ⟨h, hn⟩).trans rfl
      by_cases hblow : x.armed ∧ -(blowAt t) ≤ lvl
      · rw [act (blows := true) (knocks := false) (by simp [hblow]) (by simp), if_pos hblow]
        simp
      · have hb : (x.armed && decide (-(blowAt t) ≤ lvl)) = false := by simpa using hblow
        by_cases hknock : x.armed ∧ floor + knockAt t ≤ lvl
        · rw [act (knocks := true) hb (by simp [hknock]), if_neg hblow, if_pos hknock]
          simp
        · have hk : (x.armed && !false && decide (floor + knockAt t ≤ lvl)) = false := by simpa using hknock
          rw [act hb hk, if_neg hblow, if_neg hknock]
          simp
    · exact h.elim (fun h => ne_true_of_eq_false h hb.1) fun h => ne_true_of_eq_false h hb.2
  case rearm =>
    intro x again
    have hagain : (((!x.armed) = true) ∧ x.lvl < x.floor + knockAt s - 6 * 2 ^ 64 ∧ 160 * s.getF P.sct F.SCT_BZ_THR_DEAD ≤ x.age) ↔ again := by
      simp only [again, Bool.not_eq_true']
    exact ⟨fun h => congrArg Host.Outcome.next (if_pos (hagain.mpr h)), fun h => congrArg Host.Outcome.next (if_neg (h ∘ hagain.mp))⟩

end Sys2Proof.Machine
end

section
/-! PROOFS. TDM ports and the converter pool (R138-R162). -/

namespace Sys2Proof.Machine

/-- R153, R154: the control word of a port with one of START and STOP. -/
theorem tdmCtrlWrite_one (n : Nat) (w : Word) (t : State) :
    (bit w 0 = true → bit w 1 = true → tdmCtrlWrite n w t = (.range, t)) ∧
    (bit w 0 = true → bit w 1 = false → tdmCtrlWrite n w t = tdmStart n t) ∧
    (bit w 0 = false → bit w 1 = true → tdmCtrlWrite n w t = tdmStop n t) := by
  refine ⟨fun h0 h1 => ?_, fun h0 h1 => ?_, fun h0 h1 => ?_⟩ <;> simp only [tdmCtrlWrite, h0, h1] <;> rfl

/-- R155-R157: a misplaced frame by the count of those in succession. -/
theorem tdmBad_eq (s : State) (n b : Nat) (gone : Bool) :
    let k := (s.tdm n).bad + 1
    let t := (((s.bump (P.tdm n) F.TDM_FS_CNT_COUNT).err (P.tdm n)).setF (P.tdm n) F.TDM_STAT_BCLKS (min 0x3FF b)).onTdm n fun h =>
      { h with bad := k, gone := h.gone || gone }
    tdmBad s n b gone = if k = 1 then t.raise (P.tdm n) 3 else if k = 2 then t else tdmLose t n 2 := by
  intro k t
  have act {y : State} (hy : (if k = 1 then t.raise (P.tdm n) 3 else t) = y) : tdmBad s n b gone = if 3 ≤ k then tdmLose y n 2 else y :=
    hy ▸ rfl
  by_cases h1 : k = 1
  · rw [act (if_pos h1), if_pos h1, if_neg (by omega)]
  · have h0 : 1 ≤ k := Nat.le_add_left 1 _
    rw [act (if_neg h1), if_neg h1]
    by_cases h2 : k = 2
    · rw [if_pos h2, if_neg (by omega)]
    · rw [if_neg h2, if_pos (by omega)]

/-- Settles O25. -/
theorem tdmPortsFollowTheirClocks : Obligations.TdmPortsFollowTheirClocks := by
  unfold Obligations.TdmPortsFollowTheirClocks
  intro s n p len
  have hmode : ((!s.isSet p F.TDM_CFG_MODE) = true) ↔ s.isSet p F.TDM_CFG_MODE = false := by simp
  refine ⟨fun r v => ?start, ?launch, fun r v => ?stop, ?good, fun why => ?lost, fun h => ?notLost, fun h e => ?noFrame,
    fun b gone h3 h5 hm => ?misplaced, fun h hm => if_pos ⟨h, hm⟩, fun h => if_neg fun hb => ?driven, fun ratio => ?locks, fun q => ?query⟩
  case start =>
    intro a w t u need h
    have hw : bit w 0 = true := bit_setField_same (by decide) v 1
    obtain ⟨both, start, -⟩ := tdmCtrlWrite_one n w t
    have act (h1 : bit w 1 = false) : tdmCtrlWrite n w t = if (!t.en p) = true ∨ t.st p ≠ 2 then (.state, t)
        else if need = 0 then (.done, tdmLaunch u n)
        else if (!t.en P.asrc) = true then (.state, t)
        else if (freeChans t).length < need then
          (.state, (((t.setF p F.TDM_STAT_REASON 1).bump P.asrc F.ASRC_NOASRC_CNT_COUNT).raise P.asrc 0).err P.asrc)
        else (.done, tdmLaunch ((asrcTake u n).setF p F.TDM_STAT_ASRC 1) n) := start hw h1
    refine ⟨fun h1 => next_hostWrite_refused h (both hw h1) nofun, fun h1 hs => next_hostWrite_refused h ((act h1).trans ?state) nofun,
      fun h1 he h2 => ?go⟩
    case state =>
      by_cases hg : (!t.en p) = true ∨ t.st p ≠ 2
      · exact if_pos hg
      · rcases hs with hs | hs | ⟨hn, ha⟩
        · exact absurd (.inl (bnot_true hs)) hg
        · exact absurd (.inr hs) hg
        · exact (if_neg hg).trans ((if_neg hn).trans (if_pos (bnot_true ha)))
    case go =>
      have act := (act h1).trans (if_neg (by simp [he, h2]))
      exact ⟨fun hn => next_hostWrite_done h (act.trans (if_pos hn)),
        fun hn ha hf => next_hostWrite_done h (act.trans ((if_neg hn).trans ((if_neg (not_bnot ha)).trans (if_neg (Nat.not_lt.mpr hf))))),
        fun hn ha hf => next_hostWrite_refused h (act.trans ((if_neg hn).trans ((if_neg (not_bnot ha)).trans (if_pos hf)))) nofun⟩
  case launch =>
    intro t
    exact ⟨fun h => if_neg (ne_true_of_eq_false h), fun h => if_pos h⟩
  case stop =>
    intro a w t u h
    have hw : bit w 1 = true := bit_setField_same (by decide) v 1
    obtain ⟨both, -, stop⟩ := tdmCtrlWrite_one n w t
    exact ⟨fun h0 => next_hostWrite_refused h (both h0 hw) nofun, 
      fun h0 h2 => next_hostWrite_done h ((stop h0 hw).trans (if_neg (Nat.not_le.mpr h2))), 
      fun h0 h2 => next_hostWrite_refused h ((stop h0 hw).trans (if_pos h2)) nofun⟩
  case good =>
    intro t
    exact ⟨fun h => if_pos h, fun h => if_neg h, fun h => if_pos h, fun h => if_neg h,
      fun h3 h5 hm => (if_pos ⟨h3, h5, hmode.mpr hm⟩).trans (congrArg Host.Outcome.next (if_pos rfl))⟩
  case lost =>
    intro t u h hm
    have lose : tdmLose s n why = u := if_pos ⟨h, hmode.mpr hm⟩
    have h35 : 3 ≤ s.st p ∧ s.st p ≤ 5 := by omega
    refine ⟨fun hw => congrArg Host.Outcome.next ?_, fun hw => (if_pos ⟨h35.1, h35.2, hmode.mpr hm⟩).trans (congrArg Host.Outcome.next ?_)⟩
    · rw [← lose, hw]
    · rw [← lose, hw]
  case notLost =>
    have keep (why : Nat) : tdmLose s n why = s := if_neg fun hb => h.elim (· hb.1) fun h => not_bnot h hb.2
    have sync : exec (.frameSyncError n .rate) s = if 3 ≤ s.st p ∧ s.st p ≤ 5 ∧ (!s.isSet p F.TDM_CFG_MODE) = true then
        .next (tdmLose s n 3) else .next s := rfl
    exact ⟨congrArg Host.Outcome.next (keep 2), by rw [sync, keep 3, ite_self]⟩
  case noFrame =>
    refine if_neg fun hb => ?_
    rcases h with h | h | h
    · exact absurd hb.1 (Nat.not_le.mpr h)
    · exact absurd hb.2.1 (Nat.not_le.mpr h)
    · exact not_bnot h hb.2.2
  case misplaced =>
    intro k t u
    have bad : tdmBad s n b gone = u := tdmBad_eq s n b gone
    refine ⟨fun hb hg => (if_pos ⟨h3, h5, hmode.mpr hm⟩).trans (congrArg Host.Outcome.next ?_), 
       fun hb hg => (if_pos ⟨h3, h5, hmode.mpr hm⟩).trans (congrArg Host.Outcome.next ?_)⟩
    · exact (if_neg hb).trans (by rw [← bad, hg])
    · rw [← bad, hb, hg]
  case driven => exact h.elim (· hb.1) fun h => ne_true_of_eq_false h hb.2
  case locks =>
    intro t
    exact ⟨fun h hl => (if_pos h).trans (congrArg Host.Outcome.next (if_neg (ne_true_of_eq_false hl))),
      fun h hl => (if_pos h).trans (congrArg Host.Outcome.next (if_pos hl)), fun h => if_neg h⟩
  case query =>
    intro t g h hp
    refine ⟨fun hl => next_plosto_refused h hp (if_pos hl) nofun, fun hl => ⟨fun h0 h1 => ?all, fun h0 hg h2 => ?group, fun hb => ?range⟩⟩
    case all => exact next_plosto_ok h hp ((if_neg (not_not.mpr hl)).trans (if_pos ⟨h0, h1⟩))
    case group => exact next_plosto_ok h hp ((if_neg (not_not.mpr hl)).trans ((if_neg fun hb => by omega).trans (if_pos ⟨h0, hg, h2⟩)))
    case range =>
      exact next_plosto_refused h hp ((if_neg (not_not.mpr hl)).trans ((if_neg fun hb => by omega).trans
        (if_neg fun hb => by omega))) nofun

end Sys2Proof.Machine
end

section
/-! PROOFS. Links, PHYs and their timers (R166-R172). -/

namespace Sys2Proof.Machine

/-- R166: the control word of a link with UP, DOWN or both. -/
theorem ethCtrlWrite_one (n : Nat) (w : Word) (t : State) :
    (bit w 0 = true → bit w 1 = true → ethCtrlWrite n w t = (.range, t)) ∧
    (bit w 0 = true → bit w 1 = false → ethCtrlWrite n w t = if t.en (P.eth n) ∧ t.st (P.eth n) = 2 then
      (.done, (t.setSt (P.eth n) 3).setF (P.eth n) F.ETH_LINK_REASON 1) else (.state, t)) ∧
    (bit w 0 = false → bit w 1 = true → ethCtrlWrite n w t = if t.st (P.eth n) ≤ 2 then (.state, t) else (.done, linkStop t n)) :=
  ⟨fun h0 h1 => if_pos ⟨h0, h1⟩, fun h0 h1 => (if_neg fun h => ne_true_of_eq_false h1 h.2).trans (if_pos h0),
    fun h0 h1 => (if_neg fun h => ne_true_of_eq_false h0 h.1).trans ((if_neg (ne_true_of_eq_false h0)).trans (if_pos h1))⟩

/-- Settles O26. -/
theorem linksComeUpAndGoDown : Obligations.LinksComeUpAndGoDown := by
  unfold Obligations.LinksComeUpAndGoDown
  intro s n b
  have off {p q : Bool} (h : p = false ∨ q = false) : ¬(p = true ∧ q = true) := fun hb =>
    h.elim (fun h => ne_true_of_eq_false h hb.1) fun h => ne_true_of_eq_false h hb.2
  refine ⟨fun r v => ?up, fun r v => ?down, fun h x => if_neg fun hb => ?asleep, fun hn h3 => ⟨?silent, fun x => ?answer⟩,
    fun h hl => if_pos ⟨h, hl⟩, fun h => if_neg (off h), fun r v => ?mdioGo, fun h x => if_neg (ne_true_of_eq_false h),
    fun h => ⟨(if_pos h).trans rfl, fun d => (if_pos h).trans rfl⟩, fun ip => rfl, fun hl hn => if_pos ⟨hl, hn⟩, fun h => if_neg (off h),
    fun g => ⟨fun hn hc => if_pos ⟨hn, hc⟩, fun h => if_neg (off h)⟩⟩
  case up =>
    intro a w t h
    have hw : bit w 0 = true := bit_setField_same (by decide) v 1
    obtain ⟨both, up, -⟩ := ethCtrlWrite_one n w t
    refine ⟨fun h1 => next_hostWrite_refused h (both hw h1) nofun, fun h1 he h2 => next_hostWrite_done h ((up hw h1).trans (if_pos ⟨he, h2⟩)),
      fun h1 hs => next_hostWrite_refused h ((up hw h1).trans (if_neg fun hb => ?_)) nofun⟩
    exact hs.elim (fun hs => ne_true_of_eq_false hs hb.1) fun hs => hs hb.2
  case down =>
    intro a w t u h
    have hw : bit w 1 = true := bit_setField_same (by decide) v 1
    obtain ⟨both, -, down⟩ := ethCtrlWrite_one n w t
    exact ⟨fun h0 => next_hostWrite_refused h (both h0 hw) nofun,
      fun h0 h2 => next_hostWrite_done h ((down h0 hw).trans (if_neg (Nat.not_le.mpr h2))),
      fun h0 h2 => next_hostWrite_refused h ((down h0 hw).trans (if_pos h2)) nofun⟩
  case asleep => exact h.elim (fun h => ne_true_of_eq_false h hb.1) fun h => absurd hb.2 (Nat.not_le.mpr h)
  case silent =>
    intro t
    exact ⟨fun hk => (if_pos ⟨hn, h3⟩).trans (if_neg hk), fun hk => (if_pos ⟨hn, h3⟩).trans (if_pos hk)⟩
  case answer =>
    intro t
    have act : exec (.phyPoll n (some x)) s = if !phyLink x then .next (linkNot t n 1)
        else if phyMode x ≠ (2, true) then .next (linkNot t n 2)
        else if linkUp t n then .next (if ptpRuns t n ∧ ptpSt t n = 1 then ptpTo t n 4 else t)
        else .next (linkEnter t n) := (if_pos ⟨hn, h3⟩).trans rfl
    exact ⟨fun hl => act.trans (if_pos (bnot_true hl)), fun hl hm => act.trans ((if_neg (not_bnot hl)).trans (if_pos hm)),
      fun hl hm hu => act.trans ((if_neg (not_bnot hl)).trans ((if_neg (not_not.mpr hm)).trans (if_neg (ne_true_of_eq_false hu)))),
      fun hl hm hu => act.trans ((if_neg (not_bnot hl)).trans ((if_neg (not_not.mpr hm)).trans (if_pos hu)))⟩
  case mdioGo =>
    intro a w t h
    have hw : bit w 31 = true := bit_setField_same (by decide) v 1
    exact next_hostWrite_done h (congrArg (Prod.mk Code.done) (if_pos hw))

end Sys2Proof.Machine
end

section
/-! PROOFS. The PTP port of a link (R175-R181). -/

namespace Sys2Proof.Machine

/-- R172: a change that leaves the groups of a link joins and leaves none. -/
theorem regroup_same {n : Nat} {f : State → State} {s : State} (h : groupsOf (f s) n = groupsOf s n) : regroup n f s = f s := by
  have hnew : (groupsOf s n).filter (fun g =>
      !(groupsOf s n).contains g && !(igmpV2 (f s) n && (groupsOf s n).any fun w => w.1 == g.1)) = [] := by
    rw [List.filter_eq_nil_iff]
    intro g hg
    simp [hg]
  have hgone : (groupsOf s n).filter (fun g => !(groupsOf s n).any fun w => w.1 == g.1) = [] := by
    rw [List.filter_eq_nil_iff]
    intro g hg
    simp only [Bool.not_eq_true', Bool.not_eq_false, List.any_eq_true, beq_iff_eq]
    exact ⟨g, hg, rfl⟩
  simp only [regroup, h, hnew, hgone]
  rfl

/-- R179: a delay request. -/
theorem sendDelayReq_eq (s : State) (n at_ : Nat) : let p := (s.link n).ptp; let peer := s.getF (P.eth n) F.ETH_PTP_CFG_PROFILE = 1
    let lost := if p.req.isSome then p.lost + 1 else p.lost
    let t := onPtp s n fun x => { x with seqDly := p.seqDly + 1, lost := lost, req := some (p.seqDly, txStamp s n at_), resp := none }
    let u := if peer ∧ 9 < lost then setCapable t n false else t
    sendDelayReq s n at_ = sendFrame u n (ptpFrame u n (ptpMsg u n (if peer then 2 else 1) p.seqDly 0 127)) := by
  intro p peer lost t u
  have hpeer : (s.getF (P.eth n) F.ETH_PTP_CFG_PROFILE == 1) = true ↔ peer := beq_iff_eq
  have hu : (if (s.getF (P.eth n) F.ETH_PTP_CFG_PROFILE == 1) = true ∧ 9 < lost then setCapable t n false else t) = u :=
    if_congr (and_congr hpeer Iff.rfl) rfl rfl
  have hk : (if (s.getF (P.eth n) F.ETH_PTP_CFG_PROFILE == 1) = true then 2 else 1) = if peer then 2 else 1 := if_congr hpeer rfl rfl
  rw [← hu, ← hk]
  rfl

/-- Settles O27. -/
theorem ptpTimersAndWritesAct : Obligations.PtpTimersAndWritesAct := by
  unfold Obligations.PtpTimersAndWritesAct
  intro s n b
  refine ⟨?announce, fun h => if_neg fun hb => ?silent, fun h h5 => if_pos ⟨h, h5⟩, fun h => if_neg fun hb => ?qualified,
    fun h hg => (if_pos h).trans (congrArg Host.Outcome.next (if_pos hg)), fun h => ?sync, fun at_ => ?timer, fun r v => ?cfg, fun r v => ?bmc,
    fun f hf => regroup_same hf, fun r v => ?time⟩
  case announce =>
    intro t
    exact ⟨fun h h4 hr => (if_pos ⟨h, h4⟩).trans (congrArg Host.Outcome.next (if_pos hr)),
      fun h h4 hr => (if_pos ⟨h, h4⟩).trans (congrArg Host.Outcome.next (if_neg hr))⟩
  case silent =>
    rcases h with h | ⟨h4, h7⟩
    · exact ne_true_of_eq_false h hb.1
    · omega
  case qualified => exact h.elim (fun h => ne_true_of_eq_false h hb.1) fun h => h hb.2
  case sync =>
    by_cases h9 : ptpSt s n = 9
    · exact (if_pos h9).trans (congrArg Host.Outcome.next (if_neg (ne_true_of_eq_false (h.resolve_left (not_not.mpr h9)))))
    · exact if_neg h9
  case timer =>
    intro p peer stamp log m
    have asleep (h : ptpRuns s n = false) (k : Fin 3) : exec (.ptpTimer n k at_) s = .next s := if_pos (bnot_true h)
    have act0 (h : ptpRuns s n = true) : exec (.ptpTimer n 0 at_) s = .next (if ptpSt s n = 6 then sendSync s n at_ else s) :=
      (if_neg (not_bnot h)).trans (if_pos rfl)
    have act1 (h : ptpRuns s n = true) : exec (.ptpTimer n 1 at_) s = .next (if ptpSt s n = 6 then sendAnnounce s n at_ else s) :=
      (if_neg (not_bnot h)).trans ((if_neg (by decide)).trans (if_pos rfl))
    have act2 (h : ptpRuns s n = true) : exec (.ptpTimer n 2 at_) s = .next (if peer ∨ ptpSt s n = 8 ∨ ptpSt s n = 9 then
        sendDelayReq s n at_ else s) := (if_neg (not_bnot h)).trans ((if_neg (by decide)).trans (if_neg (by decide)))
    refine ⟨fun h h6 => ⟨(act0 h).trans (congrArg Host.Outcome.next (if_pos h6)), (act1 h).trans (congrArg Host.Outcome.next (if_pos h6))⟩, 
      fun h hp => ?delay, fun h => ?notMaster, fun h => ?notSlave⟩
    case delay => 
      intro lost t u
      exact (act2 h).trans (congrArg Host.Outcome.next ((if_pos hp).trans (sendDelayReq_eq s n at_)))
    case notMaster =>
      cases hr : ptpRuns s n with
      | false => exact ⟨asleep hr 0, asleep hr 1⟩
      | true =>
        have h6 : ptpSt s n ≠ 6 := h.resolve_left (by simp [hr])
        exact ⟨(act0 hr).trans (congrArg Host.Outcome.next (if_neg h6)), (act1 hr).trans (congrArg Host.Outcome.next (if_neg h6))⟩
    case notSlave =>
      cases hr : ptpRuns s n with
      | false => exact asleep hr 2
      | true =>
        have hno := h.resolve_left (by simp [hr])
        exact (act2 hr).trans (congrArg Host.Outcome.next (if_neg (by tauto)))
  case cfg =>
    intro a t h
    exact ⟨fun hv => next_hostWrite_done h (if_neg fun hb => not_bnot hv hb.2),
      fun hv => next_hostWrite_refused h (if_pos ⟨rfl, bnot_true hv⟩) nofun⟩
  case bmc =>
    intro a t h
    exact next_hostWrite_done h (if_neg fun hb => absurd hb.1 (by decide))
  case time =>
    intro a t h
    refine ⟨fun hm => next_hostWrite_done h (if_pos (hm.imp id bnot_true)), fun h6 he => next_hostWrite_refused h (if_neg fun hb => ?_) nofun⟩
    exact hb.elim h6 (not_bnot he)

end Sys2Proof.Machine
end

section
/-! PROOFS. The frames a link receives and sends, past a Swarm that has nothing to do with them (R169-R189, R197, R418). -/

namespace Sys2Proof.Machine

/-- A command of another kind than the frame's, or on a link that takes none, is no input. -/
theorem rxInput_off {s : State} {n : Fin 4} {f : List Byte} {row : RxRow}
    (h : (linkUp s n = false ∨ netOn s = false) ∨ (netIn s n f).row ≠ row) (at_ : Nat) : rxInput row n at_ f s = s := by
  refine if_neg fun ⟨hl, hn, hr⟩ => ?_
  rcases h with (h | h) | h
  · exact ne_true_of_eq_false h hl
  · exact ne_true_of_eq_false h hn
  · exact h hr

section
variable {s : State} {n : Fin 4} {f : List Byte} {k : NetIn} (hq : swarmQuiet s = true) (hl : linkUp s n = true)
  (hn : netOn s = true) (hk : netIn s n f = k)
include hq hl hn hk

/-- A frame of the kind that a command brings arrives, where Swarm is quiet. -/
theorem rxInput_arrives {row : RxRow} (hr : k.row = row) (at_ : Nat) :
    rxInput row n at_ f s = if k = .fcs then fcsIn n s else if k = .filtered then s else rxTaken n at_ k (rxFrame s n) := by
  subst hk
  exact (if_pos ⟨hl, hn, hr⟩).trans ((swarmFrame_quiet hq _ _ _ _ _ _).trans (if_pos ⟨hl, hn⟩))

/-- A frame that the MAC takes is counted and taken by what it is for. -/
theorem rxInput_taken {row : RxRow} (hr : k.row = row) (hf : k ≠ .fcs) (hm : k ≠ .filtered) (at_ : Nat) :
    rxInput row n at_ f s = rxTaken n at_ k (rxFrame s n) :=
  (rxInput_arrives hq hl hn hk hr at_).trans ((if_neg hf).trans (if_neg hm))
end

/-- R174: whether a delay message is of the profile's mechanism. -/
theorem ptpDelayIn_other (x : State) (n : Nat) (m : PtpMsg) :
    (!ptpFits x n m ∨ (x.getF (P.eth n) F.ETH_PTP_CFG_PROFILE == 1) = decide (m.type = 1 ∨ m.type = 9)) ↔
      ¬(ptpFits x n m ∧ (x.getF (P.eth n) F.ETH_PTP_CFG_PROFILE = 1 ↔ ¬(m.type = 1 ∨ m.type = 9))) := by
  by_cases hp : x.getF (P.eth n) F.ETH_PTP_CFG_PROFILE = 1 <;> by_cases he : m.type = 1 ∨ m.type = 9 <;> simp [hp, he]

/-- R174, R175, R177: what a Sync or Follow_Up does. -/
theorem ptpSyncIn_cases (x : State) (n at_ : Nat) (m : PtpMsg) :
    let mine := ptpFits x n m ∧ (ptpSt x n = 8 ∨ ptpSt x n = 9) ∧ (x.link n).ptp.parent.map (·.sender) = some m.port ∧
      -7 ≤ m.log ∧ m.log ≤ 4
    let t2 := rxStamp x n at_
    (¬mine → ptpSyncIn n at_ m x = x) ∧
    (mine → m.type = 0 → m.two = false → ptpSyncIn n at_ m x = syncMeasured x n ((t2 - m.ts).toInt - m.corr)) ∧
    (mine → m.type = 0 → m.two → ptpSyncIn n at_ m x = onPtp x n fun p => { p with sync := some (m.seq, t2, m.corr) }) ∧
    (mine → m.type = 8 →
      (∀ t c, (x.link n).ptp.sync = some (m.seq, t, c) →
        ptpSyncIn n at_ m x = syncMeasured x n ((t - m.ts).toInt - c - m.corr)) ∧
      ((x.link n).ptp.sync.map (·.1) ≠ some m.seq → ptpSyncIn n at_ m x = x)) := by
  intro mine t2
  refine ⟨fun h => if_neg h, fun h h0 h2 => ?_, fun h h0 h2 => ?_, fun h h8 => ⟨fun t c hs => ?_, fun hs => ?_⟩⟩
  · exact (if_pos h).trans ((if_pos h0).trans (if_neg (ne_true_of_eq_false h2)))
  · exact (if_pos h).trans ((if_pos h0).trans (if_pos h2))
  all_goals refine (if_pos h).trans ((if_neg (by omega)).trans ?_)
  · rw [hs]
    exact if_pos rfl
  · cases hp : (x.link n).ptp.sync with
    | none => rfl
    | some y =>
      rw [hp] at hs
      exact if_neg fun h => hs (congrArg some h)

/-- R174, R179: what a delay message does. -/
theorem ptpDelayIn_cases (x : State) (n at_ : Nat) (m : PtpMsg) :
    let b := P.eth n
    let peer := x.getF b F.ETH_PTP_CFG_PROFILE = 1
    let e2e := m.type = 1 ∨ m.type = 9
    (ptpFits x n m = false → ptpDelayIn n at_ m x = x) ∧
    (ptpFits x n m → x.getF b F.ETH_PTP_CFG_PROFILE ≠ 1 → m.type = 1 → ptpSt x n = 6 → ptpDelayIn n at_ m x =
      sendFrame x n (ptpFrame x n { ptpMsg x n 9 m.seq (rxStamp x n at_) (logDly x n) with corr := m.corr, req := m.port })) ∧
    (ptpFits x n m →
      (¬(peer ↔ ¬e2e) → ptpDelayIn n at_ m x = x) ∧
      ((peer ↔ ¬e2e) →
        (m.type = 1 → ptpSt x n ≠ 6 → ptpDelayIn n at_ m x = x) ∧
        (m.type = 2 → ptpDelayIn n at_ m x = sendFrames x n
          [ptpFrame x n { ptpMsg x n 3 m.seq (rxStamp x n at_) 127 with corr := m.corr, req := m.port },
            ptpFrame x n { ptpMsg x n 10 m.seq (txStamp x n at_) 127 with req := m.port }]) ∧
        (m.type ≠ 1 → m.type ≠ 2 → ((x.link n).ptp.req = none → ptpDelayIn n at_ m x = x) ∧
          (∀ q t, (x.link n).ptp.req = some (q, t) → ptpDelayIn n at_ m x = ptpRespIn n at_ m q t x)))) := by
  intro b peer e2e
  have other := ptpDelayIn_other x n m
  have skip (h : ¬(ptpFits x n m ∧ (peer ↔ ¬e2e))) : ptpDelayIn n at_ m x = x := if_pos (other.mpr h)
  have pass (h : ptpFits x n m) (he : peer ↔ ¬e2e) := mt other.mp (not_not.mpr ⟨h, he⟩)
  refine ⟨fun h => skip fun hb => ne_true_of_eq_false h hb.1, fun h hp h1 h6 => ?_,
    fun h => ⟨fun he => skip fun hb => he hb.2, fun he => ⟨fun h1 h6 => ?_, fun h2 => ?_, fun h1 h2 => ⟨fun hr => ?_, fun q t hr => ?_⟩⟩⟩⟩
  · exact (if_neg (pass h ⟨fun hb => absurd hb hp, fun hb => absurd (Or.inl h1) hb⟩)).trans ((if_pos h1).trans (if_pos h6))
  · exact (if_neg (pass h he)).trans ((if_pos h1).trans (if_neg h6))
  · exact (if_neg (pass h he)).trans ((if_neg (by omega)).trans (if_pos h2))
  all_goals
    refine (if_neg (pass h he)).trans ((if_neg h1).trans ((if_neg h2).trans ?_))
    rw [hr]

/-- R174: what a response does. -/
theorem ptpRespIn_cases (x : State) (n : Nat) (at_ : Nat) (m : PtpMsg) (q : BitVec 16) (t : BitVec 64) :
    let p := (x.link n).ptp
    let t4 := rxStamp x n at_
    let here := ptpRespIn n at_ m q t x
    (m.req ≠ ownPort n ∨ m.seq ≠ q → here = x) ∧
    (m.req = ownPort n → m.seq = q →
      (m.type = 9 →
        (∀ ms, p.ms = some ms → (ptpSt x n = 8 ∨ ptpSt x n = 9) → p.parent.map (·.sender) = some m.port →
          here = setDelay (onPtp x n fun p => { p with req := none }) n ((ms + (m.ts - t).toInt - m.corr) / 2)) ∧
        (p.ms = none ∨ (ptpSt x n ≠ 8 ∧ ptpSt x n ≠ 9) ∨ p.parent.map (·.sender) ≠ some m.port → here = x)) ∧
      (m.type = 3 →
        (m.two → here = onPtp x n fun p => { p with resp := some (m.seq, m.ts, t4, m.corr) }) ∧
        (m.two = false → here = peerDelay x n ((t4 - t).toInt - m.corr))) ∧
      (m.type ≠ 9 → m.type ≠ 3 →
        (∀ t2 t3 c, p.resp = some (m.seq, t2, t3, c) → here = peerDelay x n ((t3 - t).toInt - (m.ts - t2).toInt - c - m.corr)) ∧
        (p.resp.map (·.1) ≠ some m.seq → here = x))) := by
  intro p t4 here
  refine ⟨fun h => if_pos h, fun hr hs => ?_⟩
  have hm : ¬(m.req ≠ ownPort n ∨ m.seq ≠ q) := fun h => h.elim (absurd hr) (absurd hs)
  refine ⟨fun h9 => ⟨fun ms hms hst hp => ?_, fun h => ?_⟩, fun h3 => ⟨fun h2 => ?_, fun h2 => ?_⟩,
    fun h9 h3 => ⟨fun t2 t3 c hp => ?_, fun hp => ?_⟩⟩
  · refine (if_neg hm).trans ((if_pos h9).trans ?_)
    rw [show (x.link n).ptp.ms = some ms from hms]
    exact if_pos ⟨hst, hp⟩
  · refine (if_neg hm).trans ((if_pos h9).trans ?_)
    cases hms : (x.link n).ptp.ms with
    | none => rfl
    | some ms =>
      refine if_neg fun ⟨hst, hp⟩ => ?_
      rcases h with h | h | h
      · exact Option.some_ne_none ms (hms.symm.trans h)
      · exact hst.elim h.1 h.2
      · exact h hp
  · exact (if_neg hm).trans ((if_neg (by omega)).trans ((if_pos h3).trans (if_pos h2)))
  · exact (if_neg hm).trans ((if_neg (by omega)).trans ((if_pos h3).trans (if_neg (ne_true_of_eq_false h2))))
  · refine (if_neg hm).trans ((if_neg h9).trans ((if_neg h3).trans ?_))
    rw [show (x.link n).ptp.resp = _ from hp]
    exact if_pos rfl
  · refine (if_neg hm).trans ((if_neg h9).trans ((if_neg h3).trans ?_))
    cases hx : (x.link n).ptp.resp with
    | none => rfl
    | some y =>
      rw [show p.resp = some y from hx] at hp
      exact if_neg fun h => hp (congrArg some h)

/-- R171: what an ARP packet of a station does. -/
theorem arpIn_cases (x : State) (n : Nat) (reply : Bool) (sip : Word) (smac : BitVec 48) (tip : Word) :
    (linkIp x n ≠ 0 → sip ≠ linkIp x n → tip = linkIp x n → reply = false → arpIn n reply sip smac tip x =
      (let t := arpLearn x n sip smac; sendFrame t n (otherFrame t n smac (.arp true sip smac)))) ∧
    (linkIp x n = 0 ∨ (sip = linkIp x n ∧ smac = linkMac x n) → arpIn n reply sip smac tip x = x) ∧
    (linkIp x n ≠ 0 → sip = linkIp x n → smac ≠ linkMac x n → arpIn n reply sip smac tip x = arpConflict x n) ∧
    (linkIp x n ≠ 0 → sip ≠ linkIp x n → tip ≠ linkIp x n ∨ reply → arpIn n reply sip smac tip x =
      if (x.link n).arp.any (fun e => e.ip == sip) || (x.link n).asked.contains sip then arpLearn x n sip smac else x) := by
  refine ⟨fun h0 hs ht hr => ?_, fun h => ?_, fun h0 hs hm => ?_, fun h0 hs ht => ?_⟩
  · refine (if_neg h0).trans ((if_neg hs).trans ?_)
    simp only [ht, hr, beq_self_eq_true, Bool.not_false, Bool.and_true, Bool.or_true, if_true, and_self]
  · by_cases h0 : linkIp x n = 0
    · exact if_pos h0
    · obtain ⟨hs, hm⟩ := h.resolve_left h0
      exact (if_neg h0).trans ((if_pos hs).trans (if_neg (not_not.mpr hm)))
  · exact (if_neg h0).trans ((if_pos hs).trans (if_pos hm))
  · have hm : (tip == linkIp x n && !reply) = false := by
      rcases ht with ht | ht <;> simp [ht]
    have hr : ¬((tip == linkIp x n) = true ∧ (!reply) = true) := by simpa using hm
    refine (if_neg h0).trans ((if_neg hs).trans ((if_neg hr).trans ?_))
    rw [hm, Bool.or_false]

/-- A frame that takes its place is one more of the frames. -/
theorem insertSent_perm (g : Sent) (l : List Sent) : (insertSent g l).Perm (g :: l) := by
  induction l with
  | nil => exact .refl _
  | cons y t ih =>
    unfold insertSent
    split
    · exact (ih.cons y).trans (.swap g y t)
    · exact .refl _

/-- R418: where no frame waits for a release, nothing goes on; else what was held with the first of them does. -/
theorem releaseFrame_cases (go : HeldFrame → State → State) (s : State) (n : Nat) (tx : Bool) (c : Nat) :
    let l := (heldOf s n tx c).dropWhile fun h => !h.delayed
    (l = [] → releaseFrame go n tx c s = s) ∧
    (∀ h t, l = h :: t → let out := h :: t.takeWhile fun y => !y.delayed
      releaseFrame go n tx c s = forEach out (fun h u => go h.frame u) (unhold s out)) := by
  intro l
  refine ⟨fun hl => ?_, fun h t hl => ?_⟩
  all_goals
    unfold releaseFrame
    rw [show (heldOf s n tx c).dropWhile (fun h => !h.delayed) = _ from hl]

/-- Settles O28. -/
theorem receivedFramesReachTheirUnits : Obligations.ReceivedFramesReachTheirUnits := by
  unfold Obligations.ReceivedFramesReachTheirUnits
  intro s n at_ f b x k off
  have skip {row : RxRow} (h : off ∨ k.row ≠ row) (t : Nat) :
      (Host.Outcome.next (rxInput row n t f s) : Host.Outcome State Fault Refusal) = .next s :=
    congrArg Host.Outcome.next (rxInput_off h t)
  refine ⟨fun h => skip h 0, fun h => skip h at_, fun h => skip h 0, fun h => skip h at_, fun h => skip h 0, fun h => skip h 0,
    fun h => skip h 0, fun h => skip h 0, fun h => skip h 0, fun hq hl hn => ?received, fun hq hl g => ?sent, fun g l hs => ?order,
    fun tx c => ?release, fun p => rfl⟩
  case received =>
    have take {k' : NetIn} (hk : k = k') {row : RxRow} (hr : k'.row = row) (hf : k' ≠ .fcs) (hm : k' ≠ .filtered) (t : Nat) {y : State}
        (hy : rxTaken n t k' x = y) : (Host.Outcome.next (rxInput row n t f s) : Host.Outcome State Fault Refusal) = .next y :=
      congrArg Host.Outcome.next ((rxInput_taken hq hl hn hk hr hf hm t).trans hy)
    refine ⟨fun p hk => ⟨fun h => ?_, fun h j hj => ?_, fun h hj => ?_⟩, fun m hk ht => ?sync, fun m hk ht => ?announce,
      fun m hk h0 h8 h11 => ?delay, ptpRespIn_cases x n at_, fun hk => ?_, fun hk => ?_, fun hk => ?_, fun hk => ?_, fun hk => ?_,
      fun reply sip smac tip hk => ?_, fun src data hk => ?_, fun v2 group srcs hk => ?_, fun hk => ?_, fun ip port bytes hk => ?udp⟩
    · exact take hk rfl nofun nofun 0 (if_pos h)
    · refine take hk rfl nofun nofun 0 ((if_neg (ne_true_of_eq_false h)).trans ?_)
      rw [hj]
    · refine take hk rfl nofun nofun 0 ((if_neg (ne_true_of_eq_false h)).trans ?_)
      rw [hj]
      rfl
    case sync =>
      have act : rxTaken n at_ (.ptp m) x = ptpSyncIn n at_ m x := if_pos ht
      have go {y : State} (h : ptpSyncIn n at_ m x = y) := take hk (if_pos ht) nofun nofun at_ (act.trans h)
      obtain ⟨other, one, two, follow⟩ := ptpSyncIn_cases x n at_ m
      exact ⟨fun h => go (other h), fun h h0 h2 => go (one h h0 h2), fun h h0 h2 => go (two h h0 h2),
        fun h h8 => ⟨fun t c hs => go ((follow h h8).1 t c hs), fun hs => go ((follow h h8).2 hs)⟩⟩
    case announce =>
      have h08 : ¬(m.type = 0 ∨ m.type = 8) := by omega
      have act : rxTaken n 0 (.ptp m) x = ptpAnnounceIn n m x := (if_neg h08).trans (if_pos ht)
      have go {y : State} (h : ptpAnnounceIn n m x = y) :=
        take hk ((if_neg h08).trans (if_pos ht)) nofun nofun 0 (act.trans h)
      exact ⟨fun hf h4 => go (if_pos ⟨hf, h4⟩),
        fun h => go (if_neg fun hb => h.elim (fun h => ne_true_of_eq_false h hb.1) fun h => absurd hb.2 (Nat.not_le.mpr h))⟩
    case delay =>
      have h08 : ¬(m.type = 0 ∨ m.type = 8) := fun h => h.elim h0 h8
      exact ⟨take hk ((if_neg h08).trans (if_neg h11)) nofun nofun at_ ((if_neg h08).trans (if_neg h11)), ptpDelayIn_cases x n at_ m⟩
    · exact congrArg Host.Outcome.next (rxInput_arrives hq hl hn hk rfl 0)
    · exact congrArg Host.Outcome.next (rxInput_arrives hq hl hn hk rfl 0)
    · exact take hk rfl nofun nofun 0 rfl
    · exact take hk rfl nofun nofun 0 rfl
    · exact take hk rfl nofun nofun 0 rfl
    · exact ⟨take hk rfl nofun nofun 0 rfl, arpIn_cases x n reply sip smac tip⟩
    · exact take hk rfl nofun nofun 0 rfl
    · refine ⟨take hk rfl nofun nofun 0 rfl, fun h => ?_, fun h => ?_⟩ <;> subst h <;> rfl
    · exact take hk rfl nofun nofun 0 rfl
    case udp =>
      intro key tail d
      refine ⟨fun h => take hk rfl nofun nofun 0 (if_pos h), fun h1 h2 h3 => take hk rfl nofun nofun 0 ?_⟩
      have act : rxTaken n 0 (.plosto ip port bytes) x = if bytes.length < 28 + tail ∨ 288 < bytes.length ∨ bytes.headD 0 ≠ 1 then x.err P.kpr
        else if !udpAuth x d bytes then udpFail x d 0xFF .auth
        else if udpAgain x d then udpResend x d else udpQueue (udpTake x d) d := rfl
      refine act.trans ((if_neg fun h => ?_).trans (if_congr (Bool.not_eq_true' _).to_iff rfl rfl))
      rcases h with h | h | h
      · exact absurd h1 (Nat.not_le.mpr h)
      · exact absurd h2 (Nat.not_le.mpr h)
      · exact h h3
  case sent => exact (sendFrame_quiet hq n g).trans (if_pos hl)
  case order => exact ⟨insertSent_sorted g l hs, insertSent_perm g l⟩
  case release =>
    intro l
    cases tx with
    | true =>
      obtain ⟨none, some⟩ := releaseFrame_cases (emit n) s n true c
      exact ⟨fun hl => congrArg Host.Outcome.next (none hl), fun h t hl => congrArg Host.Outcome.next (some h t hl)⟩
    | false =>
      obtain ⟨none, some⟩ := releaseFrame_cases (rxGo n at_) s n false c
      exact ⟨fun hl => congrArg Host.Outcome.next (none hl), fun h t hl => congrArg Host.Outcome.next (some h t hl)⟩

end Sys2Proof.Machine
end

section
/-! PROOFS. Streams are enabled, sent, stalled, set, cleared and queried (R184-R196). -/

namespace Sys2Proof.Machine

/-- R187, R190: what writing the control word of a stream answers and leaves. -/
theorem strCtrlWrite_cases (t : State) (d j : Nat) (w : Word) :
    let a := strBase d j
    let c := strCheck t d j (w :: (strWords t d j).drop 1)
    (strOn t d j = false → bit w 31 = true → c = .done →
      strCtrlWrite d j w t = (.done, strEnable ((strClose t d j).store a w) d j)) ∧
    (strOn t d j = false → bit w 31 = true → c ≠ .done → strCtrlWrite d j w t = (c, t)) ∧
    (strOn t d j = true → bit w 31 = true → (regAt a).map (·.store (t.rd a) w) = some (t.rd a) → strCtrlWrite d j w t = (.done, t)) ∧
    (strOn t d j = true → bit w 31 = true → (regAt a).map (·.store (t.rd a) w) ≠ some (t.rd a) → strCtrlWrite d j w t = (.state, t)) ∧
    (strOn t d j = true → bit w 31 = false → strCtrlWrite d j w t = (.done, strDisable t d j)) ∧
    (strOn t d j = false → bit w 31 = false → strCtrlWrite d j w t = (.done, t.store a w)) := by
  intro a c
  refine ⟨fun ho h1 hc => ?_, fun ho h1 hc => ?_, fun ho h1 hs => ?_, fun ho h1 hs => ?_, fun ho h0 => ?_, fun ho h0 => ?_⟩
  · exact (if_neg (ne_true_of_eq_false ho)).trans ((if_pos h1).trans (if_pos hc))
  · exact (if_neg (ne_true_of_eq_false ho)).trans ((if_pos h1).trans (if_neg hc))
  · exact (if_pos ho).trans ((if_pos h1).trans (if_pos hs))
  · exact (if_pos ho).trans ((if_pos h1).trans (if_neg hs))
  · exact (if_pos ho).trans (if_neg (ne_true_of_eq_false h0))
  · exact (if_neg (ne_true_of_eq_false ho)).trans (if_neg (ne_true_of_eq_false h0))

/-- Settles O29. -/
theorem streamsEnableSendAndStall : Obligations.StreamsEnableSendAndStall := by
  unfold Obligations.StreamsEnableSendAndStall
  intro s
  refine ⟨fun r tx j v => ?enable, fun r tx j v => ?disable, fun j => ⟨fun h0 h2 => if_pos ⟨h0, h2⟩, fun h => if_neg fun hb => ?_⟩,
    fun j => ?packet, fun q => ?commands⟩
  case enable =>
    intro a w t d c h
    have hw : bit w 31 = true := bit_setField_same (by decide) v 1
    obtain ⟨starts, refuses, same, other, -⟩ := strCtrlWrite_cases t d j w
    exact ⟨fun ho hc => next_hostWrite_done h (starts ho hw hc), fun ho hc => next_hostWrite_refused h (refuses ho hw hc) hc,
      fun ho hs => next_hostWrite_done h (same ho hw hs), fun ho hs => next_hostWrite_refused h (other ho hw hs) nofun⟩
  case disable =>
    intro a t h
    have hw : bit (setField v 31 31 0) 31 = false := bit_setField_same (by decide) v 0
    obtain ⟨-, -, -, -, ends, stores⟩ := strCtrlWrite_cases t (b2n tx) j (setField v 31 31 0)
    exact ⟨fun ho => next_hostWrite_done h (ends ho hw), fun ho => next_hostWrite_done h (stores ho hw)⟩
  next => exact h.elim (fun h => ne_true_of_eq_false h hb.1) fun h => h hb.2
  case packet =>
    intro b n len due t u done
    refine ⟨fun hf ha hd => ⟨fun hh => ?_, fun h0 h1 => ?_⟩, fun h => ?_, fun seq ts payload => ⟨rfl, rfl, rfl⟩⟩
    · exact (if_pos ⟨hf, ha, hd⟩).trans (if_pos hh)
    · exact (if_pos ⟨hf, ha, hd⟩).trans (if_neg fun hb => hb.elim (absurd h0) h1)
    · refine if_neg fun hb => ?_
      rcases h with h | h | h
      · exact hb.1 h
      · exact ne_true_of_eq_false h hb.2.1
      · exact h hb.2.2
  case commands =>
    intro t dir j ws
    have fits {l : Nat} (hl : q.payload.length = l) (hd : dir ≤ 1) (hj : j < 32 ∨ j = 0xFF) (h0 : field q.payload 2 2 = 0) :
        ¬(q.payload.length ≠ l ∨ 1 < dir ∨ (32 ≤ j ∧ j ≠ 0xFF) ∨ field q.payload 2 2 ≠ 0) := by omega
    have set {slot : Option Nat} (hslot : (if j = 0xFF then freeEntry t dir else some j) = slot) :
        streamSetBody q t = if q.payload.length ≠ 36 ∨ 1 < dir ∨ (32 ≤ j ∧ j ≠ 0xFF) ∨ field q.payload 2 2 ≠ 0 then nak t (P.eth 0) .range
        else if strCheck t dir (slot.getD 32) ws = .range then nak t (P.eth 0) .range
        else if j ≠ 0xFF ∧ strOn t dir j then nak t (P.eth 0) .state
        else if strCheck t dir (slot.getD 32) ws = .state then nak t (P.eth 0) .state
        else if slot.isNone ∨ strCheck t dir (slot.getD 32) ws ≠ .done then nak t (P.eth 0) .full
        else
          let u := strEnable (strPut (strClose t dir (slot.getD 32)) dir (slot.getD 32) ws) dir (slot.getD 32)
          ok u ([BitVec.ofNat 8 (slot.getD 32), 0] ++ leBytes 2 (strFirst u dir (slot.getD 32))) := by
      subst hslot
      rfl
    refine ⟨fun h hp hl hd h0 i hi => ?setEntry, fun h hp => ⟨fun hl => ?_, fun hl hd h0 => ⟨fun hj ho => ?busy, fun hj hn => ?noEntry⟩⟩,
      fun hl => ⟨fun h hp => ?_, fun h hp => ?_⟩, fun h hp hl hd hj h0 => ?clear, fun h hp hl hd h0 => ⟨fun hj => ?_, fun hj => ?_⟩⟩
    case setEntry =>
      have hj : j < 32 ∨ j = 0xFF := hi.imp (·.1) (·.1)
      have hslot : (if j = 0xFF then freeEntry t dir else some j) = some i := by
        rcases hi with ⟨hlt, rfl, -⟩ | ⟨hj, hf⟩
        · exact if_neg (by omega)
        · exact (if_pos hj).trans hf
      have hoff : ¬(j ≠ 0xFF ∧ strOn t dir j = true) := by
        rintro ⟨hne, ho⟩
        rcases hi with ⟨-, -, hoff⟩ | ⟨hj, -⟩
        · exact ne_true_of_eq_false hoff ho
        · exact hne hj
      have act := (set hslot).trans (if_neg (fits hl hd hj h0))
      refine ⟨fun hc => next_plosto_ok h hp (act.trans ?_), fun hc => ?_, fun hc => ?_, fun hc => ?_⟩
      · have hc' : strCheck t dir ((some i).getD 32) ws = .done := hc
        rw [hc', if_neg nofun, if_neg hoff, if_neg nofun, if_neg (by simp)]
        rfl
      · exact next_plosto_refused h hp (act.trans (if_pos hc)) nofun
      all_goals
        have hc' : strCheck t dir ((some i).getD 32) ws = _ := hc
        refine next_plosto_refused h hp (act.trans ?_) nofun
        rw [hc', if_neg nofun, if_neg hoff]
      · exact if_pos rfl
      · exact (if_neg nofun).trans (if_pos (Or.inr nofun))
    · exact next_plosto_refused h hp (if_pos hl) nofun
    case busy =>
      intro c
      have act := (set (if_neg (by omega))).trans (if_neg (fits hl hd (Or.inl hj) h0))
      by_cases hc : strCheck t dir j ws = .range
      · rw [show c = .range from if_pos hc]
        exact next_plosto_refused h hp (act.trans (if_pos hc)) nofun
      · rw [show c = .state from if_neg hc]
        exact next_plosto_refused h hp (act.trans ((if_neg hc).trans (if_pos ⟨by omega, ho⟩))) nofun
    case noEntry =>
      intro c
      have act := (set ((if_pos hj).trans hn)).trans ((if_neg (fits hl hd (Or.inr hj) h0)))
      have hoff : ¬(j ≠ 0xFF ∧ strOn t dir j = true) := fun hb => hb.1 hj
      refine ⟨fun hc => ?_, fun hr hs => ?_⟩
      · rcases hc with hc | hc <;> rw [hc]
        · exact next_plosto_refused h hp (act.trans (if_pos hc)) nofun
        · have hr : c ≠ .range := by rw [hc]; nofun
          exact next_plosto_refused h hp (act.trans ((if_neg hr).trans ((if_neg hoff).trans (if_pos hc)))) nofun
      · exact next_plosto_refused h hp (act.trans ((if_neg hr).trans ((if_neg hoff).trans ((if_neg hs).trans (if_pos (Or.inl rfl)))))) nofun
    · exact next_plosto_refused h hp (if_pos hl) nofun
    · exact next_plosto_refused h hp (if_pos hl) nofun
    case clear =>
      intro l
      exact ⟨fun hne => next_plosto_ok h hp ((if_neg (fits hl hd hj h0)).trans (if_neg hne)),
        fun he => next_plosto_refused h hp ((if_neg (fits hl hd hj h0)).trans (if_pos he)) nofun⟩
    · exact next_plosto_ok h hp ((if_neg (fits hl hd (Or.inl hj) h0)).trans (if_neg (by omega)))
    · exact next_plosto_ok h hp ((if_neg (fits hl hd (Or.inr hj) h0)).trans (if_pos hj))

end Sys2Proof.Machine
end

section
/-! PROOFS. The frames of the SPI port (R49-R57, R78, R80). -/

namespace Sys2Proof.Machine

/-- R49: a frame for this device is served. -/
theorem spiFrame_serves {s : State} {d : Byte} (hd : dselHit s d = true) (hr : reaches s .spi = true) (op : Nat)
    (body : State → FrameEnd) : spiFrame d op body s = spiEnd (spiStatus s) op (body (spiState 3 s)) :=
  (if_neg (not_bnot hd)).trans (if_pos hr)

/-- R49: a frame for another device is left alone. -/
theorem spiFrame_other {s : State} {d : Byte} (hd : dselHit s d = false) (op : Nat) (body : State → FrameEnd) :
    spiFrame d op body s = spiSilent s := if_pos (bnot_true hd)

/-- R57: a frame for a sleeping device wakes it. -/
theorem spiFrame_wakes {s : State} {d : Byte} (hd : dselHit s d = true) (hr : reaches s .spi = false) (ha : asleep s = true)
    (op : Nat) (body : State → FrameEnd) : spiFrame d op body s = (spiSilent s).wakeBy 2 1 false :=
  (if_neg (not_bnot hd)).trans ((if_neg (ne_true_of_eq_false hr)).trans (if_pos ha))

/-- An opcode that the port does not know is a frame like the others. -/
theorem exec_spiUnknownOpcode {op : Byte} (h : op ≠ 0x20#8 ∧ op ≠ 0x30#8 ∧ op ≠ 0x40#8 ∧ op ≠ 0x41#8 ∧ op ≠ 0x50#8) (d : Byte)
    (s : State) : exec (.spiUnknownOpcode d op) s =
      .next (spiFrame d op.toNat (fun t => ⟨[], .unknown, t.refuse P.spi 0xFF .spi 0 .unknown⟩) s) := by
  obtain ⟨h1, h2, h3, h4, h5⟩ := h
  refine congrArg Host.Outcome.next (if_neg ?_)
  rintro (h | h | h | h | h)
  · exact h1 h
  · exact h2 h
  · exact h3 h
  · exact h4 h
  · exact h5 h

/-- Every row of the port's frames is a frame of some opcode. -/
theorem spiRows_frames (s : State) (d : Byte) (args : List Byte) (k : Nat) {op : Byte}
    (h : op ≠ 0x20#8 ∧ op ≠ 0x30#8 ∧ op ≠ 0x40#8 ∧ op ≠ 0x41#8 ∧ op ≠ 0x50#8) :
    ∀ i ∈ [Instr.spiRead d args, .spiReadTimeout d args, .spiWrite d args, .spiPlostoReq d args, .spiPlostoRsp d k, .spiStatus d,
      .spiUnknownOpcode d op], ∃ o body, exec i s = .next (spiFrame d o body s) := by
  intro i hi
  simp only [List.mem_cons, List.not_mem_nil, or_false] at hi
  obtain rfl | rfl | rfl | rfl | rfl | rfl | rfl := hi
  case inr.inr.inr.inr.inr.inr => exact ⟨_, _, exec_spiUnknownOpcode h d s⟩
  all_goals exact ⟨_, _, rfl⟩

/-- R51: what the end of a READ answers. -/
theorem spiRead_cases (t : State) (late : Bool) (d : Byte) (args : List Byte) :
    let n := field args 3 1
    (args.length < 4 → spiRead late d args t = spiShort .aborted t) ∧
    (4 ≤ args.length → n = 0 ∨ 64 < n → spiRead late d args t = ⟨[], .range, t⟩) ∧
    (4 ≤ args.length → 1 ≤ n → n ≤ 64 → spiRead true d args t = ⟨[0xA5], .timeout, t⟩ ∧
      let o := fetchWords .spi n (field args 0 3) t
      spiRead false d args t = ⟨if args.length = 4 then [] else 0x5A :: wordsBytes o.1 ++ (if t.isSet P.spi F.SPI_CFG_CRC then
        [crc8 (d :: 0x20 :: args.take 4 ++ wordsBytes o.1)] else []), o.2.1, o.2.2⟩) := by
  intro n
  refine ⟨fun h => if_pos h, fun h hn => ?_, fun h h1 h2 => ?_⟩
  · exact (if_neg (Nat.not_lt.mpr h)).trans (if_pos (bnot_true (decide_eq_false (by omega))))
  · have ok := not_bnot (decide_eq_true (show 1 ≤ n ∧ n ≤ 64 from ⟨h1, h2⟩))
    exact ⟨(if_neg (Nat.not_lt.mpr h)).trans ((if_neg ok).trans (if_pos rfl)),
      (if_neg (Nat.not_lt.mpr h)).trans ((if_neg ok).trans (if_neg nofun))⟩

/-- R52, R53: what the end of a WRITE without CRC answers. -/
theorem spiWriteFrame_plain {t : State} (hc : t.isSet P.spi F.SPI_CFG_CRC = false) (d : Byte) (args : List Byte) :
    let n := field args 3 1
    let o := applyWords .spi (toWords ((args.drop 4).take (4 * n))) (field args 0 3) t
    (args.length < 4 → spiWriteFrame d args t = spiShort .aborted t) ∧
    (4 ≤ args.length → n = 0 ∨ 64 < n → spiWriteFrame d args t = ⟨[], .range, t⟩) ∧
    (4 ≤ args.length → 1 ≤ n → n ≤ 64 →
      (args.length < 4 + 4 * n → spiWriteFrame d args t = spiShort .aborted o.2) ∧
      (4 + 4 * n < args.length → spiWriteFrame d args t = spiShort .range o.2) ∧
      (args.length = 4 + 4 * n → spiWriteFrame d args t = ⟨[], o.1, o.2⟩)) := by
  intro n o
  have act : spiWriteFrame d args t = if args.length < 4 then spiShort .aborted t else if !countOk n then ⟨[], .range, t⟩
      else if args.length - 4 < 4 * n then spiShort .aborted o.2 else if 4 * n < args.length - 4 then spiShort .range o.2
      else ⟨[], o.1, o.2⟩ := if_neg (ne_true_of_eq_false hc)
  refine ⟨fun h => act.trans (if_pos h), fun h hn => ?_, fun h h1 h2 => ?_⟩
  · exact act.trans ((if_neg (Nat.not_lt.mpr h)).trans (if_pos (bnot_true (decide_eq_false (by omega)))))
  · have ok := not_bnot (decide_eq_true (show 1 ≤ n ∧ n ≤ 64 from ⟨h1, h2⟩))
    have act := act.trans ((if_neg (Nat.not_lt.mpr h)).trans (if_neg ok))
    refine ⟨fun hl => act.trans (if_pos (by omega)), fun hl => act.trans ((if_neg (by omega)).trans (if_pos (by omega))),
      fun hl => act.trans ((if_neg (by omega)).trans (if_neg (by omega)))⟩

/-- R52, R53: what the end of a WRITE with CRC answers. -/
theorem spiWriteFrame_crc {t : State} (hc : t.isSet P.spi F.SPI_CFG_CRC = true) (d : Byte) (args : List Byte) :
    let n := field args 3 1
    let o := applyWords .spi (toWords ((args.drop 4).take (4 * n))) (field args 0 3) t
    let fits := crc8 (d :: 0x30 :: args.take (4 + 4 * n)) = (args.drop (4 + 4 * n)).headD 0
    (args.length < 4 → spiWriteFrame d args t = spiReject .check t) ∧
    (4 ≤ args.length → n = 0 ∨ 64 < n → spiWriteFrame d args t = spiReject .range t) ∧
    (1 ≤ n → n ≤ 64 → args.length = 5 + 4 * n → fits → spiWriteFrame d args t = ⟨[], o.1, o.2⟩) ∧
    (4 ≤ args.length → 1 ≤ n → n ≤ 64 → args.length ≠ 5 + 4 * n ∨ ¬fits → spiWriteFrame d args t = spiReject .check t) := by
  intro n o fits
  have act : spiWriteFrame d args t = if args.length < 4 then spiReject .check t else if !countOk n then spiReject .range t
      else if args.length - 4 = 4 * n + 1 ∧ fits then ⟨[], o.1, o.2⟩ else spiReject .check t := if_pos hc
  have ok (h1 : 1 ≤ n) (h2 : n ≤ 64) := not_bnot (decide_eq_true (show 1 ≤ n ∧ n ≤ 64 from ⟨h1, h2⟩))
  refine ⟨fun h => act.trans (if_pos h), fun h hn => ?_, fun h1 h2 hl hf => ?_, fun h h1 h2 hb => ?_⟩
  · exact act.trans ((if_neg (Nat.not_lt.mpr h)).trans (if_pos (bnot_true (decide_eq_false (by omega)))))
  · exact act.trans ((if_neg (by omega)).trans ((if_neg (ok h1 h2)).trans (if_pos ⟨by omega, hf⟩)))
  · refine act.trans ((if_neg (by omega)).trans ((if_neg (ok h1 h2)).trans (if_neg fun ⟨hl, hf⟩ => ?_)))
    exact hb.elim (fun hb => hb (by omega)) fun hb => hb hf

/-- R77-R80: a request is held, or answered at once. -/
theorem takeReq_cases (v : Via) (f : List Byte) (hold : Nat × BitVec 16 × List Byte → State → State) (t : State) :
    (∀ c g p, frameCheck f = .good c g p → takeReq v f hold t = (hold (c, g, p) t).arrive c ⟨v, g, p⟩) ∧
    (∀ c g, frameCheck f = .check c g →
      takeReq v f hold t = (t.refuse P.kpr c v.req 0 .check).deliver v (rspFrame c g .check [])) ∧
    (∀ c g, frameCheck f = .badVer c g →
      takeReq v f hold t = (t.refuse P.kpr c v.req 0 .unknown).deliver v (rspFrame c g .unknown [])) := by
  refine ⟨fun c g p h => ?_, fun c g h => ?_, fun c g h => ?_⟩
  all_goals
    unfold takeReq
    rw [h]

/-- Settles O10. -/
theorem spiFramesAreServed : Obligations.SpiFramesAreServed := by
  unfold Obligations.SpiFramesAreServed
  intro s d args t st n a words crc short bad o silent
  refine ⟨fun hd hr => ?served, fun hd ha => ?_, fun h => ?_, fun k op hop => ?_, fun op f => rfl⟩
  case served =>
    have ends {op : Nat} {body : State → FrameEnd} {e : FrameEnd} (h : body t = e) :
        (Host.Outcome.next (spiFrame d op body s) : Host.Outcome State Fault Refusal) = .next (spiEnd st op e) :=
      congrArg Host.Outcome.next ((spiFrame_serves hd hr op body).trans (congrArg (spiEnd st op) h))
    obtain ⟨readShort, readRange, readGo⟩ := spiRead_cases t false d args
    obtain ⟨lateShort, lateRange, lateGo⟩ := spiRead_cases t true d args
    refine ⟨fun h h1 h2 => ends (readGo h h1 h2).2, fun h => ⟨ends (readShort h), ends (lateShort h)⟩,
      fun h hn => ⟨ends (readRange h hn), ends (lateRange h hn)⟩, fun h h1 h2 => ends (lateGo h h1 h2).1, fun hc => ?_, fun hc => ?_,
      fun hs => ends (if_pos (bnot_true hs)), fun hs hm => ?_, fun hs hm => ends ((if_neg (not_bnot hs)).trans (if_pos hm)),
      fun k => ends rfl, ends rfl, fun op h1 h2 h3 h4 h5 => ?_⟩
    · obtain ⟨cut, range, go⟩ := spiWriteFrame_plain hc d args
      exact ⟨fun h => ends (cut h), fun h hn => ends (range h hn), fun h h1 h2 =>
        ⟨fun hl => ends ((go h h1 h2).1 hl), fun hl => ends ((go h h1 h2).2.1 hl), fun hl => ends ((go h h1 h2).2.2 hl)⟩⟩
    · obtain ⟨cut, range, go, fails⟩ := spiWriteFrame_crc hc d args
      exact ⟨fun h => ends (cut h), fun h hn => ends (range h hn), fun h1 h2 hl hf => ends (go h1 h2 hl hf),
        fun h h1 h2 hb => ends (fails h h1 h2 hb)⟩
    · have free : ¬ t.ports.spi.mb.req.isSome = true := by rw [hm]; nofun
      have act {y : State} (h : takeReq .spi args (fun r s => s.onSpi fun p => { p with mb := { p.mb with req := some r } }) t = y) :
          spiRequest args t = ⟨[], .done, y⟩ :=
        (if_neg (not_bnot hs)).trans ((if_neg free).trans (congrArg (FrameEnd.mk [] .done) h))
      obtain ⟨good, check, badVer⟩ := takeReq_cases .spi args
        (fun r s => s.onSpi fun p => { p with mb := { p.mb with req := some r } }) t
      exact ⟨fun c g p hf => ends (act (good c g p hf)), fun c g hf => ends (act (check c g hf)),
        fun c g hf => ends (act (badVer c g hf))⟩
    · exact (exec_spiUnknownOpcode ⟨h1, h2, h3, h4, h5⟩ d s).trans (ends rfl)
  · exact congrArg Host.Outcome.next (if_pos (by rw [hd, ha]; rfl))
  · refine congrArg Host.Outcome.next (if_neg fun hb => ?_)
    obtain ⟨hd, ha⟩ := (Bool.and_eq_true _ _).mp hb
    exact h.elim (fun h => ne_true_of_eq_false h hd) fun h => ne_true_of_eq_false h ha
  · refine ⟨fun hd i hi => ?_, fun hd hr ha i hi => ?_⟩ <;> obtain ⟨op, body, hx⟩ := spiRows_frames s d args k hop i hi
    · exact hx.trans (congrArg Host.Outcome.next (spiFrame_other hd op body))
    · exact hx.trans (congrArg Host.Outcome.next (spiFrame_wakes hd hr ha op body))

end Sys2Proof.Machine
end

section
/-! PROOFS. The commands of the TW0 target (R60-R67, R75, R80). -/

namespace Sys2Proof.Machine

/-- R60: a command on a served port, whatever ends its write phase but a byte that is no command code. -/
theorem twRow_goes {s : State} (h : twServed s = true) {e : TwEnd} (he : ∀ b, e ≠ .noCode b) (go : State → State) :
    twRow e go s = go s := by
  refine (if_neg (not_bnot h)).trans ?_
  cases e with
  | noCode b => exact absurd rfl (he b)
  | _ => rfl

/-- R62: a byte that is no command code is refused without an acknowledge. -/
theorem twRow_noCode {s : State} (h : twServed s = true) {b : Byte} (hb : twCode b = false) (go : State → State) :
    twRow (.noCode b) go s = twRefuse (twOpen s b.toNat []) .unknown :=
  (if_neg (not_bnot h)).trans (if_neg (ne_true_of_eq_false hb))

/-- R75: a port that is not served takes no command. -/
theorem twRow_off {s : State} (h : twServed s = false) (e : TwEnd) (go : State → State) : twRow e go s = s := if_pos (bnot_true h)

/-- The pointer does not enter the PEC of what is sent. -/
theorem withPec_setPtr (t : State) (a : Nat) (l : List Byte) : withPec (setPtr t a) l = withPec t l := by
  have hp : pecOn (setPtr t a) = pecOn t := congrArg (· != 0) (State.getF_setF_ne (by decide) t _)
  unfold withPec
  rw [hp]
  rfl

/-- R64: what a read phase sends, and where it leaves the pointer. -/
theorem twRead_eq (op : Nat) (l : List Byte) (n k : Nat) (s : State) :
    let u := twTurn (twOpen s op l)
    let f := twFetch n (twPtr u.2) u.2
    let t := f.2.2
    twRead op l n k s = twSend (clocked (withPec t (wordsBytes f.1)) k) (firstBad u.1 f.2.1)
      (setPtr t (twPtr u.2 + 4 * (if pecOn t = false ∧ k + 1 = 4 * n then n else min n (k / 4)))) := by
  intro u f t
  have hc : (!pecOn t && k + 1 == 4 * n) = true ↔ pecOn t = false ∧ k + 1 = 4 * n := by
    rw [Bool.and_eq_true, Bool.not_eq_true', beq_iff_eq]
  have act : twRead op l n k s =
      let p := setPtr t (twPtr u.2 + 4 * (if (!pecOn t && k + 1 == 4 * n) = true then n else min n (k / 4)))
      twSend (clocked (withPec p (wordsBytes f.1)) k) (firstBad u.1 f.2.1) p := rfl
  rw [act, if_congr hc rfl rfl]
  exact congrArg (fun d => twSend (clocked d k) (firstBad u.1 f.2.1) _) (withPec_setPtr t _ _)

/-- R63: STOP without a PEC byte applies what is held, or is CHECK with PEC enabled. -/
theorem twStop_none {x : State} (hp : twPartial x = false) :
    (pecOn x = false → twStop x none = twEnd (twCommit x).2 (twCommit x).1) ∧ (pecOn x = true → twStop x none = twEnd x .check) :=
  ⟨fun h => (if_neg (ne_true_of_eq_false h)).trans (if_neg (ne_true_of_eq_false hp)),
    fun h => (if_pos h).trans (if_neg (ne_true_of_eq_false hp))⟩

/-- Settles O11. -/
theorem twoWireTargetCommandsAct : Obligations.TwoWireTargetCommandsAct := by
  unfold Obligations.TwoWireTargetCommandsAct
  intro s args held fetch refused spoiled
  refine ⟨fun hs => ?served, fun hs e k n i hi => ?off, fun x c => rfl⟩
  case served =>
    have row {e : TwEnd} (he : ∀ b, e ≠ .noCode b) {go : State → State} {y : State} (h : go s = y) :
        (Host.Outcome.next (twRow e go s) : Host.Outcome State Fault Refusal) = .next y :=
      congrArg Host.Outcome.next ((twRow_goes hs he go).trans h)
    have more {go : State → State} {y : State} (h : go s = y) := row (e := .more) nofun h
    have fits {n : Nat} (h1 : 1 ≤ n) (h2 : n ≤ 64) : countOk n = true := decide_eq_true ⟨h1, h2⟩
    have bad {n : Nat} (h : n = 0 ∨ 64 < n) : ¬ countOk n = true := ne_true_of_eq_false (decide_eq_false (by omega))
    have write (c : Option TwCmd) (op : Nat) (l : List Byte) {e : Option TwCmd} (h : e = c) :
        twWrite op l e .more s = held op l (c.getD (.aborted op)) := by rw [h]; rfl
    refine ⟨fun h => ?_, fun h => ?_, fun h => ?_, fun h => ?_, ?_, fun n d h1 h2 => ?_, fun n d hn => ?_, fun b hb i hi => ?_,
      fun b => ?_, ?_, fun k => ?_, ?_, fun n l k hn => ?_, fun k => ?_, fun h => ?_, ?_, fun k hk => ?_, ?_, ?_, fun n hn => ?_,
      ?_, fun n hn => ?_, fun n hn => ?_⟩
    · exact more (write (some _) 0x10 _ (if_pos h))
    · exact more (write none 0x10 _ (if_neg (Nat.not_le.mpr h)))
    · exact more (write (some _) 0x30 _ (if_pos h))
    · exact more (write none 0x30 _ (if_neg (Nat.not_le.mpr h)))
    · exact more rfl
    · refine more ((if_pos (fits h1 h2)).trans ?_)
      by_cases hl : 4 * n.toNat ≤ d.length
      · exact (write (some _) 0x31 _ (if_pos hl)).trans (congrArg (held 0x31 _) (if_pos hl).symm)
      · exact (write none 0x31 _ (if_neg hl)).trans (congrArg (held 0x31 _) (if_neg hl).symm)
    · exact more (if_neg (bad hn))
    · simp only [List.mem_cons, List.not_mem_nil, or_false] at hi
      obtain rfl | rfl | rfl | rfl := hi <;> exact congrArg Host.Outcome.next (twRow_noCode hs hb _)
    · intro x h hp hb
      exact row (e := .badCode b) nofun ((congrArg (fun c => twWrite 0x30 _ c (.badCode b) s) (if_pos h)).trans
        ((if_neg (ne_true_of_eq_false hp)).trans (if_neg (ne_true_of_eq_false hb))))
    · intro x h hp
      have act : twWrite 0x30 (args.take 4) (if 4 ≤ args.length then some (.write (toWords (args.take 4))) else none) (.stop none) s =
          twStop x none := congrArg (fun c => twWrite 0x30 _ c (.stop none) s) (if_pos h)
      obtain ⟨plain, pec⟩ := twStop_none hp
      exact ⟨fun h => row (e := .stop none) nofun (act.trans (plain h)), fun h => row (e := .stop none) nofun (act.trans (pec h))⟩
    · exact congrArg Host.Outcome.next ((if_pos hs).trans (twRead_eq 0x20 [] 1 k s))
    · intro n l k f t h1 h2
      exact congrArg Host.Outcome.next ((if_neg (not_bnot hs)).trans ((if_pos (fits h1 h2)).trans (twRead_eq 0x21 [n] n.toNat k s)))
    · exact congrArg Host.Outcome.next ((if_neg (not_bnot hs)).trans (if_neg (bad hn)))
    · exact congrArg Host.Outcome.next (if_neg (not_bnot hs))
    · exact more (write (some _) 0x40 _ (if_neg h))
    · exact more rfl
    · intro u
      have act (m : Option (List Byte)) (hm : u.2.ports.tw0.mb.rsp = m) : exec (.twPlosto [] .more k) s = .next (twSend (match (generalizing := false) m with
          | some f => clocked (withPec u.2 f) (k - 1)
          | none => List.replicate k 0) u.1 (u.2.onTw0 fun p => { p with mb := readRsp u.2.ports.tw0.mb k })) := by
        subst hm
        exact more (if_neg hk.ne')
      exact ⟨fun hm => act none hm, fun f hm => act (some f) hm⟩
    · exact congrArg Host.Outcome.next (if_pos hs)
    · intro n h1 h2 u
      have act : twTurn (if n = 1 then twOpen s 0x20 [] else twOpen s 0x21 [BitVec.ofNat 8 n]) =
          twTurn (twOpen s (if n = 1 then 0x20 else 0x21) (if n = 1 then [] else [BitVec.ofNat 8 n])) := by
        split <;> rfl
      refine congrArg Host.Outcome.next ((if_pos (Bool.and_eq_true_iff.mpr ⟨hs, fits h1 h2⟩)).trans ?_)
      exact congrArg (fun y : Code × State => twSend (withPec y.2 (List.replicate (4 * n) 0)) .timeout
        (y.2.bump (P.tw 0) F.TW_TMO_CNT_COUNT)) act
    · exact congrArg Host.Outcome.next (if_neg fun h => bad hn (Bool.and_eq_true_iff.mp h).2)
    · exact congrArg Host.Outcome.next (if_pos hs)
    · exact congrArg Host.Outcome.next (if_pos (Bool.and_eq_true_iff.mpr ⟨hs, decide_eq_true hn⟩))
    · exact congrArg Host.Outcome.next (if_neg fun h => Nat.not_le.mpr hn (of_decide_eq_true (Bool.and_eq_true_iff.mp h).2))
  case off =>
    have neg : ¬ twServed s = true := ne_true_of_eq_false hs
    have and (b : Bool) : ¬ (twServed s && b) = true := fun h => neg (Bool.and_eq_true_iff.mp h).1
    simp only [List.mem_cons, List.not_mem_nil, or_false] at hi
    obtain rfl | rfl | rfl | rfl | rfl | rfl | rfl | rfl | rfl | rfl := hi
    · exact congrArg Host.Outcome.next (twRow_off hs e _)
    · exact congrArg Host.Outcome.next (if_neg neg)
    · exact congrArg Host.Outcome.next (if_pos (bnot_true hs))
    · exact congrArg Host.Outcome.next (twRow_off hs e _)
    · exact congrArg Host.Outcome.next (twRow_off hs e _)
    · exact congrArg Host.Outcome.next (twRow_off hs e _)
    · exact congrArg Host.Outcome.next (if_neg neg)
    · exact congrArg Host.Outcome.next (if_neg (and _))
    · exact congrArg Host.Outcome.next (if_neg neg)
    · exact congrArg Host.Outcome.next (if_neg (and _))

end Sys2Proof.Machine
end

section
/-! PROOFS. The TW1 controller (R68-R71, R75). -/

namespace Sys2Proof.Machine

/-- R46: a refusal recorded on a page leaves the page's state. -/
theorem State.st_refuse (s : State) (page cmd : Nat) (r : Req) (a : Nat) (c : Code) : (s.refuse page cmd r a c).st page = s.st page := by
  have h1 : page + F.PG_STAT_STATE.off ≠ page + 0x01C := by simp [F.PG_STAT_STATE]
  have h2 : page + F.PG_STAT_STATE.off ≠ page + 0x028 := by simp [F.PG_STAT_STATE]
  simp only [State.st, State.getF, State.refuse, State.rd_wr_ne h1, State.rd_wr_ne h2]

/-- A flag that is down, as the model asks for it. -/
theorem bnot_iff {p : Prop} {b : Bool} : (p ∧ (!b) = true) ↔ p ∧ b = false := by rw [Bool.not_eq_true']

/-! ### Transfers -/

/-- R68: what a write of a slot's control word with GO answers. -/
theorem xfCtrlWrite_go (r : Req) (k : Nat) {w : Word} (hw : bit w 31 = true) (t : State) :
    (64 < getField w 14 8 ∨ 64 < getField w 6 0 → xfCtrlWrite r k w t = (.range, t)) ∧
    (getField w 14 8 ≤ 64 → getField w 6 0 ≤ 64 →
      (tw1St t = 0 ∨ tw1St t = 5 → xfCtrlWrite r k w t = (.state, t)) ∧
      (tw1St t ≠ 0 → tw1St t ≠ 5 → xfBusy t k = true → xfCtrlWrite r k w t = (.busy, t)) ∧
      (tw1St t ≠ 0 → tw1St t ≠ 5 → xfBusy t k = false → xfCtrlWrite r k w t =
        (.done, (((t.store (xfBase k + 0x200) w).setF (xfBase k) F.XF_CTRL_GO 1).setF (xfBase k) F.XF_STAT_SLOT 1).onTw1
          fun p => { p with queue := p.queue ++ [k], by_ := alSet p.by_ k (r, 0xFF) }))) := by
  refine ⟨fun h => if_pos ⟨hw, h⟩, fun h1 h2 => ?_⟩
  have fits : ¬(bit w 31 = true ∧ (64 < getField w 14 8 ∨ 64 < getField w 6 0)) := fun h => by omega
  have runs (h0 : tw1St t ≠ 0) (h5 : tw1St t ≠ 5) : ¬(bit w 31 = true ∧ (tw1St t = 0 ∨ tw1St t = 5)) := fun h => h.2.elim h0 h5
  exact ⟨fun h => (if_neg fits).trans (if_pos ⟨hw, h⟩),
    fun h0 h5 hb => (if_neg fits).trans ((if_neg (runs h0 h5)).trans (if_pos hb)),
    fun h0 h5 hb => (if_neg fits).trans ((if_neg (runs h0 h5)).trans ((if_neg (ne_true_of_eq_false hb)).trans (if_pos hw)))⟩

/-- R70: whether the PEC that a target sent fits, as the statement says it. -/
theorem xfPecOk_iff (s : State) (k : Nat) (l : List Byte) (c : Byte) : xfPecOk s k l c = true ↔
    s.isSet (xfBase k) F.XF_CTRL_PEC = false ∨ s.getF (xfBase k) F.XF_CTRL_RLEN = 0 ∨ crc8 (xfSends s k ++ l) = c := by
  simp only [xfPecOk, Bool.or_eq_true, Bool.not_eq_true', beq_iff_eq, or_assoc]

/-- R69, R70: how an answered transfer ends. -/
theorem xfRun_answered (s : State) (k : Nat) (l : List Byte) (c : Byte) :
    let w := s.getF (xfBase k) F.XF_CTRL_WLEN
    let r := s.getF (xfBase k) F.XF_CTRL_RLEN
    let pec := s.isSet (xfBase k) F.XF_CTRL_PEC
    let read := (l ++ List.replicate r 0).take r
    let t := xfFill (xfBus s (xfSends s k) (r + (if r ≠ 0 ∧ pec then 1 else 0))) k read
    xfRun s k (.answered l c) = if pec = false ∨ r = 0 ∨ crc8 (xfSends s k ++ read) = c then xfEnd t k .done (w + r)
      else xfEnd ((t.bump (P.tw 1) F.TW_PEC_CNT_COUNT).raise (P.tw 1) 2) k .check (w + r) := by
  intro w r pec read t
  have hb : b2n (decide (r ≠ 0) && pec) = if r ≠ 0 ∧ pec then 1 else 0 := by
    simp only [b2n, Bool.and_eq_true, decide_eq_true_eq]
  have act : xfRun s k (.answered l c) =
      let t := xfFill (xfBus s (xfSends s k) (r + b2n (decide (r ≠ 0) && pec))) k read
      if xfPecOk s k read c then xfEnd t k .done (w + r)
      else xfEnd ((t.bump (P.tw 1) F.TW_PEC_CNT_COUNT).raise (P.tw 1) 2) k .check (w + r) := rfl
  rw [act, hb]
  exact if_congr (xfPecOk_iff s k read c) rfl rfl

/-- R69: how a transfer ends whose address for writing is not acknowledged. -/
theorem xfRun_addrNack_write (s : State) (k : Nat) :
    xfRun s k (.addrNack false) = xfNack s k ((xfWritten s k).take 1) .absent 0 := by
  have act : xfRun s k (.addrNack false) = if false ∧ s.getF (xfBase k) F.XF_CTRL_RLEN ≠ 0 then
      xfNack s k (xfSends s k) .absent (s.getF (xfBase k) F.XF_CTRL_WLEN) else xfNack s k ((xfWritten s k).take 1) .absent 0 := rfl
  exact act.trans (if_neg fun h => Bool.false_ne_true h.1)

/-! ### Bus-clear -/

/-- R71: what a write of BUSCLR answers, by the port's state. -/
theorem tw1CtrlWrite_busclr (t : State) :
    (tw1St t = 2 → tw1CtrlWrite 2 t = (.done, (clearBegin t false).setF (P.tw 1) F.TW_CTRL_BUSCLR 1)) ∧
    (tw1St t = 0 ∨ tw1St t = 5 → tw1CtrlWrite 2 t = (.state, t)) ∧
    (tw1St t = 3 ∨ tw1St t = 4 → tw1CtrlWrite 2 t = (.busy, t)) := by
  have h0 : bit 2#32 0 = false := by decide
  have h1 : bit 2#32 1 = true := by decide
  refine ⟨fun h => ?_, fun h => ?_, fun h => ?_⟩
  · simp [tw1CtrlWrite, h0, h1, h]
  · obtain h | h := h <;> simp [tw1CtrlWrite, h0, h1, h]
  · obtain h | h := h <;> simp [tw1CtrlWrite, h0, h1, h]

/-- R71: what a write of CLR_FAULT answers, by the port's state. -/
theorem tw1CtrlWrite_clrFault (t : State) :
    (tw1St t = 5 → tw1CtrlWrite 1 t = (.done, (clearBegin t true).setF (P.tw 1) F.TW_CTRL_CLR_FAULT 1)) ∧
    (tw1St t ≠ 5 → tw1CtrlWrite 1 t = (.state, t)) := by
  have h0 : bit 1#32 0 = true := by decide
  have h1 : bit 1#32 1 = false := by decide
  exact ⟨fun h => by simp [tw1CtrlWrite, h0, h1, h], fun h => by simp [tw1CtrlWrite, h0, h1, h]⟩

/-- An answer leaves the port's state. -/
theorem tw1St_answered (x : State) (c : Code) : tw1St (x.answered c) = tw1St x := rfl

/-- R71: a refused write of the control register starts no bus-clear. -/
theorem clearRow_refused {s : State} {r : Req} {v : Word} {c : Code} {b : BusClear} (h : served s r (P.tw 1 + 0x48) = true)
    (ha : tw1CtrlWrite v (s.wakeFor (P.tw 1 + 0x48)) = (c, s.wakeFor (P.tw 1 + 0x48))) (hc : c ≠ .done)
    (hs : tw1St s = 4 ∨ tw1St (s.wakeFor (P.tw 1 + 0x48)) ≠ 4) :
    clearRow r v b s = ((s.wakeFor (P.tw 1 + 0x48)).refuseAt r 0xFF (P.tw 1 + 0x48) c).answered c := by
  have write := hostWrite_refused h ha hc
  refine (if_neg fun ⟨h4, h4'⟩ => ?_).trans write
  have keeps := State.st_refuse (s.wakeFor (P.tw 1 + 0x48)) (P.tw 1) 0xFF r (refuseAddr (P.tw 1 + 0x48)) c
  have page : refusePage (P.tw 1 + 0x48) = P.tw 1 := by decide
  rw [write, tw1St_answered, State.refuseAt, page] at h4'
  exact hs.resolve_left h4 (keeps.symm.trans h4')

/-- R71: a served write of the control register that begins a bus-clear tries it at once. -/
theorem clearRow_done {s u : State} {r : Req} {v : Word} {b : BusClear} (h : served s r (P.tw 1 + 0x48) = true)
    (ha : tw1CtrlWrite v (s.wakeFor (P.tw 1 + 0x48)) = (.done, u)) (hs : tw1St s ≠ 4) :
    clearRow r v b s = if tw1St u = 4 then clearTry (u.answered .done) b else u.answered .done := by
  have write := hostWrite_served h ha
  unfold clearRow
  rw [write]
  exact if_congr (and_iff_right hs) rfl rfl

/-- Settles O13. -/
theorem twoWireControllerActs : Obligations.TwoWireControllerActs := by
  unfold Obligations.TwoWireControllerActs
  intro s
  refine ⟨fun r k v => ?go, fun k rest hq => ?starts, fun hq => ?idle, fun k ha h3 hw => ?active, fun h o i hi => ?quiet, fun k => rfl,
    fun k => ?sends, fun h3 hw => congrArg Host.Outcome.next (if_pos ⟨h3, hw⟩), fun h => congrArg Host.Outcome.next (if_neg fun hb => ?waits),
    fun r b => ?busclr, fun r b => ?clrFault, fun b => ?sda, fun h4 => ?retry, fun b h4 => congrArg Host.Outcome.next (if_neg h4)⟩
  case go =>
    intro a w t h
    have hw : bit w 31 = true := bit_setField_same (by decide) v 1
    obtain ⟨range, fits⟩ := xfCtrlWrite_go r k hw t
    refine ⟨fun h1 => next_hostWrite_refused h (range h1) nofun, fun h1 h2 => ?_⟩
    obtain ⟨state, busy, done⟩ := fits h1 h2
    exact ⟨fun h0 => next_hostWrite_refused h (state h0) nofun, fun h0 h5 hb => next_hostWrite_refused h (busy h0 h5 hb) nofun,
      fun h0 h5 hb => next_hostWrite_done h (done h0 h5 hb)⟩
  case starts =>
    intro go first n
    have act : exec .tw1Transfer s = if tw1St s = 2 ∧ s.domOn .keeper ∧ !s.sys.held then
        if s.ports.tw1.dirty ∧ !s.ports.tw1.sda then .next (clearBegin s false)
        else .next (((s.onTw1 fun p =>
          { p with queue := rest, active := some k, retries := n, waiting := false, dirty := false, sent := [] }).setF (xfBase k)
          F.XF_STAT_SLOT 2).setSt (P.tw 1) 3)
        else .next s := by
      unfold exec execTw1Transfer
      rw [hq]
    have hgo : (tw1St s = 2 ∧ s.domOn .keeper ∧ !s.sys.held) ↔ go := and_congr_right fun _ => bnot_iff
    exact ⟨fun hg hf => act.trans ((if_pos (hgo.mpr hg)).trans (if_neg (mt bnot_iff.mp hf))),
      fun hg hf => act.trans ((if_pos (hgo.mpr hg)).trans (if_pos (bnot_iff.mpr hf))), fun hg => act.trans (if_neg (mt hgo.mp hg))⟩
  case idle =>
    unfold exec execTw1Transfer
    rw [hq]
  case active =>
    intro w r pec ended nack
    have on : tw1St s = 3 ∧ (!s.ports.tw1.waiting) = true := bnot_iff.mpr ⟨h3, hw⟩
    have done {o : TwOutcome} {x : State} (h : xfRun s k o = x) : exec (.tw1TransferDone o) s = .next (ended x) := by
      subst h
      unfold exec execTw1TransferDone
      rw [ha]
      exact congrArg Host.Outcome.next (if_pos on)
    refine ⟨fun l c => done (xfRun_answered s k l c), fun hr => done (if_pos ⟨rfl, hr⟩), done (xfRun_addrNack_write s k), fun n => done rfl,
      ?_, ?_⟩
    · intro t
      have act : exec .arbLost s = if s.ports.tw1.retries = 0 then .next (ended (xfEnd t k .busy 0))
          else .next (t.onTw1 fun p => { p with waiting := true }) := by
        unfold exec execArbLost
        rw [ha]
        exact if_pos on
      exact ⟨fun h => act.trans (if_pos h), fun h => act.trans (if_neg h.ne')⟩
    · unfold exec execSclStuck
      rw [ha]
      exact if_pos on
  case quiet =>
    have off : ∀ k, s.ports.tw1.active = some k → ¬(tw1St s = 3 ∧ (!s.ports.tw1.waiting) = true) := by
      intro k hk hb
      obtain ⟨h3, hw⟩ := bnot_iff.mp hb
      rcases h with h | h | h
      · exact Option.some_ne_none k (hk.symm.trans h)
      · exact h h3
      · exact ne_true_of_eq_false hw h
    simp only [List.mem_cons, List.not_mem_nil, or_false] at hi
    cases hk : s.ports.tw1.active with
    | none =>
      obtain rfl | rfl | rfl := hi
      · unfold exec execTw1TransferDone; rw [hk]
      · unfold exec execArbLost; rw [hk]
      · unfold exec execSclStuck; rw [hk]
    | some k =>
      obtain rfl | rfl | rfl := hi
      · unfold exec execTw1TransferDone; rw [hk]; exact congrArg Host.Outcome.next (if_neg (off k hk))
      · unfold exec execArbLost; rw [hk]; exact if_neg (off k hk)
      · unfold exec execSclStuck; rw [hk]; exact if_neg (off k hk)
  case sends =>
    unfold xfSends
    split
    · rfl
    · split
      · rfl
      · exact (List.append_nil _).symm
  case waits => exact h.elim (fun h => h hb.1) fun h => ne_true_of_eq_false h hb.2
  case busclr =>
    intro t u h
    obtain ⟨done, state, busy⟩ := tw1CtrlWrite_busclr t
    refine ⟨fun h4 h2 => congrArg Host.Outcome.next (clearRow_done h (done h2) h4), fun h4 hs => ?_, fun hs => ?_⟩
    · exact congrArg Host.Outcome.next (clearRow_refused h (state hs) nofun (Or.inr fun h4 => by rw [h4] at hs; exact absurd hs (by decide)))
    · refine congrArg Host.Outcome.next (clearRow_refused h (busy (hs.imp_right (·.2))) nofun ?_)
      rcases hs with hs | hs
      · exact Or.inr fun h4 => by rw [show tw1St t = 3 from hs] at h4; nomatch h4
      · exact Or.inl hs.1
  case clrFault =>
    intro t u h
    obtain ⟨done, state⟩ := tw1CtrlWrite_clrFault t
    exact ⟨fun h4 h5 => congrArg Host.Outcome.next (clearRow_done h (done h5) h4),
      fun h5 hs => congrArg Host.Outcome.next (clearRow_refused h (state h5) nofun hs)⟩
  case sda =>
    intro t go
    have hgo : ((tw1St s = 2 ∨ (tw1St s = 3 ∧ s.ports.tw1.waiting)) ∧ s.domOn .keeper ∧ !s.sys.held) ↔ go :=
      and_congr_right fun _ => bnot_iff
    exact ⟨fun h => congrArg Host.Outcome.next (if_pos (hgo.mpr h)), fun h => congrArg Host.Outcome.next (if_neg (mt hgo.mp h))⟩
  case retry =>
    refine ⟨?_, ?_⟩
    · intro u
      have act : exec (.busClearRetry .freed) s = .next (
          let x := if s.ports.tw1.clrFault then ((u.setF (P.tw 1) F.TW_BUS_BUS_STUCK 0).setF (P.tw 1) F.TW_BUS_SCL_STUCK 0).setF
            (P.tw 1) F.PG_STAT_FAULT 0 else u
          x.setSt (P.tw 1) (if x.ports.tw1.active.isSome then 3 else 2)) := congrArg Host.Outcome.next (if_pos h4)
      refine act.trans ?_
      cases s.ports.tw1.clrFault <;> rfl
    · intro u ended
      have act : exec (.busClearRetry .stuck) s = .next (if s.ports.tw1.clears + 1 < 4 then u else
          tw1Fault (clearEnd (tw1Free (ended.onTw1 fun p => { p with queue := [] }))) F.TW_BUS_BUS_STUCK 24) :=
        congrArg Host.Outcome.next (if_pos h4)
      exact ⟨fun h => act.trans (congrArg Host.Outcome.next (if_pos (by omega))),
        fun h => act.trans (congrArg Host.Outcome.next (if_neg (by omega)))⟩

end Sys2Proof.Machine
end

section
/-! PROOFS. PING, READ, WRITE, MODIFY, EVENTS and the ends that executing any command can have (R77-R85, R398, R434). -/

namespace Sys2Proof.Machine

/-- R83: a read answers DONE unless a word of it failed a check. -/
theorem worst_ne_done {l : List (Nat × Word × Code)} {b : Nat} {c : Code} (h : worst l = some (b, c)) : c ≠ .done := by
  induction l generalizing b c with
  | nil => nomatch h
  | cons e t ih =>
    obtain ⟨a, w, d⟩ := e
    unfold worst at h
    cases ht : worst t with
    | none =>
      rw [ht] at h
      dsimp only at h
      split at h
      · nomatch h
      · cases h
        assumption
    | some x =>
      obtain ⟨b', d'⟩ := x
      rw [ht] at h
      dsimp only at h
      split at h
      next hc =>
        cases h
        exact hc.1
      · cases h
        exact ih ht

/-- R84: a write is refused only with a check that a word of it fails. -/
theorem plWriteWords_ne_done {r : Req} {ws : List Word} {i a : Nat} {s : State} {j b : Nat} {c : Code}
    (h : plWriteWords r ws i a s = .inr (j, b, c)) : c ≠ .done := by
  induction ws generalizing i a s with
  | nil => nomatch h
  | cons w ws ih =>
    unfold plWriteWords at h
    dsimp only at h
    split at h
    · exact ih h
    next hc =>
      cases h
      exact hc

/-- R79, R398: a device in service executes its next command; in RECOVERY, one that it serves there. -/
theorem runPlosto_next {s : State} {cmd : Nat} {q : PlReq} (h1 : s.sys.service = true) (h2 : reaches s .keeper = true)
    (h3 : nextReq s cmd q = true) (body : State → PlAns) : runPlosto cmd q body s =
      let a := if s.sys.recovery && assigned cmd && !inRecovery cmd then nak s P.kpr .state else body s
      let a := if a.code = .done ∧ s.sys.entry.isSome then { a with code := .busy, payload := [], st := s } else a
      let t := if a.code = .done then a.st else a.st.refuse a.page cmd q.via.req a.addr a.code
      (t.freeReq q.via).deliver q.via (rspFrame cmd q.tag a.code a.payload) :=
  (if_neg (ne_true_of_eq_false (by rw [h1, h2]; rfl))).trans (if_neg (not_bnot h3))

/-- R79, R81, R398, R434: the ends of a command that is not served. -/
theorem runPlosto_unserved (s : State) (q : PlReq) (cmd : Nat) (body : State → PlAns) :
    (s.sys.service = false ∨ reaches s .keeper = false → runPlosto cmd q body s = s.freeReq q.via) ∧
    (s.sys.service → reaches s .keeper → nextReq s cmd q = false → runPlosto cmd q body s = s) ∧
    (s.sys.service → reaches s .keeper → nextReq s cmd q → s.sys.recovery → assigned cmd → inRecovery cmd = false →
      runPlosto cmd q body s = s.plRefuse P.kpr 0 cmd q .state []) ∧
    (s.sys.service → reaches s .keeper → nextReq s cmd q → s.sys.recovery = false → s.sys.entry.isSome →
      (body s).code = .done → runPlosto cmd q body s = s.plRefuse (body s).page (body s).addr cmd q .busy []) := by
  refine ⟨fun h => if_pos ?_, fun h1 h2 h3 => ?_, fun h1 h2 h3 hr ha hn => ?_, fun h1 h2 h3 hr he hd => ?_⟩
  · obtain h | h := h <;> simp [h]
  · exact (if_neg (ne_true_of_eq_false (by rw [h1, h2]; rfl))).trans (if_pos (bnot_true h3))
  · rw [runPlosto_next h1 h2 h3, hr, ha, hn]
    rfl
  · rw [runPlosto_next h1 h2 h3, hr]
    simp [hd, he, State.plRefuse]

/-- Settles O14. -/
theorem plostoCommandsAct : Obligations.PlostoCommandsAct := by
  unfold Obligations.PlostoCommandsAct
  intro s q p r a n range
  refine ⟨fun h => ⟨fun hp => next_runPlosto_ok h (if_neg (not_not.mpr hp)), fun hp => next_runPlosto_refused h (if_pos hp) nofun⟩,
    fun h => ⟨fun hl ha h1 hn => ?read, fun hl => next_runPlosto_refused h (if_pos hl) nofun⟩,
    fun h => ⟨fun hl ha h1 hn h0 => ?write, fun hl => next_runPlosto_refused h (if_pos hl) nofun⟩,
    fun h => ⟨fun hl ha => ?modify, fun hl => next_runPlosto_refused h (if_pos hl) nofun⟩,
    fun h => ⟨fun hp => next_runPlosto_ok h (if_neg (not_not.mpr hp)), fun hp => next_runPlosto_refused h (if_pos hp) nofun⟩,
    fun cmd h hc => (congrArg Host.Outcome.next (if_neg (ne_true_of_eq_false hc))).trans (next_runPlosto_refused h rfl nofun),
    fun cmd hc => congrArg Host.Outcome.next (if_pos hc), fun b v c l => rfl, runPlosto_unserved s q⟩
  case read =>
    intro o
    have fits : ¬(p.length ≠ 6 ∨ 0xFFFFFF < a ∨ n = 0 ∨ 61 < n) := by omega
    cases hw : worst o.1 with
    | none =>
      refine next_runPlosto_ok h ((if_neg fits).trans ?_)
      dsimp only
      rw [show worst (plReadWords q.via.req (field q.payload 4 2) (field q.payload 0 4) s).1 = none from hw]
    | some e =>
      obtain ⟨b, c⟩ := e
      refine next_runPlosto_refused h ((if_neg fits).trans ?_) (worst_ne_done hw)
      dsimp only
      rw [show worst (plReadWords q.via.req (field q.payload 4 2) (field q.payload 0 4) s).1 = some (b, c) from hw]
      rfl
  case write =>
    intro ws u
    have fits : ¬(p.length < 8 ∨ 0xFFFFFF < a ∨ n = 0 ∨ 59 < n ∨ field p 6 2 ≠ 0 ∨ p.length ≠ 8 + 4 * n) := by omega
    have same : plWriteWords q.via.req (toWords (q.payload.drop 8)) 0 (field q.payload 0 4)
      (wakeWords (field q.payload 4 2) (field q.payload 0 4) s) = plWriteWords r ws 0 a u := rfl
    cases hw : plWriteWords r ws 0 a u with
    | inl t =>
      refine next_runPlosto_ok h ((if_neg fits).trans ?_)
      dsimp only
      rw [same, hw]
    | inr e =>
      obtain ⟨i, b, c⟩ := e
      refine next_runPlosto_refused h ((if_neg fits).trans ?_) (plWriteWords_ne_done hw)
      dsimp only
      rw [same, hw]
      rfl
  case modify =>
    intro m u o v w x
    have fits : ¬(p.length ≠ 12 ∨ 0xFFFFFF < a) := by omega
    exact ⟨fun hd => next_runPlosto_refused h ((if_neg fits).trans (if_pos hd)) hd,
      fun hd hw => next_runPlosto_ok h ((if_neg fits).trans ((if_neg (not_not.mpr hd)).trans (if_pos hw))),
      fun hd hw => next_runPlosto_refused h ((if_neg fits).trans ((if_neg (not_not.mpr hd)).trans (if_neg hw))) hw⟩

end Sys2Proof.Machine
end

section
/-! PROOFS. The Forager (R312-R318). -/

namespace Sys2Proof.Machine

/-- What a write with a code does: DONE leaves one state, a refusal another. -/
def answer (c : Code) (y t : State) : Code × State := if c = .done then (.done, y) else (c, t)

/-- A check that comes first gives its code. -/
theorem answer_ite {p : Prop} [Decidable p] {c d : Code} {t y : State} {x : Code × State} (hc : p → c ≠ .done)
    (hx : ¬p → x = answer d y t) : (if p then (c, t) else x) = answer (if p then c else d) y t := by
  by_cases h : p
  · rw [if_pos h, if_pos h, answer, if_neg (hc h)]
  · rw [if_neg h, if_neg h, hx h]

/-- R46: a served write whose register answers with a code, as an outcome. -/
theorem next_hostWrite_answer {s y : State} {r : Req} {a : Nat} {act : Act} {c : Code} (h : served s r a = true)
    (ha : act (s.wakeFor a) = answer c y (s.wakeFor a)) :
    (c = .done → (Host.Outcome.next (hostWrite r a act s) : Host.Outcome State Fault Refusal) = .next (y.answered .done)) ∧
    (c ≠ .done → (Host.Outcome.next (hostWrite r a act s) : Host.Outcome State Fault Refusal) =
      .next (((s.wakeFor a).refuseAt r 0xFF a c).answered c)) :=
  ⟨fun hc => next_hostWrite_done h (ha.trans (if_pos hc)), fun hc => next_hostWrite_refused h (ha.trans (if_neg hc)) hc⟩

/-- R312: the checks of a start, in their order, before what only the register asks. -/
theorem frgStart_then (r : Req) (c : Nat) (u t : State) (taken : Bool) :
    let k := memCheck u c
    let o := frgStart r c u
    (if o.1 = .done ∧ taken then ((.state : Code), t) else if o.1 = .done then o else (o.1, t)) =
      answer (if k = .locked ∨ k = .range then k
        else if frgSt u c = 0 ∨ frgMode u c ≠ 0 ∨ frgOn u = false then .state
        else if k ≠ .done then k
        else if frgSt u c = 2 ∨ u.sys.entry.isSome then .busy
        else if taken then .state else .done)
      ((setFrg u c 2).onDsp fun d => { d with starter := alSet d.starter c (r, u.sct.closes, 0xFF) }) t := by
  intro k o
  have start : frgStart r c u = if k = .locked ∨ k = .range then (k, u)
      else if frgSt u c = 0 ∨ frgMode u c ≠ 0 ∨ frgOn u = false then (.state, u)
      else if k ≠ .done then (k, u)
      else if frgSt u c = 2 ∨ u.sys.entry.isSome then (.busy, u)
      else (.done, (setFrg u c 2).onDsp fun d => { d with starter := alSet d.starter c (r, u.sct.closes, 0xFF) }) := by
    simp only [← Bool.not_eq_true']
    rfl
  have fails {d : Code} {y : State} (ho : frgStart r c u = (d, u)) (hd : d ≠ .done) :
      (if o.1 = .done ∧ taken then ((.state : Code), t) else if o.1 = .done then o else (o.1, t)) = answer d y t := by
    rw [show o = (d, u) from ho, if_neg fun h => hd h.1, if_neg hd, answer, if_neg hd]
  by_cases h1 : k = .locked ∨ k = .range
  · rw [if_pos h1] at start ⊢
    exact fails start (h1.elim (fun h => by rw [h]; nofun) fun h => by rw [h]; nofun)
  rw [if_neg h1] at start ⊢
  by_cases h2 : frgSt u c = 0 ∨ frgMode u c ≠ 0 ∨ frgOn u = false
  · rw [if_pos h2] at start ⊢
    exact fails start nofun
  rw [if_neg h2] at start ⊢
  by_cases h3 : k ≠ .done
  · rw [if_pos h3] at start ⊢
    exact fails start h3
  rw [if_neg h3] at start ⊢
  by_cases h4 : frgSt u c = 2 ∨ u.sys.entry.isSome = true
  · rw [if_pos h4] at start ⊢
    exact fails start nofun
  rw [if_neg h4] at start ⊢
  rw [show o = _ from start]
  cases taken <;> rfl

/-- R312: a write of a channel's control word with GO. -/
theorem frgCtrlWrite_go (r : Req) (c : Nat) (t : State) {w : Word} (hw : bit w 30 = true) :
    let m := getField w 29 28
    let u := t.wr (frgBase c + 0x400) ((t.rd (frgBase c + 0x400) &&& 0x48000000#32) ||| (w &&& 0xB0FF0000#32))
    let held := t.isSet (frgBase c) F.FRG_CTRL_EN || frgSt t c == 2
    let arm : Code := if bit w 31 ∧ m ≠ 0 ∧ held = false then fabCheck u c m else .done
    let k := memCheck u c
    frgCtrlWrite r c w t = answer (if m = 3 ∨ (20 ≤ getField w 23 19 ∧ getField w 23 19 ≤ 30) ∨ getField w 18 16 = 7 then .range
        else if arm = .range ∨ arm = .locked then arm
        else if m ≠ frgMode t c ∧ held then .state
        else if k = .locked ∨ k = .range then k
        else if frgSt u c = 0 ∨ frgMode u c ≠ 0 ∨ frgOn u = false then .state
        else if k ≠ .done then k
        else if frgSt u c = 2 ∨ u.sys.entry.isSome then .busy
        else if bit w 26 then .state else .done)
      ((setFrg u c 2).onDsp fun d => { d with starter := alSet d.starter c (r, u.sct.closes, 0xFF) }) t := by
  intro m u held arm k
  have same : (if bit w 31 ∧ m ≠ 0 ∧ !held then fabCheck u c m else .done) = arm := if_congr (by rw [Bool.not_eq_true']) rfl rfl
  refine answer_ite (fun _ => nofun) fun _ => ?_
  dsimp only
  rw [show (if bit w 31 ∧ getField w 29 28 ≠ 0 ∧ !(t.isSet (frgBase c) F.FRG_CTRL_EN || frgSt t c == 2) then
    fabCheck u c (getField w 29 28) else .done) = arm from same]
  refine answer_ite (fun h => h.elim (fun h => by rw [h]; nofun) fun h => by rw [h]; nofun) fun _ => (if_pos hw).trans ?_
  by_cases hm : m ≠ frgMode t c ∧ held = true
  · have busy : ¬(m = frgMode t c ∨ (!held) = true) := fun h => h.elim hm.1 fun h => not_bnot hm.2 h
    rw [if_pos hm]
    exact if_neg busy
  · have free : m = frgMode t c ∨ (!held) = true := by
      by_contra h
      exact hm ⟨fun hb => h (.inl hb), by simpa using fun hb => h (.inr hb)⟩
    rw [if_neg hm]
    exact (if_pos free).trans (frgStart_then r c u t (bit w 26))

/-- R312: a write of a channel's control word with FREE. -/
theorem frgCtrlWrite_free (r : Req) (c : Nat) (t : State) {w : Word} (h30 : bit w 30 = false) (h26 : bit w 26 = true) :
    let m := getField w 29 28
    let u := t.wr (frgBase c + 0x400) ((t.rd (frgBase c + 0x400) &&& 0x48000000#32) ||| (w &&& 0xB0FF0000#32))
    let held := t.isSet (frgBase c) F.FRG_CTRL_EN || frgSt t c == 2
    let arm : Code := if bit w 31 ∧ m ≠ 0 ∧ held = false then fabCheck u c m else .done
    frgCtrlWrite r c w t = answer (if m = 3 ∨ (20 ≤ getField w 23 19 ∧ getField w 23 19 ≤ 30) ∨ getField w 18 16 = 7 then .range
        else if arm = .range ∨ arm = .locked then arm
        else if frgSt t c = 0 ∨ held ∨ arm ≠ .done ∨ (bit w 31 ∧ frgOn t = false) then .state else .done)
      (frgUsed (setFrg ((u.setF (frgBase c) F.FRG_CTRL_EN 0).setF (frgBase c) F.FRG_CTRL_ALLOC 0) c 0)) t := by
  intro m u held arm
  have same : (if bit w 31 ∧ m ≠ 0 ∧ !held then fabCheck u c m else .done) = arm := if_congr (by rw [Bool.not_eq_true']) rfl rfl
  refine answer_ite (fun _ => nofun) fun _ => ?_
  dsimp only
  rw [show (if bit w 31 ∧ getField w 29 28 ≠ 0 ∧ !(t.isSet (frgBase c) F.FRG_CTRL_EN || frgSt t c == 2) then
    fabCheck u c (getField w 29 28) else .done) = arm from same]
  refine answer_ite (fun h => h.elim (fun h => by rw [h]; nofun) fun h => by rw [h]; nofun) fun _ =>
    (if_neg (ne_true_of_eq_false h30)).trans ?_
  have hc : (frgSt t c = 0 ∨ (held = true ∧ m ≠ frgMode t c) ∨ (held = true ∧ bit w 26 = true) ∨ arm ≠ .done ∨
      (bit w 31 = true ∧ (!frgOn t) = true)) ↔ frgSt t c = 0 ∨ held = true ∨ arm ≠ .done ∨ (bit w 31 = true ∧ frgOn t = false) := by
    rw [h26, Bool.not_eq_true']
    tauto
  exact (if_congr hc rfl (if_pos h26)).trans (answer_ite (fun _ => nofun) fun _ => rfl)

/-- R312: a write of FRG_ALLOC. -/
theorem frgAlloc_cases (t : State) :
    let free := (List.range 32).find? fun c => !t.isSet (frgBase c) F.FRG_CTRL_ALLOC
    (frgOn t = false → frgAlloc t = (.state, t)) ∧
    (frgOn t = true → (∀ k, free = some k → frgAlloc t = (.done, frgUsed (((setFrg (t.setF (frgBase k) F.FRG_CTRL_ALLOC 1) k 1).setF
        P.frg F.FRG_ALLOC_VALID 1).setF P.frg F.FRG_ALLOC_CHAN k))) ∧
      (free = none → frgAlloc t = (.full, t))) := by
  intro free
  refine ⟨fun h => if_pos (bnot_true h), fun h => ⟨fun k hk => (if_neg (not_bnot h)).trans ?_, fun hk => (if_neg (not_bnot h)).trans ?_⟩⟩
  all_goals rw [show (List.range 32).find? (fun c => !t.isSet (frgBase c) F.FRG_CTRL_ALLOC) = _ from hk]

/-- Settles O17. -/
theorem foragerMovesBlocks : Obligations.ForagerMovesBlocks := by
  unfold Obligations.ForagerMovesBlocks
  intro s r c
  refine ⟨?alloc, fun v => ?go, fun v => ?free, fun h2 hf => if_pos ⟨h2, hf⟩, fun h => if_neg fun hb => ?other, fun o => rfl, ?fabIn,
    fun k => ⟨fun h => if_pos h, fun h => if_neg (ne_true_of_eq_false h)⟩, ?fabOut⟩
  case alloc =>
    intro a t h
    obtain ⟨off, on⟩ := frgAlloc_cases t
    exact ⟨fun ho => next_hostWrite_refused h (off ho) nofun, fun ho => ⟨fun k hk => next_hostWrite_done h ((on ho).1 k hk),
      fun hk => next_hostWrite_refused h ((on ho).2 hk) nofun⟩⟩
  case go =>
    intro a t w m u held arm k code h
    exact next_hostWrite_answer h (frgCtrlWrite_go r c t (bit_setField_same (by decide) v 1))
  case free =>
    intro a t w m u held arm code h
    have h30 : bit w 30 = false := (bit_setField_apart (by decide) _ _).trans (bit_setField_same (by decide) v 0)
    exact next_hostWrite_answer h (frgCtrlWrite_free r c t h30 (bit_setField_same (by decide) _ 1))
  case other => exact h.elim (fun h => h hb.1) fun h => ne_true_of_eq_false h hb.2
  case fabIn =>
    intro t go
    have act (h : go) : exec .fabInTransfer s = .next (if s.sys.entry.isSome then t
      else forEach (fabChans s 1) (fun c u => fabInOne u c (blkOf s)) t) := if_pos h
    exact ⟨fun h he => (act h).trans (congrArg Host.Outcome.next (if_neg (by rw [he]; nofun))),
      fun h he => (act h).trans (congrArg Host.Outcome.next (if_pos he)), fun h => if_neg h⟩
  case fabOut =>
    intro cs t late go
    exact ⟨fun h => if_pos h, fun h => if_neg h⟩

end Sys2Proof.Machine
end

section
/-! PROOFS. Direct writes of the crosspoint window (R93, R97, R98). -/

namespace Sys2Proof.Machine

/-- R93: a commit without DEL of an entry that is FREE. -/
theorem xpCommit_new {u : State} {k : Nat} {w : Word} (hs : xpSeen u k = none) (hw : bit w 28 = false) :
    xpCommit k none w u = (.state, u) ∧
    ∀ m, xpCommit k (some m) w u =
      if badSource (getField m 9 0) || badSink (getField m 19 10) then (.range, u)
      else if (findXp u (getField m 9 0) (getField m 19 10)).isSome then (.state, u)
      else if 64 ≤ (contribs u (getField m 19 10)).length then (.full, u)
      else (.done, xpCreate (clampNote u (getField w 11 0)) k (getField m 9 0) (getField m 19 10) (clampCode (getField w 11 0))
        (getField w 15 12)) := by
  refine ⟨?_, fun m => ?_⟩
  all_goals
    unfold xpCommit
    rw [hs]
    exact if_neg (ne_true_of_eq_false hw)

/-- R93: a commit without DEL of an entry in the table. -/
theorem xpCommit_seen {u : State} {k : Nat} {w : Word} {e : XpEntry} (hs : xpSeen u k = some e) (hw : bit w 28 = false) :
    let regain := xpRegain (clampNote u (getField w 11 0)) k e.sink (clampCode (getField w 11 0)) (getField w 15 12)
    xpCommit k none w u = (.done, regain) ∧
    ∀ m, xpCommit k (some m) w u =
      if badSource (getField m 9 0) || badSink (getField m 19 10) then (.range, u)
      else if getField m 19 10 ≠ e.sink then (.state, u)
      else if getField m 9 0 ≠ e.src then
        (if (findXp u (getField m 9 0) (getField m 19 10)).isSome then (.state, u)
         else (.done, xpResource (clampNote u (getField w 11 0)) k e.sink (getField m 9 0) (clampCode (getField w 11 0)) (getField w 15 12)))
      else (.done, regain) := by
  refine ⟨?_, fun m => ?_⟩
  all_goals
    unfold xpCommit
    rw [hs]
    exact if_neg (ne_true_of_eq_false hw)

/-- R93: DEL releases an entry in the table. -/
theorem xpCommit_del {u : State} {k : Nat} {w : Word} (hw : bit w 28 = true) (m : Option Word) :
    (xpSeen u k = none → xpCommit k m w u = (.state, u)) ∧
    (∀ e, xpSeen u k = some e → xpCommit k m w u = (.done, xpRelease u k e.sink (getField w 15 12))) := by
  refine ⟨fun hs => ?_, fun e hs => ?_⟩
  all_goals
    unfold xpCommit
    rw [hs]
    exact if_pos hw

/-- R93: a write of a gain word uses up the held map word, if there is one. -/
theorem xpGainWrite_eq (r : Req) (k : Nat) (w : Word) (t : State) :
    (heldMap t r k = none → xpGainWrite r k w t = xpCommit k none w t) ∧
    (∀ m, heldMap t r k = some m → xpGainWrite r k w t = xpCommit k (some m) w { t with holds := alDel t.holds ⟨r, P.cmb⟩ }) := by
  refine ⟨fun h => ?_, fun m h => ?_⟩
  all_goals
    unfold xpGainWrite
    rw [h]
    rfl

/-- R97: a way to a code from an audible gain goes in decibels. -/
theorem Gain.begin_db {g : Gain} {c n : Nat} (hc : c ≠ 0) (h1 : linOf 1 ≤ g.lin) (h0 : g.lin ≠ 0) (hn : n ≠ 0) :
    g.begin c n = { g with target := c, slope := some (.db g.frac (roundDiv ((c : Int) * 65536 - g.frac) n) n 0) } := by
  refine (if_neg hn).trans (if_neg ?_)
  rintro (h | h | h)
  · exact hc h
  · exact h0 h
  · exact absurd h (Nat.not_lt.mpr h1)

/-- R97: a way to a code from mute goes in amplitude. -/
theorem Gain.begin_mute (c : Nat) {n : Nat} (hn : n ≠ 0) :
    (Gain.at_ 0).begin c n = { Gain.at_ 0 with target := c, slope := some (.amp (Gain.at_ 0).lin (linOf c) n 0) } :=
  (if_neg hn).trans (if_pos (Or.inr (Or.inl rfl)))

/-- R99: a way of some samples goes in amplitude. -/
theorem Gain.fade_way (g : Gain) (c : Nat) {n : Nat} (hn : n ≠ 0) :
    g.fade c n = { g with target := c, slope := some (.amp g.lin (linOf c) n 0) } := if_neg hn

/-- Settles O18. -/
theorem crosspointWritesCommit : Obligations.CrosspointWritesCommit := by
  unfold Obligations.CrosspointWritesCommit
  intro s r k v
  refine ⟨?map, ?gain, ?del, ?taken, fun src sink c n N hN => ?create, fun e c n N hst hc h1 h0 hN => ?regain,
    fun e src c n N hN => ?resource, fun e n => ⟨rfl, fun N hN => ⟨_, if_neg hN, rfl, rfl, Gain.fade_way e.g 0 hN⟩⟩⟩
  case map =>
    intro a t h
    exact next_hostWrite_done h rfl
  case gain =>
    intro a w t u c n
    have hw : bit w 28 = false := bit_setField_same (by decide) v 0
    refine ⟨fun m h hm hs => ?new, fun h hm hs => ?bare, fun e h hm hs => ?again, fun e m h hm hs => ?change⟩
    case new =>
      intro src sink
      have act := ((xpGainWrite_eq r k w t).2 m hm).trans ((xpCommit_new (u := u) hs hw).2 m)
      refine ⟨fun h1 h2 hf => ?_, fun h1 h2 hf => ?_, fun hb => ?_⟩
      · have good : ¬(badSource src || badSink sink) = true := by rw [h1, h2]; nofun
        have fresh : ¬(findXp u src sink).isSome = true := by rw [show findXp u src sink = none from hf]; nofun
        have act := act.trans ((if_neg good).trans (if_neg fresh))
        exact ⟨fun hn => next_hostWrite_done h (act.trans (if_neg (Nat.not_le.mpr hn))),
          fun hn => next_hostWrite_refused h (act.trans (if_pos hn)) nofun⟩
      · have good : ¬(badSource src || badSink sink) = true := by rw [h1, h2]; nofun
        exact next_hostWrite_refused h (act.trans ((if_neg good).trans (if_pos (Option.isSome_iff_ne_none.mpr hf)))) nofun
      · exact next_hostWrite_refused h (act.trans (if_pos (Bool.or_eq_true_iff.mpr hb))) nofun
    case bare => exact next_hostWrite_refused h (((xpGainWrite_eq r k w t).1 hm).trans (xpCommit_new hs hw).1) nofun
    case again => exact next_hostWrite_done h (((xpGainWrite_eq r k w t).1 hm).trans (xpCommit_seen hs hw).1)
    case change =>
      intro src sink
      have act := ((xpGainWrite_eq r k w t).2 m hm).trans ((xpCommit_seen (u := u) hs hw).2 m)
      refine ⟨fun hb => next_hostWrite_refused h (act.trans (if_pos (Bool.or_eq_true_iff.mpr hb))) nofun, fun h1 h2 => ?_⟩
      have good : ¬(badSource src || badSink sink) = true := by rw [h1, h2]; nofun
      have act := act.trans (if_neg good)
      refine ⟨fun hk hsrc => ?_, fun hk hsrc hf => ?_, fun hb => ?_⟩
      · exact next_hostWrite_done h (act.trans ((if_neg (not_not.mpr hk)).trans (if_neg (not_not.mpr hsrc))))
      · have fresh : ¬(findXp u src sink).isSome = true := by rw [show findXp u src sink = none from hf]; nofun
        exact next_hostWrite_done h (act.trans ((if_neg (not_not.mpr hk)).trans ((if_pos hsrc).trans (if_neg fresh))))
      · refine next_hostWrite_refused h (act.trans ?_) nofun
        by_cases hk : sink = e.sink
        · obtain ⟨hsrc, hf⟩ := hb.resolve_left (not_not.mpr hk)
          exact (if_neg (not_not.mpr hk)).trans ((if_pos hsrc).trans (if_pos (Option.isSome_iff_ne_none.mpr hf)))
        · exact if_pos hk
  case del =>
    intro a w t m h hm u
    have hw : bit w 28 = true := bit_setField_same (by decide) v 1
    have act : xpGainWrite r k w t = xpCommit k m w u := by subst hm; rfl
    have seen : xpSeen u k = xpSeen t k := by cases m <;> rfl
    obtain ⟨free, used⟩ := xpCommit_del (u := u) (k := k) hw m
    exact ⟨fun e he => next_hostWrite_done h (act.trans (used e (seen.trans he))),
      fun he => next_hostWrite_refused h (act.trans (free (seen.trans he))) nofun⟩
  case taken =>
    intro u ch hdue x
    exact ⟨rfl, congrArg Comb.xps (combTake_accept (.xp k ch) hdue)⟩
  case create =>
    rw [← Gain.begin_mute c hN]
    exact congrArg (fun st => some (XpEntry.mk src sink st n ((Gain.at_ 0).begin c N) none)) (if_neg hN)
  case regain =>
    intro g
    have hx : e.st ≠ .xfade := by rw [hst]; nofun
    rw [← show e.g.begin c N = g from Gain.begin_db hc h1 h0 hN]
    exact (if_neg hx).trans (congrArg (fun st => some { e with st := st, rampIdx := n, g := e.g.begin c N, old := none }) (if_neg hN))
  case resource =>
    intro g o
    rw [← show (Gain.at_ 0).fade c N = g from Gain.fade_way _ c hN, ← show e.g.fade 0 N = o from Gain.fade_way _ 0 hN]
    exact if_neg hN

end Sys2Proof.Machine
end

section
/-! PROOFS. The Plosto commands of the Comb (R104-R106). -/

namespace Sys2Proof.Machine

/-! ### XP_SET -/

/-- R104: XP_SET without SWAP, its fields in range. -/
theorem xpSetPlain_fits {q : PlReq} {t : State} (hf : ¬(q.payload.length ≠ 10 ∨ badSource (field q.payload 0 2) = true ∨
      badSink (field q.payload 2 2) = true ∨ 4096 ≤ field q.payload 4 2 ∨ 16 ≤ field q.payload 6 1 ∨ 2 ≤ field q.payload 7 1)) :
    let src := field q.payload 0 2
    let sink := field q.payload 2 2
    let code := field q.payload 4 2
    let n := field q.payload 6 1
    (∀ k, findXp t src sink = some k →
      xpSetPlain q t = xpSetOk (xpRegain (clampNote t code) k sink (clampCode code) n) k sink code false) ∧
    (∀ k, findXp t src sink = none → (contribs t sink).length < 64 → freeXp t = some k →
      xpSetPlain q t = xpSetOk (xpCreate (clampNote t code) k src sink (clampCode code) n) k sink code true) ∧
    (findXp t src sink = none → 64 ≤ (contribs t sink).length ∨ freeXp t = none → xpSetPlain q t = nak t P.cmb .full) := by
  intro src sink code n
  have start {o : Option Nat} (ho : findXp t src sink = o) : xpSetPlain q t = match (generalizing := false) o with
      | some k => xpSetOk (xpRegain (clampNote t code) k sink (clampCode code) n) k sink code false
      | none =>
        if 64 ≤ (contribs t sink).length then nak t P.cmb .full
        else match freeXp t with
          | some k => xpSetOk (xpCreate (clampNote t code) k src sink (clampCode code) n) k sink code true
          | none => nak t P.cmb .full := by
    subst ho
    exact if_neg hf
  refine ⟨fun k hk => start hk, fun k hk hn he => ?_, fun hk he => ?_⟩
  · refine (start hk).trans ((if_neg (Nat.not_le.mpr hn)).trans ?_)
    rw [he]
  · refine (start hk).trans ?_
    by_cases hn : 64 ≤ (contribs t sink).length
    · exact if_pos hn
    · refine (if_neg hn).trans ?_
      rw [he.resolve_left hn]

/-- R105: XP_SET with SWAP, its fields in range. -/
theorem xpSetSwapped_fits {q : PlReq} {t : State} (hf : ¬(q.payload.length ≠ 10 ∨ badSource (field q.payload 0 2) = true ∨
      badSink (field q.payload 2 2) = true ∨ badSource (field q.payload 8 2) = true ∨ 4096 ≤ field q.payload 4 2 ∨
      16 ≤ field q.payload 6 1 ∨ 2 ≤ field q.payload 7 1)) :
    let src := field q.payload 0 2
    let sink := field q.payload 2 2
    let old := field q.payload 8 2
    let code := field q.payload 4 2
    (∀ k, findXp t old sink = some k → findXp t src sink = none → xpSetSwapped q t =
      xpSetOk (xpResource (clampNote t code) k sink src (clampCode code) (field q.payload 6 1)) k sink code false) ∧
    (findXp t old sink ≠ none → findXp t src sink ≠ none → xpSetSwapped q t = nak t P.cmb .state) ∧
    (findXp t old sink = none → xpSetSwapped q t = nak t P.cmb .absent) := by
  intro src sink old code
  have start {o : Option Nat} (ho : findXp t old sink = o) : xpSetSwapped q t = match (generalizing := false) o with
      | none => nak t P.cmb .absent
      | some k =>
        if (findXp t src sink).isSome then nak t P.cmb .state
        else xpSetOk (xpResource (clampNote t code) k sink src (clampCode code) (field q.payload 6 1)) k sink code false := by
    subst ho
    exact if_neg hf
  refine ⟨fun k hk hs => (start hk).trans (if_neg (by rw [hs]; nofun)), fun hk hs => ?_, fun hk => start hk⟩
  obtain ⟨k, hk⟩ := Option.ne_none_iff_exists'.mp hk
  exact (start hk).trans (if_pos (Option.isSome_iff_ne_none.mpr hs))

/-- R104, R105: XP_SET is SWAP's by the lowest bit of its flags. -/
theorem xpSetBody_eq (q : PlReq) (t : State) :
    (field q.payload 7 1 = 0 → xpSetBody q t = xpSetPlain q t) ∧ (field q.payload 7 1 = 1 → xpSetBody q t = xpSetSwapped q t) :=
  ⟨fun h => if_neg (by rw [h]; nofun), fun h => if_pos (by rw [h])⟩

/-- R104, R105: XP_SET with a field out of range. -/
theorem xpSetBody_range {q : PlReq} {t : State} (h : q.payload.length ≠ 10 ∨ badSource (field q.payload 0 2) = true ∨
      badSink (field q.payload 2 2) = true ∨ 4096 ≤ field q.payload 4 2 ∨ 16 ≤ field q.payload 6 1 ∨ 2 ≤ field q.payload 7 1 ∨
      (field q.payload 7 1 = 1 ∧ badSource (field q.payload 8 2) = true)) : xpSetBody q t = nak t P.cmb .range := by
  by_cases hs : field q.payload 7 1 % 2 = 1
  · exact (if_pos hs).trans (if_pos (by tauto))
  · have h0 : field q.payload 7 1 ≠ 1 := by omega
    exact (if_neg hs).trans (if_pos (by tauto))

/-! ### SINK_SET -/

/-- R106: a biquad item. -/
theorem sinkItem_biquad {k : Nat} {d : List Byte} {h b0 b1 b2 a1 a2 : Word} (hd : toWords d = [h, b0, b1, b2, a1, a2]) (t : State) :
    sinkItem k 5 d t = if 8 ≤ getField h 7 0 ∨ 2 ≤ getField h 31 8 then (.range, t)
      else (.done, t.accept (.biquad k (getField h 7 0) [b0, b1, b2, a1, a2] (bit h 8))) := by
  unfold sinkItem
  rw [hd]
  rfl

/-- R106: a zone item, whose words are the zone's. -/
theorem sinkItem_zone {k : Nat} {d : List Byte} {cfg mic band rate : Word} (hd : toWords d = [cfg, mic, band, rate])
    (h1 : 0x200 ≤ k) (h2 : k < 0x210) (t : State) :
    let z := k - 0x200
    let good := micWordOk mic && bandWordOk band && rateWordOk rate
    let x := ((t.store (zBase z + 0x404) mic).store (zBase z + 0x408) band).store (zBase z + 0x40C) rate
    let o := zoneCfgWrite z cfg mic x
    (good = true → o.1 = .done → sinkItem k 6 d t = (.done, o.2)) ∧ (good = true → o.1 ≠ .done → sinkItem k 6 d t = (o.1, t)) ∧
    (good = false → sinkItem k 6 d t = (.range, t)) := by
  intro z good x o
  have start : sinkItem k 6 d t = if !good then (.range, t) else match o with
      | (.done, t) => (.done, t)
      | (c, _) => (c, t) := by
    refine (if_pos ⟨h1, h2⟩).trans ?_
    unfold zlaItem
    rw [hd] <;> rfl
  refine ⟨fun hg ho => ?_, fun hg ho => ?_, fun hg => start.trans (if_pos (bnot_true hg))⟩
  all_goals
    refine start.trans ((if_neg (not_bnot hg)).trans ?_)
    obtain ⟨c, y⟩ := o
  · subst ho
    rfl
  · cases c with
    | done => exact absurd rfl ho
    | _ => rfl

/-- R106: an item of another length, or of no kind. -/
theorem sinkItem_other (k item : Nat) (d : List Byte) (t : State) :
    (item < 5 → (toWords d).length ≠ 1 → sinkItem k item d t = (.range, t)) ∧
    (item = 5 → (toWords d).length ≠ 6 → sinkItem k item d t = (.range, t)) ∧
    (item = 6 → (toWords d).length ≠ 4 ∨ k < 0x200 ∨ 0x210 ≤ k → sinkItem k item d t = (.range, t)) ∧
    (6 < item → sinkItem k item d t = (.range, t)) := by
  refine ⟨fun hi hl => ?_, fun hi hl => ?_, fun hi hl => ?_, fun hi => ?_⟩
  · unfold sinkItem
    split <;> simp_all
  · unfold sinkItem
    split <;> simp_all
  · subst hi
    by_cases hk : 0x200 ≤ k ∧ k < 0x210
    · refine (if_pos hk).trans ?_
      unfold zlaItem
      split
      · simp_all
        omega
      · rfl
    · exact if_neg hk
  · unfold sinkItem
    split <;> simp_all

/-- R106: SINK_SET answers as the item's write does. -/
theorem sinkSetBody_fits {q : PlReq} {t : State} (h4 : 4 ≤ q.payload.length) (hm : q.payload.length % 4 = 0)
    (hk : field q.payload 0 2 < 1024) (h0 : field q.payload 3 1 = 0) :
    let o := sinkItem (field q.payload 0 2) (field q.payload 2 1) (q.payload.drop 4) t
    (o.1 = .done → sinkSetBody q t = ok o.2 [BitVec.ofNat 8 (b2n (field q.payload 2 1 == 1 &&
      decide (maxCode < getField (BitVec.ofNat 32 (field (q.payload.drop 4) 0 4)) 11 0))), 0, 0, 0]) ∧
    (o.1 ≠ .done → sinkSetBody q t = nak t P.cmb o.1) := by
  intro o
  have fits : ¬(q.payload.length < 4 ∨ (q.payload.drop 4).length % 4 ≠ 0 ∨ 1024 ≤ field q.payload 0 2 ∨ field q.payload 3 1 ≠ 0) := by
    rw [List.length_drop]
    omega
  have start : sinkSetBody q t = match o with
      | (.done, t) => ok t [BitVec.ofNat 8 (b2n (field q.payload 2 1 == 1 &&
          decide (maxCode < getField (BitVec.ofNat 32 (field (q.payload.drop 4) 0 4)) 11 0))), 0, 0, 0]
      | (c, _) => nak t P.cmb c := if_neg fits
  refine ⟨fun ho => ?_, fun ho => ?_⟩
  all_goals
    refine start.trans ?_
    obtain ⟨c, y⟩ := o
  · subst ho
    rfl
  · cases c with
    | done => exact absurd rfl ho
    | _ => rfl

/-- Settles O21. -/
theorem combCommandsAnswer : Obligations.CombCommandsAnswer := by
  unfold Obligations.CombCommandsAnswer
  intro s q t p src sink code n
  have set {x : Instr} (hx : x ∈ [Instr.xpSet q, .xpSetSwap q]) :
      exec x s = .next (runPlosto 0x10 q (onPage P.cmb true (xpSetBody q)) s) := by
    simp only [List.mem_cons, List.not_mem_nil, or_false] at hx
    obtain rfl | rfl := hx <;> rfl
  refine ⟨fun x hx h hp hl h1 h2 hc hn h7 => ?plain, fun x hx h hp hl h1 h2 h3 hc hn h7 => ?swap,
    fun x hx h hp hb => (set hx).trans (next_plosto_refused h hp (xpSetBody_range hb) nofun), fun h hp hl h1 h4 h5 hs => ?remove,
    fun h hp hb => next_plosto_refused h hp (if_pos hb) nofun, fun h hp hl h1 => ?query, fun h hp hb => ?queryRange,
    fun h hp h4 hm hk h0 => ?set, fun h hp hb => ?setRange,
      fun v h b0 b1 b2 a1 a2 d => ⟨fun hd => ?words, fun hd => ⟨fun h8 h2 => ?_, fun hb => ?_⟩⟩,
    fun cfg mic band rate d hd h1 h2 => sinkItem_zone hd h1 h2 t, fun item d => sinkItem_other src item d t,
    fun h hp hl hk h0 => ⟨fun h2 => ?_, fun h2 => ?_⟩, fun h hp hb => next_plosto_refused h hp (if_pos hb) nofun⟩
  case plain =>
    obtain ⟨regain, create, full⟩ := xpSetPlain_fits (q := q) (t := t) (by
      rintro (hb | hb | hb | hb | hb | hb)
      · exact hb hl
      · exact ne_true_of_eq_false h1 hb
      · exact ne_true_of_eq_false h2 hb
      · exact Nat.not_lt.mpr hb hc
      · exact Nat.not_lt.mpr hb hn
      · exact Nat.not_lt.mpr hb (h7.trans_lt (by decide)))
    have act {y : PlAns} (hy : xpSetPlain q t = y) := ((xpSetBody_eq q t).1 h7).trans hy
    exact ⟨fun k hk => (set hx).trans (next_plosto_ok h hp (act (regain k hk))),
      fun k hk hn he => (set hx).trans (next_plosto_ok h hp (act (create k hk hn he))),
      fun hk he => (set hx).trans (next_plosto_refused h hp (act (full hk he)) nofun)⟩
  case swap =>
    obtain ⟨resource, state, absent⟩ := xpSetSwapped_fits (q := q) (t := t) (by
      rintro (hb | hb | hb | hb | hb | hb | hb)
      · exact hb hl
      · exact ne_true_of_eq_false h1 hb
      · exact ne_true_of_eq_false h2 hb
      · exact ne_true_of_eq_false h3 hb
      · exact Nat.not_lt.mpr hb hc
      · exact Nat.not_lt.mpr hb hn
      · exact Nat.not_lt.mpr hb (h7.trans_lt (by decide)))
    have act {y : PlAns} (hy : xpSetSwapped q t = y) := ((xpSetBody_eq q t).2 h7).trans hy
    exact ⟨fun k hk hf => (set hx).trans (next_plosto_ok h hp (act (resource k hk hf))),
      fun hk hf => (set hx).trans (next_plosto_refused h hp (act (state hk hf)) nofun),
      fun hk => (set hx).trans (next_plosto_refused h hp (act (absent hk)) nofun)⟩
  case remove =>
    intro ks
    have fits : ¬(p.length ≠ 8 ∨ (src ≠ 0xFFFF ∧ badSource src = true) ∨ badSink sink = true ∨ 16 ≤ field p 4 1 ∨ field p 5 3 ≠ 0) := by
      rintro (hb | ⟨hb, hb'⟩ | hb | hb | hb)
      · exact hb hl
      · exact hs.elim hb fun h => ne_true_of_eq_false h hb'
      · exact ne_true_of_eq_false h1 hb
      · omega
      · exact hb h5
    exact ⟨fun hk => next_plosto_ok h hp ((if_neg fits).trans (if_neg hk)),
      fun hk => next_plosto_refused h hp ((if_neg fits).trans (if_pos hk)) nofun⟩
  case query =>
    have fits (hm : field p 0 1 ≤ 2) : ¬(p.length ≠ 8 ∨ 2 < field p 0 1 ∨ field p 1 1 ≠ 0) := by omega
    refine ⟨fun h0 hk => next_plosto_ok h hp ?_, fun hm h2 h3 => ?_, fun hm h3 => ?_⟩
    · exact (if_neg (fits (by omega))).trans ((if_pos h0).trans (if_neg (Nat.not_le.mpr hk)))
    · intro l
      have good : ¬(badSink (field p 6 2) = true ∨ (field p 0 1 = 1 ∧ badSource code = true)) := by
        rintro (hb | ⟨-, hb⟩)
        · exact ne_true_of_eq_false h3 hb
        · exact ne_true_of_eq_false h2 hb
      have act {o : Option (Nat × XpEntry)} (ho : l = o) : xpQueryBody q t = match (generalizing := false) o.map (·.1) with
          | some k => ok t (xpEntryBytes t k)
          | none => nak t P.cmb .absent := by
        subst ho
        have h0 : field p 0 1 ≠ 0 := by omega
        exact (if_neg (fits (by omega))).trans ((if_neg h0).trans ((if_neg good).trans (if_pos hm)))
      exact ⟨fun k e he => next_plosto_ok h hp (act he), fun he => next_plosto_refused h hp (act he) nofun⟩
    · intro ks
      have good : ¬(badSink (field p 6 2) = true ∨ (field p 0 1 = 1 ∧ badSource code = true)) := by
        rintro (hb | ⟨hb, -⟩)
        · exact ne_true_of_eq_false h3 hb
        · omega
      refine next_plosto_ok h hp ?_
      have h0 : field p 0 1 ≠ 0 := by omega
      have h1 : field p 0 1 ≠ 1 := by omega
      exact (if_neg (fits (by omega))).trans ((if_neg h0).trans ((if_neg good).trans (if_neg h1)))
  case queryRange =>
    refine next_plosto_refused h hp ?_ nofun
    by_cases hf : p.length ≠ 8 ∨ 2 < field p 0 1 ∨ field p 1 1 ≠ 0
    · exact if_pos hf
    refine (if_neg hf).trans ?_
    by_cases h0 : field p 0 1 = 0
    · refine (if_pos h0).trans (if_pos ?_)
      change 8192 ≤ field p 2 2
      omega
    · refine (if_neg h0).trans (if_pos ?_)
      rcases hb with hb | hb | hb | ⟨hb, -⟩ | hb | ⟨-, hb⟩
      · exact absurd (Or.inl hb) hf
      · exact absurd (Or.inr (Or.inl hb)) hf
      · exact absurd (Or.inr (Or.inr hb)) hf
      · exact absurd hb h0
      · exact Or.inr hb
      · exact Or.inl hb
  case set =>
    intro o
    obtain ⟨done, refused⟩ := sinkSetBody_fits (q := q) (t := t) h4 hm hk h0
    exact ⟨fun ho => next_plosto_ok h hp (done ho), fun ho => next_plosto_refused h hp (refused ho) ho⟩
  case setRange =>
    refine next_plosto_refused h hp (if_pos ?_) nofun
    have hd : (p.drop 4).length = p.length - 4 := List.length_drop
    change p.length < 4 ∨ (p.drop 4).length % 4 ≠ 0 ∨ 1024 ≤ src ∨ field p 3 1 ≠ 0
    omega
  case words =>
    refine ⟨?_, ?_, ?_, ?_, ?_⟩
    all_goals
      unfold sinkItem
      rw [hd]
      rfl
  · exact (sinkItem_biquad hd t).trans (if_neg (by omega))
  · exact (sinkItem_biquad hd t).trans (if_pos hb)
  all_goals have fits : ¬(p.length ≠ 4 ∨ 1024 ≤ src ∨ 1 < field p 2 1 ∨ field p 3 1 ≠ 0) := by omega
  · exact next_plosto_ok h hp ((if_neg fits).trans (if_pos h2))
  · have h0 : field p 2 1 ≠ 0 := by omega
    exact next_plosto_ok h hp ((if_neg fits).trans (if_neg h0))

end Sys2Proof.Machine
end

section
/-! PROOFS. Zone level adaptation (R118-R123). -/

namespace Sys2Proof.Machine

/-! ### Enabling and disabling a zone -/

/-- R119: what enabling a zone takes, and the refusals. -/
theorem zoneEnable_cases (z : Nat) (mics : Word) (t : State) :
    let srcs := zoneMics mics
    let want := (0x3C0 + z) :: (srcs.dedup.filter fun n => !(tapped t).contains n)
    (srcs = [] → zoneEnable z mics t = (.range, t)) ∧
    (srcs ≠ [] → t.img.zlaCore = none ∨ t.stopped = true → zoneEnable z mics t = (.state, t)) ∧
    (srcs ≠ [] → t.img.zlaCore ≠ none → t.stopped = false →
      (∀ u l, tapAll want (t, []) = some (u, l) → zoneEnable z mics t =
        (.done, (onZone u z fun _ => { Zone.reset with taps := l, mics := micsUsed mics }).setF (zBase z) F.ZLA_STAT_STATE 1)) ∧
      (tapAll want (t, []) = none → zoneEnable z mics t = (.full, t))) := by
  intro srcs want
  have start {o : Option (State × List (Nat × Nat))} (ho : tapAll want (t, []) = o) (h : srcs ≠ [])
      (hc : t.img.zlaCore ≠ none) (hs : t.stopped = false) : zoneEnable z mics t = match (generalizing := false) o with
        | none => (.full, t)
        | some (t, e) => (.done, (onZone t z fun _ => { Zone.reset with taps := e, mics := micsUsed mics }).setF (zBase z)
            F.ZLA_STAT_STATE 1) := by
    subst ho
    exact (if_neg h).trans (if_neg fun hb => hb.elim hc fun hb => ne_true_of_eq_false hs hb)
  exact ⟨fun h => if_pos h, fun h hb => (if_neg h).trans (if_pos hb),
    fun h hc hs => ⟨fun u l hu => start hu h hc hs, fun hn => start hn h hc hs⟩⟩

/-- R119: a write of a zone's control word that is well formed. -/
theorem zoneCfgWrite_ok {z : Nat} {w mics : Word} {t : State} (hw : cfgWordOk w = true) :
    (bit w 31 = true → t.isSet (zBase z) F.ZLA_CFG_EN = true → zoneCfgWrite z w mics t = (.done, t.store (zBase z + 0x400) w)) ∧
    (bit w 31 = false → t.isSet (zBase z) F.ZLA_CFG_EN = true →
      zoneCfgWrite z w mics t = (.done, zoneDisable z (t.store (zBase z + 0x400) w))) ∧
    (bit w 31 = false → t.isSet (zBase z) F.ZLA_CFG_EN = false → zoneCfgWrite z w mics t = (.done, t.store (zBase z + 0x400) w)) ∧
    (bit w 31 = true → t.isSet (zBase z) F.ZLA_CFG_EN = false →
      (∀ u, zoneEnable z mics t = (.done, u) → zoneCfgWrite z w mics t = (.done, u.store (zBase z + 0x400) w)) ∧
      (∀ c u, c ≠ .done → zoneEnable z mics t = (c, u) → zoneCfgWrite z w mics t = (c, t))) := by
  have stays (h : ¬(bit w 31 = true ∧ (!t.isSet (zBase z) F.ZLA_CFG_EN) = true)) : zoneCfgWrite z w mics t =
      (.done, if (!bit w 31) = true ∧ t.isSet (zBase z) F.ZLA_CFG_EN = true then zoneDisable z (t.store (zBase z + 0x400) w)
        else t.store (zBase z + 0x400) w) := (if_neg (not_bnot hw)).trans (if_neg h)
  have starts {o : Code × State} (ho : zoneEnable z mics t = o) (h1 : bit w 31 = true) (he : t.isSet (zBase z) F.ZLA_CFG_EN = false) :
      zoneCfgWrite z w mics t = match (generalizing := false) o with
        | (.done, t) => (.done, t.store (zBase z + 0x400) w)
        | (c, _) => (c, t) := by
    subst ho
    exact (if_neg (not_bnot hw)).trans (if_pos ⟨h1, bnot_true he⟩)
  refine ⟨fun h1 he => ?_, fun h0 he => ?_, fun h0 he => ?_, fun h1 he => ⟨fun u hu => starts hu h1 he, fun c u hc hu => ?_⟩⟩
  · exact (stays fun h => not_bnot he h.2).trans (congrArg (Prod.mk Code.done) (if_neg fun h => not_bnot h1 h.1))
  · exact (stays fun h => not_bnot he h.2).trans (congrArg (Prod.mk Code.done) (if_pos ⟨bnot_true h0, he⟩))
  · exact (stays fun h => ne_true_of_eq_false h0 h.1).trans
      (congrArg (Prod.mk Code.done) (if_neg fun h => ne_true_of_eq_false he h.2))
  · refine (starts hu h1 he).trans ?_
    cases c with
    | done => exact absurd rfl hc
    | _ => rfl

/-- R119: a write of a zone's control word that is not well formed. -/
theorem zoneCfgWrite_range {z : Nat} {w mics : Word} {t : State} (hw : cfgWordOk w = false) :
    zoneCfgWrite z w mics t = (.range, t) := if_pos (bnot_true hw)

/-- R118: the first word of a zone is its control word. -/
theorem zoneWrite_cfg (z : Nat) (w : Word) (t : State) : zoneWrite z 0 w t = zoneCfgWrite z w (t.rd (zBase z + 0x404)) t := if_pos rfl

/-! ### A decision -/

/-- R120: without a window that has ended nothing is decided. -/
theorem zoneSettle_idle {s : State} {z : Nat} (h : (zoneAt s z).due = none) : zoneSettle s z = s := by
  unfold zoneSettle
  rw [h]

/-- R120: a decision is taken on the window that has ended. -/
theorem zoneSettle_due {s : State} {z : Nat} {w : ZlaWindow} (h : (zoneAt s z).due = some w) :
    zoneSettle s z = if s.isSet (zBase z) F.ZLA_CFG_EN ∧ s.st P.cmb = 2 then zoneJudge (onZone s z fun y => { y with due := none }) z w
      else s := by
  unfold zoneSettle
  rw [h]

/-- R120-R123: what a decision shows of a window, whatever its reason to freeze: the state with the reason, the microphones and the
residual levels. -/
def zoneSeen (x : State) (z : Nat) (w : ZlaWindow) : Nat × State × List Rat :=
  let b := zBase z
  let live := w.mics.filterMap id
  let erle := if w.heard then zoneErle live else none
  let reason := freezeReason x z live.length w.heard erle
  let valid := (List.range 4).foldl (fun m i => m + (if (w.mics.getD i none).isSome then 2 ^ i else 0)) 0
  let was := x.getF b F.ZLA_STAT_REASON
  let f := if was ≠ reason then freezeNote (freezeNote x z was false) z reason true else x
  let h := (f.setF b F.ZLA_STAT_REASON reason).setF b F.ZLA_STAT_VALID valid
  let o := live.foldl (fun o e => residualLevel w.n e o) (if w.heard then showErle h z erle else h, [])
  (reason, o.1, o.2)

/-- R121-R123: the decision on a window, by its reason and the noise. -/
theorem zoneJudge_cases (x : State) (z : Nat) (w : ZlaWindow) :
    let b := zBase z
    let o := zoneSeen x z w
    let noise := zoneNoise (o.2.2.mergeSort (fun x y => decide (x ≤ y)))
    (noise = none → zoneJudge x z w = (o.2.1.setF b F.ZLA_STAT_STATE 2).setF b F.ZLA_STAT_LASTDEC 3) ∧
    (∀ n, noise = some n →
      let t := o.2.1.setS b F.ZLA_NOISE_NOISE (quantI (n * 10).num (n * 10).den)
      (o.1 ≠ 0 → zoneJudge x z w = (t.setF b F.ZLA_STAT_STATE 2).setF b F.ZLA_STAT_LASTDEC 3) ∧
      (o.1 = 0 →
        let d := zoneDecide t z (zoneTarget t z n)
        let u := ((t.setF b F.ZLA_STAT_STATE 1).setF b F.ZLA_STAT_LASTDEC d.1).setS b F.ZLA_TGT_TARGET (to05 (zoneTarget t z n))
        let y := if d.2 = (zoneAt u z).a then u else u.bump b F.ZLA_DEC_COUNT
        zoneJudge x z w = zoneReport (zoneGain (onZone y z fun m => { m with a := d.2 }) z
          d.2 (2400 * y.getF b F.ZLA_CFG_WIN)) z (zoneTarget t z n) n)) := by
  intro b o noise
  have start {r : Nat} {q : Option Rat} (hr : o.1 = r) (hq : noise = q) : zoneJudge x z w =
      let s := match (generalizing := false) q with
        | some n => o.2.1.setS b F.ZLA_NOISE_NOISE (quantI (n * 10).num (n * 10).den)
        | none => o.2.1
      match (generalizing := false) r, q with
      | 0, some n =>
        let t := zoneTarget s z n
        let d := zoneDecide s z t
        let s := ((s.setF b F.ZLA_STAT_STATE 1).setF b F.ZLA_STAT_LASTDEC d.1).setS b F.ZLA_TGT_TARGET (to05 t)
        let s := if d.2 != (zoneAt s z).a then s.bump b F.ZLA_DEC_COUNT else s
        let s := zoneGain (onZone s z fun y => { y with a := d.2 }) z d.2 (2400 * s.getF b F.ZLA_CFG_WIN)
        zoneReport s z t n
      | _, _ => (s.setF b F.ZLA_STAT_STATE 2).setF b F.ZLA_STAT_LASTDEC 3 := by
    subst hr hq
    rfl
  refine ⟨fun hn => ?_, fun n hn => ⟨fun hr => ?_, fun hr => ?_⟩⟩
  · refine (start rfl hn).trans ?_
    cases o.1 <;> rfl
  · refine (start rfl hn).trans ?_
    cases h : o.1 with
    | zero => exact absurd h hr
    | succ k => rfl
  · intro d u y
    have hy : (if d.2 != (zoneAt u z).a then u.bump b F.ZLA_DEC_COUNT else u) = y := by
      by_cases h : d.2 = (zoneAt u z).a <;> simp [y, h]
    rw [← hy]
    exact start hr hn

/-- Settles O22. -/
theorem zoneLevelAdaptationActs : Obligations.ZoneLevelAdaptationActs := by
  unfold Obligations.ZoneLevelAdaptationActs
  intro s z b
  refine ⟨fun r v => ?enable, fun r v => ?disable, fun h => ?idle, fun w h hb => ?off, fun w h he h2 => ?decide,
    fun u n entering => ⟨fun h => if_pos (by simpa using h), fun h => if_neg (by simpa using h)⟩⟩
  case enable =>
    intro a w t srcs want h
    have hw : bit w 31 = true := bit_setField_same (by decide) v 1
    have act {y : Code × State} (hy : zoneCfgWrite z w (t.rd (b + 0x404)) t = y) : zoneWrite z 0 w t = y := (zoneWrite_cfg z w t).trans hy
    refine ⟨fun hc => next_hostWrite_refused h (act (zoneCfgWrite_range hc)) nofun, fun hc he => ?_, fun hc he => ?_⟩
    · exact next_hostWrite_done h (act ((zoneCfgWrite_ok hc).1 hw he))
    · obtain ⟨done, refused⟩ := (zoneCfgWrite_ok (z := z) (mics := t.rd (b + 0x404)) hc).2.2.2 hw he
      obtain ⟨range, state, runs⟩ := zoneEnable_cases z (t.rd (b + 0x404)) t
      refine ⟨fun hs => next_hostWrite_refused h (act (refused .range t nofun (range hs))) nofun,
        fun hs hb => next_hostWrite_refused h (act (refused .state t nofun (state hs hb))) nofun, fun hs hz hr => ?_⟩
      obtain ⟨some, none⟩ := runs hs hz hr
      exact ⟨fun u l hu => next_hostWrite_done h (act (done _ (some u l hu))),
        fun hn => next_hostWrite_refused h (act (refused .full t nofun (none hn))) nofun⟩
  case disable =>
    intro a w t h
    have hw : bit w 31 = false := bit_setField_same (by decide) v 0
    have act {y : Code × State} (hy : zoneCfgWrite z w (t.rd (b + 0x404)) t = y) : zoneWrite z 0 w t = y := (zoneWrite_cfg z w t).trans hy
    refine ⟨fun hc => next_hostWrite_refused h (act (zoneCfgWrite_range hc)) nofun, fun hc he => ?_, fun hc he => ?_⟩
    · exact next_hostWrite_done h (act ((zoneCfgWrite_ok hc).2.1 hw he))
    · exact next_hostWrite_done h (act ((zoneCfgWrite_ok hc).2.2.1 hw he))
  case idle => exact congrArg Host.Outcome.next (zoneSettle_idle h)
  case off =>
    refine congrArg Host.Outcome.next ((zoneSettle_due h).trans (if_neg fun hc => ?_))
    exact hb.elim (fun he => ne_true_of_eq_false he hc.1) fun h2 => h2 hc.2
  case decide =>
    intro x live erle reason valid was f seen o
    have act : exec (.zlaDecide z) s = .next (zoneJudge x z w) := congrArg Host.Outcome.next ((zoneSettle_due h).trans (if_pos ⟨he, h2⟩))
    obtain ⟨none, some⟩ := zoneJudge_cases x z w
    refine ⟨fun hl => act.trans (congrArg Host.Outcome.next (none ?_)), fun n hn => ?_⟩
    · have ho : (zoneSeen x z w).2.2 = [] := by
        simp only [zoneSeen]
        rw [show w.mics.filterMap id = [] from hl]
        rfl
      rw [ho, List.mergeSort_nil]
      rfl
    · intro t
      exact ⟨fun hr => act.trans (congrArg Host.Outcome.next ((some n hn).1 hr)),
        fun hr => act.trans (congrArg Host.Outcome.next ((some n hn).2 hr))⟩

end Sys2Proof.Machine
end

section
/-! PROOFS. References and PLLs fail and recover (R125-R137). -/

namespace Sys2Proof.Machine

/-- Settles O23. -/
theorem clocksFailAndRecover : Obligations.ClocksFailAndRecover := by
  unfold Obligations.ClocksFailAndRecover
  intro s
  refine ⟨fun h1 h2 h3 => if_pos ⟨h1, bnot_true h2, bnot_true h3⟩, fun h => if_neg fun hb => ?onRc, ?ref, fun why => rfl, rfl,
    fun ha h => if_pos ⟨ha, h⟩, fun h => if_neg fun hb => ?recovers, fun p => ?pll, fun up => ?restart, fun errs dev => ?servo,
    fun h => if_pos h, fun h => if_neg h⟩
  case onRc =>
    obtain ⟨h1, h2, h3⟩ := hb
    rcases h with h | h | h
    · exact ne_true_of_eq_false h h1
    · exact not_bnot h h2
    · exact not_bnot h h3
  case ref =>
    intro t u
    refine ⟨fun ha hr => if_pos ⟨ha, hr⟩, fun h => ⟨if_neg fun hb => ?_, if_neg fun hb => ?_⟩,
      fun ha hr ho => if_pos ⟨ha, bnot_true ho, hr⟩, fun ho => if_neg fun hb => not_bnot ho hb.2.1⟩
    · exact h.elim (fun h => ne_true_of_eq_false h hb.1) hb.2
    · exact h.elim (fun h => ne_true_of_eq_false h hb.1) hb.2.2
  case recovers =>
    obtain ⟨ha, hh⟩ := hb
    rcases h with h | h | h
    · exact ne_true_of_eq_false h ha
    · rw [h] at hh; exact hh.elim nofun nofun
    · rw [h] at hh; exact hh.elim nofun nofun
  case pll =>
    intro t u
    have act (ha : awake s = true) (h1 : s.clk.halt ≠ some .ref) (h2 : s.clk.halt ≠ some .mode) : exec (.pllFail p) s =
        .next (clkLog (((if s.clk.halt.isNone then clkTo (fabricStop u .pll) 7 else u).raise P.clk 25).err P.clk) 0x0011 3) :=
      if_pos ⟨ha, h1, h2⟩
    refine ⟨fun ha hn => ?_, fun ha hp => ?_, fun h => if_neg fun ⟨ha, h1, h2⟩ => ?_⟩
    · rw [act ha (by rw [hn]; nofun) (by rw [hn]; nofun), if_pos (by rw [hn]; rfl)]
    · rw [act ha (by rw [hp]; nofun) (by rw [hp]; nofun), if_neg (by rw [hp]; nofun)]
    rcases h with h | h | h
    · exact ne_true_of_eq_false h ha
    · exact h1 h
    · exact h2 h
  case restart =>
    intro t
    have act (h : s.clk.halt = some .pll) : exec (.pllRestart up) s =
        .next (if t.clk.down = [] ∧ t.isSet P.clk F.CLK_REF_STAT_REF_OK then clkRecover t else t) := if_pos h
    refine ⟨fun h hd hr => (act h).trans (congrArg Host.Outcome.next (if_pos ⟨hd, hr⟩)),
      fun h hb => (act h).trans (congrArg Host.Outcome.next (if_neg fun hc => ?_)), fun h => if_neg h⟩
    exact hb.elim (fun hd => hd hc.1) fun hr => ne_true_of_eq_false hr hc.2
  case servo =>
    intro t
    refine ⟨fun ha hs => if_pos ⟨ha, bnot_true hs⟩, fun h => if_neg fun hb => ?_⟩
    exact h.elim (fun h => ne_true_of_eq_false h hb.1) fun h => not_bnot h hb.2

end Sys2Proof.Machine
end

section
/-! PROOFS. Accumulators and multiplies (R290-R298, R302, R304). -/

namespace Sys2Proof.Machine

/-! ### Instructions that change their own core -/

/-- R302: an issued instruction that changes its core alone, as the core's type has it, passes to the next instruction. -/
theorem exec_onCore {s : State} {c : Fin 20} {j : Instr} {i : CoreInstr} {f g : CoreHid → CoreHid}
    (hexec : exec j s = .next (coreIssue c i s)) (hact : i.act c s = (s.onCore c f, .pass)) (hfg : ∀ k, f k = g k)
    (h : issues s c i = true) : exec j s = .next (s.passed c i (s.onCore c g)) := by
  obtain rfl : f = g := funext hfg
  rw [hexec, coreIssue_pass h hact]

/-! ### Numbers in an accumulator -/

/-- R291: a number lies outside an accumulator when it is not in its signed range. -/
theorem outside_iff {w : Nat} (hw : 0 < w) (v : Int) : outside w v = true ↔ ¬(-(2 ^ (w - 1)) ≤ v ∧ v < 2 ^ (w - 1)) := by
  have hself : (BitVec.ofInt w v).toInt = v ↔ -(2 ^ (w - 1)) ≤ v ∧ v < 2 ^ (w - 1) := by
    refine ⟨fun h => ?_, fun h => BitVec.toInt_ofInt_eq_self hw h.1 h.2⟩
    rw [← h]
    exact ⟨BitVec.le_toInt _, BitVec.toInt_lt⟩
  rw [outside, bne_iff_ne, ne_eq, hself]

/-- The width of an accumulator. -/
theorem accW_pos (c : Nat) : 0 < accW c := by
  unfold accW
  split <;> decide

/-- R291: an accumulating write wraps, and sets OV when its exact result lies outside. -/
theorem CoreHid.accumulate_eq (k : CoreHid) (c n : Nat) (v : Int) : k.accumulate (accW c) n v =
    { k with
      sr := if -(2 ^ (accW c - 1)) ≤ v ∧ v < 2 ^ (accW c - 1) then k.sr else k.sr ||| 1#32 <<< n
      a := modifyAt (fun _ => (BitVec.ofInt (accW c) v).toInt) n k.a } := by
  have ho := outside_iff (accW_pos c) v
  by_cases hv : -(2 ^ (accW c - 1)) ≤ v ∧ v < 2 ^ (accW c - 1)
  · rw [if_pos hv]
    exact congrArg (fun k : CoreHid => k.setA (accW c) n v) (if_neg fun h => ho.mp h hv)
  · rw [if_neg hv]
    exact congrArg (fun k : CoreHid => k.setA (accW c) n v) (if_pos (ho.mpr hv))

/-- R292: what MVA writes of a scaled number that may lie outside the 32-bit range. -/
theorem mva_saturates (k : CoreHid) (d i : Nat) (v : Int) :
    (if satS 32 v != v then k.flag i else k).setD d (toWord (satS 32 v)) =
      { k with
        sr := if -(2 ^ 31) ≤ v ∧ v < 2 ^ 31 then k.sr else k.sr ||| 1#32 <<< i
        d := modifyAt (fun _ => if v < -(2 ^ 31) then 0x80000000#32 else if 2 ^ 31 ≤ v then 0x7FFFFFFF#32 else BitVec.ofInt 32 v)
          d k.d } := by
  rw [toWord_satS]
  have hs := satS_eq_self_iff v
  by_cases hv : -(2 ^ 31) ≤ v ∧ v < 2 ^ 31
  · rw [if_pos hv, if_neg (by simpa using hs.mpr hv)]
    rfl
  · rw [if_neg hv, if_pos (by simpa using mt hs.mp hv)]
    rfl

/-- A sticky flag that is set on a condition changes SR alone. -/
theorem flag_of_bool (b : Bool) (k : CoreHid) (i : Nat) :
    (if b then k.flag i else k) = { k with sr := if b then k.sr ||| 1#32 <<< i else k.sr } := by
  cases b <;> rfl

@[inherit_doc flag_of_bool]
theorem flag_of_decide (p : Prop) [Decidable p] (k : CoreHid) (i : Nat) :
    (if decide p then k.flag i else k) = { k with sr := if p then k.sr ||| 1#32 <<< i else k.sr } := by
  rw [flag_of_bool]
  simp only [decide_eq_true_eq]

/-- R298: one step of non-restoring division. -/
theorem divStep_eq (a v : Int) :
    let r := a / 2 ^ 32
    let q := a % 2 ^ 32
    let up := decide ((0 ≤ r) = (0 ≤ v))
    let r' := if up then 2 * r - v else 2 * r + v
    divStep a v = (r' * 2 ^ 32 + q * 2 % 2 ^ 32 + (if up then 1 else 0), decide (v = 0 ∨ v.natAbs < r'.natAbs)) := by
  intro r q up r'
  have hup : (decide (0 ≤ r) == decide (0 ≤ v)) = up := by
    by_cases hr : 0 ≤ r <;> by_cases hv : 0 ≤ v <;> simp [up, hr, hv]
  have act : divStep a v = let up := decide (0 ≤ r) == decide (0 ≤ v)
      let r' := if up then 2 * r - v else 2 * r + v
      (r' * 2 ^ 32 + q * 2 % 2 ^ 32 + (if up then 1 else 0), decide (v = 0 ∨ v.natAbs < r'.natAbs)) := rfl
  rw [act, hup]

/-- R293: what MVD puts into an accumulator, by its PART. -/
theorem mvdPart_eq (w : Nat) (a : Int) (x : Word) (part : BitVec 2) : mvdPart w a x part.toNat =
    if part = 0 then x.toInt * 2 ^ 31
    else if part = 1 then a / 2 ^ 32 * 2 ^ 32 + x.toNat
    else if part = 2 then x.toInt * 2 ^ 32 + a % 2 ^ 32
    else (BitVec.ofNat (w - 64) x.toNat).toInt * 2 ^ 64 + a % 2 ^ 64 := by
  have hp (n : BitVec 2) : part = n ↔ part.toNat = n.toNat := BitVec.toNat_inj.symm
  simp only [hp]
  rfl

/-! ### Multiplies -/

/-- R302: a load of an M-format instruction: what it reads, and the unit that it steps. -/
theorem macLoad_cases (s : State) (c g : Nat) (on : Bool) (u : BitVec 3) (byG : Bool) (k : CoreHid) :
    (∀ f, on = true → dmRead s c (agAddrs k u.toNat g 0) = .error f → macLoad s c g on u byG k = .error f) ∧
    (∀ ws, (if on then dmRead s c (agAddrs k u.toNat g 0) = .ok ws else ws = []) → macLoad s c g on u byG k =
      .ok (ws, if on then agStep k u.toNat (if byG then g else k.t.getD u.toNat 0) else k)) := by
  refine ⟨fun f ho hr => ?_, fun ws hr => ?_⟩
  · unfold macLoad
    rw [if_pos ho, hr]
  · unfold macLoad
    cases on with
    | true =>
      rw [if_pos rfl] at hr
      rw [if_pos rfl, hr]
      rfl
    | false =>
      rw [if_neg nofun] at hr
      subst hr
      rfl

/-- R302, R304: an M-format instruction: its loads in turn, each of which may fail, and then both groups written. -/
theorem exec_macs {s : State} {c : Fin 20} {j : Instr} {i : CoreInstr} {op : Nat} {m : MacOps} {k1 : CoreHid}
    (hexec : exec j s = .next (coreIssue c i s)) (hact : i.act = opMacs op m)
    (hk : forEach (List.range (grpSize c)) (fun n k => macOne op c (grpSize c) m (s.core c) n k) (s.core c) = k1)
    (h : issues s c i = true) :
    let g := grpSize c
    let k2 := if m.l1 then agStep k1 m.l1u.toNat (if m.s1 then g else k1.t.getD m.l1u.toNat 0) else k1
    let k3 := if m.l2 then agStep k2 m.l2u.toNat (if m.s2 then g else k2.t.getD m.l2u.toNat 0) else k2
    (∀ f, m.l1 → dmRead s c (agAddrs k1 m.l1u.toNat g 0) = .error f → exec j s = .next (coreFault s c f)) ∧
    (∀ w1, (if m.l1 then dmRead s c (agAddrs k1 m.l1u.toNat g 0) = .ok w1 else w1 = []) →
      (∀ f, m.l2 → dmRead s c (agAddrs k2 m.l2u.toNat g 0) = .error f → exec j s = .next (coreFault s c f)) ∧
      (∀ w2, (if m.l2 then dmRead s c (agAddrs k2 m.l2u.toNat g 0) = .ok w2 else w2 = []) →
        exec j s = .next (s.passed c i (s.onCore c fun _ => macWrite g m.l2d w2 (macWrite g m.l1d w1 k3))))) := by
  subst hk
  intro g k2 k3
  let k1 := forEach (List.range g) (fun n k => macOne op c g m (s.core c) n k) (s.core c)
  have start {o : Except Nat (List Word × CoreHid)} (ho : macLoad s c g m.l1 m.l1u m.s1 k1 = o) : i.act c s =
      match (generalizing := false) o with
      | .error e => (s, .fault e)
      | .ok r1 => match macLoad s c g m.l2 m.l2u m.s2 r1.2 with
        | .error e => (s, .fault e)
        | .ok r2 => (s.onCore c fun _ => macWrite g m.l2d r2.1 (macWrite g m.l1d r1.1 r2.2), .pass) := by
    subst ho
    exact congrFun (congrFun hact c) s
  obtain ⟨fails1, reads1⟩ := macLoad_cases s c g m.l1 m.l1u m.s1 k1
  obtain ⟨fails2, reads2⟩ := macLoad_cases s c g m.l2 m.l2u m.s2 k2
  refine ⟨fun f ho hr => ?_, fun w1 h1 => ⟨fun f ho hr => ?_, fun w2 h2 => ?_⟩⟩
  · rw [hexec, coreIssue_fault h (start (fails1 f ho hr))]
  · have act := start (reads1 w1 h1)
    dsimp only at act
    rw [fails2 f ho hr] at act
    rw [hexec, coreIssue_fault h act]
  · have act := start (reads1 w1 h1)
    dsimp only at act
    rw [reads2 w2 h2] at act
    rw [hexec, coreIssue_pass h act]

/-- Settles O42. -/
theorem accumulatorInstructionsFollowTheDatapath : Obligations.AccumulatorInstructionsFollowTheDatapath := by
  unfold Obligations.AccumulatorInstructionsFollowTheDatapath
  intro s c d x a e part imm m w g sets acc shift mul macs
  have accumulates (k : CoreHid) (n : Nat) (v : Int) : k.accumulate (accW c) n v = acc k n v := k.accumulate_eq c n v
  refine ⟨?expa, ?norma, ?divs, fun rnd => ?mva, fun rnd hp => ?mvaPart, ?mvd, ?clr, ?mov, ?add, ?sub, ?neg, fun h1 h2 => ?shifts,
    fun hout h => ?freeShift, ?mac, ?msu, ?mpy, ?macx⟩
  case expa => exact exec_onCore rfl rfl fun _ => rfl
  case norma => exact exec_onCore rfl rfl fun _ => rfl
  case divs =>
    refine exec_onCore rfl rfl fun k => ?_
    dsimp only
    rw [divStep_eq, flag_of_decide]
    rfl
  case mva => exact exec_onRegs rfl rfl fun k => (if_pos rfl).trans (mva_saturates k d.toNat (8 + a.toNat) _)
  case mvaPart => exact exec_onRegs rfl rfl fun k => if_neg hp
  case mvd => exact exec_onCore rfl rfl fun k => congrArg (k.setA w a.toNat) (mvdPart_eq w (k.ac a.toNat) (k.r x) part)
  case clr =>
    refine exec_onCore rfl rfl fun k => ?_
    have h0 : (BitVec.ofInt (accW c) 0).toInt = 0 := BitVec.toInt_ofInt_eq_self (accW_pos c) (by simp) (by simp)
    rw [CoreHid.setA, h0]
  case mov => exact exec_onCore rfl rfl fun _ => rfl
  case add => exact exec_onCore rfl rfl fun k => accumulates k _ _
  case sub => exact exec_onCore rfl rfl fun k => accumulates k _ _
  case neg => exact exec_onCore rfl rfl fun k => accumulates k _ _
  case shifts => exact exec_onCore rfl (if_pos ⟨h1, h2⟩) fun k => if_congr Iff.rfl (accumulates k _ _) rfl
  case freeShift =>
    have hneg : ¬(-79 ≤ imm.toInt ∧ imm.toInt ≤ 79) := by omega
    refine ⟨s.draw.1.toNat + 2 ^ 32 * s.draw.2.draw.1.toNat + 2 ^ 64 * (s.draw.2.draw.2.draw.1.toNat % 2 ^ 16),
      s.draw.2.draw.2.draw.1.getLsbD 31, ?_⟩
    refine (congrArg Host.Outcome.next (coreIssue_pass h (if_neg hneg))).trans ?_
    exact congrArg (fun f => Host.Outcome.next (s.passed c (.accShift a e imm) (({ s with free := s.free + 3 } : State).onCore c f)))
      (funext fun k => congrArg (fun k : CoreHid => k.setA w a.toNat _) (flag_of_bool _ k a.toNat))
  case mac => exact exec_macs rfl rfl (congrArg (fun f => forEach _ f _) (funext₂ fun n k => accumulates k _ _))
  case msu => exact exec_macs rfl rfl (congrArg (fun f => forEach _ f _) (funext₂ fun n k => accumulates k _ _))
  case mpy => exact exec_macs rfl rfl (congrArg (fun f => forEach _ f _) (funext₂ fun n k => accumulates k _ _))
  case macx => exact exec_macs rfl rfl (congrArg (fun f => forEach _ f _) (funext₂ fun n k => accumulates k _ _))

end Sys2Proof.Machine
end

section
/-! PROOFS. Memory, pointers, control registers, control flow and signals of a core (R289, R299-R311, R314). -/

namespace Sys2Proof.Machine

/-! ### Changes of a core -/

/-- Two changes of an element that agree on what it is are the same. -/
theorem modifyAt_congr {α : Type} {f g : α → α} (d : α) : ∀ (n : Nat) (l : List α), f (l.getD n d) = g (l.getD n d) →
    modifyAt f n l = modifyAt g n l
  | n, [], _ => by cases n <;> rfl
  | 0, x :: t, h => congrArg (· :: t) h
  | n + 1, x :: t, h => congrArg (x :: ·) (modifyAt_congr d n t h)

/-- Two changes of a core that agree on what it holds are the same. -/
theorem State.onCore_congr {s : State} {c : Nat} {f g : CoreHid → CoreHid} (h : f (s.core c) = g (s.core c)) :
    s.onCore c f = s.onCore c g := congrArg (fun l => { s with cores := l }) (modifyAt_congr CoreHid.reset c s.cores h)

/-- A change of a core to what it is is none. -/
theorem State.onCore_id (s : State) (c : Nat) : s.onCore c id = s := by
  have hid : modifyAt id c s.cores = s.cores := by rw [modifyAt_eq_modify, List.modify_id]
  exact congrArg (fun l => { s with cores := l }) hid

/-! ### Ends of an instruction -/

/-- R307: a LOOP that skips its body takes one cycle. -/
theorem coreIssue_skip {s t : State} {c : Fin 20} {n : LoopBy} {len : BitVec 10} {m : Nat} (h : issues s c (.loop n len) = true)
    (ha : opLoop n len c s = (t, .skip m)) :
    coreIssue c (.loop n len) s = s.retired c (.loop n len) 1 (t.onCore c (CoreHid.advance m)) := by
  rw [coreIssue_issues h]
  simp only [coreExec, CoreInstr.act, ha, coreEnd, coreCycles, State.retired, stalls, Nat.add_zero, Nat.add_assoc]

/-- R311: a WAIT that waits. -/
theorem coreIssue_hold {s t : State} {c : Fin 20} {x : BitVec 5} {m : Word} (h : issues s c (.wait x) = true)
    (ha : opWait x c s = (t, .hold m)) : coreIssue c (.wait x) s =
      s.retired c (.wait x) 1 ((t.onCore c fun k => { k with mask := m, busy := 0 }).setSt (P.core c) 4) := by
  rw [coreIssue_issues h]
  simp only [coreExec, CoreInstr.act, ha, coreEnd, coreCycles, State.retired, stalls, Nat.add_zero, Nat.add_assoc]

/-- R305: HALT. -/
theorem coreIssue_halt {s : State} {c : Fin 20} (h : issues s c .halt = true) :
    coreIssue c .halt s = s.retired c .halt 1 ((s.setSt (P.core c) 6).raise (P.core c) 0) := by
  rw [coreIssue_issues h]
  simp only [coreExec, CoreInstr.act, opHalt, coreEnd, coreCycles, State.retired, stalls, Nat.add_zero, Nat.add_assoc]

/-! ### Loads and stores -/

/-- R299: the address of an access of one word. -/
theorem agAddrs_one (k : CoreHid) (u : Nat) (j : Int) : agAddrs k u 1 j = [agAddr k u (k.p.getD u 0) j] :=
  congrArg (fun i => [agAddr k u (k.p.getD u 0) i]) (Int.add_zero j)

/-- R299: the addresses of an access of a group. -/
theorem agAddrs_group (k : CoreHid) (u n : Nat) :
    agAddrs k u n 0 = (List.range n).map fun i => agAddr k u (k.p.getD u 0) i := by
  simp only [agAddrs, Int.zero_add]

/-- R299: what a load ends with, by what its addresses read. -/
theorem load_cases (s : State) (c d : Nat) (addrs : CoreHid → List Nat) (post : CoreHid → CoreHid) :
    (∀ f, dmRead s c (addrs (s.core c)) = .error f → load d addrs post c s = (s, .fault f)) ∧
    (∀ ws, dmRead s c (addrs (s.core c)) = .ok ws → load d addrs post c s =
      (s.onCore c fun k => post (forEach (ws.mapIdx fun i w => (i, w)) (fun e k => k.setD (d + e.1) e.2) k), .pass)) := by
  refine ⟨fun f hr => ?_, fun ws hr => ?_⟩
  all_goals
    unfold load
    rw [hr]

/-- R299: what a store ends with, by where its addresses lie. -/
theorem store_cases (s : State) (c x : Nat) (addrs : CoreHid → List Nat) (post : CoreHid → CoreHid) :
    (¬(∀ a ∈ addrs (s.core c), a < dmWords c) → store x addrs post c s = (s, .fault 3)) ∧
    ((∀ a ∈ addrs (s.core c), a < dmWords c) → store x addrs post c s =
      ((dmWrite s c ((addrs (s.core c)).mapIdx fun i a => (a, (s.core c).dr (x + i)))).onCore c post, .pass)) := by
  have hany : (addrs (s.core c)).any (fun a => decide (dmWords c ≤ a)) = true ↔ ¬∀ a ∈ addrs (s.core c), a < dmWords c := by
    simp only [List.any_eq_true, decide_eq_true_eq, not_forall, not_lt, exists_prop]
  exact ⟨fun h => if_pos (hany.mpr h), fun h => if_neg fun hb => hany.mp hb h⟩

/-- R299, R322: reading data memory word by word. -/
theorem dmRead_cases (s : State) (c a : Nat) (l : List Nat) :
    (dmWords c ≤ a → dmRead s c (a :: l) = .error 3) ∧
    (a < dmWords c → s.bad.contains (dmByte c a) → dmRead s c (a :: l) = .error 5) ∧
    (a < dmWords c → s.bad.contains (dmByte c a) = false → dmRead s c [a] = .ok [wordAt s.mem (dmByte c a)]) :=
  ⟨fun h => if_pos h, fun h hb => (if_neg (Nat.not_le.mpr h)).trans (if_pos hb),
    fun h hb => (if_neg (Nat.not_le.mpr h)).trans ((if_neg (ne_true_of_eq_false hb)).trans rfl)⟩

/-! ### Branches -/

/-- R306: the conditions of a branch that is legal. -/
theorem condHolds_iff {q : BitVec 4} (hq : ¬(8 ≤ q.toNat ∧ q.toNat ≠ 15)) (x y : Word) : condHolds q x y = true ↔
    (q = 0 ∧ x = y) ∨ (q = 1 ∧ x ≠ y) ∨ (q = 2 ∧ x.toInt < y.toInt) ∨ (q = 3 ∧ y.toInt ≤ x.toInt) ∨
      (q = 4 ∧ x.toNat < y.toNat) ∨ (q = 5 ∧ y.toNat ≤ x.toNat) ∨ (q = 6 ∧ x &&& y ≠ 0) ∨ (q = 7 ∧ x &&& y = 0) ∨ q = 15 := by
  have hcases : q = 0 ∨ q = 1 ∨ q = 2 ∨ q = 3 ∨ q = 4 ∨ q = 5 ∨ q = 6 ∨ q = 7 ∨ q = 15 := by bv_omega
  rcases hcases with rfl | rfl | rfl | rfl | rfl | rfl | rfl | rfl | rfl <;> simp [condHolds]

/-- R309: a branch that issues names a condition. -/
theorem cond_of_issues {s : State} {c : Nat} {x y : BitVec 5} {q : BitVec 4} {off : BitVec 12} (h : issues s c (.b x y q off) = true) :
    ¬(8 ≤ q.toNat ∧ q.toNat ≠ 15) := by
  simp only [issues, CoreInstr.legal, CoreInstr.barred, Bool.and_eq_true, Bool.not_eq_true', decide_eq_false_iff_not] at h
  obtain ⟨-, hq, -⟩ := h
  exact hq

/-! ### Loops -/

/-- R307: a LOOP whose count is 0 skips its body. -/
theorem opLoop_of_count_zero {s : State} {c : Nat} {n : LoopBy} (h : loopCount (s.core c) n = 0) (len : BitVec 10) :
    opLoop n len c s = (s, .skip (len.toNat + 1)) := by
  cases n <;> exact if_pos h

/-- R307: where the instruction after another lies, with the loops that are active. -/
theorem advance_cases (k : CoreHid) :
    (k.loops = [] → k.advance 1 = { k with pc := k.pc + 1 }) ∧
    (∀ l t, k.loops = l :: t → l.last = k.pc → 2 ≤ l.count →
      k.advance 1 = { k with pc := l.first, loops := { l with count := l.count - 1 } :: t }) ∧
    (∀ l t, k.loops = l :: t → l.last ≠ k.pc → k.advance 1 = { k with pc := k.pc + 1 }) := by
  have hpc : k.pc + (1 : Nat) - 1 = k.pc := by omega
  have act {r : List CoreLoop × Int} (h : loopsAfter k.pc k.loops = r) : k.advance 1 = { k with loops := r.1, pc := r.2 } := by
    subst h
    rw [CoreHid.advance, hpc]
  refine ⟨fun hl => ?_, fun l t hl he hc => ?_, fun l t hl he => ?_⟩
  · rw [act (r := ([], k.pc + 1)) (by rw [hl]; rfl), ← hl]
  · exact act (r := ({ l with count := l.count - 1 } :: t, l.first)) (by rw [hl]; exact (if_pos he).trans (if_pos hc))
  · rw [act (r := (l :: t, k.pc + 1)) (by rw [hl]; exact if_neg he), ← hl]

/-- Settles O43. -/
theorem memoryAndFlowInstructionsAct : Obligations.MemoryAndFlowInstructionsAct := by
  unfold Obligations.MemoryAndFlowInstructionsAct
  intro s c d x y u m off17 tsel k p g home step inDm group
  have hstep : (fun k => agStep k u.toNat (stepBy k u.toNat m)) = step := by cases m <;> rfl
  have one (j : Int) : agAddrs k u.toNat 1 j = [home k j] := agAddrs_one k u.toNat j
  have grp : agAddrs k u.toNat g 0 = group := agAddrs_group k u.toNat g
  have passes {j : Instr} {i : CoreInstr} {t : State} (hexec : exec j s = .next (coreIssue c i s)) (h : issues s c i = true)
      (ha : i.act c s = (t, .pass)) : exec j s = .next (s.passed c i t) := hexec.trans (congrArg Host.Outcome.next (coreIssue_pass h ha))
  have faults {j : Instr} {i : CoreInstr} {f : Nat} (hexec : exec j s = .next (coreIssue c i s)) (h : issues s c i = true)
      (ha : i.act c s = (s, .fault f)) : exec j s = .next (coreFault s c f) :=
    hexec.trans (congrArg Host.Outcome.next (coreIssue_fault h ha))
  have ld := load_cases s c d.toNat (fun k => agAddrs k u.toNat 1 0) fun k => agStep k u.toNat (stepBy k u.toNat m)
  have ldx := load_cases s c d.toNat (fun k => agAddrs k u.toNat 1 off17.toInt) id
  have ldg := load_cases s c d.toNat (fun k => agAddrs k u.toNat g 0) fun k => agStep k u.toNat (stepBy k u.toNat m)
  have st := store_cases s c x.toNat (fun k => agAddrs k u.toNat 1 0) fun k => agStep k u.toNat (stepBy k u.toNat m)
  have stx := store_cases s c x.toNat (fun k => agAddrs k u.toNat 1 off17.toInt) id
  have stg := store_cases s c x.toNat (fun k => agAddrs k u.toNat g 0) fun k => agStep k u.toNat (stepBy k u.toNat m)
  simp only [show s.core c = k from rfl, one, grp, hstep] at ld ldx ldg st stx stg
  refine ⟨fun w h hr => ?ld, fun w h hr => ?ldx, fun ws h hr => ?ldg, fun f => ⟨fun h hr => ?_, fun h hr => ?_, fun h hr => ?_⟩,
    fun h hn => faults rfl h (st.1 hn), fun h hn => faults rfl h (stx.1 hn), fun h hn => faults rfl h (stg.1 hn),
    fun a l => (dmRead_cases s c a l).1, fun a l => (dmRead_cases s c a l).2.1, fun a => (dmRead_cases s c a []).2.2,
    fun h hi => ?st, fun h hi => ?stx, fun h hi => ?stg, fun h => ?padv, fun reg h => ?mvc, fun h => ?sr, fun h => ?scale, fun h => ?purev,
    fun h => passes rfl h rfl, fun reg h1 h2 h7 h => ?reserved, fun reg h2 h => ?units, fun cond off h => ?branch,
    fun t h => ?jmp, fun t h hc => ?call, fun t l h hc => ?ret, fun n len h => ?loop, fun h => ?wait, fun t bits h => passes rfl h rfl,
    fun bits h => passes rfl h rfl, fun bits h => passes rfl h rfl, fun h => ?done, fun h => ?halt, advance_cases k⟩
  case ld => exact passes rfl h (ld.2 [w] hr)
  case ldx => exact passes rfl h (ldx.2 [w] hr)
  case ldg => exact passes rfl h (ldg.2 ws hr)
  · exact faults rfl h (ld.1 f hr)
  · exact faults rfl h (ldx.1 f hr)
  · exact faults rfl h (ldg.1 f hr)
  case st => exact passes rfl h (st.2 hi)
  case stx => exact passes rfl h ((stx.2 hi).trans (congrArg (·, CoreEnd.pass) (State.onCore_id _ c)))
  case stg => exact passes rfl h (stg.2 hi)
  case padv => exact passes rfl h (congrArg (fun f => (s.onCore c f, CoreEnd.pass)) hstep)
  case mvc =>
    refine passes rfl h (congrArg (fun f => (s.onCore c f, CoreEnd.pass)) (funext fun k => ?_))
    dsimp only
    split
    · rfl
    · split <;> rfl
  case sr => exact passes rfl h (congrArg (·, CoreEnd.pass) (State.onCore_congr rfl))
  case scale =>
    refine passes rfl h (congrArg (·, CoreEnd.pass) (State.onCore_congr ?_))
    exact congrArg (fun v : BitVec 4 => { k with scale := scaleOf v.toInt }) (BitVec.ofNat_toNat 4 (k.r x))
  case purev => exact passes rfl h (congrArg (·, CoreEnd.pass) (State.onCore_congr rfl))
  case reserved =>
    have h7' : reg.toNat ≠ 0x07 := fun he => h7 (BitVec.eq_of_toNat_eq he)
    have hact : (CoreInstr.mvcs x reg).act c s = (s.onCore c id, .pass) := by
      refine (if_neg h7').trans (congrArg (fun f => (s.onCore c f, CoreEnd.pass)) (funext fun k => ?_))
      exact (if_neg (by omega)).trans ((if_neg (by omega)).trans ((if_neg (by omega)).trans (if_pos h2)))
    exact passes rfl h (hact.trans (congrArg (·, CoreEnd.pass) (State.onCore_id s c)))
  case units =>
    have hact : (CoreInstr.mvcs x reg).act c s =
        (s.onCore c fun k => k.setPu ((reg.toNat - 0x20) / 8) (reg.toNat % 8) ((s.core c).r x), .pass) := by
      refine (if_neg (by omega)).trans (congrArg (fun f => (s.onCore c f, CoreEnd.pass)) (funext fun k => ?_))
      exact (if_neg (by omega)).trans ((if_neg (by omega)).trans ((if_neg (by omega)).trans (if_neg (by omega))))
    exact passes rfl h (hact.trans (congrArg (·, CoreEnd.pass) (State.onCore_congr rfl)))
  case branch =>
    have hq := condHolds_iff (cond_of_issues h) (k.r x) (k.r y)
    by_cases hb : condHolds cond (k.r x) (k.r y) = true
    · refine Eq.trans ?_ (congrArg Host.Outcome.next (if_pos (hq.mp hb)).symm)
      have act : (CoreInstr.b x y cond off).act c s = (s, .jump (k.pc + 1 + off.toInt)) := congrArg (Prod.mk s) (if_pos hb)
      exact congrArg Host.Outcome.next (coreIssue_jump h act nofun)
    · refine Eq.trans ?_ (congrArg Host.Outcome.next (if_neg (mt hq.mpr hb)).symm)
      exact passes rfl h (congrArg (Prod.mk s) (if_neg hb))
  case jmp => exact congrArg Host.Outcome.next (coreIssue_jump h rfl nofun)
  case call =>
    rw [exec_coreCall_room h hc, onCore_onCore]
  case ret =>
    have hcalls : (s.onCore c fun k => { k with calls := k.calls.tail }) = s.onCore c fun k => { k with calls := l } :=
      State.onCore_congr (congrArg (fun l => { k with calls := l }) (congrArg List.tail hc))
    rw [exec_coreRet_top h hc, hcalls]
    rfl
  case loop =>
    intro count
    have hcount : count = loopCount k n := by cases n <;> rfl
    refine ⟨fun h0 => ?_, fun h0 hroom => ?_⟩
    · exact congrArg Host.Outcome.next (coreIssue_skip h (opLoop_of_count_zero (hcount.symm.trans h0) len))
    · rw [exec_coreLoop_room h (hcount ▸ h0) hroom, onCore_onCore, hcount]
      exact congrArg (fun t => Host.Outcome.next (s.retired c (.loop n len) 1 t)) (State.onCore_congr rfl)
  case wait =>
    by_cases hm : s.rd (p + 0x4C) &&& k.r x ≠ 0
    · exact (passes rfl h (congrArg (Prod.mk s) (if_pos hm))).trans (congrArg Host.Outcome.next (if_pos hm).symm)
    · refine Eq.trans ?_ (congrArg Host.Outcome.next (if_neg hm).symm)
      refine congrArg Host.Outcome.next ((coreIssue_hold h (congrArg (Prod.mk s) (if_neg hm))).trans ?_)
      exact congrArg (fun t => s.retired c (.wait x) 1 (State.setSt t p 4)) (State.onCore_congr rfl)
  case done =>
    refine passes rfl h ?_
    by_cases hd : s.dsp.checked ∨ k.done
    · rw [if_pos hd]
      exact if_pos hd
    · rw [if_neg hd]
      exact if_neg hd
  case halt => exact congrArg Host.Outcome.next (coreIssue_halt h)

end Sys2Proof.Machine
end

section
/-! PROOFS. Faults and control of the cores (R309, R310, R317, R320-R323). -/

namespace Sys2Proof.Machine

/-! ### Instructions that do not issue -/

/-- The core instruction of an instruction, read off a table of them. -/
theorem exec_of_table {s : State} {c : Fin 20} {l : List (Instr × CoreInstr)} {j : Instr × CoreInstr}
    (h : l.map (fun j => exec j.1 s) = l.map fun j => Host.Outcome.next (coreIssue c j.2 s)) (hj : j ∈ l) :
    exec j.1 s = .next (coreIssue c j.2 s) :=
  List.map_inj_left.mp h j hj

/-- R321: a core that is not running, or has no clock, issues nothing. -/
theorem coreIssue_idle {s : State} {c : Fin 20} (h : coreLive s c = false) (i : CoreInstr) : coreIssue c i s = s :=
  if_neg (ne_true_of_eq_false h)

/-- R322: the PC beyond program memory, a word in error, and an instruction the core does not have. -/
theorem coreIssue_cases {s : State} {c : Fin 20} (h : coreLive s c = true) (i : CoreInstr) :
    (¬(0 ≤ (s.core c).pc ∧ (s.core c).pc < pmWords c) → coreIssue c i s = coreFault s c 2) ∧
    (0 ≤ (s.core c).pc ∧ (s.core c).pc < pmWords c → s.bad.contains (pmBase c + 4 * (s.core c).pc.toNat) = true →
      coreIssue c i s = coreFault s c 4) ∧
    (0 ≤ (s.core c).pc ∧ (s.core c).pc < pmWords c → s.bad.contains (pmBase c + 4 * (s.core c).pc.toNat) = false →
      i.legal c = false → coreIssue c i s = coreFault s c 1) := by
  have hrun : coreIssue c i s = coreAt c (some i) s := if_pos h
  rw [hrun]
  refine ⟨fun hpc => if_pos (by omega), fun hpc hb => (if_neg (by omega)).trans (if_pos hb), fun hpc hb hl => ?_⟩
  exact (if_neg (by omega)).trans ((if_neg (ne_true_of_eq_false hb)).trans (if_neg (ne_true_of_eq_false hl)))

/-- R309: a destination or a source beyond the registers of a Worker. -/
theorem legal_add_worker {c : Nat} {d x y : BitVec 5} (hc : isQueen c = false)
    (h : 16 ≤ d.toNat ∨ 16 ≤ x.toNat ∨ 16 ≤ y.toNat) : CoreInstr.legal c (.add d x y) = false := by
  simp only [CoreInstr.legal, CoreInstr.barred, hc, CoreInstr.dRegs, CoreInstr.aRegs, List.all_cons, List.all_nil]
  simp only [Bool.not_false, Bool.true_and, Bool.false_or, Bool.and_true, Bool.and_eq_false_iff, decide_eq_false_iff_not]
  omega

/-! ### The control bits -/

/-- R320: the control bits that a write sets, the named one among them. -/
theorem bit_or_shift (v : Word) {b k : Nat} (hk : k < 32) : bit (v ||| 1#32 <<< b) k = (bit v k || decide (k = b)) := by
  simp only [bit, BitVec.getLsbD_or, BitVec.getLsbD_shiftLeft, BitVec.getLsbD_one]
  congr 1
  rw [Bool.eq_iff_iff]
  simp only [Bool.and_eq_true, Bool.not_eq_true', decide_eq_true_eq, decide_eq_false_iff_not]
  omega

/-- R320: the control bits of a write that sets one. -/
theorem ctlBits_one {v : Word} {b : Nat} (hb : b < 6) (h : ¬∃ k < 6, k ≠ b ∧ bit v k = true) :
    (List.range 6).filter (fun k => bit (v ||| 1#32 <<< b) k) = [b] := by
  have hone : ∀ k ∈ List.range 6, bit (v ||| 1#32 <<< b) k = decide (k = b) := by
    intro k hk
    rw [List.mem_range] at hk
    rw [bit_or_shift v (by omega), Bool.or_eq_right_iff_imp, decide_eq_true_eq]
    exact fun hv => not_not.mp fun hne => h ⟨k, hk, hne, hv⟩
  rw [List.filter_congr hone]
  interval_cases b <;> rfl

/-- R320: a write of one control bit acts in the states that accept it. -/
theorem coreCtrlWrite_one {v : Word} {b : Nat} (hb : b < 6) (h : ¬∃ k < 6, k ≠ b ∧ bit v k = true) (r : Req) (c : Nat) (t : State) :
    coreCtrlWrite r c (v ||| 1#32 <<< b) t =
      if isHost r ∧ t.isSet (P.core c) F.W_CFG_SVC then (.state, t)
      else if !ctlAccepts (coreSt t c) b then (.state, t)
      else if b = 0 ∧ pmBusy t c then (.busy, t)
      else (.done, coreCtl t c b) := by
  unfold coreCtrlWrite
  rw [ctlBits_one hb h]

/-- R320: several control bits in one write. -/
theorem coreCtrlWrite_many {v : Word} {b : Nat} (hb : b < 6) (h : ∃ k < 6, k ≠ b ∧ bit v k = true) (r : Req) (c : Nat) (t : State) :
    coreCtrlWrite r c (v ||| 1#32 <<< b) t = (.range, t) := by
  obtain ⟨k, hk, hne, hv⟩ := h
  have hmem {n : Nat} (hn : n < 6) (hset : bit (v ||| 1#32 <<< b) n = true) :
      n ∈ (List.range 6).filter fun k => bit (v ||| 1#32 <<< b) k := List.mem_filter.mpr ⟨List.mem_range.mpr hn, hset⟩
  have hbm := hmem hb (by rw [bit_or_shift v (by omega), decide_eq_true rfl, Bool.or_true])
  have hkm := hmem hk (by rw [bit_or_shift v (by omega), hv, Bool.true_or])
  unfold coreCtrlWrite
  split
  next hl => exact absurd (hl ▸ hbm) List.not_mem_nil
  next x hl =>
    rw [hl, List.mem_singleton] at hbm hkm
    exact absurd (hkm.trans hbm.symm) hne
  next => rfl

/-- Settles O45. -/
theorem coresFaultAndObeyTheirCommands : Obligations.CoresFaultAndObeyTheirCommands := by
  unfold Obligations.CoresFaultAndObeyTheirCommands
  intro s c p live inPm
  refine ⟨?issue, fun d x y hc h => legal_add_worker hc h, fun hc a x => ?divs, fun d u off => ⟨rfl, rfl⟩, fun n => rfl,
    fun x y o => ⟨rfl, rfl⟩, ?control, rfl, ?watchdog, ?events⟩
  case issue =>
    intro d x y a e u part rnd tsel n m g l q reg i8 i10 i12 i16 i17 j hj bad
    have hexec := exec_of_table (s := s) (c := c) rfl hj
    refine ⟨fun h => ?_, fun h hn => ?_, fun h hi hb => ?_, fun h hi hb hl => ?_⟩ <;> refine hexec.trans (congrArg Host.Outcome.next ?_)
    · exact coreIssue_idle h j.2
    · exact (coreIssue_cases h j.2).1 hn
    · exact (coreIssue_cases h j.2).2.1 hi hb
    · exact (coreIssue_cases h j.2).2.2 hi hb hl
  case divs =>
    simp only [CoreInstr.legal, CoreInstr.barred, hc, Bool.not_false, Bool.not_true, Bool.false_and]
  case control =>
    intro r v a t refused begun good hs e he many okay waits
    have hrow : exec e.1 s = .next (coreCtlRow r c e.2.1 v s) ∧ e.2.1 < 6 ∧
        (ctlAccepts (coreSt t c) e.2.1 = true ↔ coreSt t c ∈ e.2.2.1) ∧ coreCtl t c e.2.1 = e.2.2.2 := by
      simp only [List.mem_cons, List.not_mem_nil, or_false] at he
      rcases he with rfl | rfl | rfl | rfl | rfl | rfl <;> exact ⟨rfl, by dsimp only; decide, by simp [ctlAccepts, or_assoc], rfl⟩
    obtain ⟨hexec, hb, hacc, hctl⟩ := hrow
    have hokay : okay ↔ ¬(isHost r = true ∧ t.isSet (P.core c) F.W_CFG_SVC = true) ∧ ctlAccepts (coreSt t c) e.2.1 = true := by
      rw [hacc, not_and_or, Bool.not_eq_true, Bool.not_eq_true]
    refine ⟨fun hm => ?_, fun hm ho => ?_, fun hm ho hw => ?_, fun hm ho hw => ?_⟩ <;> refine hexec.trans ?_
    · exact next_hostWrite_refused hs (coreCtrlWrite_many hb hm r c t) nofun
    · refine next_hostWrite_refused hs ((coreCtrlWrite_one hb hm r c t).trans ?_) nofun
      by_cases hsvc : isHost r = true ∧ t.isSet (P.core c) F.W_CFG_SVC = true
      · exact if_pos hsvc
      · exact (if_neg hsvc).trans (if_pos ((Bool.not_eq_true' _).mpr (Bool.eq_false_iff.mpr fun h => ho (hokay.mpr ⟨hsvc, h⟩))))
    all_goals
      obtain ⟨hsvc, hst⟩ := hokay.mp ho
      have hrest := (coreCtrlWrite_one hb hm r c t).trans ((if_neg hsvc).trans (if_neg (by simp only [hst, Bool.not_true]; decide)))
    · exact next_hostWrite_refused hs (hrest.trans (if_pos hw)) nofun
    · exact next_hostWrite_done hs (hrest.trans ((if_neg hw).trans (congrArg (Prod.mk Code.done) hctl)))
  case watchdog =>
    intro dog
    refine ⟨fun h hd hb => if_pos ⟨h, hd, hb⟩, fun h => if_neg ?_⟩
    rintro ⟨hl, hd, hb⟩
    rcases h with h | h | h
    · exact ne_true_of_eq_false h hl
    · exact hd h
    · exact Nat.not_lt.mpr hb h
  case events =>
    intro r bits t hs
    have hbits : (bits.setWidth 32 <<< 24) &&& 0xFF000000#32 = bits.setWidth 32 <<< 24 := by
      revert bits
      decide
    have hact : coreWrite r c 0x50 (bits.setWidth 32 <<< 24) t = (.done, if t.st p = 0 then t else evtSet t c (bits.setWidth 32 <<< 24)) := by
      rw [coreWrite, if_neg (by decide), if_neg (by decide), if_pos rfl, hbits]
      rfl
    refine ⟨fun h => ?_, fun h => ?_⟩
    · exact next_hostWrite_done hs (hact.trans (congrArg (Prod.mk Code.done) (if_neg h)))
    · exact next_hostWrite_done hs (hact.trans (congrArg (Prod.mk Code.done) (if_pos h)))

end Sys2Proof.Machine
end

section
/-! PROOFS. The cues (R336-R341, R347). -/

namespace Sys2Proof.Machine

/-! ### Words -/

/-- A bit of a word that a mask shows clear. -/
theorem bit_of_and_eq_zero {w m : Word} {i : Nat} (h : w &&& m = 0) (hm : bit m i = true) : bit w i = false := by
  have hand := congrArg (fun v : Word => v.getLsbD i) h
  simpa [bit, show m.getLsbD i = true from hm] using hand

/-- A field whose bits are clear. -/
theorem getField_eq_zero {w : Word} {hi lo : Nat} (h : ∀ i, lo ≤ i → i ≤ hi → bit w i = false) : getField w hi lo = 0 := by
  apply Nat.eq_of_testBit_eq
  intro i
  rw [getField, Nat.testBit_mod_two_pow, Nat.testBit_shiftRight, Nat.zero_testBit, Bool.and_eq_false_iff]
  by_cases hi' : lo + i ≤ hi
  · exact .inr (h (lo + i) (Nat.le_add_right lo i) hi')
  · exact .inl (decide_eq_false (by omega))

/-- A bit that a mask shows clear, after a store of another. -/
theorem bit_setField_of_mask {w m : Word} {i k : Nat} (h : w &&& m = 0) (hk : i ≠ k) (hm : bit m i = true) :
    bit (setField w k k 1) i = false :=
  (bit_setField_apart (Nat.lt_or_gt_of_ne hk) w 1).trans (bit_of_and_eq_zero h hm)

/-- A field that a mask shows clear, after a store of a field above it. -/
theorem getField_setField_of_mask {w m : Word} {hi lo k : Nat} (h : w &&& m = 0) (hk : hi < k)
    (hm : ∀ i < k, lo ≤ i → i ≤ hi → bit m i = true) : getField (setField w k k 1) hi lo = 0 :=
  (getField_setField_apart (.inl hk) w 1).trans
    (getField_eq_zero fun i h1 h2 => bit_of_and_eq_zero h (hm i (Nat.lt_of_le_of_lt h2 hk) h1 h2))

/-! ### The window -/

/-- R337: a word of the window belongs to a cue of the requester's bank. -/
theorem cueWindowWrite_at (r : Req) (k w : Nat) (hw : w < 8) (v : Word) (t : State) :
    cueWindowWrite r (0x800 + 32 * k + 4 * w) v t = cueWrite r (64 * bankOf t r + k) w v t := by
  have hk : (0x800 + 32 * k + 4 * w - 0x800) / 32 = k := by omega
  have hi : (0x800 + 32 * k + 4 * w - 0x800) % 32 / 4 = w := by omega
  rw [cueWindowWrite, hk, hi]

/-- R337: a write of a cue's control word that the checks pass, and one that they refuse. -/
theorem next_cueCtrlRow {s : State} {r : Req} {k : Fin 64} (hs : served s r (cueAddr k 7) = true) (v : Word) :
    let a := cueAddr k 7
    let t := s.wakeFor a
    let j := 64 * bankOf t r + k.val
    let h := cueHeld t r j
    let u := if h = [] then t else t.onWag fun g => { g with holds := alDel g.holds r }
    (cueJudge (cueAt u j) v h = .done → (Host.Outcome.next (cueCtrlRow r k v s) : Host.Outcome State Fault Refusal) =
      .next ((setCue u j (cueCommitted (cueAt u j) v h)).answered .done)) ∧
    (∀ c, c ≠ .done → cueJudge (cueAt u j) v h = c → (Host.Outcome.next (cueCtrlRow r k v s) : Host.Outcome State Fault Refusal) =
      .next ((u.refuseAt r 0xFF a c).answered c)) := by
  intro a t j h u
  have hact : cueWindowWrite r (0x800 + 32 * k + 28) v t = cueCommit j v h u :=
    cueWindowWrite_at r k 7 (by decide) v t
  exact ⟨fun hd => next_hostWrite_done hs (hact.trans (if_pos hd)),
    fun c hc hj => next_hostWrite_refused hs (hact.trans ((if_neg (hj ▸ hc)).trans (congrArg (Prod.mk · u) hj))) hc⟩

/-! ### What a commit makes of a cue -/

/-- R337: FREE alone passes the checks. -/
theorem cueJudge_free {w : Word} (h28 : bit w 28 = true) (h27 : bit w 27 = false) (h26 : bit w 26 = false) (c : Cue)
    (h : List (Nat × Word)) : cueJudge c w h = .done := by
  have hone : ¬1 < b2n (bit w 28) + b2n (bit w 27) + b2n (bit w 26) := by rw [h28, h27, h26]; decide
  exact (if_neg hone).trans (if_pos h28)

/-- R337: ARM or DISARM of a cue that is defined, with no words held. -/
theorem cueJudge_known {w : Word} (h28 : bit w 28 = false) (hone : bit w 27 = false ∨ bit w 26 = false) (h5 : getField w 5 4 = 0)
    (h1 : getField w 1 0 = 0) {c : Cue} (hst : c.st ≠ 0) (ha : badAction c.act c.arg = false) : cueJudge c w [] = .done := by
  have hsum : ¬1 < b2n (bit w 28) + b2n (bit w 27) + b2n (bit w 26) := by
    rw [h28]
    cases h27 : bit w 27 <;> cases h26 : bit w 26 <;> simp_all [b2n]
  refine (if_neg hsum).trans ((if_neg (ne_true_of_eq_false h28)).trans ((if_neg ?_).trans (if_neg fun h => hst h.1)))
  rintro (h | h | h)
  · omega
  · omega
  · exact ne_true_of_eq_false ha h

/-- R337: no words held leave a cue's words as they are. -/
theorem withWords_nil (c : Cue) : withWords c [] = c := by
  have hthr : ((c.thr >>> 32).setWidth 32 : Word).append (c.thr.setWidth 32) = c.thr := by
    apply BitVec.eq_of_getLsbD_eq
    intro i hi
    rw [show ((c.thr >>> 32).setWidth 32 : Word).append (c.thr.setWidth 32) = (c.thr >>> 32).setWidth 32 ++ c.thr.setWidth 32 from rfl]
    simp only [BitVec.getLsbD_append, BitVec.getLsbD_setWidth, BitVec.getLsbD_ushiftRight]
    by_cases h : i < 32
    · simp [h]
    · have hi' : i - 32 < 32 := by omega
      have hsum : 32 + (i - 32) = i := by omega
      simp [h, hi', hsum]
  exact congrArg (fun x => { c with thr := x }) hthr

/-- R337: ARM of a cue that is not armed. -/
theorem cueCommitted_arm {w : Word} (h28 : bit w 28 = false) (h27 : bit w 27 = true) {c : Cue} (hst : c.st ≠ 2) :
    cueCommitted c w [] = { c with ctrl := w &&& 0xF3#32, st := 2, side := none } := by
  refine (if_neg (ne_true_of_eq_false h28)).trans ?_
  rw [withWords_nil]
  exact if_pos ⟨h27, hst⟩

/-- R337: DISARM of a cue that is defined. -/
theorem cueCommitted_disarm {w : Word} (h28 : bit w 28 = false) (h27 : bit w 27 = false) (h26 : bit w 26 = true) {c : Cue}
    (hst : c.st ≠ 0) : cueCommitted c w [] = { c with ctrl := w &&& 0xF3#32, st := 1 } := by
  refine (if_neg (ne_true_of_eq_false h28)).trans ?_
  rw [withWords_nil]
  exact (if_neg fun h => ne_true_of_eq_false h27 h.1).trans (if_pos ⟨h26, hst⟩)

/-! ### Deferred actions -/

/-- R341: no deferred actions are taken up. -/
theorem deferredActs_nil {s : State} (h : s.wag.deferred = []) : deferredActs s = (s, []) := by
  have hw : { s.wag with deferred := [] } = s.wag := by
    rw [show s.wag = { s.wag with deferred := s.wag.deferred } from rfl, h]
  rw [deferredActs, h]
  exact congrArg (fun w => ({ s with wag := w }, [])) hw

/-- R341: an EVENT that is not for the black box. -/
theorem cueAct_event {arg : Word} (h : bit arg 16 = false) (k : Nat) (o : State × List (Nat × Bool)) :
    cueAct k 0x80000000#32 arg o =
      (onCue ((o.1.wr (P.wag + 0x9C) (BitVec.ofNat 32 (k * 0x10000 + getField arg 15 0))).raise P.wag 8) k
        fun c => { c with code := 0 }, o.2) := by
  have hact : cueAction k 0x80000000#32 arg o.1 =
      (.done, (o.1.wr (P.wag + 0x9C) (BitVec.ofNat 32 (k * 0x10000 + getField arg 15 0))).raise P.wag 8) :=
    congrArg (Prod.mk Code.done) (if_neg (ne_true_of_eq_false h))
  rw [cueAct, if_neg (by decide), hact]
  rfl

/-- Settles O48. -/
theorem cuesAreCommittedAndCommanded : Obligations.CuesAreCommittedAndCommanded := by
  unfold Obligations.CuesAreCommittedAndCommanded
  refine ⟨fun s r k v => ⟨?word, ?commit⟩, fun s q => ?commands⟩
  case word =>
    intro w a t j hs
    refine next_hostWrite_done hs ((cueWindowWrite_at r k w (by omega) v t).trans ?_)
    rw [cueWrite, if_pos w.isLt]
    rfl
  case commit =>
    intro a t j h u hs
    have row (w : Word) := next_cueCtrlRow hs w
    refine ⟨fun e he => ?_, fun hv => ?free, fun hh hv h0 h2 ha => ?arm, fun hh hv h0 ha => ?disarm⟩
    · have hexec : exec e.1 s = .next (cueCtrlRow r k e.2 s) := by
        simp only [List.mem_cons, List.not_mem_nil, or_false] at he
        rcases he with rfl | rfl | rfl | rfl <;> rfl
      exact ⟨fun hd => hexec.trans ((row e.2).1 hd), fun c hc hj => hexec.trans ((row e.2).2 c hc hj)⟩
    case free =>
      have h28 := bit_setField_same (i := 28) (by decide) v 1
      have h27 := bit_setField_of_mask (i := 27) (k := 28) hv (by decide) (by decide)
      have h26 := bit_setField_of_mask (i := 26) (k := 28) hv (by decide) (by decide)
      refine ((row _).1 (cueJudge_free h28 h27 h26 _ _)).trans ?_
      exact congrArg (fun c => Host.Outcome.next ((setCue u j c).answered .done)) (if_pos h28)
    all_goals
      have hu : u = t := if_pos hh
    case arm =>
      have h28 := bit_setField_of_mask (i := 28) (k := 27) hv (by decide) (by decide)
      have h27 := bit_setField_same (i := 27) (by decide) v 1
      have h26 := bit_setField_of_mask (i := 26) (k := 27) hv (by decide) (by decide)
      have h5 := getField_setField_of_mask (hi := 5) (lo := 4) (k := 27) hv (by decide) (by decide)
      have h1 := getField_setField_of_mask (hi := 1) (lo := 0) (k := 27) hv (by decide) (by decide)
      have hj : cueJudge (cueAt u j) (setField v 27 27 1) h = .done := by
        rw [hu, hh]
        exact cueJudge_known h28 (.inr h26) h5 h1 h0 ha
      have hc : setCue u j (cueCommitted (cueAt u j) (setField v 27 27 1) h) =
          setCue t j { cueAt t j with ctrl := setField v 27 27 1 &&& 0xF3#32, st := 2, side := none } := by
        rw [hu, hh, cueCommitted_arm h28 h27 h2]
      exact ((row _).1 hj).trans (congrArg (fun x => Host.Outcome.next (State.answered x .done)) hc)
    case disarm =>
      have h28 := bit_setField_of_mask (i := 28) (k := 26) hv (by decide) (by decide)
      have h27 := bit_setField_of_mask (i := 27) (k := 26) hv (by decide) (by decide)
      have h26 := bit_setField_same (i := 26) (by decide) v 1
      have h5 := getField_setField_of_mask (hi := 5) (lo := 4) (k := 26) hv (by decide) (by decide)
      have h1 := getField_setField_of_mask (hi := 1) (lo := 0) (k := 26) hv (by decide) (by decide)
      have hj : cueJudge (cueAt u j) (setField v 26 26 1) h = .done := by
        rw [hu, hh]
        exact cueJudge_known h28 (.inl h27) h5 h1 h0 ha
      have hc : setCue u j (cueCommitted (cueAt u j) (setField v 26 26 1) h) =
          setCue t j { cueAt t j with ctrl := setField v 26 26 1 &&& 0xF3#32, st := 1 } := by
        rw [hu, hh, cueCommitted_disarm h28 h27 h26 h0]
      exact ((row _).1 hj).trans (congrArg (fun x => Host.Outcome.next (State.answered x .done)) hc)
  case commands =>
    intro p t i h v
    refine ⟨fun hs hp => ?set, fun hs hp => ?clear, fun hs hp => ?query, fun hm hh => ?deferred, fun h => ?standing⟩
    case set =>
      intro layout k c j
      have hbad : (p.length ≠ 32 ∨ field p 2 2 ≠ 0 ∨ (1024 ≤ i ∧ i ≠ 0xFFFF)) ↔ ¬layout := by omega
      refine ⟨fun hl => next_plosto_refused hs hp (if_pos (hbad.mpr hl)) nofun,
        fun hl hj => next_plosto_refused hs hp ((if_neg (not_not.mpr hl ∘ hbad.mp)).trans (if_pos hj)) hj, fun hl hj hk => ?_,
        fun n hl hj hk => ?_⟩
      all_goals
        have rest {o : Option Nat} (ho : k = o) : cueSetBody q t = match (generalizing := false) o with
            | none => nak t P.wag .full
            | some k =>
              ok (setCue t k (cueCommitted c v h)) (leBytes 2 k ++ [BitVec.ofNat 8 (cueAt (setCue t k (cueCommitted c v h)) k).st, 0]) := by
          subst ho
          exact (if_neg (not_not.mpr hl ∘ hbad.mp)).trans (if_neg (not_not.mpr hj))
      · exact next_plosto_refused hs hp (rest hk) nofun
      · exact next_plosto_ok hs hp (rest hk)
    case clear =>
      intro ks op layout x hx
      have hl : (p.length ≠ 4 ∨ 1 < op ∨ field p 3 1 ≠ 0 ∨ (1024 ≤ i ∧ i ≠ 0xFFFF)) ↔ ¬layout := by omega
      have hexec : exec x s = .next (runPlosto 0x31 q (onPage P.wag true (cueClearBody q)) s) := by
        simp only [List.mem_cons, List.not_mem_nil, or_false] at hx
        rcases hx with rfl | rfl <;> rfl
      refine ⟨fun h => ?_, fun h hk => ?_, fun h hk ho => ?_, fun h hk ho => ?_⟩ <;> refine hexec.trans ?_
      · exact next_plosto_refused hs hp (if_pos (hl.mpr h)) nofun
      · exact next_plosto_refused hs hp ((if_neg (not_not.mpr h ∘ hl.mp)).trans (if_pos hk)) nofun
      all_goals
        have rest : cueClearBody q t =
            ok (forEach ks (fun k u => onCue u k fun c => if op = 0 then Cue.free else { c with st := 1 }) t) (leBytes 2 ks.length) :=
          (if_neg (not_not.mpr h ∘ hl.mp)).trans (if_neg hk)
        refine next_plosto_ok hs hp (rest.trans ?_)
      · simp only [if_pos ho, onCue]
      · simp only [if_neg (show op ≠ 0 by omega), onCue]
    case query => exact ⟨fun h => next_plosto_ok hs hp (if_neg (not_not.mpr h)), fun h => next_plosto_refused hs hp (if_pos h) nofun⟩
    case deferred =>
      have hrun : exec .deferredActions s = .next (forEach (deferredActs s).2 armTarget (deferredActs s).1) :=
        if_pos (bnot_iff.mpr ⟨hm, hh⟩)
      refine ⟨fun hd => ?_, fun k arg hd hb => ?_, hrun⟩
      · rw [hrun, deferredActs_nil hd]
        rfl
      · have hact : deferredActs s = cueAct k 0x80000000#32 arg (s.onWag fun w => { w with deferred := [] }, []) := by
          rw [deferredActs, hd, List.foldl_cons, List.foldl_nil]
        rw [hrun, hact, cueAct_event hb]
        rfl
    case standing =>
      refine if_neg fun hrun => ?_
      obtain ⟨hm, hh⟩ := bnot_iff.mp hrun
      rcases h with h | h
      · exact h hm
      · exact ne_true_of_eq_false hh h

end Sys2Proof.Machine
end

section
/-! PROOFS. Clip players and tone generators (R356-R362). -/

namespace Sys2Proof.Machine

/-! ### What is due -/

/-- R357: a voice that sounds and is not held. -/
theorem sounds_iff {α : Type} {n : Nat} {o : Option α} :
    ((n == 3 || n == 4) && o.isNone) = true ↔ (n = 3 ∨ n = 4) ∧ o = none := by
  rw [Bool.and_eq_true, Bool.or_eq_true, beq_iff_eq, beq_iff_eq, Option.isNone_iff_eq_none]

/-- R357: the clip of a voice has ended. -/
theorem clipDue_iff (s : State) (x : Voice) : clipDue s x = true ↔
    (x.st = 3 ∨ x.st = 4) ∧ x.held = none ∧ ((clipOf s x.clip).n = 0 ∨ ∃ m, playLen (clipOf s x.clip) x.rep = some m ∧
      m ≤ x.pos * clipRate (clipOf s x.clip).rate / 48000) := by
  rw [clipDue, Bool.and_eq_true, sounds_iff, Bool.or_eq_true, beq_iff_eq, and_assoc]
  refine and_congr_right' (and_congr_right' (or_congr_right ?_))
  cases playLen (clipOf s x.clip) x.rep <;> simp

/-- R358: a voice's ring has room for a refill. -/
theorem refillRoom_iff (s : State) (v : Nat) : refillRoom s v = true ↔
    ((s.voice v).st = 3 ∨ (s.voice v).st = 4) ∧ (s.voice v).held = none ∧ s.domOn .core = true ∧ (s.voice v).got + 1024 ≤
      needed s (clipOf s (s.voice v).clip) ((s.voice v).pos * clipRate (clipOf s (s.voice v).clip).rate / 48000) + ringBytes s := by
  rw [refillRoom, Bool.and_eq_true, Bool.and_eq_true, sounds_iff, decide_eq_true_eq, and_assoc, and_assoc]

/-- R357: the fade of a voice has ended. -/
theorem fadeDue_iff (x : Voice) : fadeDue x = true ↔ x.st = 4 ∧ ∀ f, x.fade = some f → f.n ≤ f.i := by
  rw [fadeDue, Bool.and_eq_true, beq_iff_eq]
  refine and_congr_right' ?_
  cases x.fade <;> simp

/-- R360: the segment of a generator has ended. -/
theorem segDue_iff (s : State) (g : Nat) : segDue s g = true ↔
    (s.tone g).run = true ∧ ∀ e, toneSeg s g = some e → 48 * e.dur ≤ (s.tone g).t := by
  rw [segDue, Bool.and_eq_true]
  refine and_congr_right' ?_
  cases toneSeg s g <;> simp

/-! ### What follows -/

/-- R357: what follows a voice's fade. -/
theorem voiceFaded_cases (s : State) (v : Nat) :
    (∀ n, (s.voice v).after = some n →
      voiceFaded s v = voiceNext (s.onVoice v fun x => { x with after := none }) v n .after false) ∧
    (∀ n, (s.voice v).after = none → (s.voice v).queue = some n →
      voiceFaded s v = voiceNext (s.onVoice v fun x => { x with queue := none }) v n .queue true) ∧
    ((s.voice v).after = none → (s.voice v).queue = none → voiceFaded s v = voiceIdle s v) := by
  refine ⟨fun n ha => ?_, fun n ha hq => ?_, fun ha hq => ?_⟩ <;> simp only [voiceFaded, ha]
  · rw [hq]
  · rw [hq]

/-- R360: the number of segments of a generator's pattern. -/
theorem segEnded_eq (s : State) (g : Nat) :
    let x := s.tone g
    let n := ((tonePat s x.pat).map (·.segs.length)).getD 0
    segEnded s g = if x.seg + 1 < n then s.onTone g fun y => { y with seg := y.seg + 1, t := 0 }
      else if x.left = 0 ∨ n = 0 then toneOver s g
      else s.onTone g fun y => { y with seg := 0, t := 0, left := if y.left = 255 then 255 else y.left - 1 } := by
  intro x n
  have act {o : Option TonePat} (ho : tonePat s x.pat = o) : segEnded s g =
      if x.seg + 1 < (o.map (·.segs.length)).getD 0 then s.onTone g fun y => { y with seg := y.seg + 1, t := 0 }
      else if x.left = 0 ∨ (o.map (·.segs.length)).getD 0 = 0 then toneOver s g
      else s.onTone g fun y => { y with seg := 0, t := 0, left := if y.left = 255 then 255 else y.left - 1 } := by
    rw [segEnded, ho]
    cases o <;> rfl
  exact act rfl

/-- R360: the checks of a start of a generator. -/
theorem toneCheck_cases (t : State) (m : Nat) :
    (m ≠ 0xFF → tonePat t m = none → toneCheck t m = .absent) ∧
    (m = 0xFF ∨ (tonePat t m).isSome = true → t.en P.clip = false → toneCheck t m = .state) ∧
    (m = 0xFF ∨ (tonePat t m).isSome = true → t.en P.clip = true → toneCheck t m = .done) := by
  have known (h : m = 0xFF ∨ (tonePat t m).isSome = true) : ¬(m ≠ 0xFF ∧ (tonePat t m).isNone = true) := by
    rintro ⟨hm, hn⟩
    rcases h with h | h
    · exact hm h
    · rw [Option.isNone_iff_eq_none] at hn
      rw [hn] at h
      cases h
  exact ⟨fun hm hn => if_pos ⟨hm, by rw [hn]; rfl⟩, fun h he => (if_neg (known h)).trans (if_pos (bnot_true he)),
    fun h he => (if_neg (known h)).trans (if_neg (not_bnot he))⟩

/-- Settles O49. -/
theorem clipPlayersAct : Obligations.ClipPlayersAct := by
  unfold Obligations.ClipPlayersAct
  intro s q p t v w stage no
  refine ⟨fun hs hp i hi => ?start, fun hs hp => ?stop, fun hs hp => ?tone, fun hs hp => ?query, fun u sound => ?head,
    fun u sound => ?room, fun u => ?ended, fun u => ?fade, fun g => ?segment⟩
  case start =>
    intro layout prime c u
    have hbad : (p.length ≠ 8 ∨ 64 ≤ v ∨ 2 ≤ field p 1 1 ∨ field p 5 3 ≠ 0) ↔ ¬layout := by omega
    have hexec : exec i s = .next (runPlosto 0x38 q (onPage P.clip true (clipStartBody q)) s) := by
      simp only [List.mem_cons, List.not_mem_nil, or_false] at hi
      rcases hi with rfl | rfl <;> rfl
    refine ⟨fun hl => ?_, fun hl hc => ?_, fun hl hc => ?_⟩ <;> refine hexec.trans ?_
    · exact next_plosto_refused hs hp (if_pos (hbad.mpr hl)) nofun
    · exact next_plosto_ok hs hp ((if_neg (not_not.mpr hl ∘ hbad.mp)).trans (if_pos hc))
    · exact next_plosto_refused hs hp ((if_neg (not_not.mpr hl ∘ hbad.mp)).trans (if_neg hc)) hc
  case stop =>
    intro n layout
    have hbad : (p.length ≠ 4 ∨ (64 ≤ v ∧ v ≠ 0xFF) ∨ 16 ≤ field p 1 1 ∨ field p 2 2 ≠ 0) ↔ ¬layout := by omega
    have act (hl : layout) : clipStopBody q t =
        ok (stage ((if v = 0xFF then List.range 64 else [v]).map (ClipOp.stop · n))) [] := if_neg (not_not.mpr hl ∘ hbad.mp)
    refine ⟨fun hl => next_plosto_refused hs hp (if_pos (hbad.mpr hl)) nofun, fun hl hv => ?_, fun hl hv => ?_⟩
    · exact next_plosto_ok hs hp ((act hl).trans (by rw [if_neg (by omega)]; rfl))
    · exact next_plosto_ok hs hp ((act hl).trans (by rw [if_pos hv]))
  case tone =>
    intro m pat layout
    have hbad : (p.length ≠ 4 ∨ 64 ≤ v ∨ 2 ≤ field p 3 1) ↔ ¬layout := by omega
    obtain ⟨absent, off, done⟩ := toneCheck_cases t m
    have no' (hl : layout) {c : Code} (hc : toneCheck t m = c) (hne : c ≠ .done) : toneStartBody q t = nak t P.clip c :=
      (if_neg (not_not.mpr hl ∘ hbad.mp)).trans ((if_neg (hc ▸ hne)).trans (congrArg (nak t P.clip) hc))
    exact ⟨fun hl => next_plosto_refused hs hp (if_pos (hbad.mpr hl)) nofun,
      fun hl hm hn => next_plosto_refused hs hp (no' hl (absent hm hn) nofun) nofun,
      fun hl hk he => next_plosto_refused hs hp (no' hl (off hk he) nofun) nofun,
      fun hl hk he => next_plosto_ok hs hp ((if_neg (not_not.mpr hl ∘ hbad.mp)).trans (if_pos (done hk he)))⟩
  case query =>
    intro i layout
    have hbad : (p.length ≠ 4 ∨ field p 1 1 ≠ 0) ↔ ¬layout := by omega
    have act (hl : layout) : clipQueryBody q t =
        if v = 0 ∧ i < 64 then ok t (wordBytes (t.rd (P.clip + 0x100 + 8 * i)) ++ wordBytes (voiceWord t i))
        else if v = 1 ∧ i < 4096 then
          (if !libValid t then nak t P.clip .state
           else if !clipThere t i then nak t P.clip .absent
           else ok t (dirEntry t i))
        else if v = 2 ∧ i < 64 then ok t (wordBytes (toneWord t i))
        else if v = 3 then
          ok t (wordBytes (t.rd (P.clip + 0x44)) ++ leBytes 8 (mask64 fun v => (t.voice v).st != 0) ++
            leBytes 8 (mask64 fun g => (t.tone g).run))
        else nak t P.clip .range := if_neg (not_not.mpr hl ∘ hbad.mp)
    refine ⟨fun hl hv hi => next_plosto_ok hs hp ((act hl).trans (if_pos ⟨hv, hi⟩)),
      fun hl hv hi => ?library, fun hl hv hi => ?generator, fun hl hv => ?masks, fun h => ?range⟩
    case library =>
      have lib := (act hl).trans ((if_neg (by omega)).trans (if_pos ⟨hv, hi⟩))
      exact ⟨fun hb => next_plosto_refused hs hp (lib.trans (if_pos (bnot_true hb))) nofun,
        fun hb ht => next_plosto_refused hs hp (lib.trans ((if_neg (not_bnot hb)).trans (if_pos (bnot_true ht)))) nofun,
        fun hb ht => next_plosto_ok hs hp (lib.trans ((if_neg (not_bnot hb)).trans (if_neg (not_bnot ht))))⟩
    case generator =>
      exact next_plosto_ok hs hp ((act hl).trans ((if_neg (by omega)).trans ((if_neg (by omega)).trans (if_pos ⟨hv, hi⟩))))
    case masks =>
      exact next_plosto_ok hs hp ((act hl).trans
        ((if_neg (by omega)).trans ((if_neg (by omega)).trans ((if_neg (by omega)).trans (if_pos hv)))))
    case range =>
      refine next_plosto_refused hs hp ?_ nofun
      by_cases hl : layout
      · exact (act hl).trans
          ((if_neg (by omega)).trans ((if_neg (by omega)).trans ((if_neg (by omega)).trans (if_neg (by omega)))))
      · exact if_pos (hbad.mpr hl)
  case head =>
    intro due
    have act {l : List (Nat × HeadFor)} (hl : s.clip.heads = l) : exec (.clipHeadArrive u sound) s =
        match (generalizing := false) l with
        | (n, w) :: _ => if n = u.val ∧ s.domOn .core ∧ !pfMirror s then .next (headArrived s u w sound) else .next s
        | [] => .next s := by
      subst hl
      rfl
    refine ⟨fun h hd => ?_, fun hn => ?_⟩
    · obtain ⟨hd, hon, hm⟩ := hd
      obtain ⟨l, hl⟩ := List.head?_eq_some_iff.mp hd
      exact (act hl).trans (if_pos ⟨rfl, hon, bnot_true hm⟩)
    · cases hl : s.clip.heads with
      | nil => exact act hl
      | cons e l =>
        refine (act hl).trans (if_neg ?_)
        rintro ⟨hu, hon, hm⟩
        rw [Bool.not_eq_true'] at hm
        rcases hn with h | h | h
        · exact h (by rw [hl]; exact congrArg some hu)
        · exact ne_true_of_eq_false h hon
        · exact ne_true_of_eq_false hm h
  case room =>
    intro x c room
    have hroom := refillRoom_iff s u
    refine ⟨fun hr hm => if_pos ⟨hroom.mpr hr, bnot_true hm⟩, fun h => if_neg ?_⟩
    rintro ⟨hr, hm⟩
    rcases h with h | h
    · exact h (hroom.mp hr)
    · exact not_bnot h hm
  case ended => exact ⟨fun h => if_pos ((clipDue_iff s _).mpr h), fun h => if_neg (mt (clipDue_iff s _).mp h)⟩
  case fade =>
    intro x ended
    obtain ⟨after, queue, idle⟩ := voiceFaded_cases s u
    have act (h : ended) : exec (.voiceFadeEnd u) s = .next (voiceFaded s u) := if_pos ((fadeDue_iff _).mpr h)
    exact ⟨fun h n ha => (act h).trans (congrArg Host.Outcome.next (after n ha)),
      fun h ha n hq => (act h).trans (congrArg Host.Outcome.next (queue n ha hq)),
      fun h ha hq => (act h).trans (congrArg Host.Outcome.next (idle ha hq)), fun h => if_neg (mt (fadeDue_iff _).mp h)⟩
  case segment =>
    intro x n ended
    have act (h : ended) : exec (.toneSegmentEnd g) s = .next (segEnded s g) := if_pos ((segDue_iff s g).mpr h)
    refine ⟨fun h hn => ?_, fun h hn h0 hn0 => ?_, fun h hn h0 => ?_, fun h => if_neg (mt (segDue_iff s g).mp h)⟩
    all_goals refine (act h).trans (congrArg Host.Outcome.next ((segEnded_eq s g).trans ?_))
    · exact if_pos hn
    · exact (if_neg (Nat.not_lt.mpr hn)).trans (if_neg (not_or.mpr ⟨h0, hn0⟩))
    · exact (if_neg (Nat.not_lt.mpr hn)).trans (if_pos h0)

end Sys2Proof.Machine
end

section
/-! PROOFS. The measurement converters (R370-R381). -/

namespace Sys2Proof.Machine

/-! ### Triggers -/

/-- R371: what a trigger of a sequence does. -/
theorem trigger_cases (s : State) (n k : Nat) :
    (s.sys.mode = .idle ∧ seqDest s n k = 2 → trigger s n k = (false, trigDrop s n)) ∧
    (¬(s.sys.mode = .idle ∧ seqDest s n k = 2) → seqBusy s n k = false →
      trigger s n k = (true, madcShow (s.onMadc n fun m => { m with waiting := m.waiting ++ [(k, !refOk s n)] }) n)) ∧
    (¬(s.sys.mode = .idle ∧ seqDest s n k = 2) → seqBusy s n k = true → ∀ pol, s.getF (seqBase n k) F.MADC_SEQ_CFG_POLICY = pol →
      trigger s n k = match (generalizing := false) pol with
        | 1 => if (s.conv n).held.any (fun h => h.1 == k) then (false, trigDrop s n)
          else (true, s.onMadc n fun m => { m with held := m.held ++ [(k, !refOk s n)] })
        | 2 => (true, (s.bump (P.madc n) F.MADC_RESTART_CNT_COUNT).onMadc n fun m => { m with
            active := m.active.map fun p => if p.seq = k then { p with ending := true } else p
            susp := m.susp.filter fun p => p.seq != k
            waiting := m.waiting.filter (fun w => w.1 != k) ++ [(k, !refOk s n)] })
        | _ => (false, trigDrop s n)) := by
  refine ⟨fun h => if_pos h, fun h hb => (if_neg h).trans (if_pos (bnot_true hb)), fun h hb pol hp => ?_⟩
  subst hp
  exact (if_neg h).trans (if_neg (not_bnot hb))

/-- R370: no sequence of a converter is busy. -/
theorem none_busy_iff (s : State) (n : Nat) : (!(List.range 4).any (seqBusy s n)) = true ↔ ∀ k < 4, seqBusy s n k = false := by
  simp only [Bool.not_eq_true', List.any_eq_false, List.mem_range, Bool.not_eq_true]

/-! ### Passes -/

/-- R372: what the start of a pass does, by the pass that runs, the one suspended and the sequence that waits. -/
theorem exec_madcPassStart {s : State} {n : Fin 2} {a b : Option Pass} {c : Option (Nat × Bool)} (ha : (s.conv n).active = a)
    (hb : (s.conv n).susp = b) (hc : nextSeq (s.conv n).waiting = c) (cyc : Fin 512) (l : List (BitVec 14)) (x0 x1 : BitVec 14) :
    exec (.madcPassStart n cyc l x0 x1) s = match (generalizing := false) a, b, c with
      | none, none, some w => .next (madcShow (passBegin s n w cyc x0 x1) n)
      | some p, none, some (0, ns) =>
        if p.seq = 0 then .next s
        else
          let l := l.take (s.getF (seqBase n p.seq) F.MADC_SEQ_CFG_LEN - 1 - p.entry)
          .next (madcShow (passBegin ((putResults n p p.entry l s).onMadc n fun m => { m with
            susp := if p.ending then none else some { p with entry := p.entry + l.length } }) n (0, ns) cyc x0 x1) n)
      | _, _, _ => .next s := by
  subst ha hb hc
  rfl

/-- R373: what the end of a pass does. -/
theorem exec_madcPassDone {s : State} {n : Fin 2} {a : Option Pass} (ha : (s.conv n).active = a) (codes : List (BitVec 14)) :
    exec (.madcPassDone n codes) s = match (generalizing := false) a with
      | none => .next s
      | some p =>
        let left := s.getF (seqBase n p.seq) F.MADC_SEQ_CFG_LEN - p.entry
        if p.ending then .next (passOver (putResults n p p.entry (codes.take left) s) n p.seq)
        else if codes.length = left then
          .next (passOver ((putResults n p p.entry codes s).raise (P.madc n) 0) n p.seq)
        else .next s := by
  subst ha
  rfl

/-! ### Calibration -/

/-- R381: a step of a correction is at most 1 LSB, against the error. -/
theorem unitStep_cases (x : Int) :
    |unitStep x| ≤ 1 ∧ (0 < x → unitStep x = -1) ∧ (x < 0 → unitStep x = 1) ∧ (x = 0 → unitStep x = 0) := by
  unfold unitStep
  rcases lt_trichotomy x 0 with h | h | h
  · rw [if_neg (by omega), if_pos h]
    exact ⟨by decide, by omega, fun _ => rfl, by omega⟩
  · subst h
    decide
  · rw [if_pos h]
    exact ⟨by decide, fun _ => rfl, by omega, by omega⟩

/-- Settles O50. -/
theorem convertersMeasure : Obligations.ConvertersMeasure := by
  unfold Obligations.ConvertersMeasure
  intro s n
  refine ⟨fun k => ?hardware, fun k => ?triggered, fun r m v => ?control, fun r v => ?plaus, fun q => ?command,
    fun cyc l x0 x1 => ?start, fun codes => ?done, ?reference, fun g z hi lo => ?calibration⟩
  case hardware =>
    intro trig pwm
    refine ⟨fun h ht => if_pos ⟨h, ht⟩, fun h => if_neg ?_, fun h hp => if_pos ⟨h, hp⟩, fun h => if_neg ?_⟩
    · rintro ⟨hon, ht⟩
      exact h.elim (fun hoff => ne_true_of_eq_false hoff hon) fun hne => hne ht
    · rintro ⟨hon, hp⟩
      exact h.elim (fun hoff => ne_true_of_eq_false hoff hon) fun hne => hne hp
  case triggered =>
    intro pol t drop ring held
    obtain ⟨idle, free, busy⟩ := trigger_cases s n k
    refine ⟨idle, free, fun hr hb => ⟨fun h1 h2 => ?_, fun h1 hh => ?_, fun h1 hh => ?_, fun h2 => busy hr hb 2 h2⟩⟩
    · have other (x : Nat) (hx : pol = x) (h1 : x ≠ 1) (h2 : x ≠ 2) : trigger s n k = (false, drop) := by
        refine (busy hr hb x hx).trans ?_
        match x with
        | 0 => rfl
        | 1 => exact absurd rfl h1
        | 2 => exact absurd rfl h2
        | _ + 3 => rfl
      exact other pol rfl h1 h2
    · exact (busy hr hb 1 h1).trans (if_pos hh)
    · exact (busy hr hb 1 h1).trans (if_neg (ne_true_of_eq_false hh))
  case control =>
    intro a t wrote hs
    have row (w : Word) : (Host.Outcome.next (hostWrite r a (madcWrite n 0x48 w) s) : Host.Outcome State Fault Refusal) = wrote w := by
      by_cases hm : maskOn t n (getField w 3 0) = true
      · exact (next_hostWrite_done hs (if_neg (not_bnot hm))).trans (congrArg Host.Outcome.next (if_pos hm).symm)
      · have hoff := Bool.eq_false_iff.mpr hm
        exact (next_hostWrite_refused (c := .state) hs (if_pos (bnot_true hoff)) nofun).trans (congrArg Host.Outcome.next (if_neg hm).symm)
    exact ⟨row _, row _⟩
  case plaus =>
    intro a t w f hs
    have h8 : bit w 8 = true := bit_setField_same (by decide) v 1
    refine ⟨fun hm => next_hostWrite_done hs ((if_neg (not_bnot hm)).trans ?_),
      fun hm => next_hostWrite_refused hs (if_pos (bnot_true hm)) nofun⟩
    exact congrArg (fun u => (Code.done, (trigMask u 0 (getField w 3 0)).2)) (if_pos ⟨h8, rfl⟩)
  case command =>
    intro m k pg t layout hs hp
    have hbad : (q.payload.length ≠ 4 ∨ 2 ≤ m ∨ 16 ≤ k ∨ field q.payload 2 2 ≠ 0) ↔ ¬layout := by omega
    exact ⟨fun hl => next_plosto_refused hs hp (if_pos (hbad.mpr hl)) nofun,
      fun hl hm => next_plosto_ok hs hp ((if_neg (not_not.mpr hl ∘ hbad.mp)).trans (if_neg (not_bnot hm))),
      fun hl hm => next_plosto_refused hs hp ((if_neg (not_not.mpr hl ∘ hbad.mp)).trans (if_pos (bnot_true hm))) nofun⟩
  case start =>
    intro m i
    refine ⟨fun ha hb => ⟨fun w hw => exec_madcPassStart ha hb hw cyc l x0 x1, fun hw => exec_madcPassStart ha hb hw cyc l x0 x1⟩,
      fun p ha hb => ⟨fun ns hw hp => ?_, fun h => ?_⟩, fun hb => ?_⟩
    · exact (exec_madcPassStart ha hb hw cyc l x0 x1).trans (if_neg hp)
    · cases hw : nextSeq m.waiting with
      | none => exact exec_madcPassStart ha hb hw cyc l x0 x1
      | some e =>
        obtain ⟨q, ns⟩ := e
        refine (exec_madcPassStart ha hb hw cyc l x0 x1).trans ?_
        cases q with
        | zero => exact if_pos (h.resolve_right fun hne => hne ns hw)
        | succ q => rfl
    · obtain ⟨p, hp⟩ := Option.isSome_iff_exists.mp hb
      refine (exec_madcPassStart rfl hp rfl cyc l x0 x1).trans ?_
      cases (s.conv n).active <;> rfl
  case done =>
    exact ⟨fun ha => exec_madcPassDone ha codes, fun p ha => ⟨fun he => (exec_madcPassDone ha codes).trans (if_pos he),
      fun he hl => (exec_madcPassDone ha codes).trans ((if_neg (ne_true_of_eq_false he)).trans (if_pos hl)),
      fun he hl => (exec_madcPassDone ha codes).trans ((if_neg (ne_true_of_eq_false he)).trans (if_neg hl))⟩⟩
  case reference =>
    intro due
    have hdue : ((!refOk s n) = true ∧ s.domOn .analog = true ∧ (!s.sys.held) = true) ↔ due := by
      rw [Bool.not_eq_true', Bool.not_eq_true']
    exact ⟨fun h => if_pos (hdue.mpr h), fun h => if_neg (mt hdue.mp h)⟩
  case calibration =>
    intro due
    have hdue : (s.isSet (P.madc n) F.MADC_CFG_CAL = true ∧ s.en (P.madc n) = true ∧ s.domOn .analog = true ∧
        (!(List.range 4).any (seqBusy s n)) = true) ↔ due := by
      rw [none_busy_iff]
    refine ⟨fun h => ?_, fun h => if_neg (mt hdue.mp h)⟩
    let c := (s.conv n).cal.getD g (0, 0)
    obtain ⟨hoff, hdir⟩ := unitStep_cases (corrected c z.toNat - 8192)
    obtain ⟨hgain, -⟩ := unitStep_cases (corrected c hi.toNat - corrected c lo.toNat - 14746)
    exact ⟨_, _, hoff, hgain, hdir, if_pos (hdue.mpr h)⟩

end Sys2Proof.Machine
end

section
/-! PROOFS. Line supervision and the self-test of the zones (R382-R388). -/

namespace Sys2Proof.Machine

/-! ### Enabling -/

/-- R383: what taking the taps and the sequences ends in. -/
theorem lsvStart_cases (s : State) :
    let busy := s.getF P.lsv F.LSV_INFO_CORE = 31 ∨ s.en P.lsv = false ∨ s.isSet (seqBase 0 3) F.MADC_SEQ_CFG_EN = true ∨
      s.isSet (seqBase 1 3) F.MADC_SEQ_CFG_EN = true
    let taps := tapAll (((List.range 8).filter (supervised s)).map (0x3C0 + ·)) (s, [])
    (busy → lsvStart s = (.state, s)) ∧ (¬busy → taps = none → lsvStart s = (.full, s)) ∧
      ∀ t e, ¬busy → taps = some (t, e) → lsvStart s = (.done, lsvSeq 1 (lsvSeq 0 (t.onLsv fun l => { l with taps := e }))) := by
  intro busy taps
  have hbusy : (s.getF P.lsv F.LSV_INFO_CORE = 31 ∨ (!s.en P.lsv) = true ∨ s.isSet (seqBase 0 3) F.MADC_SEQ_CFG_EN = true ∨
      s.isSet (seqBase 1 3) F.MADC_SEQ_CFG_EN = true) ↔ busy := by
    rw [Bool.not_eq_true']
  have act (h : ¬busy) {o : Option (State × List (Nat × Nat))} (ho : taps = o) : lsvStart s = match (generalizing := false) o with
      | none => (.full, s)
      | some (t, e) => (.done, lsvSeq 1 (lsvSeq 0 (t.onLsv fun l => { l with taps := e }))) := by
    subst ho
    exact if_neg (mt hbusy.mp h)
  exact ⟨fun h => if_pos (hbusy.mpr h), fun h ht => act h ht, fun t e h ht => act h ht⟩

/-- R383: a start that is refused changes nothing. -/
theorem lsvStart_refused {s : State} (h : (lsvStart s).1 ≠ .done) : (lsvStart s).2 = s := by
  obtain ⟨busy, full, taken⟩ := lsvStart_cases s
  by_cases hb : s.getF P.lsv F.LSV_INFO_CORE = 31 ∨ s.en P.lsv = false ∨ s.isSet (seqBase 0 3) F.MADC_SEQ_CFG_EN = true ∨
      s.isSet (seqBase 1 3) F.MADC_SEQ_CFG_EN = true
  · exact congrArg Prod.snd (busy hb)
  · cases ht : tapAll (((List.range 8).filter (supervised s)).map (0x3C0 + ·)) (s, []) with
    | none => exact congrArg Prod.snd (full hb ht)
    | some o => exact absurd (congrArg Prod.fst (taken o.1 o.2 hb ht)) h

/-- R382: what a write of LSV_CFG does. -/
theorem lsvCfgWrite_cases (w : Word) (t : State) :
    let was := t.isSet P.lsv F.LSV_CFG_EN
    let good := 1 ≤ getField w 27 24 ∧ getField w 27 24 ≤ 10 ∧ 1 ≤ getField w 23 20 ∧ getField w 23 20 ≤ 10 ∧
      5 ≤ getField w 19 12 ∧ 1 ≤ getField w 11 8
    (¬good → lsvCfgWrite w t = (.range, t)) ∧ (good → t.lsv.test.isSome = true → lsvCfgWrite w t = (.state, t)) ∧
    (good → t.lsv.test = none →
      (bit w 31 = true → was = false → (lsvStart t).1 = .done →
        lsvCfgWrite w t = (.done, lsvShow ((lsvStart t).2.store (P.lsv + 0x40) w))) ∧
      (bit w 31 = true → was = false → (lsvStart t).1 ≠ .done → lsvCfgWrite w t = ((lsvStart t).1, t)) ∧
      (bit w 31 = true → was = true → lsvCfgWrite w t = (.done, lsvShow (t.store (P.lsv + 0x40) w))) ∧
      (bit w 31 = false → lsvCfgWrite w t = (.done, lsvShow ((if was then lsvStop t else t).store (P.lsv + 0x40) w)))) := by
  intro was good
  have hbad : (getField w 27 24 = 0 ∨ 10 < getField w 27 24 ∨ getField w 23 20 = 0 ∨ 10 < getField w 23 20 ∨ getField w 19 12 < 5 ∨
      getField w 11 8 = 0) ↔ ¬good := by omega
  refine ⟨fun h => if_pos (hbad.mpr h), fun h ht => (if_neg (not_not.mpr h ∘ hbad.mp)).trans (if_pos ht), fun h ht => ?_⟩
  have act : lsvCfgWrite w t = if bit w 31 = true ∧ (!was) = true then
        (if (lsvStart t).1 = .done then (.done, lsvShow ((lsvStart t).2.store (P.lsv + 0x40) w)) else lsvStart t)
      else (.done, lsvShow ((if (was && !bit w 31) = true then lsvStop t else t).store (P.lsv + 0x40) w)) :=
    (if_neg (not_not.mpr h ∘ hbad.mp)).trans (if_neg (by rw [ht]; exact Bool.false_ne_true))
  refine ⟨fun hb hw hd => ?_, fun hb hw hd => ?_, fun hb hw => ?_, fun hb => ?_⟩
  · exact act.trans ((if_pos ⟨hb, bnot_true hw⟩).trans (if_pos hd))
  · exact (act.trans ((if_pos ⟨hb, bnot_true hw⟩).trans (if_neg hd))).trans (congrArg (Prod.mk (lsvStart t).1) (lsvStart_refused hd))
  · rw [act, hb, hw]
    rfl
  · rw [act, hb, Bool.not_false, Bool.and_true]
    exact if_neg fun h => Bool.false_ne_true h.1

/-! ### Learning -/

/-- R385: a write of LSV_n_REF that begins a learning. -/
theorem lsvRefWrite_learn {w : Word} (h30 : bit w 30 = true) (c : Nat) (t : State) :
    let good := (getField w 15 0 = 0 ∨ (100 ≤ getField w 15 0 ∧ getField w 15 0 ≤ 10000)) ∧ 1 ≤ getField w 27 24 ∧
      getField w 27 24 ≤ 8
    (good → lsvRefWrite c w t = (.done, lineNone ((onLine (t.store (lineBase c + 0x80) w) c fun l =>
      { l with learned := [] }).setF (lineBase c) F.LSV_STAT_LEARNING 1) c)) ∧
    (¬good → lsvRefWrite c w t = (.range, t)) := by
  intro good
  have hbad : ((getField w 15 0 ≠ 0 ∧ (getField w 15 0 < 100 ∨ 10000 < getField w 15 0)) ∨ getField w 27 24 = 0 ∨ 8 < getField w 27 24) ↔
      ¬good := by omega
  refine ⟨fun h => (if_neg (not_not.mpr h ∘ hbad.mp)).trans ?_, fun h => if_pos (hbad.mpr h)⟩
  rw [h30]
  rfl

/-! ### The self-test -/

/-- R388: what the end of a zone's sweep does. -/
theorem exec_selftestZone {s : State} {o : Option SelfTest} (ho : s.lsv.test = o) (m : SweepMeas) : exec (.selftestZone m) s =
    match (generalizing := false) o with
    | none => .next s
    | some t =>
      match t.zone with
      | none => .next s
      | some (z, cnt) =>
        let r := sweepResult s z cnt t.level m
        let s := ((s.setF (stBase z) F.LSV_ST_RES_EVERD r.2.2).setF (stBase z) F.LSV_ST_RES_Z (min 0xFFFF (quant m.line.z 10))).setS
          (stBase z) F.LSV_ST_AC_AG r.2.1
        let s := if t.learn ∧ r.2.2 = 1 ∧ m.mic then s.setS (stBase z) F.LSV_ST_AC_AREF r.2.1 else s
        .next (testNext t.todo (releaseAll (zoneResult s z r.1) (sweepXp s z).toList 0)) := by
  subst ho
  rfl

/-- Settles O51. -/
theorem linesAreSupervised : Obligations.LinesAreSupervised := by
  unfold Obligations.LinesAreSupervised
  intro s
  refine ⟨fun r v => ?enable, lsvStart_cases s, fun ms => ?window, fun r c v => ?learn, fun q => ?commands,
    fun m x z cnt hx hz => ?zone, fun m h => ?idle⟩
  case enable =>
    intro a t was refused good on off hs
    have hon : bit on 31 = true := bit_setField_same (by decide) v 1
    have hoff : bit off 31 = false := bit_setField_same (by decide) v 0
    obtain ⟨onRange, onState, onDone⟩ := lsvCfgWrite_cases on t
    obtain ⟨offRange, offState, offDone⟩ := lsvCfgWrite_cases off t
    refine ⟨fun h => next_hostWrite_refused hs (onRange h) nofun, fun h => next_hostWrite_refused hs (offRange h) nofun,
      fun h ht => next_hostWrite_refused hs (onState h ht) nofun, fun h ht => next_hostWrite_refused hs (offState h ht) nofun,
      fun h ht => ?_, fun h ht => ?_⟩
    · obtain ⟨started, stopped, again, -⟩ := onDone h ht
      exact ⟨fun hw hd => next_hostWrite_done hs (started hon hw hd), fun hw hd => next_hostWrite_refused hs (stopped hon hw hd) hd,
        fun hw => next_hostWrite_done hs (again hon hw)⟩
    · obtain ⟨-, -, -, ended⟩ := offDone h ht
      exact next_hostWrite_done hs (ended hoff)
  case window =>
    refine ⟨fun hst hm => if_pos ⟨hst, hm⟩, fun h => if_neg ?_⟩
    rintro ⟨hst, hm⟩
    exact h.elim (fun hne => hne hst) fun hne => hne hm
  case learn =>
    intro a t w good hs
    have h30 : bit w 30 = true := bit_setField_same (by decide) v 1
    have hrow : lsvWrite (0x80 + 16 * c) w t = lsvRefWrite c w t := by
      have hc : (0x80 + 16 * c.val - 0x80) / 16 = c := by omega
      rw [lsvWrite, if_neg (by omega), if_neg (by omega), if_pos (by omega), hc]
    obtain ⟨learns, range⟩ := lsvRefWrite_learn h30 c t
    exact ⟨fun h => next_hostWrite_done hs (hrow.trans (learns h)),
      fun h => next_hostWrite_refused hs (hrow.trans (range h)) nofun⟩
  case commands =>
    intro p c m lev t
    refine ⟨fun hs hp => ?query, fun hs hp i hi => ?test⟩
    case query =>
      intro layout
      have hbad : (p.length ≠ 4 ∨ field p 1 3 ≠ 0 ∨ (8 ≤ c ∧ c ≠ 0xFF)) ↔ ¬layout := by omega
      exact ⟨fun hl => next_plosto_refused hs hp (if_pos (hbad.mpr hl)) nofun,
        fun hl hc => next_plosto_ok hs hp ((if_neg (not_not.mpr hl ∘ hbad.mp)).trans (if_neg (show c ≠ 0xFF by omega))),
        fun hl hc => next_plosto_ok hs hp ((if_neg (not_not.mpr hl ∘ hbad.mp)).trans (if_pos hc))⟩
    case test =>
      intro layout u need
      have hbad : (p.length ≠ 4 ∨ 2 < c ∨ (c ≠ 1 ∧ m = 0) ∨ lev < 6 ∨ 40 < lev ∨ field p 3 1 ≠ 0) ↔ ¬layout := by omega
      have hexec : exec i s = .next (runPlosto 0x42 q (onPage P.lsv true (selftestBody q)) s) := by
        simp only [List.mem_cons, List.not_mem_nil, or_false] at hi
        rcases hi with rfl | rfl | rfl <;> rfl
      refine ⟨fun hl => ?_, fun hl hst => ?_, fun hl hst => ?_⟩ <;> refine hexec.trans ?_
      · exact next_plosto_refused hs hp (if_pos (hbad.mpr hl)) nofun
      · exact next_plosto_refused hs hp ((if_neg (not_not.mpr hl ∘ hbad.mp)).trans (if_pos hst)) nofun
      · exact next_plosto_ok hs hp ((if_neg (not_not.mpr hl ∘ hbad.mp)).trans (if_neg (not_not.mpr hst)))
  case zone =>
    intro r u l
    refine (exec_selftestZone hx m).trans ?_
    dsimp only
    rw [hz]
  case idle =>
    rcases h with h | ⟨x, hx, hz⟩
    · exact exec_selftestZone h m
    · refine (exec_selftestZone hx m).trans ?_
      dsimp only
      rw [hz]

end Sys2Proof.Machine
end

section
/-! PROOFS. Updates: sessions, verification, confirmation and OTP (R391-R402). -/

namespace Sys2Proof.Machine

/-! ### Checks in order -/

/-- R46: a body that answers with its work where its checks leave DONE, else with their code. -/
def nakOr (s : State) (page : Nat) (c : Code) (x : PlAns) : PlAns := if c = .done then x else nak s page c

/-- R46: a check ahead of others. -/
theorem ite_nakOr {s : State} {page : Nat} {p p' : Prop} [Decidable p] [Decidable p'] {c d : Code} {x y : PlAns} (hp : p ↔ p')
    (hc : c ≠ .done) (hy : y = nakOr s page d x) : (if p then nak s page c else y) = nakOr s page (if p' then c else d) x := by
  by_cases h : p
  · rw [if_pos h, if_pos (hp.mp h), nakOr, if_neg hc]
  · rw [if_neg h, if_neg (mt hp.mpr h), hy]

/-- R46, R79: a command on a page that serves it, by the code its checks leave. -/
theorem next_plosto_nakOr {s t u : State} {cmd page : Nat} {ch : Bool} {q : PlReq} {body : State → PlAns} {pl : List Byte} {c : Code}
    (h : plServes s cmd q = true) (hp : pageServes s page ch = true) (ht : s.wakeFor page = t) (hb : body t = nakOr t page c (ok u pl)) :
    (c ≠ .done → (Host.Outcome.next (runPlosto cmd q (onPage page ch body) s) : Host.Outcome State Fault Refusal) =
      .next (t.plRefuse page 0 cmd q c [])) ∧
    (c = .done → (Host.Outcome.next (runPlosto cmd q (onPage page ch body) s) : Host.Outcome State Fault Refusal) =
      .next (u.plDone cmd q pl)) := by
  subst ht
  exact ⟨fun hc => next_plosto_refused h hp (hb.trans (if_neg hc)) hc, fun hc => next_plosto_ok h hp (hb.trans (if_pos hc))⟩

/-! ### Sessions -/

/-- R393: IMG_DATA by the session that is open. -/
theorem imgDataBody_of {t : State} {o : Option Session} (ho : t.kpr.session = o) (er : Bool) (q : PlReq) : imgDataBody er q t =
    match (generalizing := false) o with
    | none => if q.payload.length < 5 ∨ 240 < q.payload.length then nak t P.kpr .range else nak t P.kpr .state
    | some e =>
      let off := field q.payload 0 4
      let d := q.payload.drop 4
      let n := t.getF P.kpr F.KPR_IMG_BYTES_BYTES
      let again := decide (off + d.length ≤ n) && (e.data.drop off).take d.length == d
      if q.payload.length < 5 ∨ 240 < q.payload.length ∨ (!again ∧ (off ≠ n ∨ e.size < n + d.length)) then nak t P.kpr .range
      else if viaOwner q.via ≠ (e.req, e.key) then nak t P.kpr .state
      else if again then ok t []
      else if er then nak t P.kpr .busy
      else ok ((t.onKpr fun k => { k with session := some { e with data := e.data ++ d } }).setF P.kpr F.KPR_IMG_BYTES_BYTES
        (n + d.length)) [] := by
  subst ho
  rfl

/-- R394: IMG_COMMIT of the session by the session that is open. -/
theorem imgCommitBody_of {t : State} {q : PlReq} {o : Option Session} (ho : t.kpr.session = o)
    (hl : ¬(q.payload.length ≠ 4 ∨ 1 < field q.payload 0 1 ∨ 1 < field q.payload 1 1 ∨ 1 < field q.payload 2 1 ∨ 1 < field q.payload 3 1))
    (h0 : field q.payload 0 1 = 0) : imgCommitBody q t = match (generalizing := false) o with
    | none => nak t P.kpr .state
    | some e =>
      if viaOwner q.via ≠ (e.req, e.key) then nak t P.kpr .state
      else if t.kpr.verify.isSome then nak t P.kpr .busy
      else if e.data.length ≠ e.size then nak t P.kpr .check
      else ok (verifyStart t ⟨true, e.target, e.dest, field q.payload 1 1 == 1, e.data, q.via.req⟩) [] := by
  subst ho
  exact (if_neg hl).trans (if_pos h0)

/-- R395: what a session without data ends in. -/
theorem sessionAbort_of {s : State} {o : Option Session} (ho : s.kpr.session = o) : sessionAbort s =
    match (generalizing := false) o with
    | none => s
    | some e => imgShow (sessionShow (((s.onKpr fun k => { k with session := none }).refuse P.kpr 0x62 e.req 0 .aborted).setF P.kpr
        F.KPR_IMG_STAT_CODE Code.aborted.num) 0) := by
  subst ho
  rfl

/-- R395: the end of a session without data, while the keeper runs. -/
theorem exec_imgSessionTimeout {s : State} (h : keeperRuns s = true) : exec .imgSessionTimeout s = .next (sessionAbort s) := if_pos h

/-! ### Verification -/

/-- R396: where a verified image or library is entered. -/
theorem verifyPut_eq (s : State) (v : Verify) (c : Code) : verifyPut s v c =
    if v.target = 1 then setLib s v.dest (if c = .done then v.data else [])
    else
      let x := onSlotImage s v.dest fun _ => ⟨v.data, []⟩
      if c = .done then bootLog x v.dest .commit 0 else bootLog x v.dest .reject c.num := by
  rw [apply_ite (setLib s v.dest)]
  rfl

/-- R396: the end of a verification, by the one under way. -/
theorem exec_imgVerifyDone {s : State} {o : Option Verify} (ho : s.kpr.verify = o) (sound : Bool) : exec (.imgVerifyDone sound) s =
    match (generalizing := false) o with
    | none => .next s
    | some v =>
      if keeperRuns s then
        let c := if !sound then .check else if v.target = 0 then imgVerify s v.data true else libVerify v.data
        let a := s.onKpr fun k => { k with verify := none, rebootDue := v.reboot && decide (c = .done) }
        let u := if v.ends then verifyPut a v c else a
        let w := if c = .done then u else (u.err P.kpr).refuse P.kpr 0x64 v.req 0 c
        .next (imgShow ((sessionShow ((w.setF P.kpr F.KPR_IMG_STAT_CODE c.num).raise P.kpr 0)
          (if w.kpr.session.isSome then 1 else 0)).log 0x0003 1 0x0006 0 [BitVec.ofNat 8 v.target, BitVec.ofNat 8 v.dest,
            BitVec.ofNat 8 (if v.target = 0 then imgSecver v.data else 0), BitVec.ofNat 8 c.num]))
      else .next s := by
  subst ho
  rfl

/-! ### OTP -/

/-- R402: the checks of a write of OTP_CTRL before its operation. -/
theorem otpCtrlWrite_checks (r : Req) {w : Word} (hop : getField w 9 8 = 1 ∨ getField w 9 8 = 2) (t : State) :
    (3 < r.code → otpCtrlWrite r w t = (.auth, t)) ∧
    (r.code ≤ 3 → ¬(getField w 31 24 = 0x5C ∧ getField w 1 0 ≠ 0) → otpCtrlWrite r w t = (.range, t)) ∧
    (r.code ≤ 3 → getField w 31 24 = 0x5C ∧ getField w 1 0 ≠ 0 → otpCtrlWrite r w t =
      if getField w 9 8 = 1 ∧ otpBit t.otp.prog (getField w 1 0) = true then (.state, t)
      else if getField w 9 8 = 2 ∧ t.getF P.kpr F.KPR_BOOT_KEYSLOT = getField w 1 0 then (.state, t)
      else if t.isSet P.kpr F.KPR_OTP_CTRL_BUSY = true then (.busy, t)
      else if getField w 9 8 = 1 then
        (.done, (t.onKpr fun x => { x with otpOp := some (getField w 1 0, otpStaged t) }).setF P.kpr F.KPR_OTP_CTRL_BUSY 1)
      else (.done, otpRevoke t (getField w 1 0))) := by
  refine ⟨fun hr => if_pos hr, fun hr hg => (if_neg (Nat.not_lt.mpr hr)).trans (if_pos (by omega)),
    fun hr hg => (if_neg (Nat.not_lt.mpr hr)).trans (if_neg (by omega))⟩

/-- R402: the end of an OTP operation, by the one under way. -/
theorem exec_otpProgDone {s : State} {o : Option (Nat × List Byte)} (ho : s.kpr.otpOp = o) (sound : Bool) : exec (.otpProgDone sound) s =
    match (generalizing := false) o with
    | none => .next s
    | some (k, h) =>
      let u := (s.onKpr fun x => { x with otpOp := none }).setF P.kpr F.KPR_OTP_CTRL_BUSY 0
      let w : State := { u with otp := { u.otp with keys := modifyAt (fun _ => h) k u.otp.keys,
                                                    prog := if otpBit u.otp.prog k then u.otp.prog else u.otp.prog + 2 ^ k } }
      .next (if sound then w else otpFailed (otpRevoke w k) 1 k) := by
  subst ho
  rfl

/-- Settles O52. -/
theorem imagesAreUpdated : Obligations.ImagesAreUpdated := by
  unfold Obligations.ImagesAreUpdated
  intro s q p t o
  refine ⟨fun hs hp => ?begin, fun hs hp => ?data, fun hs hp => ?commit, fun sound => ?verified, fun hk e he => ?timeout,
    fun h => ?standing, fun hs hp b => ?confirm, fun r v => ?otp, fun sound => ⟨fun ho => exec_otpProgDone ho sound,
      fun k h ho => exec_otpProgDone ho sound⟩⟩
  case begin =>
    intro tg d n code
    refine next_plosto_nakOr hs hp rfl ?_
    exact ite_nakOr Iff.rfl nofun (ite_nakOr Iff.rfl nofun (ite_nakOr (by rw [Bool.not_eq_true']) nofun
      (ite_nakOr (by rw [Bool.not_eq_true']) nofun (ite_nakOr (d := .done) Iff.rfl nofun rfl))))
  case data =>
    intro n off d bad no er
    refine ⟨fun he => ⟨fun hb => ?_, fun hb => ?_⟩, fun e he => ?_⟩
    · exact next_plosto_refused hs hp ((imgDataBody_of he er q).trans (if_pos hb)) nofun
    · exact next_plosto_refused hs hp ((imgDataBody_of he er q).trans (if_neg hb)) nofun
    intro again fits
    have hagain : (decide (off + d.length ≤ n) && (e.data.drop off).take d.length == d) = true ↔ again := by
      rw [Bool.and_eq_true, decide_eq_true_eq, beq_iff_eq]
    have hbad : (p.length < 5 ∨ 240 < p.length ∨ ((!(decide (off + d.length ≤ n) && (e.data.drop off).take d.length == d)) = true ∧
        (off ≠ n ∨ e.size < n + d.length))) ↔ ¬fits := by
      rw [Bool.not_eq_true', Bool.eq_false_iff, Ne, hagain]
      rw [← or_assoc]
      simp only [fits, not_and_or, not_or, not_not, not_le]
      rfl
    have rest (hf : fits) := (imgDataBody_of he er q).trans (if_neg (not_not.mpr hf ∘ hbad.mp))
    refine ⟨fun hf => ?_, fun hf ho => ?_, fun hf ho ha => ?_, fun hf ho ha hr => ?_, fun hf ho ha hr => ?_⟩
    · exact next_plosto_refused hs hp ((imgDataBody_of he er q).trans (if_pos (hbad.mpr hf))) nofun
    · exact next_plosto_refused hs hp ((rest hf).trans (if_pos ho)) nofun
    · exact next_plosto_ok hs hp ((rest hf).trans ((if_neg (not_not.mpr ho)).trans (if_pos (hagain.mpr ha))))
    · exact next_plosto_refused hs hp
        ((rest hf).trans ((if_neg (not_not.mpr ho)).trans ((if_neg (mt hagain.mp ha)).trans (if_pos hr)))) nofun
    · exact next_plosto_ok hs hp
        ((rest hf).trans ((if_neg (not_not.mpr ho)).trans ((if_neg (mt hagain.mp ha)).trans (if_neg (ne_true_of_eq_false hr)))))
  case commit =>
    intro no layout tg d boot i hi
    have hbad : (p.length ≠ 4 ∨ 1 < field p 0 1 ∨ 1 < field p 1 1 ∨ 1 < field p 2 1 ∨ 1 < field p 3 1) ↔ ¬layout := by omega
    have hexec : exec i s = .next (runPlosto 0x64 q (onPage P.kpr true (imgCommitBody q)) s) := by
      simp only [List.mem_cons, List.not_mem_nil, or_false] at hi
      rcases hi with rfl | rfl <;> rfl
    rw [hexec]
    refine ⟨fun hl => next_plosto_refused hs hp (if_pos (hbad.mpr hl)) nofun, fun hl h0 => ⟨fun he => ?_, fun e he => ?_⟩, fun hl h1 => ?_⟩
    · exact next_plosto_refused hs hp (imgCommitBody_of he (not_not.mpr hl ∘ hbad.mp) h0) nofun
    · have act := imgCommitBody_of he (not_not.mpr hl ∘ hbad.mp) h0
      have free (hv : t.kpr.verify = none) : ¬t.kpr.verify.isSome = true := by rw [hv]; exact Bool.false_ne_true
      exact ⟨fun ho => next_plosto_refused hs hp (act.trans (if_pos ho)) nofun,
        fun ho hv => next_plosto_refused hs hp (act.trans ((if_neg (not_not.mpr ho)).trans (if_pos hv))) nofun,
        fun ho hv hn => next_plosto_refused hs hp
          (act.trans ((if_neg (not_not.mpr ho)).trans ((if_neg (free hv)).trans (if_pos hn)))) nofun,
        fun ho hv hn => next_plosto_ok hs hp
          (act.trans ((if_neg (not_not.mpr ho)).trans ((if_neg (free hv)).trans (if_neg (not_not.mpr hn)))))⟩
    · have h0 : ¬field p 0 1 = 0 := by omega
      have free (hv : t.kpr.verify = none) : ¬t.kpr.verify.isSome = true := by rw [hv]; exact Bool.false_ne_true
      exact ⟨fun hv => next_plosto_refused hs hp ((if_neg (not_not.mpr hl ∘ hbad.mp)).trans ((if_neg h0).trans (if_pos hv))) nofun,
        fun hv hf => next_plosto_refused hs hp ((if_neg (not_not.mpr hl ∘ hbad.mp)).trans
          ((if_neg h0).trans ((if_neg (free hv)).trans (if_pos (bnot_true hf))))) nofun,
        fun hv hf => next_plosto_ok hs hp ((if_neg (not_not.mpr hl ∘ hbad.mp)).trans
          ((if_neg h0).trans ((if_neg (free hv)).trans (if_neg (not_bnot hf)))))⟩
  case verified =>
    refine ⟨fun h => ?_, fun v hv hk => ?_⟩
    · cases hv : s.kpr.verify with
      | none => exact exec_imgVerifyDone hv sound
      | some v =>
        refine (exec_imgVerifyDone hv sound).trans (if_neg (ne_true_of_eq_false (h.resolve_left ?_)))
        rw [hv]
        exact Option.some_ne_none v
    · intro c a u w
      have hc : (if (!sound) = true then .check else if v.target = 0 then imgVerify s v.data true else libVerify v.data) = c :=
        if_congr (by rw [Bool.not_eq_true']) rfl rfl
      have hu : (if v.ends = true then verifyPut a v c else a) = u := by
        cases he : v.ends with
        | false => exact (if_neg Bool.false_ne_true).trans (if_pos he).symm
        | true => exact (if_pos rfl).trans ((verifyPut_eq a v c).trans (if_neg (by rw [he]; exact nofun)).symm)
      refine (exec_imgVerifyDone hv sound).trans ((if_pos hk).trans ?_)
      dsimp only
      rw [hc, hu]
  case timeout => rw [exec_imgSessionTimeout hk, sessionAbort_of he]
  case standing =>
    by_cases hk : keeperRuns s = true
    · have he := h.resolve_left fun hf => ne_true_of_eq_false hf hk
      rw [exec_imgSessionTimeout hk, sessionAbort_of he]
    · exact if_neg hk
  case confirm =>
    exact ⟨fun h => next_plosto_refused hs hp (if_pos h) nofun,
      fun h ht => next_plosto_refused hs hp ((if_neg (not_not.mpr h)).trans (if_pos (bnot_true ht))) nofun,
      fun h ht => next_plosto_ok hs hp ((if_neg (not_not.mpr h)).trans (if_neg (not_bnot ht)))⟩
  case otp =>
    intro a t busy no hs
    refine ⟨?prog, ?revoke⟩ <;> intro w k good
    case prog =>
      have hop : getField w 9 8 = 1 := getField_setField_same (by decide) v 8 1
      obtain ⟨auth, range, rest⟩ := otpCtrlWrite_checks r (.inl hop) t
      have no2 : ¬(getField w 9 8 = 2 ∧ t.getF P.kpr F.KPR_BOOT_KEYSLOT = k) := by omega
      have free (hb : otpBit t.otp.prog k = false) : ¬(getField w 9 8 = 1 ∧ otpBit t.otp.prog k = true) :=
        fun h => ne_true_of_eq_false hb h.2
      exact ⟨fun hr => next_hostWrite_refused hs (auth hr) nofun, fun hr hg => next_hostWrite_refused hs (range hr hg) nofun,
        fun hr hg hb => next_hostWrite_refused hs ((rest hr hg).trans (if_pos ⟨hop, hb⟩)) nofun,
        fun hr hg hb hy => next_hostWrite_refused hs ((rest hr hg).trans ((if_neg (free hb)).trans ((if_neg no2).trans (if_pos hy)))) nofun,
        fun hr hg hb hy => next_hostWrite_done hs ((rest hr hg).trans ((if_neg (free hb)).trans
          ((if_neg no2).trans ((if_neg (ne_true_of_eq_false hy)).trans (if_pos hop)))))⟩
    case revoke =>
      have hop : getField w 9 8 = 2 := getField_setField_same (by decide) v 8 2
      obtain ⟨auth, range, rest⟩ := otpCtrlWrite_checks r (.inr hop) t
      have no1 : ¬getField w 9 8 = 1 := by omega
      have free : ¬(getField w 9 8 = 1 ∧ otpBit t.otp.prog k = true) := fun h => no1 h.1
      exact ⟨fun hr => next_hostWrite_refused hs (auth hr) nofun, fun hr hg => next_hostWrite_refused hs (range hr hg) nofun,
        fun hr hg hb => next_hostWrite_refused hs ((rest hr hg).trans ((if_neg free).trans (if_pos ⟨hop, hb⟩))) nofun,
        fun hr hg hb hy => next_hostWrite_refused hs ((rest hr hg).trans ((if_neg free).trans
          ((if_neg fun h => hb h.2).trans (if_pos hy)))) nofun,
        fun hr hg hb hy => next_hostWrite_done hs ((rest hr hg).trans ((if_neg free).trans
          ((if_neg fun h => hb h.2).trans ((if_neg (ne_true_of_eq_false hy)).trans (if_neg no1)))))⟩

end Sys2Proof.Machine
end

section
/-! PROOFS. The black box (R349, R404-R409). -/

namespace Sys2Proof.Machine

/-! ### Records -/

/-- R405: the write of the record at the front of the queue, by the queue. -/
theorem exec_bbxRecordWrite {s : State} (hk : keeperRuns s = true) {o : List BbxRec} (ho : s.bbxQueue = o) (w : MramWrite) :
    exec (.bbxRecordWrite w) s = match (generalizing := false) o with
      | [] => .next s
      | r :: t =>
        match w with
        | .done => .next (writeRec { s with bbxQueue := t } r)
        | .badRead => .next ((tornRec s r).raise P.bbx 24)
        | .cut => .next (tornRec s r) := by
  subst ho
  exact if_pos hk

/-- R409: records without an error are taken in order, up to the number asked for. -/
theorem takeSound_of_sound : ∀ (l : List BbxRec), (∀ r ∈ l, recSound r = true) → ∀ n, takeSound n l = (l.take n, 0)
  | _, _, 0 => by rw [takeSound, List.take_zero]
  | [], _, _ + 1 => by rw [takeSound, List.take_nil]
  | r :: t, h, n + 1 => by
    obtain ⟨hr, ht⟩ := List.forall_mem_cons.mp h
    rw [takeSound, if_pos hr, takeSound_of_sound t ht n]
    rfl

/-! ### Pins -/

/-- R408: what a command that pins or unpins one record does, by whether the record is there. -/
theorem bbxPinBody_of {t : State} {q : PlReq} {o : Option BbxRec} (ho : (ringRecs t).find? (fun r => r.seq == field q.payload 4 8) = o)
    (hl : ¬(q.payload.length ≠ 12 ∨ 2 < field q.payload 0 1 ∨ field q.payload 1 3 ≠ 0 ∨ field q.payload 10 2 ≠ 0))
    (h2 : field q.payload 0 1 ≠ 2) : bbxPinBody q t = match (generalizing := false) o with
    | none => nak t P.bbx .absent
    | some _ =>
      let answer (u : State) (gone : Nat) : PlAns := ok u (leBytes 2 (pinnedRecs u).length ++ [0, 0] ++ leBytes 8 gone)
      if field q.payload 0 1 = 1 then answer (setRecSt t (field q.payload 4 8) .valid) 0
      else
        let o := pinLimit (setRecSt t (field q.payload 4 8) .pinned)
        answer o.2 o.1 := by
  subst ho
  exact (if_neg hl).trans (if_neg h2)

/-- Settles O54. -/
theorem theBlackBoxKeepsRecords : Obligations.TheBlackBoxKeepsRecords := by
  unfold Obligations.TheBlackBoxKeepsRecords
  intro s q p t
  refine ⟨fun r l hk hq => ?_, fun h w => ?rest, ?mirror, rfl, fun okay => ?erase, fun hs hp => ?read, takeSound_of_sound,
    fun hs hp => ?pin⟩
  · exact ⟨exec_bbxRecordWrite hk hq .done, exec_bbxRecordWrite hk hq .badRead, exec_bbxRecordWrite hk hq .cut⟩
  case rest =>
    by_cases hk : keeperRuns s = true
    · exact exec_bbxRecordWrite hk (h.resolve_left fun hf => ne_true_of_eq_false hf hk) w
    · exact if_neg hk
  case mirror => exact ⟨fun h => ⟨if_pos h, if_pos h⟩, fun h okay => if_neg h⟩
  case erase =>
    refine ⟨fun hk hf hw => ⟨if_pos ⟨hk, hf, hw⟩, if_pos ⟨hk, hf, hw⟩⟩, fun h log => if_neg ?_⟩
    rintro ⟨hk, hf, hw⟩
    rcases h with h | h | h
    · exact ne_true_of_eq_false h hk
    · exact ne_true_of_eq_false h hf
    · exact ne_true_of_eq_false h hw
  case read =>
    intro mode layout all l o u got
    have hbad : (p.length ≠ 12 ∨ 2 < mode ∨ 1 < field p 1 1 ∨ field p 2 1 < 1 ∨ 3 < field p 2 1 ∨ field p 3 1 ≠ 0 ∨ field p 10 2 ≠ 0) ↔
        ¬layout := by omega
    have rest (hl : layout) : bbxReadBody q t = if got = [] then nak u P.bbx .absent else
        ok u ([BitVec.ofNat 8 got.length, 0, 0, 0] ++ leBytes 8 (got.foldl (fun m r => max m r.seq) 0 + 1) ++ got.flatMap recBytes) :=
      if_neg (not_not.mpr hl ∘ hbad.mp)
    exact ⟨fun hl => next_plosto_refused hs hp (if_pos (hbad.mpr hl)) nofun,
      fun hl hg => next_plosto_refused hs hp ((rest hl).trans (if_pos hg)) nofun,
      fun hl hg => next_plosto_ok hs hp ((rest hl).trans (if_neg hg))⟩
  case pin =>
    intro n op layout there o un off answer i hi
    have hbad : (p.length ≠ 12 ∨ 2 < op ∨ field p 1 3 ≠ 0 ∨ field p 10 2 ≠ 0) ↔ ¬layout := by omega
    have hexec : exec i s = .next (runPlosto 0x61 q (onPage P.bbx true (bbxPinBody q)) s) := by
      simp only [List.mem_cons, List.not_mem_nil, or_false] at hi
      rcases hi with rfl | rfl | rfl <;> rfl
    rw [hexec]
    have good (hl : layout) := not_not.mpr hl ∘ hbad.mp
    refine ⟨fun hl => next_plosto_refused hs hp (if_pos (hbad.mpr hl)) nofun, fun hl h2 hn => ?_, fun hl h0 ht => ?_, fun hl h1 ht => ?_,
      fun hl h2 => next_plosto_ok hs hp ((if_neg (good hl)).trans (if_pos h2))⟩
    · exact next_plosto_refused hs hp (bbxPinBody_of (Option.isSome_eq_false_iff.mp hn |> Option.isNone_iff_eq_none.mp)
        (good hl) (Nat.ne_of_lt h2)) nofun
    all_goals obtain ⟨r, hr⟩ := Option.isSome_iff_exists.mp ht
    · exact next_plosto_ok hs hp ((bbxPinBody_of hr (good hl) (show op ≠ 2 by omega)).trans (if_neg (show op ≠ 1 by omega)))
    · exact next_plosto_ok hs hp ((bbxPinBody_of hr (good hl) (show op ≠ 2 by omega)).trans (if_pos h1))

end Sys2Proof.Machine
end

section
/-! PROOFS. The nurse: scrub, sensors, supplies, sense gain, telemetry (R411-R416). -/

namespace Sys2Proof.Machine

/-! ### Sensors -/

/-- R412: showing the temperature leaves the keeper and the system as they are. -/
theorem tempShow_keeps (s : State) (x : Int) : (tempShow s x).kpr = s.kpr ∧ (tempShow s x).sys = s.sys := by
  unfold tempShow
  dsimp only
  split <;> exact ⟨rfl, rfl⟩

/-- R412: a reading that is hot for the first time is recorded. -/
def hotNoted (s u : State) (x : Int) (pay : List Byte) : State :=
  if 1150 ≤ x ∧ s.kpr.hot = false then ((u.onKpr fun k => { k with hot := true }).raise P.nrs 2).log 0x000B 2 0x0008 0 pay else u

/-- R412: what a poll of the sensors does. -/
theorem exec_sensorPoll {s : State} (hk : keeperRuns s = true) (t0 t1 t2 t3 : BitVec 16) :
    let x := max (max (max t0.toInt t1.toInt) t2.toInt) t3.toInt
    let pay := [t0, t1, t2, t3].flatMap fun v => leBytes 2 v.toNat
    let c := if x < 1100 then (tempShow s x).onKpr fun k => { k with hot := false } else tempShow s x
    let h := hotNoted c c x pay
    exec (.sensorPoll t0 t1 t2 t3) s =
      .next (if 1240 ≤ x ∧ h.sys.resetPending = none then (h.log 0x000C 4 0x0008 0 pay).resetAsk 5 else h) := by
  intro x pay c h
  have hh : (if 1150 ≤ x ∧ (!c.kpr.hot) = true then
      ((c.onKpr fun k => { k with hot := true }).raise P.nrs 2).log 0x000B 2 0x0008 0 pay else c) = h :=
    if_congr bnot_iff rfl rfl
  rw [← hh]
  exact if_pos hk

/-- R412: a note of a hot reading asks for no reset. -/
theorem hotNoted_resetPending (s u : State) (x : Int) (pay : List Byte) : (hotNoted s u x pay).sys.resetPending = u.sys.resetPending := by
  unfold hotNoted
  split
  · rw [State.log, State.queueRec_sys]
    rfl
  · rfl

/-! ### Telemetry -/

/-- R416: whether a frame is logged, and when it reaches the log. -/
theorem tlmLog_cases (s : State) (b : List Byte) :
    let now := (s.get64 (P.kpr + 0x68)).toNat
    let soon := s.sys.mode = .sleep ∧ ∃ t, s.kpr.tlmAt = some t ∧ now < t + 60000
    let may := flsReady s = true ∧ (logPick s.flash.log).isSome = true ∧ ¬soon
    let u := s.onKpr fun k => { k with tlmAt := some now, logDue := k.logDue ++ [b] }
    (¬may → tlmLog s b = s) ∧ (may → tlmLog s b = logDrain u) := by
  intro now soon may u
  have act {o : Option Nat} (ho : s.kpr.tlmAt = o) : tlmLog s b = if (flsReady s && (logPick s.flash.log).isSome &&
      !(match (generalizing := false) o with
        | some t => s.sys.mode == .sleep && decide (now < t + 60000)
        | none => false)) = true then logDrain u else s := by
    subst ho
    rfl
  cases ho : s.kpr.tlmAt with
  | none =>
    have hsoon : ¬soon := fun ⟨_, t, ht, _⟩ => Option.some_ne_none t (ht.symm.trans ho)
    have hmay : (flsReady s && (logPick s.flash.log).isSome && !false) = true ↔ may := by
      rw [Bool.not_false, Bool.and_true, Bool.and_eq_true]
      exact and_congr_right' (and_iff_left hsoon).symm
    exact ⟨fun h => (act ho).trans (if_neg (mt hmay.mp h)), fun h => (act ho).trans (if_pos (hmay.mpr h))⟩
  | some t =>
    have hsoon : (s.sys.mode == .sleep && decide (now < t + 60000)) = true ↔ soon := by
      rw [Bool.and_eq_true, beq_iff_eq, decide_eq_true_eq]
      refine and_congr_right' ⟨fun h => ⟨t, ho, h⟩, ?_⟩
      rintro ⟨t', ht, h⟩
      rwa [Option.some.inj (ho.symm.trans ht)]
    have hmay : (flsReady s && (logPick s.flash.log).isSome && !(s.sys.mode == .sleep && decide (now < t + 60000))) = true ↔ may := by
      rw [Bool.and_eq_true, Bool.and_eq_true, Bool.not_eq_true', Bool.eq_false_iff, Ne, hsoon, and_assoc]
    exact ⟨fun h => (act ho).trans (if_neg (mt hmay.mp h)), fun h => (act ho).trans (if_pos (hmay.mpr h))⟩

/-- R416: frames that wait reach the log when it is the turn of writes. -/
theorem logDrain_of_due {u : State} (hd : u.kpr.logDue ≠ []) (hf : flsReady u = true) :
    (writeTurn u = false → logDrain u = u) ∧
    (writeTurn u = true → logDrain u = forEach u.kpr.logDue logWrite (u.onKpr fun k => { k with logDue := [] })) := by
  refine ⟨fun hw => (if_neg hd).trans (if_neg ?_), fun hw => (if_neg hd).trans (if_pos ?_)⟩ <;> rw [hf, hw]
  · exact Bool.false_ne_true
  · rfl

/-- R416: the frame that TELEMETRY answers. -/
theorem telemetryBody_of {t : State} {q : PlReq} (hl : ¬(q.payload.length ≠ 12 ∨ 1 < field q.payload 0 1 ∨ field q.payload 1 3 ≠ 0))
    {o : Option (List Byte)} (ho : (if field q.payload 0 1 = 0 then (if t.kpr.tlm = [] then none else some t.kpr.tlm)
      else ((if flsReady t then t.flash.log.flatMap (·.frames) else []).filter fun b =>
        leNat ((b.drop 8).take 6) == field q.payload 4 8).getLast?) = o) :
    telemetryBody q t = match (generalizing := false) o with
      | some b => ok t b
      | none => nak t P.nrs .absent := by
  by_cases h0 : field q.payload 0 1 = 0
  · rw [if_pos h0] at ho
    by_cases ht : t.kpr.tlm = []
    · rw [if_pos ht] at ho
      subst ho
      exact (if_neg hl).trans ((if_pos h0).trans (if_pos ht))
    · rw [if_neg ht] at ho
      subst ho
      exact (if_neg hl).trans ((if_pos h0).trans (if_neg ht))
  · rw [if_neg h0] at ho
    subst ho
    exact (if_neg hl).trans (if_neg h0)

/-- Settles O55. -/
theorem theNurseWatches : Obligations.TheNurseWatches := by
  unfold Obligations.TheNurseWatches
  intro s
  refine ⟨fun sp a => ?_, fun ms => ?pass, fun t0 t1 t2 t3 => ?sensors, fun i mv => ?_, fun n d => ?gain, fun ts => ?frame, fun b => ?log,
    fun q => ?telemetry⟩
  · refine ⟨fun h => ⟨if_pos h, congrArg Host.Outcome.next (if_pos h)⟩, fun h => ?_⟩
    have hn := ne_true_of_eq_false h
    exact ⟨if_neg hn, congrArg Host.Outcome.next (if_neg hn)⟩
  case pass =>
    intro t u
    have act {b : Bool} (hb : decide (10000 < ms) = b) (hk : keeperRuns s = true) :
        exec (.eccScrub (.passEnd ms)) s = .next (if b = true then u.raise P.nrs 3 else u) := by
      have hlate : b2n (decide (10000 < ms)) = if 10000 < ms then 1 else 0 := by
        by_cases hm : 10000 < ms <;> simp [b2n, hm]
      have hu : ((s.setF P.nrs F.NRS_STAT_PASS_MS (min 0xFFFF ms)).setF P.nrs F.NRS_STAT_LATE (b2n (decide (10000 < ms)))).inc64
          (P.nrs + 0x44) = u := by rw [hlate]
      refine (if_pos hk).trans (congrArg Host.Outcome.next ?_)
      rw [hu, hb]
    exact ⟨fun hk hm => act (decide_eq_false (Nat.not_lt.mpr hm)) hk, fun hk hm => act (decide_eq_true hm) hk,
      fun hk => if_neg (ne_true_of_eq_false hk)⟩
  case sensors =>
    intro x pay u hot
    obtain ⟨hkpr, hsys⟩ := tempShow_keeps s x
    have hhot : hotNoted u u x pay = hot := by
      refine if_congr ?_ rfl rfl
      rw [show u.kpr = s.kpr from hkpr]
    have hpend : hot.sys.resetPending = s.sys.resetPending := by
      rw [← hhot, hotNoted_resetPending, hsys]
    have act (hk : keeperRuns s = true) (hx : 1100 ≤ x) : exec (.sensorPoll t0 t1 t2 t3) s =
        .next (if 1240 ≤ x ∧ hot.sys.resetPending = none then (hot.log 0x000C 4 0x0008 0 pay).resetAsk 5 else hot) := by
      have hpoll := exec_sensorPoll hk t0 t1 t2 t3
      dsimp only at hpoll
      rw [if_neg (Int.not_lt.mpr hx), hhot] at hpoll
      exact hpoll
    refine ⟨fun hk => if_neg (ne_true_of_eq_false hk), fun hk hx => ?_, fun hk hx hr => ?_, fun hk hx hr => ?_⟩
    · refine (exec_sensorPoll hk t0 t1 t2 t3).trans (congrArg Host.Outcome.next ((if_neg (by omega)).trans ((if_neg (by omega)).trans ?_)))
      exact if_pos hx
    · refine (act hk hx).trans (congrArg Host.Outcome.next (if_neg ?_))
      rintro ⟨hlim, hn⟩
      exact hr.elim (fun hlt => absurd hlim (Int.not_le.mpr hlt)) fun hne => hne (hpend ▸ hn)
    · exact (act hk (by omega)).trans (congrArg Host.Outcome.next (if_pos ⟨hx, hpend.trans hr⟩))
  · exact ⟨fun hk => congrArg Host.Outcome.next (if_pos hk), fun hk => congrArg Host.Outcome.next (if_neg (ne_true_of_eq_false hk))⟩
  case gain =>
    refine ⟨fun hk hst => ⟨max (-100) (min 100 d), ?_, ?_, congrArg Host.Outcome.next (if_pos ⟨hk, hst⟩)⟩, fun h => ?_⟩
    · rw [abs_le]
      omega
    · rw [abs_le]
      omega
    · refine congrArg Host.Outcome.next (if_neg ?_)
      rintro ⟨hk, hst⟩
      exact h.elim (fun hf => ne_true_of_eq_false hf hk) fun hne => hne hst
  case frame => exact ⟨fun h => if_pos h, fun h => if_neg h⟩
  case log =>
    intro now soon may u
    obtain ⟨none, some⟩ := tlmLog_cases s b
    have hd : u.kpr.logDue ≠ [] := List.append_ne_nil_of_right_ne_nil _ (List.cons_ne_nil b [])
    refine ⟨none, fun hm hw => (some hm).trans ?_, fun hm hw => (some hm).trans ?_⟩
    · exact (logDrain_of_due hd hm.1).1 hw
    · exact (logDrain_of_due hd hm.1).2 hw
  case telemetry =>
    intro p t layout found hs hp
    have hbad : (p.length ≠ 12 ∨ 1 < field p 0 1 ∨ field p 1 3 ≠ 0) ↔ ¬layout := by omega
    exact ⟨fun hl => next_plosto_refused hs hp (if_pos (hbad.mpr hl)) nofun,
      fun hl hf => next_plosto_refused hs hp (telemetryBody_of (not_not.mpr hl ∘ hbad.mp) hf) nofun,
      fun b hl hf => next_plosto_ok hs hp (telemetryBody_of (not_not.mpr hl ∘ hbad.mp) hf)⟩

end Sys2Proof.Machine
end

section
/-! PROOFS. Entering a power state (R430-R436, R446, R447). -/

namespace Sys2Proof.Machine

/-! ### Requests -/

/-- R431: what a request for a state that there is ends in. -/
theorem powerAsk_of {c : Nat} {m : PwrMode} (hm : targetOf c = some m) (s : State) (force : Bool) (h : Req) (cmd addr : Nat)
    {o : Option Refuser} (ho : refuser s m force = o) : powerAsk s c force h cmd addr =
      if force ∧ m = .idle then (.range, none, s)
      else match (generalizing := false) o with
        | some x => (.state, some x, rfsPut s c h x)
        | none =>
          if s.sys.entry.isSome then (.busy, none, s)
          else if m = .idle ∧ s.sys.mode = .idle then (.done, none, s)
          else (.done, none, entryBegin s m (if force then 2 else 0) h cmd addr) := by
  subst ho
  rw [powerAsk, hm] <;> rfl

/-- R431: a request for a state that there is not. -/
theorem powerAsk_range {c : Nat} (hm : targetOf c = none) (s : State) (force : Bool) (h : Req) (cmd addr : Nat) :
    powerAsk s c force h cmd addr = (.range, none, s) := by
  rw [powerAsk, hm]

/-- R432: a request that is DONE has no refuser. -/
theorem powerAsk_done {s : State} {c : Nat} {force : Bool} {h : Req} {cmd addr : Nat} (hd : (powerAsk s c force h cmd addr).1 = .done) :
    (powerAsk s c force h cmd addr).2.1 = none := by
  cases hm : targetOf c with
  | none => rw [powerAsk_range hm]
  | some m =>
    cases ho : refuser s m force <;> rw [powerAsk_of hm s force h cmd addr ho] at hd ⊢
    · dsimp only
      split
      · rfl
      · split
        · rfl
        · split <;> rfl
    · dsimp only at hd ⊢
      split
      · rfl
      next hf =>
        rw [if_neg hf] at hd
        cases hd

/-- R431: the beginning of an entry. -/
theorem entryBegin_asked (s : State) (m : PwrMode) (force : Bool) (h : Req) (cmd addr : Nat) :
    entryBegin s m (if force then 2 else 0) h cmd addr =
      ((if force then testAbort (sessionAbort s) else s).setSt P.pwr 4).onSys fun y => { y with
        entry := some { target := m, kind := if force then 2 else 0, from_ := y.mode, prepared := false, source := none,
                        req := h, cmd := cmd, addr := addr } } := by
  cases force <;> rfl

/-- R433: the refuser that an answer names. -/
theorem refuserBytes_getD (o : Option Refuser) : (o.map refuserBytes).getD [] = match o with
    | some x => leBytes 2 x.ty ++ [BitVec.ofNat 8 x.inst, BitVec.ofNat 8 x.unit, BitVec.ofNat 8 x.reason, 0, 0, 0]
    | none => [] := by
  cases o <;> rfl

/-- Answers that agree in their code, their payload and their state. -/
theorem plAns_congr {c d : Code} {l m : List Byte} {pg a : Nat} {t u : State} (hc : c = d) (hl : l = m) (ht : t = u) :
    (⟨c, l, pg, a, t⟩ : PlAns) = ⟨d, m, pg, a, u⟩ := by
  rw [hc, hl, ht]

/-- R434: the state that nothing refuses is entered. -/
theorem autoTry_of {s : State} {l : List PwrMode} {o : Option PwrMode} (ho : l.find? (fun m => (refuser s m false).isNone) = o) :
    autoTry s l = match (generalizing := false) o with
      | some m => entryBegin s m 1 .keeper 0xFF 0
      | none => s := by
  subst ho
  rfl

/-! ### Entries -/

/-- R435: the preparation of the entry under way. -/
theorem exec_entryPrepare {s : State} {o : Option Entry} (ho : s.sys.entry = o) : exec .entryPrepare s =
    match (generalizing := false) o with
    | none => .next s
    | some e =>
      if e.prepared then .next s
      else if e.source.isSome ∨ (e.target = .idle ∧ activeCount s ≠ 0) then .next (abandon s e)
      else if undrained s ≠ [] then .next s
      else .next ((if e.target = .idle then s.idleMuteAll else prepare s e).onEntry fun x => { x with prepared := true }) := by
  subst ho
  rfl

/-- R436: the commit of the entry under way. -/
theorem exec_entryCommit {s : State} {o : Option Entry} (ho : s.sys.entry = o) : exec .entryCommit s =
    match (generalizing := false) o with
    | none => .next s
    | some e =>
      if !e.prepared ∨ (e.target ≠ .idle ∧ !outputsDone s) then .next s
      else if e.source.isSome ∨ (e.target = .idle ∧ activeCount s ≠ 0) then .next (abandon s e)
      else .next (commit s e) := by
  subst ho
  rfl

/-- R435: the time-out of the descriptors of the entry under way. -/
theorem exec_drainTimeout {s : State} {o : Option Entry} {l : List (Fin 32)} (ho : s.sys.entry = o) (hl : undrained s = l) :
    exec .drainTimeout s = match (generalizing := false) o, l with
    | some e, c :: _ =>
      if e.prepared then .next s
      else if e.kind = 2 then .next (frgAbortAll s)
      else if e.kind = 1 then
        .next (autoTry (entryOver s) ((autoCands (entryOver s)).filter fun m => decide (m.code < e.target.code)))
      else if e.kind = 0 then
        .next ((rfsPut (entryOver s) e.target.code e.req ⟨0x32, 0, c, 3⟩).refuse P.pwr e.cmd e.req e.addr .state)
      else .next (entryOver s)
    | _, _ => .next s := by
  subst ho hl
  rfl

/-- R430: the state that is reached. -/
theorem reachState_sys (s : State) (m : PwrMode) (kind : Nat) :
    (reachState s m kind).sys.mode = m ∧ (reachState s m kind).sys.entry = none := ⟨rfl, rfl⟩

/-- Showing the state of the Comb leaves the system as it is. -/
theorem cmbShow_sys (s : State) : (cmbShow s).sys = s.sys := by
  unfold cmbShow
  split <;> rfl

/-- R436: a commit reaches the target, and the entry is over. -/
theorem commit_sys {e : Entry} (h : e.target ≠ .run) (s : State) : (commit s e).sys.mode = e.target ∧ (commit s e).sys.entry = none := by
  unfold commit
  cases ht : e.target with
  | run => exact absurd ht h
  | idle =>
    dsimp only
    rw [cmbShow_sys]
    exact reachState_sys s .idle e.kind
  | sleep => exact reachState_sys _ .sleep e.kind
  | deep => exact reachState_sys _ .deep e.kind
  | off => exact reachState_sys _ .off e.kind

/-- Settles O57. -/
theorem powerStatesAreEntered : Obligations.PowerStatesAreEntered := by
  unfold Obligations.PowerStatesAreEntered
  intro s q p t r
  refine ⟨fun c force h cmd addr => ?ask, fun hs hp => ?request, fun h v => ?go, fun hs hp => ?tolerance, fun hs hp => ?query,
    fun he => ⟨exec_entryPrepare he, exec_entryCommit he, exec_drainTimeout he rfl⟩, fun e he => ?entry, fun e h => commit_sys h s,
    ?idleTimer, ?escalation⟩
  case ask =>
    intro o
    refine ⟨fun hm => powerAsk_range hm s force h cmd addr, fun m hm => ?_, fun hc => if_pos hc, fun hc => if_neg ?_⟩
    · intro never
      refine ⟨fun hn => ?_, fun hn x hx => ?_, fun hn hx he => ?_, fun hn hx he => ?_⟩
      · exact (powerAsk_of hm s force h cmd addr rfl).trans (if_pos hn)
      · exact (powerAsk_of hm s force h cmd addr hx).trans (if_neg hn)
      · exact (powerAsk_of hm s force h cmd addr hx).trans ((if_neg hn).trans (if_pos he))
      have begun := (powerAsk_of hm s force h cmd addr hx).trans ((if_neg hn).trans (if_neg (by rw [he]; exact Bool.false_ne_true)))
      refine ⟨fun hi => begun.trans (if_pos hi), fun hi => begun.trans ((if_neg (not_and_or.mpr hi)).trans ?_)⟩
      rw [entryBegin_asked]
    · rcases hc with hc | hc <;> rw [hc] <;> decide
  case request =>
    intro bad o
    refine ⟨fun hb => next_plosto_refused hs hp (if_pos hb) nofun,
      fun hb hd => next_plosto_done (pg := P.pwr) (a := 0) hs hp ((if_neg hb).trans ?_),
      fun hb hd => next_plosto_refused hs hp ((if_neg hb).trans ?_) hd⟩
    · exact plAns_congr hd (congrArg (fun x => (Option.map refuserBytes x).getD []) (powerAsk_done hd)) (if_pos hd)
    · exact plAns_congr rfl (refuserBytes_getD o.2.1) (if_neg hd)
  case go =>
    intro u w o hs
    have h31 : bit w 31 = true := bit_setField_same (by decide) v 1
    have act : pwrReqWrite h w u = if o.1 = .done then (.done, o.2.2.store pwrReqAt w) else (o.1, askCount o) := if_neg (not_bnot h31)
    exact ⟨fun hd => next_hostWrite_done hs (act.trans (if_pos hd)), fun hd => next_hostWrite_refused hs (act.trans (if_neg hd)) hd⟩
  case tolerance =>
    exact ⟨fun hb => next_plosto_refused hs hp (if_pos hb) nofun, fun hb => next_plosto_ok hs hp (if_neg hb)⟩
  case query =>
    exact ⟨fun hb => next_plosto_refused hs hp (if_pos hb) nofun, fun hb => next_plosto_ok hs hp (if_neg hb)⟩
  case entry =>
    intro met waits
    have hwaits : ((!e.prepared) = true ∨ (e.target ≠ .idle ∧ (!outputsDone s) = true)) ↔ waits := by
      rw [Bool.not_eq_true', Bool.not_eq_true']
    refine ⟨fun hp => (exec_entryPrepare he).trans (if_pos hp), fun hp hm => ?_, fun hp hm hu => ?_, fun hp hm hu => ?_,
      fun hw => (exec_entryCommit he).trans (if_pos (hwaits.mpr hw)),
      fun hw hm => (exec_entryCommit he).trans ((if_neg (mt hwaits.mp hw)).trans (if_pos hm)),
      fun hw hm => (exec_entryCommit he).trans ((if_neg (mt hwaits.mp hw)).trans (if_neg hm)), fun h => ?_, fun c l hp hu => ?_⟩
    · exact (exec_entryPrepare he).trans ((if_neg (ne_true_of_eq_false hp)).trans (if_pos hm))
    · exact (exec_entryPrepare he).trans ((if_neg (ne_true_of_eq_false hp)).trans ((if_neg hm).trans (if_pos hu)))
    · exact (exec_entryPrepare he).trans ((if_neg (ne_true_of_eq_false hp)).trans ((if_neg hm).trans (if_neg (not_not.mpr hu))))
    · cases hu : undrained s with
      | nil => exact exec_drainTimeout he hu
      | cons c l => exact (exec_drainTimeout he hu).trans (if_pos (h.resolve_right fun hn => List.cons_ne_nil c l (hu.symm.trans hn)))
    · have rest := (exec_drainTimeout he hu).trans (if_neg (ne_true_of_eq_false hp))
      refine ⟨fun hk => rest.trans (if_pos hk), fun hk => ?_, fun hk => ?_, fun hk => ?_⟩
      · exact rest.trans ((if_neg (by omega)).trans ((if_neg (by omega)).trans (if_pos hk)))
      · exact rest.trans ((if_neg (by omega)).trans (if_pos hk))
      · exact rest.trans ((if_neg (by omega)).trans ((if_neg (by omega)).trans (if_neg (by omega))))
  case idleTimer =>
    intro runs
    have hruns : (s.sys.mode = .run ∧ s.sys.service = true ∧ (!s.sys.held) = true ∧ s.sys.entry = none ∧ s.en P.pwr = true ∧
        s.getF P.pwr F.PWR_CFG_IDLE_TMR ≠ 0 ∧ activeCount s = 0) ↔ runs := by
      rw [Bool.not_eq_true']
    exact ⟨fun h m hm => congrArg Host.Outcome.next ((if_pos (hruns.mpr h)).trans (autoTry_of hm)),
      fun h hm => congrArg Host.Outcome.next ((if_pos (hruns.mpr h)).trans (autoTry_of hm)),
      fun h => congrArg Host.Outcome.next (if_neg (mt hruns.mp h))⟩
  case escalation =>
    intro tries
    have htries : (s.sys.mode = .sleep ∧ (!s.sys.held) = true ∧ s.sys.waking = none ∧ s.sys.entry = none ∧
        s.getF P.pwr F.PWR_CFG_ESCALATE ≠ 0 ∧ refuser s .deep false = none) ↔ tries := by
      rw [Bool.not_eq_true']
    exact ⟨fun h => congrArg Host.Outcome.next (if_pos (htries.mpr h)), fun h => congrArg Host.Outcome.next (if_neg (mt htries.mp h))⟩

end Sys2Proof.Machine
end

section
/-! PROOFS. Leaving a power state (R439-R443). -/

namespace Sys2Proof.Machine

/-! ### WAKE_IN -/

/-- R441: a rising edge of WAKE_IN in a lock-out. -/
theorem wakeInRise_lockout {u : State} (h : u.sys.lockout = true) :
    (u.sys.lowSeen = true → wakeInRise u = (u.onSys fun y =>
      { y with lockout := false, lowSeen := false, fails := 0, waking := some 7 }).setF P.pwr F.PWR_STAT_CONSEC 0) ∧
    (u.sys.lowSeen = false → wakeInRise u = u) :=
  ⟨fun hl => (if_pos h).trans (if_pos hl), fun hl => (if_pos h).trans (if_neg (ne_true_of_eq_false hl))⟩

/-- R439: a rising edge of WAKE_IN by the entry under way and the mode. -/
theorem wakeInRise_of {u : State} (h : u.sys.lockout = false) {o : Option Entry} (ho : u.sys.entry = o) {m : PwrMode}
    (hm : u.sys.mode = m) : wakeInRise u = match (generalizing := false) o with
      | some e => if e.source.isNone then u.onEntry fun x => { x with source := some 1 } else u
      | none =>
        match (generalizing := false) m with
        | .run => u
        | .idle => u.idleExit 1
        | _ => if u.sys.waking.isNone then u.onSys fun y => { y with waking := some 1 } else u := by
  subst ho hm
  exact if_neg (ne_true_of_eq_false h)

/-! ### Steps of a wake -/

/-- R440: the steps of the wake under way. -/
theorem exec_wakeSequence {s : State} {o : Option Nat} (ho : s.sys.waking = o) (us : BitVec 24) : exec (.wakeSequence us) s =
    match (generalizing := false) o with
    | none => .next s
    | some src => .next (if s.sys.held then s else if s.sys.mode = .off then wakeOff s src us.toNat else wakeRun s src us.toNat) := by
  subst ho
  rfl

/-- R442: the time-out of a step of the wake under way. -/
theorem exec_wakeStepTimeout {s : State} {o : Option Nat} (ho : s.sys.waking = o) (k : Fin 10) : exec (.wakeStepTimeout k) s =
    match (generalizing := false) o with
    | none => .next s
    | some src =>
      if !stepRuns s (k.val + 1) then .next s
      else if s.sys.retried ≠ some (k.val + 1) then .next (s.onSys fun y => { y with retried := some (k.val + 1) })
      else if k.val + 1 = 5 ∨ k.val + 1 = 8 then
        .next (wakeFailed (s.onSys fun y => { y with retried := none, clockFail := k.val + 1 }) s.sys.mode.code 2 (k.val + 1))
      else .next (wakeAbort s src (k.val + 1)) := by
  subst ho
  rfl

/-- R443: a reference that fails in Sleep, by the entry under way. -/
theorem exec_refFailInSleep {s : State} (h : ¬(s.sys.mode ≠ .sleep ∨ s.sys.held = true ∨ s.clk.halt = some .ref)) {o : Option Entry}
    (ho : s.sys.entry = o) : exec .refFailInSleep s =
      let t := match (generalizing := false) o with
        | some e => abandon s { e with source := some 8 }
        | none => s
      .next (wakeFailed ((t.onClk fun c => { c with halt := some .ref }).onSys fun y =>
        { y with clockFail := 8, waking := some ((t.onClk fun c => { c with halt := some .ref }).sys.waking.getD 8) }) 2 2 8) := by
  subst ho
  exact if_neg h

/-- Settles O58. -/
theorem powerStatesAreLeft : Obligations.PowerStatesAreLeft := by
  unfold Obligations.PowerStatesAreLeft
  intro s
  refine ⟨fun level => ?pin, fun e he => ?idle, fun us => ⟨fun h => ?_, fun src hw hh => ⟨fun hm => ?_, fun hm => ?_⟩⟩, fun k => ?step,
    ?reference⟩
  case pin =>
    intro u rose
    have hrose : ((level && !s.sys.wakeIn) = true ∧ (!s.sys.held) = true) ↔ rose := by
      rw [Bool.and_eq_true, Bool.not_eq_true', Bool.not_eq_true', and_assoc]
    have act (h : rose) : exec (.wakeIn level) s = .next (wakeInRise u) := congrArg Host.Outcome.next (if_pos (hrose.mpr h))
    have seen (h : rose) : u.sys.lowSeen = s.sys.lowSeen := by
      obtain ⟨hl, -⟩ := h
      exact congrArg (s.sys.lowSeen || ·) (congrArg not hl) |>.trans (Bool.or_false _)
    refine ⟨fun h => congrArg Host.Outcome.next (if_neg (mt hrose.mp h)), fun h hl hs => ?_, fun h hl hs => ?_, fun h hl => ?_⟩
    · exact (act h).trans (congrArg Host.Outcome.next ((wakeInRise_lockout (u := u) hl).1 ((seen h).trans hs)))
    · exact (act h).trans (congrArg Host.Outcome.next ((wakeInRise_lockout (u := u) hl).2 ((seen h).trans hs)))
    have rise {o : Option Entry} (ho : s.sys.entry = o) {m : PwrMode} (hm : s.sys.mode = m) :=
      (act h).trans (congrArg Host.Outcome.next (wakeInRise_of (u := u) hl ho hm))
    refine ⟨fun e he hn => (rise he rfl).trans (congrArg Host.Outcome.next (if_pos (Option.isNone_iff_eq_none.mpr hn))),
      fun e he hn => (rise he rfl).trans (congrArg Host.Outcome.next (if_neg (mt Option.isNone_iff_eq_none.mp hn))),
      fun he hm => rise he hm, fun he hm => rise he hm, fun he hr hi => ?_⟩
    have down : exec (.wakeIn level) s =
        .next (if u.sys.waking.isNone then u.onSys fun y => { y with waking := some 1 } else u) := by
      cases hm : s.sys.mode with
      | run => exact absurd hm hr
      | idle => exact absurd hm hi
      | _ => exact rise he hm
    exact ⟨fun hw => down.trans (congrArg Host.Outcome.next (if_pos (Option.isNone_iff_eq_none.mpr hw))),
      fun hw => down.trans (congrArg Host.Outcome.next (if_neg (mt Option.isNone_iff_eq_none.mp hw)))⟩
  case idle =>
    have hexec : exec e.1 s = .next (if s.sys.mode = .idle ∧ s.sys.entry = none then s.idleExit e.2 else s) := by
      simp only [List.mem_cons, List.not_mem_nil, or_false] at he
      rcases he with rfl | rfl | rfl <;> rfl
    exact ⟨fun hm hn => hexec.trans (congrArg Host.Outcome.next (if_pos ⟨hm, hn⟩)),
      fun h => hexec.trans (congrArg Host.Outcome.next (if_neg (not_and_or.mpr h)))⟩
  · cases hw : s.sys.waking with
    | none => exact exec_wakeSequence hw us
    | some src =>
      have hh := h.resolve_left fun hn => Option.some_ne_none src (hw.symm.trans hn)
      exact (exec_wakeSequence hw us).trans (congrArg Host.Outcome.next (if_pos hh))
  · exact (exec_wakeSequence hw us).trans (congrArg Host.Outcome.next ((if_neg (ne_true_of_eq_false hh)).trans (if_neg hm)))
  · exact (exec_wakeSequence hw us).trans (congrArg Host.Outcome.next ((if_neg (ne_true_of_eq_false hh)).trans (if_pos hm)))
  case step =>
    intro n
    refine ⟨fun h => ?_, fun src hw hr => ?_⟩
    · cases hw : s.sys.waking with
      | none => exact exec_wakeStepTimeout hw k
      | some src =>
        have hr := h.resolve_left fun hn => Option.some_ne_none src (hw.symm.trans hn)
        exact (exec_wakeStepTimeout hw k).trans (if_pos (bnot_true hr))
    · have runs := (exec_wakeStepTimeout hw k).trans (if_neg (not_bnot hr))
      exact ⟨fun h => runs.trans (if_pos h), fun h h58 => runs.trans ((if_neg (not_not.mpr h)).trans (if_pos h58)),
        fun h h5 h8 => runs.trans ((if_neg (not_not.mpr h)).trans (if_neg (not_or.mpr ⟨h5, h8⟩)))⟩
  case reference =>
    intro lost next
    have hlost : ¬(s.sys.mode ≠ .sleep ∨ s.sys.held = true ∨ s.clk.halt = some .ref) ↔ lost := by
      rw [not_or, not_or, not_not, Bool.not_eq_true]
    exact ⟨fun h he => exec_refFailInSleep (hlost.mpr h) he, fun h e he => exec_refFailInSleep (hlost.mpr h) he,
      fun h => if_pos (not_not.mp (mt hlost.mp h))⟩

end Sys2Proof.Machine
end

section
/-! PROOFS. Resets and supplies (R9, R268, R450-R453). -/

namespace Sys2Proof.Machine

/-! ### Resets -/

/-- R450: the always-on domain is alive outside Off. -/
theorem aonAlive_iff (s : State) : aonAlive s = true ↔ s.sys.mode ≠ .off := bne_iff_ne

/-- R452: a write of RST_CTRL that asks for a reset. -/
theorem rstCtrlWrite_asked {w : Word} (h : bit w 0 = true) (t : State) :
    (getField w 15 8 = 0xA5 → rstCtrlWrite w t = (.done, t.resetAsk 2)) ∧
    (getField w 15 8 ≠ 0xA5 → rstCtrlWrite w t = (.range, t)) :=
  ⟨fun hk => (if_neg (not_bnot h)).trans (if_neg (not_not.mpr hk)), fun hk => (if_neg (not_bnot h)).trans (if_pos hk)⟩

/-- R451: the reset that was asked for. -/
theorem exec_resetAfterStop {s : State} {o : Option Nat} (ho : s.sys.resetPending = o) : exec .resetAfterStop s =
    match (generalizing := false) o with
    | some c => .next (if outputsDone s then deviceReset s c else s)
    | none => .next s := by
  subst ho
  rfl

/-! ### The die link -/

/-- R272: what the loss of the die link does to the bridges, by whether the reference has failed. -/
theorem exec_dieLinkLoss {s : State} (h : awake s = true) {b : Bool} (hb : (s.clk.halt == some .ref) = b) : exec .dieLinkLoss s =
    .next (forEach (List.range 8) (fun n u => if b then ampCutLive u n 3 else if ampLive u n then ampTripOther u n 3 else u)
      (s.onAn fun a => { a with linkLost := true })) := by
  subst hb
  exact if_pos h

/-- R268: the retries that wait start while PWRFAIL_N is high and the link stands. -/
theorem retriesDue_cases (s : State) :
    (s.sys.pwrFailN = true → s.an.linkLost = false → retriesDue s =
      forEach (List.range 8) (fun n u => if u.st (P.amp n) = 8 ∧ (u.amp n).due then ampRetry u n else u) s) ∧
    (s.sys.pwrFailN = false ∨ s.an.linkLost = true → retriesDue s = s) := by
  refine ⟨fun hp hl => if_pos (bnot_iff.mpr ⟨hp, hl⟩), fun h => if_neg fun hd => ?_⟩
  obtain ⟨hp, hl⟩ := bnot_iff.mp hd
  exact h.elim (fun hf => ne_true_of_eq_false hf hp) fun ht => ne_true_of_eq_false hl ht

/-- Settles O59. -/
theorem resetsAndSuppliesAct : Obligations.ResetsAndSuppliesAct := by
  unfold Obligations.ResetsAndSuppliesAct
  intro s alive due
  refine ⟨fun twa => rfl, rfl, fun h => ?_, fun h => ?_, fun r v => ?devrst, ?watchdog, fun c hc => ⟨fun ho => ?_, fun ho => ?_⟩,
    fun hn => exec_resetAfterStop hn, fun h => congrArg Host.Outcome.next (if_pos h),
    fun h => congrArg Host.Outcome.next (if_neg (ne_true_of_eq_false h)), rfl, rfl, ?link, ?recovery, ?powerFail, fun h => if_pos h,
    fun h => if_neg (ne_true_of_eq_false h), ?powerBack⟩
  · have ha := (aonAlive_iff s).mpr h
    exact ⟨congrArg Host.Outcome.next (if_pos ha), congrArg Host.Outcome.next (if_pos ha)⟩
  · have ha := mt (aonAlive_iff s).mp (not_not.mpr h)
    exact ⟨congrArg Host.Outcome.next (if_neg ha), congrArg Host.Outcome.next (if_neg ha)⟩
  case devrst =>
    intro a t w hs
    obtain ⟨key, range⟩ := rstCtrlWrite_asked (bit_setField_same (i := 0) (by decide) v 1) t
    exact ⟨fun h => next_hostWrite_done hs (key h), fun h => next_hostWrite_refused hs (range h) nofun⟩
  case watchdog =>
    intro runs
    have hruns : ((!s.sys.held) = true ∧ (s.sys.mode = .run ∨ s.sys.mode = .idle ∨ s.sys.mode = .sleep)) ↔ runs := by
      rw [Bool.not_eq_true']
    exact ⟨fun h => congrArg Host.Outcome.next (if_pos (hruns.mpr h)), fun h => congrArg Host.Outcome.next (if_neg (mt hruns.mp h))⟩
  · exact (exec_resetAfterStop hc).trans (congrArg Host.Outcome.next (if_pos ho))
  · exact (exec_resetAfterStop hc).trans (congrArg Host.Outcome.next (if_neg (ne_true_of_eq_false ho)))
  case link =>
    intro t
    exact ⟨fun ha hr => exec_dieLinkLoss ha (beq_iff_eq.mpr hr), fun ha hr => exec_dieLinkLoss ha (beq_eq_false_iff_ne.mpr hr),
      fun ha => if_neg (ne_true_of_eq_false ha)⟩
  case recovery =>
    intro t
    obtain ⟨start, wait⟩ := retriesDue_cases t
    exact ⟨fun h => congrArg Host.Outcome.next (wait (.inl h)), fun h => congrArg Host.Outcome.next (start h rfl)⟩
  case powerFail =>
    intro t
    exact ⟨fun h => if_neg (ne_true_of_eq_false h), fun h ha => (if_pos h).trans (congrArg Host.Outcome.next (if_pos ha)),
      fun h ha => (if_pos h).trans (congrArg Host.Outcome.next (if_neg (ne_true_of_eq_false ha)))⟩
  case powerBack =>
    intro t u back
    obtain ⟨start, wait⟩ := retriesDue_cases u
    have act (h : s.sys.pwrFailN = false) : exec .powerFailEnd s = .next (if back then retriesDue u else pwrCausesOver t) :=
      if_neg (ne_true_of_eq_false h)
    exact ⟨fun h => if_pos h, fun h hb => (act h).trans (congrArg Host.Outcome.next (if_neg hb)),
      fun h hb hp hl => (act h).trans (congrArg Host.Outcome.next ((if_pos hb).trans (start hp hl))),
      fun h hb hl => (act h).trans (congrArg Host.Outcome.next ((if_pos hb).trans (wait (.inr hl))))⟩

end Sys2Proof.Machine
end

section
/-! PROOFS. Fabric periods (R11, R15, R102). -/

namespace Sys2Proof.Machine

/-! ### Periods by the power state -/

/-- R15: a period of a device that is not held in reset, by the power state. -/
theorem exec_fabricPeriod {s : State} (h : s.sys.held = false) {m : PwrMode} (hm : s.sys.mode = m) (x : PeriodIn) :
    exec (.fabricPeriod x) s = .next (match (generalizing := false) m with
      | .off => s
      | .deep => (uptimeTick s).2
      | .sleep => if s.clk.halt = some .ref then listenZeros (timeTick s) else sleepPeriod x (timeTick s)
      | .idle => if s.stopped ∨ s.clk.step = 2 then heldPeriod x (timeTick s) else idlePeriod x (timeTick s)
      | .run => if s.stopped ∨ s.clk.step = 2 then heldPeriod x (outsEnd (timeTick s)) else runPeriod x (timeTick s)) := by
  subst hm
  exact congrArg Host.Outcome.next (if_neg (ne_true_of_eq_false h))

/-- R15: the steps of a period in Run, in order. -/
theorem runPeriod_eq (x : PeriodIn) (t : State) :
    let u := periodCount t
    let k := fabCnt u
    let ch := combTake (cueStep (fixApply (combArrive (clipApply (strApply (wagAdvance (present k x (pdmBlock u k)) k)))) k))
    let ports := forEach (List.range 16) (fun n y => tdmArrive y n (tdmFrames x n)) (combMix (lineErrors x (sinksOut k x ch)))
    runPeriod x t = pauseDue k (listenTake k x (findings x ports)) := rfl

/-- R15: the steps of a period in Idle, in order. -/
theorem idlePeriod_eq (x : PeriodIn) (t : State) :
    let u := periodCount t
    let k := fabCnt u
    let ch := cueStep (fixApply (strApply (wagAdvance (pdmBlock u k) k)) k)
    let sent := txSampleAll (ch.onComb fun c => { c with src := [], outs := [] }) k
    let lines := forEach (List.range 8) (fun n y => ampIdlePattern (loSample y n 0) n) sent
    let ports := forEach (List.range 16) (fun n y => tdmHold y n (tdmFrames x n)) lines
    idlePeriod x t = pauseDue k (listenTake k x (findings x ports)) := rfl

/-! ### Periods that are held -/

/-- R11: a period while the fabric clock is stopped or a step pauses the fabric. -/
theorem heldPeriod_cases (x : PeriodIn) (s : State) :
    (s.stopped = true → s.clk.halt = some .ref → heldPeriod x s = listenZeros (tdmsFloat s)) ∧
    (s.stopped = true → s.clk.halt ≠ some .ref → heldPeriod x s = tdmsFloat s) ∧
    (s.stopped = false → heldPeriod x s = forEach (List.range 16) (fun n y => tdmHold y n (tdmFrames x n)) s) := by
  have halt : (tdmsFloat s).clk = s.clk := by
    unfold tdmsFloat
    rw [forEach_keeps State.clk]
    exact fun _ _ => rfl
  refine ⟨fun h hr => (if_pos h).trans (if_pos ?_), fun h hr => (if_pos h).trans (if_neg ?_), fun h => if_neg (ne_true_of_eq_false h)⟩
  · rw [halt, hr]
  · rwa [halt]

/-! ### The end of a pause -/

/-- R11: a pause ends at the first block boundary at least 100 us later. -/
theorem resumeAt_bounds (c : Nat) (e : Int) :
    let num : Int := 62500 * c + 3 * e + 300000
    resumeAt c e % 32 = 0 ∧
    (0 ≤ num → num ≤ 62500 * (resumeAt c e : Int) ∧ 62500 * (resumeAt c e : Int) < num + 2000000) := by
  simp only [resumeAt]
  omega

/-- Settles O60. -/
theorem fabricPeriodsPass : Obligations.FabricPeriodsPass := by
  unfold Obligations.FabricPeriodsPass
  intro s x t still
  obtain ⟨zeros, float, hold⟩ := heldPeriod_cases x s
  refine ⟨fun h => ?off, fun hh => ⟨fun hm => exec_fabricPeriod hh hm x, fun hm hr => ?_, fun hm hr => ?_, fun hm hst => ?_, fun hm hst => ?_,
    fun hm hst => ?_, fun hm hst => ?_⟩, zeros, float, hold, fun h => if_neg (Nat.not_le.mpr h), fun h => if_pos h,
    fun h => if_neg (ne_true_of_eq_false h), fun h => if_pos h, fun k => ⟨fun h1 hk => if_pos ⟨h1, hk⟩, fun h => if_neg (not_and_or.mpr h)⟩,
    fun e => ?resume, resumeAt_bounds⟩
  case off =>
    by_cases hh : s.sys.held = true
    · exact congrArg Host.Outcome.next (if_pos hh)
    · exact exec_fabricPeriod (Bool.eq_false_iff.mpr hh) (h.resolve_left hh) x
  · exact (exec_fabricPeriod hh hm x).trans (congrArg Host.Outcome.next (if_pos hr))
  · exact (exec_fabricPeriod hh hm x).trans (congrArg Host.Outcome.next (if_neg hr))
  · exact (exec_fabricPeriod hh hm x).trans (congrArg Host.Outcome.next (if_pos hst))
  · exact (exec_fabricPeriod hh hm x).trans (congrArg Host.Outcome.next ((if_neg hst).trans (idlePeriod_eq x t)))
  · exact (exec_fabricPeriod hh hm x).trans (congrArg Host.Outcome.next (if_pos hst))
  · exact (exec_fabricPeriod hh hm x).trans (congrArg Host.Outcome.next ((if_neg hst).trans (runPeriod_eq x t)))
  case resume =>
    intro u ends moved
    exact ⟨fun h hm => congrArg Host.Outcome.next ((if_pos h).trans (if_pos hm)),
      fun h hm => congrArg Host.Outcome.next ((if_pos h).trans (if_neg hm)), fun h => congrArg Host.Outcome.next (if_neg h)⟩

end Sys2Proof.Machine
end

section
/-! PROOFS. Every step keeps the form: the parts of the form, control, registers, memory and cores.

Each operation `f` has one rule: `f` leaves a state of the form when it began with one. The rules are `simp` lemmas applied before the
arguments are visited (`↓`), so `simp` goes from the outermost operation inwards, one rule for each, down to the state at the
beginning; the depth of its discharger is the number of operations on that way. Neither the data nor the conditions are looked at. -/

namespace Sys2Proof.Machine
variable {s t : State}

/-! ### Parts of the form -/

/-- R307, R308: the stacks of a core are within their bounds. -/
def CoreHid.bounded (k : CoreHid) : Prop := k.calls.length ≤ 8 ∧ k.loops.length ≤ 4

/-- The parts of the state that have a form. -/
def formOf (regs : List (Nat × Word)) (mem : List Host.Cell) (cores : List CoreHid) : Prop :=
  regsWf regs ∧ Memory.wf mem = true ∧ cores.length = 20 ∧ ∀ k ∈ cores, k.bounded

/-- The form of a state is that of its parts. -/
@[simp ↓] theorem formOf_parts (h : s.inForm) : formOf s.regs s.mem s.cores := h

/-- The form of a state written out. -/
@[simp ↓] theorem inForm_mk {pending regs snaps shadows holds mem free rdata rcode sys ports comb an clk grps tdms net pdm sct cores dsp
    bad wag clip madc lsv flash img bbxQueue otp mram kpr swarm} (h : formOf regs mem cores) :
    State.inForm ⟨pending, regs, snaps, shadows, holds, mem, free, rdata, rcode, sys, ports, comb, an, clk, grps, tdms, net, pdm, sct,
      cores, dsp, bad, wag, clip, madc, lsv, flash, img, bbxQueue, otp, mram, kpr, swarm⟩ := h

/-! ### Control -/

/-- The state of a pair is named by its component, so that nothing else of the pair is compared. -/
@[simp ↓] theorem inForm_fst_mk {α : Type} (h : s.inForm) (x : α) : (s, x).1.inForm := h

@[simp ↓] theorem inForm_snd_mk {α : Type} (h : s.inForm) (x : α) : (x, s).2.inForm := h

@[simp ↓] theorem inForm_ite {c : Prop} [Decidable c] (h : s.inForm) (h' : t.inForm) : (if c then s else t).inForm := by
  split <;> assumption

@[simp ↓] theorem inForm_fst_ite {α : Type} {c : Prop} [Decidable c] {x y : State × α} (h : x.1.inForm) (h' : y.1.inForm) :
    (if c then x else y).1.inForm := by
  split <;> assumption

@[simp ↓] theorem inForm_snd_ite {α : Type} {c : Prop} [Decidable c] {x y : α × State} (h : x.2.inForm) (h' : y.2.inForm) :
    (if c then x else y).2.inForm := by
  split <;> assumption

@[simp ↓] theorem inForm_st_ite {c : Prop} [Decidable c] {x y : PlAns} (h : x.st.inForm) (h' : y.st.inForm) :
    (if c then x else y).st.inForm := by
  split <;> assumption

@[simp ↓] theorem inForm_act_ite {c : Prop} [Decidable c] {f g : Act} (h : (f s).2.inForm) (h' : (g s).2.inForm) :
    ((if c then f else g) s).2.inForm := by
  split <;> assumption

@[simp ↓] theorem inForm_forEach {α : Type} {l : List α} {f : α → State → State} (hf : ∀ x u, u.inForm → (f x u).inForm) (h : s.inForm) :
    (forEach l f s).inForm := by
  induction l generalizing s with
  | nil => exact h
  | cons x l ih => exact ih (hf x s h)

@[simp ↓] theorem inForm_foldl {α : Type} {l : List α} {f : State → α → State} (hf : ∀ u x, u.inForm → (f u x).inForm) (h : s.inForm) :
    (l.foldl f s).inForm := by
  induction l generalizing s with
  | nil => exact h
  | cons x l ih => exact ih (hf s x h)

@[simp ↓] theorem inForm_foldl_fst {α β : Type} {l : List α} {f : State × β → α → State × β} {o : State × β}
    (hf : ∀ o x, o.1.inForm → (f o x).1.inForm) (h : o.1.inForm) : (l.foldl f o).1.inForm := by
  induction l generalizing o with
  | nil => exact h
  | cons x l ih => exact ih (hf o x h)

@[simp ↓] theorem inForm_foldl_snd {α β : Type} {l : List α} {f : β × State → α → β × State} {o : β × State}
    (hf : ∀ o x, o.2.inForm → (f o x).2.inForm) (h : o.2.inForm) : (l.foldl f o).2.inForm := by
  induction l generalizing o with
  | nil => exact h
  | cons x l ih => exact ih (hf o x h)

/-! ### Registers and memory -/

@[simp ↓] theorem inForm_wr (h : s.inForm) (a : Nat) (w : Word) : (s.wr a w).inForm := by
  obtain ⟨hregs, hrest⟩ := h
  exact ⟨State.wr_regsWf hregs a w, hrest⟩

/-- Bytes put into a memory keep its form. -/
theorem wf_putByte {m : List Host.Cell} (h : Memory.wf m = true) (a : Nat) (v : Byte) : Memory.wf (putByte m a v) = true :=
  (putByte_spec a v h (Nat.zero_le a)).1

/-! ### Cores -/

section bounded
variable {k : CoreHid}

@[simp ↓] theorem calls_length_le (h : k.bounded) : k.calls.length ≤ 8 := h.1

@[simp ↓] theorem loops_length_le (h : k.bounded) : k.loops.length ≤ 4 := h.2

@[simp ↓] theorem bounded_mk {d a p g z t sr scale purev pc calls loops cycHi mask done owes busy loaded summed}
    (hc : calls.length ≤ 8) (hl : loops.length ≤ 4) :
    CoreHid.bounded ⟨d, a, p, g, z, t, sr, scale, purev, pc, calls, loops, cycHi, mask, done, owes, busy, loaded, summed⟩ := ⟨hc, hl⟩

@[simp ↓] theorem bounded_ite {c : Prop} [Decidable c] {k' : CoreHid} (h : k.bounded) (h' : k'.bounded) :
    (if c then k else k').bounded := by
  split <;> assumption

@[simp ↓] theorem bounded_forEach {α : Type} {l : List α} {f : α → CoreHid → CoreHid} (hf : ∀ x u, u.bounded → (f x u).bounded)
    (h : k.bounded) : (forEach l f k).bounded := by
  induction l generalizing k with
  | nil => exact h
  | cons x l ih => exact ih (hf x k h)

@[simp ↓] theorem bounded_reset : CoreHid.reset.bounded := ⟨Nat.zero_le _, Nat.zero_le _⟩

@[simp ↓] theorem bounded_setD (h : k.bounded) (i : ℕ) (w : Word) : (k.setD i w).bounded := h

@[simp ↓] theorem bounded_setA (h : k.bounded) (w i : ℕ) (x : ℤ) : (k.setA w i x).bounded := h

@[simp ↓] theorem bounded_flag (h : k.bounded) (i : ℕ) : (k.flag i).bounded := h

@[simp ↓] theorem bounded_setSat (h : k.bounded) (d : ℕ) (x : ℤ) : (k.setSat d x).bounded := by
  unfold CoreHid.setSat
  simp +contextual (maxDischargeDepth := 99) [h]

@[simp ↓] theorem bounded_accumulate (h : k.bounded) (w i : ℕ) (x : ℤ) : (k.accumulate w i x).bounded := by
  unfold CoreHid.accumulate
  simp +contextual (maxDischargeDepth := 99) [h]

@[simp ↓] theorem bounded_setPu (h : k.bounded) (file u : ℕ) (v : Word) : (k.setPu file u v).bounded := by
  unfold CoreHid.setPu
  simp +contextual (maxDischargeDepth := 99) [h]

@[simp ↓] theorem bounded_agStep (h : k.bounded) (u : ℕ) (m : ℤ) : (agStep k u m).bounded := by
  unfold agStep
  dsimp only
  split
  · split <;> simp +contextual (maxDischargeDepth := 99) [h]
  · simp +contextual (maxDischargeDepth := 99) [h]

@[simp ↓] theorem bounded_debugSet (h : k.bounded) (c off : ℕ) (v : Word) : (debugSet c off v k).bounded := by
  unfold debugSet
  dsimp only
  split
  · simp +contextual (maxDischargeDepth := 99) [h]
  · split
    · split
      · exact h
      · split <;> simp +contextual (maxDischargeDepth := 99) [h]
    · simp +contextual (maxDischargeDepth := 99) [h]

/-- R307: the loops left after an instruction are no more than before. -/
theorem loopsAfter_length (pc : ℤ) (l : List CoreLoop) : (loopsAfter pc l).1.length ≤ l.length := by
  induction l with
  | nil => exact Nat.le_refl 0
  | cons x l ih =>
    unfold loopsAfter
    split
    · split
      · exact Nat.le_refl _
      · exact Nat.le_succ_of_le ih
    · exact Nat.le_refl _

@[simp ↓] theorem bounded_advance (h : k.bounded) (n : ℕ) : (k.advance n).bounded :=
  ⟨h.1, (loopsAfter_length _ _).trans h.2⟩

@[simp ↓] theorem loopsFor_length_le (h : k.bounded) (t : ℤ) : (loopsFor t k.loops).length ≤ 4 :=
  (List.length_dropWhile_le _ _).trans h.2

@[simp ↓] theorem bounded_macOne (h : k.bounded) (op c g : ℕ) (m : MacOps) (old : CoreHid) (i : ℕ) :
    (macOne op c g m old i k).bounded := by
  unfold macOne
  simp +contextual (maxDischargeDepth := 99) [h]

@[simp ↓] theorem bounded_macWrite (h : k.bounded) (g : ℕ) (d : BitVec 3) (ws : List Word) : (macWrite g d ws k).bounded := by
  unfold macWrite
  simp +contextual (maxDischargeDepth := 99) [h]

/-- A load of a multiply changes no stack. -/
theorem bounded_macLoad {c g : ℕ} {on : Bool} {u : BitVec 3} {byG : Bool} {r : List Word × CoreHid} (h : k.bounded)
    (hr : macLoad s c g on u byG k = .ok r) : r.2.bounded := by
  unfold macLoad at hr
  split at hr
  · split at hr
    · cases hr
      exact bounded_agStep h _ _
    · cases hr
  · cases hr
    exact h

end bounded

/-- Every core of a state of the form is within its bounds. -/
@[simp ↓] theorem bounded_core (h : s.inForm) (c : ℕ) : (s.core c).bounded := by
  obtain ⟨-, -, -, hall⟩ := h
  unfold State.core
  rw [List.getD_eq_getElem?_getD]
  cases hk : s.cores[c]? with
  | none => exact bounded_reset
  | some k => exact hall k (List.mem_of_getElem? hk)

@[simp ↓] theorem inForm_onCore (h : s.inForm) {c : ℕ} {f : CoreHid → CoreHid} (hf : (s.core c).bounded → (f (s.core c)).bounded) :
    (s.onCore c f).inForm := by
  have hc := hf (bounded_core h c)
  obtain ⟨hregs, hmem, hlen, hall⟩ := h
  refine ⟨hregs, hmem, ?_, fun k hk => ?_⟩
  · show (modifyAt f c s.cores).length = 20
    rw [modifyAt_eq_modify, List.length_modify, hlen]
  · have hk' : k ∈ modifyAt f c s.cores := hk
    rw [modifyAt_eq_modify] at hk'
    obtain ⟨i, hi, rfl⟩ := List.getElem_of_mem hk'
    rw [List.getElem_modify]
    rw [List.length_modify] at hi
    split
    next hci =>
      subst hci
      rwa [State.core, List.getD_eq_getElem _ _ hi] at hc
    · exact hall _ (List.getElem_mem hi)

/-- The state of an answer is that of the action that gave it. -/
theorem inForm_of_snd_eq {α : Type} {x : α × State} {a : α} (hx : x.2.inForm) (he : x = (a, t)) : t.inForm := by
  rw [he] at hx
  exact hx

end Sys2Proof.Machine
end

section
/-! PROOFS. Every step keeps the form: what the operations of the units keep. -/

namespace Sys2Proof.Machine
variable {s t : State}

/-! ### The state -/

/-- What a power-on reset leaves has the form. -/
@[simp ↓] theorem inForm_reset : State.reset.inForm := by
  refine ⟨reset_regsWf, reset_memory_wf, rfl, fun k hk => ?_⟩
  rw [List.eq_of_mem_replicate hk]
  exact bounded_reset

theorem regsWf_nil : regsWf [] := rfl

/-! ### Registers, events and counters -/

@[simp ↓] theorem inForm_setF (h : s.inForm) (base : ℕ) (f : Fld) (v : ℕ) : (State.setF s base f v).inForm := by
  unfold State.setF
  simp +contextual (maxDischargeDepth := 99) [h]

@[simp ↓] theorem inForm_setS_to_raise (h : s.inForm) :
    (∀ base f x, (s.setS base f x).inForm) ∧ (∀ a, (s.count a).inForm) ∧ (∀ page b, (s.raise page b).inForm) := by
  unfold State.setS State.count State.raise
  simp +contextual (maxDischargeDepth := 99) [h]

@[simp ↓] theorem inForm_onUdp (h : s.inForm) (f : UdpPort → UdpPort) : (State.onUdp s f).inForm := by
  unfold State.onUdp
  simp +contextual (maxDischargeDepth := 99) [h]

@[simp ↓] theorem inForm_onVoice (h : s.inForm) (v : ℕ) (f : Voice → Voice) : (State.onVoice s v f).inForm := by
  unfold State.onVoice State.onClip
  simp +contextual (maxDischargeDepth := 99) [h]

@[simp ↓] theorem inForm_onSys (h : s.inForm) (f : Sys → Sys) : (State.onSys s f).inForm := by
  unfold State.onSys
  simp +contextual (maxDischargeDepth := 99) [h]

@[simp ↓] theorem inForm_storeWord (h : s.inForm) (a : ℕ) (w : Word) : (State.storeWord s a w).inForm := by
  obtain ⟨hregs, hmem, hcores⟩ := h
  exact ⟨hregs, putBytes_wf _ hmem a, hcores⟩

@[simp ↓] theorem inForm_err_to_onSwm (h : s.inForm) :
    (∀ page, (s.err page).inForm) ∧ (∀ base f, (s.bump base f).inForm) ∧ (∀ f, (s.onSpi f).inForm) ∧ (∀ f, (s.onTw0 f).inForm) ∧
    (∀ f, (s.onWag f).inForm) ∧ (∀ n f, (s.onMadc n f).inForm) ∧ (∀ f, (s.onLsv f).inForm) ∧ (∀ f, (s.onSwm f).inForm) := by
  unfold State.err State.bump State.onSpi State.onTw0 State.onWag State.onMadc State.onLsv State.onSwm
  simp +contextual (maxDischargeDepth := 99) [h]

/-- A memory keeps its form when cells are taken away. -/
theorem wfFrom_filter (p : Host.Cell → Bool) : ∀ {m : List Host.Cell} {lo : Nat}, Memory.wfFrom lo m = true →
    Memory.wfFrom lo (m.filter p) = true
  | [], _, _ => rfl
  | (a, v) :: t, lo, h => by
    simp only [Memory.wfFrom, Bool.and_eq_true, decide_eq_true_eq] at h
    obtain ⟨⟨hlo, hv⟩, ht⟩ := h
    have ih := wfFrom_filter p ht
    rw [List.filter_cons]
    split
    · simp only [Memory.wfFrom, Bool.and_eq_true, decide_eq_true_eq]
      exact ⟨⟨hlo, hv⟩, ih⟩
    · exact Memory.wfFrom_mono ih (by omega)

@[simp ↓] theorem inForm_zeroMem (h : s.inForm) (lo hi : ℕ) : (s.zeroMem lo hi).inForm := by
  obtain ⟨hregs, hmem, hcores⟩ := h
  exact ⟨hregs, wfFrom_filter _ hmem, hcores⟩

@[simp ↓] theorem inForm_draw (h : s.inForm) : (State.draw s).2.inForm := by
  unfold State.draw
  simp +contextual (maxDischargeDepth := 99) [h]

@[simp ↓] theorem inForm_queueRec (h : s.inForm) (r : BbxRec) : (State.queueRec s r).inForm := by
  unfold State.queueRec
  split
  · exact h
  · dsimp only
    split <;> simp +contextual (maxDischargeDepth := 99) [h]

@[simp ↓] theorem inForm_wakeBy (h : s.inForm) (src b : ℕ) (always : Bool) : (State.wakeBy s src b always).inForm := by
  unfold State.wakeBy
  (repeat' split) <;> simp +contextual (maxDischargeDepth := 99) [h]

@[simp ↓] theorem inForm_refuse (h : s.inForm) (page cmd : ℕ) (r : Req) (a : ℕ) (c : Code) : (State.refuse s page cmd r a c).inForm := by
  unfold State.refuse
  simp +contextual (maxDischargeDepth := 99) [h]

@[simp ↓] theorem inForm_badAccess (h : s.inForm) (wr : Bool) (why : BadReason) (r : Req) (a : ℕ) :
    (State.badAccess s wr why r a).inForm := by
  unfold State.badAccess
  simp +contextual (maxDischargeDepth := 99) [h]

/-! ### Outputs and their ramps -/

@[simp ↓] theorem inForm_ainBias (h : s.inForm) (n : ℕ) (on : Bool) : (ainBias s n on).inForm := by
  unfold ainBias State.stopRamp biasTo State.onAn
  simp +contextual (maxDischargeDepth := 99) [h]

@[simp ↓] theorem inForm_ainStopping (h : s.inForm) (n : ℕ) : (ainStopping s n).inForm := by
  unfold ainStopping setAin State.stopRamp State.startRamp biasTo State.onAn
  simp +contextual (maxDischargeDepth := 99) [h]

@[simp ↓] theorem inForm_earsUp (h : s.inForm) (n ms : ℕ) : (earsUp s n ms).inForm := by
  unfold earsUp sideTones State.stopRamp State.startRamp setEar State.onHs State.onAn
  simp +contextual (maxDischargeDepth := 99) [h]

@[simp ↓] theorem inForm_earsUnmute_to_idleMuteAll (h : s.inForm) :
    (∀ n b ms, (earsUnmute s n b ms).inForm) ∧ (∀ n, (ampBegin s n).inForm) ∧ (∀ n, (ampToOff s n).inForm) ∧ (s.idleMuteAll).inForm := by
  unfold earsUnmute ampBegin ampToOff State.idleMuteAll ampIdle loMute earsMute boostBegin ampBlock boostEnd ampDark sideTones
    State.stopRamp State.startRamp setRetries boostOff setEar setLo State.onHs State.onAmp State.onLo State.onAn State.setSt
  simp +contextual (maxDischargeDepth := 99) [h]

@[simp ↓] theorem inForm_rampEnd (h : s.inForm) (k : Ramp) : (State.rampEnd s k).inForm := by
  unfold State.rampEnd boostOff biasTo setHs setEar ampPlay setLo State.onAmp State.onAn State.setSt
  split <;> simp +contextual (maxDischargeDepth := 99) [h]

@[simp ↓] theorem inForm_outputsFast (h : s.inForm) : (outputsFast s).inForm := by
  unfold outputsFast earsFastPwr earsMute loFastPwr ampFastPwr ampFast loStop sideTones State.stopRamp State.startRamp setEar setLo
    State.onHs State.onAmp State.onLo State.onAn State.setSt
  simp +contextual (maxDischargeDepth := 99) [h]

/-! ### Power domains and waking -/

@[simp ↓] theorem inForm_cmbShow (h : s.inForm) : (cmbShow s).inForm := by
  unfold cmbShow State.setSt
  simp +contextual (maxDischargeDepth := 99) [h]

@[simp ↓] theorem inForm_idleExit (h : s.inForm) (src : ℕ) : (State.idleExit s src).inForm := by
  unfold State.idleExit State.autoWake State.idleUnmuteAll ampUnmute loUnmute State.startRamp State.setDoms State.setDom State.onAmp
    State.onLo State.onAn State.onNet State.setSt State.inc64 State.set64
  simp +contextual (maxDischargeDepth := 99) [h]

@[simp ↓] theorem inForm_wakeFor (h : s.inForm) (a : ℕ) : (State.wakeFor s a).inForm := by
  unfold State.wakeFor
  split <;> simp +contextual (maxDischargeDepth := 99) [h]

/-! ### Access from outside -/

@[simp ↓] theorem inForm_yes {f : State → State} (h : (f s).inForm) : (yes f s).2.inForm := h

@[simp ↓] theorem inForm_need {k : Act} (h : s.inForm) (hk : (k s).2.inForm) (p : State → Bool) (c : Code) : (need p c k s).2.inForm := by
  unfold need
  simp +contextual (maxDischargeDepth := 99) [h, hk]

@[simp ↓] theorem inForm_store (h : s.inForm) (a : ℕ) (v : Word) : (State.store s a v).inForm := by
  unfold State.store
  split <;> simp +contextual (maxDischargeDepth := 99) [h]

@[simp ↓] theorem inForm_dropCommit (h : s.inForm) (r : Req) (a : ℕ) : (State.dropCommit s r a).inForm := by
  unfold State.dropCommit
  split <;> simp +contextual (maxDischargeDepth := 99) [h]

@[simp ↓] theorem inForm_serve (h : s.inForm) {act : Act} (ha : ∀ u, u.inForm → (act u).2.inForm) (r : Req) (cmd a : ℕ) :
    (serve r cmd a act s).2.inForm := by
  unfold serve State.refuseOwned State.refuseAt
  dsimp only
  split <;> simp +contextual (maxDischargeDepth := 99) [h, ha]

@[simp ↓] theorem inForm_hostWrite (h : s.inForm) {act : Act} (ha : ∀ u, u.inForm → (act u).2.inForm) (r : Req) (a : ℕ) :
    (hostWrite r a act s).inForm := by
  unfold hostWrite
  simp +contextual (maxDischargeDepth := 99) [h, ha]

@[simp ↓] theorem inForm_headerWrite (h : s.inForm) (page off : ℕ) (v : Word) : (headerWrite page off v s).2.inForm := by
  unfold headerWrite snapWrite State.snapRelease State.snapTake State.snapClear State.force plain
  simp +contextual (maxDischargeDepth := 99) [h]

/-! ### Analogue inputs, line outputs, headsets -/

@[simp ↓] theorem inForm_analogIo (h : s.inForm) :
    (∀ n v, (ainCfgWrite n v s).2.inForm) ∧ (∀ n v, (loCfgWrite n v s).2.inForm) ∧ (∀ n v, (loCtrlWrite n v s).2.inForm) ∧
    (∀ n v, (hsCfgWrite n v s).2.inForm) := by
  unfold ainCfgWrite loCfgWrite loCtrlWrite hsCfgWrite loFault loMute earsMute loBegin hsBegin ainBegin loStop hsStop hsFault micOff
    setAin sideTones State.stopRamp loUnmute State.startRamp biasTo setHs setEar setLo State.onHs State.onLo State.onAn
  simp +contextual (maxDischargeDepth := 99) [h]

/-! ### The network's shared state -/

@[simp ↓] theorem inForm_ruleInject (h : s.inForm) (r : ℕ) (cnt : Option ℕ) : (ruleInject s r cnt).inForm := by
  unfold ruleInject State.inc64 State.set64
  split <;> simp +contextual (maxDischargeDepth := 99) [h]

@[simp ↓] theorem inForm_swmUnit (h : s.inForm) (sel : ℕ → Bool) (cnt : Option ℕ) : (swmUnit s sel cnt).2.inForm := by
  unfold swmUnit ruleDraw
  split <;> simp +contextual (maxDischargeDepth := 99) [h]

@[simp ↓] theorem inForm_passFrame (h : s.inForm) {go : HeldFrame → State → State} (hgo : ∀ f u, u.inForm → (go f u).inForm) (n : ℕ)
    (tx : Bool) (cls : ℕ) (f : HeldFrame) : (passFrame go n tx cls f s).inForm := by
  unfold passFrame unhold hold
  simp +contextual (maxDischargeDepth := 99) [h, hgo]

@[simp ↓] theorem inForm_swarmFrame (h : s.inForm) {go : HeldFrame → State → State} (hgo : ∀ f u, u.inForm → (go f u).inForm)
    (spoil : Word → HeldFrame → HeldFrame) (n : ℕ) (tx : Bool) (cls : ℕ) (f : HeldFrame) : (swarmFrame go spoil n tx cls f s).inForm := by
  unfold swarmFrame hold
  dsimp only
  split
  · simp +contextual (maxDischargeDepth := 99) [h, hgo]
  · split <;> simp +contextual (maxDischargeDepth := 99) [h, hgo]

@[simp ↓] theorem inForm_releaseFrame (h : s.inForm) {go : HeldFrame → State → State} (hgo : ∀ f u, u.inForm → (go f u).inForm) (n : ℕ)
    (tx : Bool) (cls : ℕ) : (releaseFrame go n tx cls s).inForm := by
  unfold releaseFrame unhold
  split <;> simp +contextual (maxDischargeDepth := 99) [h, hgo]

@[simp ↓] theorem inForm_emit (h : s.inForm) (n : ℕ) (f : HeldFrame) : (emit n f s).inForm := by
  unfold emit State.onLink State.onNet State.inc64 State.set64
  split <;> simp +contextual (maxDischargeDepth := 99) [h]

@[simp ↓] theorem inForm_twBytes (h : s.inForm) (port n : ℕ) : (twBytes s port n).inForm := by
  induction n generalizing s with
  | zero => exact h
  | succ n ih =>
    have ho := inForm_swmUnit h (ruleTw s port) none
    rw [twBytes]
    refine ih ?_
    split <;> simp +contextual (maxDischargeDepth := 99) [ho]

/-! ### Frames sent -/

@[simp ↓] theorem inForm_sendIp (h : s.inForm) (n : ℕ) (d : Word) (f : Sent) : (sendIp s n d f).inForm := by
  unfold sendIp awaitHop sendFrame State.onLink State.onNet
  (repeat' split) <;> simp +contextual (maxDischargeDepth := 99) [h]

@[simp ↓] theorem inForm_regroup {f : State → State} (h : (f s).inForm) (n : ℕ) : (regroup n f s).inForm := by
  unfold regroup joinGroup reportGroups sendFrames leaveGroup sendFrame State.onLink State.onNet
  simp +contextual (maxDischargeDepth := 99) [h]

@[simp ↓] theorem inForm_txSettle (h : s.inForm) (j : ℕ) : (txSettle s j).inForm := by
  unfold txSettle txRun
  simp +contextual (maxDischargeDepth := 99) [h]

/-! ### Plosto answers -/

@[simp ↓] theorem inForm_deliver (h : s.inForm) (v : Via) (f : List Byte) : (State.deliver s v f).inForm := by
  unfold State.deliver State.putUdpRsp storeRsp udpOut sendUdp State.putTwRsp State.putSpiRsp
  split <;> simp +contextual (maxDischargeDepth := 99) [h]

@[simp ↓] theorem inForm_freeReq (h : s.inForm) (v : Via) : (State.freeReq s v).inForm := by
  unfold State.freeReq State.onOrder
  split <;> simp +contextual (maxDischargeDepth := 99) [h]

@[simp ↓] theorem inForm_ok (h : s.inForm) (payload : List Byte) : (ok s payload).st.inForm := by
  unfold ok
  simp +contextual (maxDischargeDepth := 99) [h]

@[simp ↓] theorem inForm_nakAt (h : s.inForm) (page addr : ℕ) (c : Code) : (nakAt s page addr c).st.inForm := by
  unfold nakAt
  simp +contextual (maxDischargeDepth := 99) [h]

@[simp ↓] theorem inForm_runPlosto (h : s.inForm) {body : State → PlAns} (hb : ∀ u, u.inForm → (body u).st.inForm) (cmd : ℕ) (q : PlReq) :
    (runPlosto cmd q body s).inForm := by
  unfold runPlosto nak
  simp +contextual (maxDischargeDepth := 99) [h, hb]

@[simp ↓] theorem inForm_onPage (h : s.inForm) {body : State → PlAns} (hb : ∀ u, u.inForm → (body u).st.inForm) (page : ℕ)
    (changes : Bool) :
    (onPage page changes body s).st.inForm := by
  unfold onPage nak
  dsimp only
  split <;> simp +contextual (maxDischargeDepth := 99) [h, hb]

/-! ### The black box -/

@[simp ↓] theorem inForm_bbxScan (h : s.inForm) : (bbxScan s).inForm := by
  unfold bbxScan State.onMram State.countN State.set64
  dsimp only
  split <;> simp +contextual (maxDischargeDepth := 99) [h]

@[simp ↓] theorem inForm_writeRec (h : s.inForm) (r : BbxRec) : (writeRec s r).inForm := by
  unfold writeRec pinLimit setRecSt State.onMram State.set64
  simp +contextual (maxDischargeDepth := 99) [h]

@[simp ↓] theorem inForm_flsWear (h : s.inForm) : (flsWear s).inForm := by
  unfold flsWear
  simp +contextual (maxDischargeDepth := 99) [h]

@[simp ↓] theorem inForm_retired (h : s.inForm) (num erases : ℕ) : (retired s num erases).inForm := by
  unfold retired State.log
  simp +contextual (maxDischargeDepth := 99) [h]

@[simp ↓] theorem inForm_retireBbx (h : s.inForm) (num : ℕ) : (retireBbx s num).inForm := by
  unfold retireBbx
  simp +contextual (maxDischargeDepth := 99) [h]

@[simp ↓] theorem inForm_eraseBbx (h : s.inForm) (ok : Bool) : (eraseBbx s ok).inForm := by
  unfold eraseBbx
  dsimp only
  (repeat' split) <;> simp +contextual (maxDischargeDepth := 99) [h]

@[simp ↓] theorem inForm_eraseLog (h : s.inForm) (ok : Bool) : (eraseLog s ok).inForm := by
  unfold eraseLog retireLog
  dsimp only
  (repeat' split) <;> simp +contextual (maxDischargeDepth := 99) [h]

@[simp ↓] theorem inForm_mirrorFail (h : s.inForm) : (mirrorFail s).inForm := by
  unfold mirrorFail
  dsimp only
  (repeat' split) <;> simp +contextual (maxDischargeDepth := 99) [h]

@[simp ↓] theorem inForm_bbxPinBody (h : s.inForm) (q : PlReq) : (bbxPinBody q s).st.inForm := by
  unfold bbxPinBody pinLimit setRecSt State.onMram nak
  dsimp only
  (repeat' split) <;> simp +contextual (maxDischargeDepth := 99) [h]

/-! ### The cores' shared operations -/

@[simp ↓] theorem inForm_evtSet (h : s.inForm) (c : ℕ) (bits : Word) : (evtSet s c bits).inForm := by
  unfold evtSet State.setSt
  simp +contextual (maxDischargeDepth := 99) [h]

/-! ### The Forager -/

@[simp ↓] theorem inForm_frgStore (h : s.inForm) (a : ℕ) (w : Word) : (frgStore s a w).inForm := by
  unfold frgStore
  simp +contextual (maxDischargeDepth := 99) [h]

@[simp ↓] theorem inForm_burst {o : State × List FrgWord} (h : o.1.inForm) (still : Bool) (src dst n : ℕ) :
    (burst still src dst n o).1.inForm := by
  unfold burst
  simp +contextual (maxDischargeDepth := 99) [h]

@[simp ↓] theorem inForm_copyBursts (h : s.inForm) (still : Bool) (l : List (ℕ × ℕ × ℕ)) : (copyBursts s still l).1.inForm := by
  unfold copyBursts
  simp +contextual (maxDischargeDepth := 99) [h]

@[simp ↓] theorem inForm_frgSealed (h : s.inForm) (c : Fin 32) (ws : List FrgWord) : (frgSealed s c ws).inForm := by
  unfold frgSealed
  simp +contextual (maxDischargeDepth := 99) [h]

@[simp ↓] theorem inForm_frgNote_to_frgEnd (h : s.inForm) :
    (∀ c ws o, (frgNote s c ws o).inForm) ∧ (∀ r as, (frgLocked s r as).inForm) ∧ (∀ r c, (frgStart r c s).2.inForm) ∧
    (∀ c o, (frgEnd s c o).inForm) := by
  unfold frgNote frgLocked frgStart frgEnd State.refuseAt setFrg State.onDsp
  simp +contextual (maxDischargeDepth := 99) [h]

@[simp ↓] theorem inForm_frgAbort (h : s.inForm) (c : Fin 32) : (frgAbort s c).inForm := by
  unfold frgAbort
  dsimp only
  split
  · split <;> simp +contextual (maxDischargeDepth := 99) [h]
  · exact h

@[simp ↓] theorem inForm_frgAlloc (h : s.inForm) : (frgAlloc s).2.inForm := by
  unfold frgAlloc frgUsed setFrg
  dsimp only
  (repeat' split) <;> simp +contextual (maxDischargeDepth := 99) [h]

@[simp ↓] theorem inForm_fabInOne (h : s.inForm) (c b : ℕ) : (fabInOne s c b).inForm := by
  unfold fabInOne
  dsimp only
  split <;> simp +contextual (maxDischargeDepth := 99) [h]

@[simp ↓] theorem inForm_frgCtrlWrite (h : s.inForm) (r : Req) (c : ℕ) (v : Word) : (frgCtrlWrite r c v s).2.inForm := by
  unfold frgCtrlWrite frgRest frgFree frgUsed setFrg
  simp +contextual (maxDischargeDepth := 99) [h]

/-! ### The cores -/

@[simp ↓] theorem inForm_onRegs (h : s.inForm) (c : ℕ) {f : CoreHid → CoreHid} (hf : (s.core c).bounded → (f (s.core c)).bounded) :
    (onRegs f c s).1.inForm := inForm_onCore h hf

@[simp ↓] theorem inForm_opAccShift (h : s.inForm) (a e : BitVec 3) (imm : BitVec 8) (c : ℕ) : (opAccShift a e imm c s).1.inForm := by
  unfold opAccShift
  dsimp only
  split
  · exact inForm_onCore h fun hk => by simp +contextual (maxDischargeDepth := 99) [hk]
  · exact inForm_onCore (inForm_draw (inForm_draw (inForm_draw h))) fun hk => bounded_setA (bounded_ite (bounded_flag hk _) hk) _ _ _

@[simp ↓] theorem inForm_load (h : s.inForm) {post : CoreHid → CoreHid} (hp : ∀ k, k.bounded → (post k).bounded) (d : ℕ)
    (addrs : CoreHid → List ℕ) (c : ℕ) : (load d addrs post c s).1.inForm := by
  unfold load
  split <;> simp +contextual (maxDischargeDepth := 99) [h, hp]

@[simp ↓] theorem inForm_coreStore (h : s.inForm) {post : CoreHid → CoreHid} (hp : ∀ k, k.bounded → (post k).bounded) (x : ℕ)
    (addrs : CoreHid → List ℕ) (c : ℕ) : (store x addrs post c s).1.inForm := by
  unfold store dmWrite
  simp +contextual (maxDischargeDepth := 99) [h, hp]

@[simp ↓] theorem inForm_opMacs (h : s.inForm) (op : ℕ) (m : MacOps) (c : ℕ) : (opMacs op m c s).1.inForm := by
  unfold opMacs
  dsimp only
  split
  · exact h
  next h1 =>
    split
    · exact h
    next h2 =>
      have hk := bounded_macLoad (by simp +contextual (maxDischargeDepth := 99) [h]) h1
      simp +contextual (maxDischargeDepth := 99) [h, bounded_macLoad hk h2]

@[simp ↓] theorem inForm_opCall (h : s.inForm) (target : BitVec 16) (c : ℕ) : (opCall target c s).1.inForm := by
  unfold opCall
  dsimp only
  split
  · exact h
  next hc => simp +contextual (maxDischargeDepth := 99) [h, Nat.lt_of_not_le hc, Nat.succ_le_of_lt]

@[simp ↓] theorem inForm_opRet (h : s.inForm) (c : ℕ) : (opRet c s).1.inForm := by
  unfold opRet
  split
  · exact h
  · simp +contextual (maxDischargeDepth := 99) [h, Nat.sub_le_of_le_add, Nat.le_succ_of_le]

/-- R307: a core with fewer than four loops has room for one. -/
theorem inForm_pushLoop (h : s.inForm) {c : ℕ} (f : CoreHid → CoreLoop) (hl : ¬4 ≤ (s.core c).loops.length) :
    (s.onCore c fun k => { k with loops := f k :: k.loops }).inForm :=
  inForm_onCore h fun hk => ⟨hk.1, Nat.lt_of_not_le hl⟩

@[simp ↓] theorem inForm_opLoop (h : s.inForm) (n : LoopBy) (len : BitVec 10) (c : ℕ) : (opLoop n len c s).1.inForm := by
  unfold opLoop
  dsimp only
  split <;>
    (split
     · exact h
     · split
       · exact h
       · exact inForm_pushLoop h _ ‹_›)

@[simp ↓] theorem inForm_coreAct (h : s.inForm) (i : CoreInstr) (c : ℕ) : (CoreInstr.act i c s).1.inForm := by
  unfold CoreInstr.act opHalt opDone opSigKeeper opSigForager frgSignal opSigCore opWait opJmp opB opMvcs opMvc opPadv opStx opLdx opStg
    opLdg opSt opLd opAccNeg opAccSub opAccAdd opAccMov opAccClr opMvd opMva opDivs opNorma opNorm opExpa opExp opLui opXori opOri opAndi
    opAddi opMul opAbs opMax opMin opShls opSar opShr opShl opXor opOr opAnd opSubs opAdds opSub opAdd toD opNop loadTake
  split <;> simp +contextual (maxDischargeDepth := 99) [h]

@[simp ↓] theorem inForm_coreEnd (h : s.inForm) {r : State × CoreEnd} (hr : r.1.inForm) (c : ℕ) : (coreEnd s c r).inForm := by
  unfold coreEnd coreFault State.log State.setSt
  split <;> simp +contextual (maxDischargeDepth := 99) [h, hr]

@[simp ↓] theorem inForm_coreExec (h : s.inForm) (c : ℕ) (i : CoreInstr) : (coreExec c i s).inForm := by
  unfold coreExec coreFault State.log State.setSt State.set64
  dsimp only
  split <;> simp +contextual (maxDischargeDepth := 99) [h]

@[simp ↓] theorem inForm_coreAt (h : s.inForm) (c : ℕ) (i : Option CoreInstr) : (coreAt c i s).inForm := by
  unfold coreAt coreFault State.log State.setSt
  split <;> simp +contextual (maxDischargeDepth := 99) [h]

@[simp ↓] theorem inForm_coreCtl (h : s.inForm) (c b : ℕ) : (coreCtl s c b).inForm := by
  unfold coreCtl coreStep coreStart State.setSt
  split <;> simp +contextual (maxDischargeDepth := 99) [h]

@[simp ↓] theorem inForm_coreCtrlWrite (h : s.inForm) (r : Req) (c : ℕ) (v : Word) : (coreCtrlWrite r c v s).2.inForm := by
  unfold coreCtrlWrite
  split <;> simp +contextual (maxDischargeDepth := 99) [h]

@[simp ↓] theorem inForm_coreWrite (h : s.inForm) (r : Req) (c off : ℕ) (v : Word) : (coreWrite r c off v s).2.inForm := by
  unfold coreWrite no plain
  simp +contextual (maxDischargeDepth := 99) [h]

/-! ### Clip players and tone generators -/

@[simp ↓] theorem inForm_voiceNext (h : s.inForm) (v : ℕ) (n : ClipNext) (w : HeadFor) (late : Bool) :
    (voiceNext s v n w late).inForm := by
  unfold voiceNext voicePlay voicePrime clipLate clipNote State.onClip
  simp +contextual (maxDischargeDepth := 99) [h]

@[simp ↓] theorem inForm_voiceFaded (h : s.inForm) (v : ℕ) : (voiceFaded s v).inForm := by
  unfold voiceFaded voiceIdle headDrop State.onClip
  dsimp only
  split <;> simp +contextual (maxDischargeDepth := 99) [h]

@[simp ↓] theorem inForm_clipEnded (h : s.inForm) (v : ℕ) : (clipEnded s v).inForm := by
  unfold clipEnded voiceIdle headDrop State.onClip
  dsimp only
  (repeat' split) <;> simp +contextual (maxDischargeDepth := 99) [h]

@[simp ↓] theorem inForm_voiceRaw (h : s.inForm) (v : ℕ) : (voiceRaw s v).1.inForm := by
  unfold voiceRaw voiceDry voiceCheck clipNote State.log
  dsimp only
  repeat' split
  all_goals simp +contextual (maxDischargeDepth := 99) [h]

@[simp ↓] theorem inForm_voiceOut (h : s.inForm) (v : ℕ) : (voiceOut s v).1.inForm := by
  unfold voiceOut
  dsimp only
  split <;> simp +contextual (maxDischargeDepth := 99) [h]

@[simp ↓] theorem inForm_toneOver (h : s.inForm) (g : ℕ) : (toneOver s g).inForm := by
  unfold toneOver toneBegin State.onTone State.onClip
  split <;> simp +contextual (maxDischargeDepth := 99) [h]

@[simp ↓] theorem inForm_segEnded (h : s.inForm) (g : ℕ) : (segEnded s g).inForm := by
  unfold segEnded State.onTone State.onClip
  simp +contextual (maxDischargeDepth := 99) [h]

@[simp ↓] theorem inForm_tonePeriod (h : s.inForm) (g : ℕ) : (tonePeriod s g).1.inForm := by
  unfold tonePeriod State.onTone State.onClip
  dsimp only
  repeat' split
  all_goals simp +contextual (maxDischargeDepth := 99) [h]

@[simp ↓] theorem inForm_startNow (h : s.inForm) (v clip rep : ℕ) (prime : Bool) : (startNow s v clip rep prime).inForm := by
  unfold startNow voicePlay voiceFade voicePrime clipLate clipNote headAsk State.onClip
  dsimp only
  repeat' split
  all_goals simp +contextual (maxDischargeDepth := 99) [h]

@[simp ↓] theorem inForm_toneNow (h : s.inForm) (g p rep : ℕ) : (toneNow s g p rep).inForm := by
  unfold toneNow toneBegin State.onTone State.onClip
  simp +contextual (maxDischargeDepth := 99) [h]

@[simp ↓] theorem inForm_ClipOp_apply (h : s.inForm) (o : ClipOp) : (ClipOp.apply o s).inForm := by
  unfold ClipOp.apply stopNow voiceIdle headDrop voiceFade State.onClip
  split <;> simp +contextual (maxDischargeDepth := 99) [h]

@[simp ↓] theorem inForm_headArrived (h : s.inForm) (v : ℕ) (w : HeadFor) (sound : Bool) : (headArrived s v w sound).inForm := by
  unfold headArrived voicePlay State.onClip
  dsimp only
  split <;> simp +contextual (maxDischargeDepth := 99) [h]

@[simp ↓] theorem inForm_clipStartBody (h : s.inForm) (q : PlReq) : (clipStartBody q s).st.inForm := by
  unfold clipStartBody nak startRefused clipNote State.onClip
  simp +contextual (maxDischargeDepth := 99) [h]

@[simp ↓] theorem inForm_clipQueryBody (h : s.inForm) (q : PlReq) : (clipQueryBody q s).st.inForm := by
  unfold clipQueryBody nak
  simp +contextual (maxDischargeDepth := 99) [h]

/-- Bytes put one after another keep the form of a memory. -/
theorem wf_foldl_putByte {α : Type} (l : List α) (a : α → ℕ) (v : α → Byte) {m : List Host.Cell} (hm : Memory.wf m = true) :
    Memory.wf (l.foldl (fun m i => putByte m (a i) (v i)) m) = true := by
  induction l generalizing m with
  | nil => exact hm
  | cons x l ih => exact ih (wf_putByte hm _ _)

@[simp ↓] theorem inForm_refill (h : s.inForm) (v : ℕ) (sound : Bool) : (refill s v sound).inForm := by
  obtain ⟨hregs, hmem, hcores⟩ := h
  unfold refill
  refine inForm_onVoice ?_ _ _
  exact ⟨hregs, wf_foldl_putByte _ _ _ hmem, hcores⟩

@[simp ↓] theorem inForm_clipWrite (h : s.inForm) (off : ℕ) (v : Word) : (clipWrite off v s).2.inForm := by
  unfold clipWrite clipCfgWrite no voiceDry plain clipNote
  simp +contextual (maxDischargeDepth := 99) [h]

/-! ### The Comb -/

@[simp ↓] theorem inForm_xpCreate (h : s.inForm) (k src sink c r : ℕ) : (xpCreate s k src sink c r).inForm := by
  unfold xpCreate State.accept State.onComb
  simp +contextual (maxDischargeDepth := 99) [h]

@[simp ↓] theorem inForm_xpCommit (h : s.inForm) (k : ℕ) (map : Option Word) (v : Word) : (xpCommit k map v s).2.inForm := by
  unfold xpCommit xpResource clampNote xpRegain xpRelease State.accept State.onComb
  dsimp only
  (repeat' split) <;> simp +contextual (maxDischargeDepth := 99) [h]

@[simp ↓] theorem inForm_xpArrive (h : s.inForm) (k : ℕ) (st : XpSt) : (xpArrive s k st).inForm := by
  unfold xpArrive setXp State.onComb
  split <;> simp +contextual (maxDischargeDepth := 99) [h]

@[simp ↓] theorem inForm_sinkDlyWrite (h : s.inForm) (k : ℕ) (v : Word) : (sinkDlyWrite k v s).2.inForm := by
  unfold sinkDlyWrite State.accept State.onComb
  simp +contextual (maxDischargeDepth := 99) [h]

@[simp ↓] theorem inForm_sinkCtrlWrite (h : s.inForm) (k : ℕ) (v : Word) : (sinkCtrlWrite k v s).2.inForm := by
  unfold sinkCtrlWrite onSink State.onComb
  simp +contextual (maxDischargeDepth := 99) [h]

@[simp ↓] theorem inForm_delayArrive (h : s.inForm) (k : ℕ) : (delayArrive s k).inForm := by
  unfold delayArrive onSink State.onComb
  split <;> simp +contextual (maxDischargeDepth := 99) [h]

@[simp ↓] theorem inForm_xpSetPlain (h : s.inForm) (q : PlReq) : (xpSetPlain q s).st.inForm := by
  unfold xpSetPlain clampNote xpRegain xpSetOk State.accept State.onComb nak
  dsimp only
  repeat' split
  all_goals simp +contextual (maxDischargeDepth := 99) [h]

@[simp ↓] theorem inForm_xpSetSwapped (h : s.inForm) (q : PlReq) : (xpSetSwapped q s).st.inForm := by
  unfold xpSetSwapped xpResource clampNote xpSetOk State.accept State.onComb nak
  dsimp only
  (repeat' split) <;> simp +contextual (maxDischargeDepth := 99) [h]

@[simp ↓] theorem inForm_releaseAll (h : s.inForm) (ks : List ℕ) (r : ℕ) : (releaseAll s ks r).inForm := by
  unfold releaseAll xpRelease State.accept State.onComb
  refine inForm_forEach (fun k u hu => ?_) h
  split <;> simp +contextual (maxDischargeDepth := 99) [hu]

@[simp ↓] theorem inForm_xpQueryBody (h : s.inForm) (q : PlReq) : (xpQueryBody q s).st.inForm := by
  unfold xpQueryBody nak
  dsimp only
  (repeat' split) <;> simp +contextual (maxDischargeDepth := 99) [h]

@[simp ↓] theorem inForm_sinkWrite_to_xpRemoveBody (h : s.inForm) :
    (∀ k off v, (sinkWrite k off v s).2.inForm) ∧ (∀ v, (bqCmdWrite v s).2.inForm) ∧ (∀ q, (xpRemoveBody q s).st.inForm) := by
  unfold sinkWrite bqCmdWrite xpRemoveBody bqSet plain sinkMetWrite sinkLimWrite trimSet clampNote State.accept State.onComb nak
  simp +contextual (maxDischargeDepth := 99) [h]

/-! ### Measurement converters -/

@[simp ↓] theorem inForm_madcShow (h : s.inForm) (n : ℕ) : (madcShow s n).inForm := by
  unfold madcShow State.setSt
  simp +contextual (maxDischargeDepth := 99) [h]

@[simp ↓] theorem inForm_trigger (h : s.inForm) (n q : ℕ) : (trigger s n q).2.inForm := by
  unfold trigger trigDrop
  dsimp only
  (repeat' split) <;> simp +contextual (maxDischargeDepth := 99) [h]

@[simp ↓] theorem inForm_sendWord (h : s.inForm) (n q : ℕ) (w : Word) : (sendWord s n q w).inForm := by
  unfold sendWord ringPush fifoPush
  split <;> simp +contextual (maxDischargeDepth := 99) [h]

@[simp ↓] theorem inForm_putResult (h : s.inForm) (n : ℕ) (p : Pass) (e : ℕ) (code : BitVec 14) : (putResult n p e code s).inForm := by
  unfold putResult
  simp +contextual (maxDischargeDepth := 99) [h]

@[simp ↓] theorem inForm_putResults (h : s.inForm) (n : ℕ) (p : Pass) (e : ℕ) (cs : List (BitVec 14)) :
    (putResults n p e cs s).inForm := by
  induction cs generalizing s e with
  | nil => exact h
  | cons c cs ih => exact ih (inForm_putResult h _ _ _ _) _

@[simp ↓] theorem inForm_fifoPop (h : s.inForm) (n : ℕ) : (fifoPop s n).2.inForm := by
  unfold fifoPop
  split <;> simp +contextual (maxDischargeDepth := 99) [h]

@[simp ↓] theorem inForm_seqEntryWrite (h : s.inForm) (n q e : ℕ) (v : Word) : (seqEntryWrite n q e v s).2.inForm := by
  unfold seqEntryWrite
  split <;> simp +contextual (maxDischargeDepth := 99) [h]

@[simp ↓] theorem inForm_passBegin (h : s.inForm) (n : ℕ) (w : ℕ × Bool) (cyc : ℕ) (x0 x1 : BitVec 14) :
    (passBegin s n w cyc x0 x1).inForm := by
  unfold passBegin crossCheck State.log State.set64
  simp +contextual (maxDischargeDepth := 99) [h]

@[simp ↓] theorem inForm_madcWrite (h : s.inForm) (n off : ℕ) (v : Word) : (madcWrite n off v s).2.inForm := by
  unfold madcWrite seqTrigWrite seqCfgWrite xchkWrite madcRingWrite madcCtrlWrite trigMask madcRefWrite seqStop plain
  simp +contextual (maxDischargeDepth := 99) [h]

/-! ### Waggle's shared operations -/

@[simp ↓] theorem inForm_setQual (h : s.inForm) (q : ℕ) : (setQual s q).inForm := by
  unfold setQual State.log
  simp +contextual (maxDischargeDepth := 99) [h]

/-! ### Waggle -/

@[simp ↓] theorem inForm_setV_to_setCorr (h : s.inForm) :
    (∀ v, (setV s v).inForm) ∧ (∀ x, (setSpeed s x).inForm) ∧ (∀ x, (setCorr s x).inForm) := by
  unfold setV setSpeed setCorr State.set64
  simp +contextual (maxDischargeDepth := 99) [h]

@[simp ↓] theorem inForm_jumpTo_to_guardReset (h : s.inForm) :
    (∀ v, (jumpTo s v).inForm) ∧ (wagShow s).inForm ∧ (guardReset s).inForm := by
  unfold jumpTo wagShow guardReset State.log State.setSt
  simp +contextual (maxDischargeDepth := 99) [h]

@[simp ↓] theorem inForm_wagControl (h : s.inForm) : (wagControl s).inForm := by
  unfold wagControl
  dsimp only
  (repeat' split) <;> simp +contextual (maxDischargeDepth := 99) [h]

@[simp ↓] theorem inForm_fixTimeouts (h : s.inForm) (k : ℕ) : (fixTimeouts s k).inForm := by
  unfold fixTimeouts wagLost
  split <;> simp +contextual (maxDischargeDepth := 99) [h]

@[simp ↓] theorem inForm_fixApply (h : s.inForm) (k : ℕ) : (fixApply s k).inForm := by
  unfold fixApply
  split <;> simp +contextual (maxDischargeDepth := 99) [h]

@[simp ↓] theorem inForm_windowJudge (h : s.inForm) (k : ℕ) (n : ℤ) (sc : ℚ) : (windowJudge s k n sc).1.inForm := by
  unfold windowJudge windowReject windowTake wagLost State.set64
  simp +contextual (maxDischargeDepth := 99) [h]

@[simp ↓] theorem inForm_wagAdvance_to_wagCtrlWrite (h : s.inForm) :
    (∀ k, (wagAdvance s k).inForm) ∧ (∀ q, (posFixBody q s).st.inForm) ∧ (∀ v, (wagCtrlWrite v s).2.inForm) := by
  unfold wagAdvance posFixBody wagCtrlWrite fixReject fixAnswer windowClose wagFollow nak
  simp +contextual (maxDischargeDepth := 99) [h]

@[simp ↓] theorem inForm_wagPageWrite (h : s.inForm) (r : Req) (off : ℕ) (v : Word) : (wagPageWrite r off v s).2.inForm := by
  unfold wagPageWrite bankWrite wagValueWrite State.dropHold wagCfgWrite no plain
  simp +contextual (maxDischargeDepth := 99) [h]

/-! ### Cues -/

@[simp ↓] theorem inForm_cueSetBody (h : s.inForm) (q : PlReq) : (cueSetBody q s).st.inForm := by
  unfold cueSetBody nak setCue
  dsimp only
  (repeat' split) <;> simp +contextual (maxDischargeDepth := 99) [h]

@[simp ↓] theorem inForm_cueWindowWrite (h : s.inForm) (r : Req) (off : ℕ) (v : Word) : (cueWindowWrite r off v s).2.inForm := by
  unfold cueWindowWrite cueWrite cueCommit onCue setCue
  simp +contextual (maxDischargeDepth := 99) [h]

@[simp ↓] theorem inForm_cueClearBody (h : s.inForm) (q : PlReq) : (cueClearBody q s).st.inForm := by
  unfold cueClearBody nak onCue setCue
  simp +contextual (maxDischargeDepth := 99) [h]

@[simp ↓] theorem inForm_cueOn {act : Act} (h : s.inForm) (ha : (act s).2.inForm) (page : ℕ) : (cueOn page act s).2.inForm := by
  unfold cueOn
  split <;> simp +contextual (maxDischargeDepth := 99) [h, ha]

@[simp ↓] theorem inForm_ofAns {f : State → PlAns} (h : (f s).st.inForm) : (ofAns f s).2.inForm := h

@[simp ↓] theorem inForm_cueAction (h : s.inForm) (k : ℕ) (act arg : Word) : (cueAction k act arg s).2.inForm := by
  generalize hf : cueAction k act arg = f
  unfold cueAction cueTrigger toneAct clipAct startRefused clipNote State.log at hf
  repeat' split at hf
  all_goals subst hf; simp +contextual (maxDischargeDepth := 99) [h]

@[simp ↓] theorem inForm_actNote {o : Code × State} (h : o.2.inForm) (k : ℕ) : (actNote k o).inForm := by
  unfold actNote onCue setCue
  simp +contextual (maxDischargeDepth := 99) [h]

@[simp ↓] theorem inForm_cueAct {o : State × List (ℕ × Bool)} (h : o.1.inForm) (k : ℕ) (act arg : Word) :
    (cueAct k act arg o).1.inForm := by
  unfold cueAct
  simp +contextual (maxDischargeDepth := 99) [h]

@[simp ↓] theorem inForm_armTarget (h : s.inForm) (e : ℕ × Bool) : (armTarget e s).inForm := by
  unfold armTarget setCue
  simp +contextual (maxDischargeDepth := 99) [h]

@[simp ↓] theorem inForm_cueFire {o : State × List (ℕ × Bool)} (h : o.1.inForm) (m : PwrMode) (k : ℕ) : (cueFire m k o).1.inForm := by
  unfold cueFire setCue State.set64
  simp +contextual (maxDischargeDepth := 99) [h]

@[simp ↓] theorem inForm_cueEval {o : State × List (ℕ × Bool)} (h : o.1.inForm) (m : PwrMode) (k : ℕ) : (cueEval m k o).1.inForm := by
  unfold cueEval cueExpire setCue State.log
  simp +contextual (maxDischargeDepth := 99) [h]

/-! ### Images and updates -/

@[simp ↓] theorem inForm_imgShow (h : s.inForm) : (imgShow s).inForm := by
  unfold imgShow slotShow libShow
  simp +contextual (maxDischargeDepth := 99) [h]

@[simp ↓] theorem inForm_sessionAbort (h : s.inForm) : (sessionAbort s).inForm := by
  unfold sessionAbort sessionShow State.onKpr
  split <;> simp +contextual (maxDischargeDepth := 99) [h]

@[simp ↓] theorem inForm_verifyAbort (h : s.inForm) : (verifyAbort s).inForm := by
  unfold verifyAbort sessionShow State.onKpr
  split <;> simp +contextual (maxDischargeDepth := 99) [h]

@[simp ↓] theorem inForm_imgDataBody (h : s.inForm) (erasing : Bool) (q : PlReq) : (imgDataBody erasing q s).st.inForm := by
  unfold imgDataBody nak State.onKpr
  split <;> simp +contextual (maxDischargeDepth := 99) [h]

@[simp ↓] theorem inForm_imgCommitBody (h : s.inForm) (q : PlReq) : (imgCommitBody q s).st.inForm := by
  unfold imgCommitBody verifyStart sessionShow nak State.onKpr
  split <;> simp +contextual (maxDischargeDepth := 99) [h]

@[simp ↓] theorem inForm_blowFuses (h : s.inForm) (secver : ℕ) (bad : Option ℕ) : (blowFuses s secver bad).inForm := by
  unfold blowFuses otpFailed State.log
  split <;> simp +contextual (maxDischargeDepth := 99) [h]

@[simp ↓] theorem inForm_bootLog (h : s.inForm) (k : ℕ) (kind : LogKind) (reason : ℕ) : (bootLog s k kind reason).inForm := by
  unfold bootLog onSlotImage
  simp +contextual (maxDischargeDepth := 99) [h]

@[simp ↓] theorem inForm_imgConfirmBody (h : s.inForm) (bad : Option ℕ) (q : PlReq) : (imgConfirmBody bad q s).st.inForm := by
  unfold imgConfirmBody nak State.log
  dsimp only
  (repeat' split) <;> simp +contextual (maxDischargeDepth := 99) [h]

@[simp ↓] theorem inForm_otpCtrlWrite (h : s.inForm) (r : Req) (v : Word) : (otpCtrlWrite r v s).2.inForm := by
  unfold otpCtrlWrite otpRevoke State.onKpr
  simp +contextual (maxDischargeDepth := 99) [h]

/-! ### Microphones -/

@[simp ↓] theorem inForm_pdmRequest (h : s.inForm) (full : Bool) : (pdmRequest s full).inForm := by
  unfold pdmRequest pdmProceed pdmShow State.onPdm State.setSt
  split <;> simp +contextual (maxDischargeDepth := 99) [h]

@[simp ↓] theorem inForm_pdmCtrlWrite (h : s.inForm) (v : Word) : (pdmCtrlWrite v s).2.inForm := by
  unfold pdmCtrlWrite micRefresh State.onPdm
  simp +contextual (maxDischargeDepth := 99) [h]

@[simp ↓] theorem inForm_pdmSwitch (h : s.inForm) : (pdmSwitch s).inForm := by
  unfold pdmSwitch micRefresh pdmShow State.onPdm State.setSt
  simp +contextual (maxDischargeDepth := 99) [h]

@[simp ↓] theorem inForm_pdmBlock (h : s.inForm) (k : ℕ) : (pdmBlock s k).inForm := by
  unfold pdmBlock State.onPdm
  split
  · split <;> simp +contextual (maxDischargeDepth := 99) [h]
  · exact h

/-! ### The Scout -/

@[simp ↓] theorem inForm_modelBeginBody (h : s.inForm) (q : PlReq) : (modelBeginBody q s).st.inForm := by
  unfold modelBeginBody modelUsed nak State.onSlot State.onSct
  dsimp only
  (repeat' split) <;> simp +contextual (maxDischargeDepth := 99) [h]

@[simp ↓] theorem inForm_modelDataBody (h : s.inForm) (q : PlReq) : (modelDataBody q s).st.inForm := by
  unfold modelDataBody nak State.onSlot State.onSct
  dsimp only
  (repeat' split) <;> simp +contextual (maxDischargeDepth := 99) [h]

@[simp ↓] theorem inForm_modelEndBody (h : s.inForm) (q : PlReq) : (modelEndBody q s).st.inForm := by
  unfold modelEndBody slotEmpty slotTake modelUsed nak State.onSlot State.onSct
  dsimp only
  (repeat' split) <;> simp +contextual (maxDischargeDepth := 99) [h]

@[simp ↓] theorem inForm_ringRecord (h : s.inForm) (ys : List ℤ) : (ringRecord s ys).inForm := by
  have put (u : State) (hu : u.inForm) (a : ℕ) (l : List Byte) : ({ u with mem := putBytes u.mem a l } : State).inForm := by
    obtain ⟨hregs, hmem, hcores⟩ := hu
    exact ⟨hregs, putBytes_wf _ hmem a, hcores⟩
  unfold ringRecord
  simp +contextual (maxDischargeDepth := 99) [h, put]

@[simp ↓] theorem inForm_detectAll (h : s.inForm) (ds : List Detection) : (detectAll s ds).inForm := by
  unfold detectAll sealOpen detected State.log State.onSct State.setSt State.set64
  split <;> simp +contextual (maxDischargeDepth := 99) [h]

@[simp ↓] theorem inForm_slotCfgWrite_to_scoutFrame_primeSlots (h : s.inForm) :
    (∀ k v, (slotCfgWrite k v s).2.inForm) ∧ (∀ v, (sctCtrlWrite v s).2.inForm) ∧ (∀ v, (sctMicWrite v s).2.inForm) ∧
    (∀ k x, (scoutTake s k x).inForm) ∧ (scoutFrame.primeSlots s).inForm := by
  unfold slotCfgWrite sctCtrlWrite sctMicWrite scoutTake scoutFrame.primeSlots sctHalt sctFresh micRefresh sealClose ringClear
    State.onSlot State.onSct State.setSt
  simp +contextual (maxDischargeDepth := 99) [h]

@[simp ↓] theorem inForm_knock (h : s.inForm) (n : ℕ) (lvl : Fix) : (knock s n lvl).inForm := by
  unfold knock kpKnock bzReport State.log State.onSct
  dsimp only
  split <;> simp +contextual (maxDischargeDepth := 99) [h]

@[simp ↓] theorem inForm_scoutFrame (h : s.inForm) : (scoutFrame s).inForm := by
  unfold scoutFrame slotsFrame slotFrame State.onSlot State.onSct
  simp +contextual (maxDischargeDepth := 99) [h]

@[simp ↓] theorem inForm_sctWrite (h : s.inForm) (off : ℕ) (v : Word) : (sctWrite off v s).2.inForm := by
  unfold sctWrite bzCfgWrite no plain State.onSct
  simp +contextual (maxDischargeDepth := 99) [h]

/-! ### Images applied -/

@[simp ↓] theorem inForm_imageWord (h : s.inForm) (a : ℕ) (w : Word) : (imageWord a w s).inForm := by
  unfold imageWord
  split <;> simp +contextual (maxDischargeDepth := 99) [h]

@[simp ↓] theorem inForm_applyDsp (h : s.inForm) (x : List Byte) : (applyDsp x s).inForm := by
  unfold applyDsp
  split <;> simp +contextual (maxDischargeDepth := 99) [h]

/-! ### The media clock -/

@[simp ↓] theorem inForm_clkTo (h : s.inForm) (n : ℕ) : (clkTo s n).inForm := by
  unfold clkTo clkLeave clkShow wagFollow State.onClk State.setSt
  simp +contextual (maxDischargeDepth := 99) [h]

@[simp ↓] theorem inForm_clkSource (h : s.inForm) : (clkSource s).inForm := by
  unfold clkSource clkHoldover setFreq clkAcquire State.onClk
  simp +contextual (maxDischargeDepth := 99) [h]

@[simp ↓] theorem inForm_servoUpdate (h : s.inForm) (errs : List ℤ) : (servoUpdate errs s).inForm := by
  unfold servoUpdate servoMeasured servoState servoSteer freqHist clkSelect clkFree setFreq clkAcquire State.onClk
  simp +contextual (maxDischargeDepth := 99) [h]

/-! ### PTP -/

@[simp ↓] theorem inForm_ptpTo (h : s.inForm) (n st : ℕ) : (ptpTo s n st).inForm := by
  unfold ptpTo ptpLost ptpGood onPtp State.onLink State.onNet
  simp +contextual (maxDischargeDepth := 99) [h]

@[simp ↓] theorem inForm_ptpDecide (h : s.inForm) (n : ℕ) : (ptpDecide s n).inForm := by
  unfold ptpDecide ptpFollow setGm onPtp State.onLink State.onNet State.set64
  split <;> simp +contextual (maxDischargeDepth := 99) [h]

@[simp ↓] theorem inForm_syncMeasured (h : s.inForm) (n : ℕ) (ms : ℤ) : (syncMeasured s n ms).inForm := by
  unfold syncMeasured syncOutlier syncAccept syncStep ptpStep setOffset ptpGood onPtp State.onLink State.onNet State.set64
  simp +contextual (maxDischargeDepth := 99) [h]

@[simp ↓] theorem inForm_ptpSyncIn (h : s.inForm) (n at_ : ℕ) (m : PtpMsg) : (ptpSyncIn n at_ m s).inForm := by
  unfold ptpSyncIn onPtp State.onLink State.onNet
  dsimp only
  (repeat' split) <;> simp +contextual (maxDischargeDepth := 99) [h]

@[simp ↓] theorem inForm_setCapable (h : s.inForm) (n : ℕ) (c : Bool) : (setCapable s n c).inForm := by
  unfold setCapable ptpLost ptpGood
  simp +contextual (maxDischargeDepth := 99) [h]

@[simp ↓] theorem inForm_ptpRespIn (h : s.inForm) (n at_ : ℕ) (m : PtpMsg) (q : BitVec 16) (t : BitVec 64) :
    (ptpRespIn n at_ m q t s).inForm := by
  unfold ptpRespIn peerDelay setDelay onPtp State.onLink State.onNet
  dsimp only
  (repeat' split) <;> simp +contextual (maxDischargeDepth := 99) [h]

@[simp ↓] theorem inForm_ptpDelayIn (h : s.inForm) (n at_ : ℕ) (m : PtpMsg) : (ptpDelayIn n at_ m s).inForm := by
  unfold ptpDelayIn sendFrames sendFrame
  dsimp only
  (repeat' split) <;> simp +contextual (maxDischargeDepth := 99) [h]

/-! ### Links -/

@[simp ↓] theorem inForm_linkLeave (h : s.inForm) (n : ℕ) : (linkLeave s n).inForm := by
  unfold linkLeave txFollow State.onLink State.onNet State.setSt
  simp +contextual (maxDischargeDepth := 99) [h]

@[simp ↓] theorem inForm_links (h : s.inForm) :
    (∀ n, (linksDown.linkNot' s n).inForm) ∧ (∀ n v, (ethCtrlWrite n v s).2.inForm) ∧
    (∀ n reply sip smac tip, (arpIn n reply sip smac tip s).inForm) := by
  unfold linksDown.linkNot' ethCtrlWrite arpIn arpLearn arpCount releaseHop arpConflict linkNot linkStop txFollow sendFrames sendFrame
    State.onLink State.onNet State.setSt
  simp +contextual (maxDischargeDepth := 99) [h]

@[simp ↓] theorem inForm_ethWrite (h : s.inForm) (n off : ℕ) (v : Word) : (ethWrite n off v s).2.inForm := by
  unfold ethWrite bufCfgWrite ptpWrite ptpRestart mdioWrite stoppedWrite no plain onPtp State.onLink State.onNet
  simp +contextual (maxDischargeDepth := 99) [h]

/-! ### The mix -/

@[simp ↓] theorem inForm_sinkPeriod (h : s.inForm) (k : ℕ) : (sinkPeriod s k).1.inForm := by
  unfold sinkPeriod meterStage State.countN mixSaturated onSink State.onComb
  simp +contextual (maxDischargeDepth := 99) [h]

@[simp ↓] theorem inForm_sinkInto {o : State × List (ℕ × ℤ)} (h : o.1.inForm) (k : ℕ) : (sinkInto k o).1.inForm := by
  unfold sinkInto
  simp +contextual (maxDischargeDepth := 99) [h]

/-! ### Zone level adaptation -/

/-- Taps taken keep the form. -/
theorem inForm_tapAll : ∀ (l : List ℕ) {r t : State × List (ℕ × ℕ)}, r.1.inForm → tapAll l r = some t → t.1.inForm
  | [], _, _, h, ht => Option.some.inj ht ▸ h
  | n :: l, r, t, h, ht => by
    rw [tapAll, tapOne] at ht
    split at ht
    · cases ht
    next heq =>
      split at heq
      · cases heq
        exact inForm_tapAll l (r := (_, _)) (inForm_xpCreate h _ _ _ _ _) ht
      · cases heq

@[simp ↓] theorem inForm_onZone (h : s.inForm) (z : ℕ) (f : Zone → Zone) : (onZone s z f).inForm := by
  unfold onZone State.onComb
  simp +contextual (maxDischargeDepth := 99) [h]

@[simp ↓] theorem inForm_zoneEnable (h : s.inForm) (z : ℕ) (mics : Word) : (zoneEnable z mics s).2.inForm := by
  unfold zoneEnable
  dsimp only
  repeat' split
  next => exact h
  next => exact h
  next => exact h
  next ht => simp +contextual (maxDischargeDepth := 99) [inForm_tapAll _ h ht]

@[simp ↓] theorem inForm_zoneGain (h : s.inForm) (z : ℕ) (a : ℤ) (n : ℕ) : (zoneGain s z a n).inForm := by
  unfold zoneGain onSink State.onComb
  simp +contextual (maxDischargeDepth := 99) [h]

@[simp ↓] theorem inForm_zoneDisable (h : s.inForm) (z : ℕ) : (zoneDisable z s).inForm := by
  unfold zoneDisable
  dsimp only
  refine inForm_zoneGain (inForm_setF (inForm_setF (inForm_onZone (inForm_forEach (fun e u hu => ?_) h) _ _) _ _ _) _ _ _) _ _ _
  split <;> simp +contextual (maxDischargeDepth := 99) [hu]

@[simp ↓] theorem inForm_zoneCfgWrite (h : s.inForm) (z : ℕ) (v mics : Word) : (zoneCfgWrite z v mics s).2.inForm := by
  have hen := inForm_zoneEnable h z mics
  unfold zoneCfgWrite
  dsimp only
  split
  · exact h
  · split
    · split
      next heq =>
        rw [heq] at hen
        simp +contextual (maxDischargeDepth := 99) [hen]
      · exact h
    · simp +contextual (maxDischargeDepth := 99) [h]

@[simp ↓] theorem inForm_zlaItem (h : s.inForm) (z : ℕ) (d : List Byte) : (zlaItem z d s).2.inForm := by
  unfold zlaItem
  split
  · split
    · exact h
    · dsimp only
      split
      next heq => exact inForm_of_snd_eq (by simp +contextual (maxDischargeDepth := 99) [h]) heq
      · exact h
  · exact h

@[simp ↓] theorem inForm_sinkItem (h : s.inForm) (k item : ℕ) (d : List Byte) : (sinkItem k item d s).2.inForm := by
  unfold sinkItem bqSet sinkMetWrite sinkLimWrite trimSet clampNote State.accept State.onComb
  split <;> simp +contextual (maxDischargeDepth := 99) [h]

@[simp ↓] theorem inForm_sinkSetBody (h : s.inForm) (q : PlReq) : (sinkSetBody q s).st.inForm := by
  unfold sinkSetBody nak
  dsimp only
  split
  · simp +contextual (maxDischargeDepth := 99) [h]
  · split
    next heq => exact inForm_ok (inForm_of_snd_eq (inForm_sinkItem h _ _ _) heq) _
    · simp +contextual (maxDischargeDepth := 99) [h]

@[simp ↓] theorem inForm_zoneWrite (h : s.inForm) (z off : ℕ) (v : Word) : (zoneWrite z off v s).2.inForm := by
  unfold zoneWrite plain
  simp +contextual (maxDischargeDepth := 99) [h]

/-! ### Line supervision -/

@[simp ↓] theorem inForm_lsvStart (h : s.inForm) : (lsvStart s).2.inForm := by
  unfold lsvStart lsvSeq
  split
  · exact h
  · split
    · exact h
    next ht => simp +contextual (maxDischargeDepth := 99) [inForm_tapAll _ h ht]

@[simp ↓] theorem inForm_lsvShow (h : s.inForm) : (lsvShow s).inForm := by
  unfold lsvShow State.setSt
  simp +contextual (maxDischargeDepth := 99) [h]

@[simp ↓] theorem inForm_lsvWrite (h : s.inForm) (off : ℕ) (v : Word) : (lsvWrite off v s).2.inForm := by
  unfold lsvWrite lsvRefWrite lineNone onLine lsvThrWrite lsvCfgWrite lsvStop lsvSeqOff seqStop plain
  simp +contextual (maxDischargeDepth := 99) [h]

@[simp ↓] theorem inForm_lineSettle (h : s.inForm) (c f z ignd : ℕ) : (lineSettle s c f z ignd).inForm := by
  unfold lineSettle onLine State.log
  simp +contextual (maxDischargeDepth := 99) [h]

@[simp ↓] theorem inForm_lineLeak (h : s.inForm) (c f : ℕ) (m : LineMeas) : (lineLeak s c f m).inForm := by
  unfold lineLeak onLine
  dsimp only
  split <;> simp +contextual (maxDischargeDepth := 99) [h]

@[simp ↓] theorem inForm_zoneResult (h : s.inForm) (z r : ℕ) : (zoneResult s z r).inForm := by
  unfold zoneResult
  simp +contextual (maxDischargeDepth := 99) [h]

@[simp ↓] theorem inForm_lineWindow (h : s.inForm) (c : ℕ) (m : LineMeas) : (lineWindow s c m).inForm := by
  unfold lineWindow lineJudge lineLearn lineShow onLine
  simp +contextual (maxDischargeDepth := 99) [h]

@[simp ↓] theorem inForm_testOver (h : s.inForm) (how : ℕ) : (testOver s how).inForm := by
  unfold testOver
  simp +contextual (maxDischargeDepth := 99) [h]

@[simp ↓] theorem inForm_testNext (h : s.inForm) (l : List ℕ) : (testNext l s).inForm := by
  induction l generalizing s with
  | nil =>
    unfold testNext
    simp +contextual (maxDischargeDepth := 99) [h]
  | cons z l ih =>
    unfold testNext
    split
    · exact ih (inForm_zoneResult h _ _)
    · split
      · exact ih (inForm_zoneResult h _ _)
      · simp +contextual (maxDischargeDepth := 99) [h]

@[simp ↓] theorem inForm_testAbort (h : s.inForm) : (testAbort s).inForm := by
  unfold testAbort
  split <;> simp +contextual (maxDischargeDepth := 99) [h]

@[simp ↓] theorem inForm_selftestBody (h : s.inForm) (q : PlReq) : (selftestBody q s).st.inForm := by
  unfold selftestBody testBegin nak
  simp +contextual (maxDischargeDepth := 99) [h]

/-! ### Speaker channels and boosts -/

@[simp ↓] theorem inForm_ampCtrlWrite (h : s.inForm) (n : ℕ) (v : Word) : (ampCtrlWrite n v s).2.inForm := by
  unfold ampCtrlWrite ampClear ampMute ampStop ampUnmute State.stopRamp State.startRamp setRetries State.onAmp State.onAn State.setSt
  simp +contextual (maxDischargeDepth := 99) [h]

@[simp ↓] theorem inForm_ampWrite (h : s.inForm) (n off : ℕ) (v : Word) : (ampWrite n off v s).2.inForm := by
  unfold ampWrite ampThermWrite ampLimitWrite ampCfgWrite plain
  simp +contextual (maxDischargeDepth := 99) [h]

@[simp ↓] theorem inForm_bstCtrlWrite (h : s.inForm) (p : ℕ) (v : Word) : (bstCtrlWrite p v s).2.inForm := by
  unfold bstCtrlWrite boostClear ampUnblock State.onAmp State.onAn State.setSt
  simp +contextual (maxDischargeDepth := 99) [h]

@[simp ↓] theorem inForm_bstWrite_to_boostFault (h : s.inForm) :
    (∀ p off v, (bstWrite p off v s).2.inForm) ∧ (∀ n kind cls peak vp vn, (ampTrip s n kind cls peak vp vn).inForm) ∧
    (∀ p flt vrail pvin, (boostFault s p flt vrail pvin).inForm) := by
  unfold bstWrite ampTrip boostFault ampUnblock bstTrackWrite bstRailWrite bstCfgWrite ampCutLive ampCut ampBlock ampDark State.stopRamp
    plain setRetries State.onAmp State.onAn State.log State.setSt
  simp +contextual (maxDischargeDepth := 99) [h]

/-! ### TDM ports -/

@[simp ↓] theorem inForm_tdmStart (h : s.inForm) (n : ℕ) : (tdmStart n s).2.inForm := by
  unfold tdmStart asrcTake tdmLaunch tdmRun tdmReason asrcUsed State.onGrp State.onTdm State.setSt
  simp +contextual (maxDischargeDepth := 99) [h]

@[simp ↓] theorem inForm_tdmCtrlWrite (h : s.inForm) (n : ℕ) (v : Word) : (tdmCtrlWrite n v s).2.inForm := by
  unfold tdmCtrlWrite tdmStop no tdmHalt srcInvalid asrcFree asrcUsed State.onGrp State.onTdm State.setSt
  simp +contextual (maxDischargeDepth := 99) [h]

@[simp ↓] theorem inForm_tdm (h : s.inForm) :
    (∀ n off v, (tdmWrite n off v s).2.inForm) ∧ (∀ n, (tdmGood s n).inForm) ∧ (∀ n why, (tdmLose s n why).inForm) := by
  unfold tdmWrite tdmGood tdmLose asrcLost tdmReason tdmMaskWrite tdmCfgWrite State.onTdm plain State.setSt
  simp +contextual (maxDischargeDepth := 99) [h]

@[simp ↓] theorem inForm_tdmBad (h : s.inForm) (n b : ℕ) (missing : Bool) : (tdmBad s n b missing).inForm := by
  unfold tdmBad State.onTdm
  simp +contextual (maxDischargeDepth := 99) [h]

/-! ### Clocks -/

@[simp ↓] theorem inForm_fabricStop (h : s.inForm) (why : Halt) : (fabricStop s why).inForm := by
  unfold fabricStop linksDown outputsCut ampCutLive ampCut earsCut loCut ampBlock ampDark sideTones State.stopRamp State.onClk setEar
    setLo State.onAmp State.onAn State.setSt
  simp +contextual (maxDischargeDepth := 99) [h]

@[simp ↓] theorem inForm_clkRecover (h : s.inForm) : (clkRecover s).inForm := by
  unfold clkRecover clkUnseen tdmRestart asrcRestart outputsBack ampUnblock tdmLaunch tdmRun loBegin clkSelect clkFree setFreq clkAcquire
    State.onGrp State.onTdm State.onClk setLo State.onAmp State.onLo State.onAn State.setSt
  simp +contextual (maxDischargeDepth := 99) [h]

@[simp ↓] theorem inForm_clkWrite (h : s.inForm) (off : ℕ) (v : Word) : (clkWrite off v s).2.inForm := by
  unfold clkWrite mediaCfgWrite refCfgWrite no setFreq plain State.onClk
  simp +contextual (maxDischargeDepth := 99) [h]

/-! ### Supplies that fail and return -/

@[simp ↓] theorem inForm_startDrivers (h : s.inForm) : (startDrivers s).inForm := by
  unfold startDrivers loBegin setLo State.onLo State.onAn
  simp +contextual (maxDischargeDepth := 99) [h]

@[simp ↓] theorem inForm_startInputs (h : s.inForm) : (startInputs s).inForm := by
  unfold startInputs ainBegin setAin
  simp +contextual (maxDischargeDepth := 99) [h]

@[simp ↓] theorem inForm_outputsAgain (h : s.inForm) : (outputsAgain s).inForm := by
  unfold outputsAgain
  simp +contextual (maxDischargeDepth := 99) [h]

@[simp ↓] theorem inForm_hsPwrBack (h : s.inForm) (n : ℕ) : (hsPwrBack s n).inForm := by
  unfold hsPwrBack hsBegin hsStop hsFault micOff sideTones State.stopRamp State.startRamp setHs setEar State.onHs State.onAn
  simp +contextual (maxDischargeDepth := 99) [h]

/-! ### Streams -/

@[simp ↓] theorem inForm_strEnable (h : s.inForm) (dir j : ℕ) : (strEnable s dir j).inForm := by
  unfold strEnable strTake State.onTx State.onRx strUsed State.onNet
  simp +contextual (maxDischargeDepth := 99) [h]

@[simp ↓] theorem inForm_strCtrlWrite (h : s.inForm) (dir j : ℕ) (v : Word) : (strCtrlWrite dir j v s).2.inForm := by
  unfold strCtrlWrite strDisable strClose strFree State.onTx State.onRx strUsed State.onNet
  simp +contextual (maxDischargeDepth := 99) [h]

@[simp ↓] theorem inForm_rxAccept (h : s.inForm) (j p : ℕ) (q0 : ℤ) (pk : RtpPacket) (inst : List (List ℤ)) :
    (rxAccept s j p q0 pk inst).inForm := by
  unfold rxAccept rxLevel storeInstant rxLate State.onRx State.onNet State.inc64 State.set64
  simp +contextual (maxDischargeDepth := 99) [h]

@[simp ↓] theorem inForm_rxPacket (h : s.inForm) (n j : ℕ) (pk : RtpPacket) : (rxPacket s n j pk).inForm := by
  unfold rxPacket rxTimed rxLate rxSsrc rxRefuse State.onRx State.onNet
  simp +contextual (maxDischargeDepth := 99) [h]

@[simp ↓] theorem inForm_rtpIn (h : s.inForm) (n : ℕ) (p : RtpPacket) : (rtpIn n p s).inForm := by
  unfold rtpIn csumIn dropIn
  (repeat' split) <;> simp +contextual (maxDischargeDepth := 99) [h]

@[simp ↓] theorem inForm_strApply (h : s.inForm) : (strApply s).inForm := by
  unfold strApply strClose strFree State.onTx State.onRx strUsed State.onNet
  dsimp only
  refine inForm_forEach (fun j u hu => ?_) (inForm_forEach (fun j u hu => ?_) h)
  · simp +contextual (maxDischargeDepth := 99) [hu]
  · split <;> simp +contextual (maxDischargeDepth := 99) [hu]

@[simp ↓] theorem inForm_rxPeriod_to_streamSetBody (h : s.inForm) :
    (∀ j p ecc, (rxPeriod s j p ecc).1.inForm) ∧ (∀ p j, (txSample s p j).inForm) ∧ (∀ q, (streamSetBody q s).st.inForm) := by
  unfold rxPeriod txSample streamSetBody strPut rxMiss rxPlay txBoundary txRun strClose strFree State.onTx State.onRx strUsed nak
    State.onNet
  simp +contextual (maxDischargeDepth := 99) [h]

/-! ### Power states entered and left -/

@[simp ↓] theorem inForm_entryBegin (h : s.inForm) (t : PwrMode) (kind : ℕ) (r : Req) (cmd addr : ℕ) :
    (entryBegin s t kind r cmd addr).inForm := by
  unfold entryBegin State.setSt
  simp +contextual (maxDischargeDepth := 99) [h]

@[simp ↓] theorem inForm_powerAsk (h : s.inForm) (c : ℕ) (force : Bool) (r : Req) (cmd addr : ℕ) :
    (powerAsk s c force r cmd addr).2.2.inForm := by
  unfold powerAsk rfsPut
  repeat' split
  all_goals simp +contextual (maxDischargeDepth := 99) [h]

@[simp ↓] theorem inForm_askCount {o : Code × Option Refuser × State} (h : o.2.2.inForm) : (askCount o).inForm := by
  unfold askCount
  simp +contextual (maxDischargeDepth := 99) [h]

@[simp ↓] theorem inForm_pwrShow (h : s.inForm) : (pwrShow s).inForm := by
  unfold pwrShow State.setSt
  simp +contextual (maxDischargeDepth := 99) [h]

@[simp ↓] theorem inForm_autoTry (h : s.inForm) (l : List PwrMode) : (autoTry s l).inForm := by
  unfold autoTry
  split <;> simp +contextual (maxDischargeDepth := 99) [h]

@[simp ↓] theorem inForm_entryOver (h : s.inForm) : (entryOver s).inForm := by
  unfold entryOver
  simp +contextual (maxDischargeDepth := 99) [h]

@[simp ↓] theorem inForm_prepare (h : s.inForm) (e : Entry) : (prepare s e).inForm := by
  unfold prepare entryRecord flushRecs outputsStop mirrorPass State.onMram earsMute ampStop loStop sideTones State.stopRamp
    State.startRamp setEar setLo State.onHs State.onAmp State.onLo State.onAn State.log State.setSt State.set64
  simp +contextual (maxDischargeDepth := 99) [h]

@[simp ↓] theorem inForm_abandon (h : s.inForm) (e : Entry) : (abandon s e).inForm := by
  unfold abandon State.idleUnmuteAll ampUnmute loUnmute State.startRamp State.onAmp State.onLo State.onAn
  split <;> simp +contextual (maxDischargeDepth := 99) [h]

@[simp ↓] theorem inForm_listenLost (h : s.inForm) : (listenLost s).inForm := by
  unfold listenLost eventsLost slotEmpty modelUsed micRefresh pdmShow State.onPdm sealClose ringClear State.onSlot State.onSct State.setSt
  simp +contextual (maxDischargeDepth := 99) [h]

@[simp ↓] theorem inForm_runLost (h : s.inForm) (m : PwrMode) : (runLost s m).inForm := by
  unfold runLost framesLost eventsLost streamLost linkLost madcLose coreLost clipLose combSettle delaysLost ptpRestart lsvStop lsvSeqOff
    seqStop micOff combTake State.onBst trimCur strClose strFree State.onTx State.onRx strUsed tdmsFloat State.onTdm sideTones onSink
    State.onComb State.onClip State.onClk boostOff setEar State.onHs State.onLo State.onAn onPtp State.onLink State.onNet State.setSt
  simp +contextual (maxDischargeDepth := 99) [h]

@[simp ↓] theorem inForm_commit (h : s.inForm) (e : Entry) : (commit s e).inForm := by
  unfold commit reachState entryRecord flushRecs State.setDoms State.setDom State.log
  split <;> simp +contextual (maxDischargeDepth := 99) [h]

@[simp ↓] theorem inForm_aonFlush (h : s.inForm) : (aonFlush s).inForm := by
  unfold aonFlush
  simp +contextual (maxDischargeDepth := 99) [h]

@[simp ↓] theorem inForm_wakeRun (h : s.inForm) (src us : ℕ) : (wakeRun s src us).inForm := by
  unfold wakeRun wagResume outputsWake idleCausesOver reloadCores clkDegraded clkWake reachState startCores wakeReport clkUnseen
    tdmRestart asrcRestart refFailed clkLog coreStart tdmLaunch tdmRun hsBegin clkSelect clkFree hsFault micOff setFreq clkAcquire
    State.onGrp State.onTdm State.autoWake State.stopRamp State.setDoms State.setDom State.onClk setHs setEar State.onHs State.onAn
    State.log State.setSt State.inc64 State.set64
  simp +contextual (maxDischargeDepth := 99) [h]

/-! ### Swarm -/

@[simp ↓] theorem inForm_swarmEnd (h : s.inForm) (why : ℕ) : (swarmEnd s why).inForm := by
  unfold swarmEnd State.log
  simp +contextual (maxDischargeDepth := 99) [h]

@[simp ↓] theorem inForm_swmUnlockBody (h : s.inForm) (q : PlReq) : (swmUnlockBody q s).st.inForm := by
  unfold swmUnlockBody swmRespond swmWrong swmChallenge nak State.log
  split <;> simp +contextual (maxDischargeDepth := 99) [h]

@[simp ↓] theorem inForm_swmWrite (h : s.inForm) (off : ℕ) (v : Word) : (swmWrite off v s).2.inForm := by
  unfold swmWrite ruleFresh State.set64
  simp +contextual (maxDischargeDepth := 99) [h]

@[simp ↓] theorem inForm_swmStopBody (h : s.inForm) (q : PlReq) : (swmStopBody q s).st.inForm := by
  unfold swmStopBody swarmRelock rulesOff nak
  simp +contextual (maxDischargeDepth := 99) [h]

/-! ### TW1 -/

@[simp ↓] theorem inForm_xfRun (h : s.inForm) (k : ℕ) (o : TwOutcome) : (xfRun s k o).inForm := by
  unfold xfRun xfNack xfBus xfFill State.onTw1 xfEnd
  split <;> simp +contextual (maxDischargeDepth := 99) [h]

@[simp ↓] theorem inForm_clearTry (h : s.inForm) (b : BusClear) : (clearTry s b).inForm := by
  unfold clearTry tw1Fault tw1Free clearEnd State.onTw1 xfEnd State.setSt
  split <;> simp +contextual (maxDischargeDepth := 99) [h]

@[simp ↓] theorem inForm_xfCtrlWrite (h : s.inForm) (r : Req) (k : ℕ) (v : Word) : (xfCtrlWrite r k v s).2.inForm := by
  unfold xfCtrlWrite State.onTw1
  simp +contextual (maxDischargeDepth := 99) [h]

@[simp ↓] theorem inForm_tw1CtrlWrite (h : s.inForm) (v : Word) : (tw1CtrlWrite v s).2.inForm := by
  unfold tw1CtrlWrite clearBegin State.onTw1 State.setSt
  simp +contextual (maxDischargeDepth := 99) [h]

@[simp ↓] theorem inForm_tw1Write (h : s.inForm) (r : Req) (off : ℕ) (v : Word) : (tw1Write r off v s).2.inForm := by
  unfold tw1Write no plain
  dsimp only
  repeat' split
  all_goals simp +contextual (maxDischargeDepth := 99) [h]

/-! ### Blocks enabled, stopped and reset -/

@[simp ↓] theorem inForm_blockShow (h : s.inForm) (k : PageKind) (inst page : ℕ) : (blockShow k inst page s).inForm := by
  unfold blockShow clipShow tw1Enable clearBegin clkShow State.onTw1 micRefresh pdmShow State.setSt
  (repeat' split) <;> simp +contextual (maxDischargeDepth := 99) [h]

@[simp ↓] theorem inForm_blockOff (h : s.inForm) (k : PageKind) (inst : ℕ) : (blockOff k inst s).inForm := by
  unfold blockOff frgAbortAll coreDisable lsvStop lsvSeqOff seqStop madcIdle ampDisable ampStop loDisable loStop hsStop hsFault micOff
    sctHalt sctFresh linkStop tdmHalt srcInvalid asrcFree asrcUsed wagEnable tw1Abort tw1Free clearEnd State.onTw1 xfEnd State.onGrp
    State.onTdm micRefresh sideTones State.stopRamp State.startRamp State.onComb setHs setEar setLo State.onHs State.onAmp State.onLo
    State.onAn sealClose ringClear State.onSct State.onLink State.onNet State.setSt
  split <;> simp +contextual (maxDischargeDepth := 99) [h]

@[simp ↓] theorem inForm_blockOn (h : s.inForm) (k : PageKind) (inst : ℕ) : (blockOn k inst s).inForm := by
  unfold blockOn loBegin hsBegin hsFault State.stopRamp setHs setEar setLo State.onHs State.onLo State.onAn
  split <;> simp +contextual (maxDischargeDepth := 99) [h]

@[simp ↓] theorem inForm_strAll (h : s.inForm) {f : ℕ → ℕ → State → State} (hf : ∀ d j u, u.inForm → (f d j u).inForm) :
    (strAll f s).inForm := by
  unfold strAll
  simp +contextual (maxDischargeDepth := 99) [h, hf]

@[simp ↓] theorem inForm_blockClear (h : s.inForm) (k : PageKind) (inst : ℕ) : (blockClear k inst s).inForm := by
  unfold blockClear coreClear combClear wagClear swarmRelock rulesOff frgAbortAll lsvStop lsvSeqOff seqStop madcIdle sctHalt sctFresh
    linkStop tdmHalt srcInvalid asrcFree asrcUsed tw1Abort tw1Free clearEnd State.onTw1 xfEnd State.onGrp State.onBst strClose strFree
    State.onTx State.onRx strUsed State.onTdm State.stopRamp State.onComb State.onClip State.onAmp State.onAn State.onPdm sealClose
    ringClear State.onSct State.onLink State.onNet State.setSt
  split <;> simp +contextual (maxDischargeDepth := 99) [h]

@[simp ↓] theorem inForm_blockAfter (h : s.inForm) (k : PageKind) : (blockAfter k s).inForm := by
  unfold blockAfter modelsReady slotTake modelUsed clkSelect clkFree setFreq clkAcquire sideTones State.onClk State.onSlot State.onSct
  split <;> simp +contextual (maxDischargeDepth := 99) [h]

@[simp ↓] theorem inForm_softReset (h : s.inForm) (k : PageKind) (inst page : ℕ) : (softReset k inst page s).inForm := by
  unfold softReset softClear pageClear softShow softStop strDisable State.onTx State.onRx strUsed State.onNet State.setSt
  simp +contextual (maxDischargeDepth := 99) [h]

@[simp ↓] theorem inForm_pgCtrlWrite (h : s.inForm) (r : Req) (k : PageKind) (inst page : ℕ) (v : Word) :
    (pgCtrlWrite r k inst page v s).2.inForm := by
  unfold pgCtrlWrite State.lockPage blockEnable
  simp +contextual (maxDischargeDepth := 99) [h]

/-! ### The nurse -/

@[simp ↓] theorem inForm_logWrite (h : s.inForm) (b : List Byte) : (logWrite b s).inForm := by
  unfold logWrite
  split <;> simp +contextual (maxDischargeDepth := 99) [h]

@[simp ↓] theorem inForm_telemetryBody (h : s.inForm) (q : PlReq) : (telemetryBody q s).st.inForm := by
  unfold telemetryBody nak
  dsimp only
  (repeat' split) <;> simp +contextual (maxDischargeDepth := 99) [h]

/-! ### Resets -/

@[simp ↓] theorem inForm_strapped (h : s.inForm) (twa : ℕ) : (strapped s twa).inForm := by
  unfold strapped
  simp +contextual (maxDischargeDepth := 99) [h]

@[simp ↓] theorem inForm_resetBase (s : State) : (resetBase s).inForm := by
  unfold resetBase
  refine inForm_strapped ?_ _
  obtain ⟨-, hrest⟩ := inForm_reset
  exact ⟨regsWf_nil, hrest⟩

@[simp ↓] theorem inForm_deviceReset (h : s.inForm) (cause : ℕ) : (deviceReset s cause).inForm := by
  have hb : ({ resetBase s with mem := s.mem, bad := s.bad } : State).inForm := by
    obtain ⟨hregs, -, hcores⟩ := inForm_resetBase s
    obtain ⟨-, hmem, -⟩ := h
    exact ⟨hregs, hmem, hcores⟩
  unfold deviceReset
  simp +contextual (maxDischargeDepth := 99) [hb]

@[simp ↓] theorem inForm_rstCtrlWrite (h : s.inForm) (v : Word) : (rstCtrlWrite v s).2.inForm := by
  unfold rstCtrlWrite State.resetAsk
  simp +contextual (maxDischargeDepth := 99) [h]

/-! ### Power states -/

@[simp ↓] theorem inForm_wakeInRise (h : s.inForm) : (wakeInRise s).inForm := by
  unfold wakeInRise State.onEntry
  (repeat' split) <;> simp +contextual (maxDischargeDepth := 99) [h]

/-! ### Register writes -/

@[simp ↓] theorem inForm_blockWrite (h : s.inForm) (r : Req) (k : PageKind) (inst off : ℕ) (v : Word) :
    (blockWrite r k inst off v s).2.inForm := by
  unfold blockWrite frgWrite loWrite hsWrite hsDebWrite hsStWrite ainWrite pdmWrite pdmSetup ptpTimeWrite ethMacWrite asrcWrite cmbWrite
    dlyCfgWrite wagWrite State.dropHold nrsWrite bbxWrite kprWrite spiWrite pwrWrite pwrReqWrite no sysWrite micRefresh sideTones plain
    State.set64
  split <;> simp +contextual (maxDischargeDepth := 99) [h]

@[simp ↓] theorem inForm_regWrite (h : s.inForm) (r : Req) (a : ℕ) (v : Word) : (regWrite r a v s).2.inForm := by
  unfold regWrite localWrite strWrite xpWrite xpGainWrite xpMapWrite loWriteHeld plain
  cases regionOf a <;> simp +contextual (maxDischargeDepth := 99) [h]

@[simp ↓] theorem inForm_directWrite (h : s.inForm) (r : Req) (a : ℕ) (v : Word) : (directWrite r a v s).2.inForm := by
  unfold directWrite
  simp +contextual (maxDischargeDepth := 99) [h]

@[simp ↓] theorem inForm_applyWords (h : s.inForm) (r : Req) (ws : List Word) (a : ℕ) : (applyWords r ws a s).2.inForm := by
  induction ws generalizing s a with
  | nil => exact h
  | cons w ws ih => exact ih (inForm_directWrite h r a w) _

/-! ### Boot -/

@[simp ↓] theorem inForm_flashProbe (h : s.inForm) (p : FlashProbe) : (flashProbe p s).inForm := by
  unfold flashProbe newSectors flsFault State.setSt
  split <;> simp +contextual (maxDischargeDepth := 99) [h]

@[simp ↓] theorem inForm_fallRecords (h : s.inForm) (fall : List (ℕ × Byte)) (slot : Option ℕ) : (fallRecords fall slot s).inForm := by
  unfold fallRecords State.log
  simp +contextual (maxDischargeDepth := 99) [h]

@[simp ↓] theorem inForm_pagesReady (h : s.inForm) : (pagesReady s).inForm := by
  unfold pagesReady
  refine inForm_forEach (fun i u hu => ?_) h
  split <;> simp +contextual (maxDischargeDepth := 99) [hu]

@[simp ↓] theorem inForm_libTake (h : s.inForm) (b : List Byte) : (libTake s b).inForm := by
  unfold libTake
  split <;> simp +contextual (maxDischargeDepth := 99) [h]

@[simp ↓] theorem inForm_bootSlot (h : s.inForm) (k : ℕ) (b : BootKind) : (bootSlot k b s).inForm := by
  unfold bootSlot applyScript scriptWrite scriptBad applySections startCores applyCues applyCue applyKeys applyModels coreStart cueCommit
    slotTake modelUsed State.refuseAt setCue State.log State.onSlot State.onSct State.setSt
  simp +contextual (maxDischargeDepth := 99) [h]

@[simp ↓] theorem inForm_bootRecovery (h : s.inForm) : (bootRecovery s).inForm := by
  unfold bootRecovery State.log
  simp +contextual (maxDischargeDepth := 99) [h]

@[simp ↓] theorem inForm_offWakeEnd (h : s.inForm) : (offWakeEnd s).inForm := by
  unfold offWakeEnd wakeReport State.autoWake State.inc64 State.set64
  split <;> simp +contextual (maxDischargeDepth := 99) [h]

/-! ### The path to the speakers -/

@[simp ↓] theorem inForm_railTake (h : s.inForm) (p : ℕ) (vs : List (BitVec 12)) : (railTake s p vs).2.inForm := by
  unfold railTake State.onBst State.onAn
  dsimp only
  split <;> simp +contextual (maxDischargeDepth := 99) [h]

/-! ### The path to the TDM ports -/

@[simp ↓] theorem inForm_tdmSwarm (h : s.inForm) (n i : ℕ) (tx : Bool) (v : Word) : (tdmSwarm s n i tx v).2.inForm := by
  unfold tdmSwarm
  dsimp only
  split <;> simp +contextual (maxDischargeDepth := 99) [h]

@[simp ↓] theorem inForm_frameNext (h : s.inForm) (n : ℕ) : (frameNext s n).inForm := by
  unfold frameNext tdmSlip State.onTdm
  dsimp only
  split <;> simp +contextual (maxDischargeDepth := 99) [h]

@[simp ↓] theorem inForm_tdmSend (h : s.inForm) (n : ℕ) (l : List TdmFrame) (live : Bool) (outs : ℕ → ℤ) :
    (tdmSend s n l live outs).inForm := by
  unfold tdmSend frameOut slotOut State.onTdm
  simp +contextual (maxDischargeDepth := 99) [h]

/-! ### Zone level adaptation in a period -/

@[simp ↓] theorem inForm_freezeNote (h : s.inForm) (z reason : ℕ) (entering : Bool) : (freezeNote s z reason entering).inForm := by
  unfold freezeNote State.log
  simp +contextual (maxDischargeDepth := 99) [h]

@[simp ↓] theorem inForm_zoneReport (h : s.inForm) (z : ℕ) (t n : ℚ) : (zoneReport s z t n).inForm := by
  unfold zoneReport State.log
  simp +contextual (maxDischargeDepth := 99) [h]

@[simp ↓] theorem inForm_residualLevel {o : State × List ℚ} (h : o.1.inForm) (n : ℕ) (e : ℕ × ℕ) : (residualLevel n e o).1.inForm := by
  unfold residualLevel
  simp +contextual (maxDischargeDepth := 99) [h]

@[simp ↓] theorem inForm_showErle (h : s.inForm) (z : ℕ) (erle : Option Fix) : (showErle s z erle).inForm := by
  unfold showErle
  split <;> simp +contextual (maxDischargeDepth := 99) [h]

@[simp ↓] theorem inForm_zoneJudge (h : s.inForm) (z : ℕ) (w : ZlaWindow) : (zoneJudge s z w).inForm := by
  unfold zoneJudge
  dsimp only
  repeat' split
  all_goals simp +contextual (maxDischargeDepth := 99) [h]

@[simp ↓] theorem inForm_zoneSettle (h : s.inForm) (z : ℕ) : (zoneSettle s z).inForm := by
  unfold zoneSettle
  split <;> simp +contextual (maxDischargeDepth := 99) [h]

/-! ### Fabric periods -/

@[simp ↓] theorem inForm_openTick (h : s.inForm) : (openTick s).inForm := by
  unfold openTick pagesOpen State.setSt
  split <;> simp +contextual (maxDischargeDepth := 99) [h]

@[simp ↓] theorem inForm_uptimeTick (h : s.inForm) : (uptimeTick s).2.inForm := by
  unfold uptimeTick State.inc64 State.set64
  simp +contextual (maxDischargeDepth := 99) [h]

@[simp ↓] theorem inForm_timeTick_to_powerOut (h : s.inForm) :
    (timeTick s).inForm ∧ (∀ k x, (present k x s).inForm) ∧ (∀ x, (powerOut x s).inForm) := by
  unfold timeTick present powerOut clipPresent voicePeriod fadeTick tdmPresent grpTick State.onGrp rxPresent dspBoundary coreBoundary
    loadTake ampDrive ampClipped boostTick State.onBst ampSample State.onDsp State.onComb retryTick setRetries State.rampTick State.onHs
    State.onAmp State.onLo State.onAn ptpTick ptpAdvance onPtp pdmTick State.onPdm sealTick sealExpire sealClose ringClear scoutSettle
    State.onSct logDrain State.onKpr linkTick State.onLink State.onNet State.setSt State.set64
  simp +contextual (maxDischargeDepth := 99) [h]

@[simp ↓] theorem inForm_findings (h : s.inForm) (x : PeriodIn) : (findings x s).inForm := by
  unfold findings micFraction biasCurrent micStep State.onHs State.onAn
  split <;> simp +contextual (maxDischargeDepth := 99) [h]

@[simp ↓] theorem inForm_sinksOut (h : s.inForm) (k : ℕ) (x : PeriodIn) : (sinksOut k x s).inForm := by
  unfold sinksOut analogOut earSample stSaturate zlaPeriod zonePeriod dspRecord loSample txSampleAll State.onDsp State.onHs State.onLo
    State.onAn
  simp +contextual (maxDischargeDepth := 99) [h]

@[simp ↓] theorem inForm_runPeriod_to_listenZeros (h : s.inForm) :
    (∀ x, (runPeriod x s).inForm) ∧ (∀ x, (idlePeriod x s).inForm) ∧ (∀ x, (sleepPeriod x s).inForm) ∧ (listenZeros s).inForm := by
  unfold runPeriod idlePeriod sleepPeriod listenZeros tdmArrive frameTake frameWords changes clipApply combArrive trimArrive combTake
    mixOut lineErrors combMix trimCur pauseDue outsEnd loSample ampIdlePattern txSampleAll tdmHold frameGuard State.onTdm cueStep
    deferredActs onSink State.onComb State.onClip listenTake pdmBlockEnd periodCount State.onClk State.onAmp State.onLo State.onAn
    State.onPdm State.inc64 State.set64
  simp +contextual (maxDischargeDepth := 99) [h]

@[simp ↓] theorem inForm_heldPeriod (h : s.inForm) (x : PeriodIn) : (heldPeriod x s).inForm := by
  unfold heldPeriod tdmHold frameGuard tdmsFloat State.onTdm
  simp +contextual (maxDischargeDepth := 99) [h]

/-! ### Plosto over UDP -/

@[simp ↓] theorem inForm_udpResend (h : s.inForm) (d : UdpIn) : (udpResend s d).inForm := by
  unfold udpResend udpOut sendUdp
  split <;> simp +contextual (maxDischargeDepth := 99) [h]

@[simp ↓] theorem inForm_udpFail (h : s.inForm) (d : UdpIn) (key : ℕ) (c : Code) : (udpFail s d key c).inForm := by
  unfold udpFail State.putUdpRsp storeRsp udpOut sendUdp
  simp +contextual (maxDischargeDepth := 99) [h]

@[simp ↓] theorem inForm_udpQueue (h : s.inForm) (d : UdpIn) : (udpQueue s d).inForm := by
  unfold udpQueue State.arrive State.putUdpRsp storeRsp udpOut sendUdp State.onOrder
  split <;> simp +contextual (maxDischargeDepth := 99) [h]

/-! ### Frames received -/

@[simp ↓] theorem inForm_rxTaken (h : s.inForm) (n at_ : ℕ) (k : NetIn) : (rxTaken n at_ k s).inForm := by
  unfold rxTaken udpIn udpTake ptpIn ptpAnnounceIn igmpIn echoIn csumIn dropIn reportGroups sendFrames sendFrame onPtp State.onLink
    State.onNet
  split <;> simp +contextual (maxDischargeDepth := 99) [h]

@[simp ↓] theorem inForm_rxGo (h : s.inForm) (n at_ : ℕ) (f : HeldFrame) : (rxGo n at_ f s).inForm := by
  unfold rxGo rxArrive rxFrame fcsIn State.inc64 State.set64
  split <;> simp +contextual (maxDischargeDepth := 99) [h]

/-! ### Register reads -/

@[simp ↓] theorem inForm_readWord (h : s.inForm) (r : Req) (a : ℕ) : (readWord s r a).2.inForm := by
  unfold readWord
  simp +contextual (maxDischargeDepth := 99) [h]

@[simp ↓] theorem inForm_readShadowed (h : s.inForm) (r : Req) (a : ℕ) : (readShadowed s r a).2.inForm := by
  unfold readShadowed
  split
  · exact h
  · split
    · split
      · split <;> exact h
      · exact h
    · exact inForm_readWord h r a

@[simp ↓] theorem inForm_serveRead (h : s.inForm) (r : Req) (cmd a : ℕ) : (serveRead r cmd a s).2.2.inForm := by
  unfold serveRead State.refuseAt
  dsimp only
  split
  · simp +contextual (maxDischargeDepth := 99) [h]
  · split <;> simp +contextual (maxDischargeDepth := 99) [h]

@[simp ↓] theorem inForm_directRead (h : s.inForm) (r : Req) (a : ℕ) : (directRead r a s).2.2.inForm := by
  unfold directRead
  split <;> simp +contextual (maxDischargeDepth := 99) [h]

@[simp ↓] theorem inForm_fetchWords (h : s.inForm) (r : Req) (n a : ℕ) : (fetchWords r n a s).2.2.inForm := by
  induction n generalizing s a with
  | zero => exact h
  | succ n ih => exact ih (inForm_directRead h r a) _

/-! ### SPI -/

@[simp ↓] theorem inForm_spiEnd {f : FrameEnd} (h : f.st.inForm) (status : Byte) (op : ℕ) : (spiEnd status op f).inForm := by
  unfold spiEnd spiState State.srstDue State.setSt
  simp +contextual (maxDischargeDepth := 99) [h]

@[simp ↓] theorem inForm_spiFrame (h : s.inForm) {body : State → FrameEnd} (hb : ∀ u, u.inForm → (body u).st.inForm) (dsel : Byte)
    (op : ℕ) :
    (spiFrame dsel op body s).inForm := by
  unfold spiFrame spiState spiSilent State.setSt
  simp +contextual (maxDischargeDepth := 99) [h, hb]

@[simp ↓] theorem inForm_takeReq (h : s.inForm) {hold : ℕ × BitVec 16 × List Byte → State → State} (hh : ∀ x u, u.inForm →
    (hold x u).inForm)
    (v : Via) (f : List Byte) : (takeReq v f hold s).inForm := by
  unfold takeReq State.arrive State.onOrder
  split <;> simp +contextual (maxDischargeDepth := 99) [h, hh]

/-! ### TW0 -/

@[simp ↓] theorem inForm_twPut (h : s.inForm) (bs : List Byte) : (State.twPut s bs).inForm := by
  unfold State.twPut
  simp +contextual (maxDischargeDepth := 99) [h]

@[simp ↓] theorem inForm_twState (h : s.inForm) (v : ℕ) : (twState v s).inForm := by
  unfold twState State.setSt
  simp +contextual (maxDischargeDepth := 99) [h]

@[simp ↓] theorem inForm_setPtr (h : s.inForm) (a : ℕ) : (setPtr s a).inForm := by
  unfold setPtr
  simp +contextual (maxDischargeDepth := 99) [h]

@[simp ↓] theorem inForm_twOpen_to_twNack (h : s.inForm) :
    (∀ op args, (twOpen s op args).inForm) ∧ (∀ c, (twLast s c).inForm) ∧ (twNack s).inForm := by
  unfold twOpen twLast twNack
  simp +contextual (maxDischargeDepth := 99) [h]

@[simp ↓] theorem inForm_twApplyWords (h : s.inForm) (ws : List Word) : (twApplyWords ws s).2.inForm := by
  induction ws generalizing s with
  | nil => exact h
  | cons w ws ih => exact ih (inForm_setPtr (inForm_directWrite h _ _ _) _)

@[simp ↓] theorem inForm_twApplyOne (h : s.inForm) (c : TwCmd) : (twApplyOne c s).2.inForm := by
  unfold twApplyOne twRequest
  split <;> simp +contextual (maxDischargeDepth := 99) [h]

@[simp ↓] theorem inForm_twApply (h : s.inForm) (cs : List TwCmd) : (twApply cs s).2.inForm := by
  induction cs generalizing s with
  | nil => exact h
  | cons c cs ih => exact ih (inForm_twApplyOne h c)

@[simp ↓] theorem inForm_twCommit (h : s.inForm) : (twCommit s).2.inForm := by
  unfold twCommit
  simp +contextual (maxDischargeDepth := 99) [h]

@[simp ↓] theorem inForm_twProto_to_twRefuse (h : s.inForm) :
    (twProto s).inForm ∧ (twCut s).inForm ∧ (∀ c, (twRefuse s c).inForm) := by
  unfold twProto twCut twRefuse dropPartial twEnd twOver
  simp +contextual (maxDischargeDepth := 99) [h]

@[simp ↓] theorem inForm_twStop (h : s.inForm) (pec : Option Byte) : (twStop s pec).inForm := by
  unfold twStop twEnd twOver
  dsimp only
  (repeat' split) <;> simp +contextual (maxDischargeDepth := 99) [h]

@[simp ↓] theorem inForm_twRestart (h : s.inForm) : (twRestart s).inForm := by
  unfold twRestart
  simp +contextual (maxDischargeDepth := 99) [h]

@[simp ↓] theorem inForm_twWrite (h : s.inForm) (op : ℕ) (args : List Byte) (cmd : Option TwCmd) (e : TwEnd) :
    (twWrite op args cmd e s).inForm := by
  unfold twWrite
  split <;> simp +contextual (maxDischargeDepth := 99) [h]

@[simp ↓] theorem inForm_twRow (h : s.inForm) {go : State → State} (hgo : (go s).inForm) (e : TwEnd) : (twRow e go s).inForm := by
  unfold twRow
  split
  · exact h
  · split <;> simp +contextual (maxDischargeDepth := 99) [h, hgo]

@[simp ↓] theorem inForm_twFetch (h : s.inForm) (n a : ℕ) : (twFetch n a s).2.2.inForm := by
  induction n generalizing s a with
  | zero => exact h
  | succ n ih => exact ih (inForm_directRead h .tw0 a) _

@[simp ↓] theorem inForm_twRead (h : s.inForm) (op : ℕ) (args : List Byte) (n acked : ℕ) : (twRead op args n acked s).inForm := by
  unfold twRead twSend twTurn twEnd twOver
  simp +contextual (maxDischargeDepth := 99) [h]

/-! ### Plosto commands -/

@[simp ↓] theorem inForm_badArg (h : s.inForm) (a : ℕ) : (badArg s a).st.inForm := by
  unfold badArg
  simp +contextual (maxDischargeDepth := 99) [h]

@[simp ↓] theorem inForm_plReadWord (h : s.inForm) (r : Req) (a : ℕ) : (plReadWord r a s).2.2.inForm := by
  unfold plReadWord
  dsimp only
  split
  · simp +contextual (maxDischargeDepth := 99) [h]
  · split <;> simp +contextual (maxDischargeDepth := 99) [h]

@[simp ↓] theorem inForm_plReadWords (h : s.inForm) (r : Req) (n a : ℕ) : (plReadWords r n a s).2.inForm := by
  induction n generalizing s a with
  | zero => exact h
  | succ n ih => exact ih (inForm_plReadWord h r a) _

@[simp ↓] theorem inForm_plWriteWord (h : s.inForm) (r : Req) (a : ℕ) (v : Word) : (plWriteWord r a v s).2.inForm := by
  unfold plWriteWord
  dsimp only
  split <;> simp +contextual (maxDischargeDepth := 99) [h]

/-- The words written keep the form. -/
theorem inForm_plWriteWords (r : Req) : ∀ (ws : List Word) {i a : ℕ} {s : State}, s.inForm → plWriteWords r ws i a s = .inl t → t.inForm
  | [], _, _, _, h, ht => Sum.inl.inj ht ▸ h
  | w :: ws, i, a, s, h, ht => by
    rw [plWriteWords] at ht
    split at ht
    · exact inForm_plWriteWords r ws (inForm_plWriteWord h r a w) ht
    · cases ht

@[simp ↓] theorem inForm_wakeWords (h : s.inForm) (n a : ℕ) : (wakeWords n a s).inForm := by
  unfold wakeWords
  simp +contextual (maxDischargeDepth := 99) [h]

@[simp ↓] theorem inForm_dropHolds (h : s.inForm) (r : Req) : (dropHolds r s).inForm := by
  unfold dropHolds
  simp +contextual (maxDischargeDepth := 99) [h]

@[simp ↓] theorem inForm_nonceTake (h : s.inForm) : (nonceTake s).inForm := by
  unfold nonceTake
  split <;> simp +contextual (maxDischargeDepth := 99) [h]

@[simp ↓] theorem inForm_plRefused (h : s.inForm) (r : Req) (a : ℕ) (v : Word) (c : Code) (payload : List Byte) :
    (plRefused r a v c payload s).st.inForm := by
  unfold plRefused
  simp +contextual (maxDischargeDepth := 99) [h]

@[simp ↓] theorem inForm_stamp (h : s.inForm) (cmd : ℕ) (r : Req) : (stamp cmd r s).inForm := by
  unfold stamp frgStamp xfStamp State.onTw1 State.onDsp
  simp +contextual (maxDischargeDepth := 99) [h]

end Sys2Proof.Machine
end

section
/-! PROOFS. Every step keeps the form: what the commands keep. -/

namespace Sys2Proof.Machine
variable {s t : State}

/-- An outcome keeps the form: the next state, where there is one, has it. -/
def KeepsForm (o : Host.Outcome State Fault Refusal) : Prop := ∀ t, o = .next t → t.inForm

@[simp ↓] theorem keepsForm_next (h : s.inForm) : KeepsForm (.next s) := fun _ ht => Host.Outcome.next.inj ht ▸ h

@[simp ↓] theorem keepsForm_ite {c : Prop} [Decidable c] {o o' : Host.Outcome State Fault Refusal} (h : KeepsForm o) (h' : KeepsForm o') :
    KeepsForm (if c then o else o') := by
  split <;> assumption

/-! ### Analogue inputs, line outputs, headsets -/

@[simp ↓] theorem keepsForm_execHsButton (h : s.inForm) n f : KeepsForm (execHsButton n f s) := by
  unfold execHsButton sideTones
  dsimp only
  (repeat' split) <;> simp +contextual (maxDischargeDepth := 99) [h]

@[simp ↓] theorem keepsForm_analogIo (h : s.inForm) :
    (∀ r n v, KeepsForm (execAinEnable r n v s)) ∧ (∀ r n v, KeepsForm (execAinDisable r n v s)) ∧
    (∀ n, KeepsForm (execAinSettled n s)) ∧ (∀ n, KeepsForm (execAinGainStep n s)) ∧ (∀ n, KeepsForm (execAinClip n s)) ∧
    (∀ n, KeepsForm (execAinClipEnd n s)) ∧ (∀ n ibias, KeepsForm (execAinOpen n ibias s)) ∧
    (∀ n ibias, KeepsForm (execAinShort n ibias s)) ∧ (∀ n, KeepsForm (execAinShortRetry n s)) ∧
    (∀ n ibias, KeepsForm (execAinRecover n ibias s)) ∧ (∀ n, KeepsForm (execAinOff n s)) ∧ (∀ r n v, KeepsForm (execLoStart r n v s)) ∧
    (∀ r n v, KeepsForm (execLoStop r n v s)) ∧ (∀ r n v, KeepsForm (execLoMute r n v s)) ∧ (∀ r n v, KeepsForm (execLoUnmute r n v s)) ∧
    (∀ n, KeepsForm (execLoStartDone n s)) ∧ (∀ n, KeepsForm (execLoStopDone n s)) ∧ (∀ n, KeepsForm (execLoMuteDone n s)) ∧
    (∀ n, KeepsForm (execLoShort n s)) ∧ (∀ r n, KeepsForm (execLoClr r n s)) ∧ (∀ r n v, KeepsForm (execHsEnable r n v s)) ∧
    (∀ r n v, KeepsForm (execHsDisable r n v s)) ∧ (∀ r n v mute, KeepsForm (execHsOutmute r n v mute s)) ∧
    (∀ n level, KeepsForm (execJackDetChange n level s)) ∧ (∀ n, KeepsForm (execHsDebounceEnd n s)) ∧
    (∀ n zl zr f, KeepsForm (execHsClassifyEnd n zl zr f s)) ∧ (∀ n, KeepsForm (execHsRemove n s)) ∧
    (∀ n, KeepsForm (execHsOutShort n s)) ∧ (∀ n f, KeepsForm (execHsButtonEdge n f s)) := by
  unfold execAinEnable execAinDisable execAinSettled execAinGainStep execAinClip execAinClipEnd execAinOpen execAinShort execAinShortRetry
    execAinRecover execAinOff execLoStart execLoStop execLoMute execLoUnmute execLoStartDone execLoStopDone execLoMuteDone execLoShort
    execLoClr execHsEnable execHsDisable execHsOutmute execJackDetChange execHsDebounceEnd execHsClassifyEnd execHsRemove execHsOutShort
    execHsButtonEdge hsEnterFault loDark ainEnter loFault earsMute loBegin ainBegin hsFault micOff setAin sideTones State.stopRamp
    State.startRamp biasTo setHs setEar setLo State.onHs State.onLo State.onAn State.log
  simp +contextual (maxDischargeDepth := 99) [h]

/-! ### The black box -/

@[simp ↓] theorem keepsForm_execBbxRecordWrite (h : s.inForm) w : KeepsForm (execBbxRecordWrite w s) := by
  unfold execBbxRecordWrite tornRec State.onMram
  dsimp only
  (repeat' split) <;> simp +contextual (maxDischargeDepth := 99) [h]

@[simp ↓] theorem keepsForm_bbx (h : s.inForm) :
    (∀ q, KeepsForm (execBbxRead q s)) ∧ (∀ q, KeepsForm (execBbxPin q s)) ∧ (∀ q, KeepsForm (execBbxUnpin q s)) ∧
    (∀ q, KeepsForm (execBbxUnpinAll q s)) := by
  unfold execBbxRead execBbxPin execBbxUnpin execBbxUnpinAll bbxReadBody State.countN nak
  simp +contextual (maxDischargeDepth := 99) [h]

/-! ### The Forager -/

@[simp ↓] theorem keepsForm_execMemDone (h : s.inForm) c : KeepsForm (execMemDone c s) := by
  unfold execMemDone
  dsimp only
  split
  · refine keepsForm_next ?_
    split <;> simp +contextual (maxDischargeDepth := 99) [h]
  · exact keepsForm_next h

@[simp ↓] theorem keepsForm_forager (h : s.inForm) :
    (∀ r c v, KeepsForm (execFrgGo r c v s)) ∧ (∀ r, KeepsForm (execFrgAlloc r s)) ∧ (∀ r c v, KeepsForm (execFrgFree r c v s)) ∧
    KeepsForm (execFabInTransfer s) ∧ (∀ c, KeepsForm (execFabInDone c s)) ∧ KeepsForm (execFabOutCheck s) := by
  unfold execFrgGo execFrgAlloc execFrgFree execFabInTransfer execFabInDone execFabOutCheck coreLate fabOutOne dspUnderrun State.onDsp
  simp +contextual (maxDischargeDepth := 99) [h]

/-! ### The cores -/

@[simp ↓] theorem keepsForm_coreCommands (h : s.inForm) :
    (∀ r c v, KeepsForm (execCoreStart r c v s)) ∧ (∀ r c v, KeepsForm (execCoreStop r c v s)) ∧
    (∀ r c v, KeepsForm (execCorePause r c v s)) ∧ (∀ r c v, KeepsForm (execCoreResume r c v s)) ∧
    (∀ r c v, KeepsForm (execCoreStep r c v s)) ∧ (∀ r c v, KeepsForm (execCoreClrFlt r c v s)) ∧
    (∀ c, KeepsForm (execCoreWatchdog c s)) ∧ (∀ r c bits, KeepsForm (execEvtSetHost r c bits s)) := by
  unfold execCoreStart execCoreStop execCorePause execCoreResume execCoreStep execCoreClrFlt execCoreWatchdog execEvtSetHost coreCtlRow
    coreFault State.log State.setSt
  simp +contextual (maxDischargeDepth := 99) [h]

@[simp ↓] theorem keepsForm_coreInstructions (h : s.inForm) :
    (∀ c, KeepsForm (execCoreNop c s)) ∧ (∀ c d x y, KeepsForm (execCoreAdd c d x y s)) ∧
    (∀ c d x y, KeepsForm (execCoreSub c d x y s)) ∧ (∀ c d x y, KeepsForm (execCoreAdds c d x y s)) ∧
    (∀ c d x y, KeepsForm (execCoreSubs c d x y s)) ∧ (∀ c d x y, KeepsForm (execCoreAnd c d x y s)) ∧
    (∀ c d x y, KeepsForm (execCoreOr c d x y s)) ∧ (∀ c d x y, KeepsForm (execCoreXor c d x y s)) ∧
    (∀ c d x k, KeepsForm (execCoreShl c d x k s)) ∧ (∀ c d x k, KeepsForm (execCoreShr c d x k s)) ∧
    (∀ c d x k, KeepsForm (execCoreSar c d x k s)) ∧ (∀ c d x k, KeepsForm (execCoreShls c d x k s)) ∧
    (∀ c d x y, KeepsForm (execCoreMin c d x y s)) ∧ (∀ c d x y, KeepsForm (execCoreMax c d x y s)) ∧
    (∀ c d x, KeepsForm (execCoreAbs c d x s)) ∧ (∀ c d x y, KeepsForm (execCoreMul c d x y s)) ∧
    (∀ c d x imm, KeepsForm (execCoreAddi c d x imm s)) ∧ (∀ c d x imm, KeepsForm (execCoreAndi c d x imm s)) ∧
    (∀ c d x imm, KeepsForm (execCoreOri c d x imm s)) ∧ (∀ c d x imm, KeepsForm (execCoreXori c d x imm s)) ∧
    (∀ c d imm, KeepsForm (execCoreLui c d imm s)) ∧ (∀ c d x, KeepsForm (execCoreExp c d x s)) ∧
    (∀ c d a, KeepsForm (execCoreExpa c d a s)) ∧ (∀ c d y x, KeepsForm (execCoreNorm c d y x s)) ∧
    (∀ c a d, KeepsForm (execCoreNorma c a d s)) ∧ (∀ c a x, KeepsForm (execCoreDivs c a x s)) ∧
    (∀ c d a part rnd, KeepsForm (execCoreMva c d a part rnd s)) ∧ (∀ c a x part, KeepsForm (execCoreMvd c a x part s)) ∧
    (∀ c a, KeepsForm (execCoreAccClr c a s)) ∧ (∀ c a e, KeepsForm (execCoreAccMov c a e s)) ∧
    (∀ c a e, KeepsForm (execCoreAccAdd c a e s)) ∧ (∀ c a e, KeepsForm (execCoreAccSub c a e s)) ∧
    (∀ c a e, KeepsForm (execCoreAccNeg c a e s)) ∧ (∀ c a e imm, KeepsForm (execCoreAccShift c a e imm s)) ∧
    (∀ c d u m, KeepsForm (execCoreLd c d u m s)) ∧ (∀ c x u m, KeepsForm (execCoreSt c x u m s)) ∧
    (∀ c d u m, KeepsForm (execCoreLdg c d u m s)) ∧ (∀ c x u m, KeepsForm (execCoreStg c x u m s)) ∧
    (∀ c d u tsel imm, KeepsForm (execCoreLdx c d u tsel imm s)) ∧ (∀ c x u tsel imm, KeepsForm (execCoreStx c x u tsel imm s)) ∧
    (∀ c u m, KeepsForm (execCorePadv c u m s)) ∧ (∀ c d reg, KeepsForm (execCoreMvc c d reg s)) ∧
    (∀ c x reg, KeepsForm (execCoreMvcs c x reg s)) ∧ (∀ c x y cond off, KeepsForm (execCoreB c x y cond off s)) ∧
    (∀ c target, KeepsForm (execCoreJmp c target s)) ∧ (∀ c target, KeepsForm (execCoreCall c target s)) ∧
    (∀ c, KeepsForm (execCoreRet c s)) ∧ (∀ c n len, KeepsForm (execCoreLoop c n len s)) ∧ (∀ c x, KeepsForm (execCoreWait c x s)) ∧
    (∀ c k bits, KeepsForm (execCoreSigCore c k bits s)) ∧ (∀ c bits, KeepsForm (execCoreSigForager c bits s)) ∧
    (∀ c bits, KeepsForm (execCoreSigKeeper c bits s)) ∧ (∀ c, KeepsForm (execCoreDone c s)) ∧ (∀ c, KeepsForm (execCoreHalt c s)) ∧
    (∀ c m, KeepsForm (execCoreMac c m s)) ∧ (∀ c m, KeepsForm (execCoreMsu c m s)) ∧ (∀ c m, KeepsForm (execCoreMpy c m s)) ∧
    (∀ c m, KeepsForm (execCoreMacx c m s)) := by
  unfold execCoreNop execCoreAdd execCoreSub execCoreAdds execCoreSubs execCoreAnd execCoreOr execCoreXor execCoreShl execCoreShr
    execCoreSar execCoreShls execCoreMin execCoreMax execCoreAbs execCoreMul execCoreAddi execCoreAndi execCoreOri execCoreXori
    execCoreLui execCoreExp execCoreExpa execCoreNorm execCoreNorma execCoreDivs execCoreMva execCoreMvd execCoreAccClr execCoreAccMov
    execCoreAccAdd execCoreAccSub execCoreAccNeg execCoreAccShift execCoreLd execCoreSt execCoreLdg execCoreStg execCoreLdx execCoreStx
    execCorePadv execCoreMvc execCoreMvcs execCoreB execCoreJmp execCoreCall execCoreRet execCoreLoop execCoreWait execCoreSigCore
    execCoreSigForager execCoreSigKeeper execCoreDone execCoreHalt execCoreMac execCoreMsu execCoreMpy execCoreMacx coreIssue
  simp +contextual (maxDischargeDepth := 99) [h]

/-! ### Clip players and tone generators -/

@[simp ↓] theorem keepsForm_execClipHeadArrive (h : s.inForm) v sound : KeepsForm (execClipHeadArrive v sound s) := by
  unfold execClipHeadArrive
  split <;> simp +contextual (maxDischargeDepth := 99) [h]

@[simp ↓] theorem keepsForm_clips (h : s.inForm) :
    (∀ q, KeepsForm (execClipStart q s)) ∧ (∀ q, KeepsForm (execClipPrime q s)) ∧ (∀ q, KeepsForm (execClipStop q s)) ∧
    (∀ q, KeepsForm (execToneStart q s)) ∧ (∀ q, KeepsForm (execClipQuery q s)) ∧
    (∀ v sound, KeepsForm (execVoiceRefillDone v sound s)) ∧ (∀ v, KeepsForm (execClipEnd v s)) ∧
    (∀ v, KeepsForm (execVoiceFadeEnd v s)) ∧ (∀ g, KeepsForm (execToneSegmentEnd g s)) := by
  unfold execClipStart execClipPrime execClipStop execToneStart execClipQuery execVoiceRefillDone execClipEnd execVoiceFadeEnd
    execToneSegmentEnd toneStartBody clipStopBody nak State.onClip
  simp +contextual (maxDischargeDepth := 99) [h]

/-! ### The Comb -/

@[simp ↓] theorem keepsForm_comb (h : s.inForm) :
    (∀ r k v, KeepsForm (execXpMapWrite r k v s)) ∧ (∀ r k v, KeepsForm (execXpGainWrite r k v s)) ∧
    (∀ r k v, KeepsForm (execXpDelWrite r k v s)) ∧ (∀ k, KeepsForm (execCrosspointRampEnd k s)) ∧
    (∀ k, KeepsForm (execCrossfadeEnd k s)) ∧ (∀ k, KeepsForm (execReleaseEnd k s)) ∧ (∀ r k v, KeepsForm (execTrimWrite r k v s)) ∧
    (∀ k, KeepsForm (execTrimRampEnd k s)) ∧ (∀ r k v, KeepsForm (execDelayChange r k v s)) ∧ (∀ k, KeepsForm (execDelayXfadeEnd k s)) ∧
    (∀ r clr, KeepsForm (execBqLoad r clr s)) ∧ (∀ r, KeepsForm (execBqRead r s)) ∧ (∀ q, KeepsForm (execXpSet q s)) ∧
    (∀ q, KeepsForm (execXpSetSwap q s)) ∧ (∀ q, KeepsForm (execXpRemove q s)) ∧ (∀ q, KeepsForm (execXpQuery q s)) := by
  unfold execXpMapWrite execXpGainWrite execXpDelWrite execCrosspointRampEnd execCrossfadeEnd execReleaseEnd execTrimWrite execTrimRampEnd
    execDelayChange execDelayXfadeEnd execBqLoad execBqRead execXpSet execXpSetSwap execXpRemove execXpQuery xpSetBody xpGainWrite
    xpMapWrite trimArrive trimCur trimSet onSink clampNote State.accept State.onComb
  simp +contextual (maxDischargeDepth := 99) [h]

/-! ### Measurement converters -/

@[simp ↓] theorem keepsForm_execMadcPassStart (h : s.inForm) n cyc sofar x0 x1 : KeepsForm (execMadcPassStart n cyc sofar x0 x1 s) := by
  unfold execMadcPassStart
  dsimp only
  split
  · simp +contextual (maxDischargeDepth := 99) [h]
  · simp +contextual (maxDischargeDepth := 99) [h]
  · exact keepsForm_next h

@[simp ↓] theorem keepsForm_execMadcPassDone (h : s.inForm) n codes : KeepsForm (execMadcPassDone n codes s) := by
  unfold execMadcPassDone passOver
  split <;> simp +contextual (maxDischargeDepth := 99) [h]

@[simp ↓] theorem keepsForm_madc (h : s.inForm) :
    (∀ n q, KeepsForm (execMadcTimerTrigger n q s)) ∧ (∀ n q, KeepsForm (execMadcPwmTrigger n q s)) ∧
    (∀ q, KeepsForm (execAdcTrigger q s)) ∧ (∀ n g z hi lo, KeepsForm (execConverterCalibration n g z hi lo s)) ∧
    (∀ n, KeepsForm (execMadcRefOk n s)) ∧ (∀ r n mask v, KeepsForm (execMadcSwtrig r n mask v s)) ∧
    (∀ r n v, KeepsForm (execMadcFlush r n v s)) ∧ (∀ r v, KeepsForm (execMadcClrPlaus r v s)) := by
  unfold execMadcTimerTrigger execMadcPwmTrigger execAdcTrigger execConverterCalibration execMadcRefOk execMadcSwtrig execMadcFlush
    execMadcClrPlaus adcTriggerBody trigMask nak
  simp +contextual (maxDischargeDepth := 99) [h]

/-! ### Waggle -/

@[simp ↓] theorem keepsForm_execOdoEdge (h : s.inForm) e : KeepsForm (execOdoEdge e s) := by
  unfold execOdoEdge
  dsimp only
  (repeat' split) <;> simp +contextual (maxDischargeDepth := 99) [h]

@[simp ↓] theorem keepsForm_execFixTimeout (h : s.inForm) : KeepsForm (execFixTimeout s) := by
  unfold execFixTimeout
  split <;> simp +contextual (maxDischargeDepth := 99) [h]

@[simp ↓] theorem keepsForm_execDeadReckonExpiry (h : s.inForm) : KeepsForm (execDeadReckonExpiry s) := by
  unfold execDeadReckonExpiry wagLost
  dsimp only
  split <;> simp +contextual (maxDischargeDepth := 99) [h]

@[simp ↓] theorem keepsForm_waggle (h : s.inForm) :
    KeepsForm (execOdoWindow s) ∧ (∀ q, KeepsForm (execPosFix q s)) ∧ (∀ r v, KeepsForm (execWagStart r v s)) ∧
    (∀ r v, KeepsForm (execWagStop r v s)) ∧ (∀ r v, KeepsForm (execWagValueWrite r v s)) := by
  unfold execOdoWindow execPosFix execWagStart execWagStop execWagValueWrite wagValueWrite State.dropHold windowClose
  simp +contextual (maxDischargeDepth := 99) [h]

/-! ### Cues -/

@[simp ↓] theorem keepsForm_cues (h : s.inForm) :
    (∀ r k w v, KeepsForm (execCueWordWrite r k w v s)) ∧ (∀ r k v, KeepsForm (execCueCommit r k v s)) ∧
    (∀ r k v, KeepsForm (execCueFree r k v s)) ∧ (∀ r k v, KeepsForm (execCueArm r k v s)) ∧
    (∀ r k v, KeepsForm (execCueDisarm r k v s)) ∧ (∀ q, KeepsForm (execCueSet q s)) ∧ (∀ q, KeepsForm (execCueClearFree q s)) ∧
    (∀ q, KeepsForm (execCueClearDisarm q s)) ∧ (∀ q, KeepsForm (execWaggleQuery q s)) ∧ KeepsForm (execDeferredActions s) := by
  unfold execCueWordWrite execCueCommit execCueFree execCueArm execCueDisarm execCueSet execCueClearFree execCueClearDisarm
    execWaggleQuery execDeferredActions cueCtrlRow waggleQueryBody deferredActs nak
  simp +contextual (maxDischargeDepth := 99) [h]

/-! ### Images and updates -/

@[simp ↓] theorem keepsForm_execImgVerifyDone (h : s.inForm) sound : KeepsForm (execImgVerifyDone sound s) := by
  unfold execImgVerifyDone verifyPut setLib onSlotImage sessionShow State.log State.onKpr
  split <;> simp +contextual (maxDischargeDepth := 99) [h]

@[simp ↓] theorem keepsForm_execOtpProgDone (h : s.inForm) sound : KeepsForm (execOtpProgDone sound s) := by
  unfold execOtpProgDone otpFailed otpRevoke State.log State.onKpr
  split <;> simp +contextual (maxDischargeDepth := 99) [h]

@[simp ↓] theorem keepsForm_images (h : s.inForm) :
    (∀ q, KeepsForm (execImgBegin q s)) ∧ (∀ erasing q, KeepsForm (execImgData erasing q s)) ∧ (∀ q, KeepsForm (execImgCommit q s)) ∧
    (∀ q, KeepsForm (execImgVerify q s)) ∧ KeepsForm (execImgSessionTimeout s) ∧ (∀ bad q, KeepsForm (execImgConfirm bad q s)) ∧
    (∀ r v, KeepsForm (execOtpProg r v s)) ∧ (∀ r v, KeepsForm (execOtpRevoke r v s)) := by
  unfold execImgBegin execImgData execImgCommit execImgVerify execImgSessionTimeout execImgConfirm execOtpProg execOtpRevoke imgBeginBody
    setLib onSlotImage sessionShow nak State.onKpr
  simp +contextual (maxDischargeDepth := 99) [h]

/-! ### Microphones -/

@[simp ↓] theorem keepsForm_execPdmSettleEnd (h : s.inForm) : KeepsForm (execPdmSettleEnd s) := by
  unfold execPdmSettleEnd pdmShow State.onPdm State.setSt
  dsimp only
  (repeat' split) <;> simp +contextual (maxDischargeDepth := 99) [h]

@[simp ↓] theorem keepsForm_pdm (h : s.inForm) :
    (∀ i, KeepsForm (execMicAbsent i s)) ∧ (∀ i, KeepsForm (execMicSat i s)) ∧ (∀ i, KeepsForm (execMicOk i s)) ∧
    (∀ g, KeepsForm (execPdmClkFault g s)) ∧ (∀ r v, KeepsForm (execPdmClrFlt r v s)) ∧ KeepsForm (execPdmGoOn s) ∧
    KeepsForm (execPdmSwitch s) := by
  unfold execMicAbsent execMicSat execMicOk execPdmClkFault execPdmClrFlt execPdmGoOn execPdmSwitch pdmDefer pdmProceed micRefresh
    State.onPdm State.log
  simp +contextual (maxDischargeDepth := 99) [h]

/-! ### The Scout -/

@[simp ↓] theorem keepsForm_scout (h : s.inForm) :
    (∀ q, KeepsForm (execModelLoadBegin q s)) ∧ (∀ q, KeepsForm (execModelLoadData q s)) ∧ (∀ q, KeepsForm (execModelLoadEnd q s)) ∧
    (∀ q, KeepsForm (execModelLoadErase q s)) ∧ (∀ k, KeepsForm (execModelEccError k s)) ∧
    (∀ r k v, KeepsForm (execSlotEnable r k v s)) ∧ KeepsForm (execSealTimeout s) ∧ (∀ r v, KeepsForm (execSctStart r v s)) ∧
    (∀ r v, KeepsForm (execSctStop r v s)) ∧ (∀ r v, KeepsForm (execSctClose r v s)) ∧ (∀ r v, KeepsForm (execSctMicWrite r v s)) ∧
    (∀ q, KeepsForm (execRingRead q s)) ∧ KeepsForm (execScoutFrameEnd s) ∧ KeepsForm (execVadOff s) ∧
    (∀ n v, KeepsForm (execBzSample n v s)) ∧ (∀ n, KeepsForm (execKnockRearm n s)) := by
  unfold execModelLoadBegin execModelLoadData execModelLoadEnd execModelLoadErase execModelEccError execSlotEnable execSealTimeout
    execSctStart execSctStop execSctClose execSctMicWrite execRingRead execScoutFrameEnd execVadOff execBzSample execKnockRearm
    ringReadBody modelEraseBody slotEmpty blow bzReport envLevel knockRearm modelUsed nak sealExpire sealClose ringClear scoutSettle
    State.log State.onSlot State.onSct State.setSt
  simp +contextual (maxDischargeDepth := 99) [h]

/-! ### PTP -/

@[simp ↓] theorem keepsForm_ptp (h : s.inForm) :
    (∀ n, KeepsForm (execAnnounceTimeout n s)) ∧ (∀ n, KeepsForm (execQualificationTimeout n s)) ∧
    (∀ n, KeepsForm (execPtpSyncTimeout n s)) ∧ (∀ n k at_, KeepsForm (execPtpTimer n k at_ s)) ∧
    (∀ r n bmc v, KeepsForm (execPtpCfgWrite r n bmc v s)) ∧ (∀ r n v, KeepsForm (execPtpTimeWrite r n v s)) := by
  unfold execAnnounceTimeout execQualificationTimeout execPtpSyncTimeout execPtpTimer execPtpCfgWrite execPtpTimeWrite sendDelayReq
    sendAnnounce sendSync ptpMaster setGm ptpWrite ptpRestart ptpTimeWrite State.dropHold ptpLost sendFrames sendFrame onPtp State.onLink
    State.onNet State.set64
  simp +contextual (maxDischargeDepth := 99) [h]

/-! ### Links -/

@[simp ↓] theorem keepsForm_execPhyPoll (h : s.inForm) n a : KeepsForm (execPhyPoll n a s) := by
  unfold execPhyPoll linkEnter linkNot txFollow reportGroups sendFrames sendFrame State.onLink State.onNet State.setSt
  (repeat' split) <;> simp +contextual (maxDischargeDepth := 99) [h]

@[simp ↓] theorem keepsForm_execMdioDone (h : s.inForm) n a : KeepsForm (execMdioDone n a s) := by
  unfold execMdioDone
  split <;> simp +contextual (maxDischargeDepth := 99) [h]

@[simp ↓] theorem keepsForm_links (h : s.inForm) :
    (∀ n, KeepsForm (execSgmiiLinkDown n s)) ∧ (∀ r n v, KeepsForm (execEthUp r n v s)) ∧ (∀ r n v, KeepsForm (execEthDown r n v s)) ∧
    (∀ r n v, KeepsForm (execMdioGo r n v s)) ∧ (∀ n ip, KeepsForm (execArpAge n ip s)) ∧ (∀ n, KeepsForm (execArpRetry n s)) ∧
    (∀ n g, KeepsForm (execIgmpReport n g s)) := by
  unfold execSgmiiLinkDown execEthUp execEthDown execMdioGo execArpAge execArpRetry execIgmpReport arpCount mdioWrite linkNot txFollow
    reportGroups sendFrames sendFrame State.onLink State.onNet
  simp +contextual (maxDischargeDepth := 99) [h]

/-! ### Zone level adaptation -/

@[simp ↓] theorem keepsForm_zla (h : s.inForm) :
    (∀ r z v, KeepsForm (execZlaEnable r z v s)) ∧ (∀ r z v, KeepsForm (execZlaDisable r z v s)) ∧ (∀ q, KeepsForm (execSinkSet q s)) ∧
    (∀ q, KeepsForm (execSinkQuery q s)) := by
  unfold execZlaEnable execZlaDisable execSinkSet execSinkQuery sinkQueryBody nak
  simp +contextual (maxDischargeDepth := 99) [h]

/-! ### Line supervision -/

@[simp ↓] theorem keepsForm_execSelftestZone (h : s.inForm) m : KeepsForm (execSelftestZone m s) := by
  unfold execSelftestZone
  dsimp only
  (repeat' split) <;> simp +contextual (maxDischargeDepth := 99) [h]

@[simp ↓] theorem keepsForm_lsv (h : s.inForm) :
    (∀ r v, KeepsForm (execLsvEnable r v s)) ∧ (∀ r v, KeepsForm (execLsvDisable r v s)) ∧ (∀ r c v, KeepsForm (execLsvLearn r c v s)) ∧
    (∀ ms, KeepsForm (execLsvWindow ms s)) ∧ (∀ q, KeepsForm (execSelftestStart q s)) ∧ (∀ q, KeepsForm (execSelftestLearn q s)) ∧
    (∀ q, KeepsForm (execSelftestAbort q s)) ∧ (∀ q, KeepsForm (execLsvQuery q s)) := by
  unfold execLsvEnable execLsvDisable execLsvLearn execLsvWindow execSelftestStart execSelftestLearn execSelftestAbort execLsvQuery
    lsvQueryBody lineFault nak
  simp +contextual (maxDischargeDepth := 99) [h]

/-! ### Speaker channels and boosts -/

@[simp ↓] theorem keepsForm_execFastStopDone (h : s.inForm) n : KeepsForm (execFastStopDone n s) := by
  unfold execFastStopDone ampBlock ampDark State.stopRamp State.onAmp State.onAn State.setSt
  dsimp only
  (repeat' split) <;> simp +contextual (maxDischargeDepth := 99) [h]

@[simp ↓] theorem keepsForm_powerStage (h : s.inForm) :
    (∀ r n v, KeepsForm (execAmpStart r n v s)) ∧ (∀ r n v, KeepsForm (execAmpStop r n v s)) ∧
    (∀ r n v, KeepsForm (execAmpMute r n v s)) ∧ (∀ r n v, KeepsForm (execAmpUnmute r n v s)) ∧
    (∀ r n v, KeepsForm (execAmpClr r n v s)) ∧ (∀ r p, KeepsForm (execBoostClr r p s)) ∧ (∀ n, KeepsForm (execAmpStartDone n s)) ∧
    (∀ n, KeepsForm (execAmpStopDone n s)) ∧ (∀ n, KeepsForm (execAmpMuteDone n s)) ∧ (∀ n, KeepsForm (execAmpLimitRun n s)) ∧
    (∀ n hard t, KeepsForm (execAmpTrip n hard t s)) ∧ (∀ n, KeepsForm (execAmpRetry n s)) ∧
    (∀ n dc, KeepsForm (execAmpDcFault n dc s)) ∧ (∀ n, KeepsForm (execLoopsat n s)) ∧ (∀ n, KeepsForm (execSenseOpen n s)) ∧
    (∀ n, KeepsForm (execSenseRecover n s)) ∧ (∀ n pm ipk, KeepsForm (execPowerLimitUpdate n pm ipk s)) ∧
    (∀ t, KeepsForm (execThermalUpdate t s)) ∧ (∀ n t, KeepsForm (execAmpOverTemp n t s)) ∧ (∀ n t, KeepsForm (execAmpOtRestart n t s)) ∧
    (∀ p, KeepsForm (execBoostPrechargeDone p s)) ∧ (∀ p vrail pvin, KeepsForm (execBoostPrechargeTimeout p vrail pvin s)) ∧
    (∀ p, KeepsForm (execBoostHoldExpire p s)) ∧ (∀ p, KeepsForm (execBoostCurrentLimit p s)) ∧ (∀ p, KeepsForm (execBoostOvp p s)) ∧
    (∀ p, KeepsForm (execBoostOvpEnd p s)) ∧ (∀ p, KeepsForm (execRailOvpTrip p s)) ∧
    (∀ p vrail pvin, KeepsForm (execRailLow p vrail pvin s)) ∧ (∀ p pvin, KeepsForm (execPvinOut p pvin s)) ∧
    (∀ p pvin, KeepsForm (execPvinOk p pvin s)) ∧ (∀ pvin, KeepsForm (execPvinCollapse pvin s)) ∧
    (∀ q, KeepsForm (execAmpClear q s)) := by
  unfold execAmpStart execAmpStop execAmpMute execAmpUnmute execAmpClr execBoostClr execAmpStartDone execAmpStopDone execAmpMuteDone
    execAmpLimitRun execAmpTrip execAmpRetry execAmpDcFault execLoopsat execSenseOpen execSenseRecover execPowerLimitUpdate
    execThermalUpdate execAmpOverTemp execAmpOtRestart execBoostPrechargeDone execBoostPrechargeTimeout execBoostHoldExpire
    execBoostCurrentLimit execBoostOvp execBoostOvpEnd execRailOvpTrip execRailLow execPvinOut execPvinOk execPvinCollapse execAmpClear
    overVolt dieReset limiting ampClearBody ampRetry ampTripOther boostClear ampUnblock ampClear ampCutLive ampCut State.resetAsk ampFast
    ampBlock ampDark State.onBst State.stopRamp nak setRetries ampPlay State.onAmp State.onAn State.log State.setSt
  simp +contextual (maxDischargeDepth := 99) [h]

/-! ### TDM ports -/

@[simp ↓] theorem keepsForm_execFrameSyncError (h : s.inForm) n e : KeepsForm (execFrameSyncError n e s) := by
  unfold execFrameSyncError
  dsimp only
  split
  · cases e <;> simp +contextual (maxDischargeDepth := 99) [h]
  · exact keepsForm_next h

@[simp ↓] theorem keepsForm_tdm (h : s.inForm) :
    (∀ g ratio, KeepsForm (execAsrcGroupLock g ratio s)) ∧ (∀ q, KeepsForm (execAsrcQuery q s)) ∧
    (∀ r n v, KeepsForm (execTdmStart r n v s)) ∧ (∀ r n v, KeepsForm (execTdmStop r n v s)) ∧ (∀ n, KeepsForm (execTdmStarted n s)) ∧
    (∀ n, KeepsForm (execTdmClockLoss n s)) ∧ (∀ n, KeepsForm (execTdmRelock n s)) ∧ (∀ n, KeepsForm (execDriveFault n s)) := by
  unfold execAsrcGroupLock execAsrcQuery execTdmStart execTdmStop execTdmStarted execTdmClockLoss execTdmRelock execDriveFault asrcAgain
    asrcQueryBody tdmRun tdmReason State.onGrp State.onTdm nak State.log State.setSt
  simp +contextual (maxDischargeDepth := 99) [h]

/-! ### Clocks -/

@[simp ↓] theorem keepsForm_clocks (h : s.inForm) :
    KeepsForm (execKeeperToReference s) ∧ KeepsForm (execRefFail s) ∧ KeepsForm (execRefRecovery s) ∧ KeepsForm (execRefStartTimeout s) ∧
    (∀ p, KeepsForm (execPllFail p s)) ∧ (∀ up, KeepsForm (execPllRestart up s)) ∧ (∀ errs dev, KeepsForm (execServoUpdate errs dev s)) ∧
    KeepsForm (execHoldoverExpiry s) ∧ (∀ r v, KeepsForm (execClkMediaCfgWrite r v s)) ∧
    (∀ r v, KeepsForm (execRefModeChange r v s)) := by
  unfold execKeeperToReference execRefFail execRefRecovery execRefStartTimeout execPllFail execPllRestart execServoUpdate
    execHoldoverExpiry execClkMediaCfgWrite execRefModeChange refFailed clkLog mediaCfgWrite refCfgWrite State.onClk State.log
  simp +contextual (maxDischargeDepth := 99) [h]

/-! ### Streams -/

@[simp ↓] theorem keepsForm_streams (h : s.inForm) :
    (∀ r tx j v, KeepsForm (execStreamEnable r tx j v s)) ∧ (∀ r tx j v, KeepsForm (execStreamDisable r tx j v s)) ∧
    (∀ j, KeepsForm (execStreamStall j s)) ∧ (∀ j, KeepsForm (execStreamPacketTx j s)) ∧ (∀ q, KeepsForm (execStreamSet q s)) ∧
    (∀ q, KeepsForm (execStreamClear q s)) ∧ (∀ q, KeepsForm (execStreamQuery q s)) := by
  unfold execStreamEnable execStreamDisable execStreamStall execStreamPacketTx execStreamSet execStreamClear execStreamQuery
    streamQueryBody streamClearBody strDisable State.countN strClose strFree State.onTx State.onRx strUsed sendFrame nak State.onNet
    State.inc64 State.set64
  simp +contextual (maxDischargeDepth := 99) [h]

/-! ### Swarm -/

@[simp ↓] theorem keepsForm_swarm (h : s.inForm) :
    (∀ q, KeepsForm (execSwmChallenge q s)) ∧ (∀ q, KeepsForm (execSwmRespond q s)) ∧ (∀ q, KeepsForm (execSwmSet q s)) ∧
    (∀ q, KeepsForm (execSwmStop q s)) ∧ (∀ q, KeepsForm (execSwmRelock q s)) ∧ KeepsForm (execSwarmExpiry s) := by
  unfold execSwmChallenge execSwmRespond execSwmSet execSwmStop execSwmRelock execSwarmExpiry swmSetBody ruleFresh swarmRelock rulesOff
    nak State.set64
  simp +contextual (maxDischargeDepth := 99) [h]

/-! ### TW1 -/

@[simp ↓] theorem keepsForm_execTw1Transfer (h : s.inForm) : KeepsForm (execTw1Transfer s) := by
  unfold execTw1Transfer clearBegin State.onTw1 State.setSt
  split <;> simp +contextual (maxDischargeDepth := 99) [h]

@[simp ↓] theorem keepsForm_execTw1TransferDone (h : s.inForm) o : KeepsForm (execTw1TransferDone o s) := by
  unfold execTw1TransferDone tw1Free State.onTw1 State.setSt
  split <;> simp +contextual (maxDischargeDepth := 99) [h]

@[simp ↓] theorem keepsForm_execArbLost (h : s.inForm) : KeepsForm (execArbLost s) := by
  unfold execArbLost tw1Free State.onTw1 xfEnd State.setSt
  split <;> simp +contextual (maxDischargeDepth := 99) [h]

@[simp ↓] theorem keepsForm_execSclStuck (h : s.inForm) : KeepsForm (execSclStuck s) := by
  unfold execSclStuck tw1Fault tw1Free State.onTw1 xfEnd State.setSt
  split <;> simp +contextual (maxDischargeDepth := 99) [h]

@[simp ↓] theorem keepsForm_tw1 (h : s.inForm) :
    KeepsForm (execTw1ArbRetry s) ∧ (∀ r b, KeepsForm (execTw1Busclr r b s)) ∧ (∀ r b, KeepsForm (execTw1ClrFault r b s)) ∧
    (∀ b, KeepsForm (execTw1SdaLowDetect b s)) ∧ (∀ b, KeepsForm (execBusClearRetry b s)) ∧
    (∀ r k v, KeepsForm (execTw1Go r k v s)) := by
  unfold execTw1ArbRetry execTw1Busclr execTw1ClrFault execTw1SdaLowDetect execBusClearRetry execTw1Go clearRow clearBegin State.onTw1
    State.setSt
  simp +contextual (maxDischargeDepth := 99) [h]

/-! ### The nurse -/

@[simp ↓] theorem keepsForm_execEccScrub (h : s.inForm) x : KeepsForm (execEccScrub x s) := by
  unfold execEccScrub scrubBad State.log State.inc64 State.set64
  split <;> simp +contextual (maxDischargeDepth := 99) [h]

@[simp ↓] theorem keepsForm_nurse (h : s.inForm) :
    (∀ t0 t1 t2 t3, KeepsForm (execSensorPoll t0 t1 t2 t3 s)) ∧ (∀ i mv, KeepsForm (execSupplyAlarm i mv s)) ∧
    (∀ n d, KeepsForm (execSenseGainCal n d s)) ∧ (∀ log ok, KeepsForm (execSectorEraseDone log ok s)) ∧
    (∀ ok, KeepsForm (execBbxMirrorPass ok s)) ∧ (∀ ts, KeepsForm (execTelemetryFrame ts s)) ∧ (∀ q, KeepsForm (execTelemetry q s)) := by
  unfold execSensorPoll execSupplyAlarm execSenseGainCal execSectorEraseDone execBbxMirrorPass execTelemetryFrame execTelemetry tlmLog
    tlmSend tempShow mirrorPass sendUdp State.onMram State.resetAsk State.log logDrain State.onKpr State.inc64 State.set64
  simp +contextual (maxDischargeDepth := 99) [h]

/-! ### Resets -/

@[simp ↓] theorem keepsForm_execResetAfterStop (h : s.inForm) : KeepsForm (execResetAfterStop s) := by
  unfold execResetAfterStop
  split <;> simp +contextual (maxDischargeDepth := 99) [h]

@[simp ↓] theorem keepsForm_resets (h : s.inForm) :
    (∀ twa, KeepsForm (execPowerOn twa s)) ∧ KeepsForm (execPorRelease s) ∧ KeepsForm (execBrownOut s) ∧ KeepsForm (execResetN s) ∧
    (∀ r v, KeepsForm (execDevrst r v s)) ∧ KeepsForm (execWatchdogReset s) ∧ KeepsForm (execImgReboot s) ∧ KeepsForm (execAvbiasLow s) ∧
    KeepsForm (execAvbiasInRange s) ∧ KeepsForm (execDieLinkLoss s) ∧ KeepsForm (execLinkRecovery s) ∧ KeepsForm (execPowerFail s) ∧
    KeepsForm (execPowerFailEnd s) := by
  unfold execPowerOn execPorRelease execBrownOut execResetN execDevrst execWatchdogReset execImgReboot execAvbiasLow execAvbiasInRange
    execDieLinkLoss execLinkRecovery execPowerFail execPowerFailEnd outputsPwrBack pwrCausesOver keeperFail State.onMram retriesDue
    ampRetry ampTripOther coldReset ampCutLive ampCut State.resetAsk ampBlock ampDark State.stopRamp State.onAmp State.onAn State.log
    State.onKpr State.setSt
  simp +contextual (maxDischargeDepth := 99) [h]

/-! ### Power states -/

@[simp ↓] theorem keepsForm_execEntryPrepare (h : s.inForm) : KeepsForm (execEntryPrepare s) := by
  unfold execEntryPrepare State.onEntry
  split <;> simp +contextual (maxDischargeDepth := 99) [h]

@[simp ↓] theorem keepsForm_execDrainTimeout (h : s.inForm) : KeepsForm (execDrainTimeout s) := by
  unfold execDrainTimeout rfsPut frgAbortAll
  split <;> simp +contextual (maxDischargeDepth := 99) [h]

@[simp ↓] theorem keepsForm_execEntryCommit (h : s.inForm) : KeepsForm (execEntryCommit s) := by
  unfold execEntryCommit
  split <;> simp +contextual (maxDischargeDepth := 99) [h]

@[simp ↓] theorem keepsForm_execWakeSequence (h : s.inForm) us : KeepsForm (execWakeSequence us s) := by
  unfold execWakeSequence wakeOff coldReset
  split <;> simp +contextual (maxDischargeDepth := 99) [h]

@[simp ↓] theorem keepsForm_execWakeStepTimeout (h : s.inForm) k : KeepsForm (execWakeStepTimeout k s) := by
  unfold execWakeStepTimeout wakeAbort lockOut wakeFailed State.setDoms State.setDom
  split <;> simp +contextual (maxDischargeDepth := 99) [h]

@[simp ↓] theorem keepsForm_execRefFailInSleep (h : s.inForm) : KeepsForm (execRefFailInSleep s) := by
  unfold execRefFailInSleep wakeFailed State.onClk
  dsimp only
  (repeat' split) <;> simp +contextual (maxDischargeDepth := 99) [h]

@[simp ↓] theorem keepsForm_power (h : s.inForm) :
    KeepsForm (execIdleTimer s) ∧ KeepsForm (execEscalation s) ∧ (∀ r v, KeepsForm (execPwrReqGo r v s)) ∧
    (∀ q, KeepsForm (execPwrRequest q s)) ∧ (∀ q, KeepsForm (execPwrTolerance q s)) ∧ (∀ q, KeepsForm (execPwrQuery q s)) ∧
    (∀ level, KeepsForm (execWakeIn level s)) ∧ (∀ w, KeepsForm (execIdleExit w s)) := by
  unfold execIdleTimer execEscalation execPwrReqGo execPwrRequest execPwrTolerance execPwrQuery execWakeIn execIdleExit pwrReqWrite plain
    nak
  simp +contextual (maxDischargeDepth := 99) [h]

/-! ### Register writes -/

@[simp ↓] theorem keepsForm_execSoftResetDone (h : s.inForm) p : KeepsForm (execSoftResetDone p s) := by
  unfold execSoftResetDone softResetDone softResetEnd softClear pageClear softShow State.setSt
  split <;> simp +contextual (maxDischargeDepth := 99) [h]

@[simp ↓] theorem keepsForm_regWrite (h : s.inForm) :
    (∀ r a v, KeepsForm (execRegisterWrite r a v s)) ∧ (∀ r a v, KeepsForm (execWriteLoHold r a v s)) ∧
    (∀ r a v, KeepsForm (execWriteHiCommit r a v s)) ∧ (∀ r p bits hw, KeepsForm (execEventClear r p bits hw s)) ∧
    (∀ r p bits, KeepsForm (execEvtForce r p bits s)) ∧ (∀ r a v hit, KeepsForm (execCounterClear r a v hit s)) ∧
    (∀ r p clr, KeepsForm (execSnapTake r p clr s)) ∧ (∀ r p, KeepsForm (execSnapRelease r p s)) ∧
    (∀ r p, KeepsForm (execSoftReset r p s)) ∧ (∀ r p, KeepsForm (execPageLock r p s)) ∧
    (∀ r p en, KeepsForm (execBlockEnable r p en s)) := by
  unfold execRegisterWrite execWriteLoHold execWriteHiCommit execEventClear execEvtForce execCounterClear execSnapTake execSnapRelease
    execSoftReset execPageLock execBlockEnable pgCtrlSet State.srstDue
  simp +contextual (maxDischargeDepth := 99) [h]

/-! ### Boot -/

@[simp ↓] theorem inForm_bootPick_ite {c : Prop} [Decidable c] {x y : BootPick} (h : x.st.inForm) (h' : y.st.inForm) :
    (if c then x else y).st.inForm := by
  split <;> assumption

/-- Trying the slots in their order keeps the form. -/
@[simp ↓] theorem inForm_bootPick (h : s.inForm) (l : List (ℕ × BootKind)) (f : List (ℕ × Byte)) : (bootPick l s f).st.inForm := by
  induction l generalizing s f with
  | nil => exact h
  | cons e l ih =>
    obtain ⟨k, b⟩ := e
    have hs : (bootLog s k .attempt 0).inForm := by simp +contextual (maxDischargeDepth := 99) [h]
    cases b <;> unfold bootPick <;> simp +contextual (maxDischargeDepth := 99) [h, ↓ih]

@[simp ↓] theorem keepsForm_execBoot (h : s.inForm) (p : FlashProbe) : KeepsForm (execBoot p s) := by
  have drawn {u : State} (hu : u.inForm) (n : ℕ) : ({ u with free := n } : State).inForm := hu
  have tidy {u : State} (hu : u.inForm) : (aonFlush (if swarmOpen u then swarmEnd u 2 else u)).inForm :=
    inForm_aonFlush (inForm_ite (inForm_swarmEnd hu 2) hu)
  have pick {u : State} (hu : u.inForm) : (if flsReady u then bootPick (bootList u) (imgShow u) [] else ⟨u, [], none⟩ : BootPick).st.inForm :=
    inForm_bootPick_ite (inForm_bootPick (inForm_imgShow hu) _ _) hu
  unfold execBoot
  split
  · exact keepsForm_next h
  · have hu := drawn (inForm_onUdp (inForm_onSys h fun y => { y with opening := 0 }) fun u => { u with nonce := Config.random64 s.free })
    have hp := pick (tidy (inForm_bbxScan (inForm_flashProbe (hu (s.free + 1)) p)))
    refine keepsForm_next (inForm_offWakeEnd ?_)
    split
    · exact inForm_bootSlot (inForm_fallRecords hp _ _) _ _
    · exact inForm_bootRecovery (inForm_fallRecords hp _ _)

/-! ### Zone level adaptation in a period -/

@[simp ↓] theorem keepsForm_execZlaDecide (h : s.inForm) z : KeepsForm (execZlaDecide z s) := by
  unfold execZlaDecide
  simp +contextual (maxDischargeDepth := 99) [h]

/-! ### Fabric periods -/

@[simp ↓] theorem keepsForm_execFabricPeriod (h : s.inForm) x : KeepsForm (execFabricPeriod x s) := by
  unfold execFabricPeriod outsEnd State.onComb
  refine keepsForm_next ?_
  split
  · exact h
  · cases s.sys.mode <;> simp +contextual (maxDischargeDepth := 99) [h]

@[simp ↓] theorem keepsForm_execFabricStepResume (h : s.inForm) e : KeepsForm (execFabricStepResume e s) := by
  unfold execFabricStepResume rxRecentre State.onClk State.onNet State.set64
  simp +contextual (maxDischargeDepth := 99) [h]

/-! ### Frames received -/

@[simp ↓] theorem keepsForm_execSwarmRelease (h : s.inForm) x1 : KeepsForm (execSwarmRelease x1 s) := by
  unfold execSwarmRelease
  split <;> simp +contextual (maxDischargeDepth := 99) [h]

@[simp ↓] theorem keepsForm_frames (h : s.inForm) :
    (∀ n f, KeepsForm (execRtpReceive n f s)) ∧ (∀ n at_ f, KeepsForm (execPtpSync n at_ f s)) ∧
    (∀ n f, KeepsForm (execAnnounceFrame n f s)) ∧ (∀ n at_ f, KeepsForm (execPtpDelayMsg n at_ f s)) ∧
    (∀ n f, KeepsForm (execEthFrameDiscard n f s)) ∧ (∀ n f, KeepsForm (execArpFrame n f s)) ∧ (∀ n f, KeepsForm (execEchoFrame n f s)) ∧
    (∀ n f, KeepsForm (execIgmpFrame n f s)) ∧ (∀ n f, KeepsForm (execUdpFrame n f s)) := by
  unfold execRtpReceive execPtpSync execAnnounceFrame execPtpDelayMsg execEthFrameDiscard execArpFrame execEchoFrame execIgmpFrame
    execUdpFrame rxInput
  simp +contextual (maxDischargeDepth := 99) [h]

/-! ### Register reads -/

@[simp ↓] theorem keepsForm_regRead (h : s.inForm) :
    (∀ r a, KeepsForm (execReadLoShadow r a s)) ∧ (∀ r a, KeepsForm (execReadHiShadow r a s)) ∧
    (∀ r n, KeepsForm (execMadcFifoRead r n s)) := by
  unfold execReadLoShadow execReadHiShadow execMadcFifoRead hostRead
  simp +contextual (maxDischargeDepth := 99) [h]

/-! ### SPI -/

@[simp ↓] theorem inForm_frameEnd_ite {c : Prop} [Decidable c] {x y : FrameEnd} (h : x.st.inForm) (h' : y.st.inForm) :
    (if c then x else y).st.inForm := by
  split <;> assumption

@[simp ↓] theorem inForm_spiShort (h : s.inForm) (c : Code) : (spiShort c s).st.inForm := by
  unfold spiShort
  simp +contextual (maxDischargeDepth := 99) [h]

@[simp ↓] theorem inForm_spiReject (h : s.inForm) (c : Code) : (spiReject c s).st.inForm := by
  unfold spiReject
  simp +contextual (maxDischargeDepth := 99) [h]

@[simp ↓] theorem inForm_spiRead (h : s.inForm) (timeout : Bool) (dsel : Byte) (args : List Byte) :
    (spiRead timeout dsel args s).st.inForm := by
  unfold spiRead
  simp +contextual (maxDischargeDepth := 99) [h]

@[simp ↓] theorem inForm_spiWriteFrame (h : s.inForm) (dsel : Byte) (args : List Byte) : (spiWriteFrame dsel args s).st.inForm := by
  unfold spiWriteFrame
  simp +contextual (maxDischargeDepth := 99) [h]

@[simp ↓] theorem inForm_spiRequest (h : s.inForm) (f : List Byte) : (spiRequest f s).st.inForm := by
  unfold spiRequest
  simp +contextual (maxDischargeDepth := 99) [h]

@[simp ↓] theorem keepsForm_execSpiRead (h : s.inForm) (dsel args) : KeepsForm (execSpiRead dsel args s) := by
  unfold execSpiRead
  simp +contextual (maxDischargeDepth := 99) [h]

@[simp ↓] theorem keepsForm_spi (h : s.inForm) :
    (∀ dsel args, KeepsForm (execSpiReadTimeout dsel args s)) ∧ (∀ dsel args, KeepsForm (execSpiWrite dsel args s)) ∧
    (∀ dsel frame, KeepsForm (execSpiPlostoReq dsel frame s)) ∧ (∀ dsel n, KeepsForm (execSpiPlostoRsp dsel n s)) ∧
    (∀ dsel, KeepsForm (execSpiStatus dsel s)) ∧ (∀ dsel op, KeepsForm (execSpiUnknownOpcode dsel op s)) ∧
    (∀ dsel, KeepsForm (execSpiWakeMatch dsel s)) := by
  unfold execSpiReadTimeout execSpiWrite execSpiPlostoReq execSpiPlostoRsp execSpiStatus execSpiUnknownOpcode execSpiWakeMatch spiSilent
  simp +contextual (maxDischargeDepth := 99) [h]

/-! ### TW0 -/

@[simp ↓] theorem keepsForm_execTwReadBlock (h : s.inForm) args acked : KeepsForm (execTwReadBlock args acked s) := by
  unfold execTwReadBlock
  refine keepsForm_next ?_
  split
  · exact h
  · cases args <;> simp +contextual (maxDischargeDepth := 99) [h]

@[simp ↓] theorem keepsForm_execTwWriteBlock (h : s.inForm) args e : KeepsForm (execTwWriteBlock args e s) := by
  unfold execTwWriteBlock
  split <;> simp +contextual (maxDischargeDepth := 99) [h]

@[simp ↓] theorem keepsForm_tw0 (h : s.inForm) :
    (∀ args e, KeepsForm (execTwSetAddr args e s)) ∧ (∀ acked, KeepsForm (execTwReadWord acked s)) ∧
    (∀ args e, KeepsForm (execTwWriteWord args e s)) ∧ (∀ frame e read, KeepsForm (execTwPlosto frame e read s)) ∧
    KeepsForm (execTwStatus s) ∧ (∀ words, KeepsForm (execTwFetchTimeout words s)) ∧ KeepsForm (execSclTmo s) ∧
    (∀ held, KeepsForm (execTwProto held s)) := by
  unfold execTwSetAddr execTwReadWord execTwWriteWord execTwPlosto execTwStatus execTwFetchTimeout execSclTmo execTwProto twSend twTurn
    twEnd twOver
  simp +contextual (maxDischargeDepth := 99) [h]

/-! ### Plosto commands -/

@[simp ↓] theorem keepsForm_execRead (h : s.inForm) (q : PlReq) : KeepsForm (execRead q s) := by
  refine keepsForm_next (inForm_runPlosto h (fun u hu => ?_) _ _)
  dsimp only
  split
  · simp +contextual (maxDischargeDepth := 99) [hu]
  · split <;> simp +contextual (maxDischargeDepth := 99) [hu]

@[simp ↓] theorem keepsForm_execWrite (h : s.inForm) (q : PlReq) : KeepsForm (execWrite q s) := by
  refine keepsForm_next (inForm_runPlosto h (fun u hu => ?_) _ _)
  dsimp only
  split
  · simp +contextual (maxDischargeDepth := 99) [hu]
  · split
    next hw =>
      have ht := inForm_plWriteWords _ _ (by simp +contextual (maxDischargeDepth := 99) [hu]) hw
      simp +contextual (maxDischargeDepth := 99) [ht]
    · simp +contextual (maxDischargeDepth := 99) [hu]

@[simp ↓] theorem keepsForm_plostoBase (h : s.inForm) :
    (∀ cmd q, KeepsForm (execPlostoUnknown cmd q s)) ∧ (∀ q, KeepsForm (execPing q s)) ∧ (∀ q, KeepsForm (execModify q s)) ∧
    (∀ q, KeepsForm (execEvents q s)) ∧ (∀ q, KeepsForm (execKeySet q s)) ∧ (∀ q, KeepsForm (execNonceRenew q s)) := by
  unfold execPlostoUnknown execPing execModify execEvents execKeySet execNonceRenew setKey nak
  simp +contextual (maxDischargeDepth := 99) [h]

/-! ### Every step -/

/-- Every command keeps the form, each by the lemma of its unit. -/
theorem keepsForm_exec (h : s.inForm) (i : Instr) : KeepsForm (exec i s) := by
  cases i <;>
    (unfold exec
     simp [h])

/-- Settles O3: a step runs one command on a state that has the form but for what waits, and each command keeps it. -/
theorem stepsKeepTheForm : Obligations.StepsKeepTheForm := by
  unfold Obligations.StepsKeepTheForm
  intro s t h ht
  unfold step at ht
  split at ht
  · exact keepsForm_next h t ht
  next c cs _ => exact keepsForm_exec (s := { s with pending := cs }) h c t ht

end Sys2Proof.Machine
end
